-- ==== Sys2Proof/Word.lean ====
section
/-!
DEFINITION. The word types of the CHM-2500 and their plainest arithmetic (R2: every register is 32 bits wide).
-/
namespace Sys2Proof

/-- A 32-bit register or structure word (R2). -/
abbrev Word := BitVec 32
/-- A 16-bit field. -/
abbrev Half := BitVec 16
/-- A byte. -/
abbrev Byte := BitVec 8

/-- A number as a word, keeping its low 32 bits. -/
abbrev Word.ofNat (n : Nat) : Word := BitVec.ofNat 32 n

/-- `n`, or the largest value of `bits` bits when `n` is above it. -/
def satNat (bits n : Nat) : Nat := min n (2 ^ bits - 1)

/-- A number as a word that saturates at 0xFFFF_FFFF. -/
def satWord (n : Nat) : Word := BitVec.ofNat 32 (satNat 32 n)

end Sys2Proof
end

