-- ==== Sys2Proof/Syntax.lean ====
section
/-!
DEFINITION. The commands of the CHM-2500, and the structured operands they carry: frames, messages, images and records in the
fields that the spec gives them (log entry 1).
-/
namespace Sys2Proof

/-- The tag of an IEEE 802.1Q header (R52). -/
structure VlanTag where
  vid : BitVec 12
  pcp : BitVec 3
  deriving DecidableEq, Repr

/-- The last six bytes before the FCS, read as a PRP redundancy control trailer (R48). -/
structure PrpTail where
  seq : Half
  lan : BitVec 4
  size : Nat
  suffix : Half
  deriving DecidableEq, Repr

/-- What R52's UDP destination port match looks at in an IP frame. -/
structure UdpInfo where
  ipv6 : Bool
  extHeaders : Bool
  nonFirstFragment : Bool
  dport : Half
  deriving DecidableEq, Repr

/-- A frame as it ends on a port's wire (R45, R46).  `length` counts from the destination address to the last byte of the FCS; an address has its first byte on the wire in bits [7:0]. -/
structure RxFrame where
  codingOk : Bool
  length : Nat
  fcsOk : Bool
  dmac : BitVec 48
  smac : BitVec 48
  vlan : Option VlanTag
  secondTag : Bool
  etherType : Half
  udp : Option UdpInfo
  tail : PrpTail
  lsduLength : Nat
  data : List Byte         -- bytes from the destination address to the last before the FCS
  hostBufs : List Nat      -- addresses that the descriptors at the head of a host ring hold, where a ring takes it
  deriving DecidableEq, Repr

/-- A transmit descriptor of R58 as the device reads it from the ring. -/
structure TxDesc where
  addr : Nat
  len : Nat
  tsId : Half
  tsReq : Bool
  cls : BitVec 2
  deriving DecidableEq, Repr

/-- The match key of a stream table entry (Table 03-2). -/
inductive MatchKey where
  | c37 (idcode dport : Half) (ip : BitVec 96)
  | sv (appid svIdLen : Half) (svIdCrc : Word) (dmac : BitVec 48)
  | goose (appid refLen : Half) (refCrc : Word) (dmac : BitVec 48)
  | internal (output : Half)
  deriving DecidableEq, Repr

/-- TYPE of a stream table entry (Table 03-1, byte 0). -/
inductive StreamType where
  | unused | c37 | sv92 | sv61869 | rsv | goose | rgoose | internal
  deriving DecidableEq, Repr

/-- STATE of a stream table entry (Table 03-1, byte 1). -/
inductive StreamState where
  | disabled | valid | invalid | rejected
  deriving DecidableEq, Repr

/-- The element types a GOOSE subscription accepts (R84). -/
inductive GooseType where
  | boolean | bitString | integer | unsigned | float32
  deriving DecidableEq, Repr

/-- A stream record of the configuration image: bytes 0 to 95 of Table 03-1 (R91), and for a GOOSE subscription its element types (R84). -/
structure StreamRec where
  typ : StreamType
  state : StreamState
  rg : Nat
  ingestClass : Nat
  authMark : Bool
  cfg3 : Bool
  chanBase : Nat
  chanCount : Nat
  units : Nat
  mapBase : Nat
  key : MatchKey
  rate : Nat            -- TIME_BASE, or samples per second
  frameSize : Nat       -- FRAMESIZE, or confRev's low 16 bits
  fnomCode : Nat        -- 1 = 50 Hz, 2 = 60 Hz
  cfgCnt : Nat
  reportRate : Nat      -- the stream's reporting rate (R24)
  curSlot : Half
  nextSlot : Half
  curKeyId : Word
  nextKeyId : Word
  cmdPort : Nat         -- port of the command channel that the image gives (R76)
  elems : List GooseType
  tcp : Bool := false   -- the image configures TCP data transport (R72)
  deriving DecidableEq, Repr

/-- KIND of a channel map entry (Table 03-3, byte 26). -/
inductive MapKind where
  | phasor | freq | analog | digital | svValue | gooseElem
  deriving DecidableEq, Repr

/-- A channel map entry (Table 03-3). -/
structure MapEntry where
  block : Nat
  scale : Word
  offset : Word
  rotCos : Word
  rotSin : Word
  min : Word
  max : Word
  pos : Nat
  kind : MapKind
  polar : Bool
  float : Bool
  deriving DecidableEq, Repr

/-- One PMU block of a C37.118.2 data frame (R72). Integer fields are the 16 raw bits, float fields the 32 raw bits, in a Word. -/
structure PmuBlock where
  stat : Half
  phasors : List (Word × Word)
  freq : Word
  dfreq : Word
  analogs : List Word
  digitals : List Half
  deriving DecidableEq, Repr

/-- A C37.118.2 data frame taken from a decoder pool (R72, R73): its bytes from SYNC to CHK, and its PMU blocks in the fields that the stream's configuration gives them (log entry 1). -/
structure C37Frame where
  port : Nat
  stamp : Nat
  tcp : Bool
  dport : Half
  ip : BitVec 96
  bytes : List Byte
  blocks : List PmuBlock
  deriving DecidableEq, Repr

/-- What a CFG-2 or CFG-3 frame tells supervisor firmware (R76). -/
structure CfgFrame where
  blockChannels : List Nat   -- channels each PMU block needs
  formatsOk : Bool
  timeBase : Nat
  fnomCode : Nat
  frameSize : Nat
  cfgCnt : Nat
  map : List MapEntry
  deriving DecidableEq, Repr

/-- One ASDU of a sampled-values frame (R77). -/
structure Asdu where
  smpCnt : Nat
  confRev : Word
  smpSynch : Nat
  data : List (Word × Word)   -- INT32 value and its quality
  deriving DecidableEq, Repr

/-- A sampled-values frame (R77). -/
structure SvFrame where
  port : Nat
  stamp : Nat
  appid : Half
  svIdLen : Half
  svIdCrc : Word
  dmac : BitVec 48
  simulation : Bool
  asdus : List Asdu
  deriving DecidableEq, Repr

/-- A GOOSE message (R84, R85). -/
structure GooseFrame where
  port : Nat
  stamp : Nat
  appid : Half
  refLen : Half
  refCrc : Word
  dmac : BitVec 48
  confRev : Word
  stNum : Word
  sqNum : Word
  tal : Word
  test : Bool
  simulation : Bool
  ndsCom : Bool
  timeBad : Bool         -- t reports ClockNotSynchronized or ClockFailure
  elems : List (GooseType × Word)
  deriving DecidableEq, Repr

/-- The payload of an IEC TR 61850-90-5 session PDU (R80). -/
inductive SessionPayload where
  | sv (f : SvFrame)
  | goose (f : GooseFrame)
  | tunnelled (port stamp : Nat)
  deriving DecidableEq, Repr

/-- An IEC TR 61850-90-5 session PDU (R80, R81). -/
structure SessionPdu where
  payload : SessionPayload
  encAlg : Nat
  sigAlg : Nat
  keyId : Word
  spdu : Word
  signed : List Byte    -- the bytes the signature covers
  tag : Nat             -- the signature
  deriving DecidableEq, Repr

/-- A group record of the ALN image section (Table 05-11). -/
structure GroupRec where
  rg : Nat
  rate : Nat
  sections : Nat
  histEn : Bool
  retain : Bool
  revOsc : Bool
  revCap : Bool
  revHost : Bool
  derive : Nat
  horizon : Nat
  depth : Nat
  ringBase : Nat
  deriving DecidableEq, Repr

/-- A section record of the ALN image section (Table 05-12). -/
structure SectionRec where
  rg : Nat
  sec : Nat
  lc : Nat
  adaptive : Bool
  hmax : Nat
  margin : Nat
  hyst : Nat
  deriving DecidableEq, Repr

/-- A channel record of the ALN image section (Table 05-13). -/
structure ChanRec where
  chan : Nat
  rg : Nat
  sec : Nat
  derived : Bool
  holdEn : Bool
  holdMax : Nat
  deriving DecidableEq, Repr

/-- One PMU block of an output stream record (R86): its channels, and its formats with the units of integer values. -/
structure OutBlockRec where
  idcode : Half
  phasors : List Nat
  freq : Option Nat
  analogs : List Nat
  digitals : List Nat
  polar : Bool := false
  phFloat : Bool := true
  freqFloat : Bool := true
  anFloat : Bool := true
  phUnits : List Word := []
  anUnits : List Word := []
  fnom60 : Bool := false
  deriving DecidableEq, Repr

/-- Where an output frame or a publication goes: one port, or a PRP pair (R86, R293). -/
inductive TxDest where
  | port (n : Nat)
  | pair (p : Nat)
  deriving DecidableEq, Repr

/-- UDP addressing of a stream or publication: IPv4 (in the low 32 bits) or IPv6, unicast or multicast by the address, first octet in bits [7:0]. -/
structure UdpDest where
  ipv6 : Bool := false
  addr : BitVec 128 := 0
  dport : Half := 102
  deriving DecidableEq, Repr

/-- An output stream record (R86). -/
structure OutRec where
  id : Nat
  rg : Nat
  timeBase : Nat
  dest : TxDest
  blocks : List OutBlockRec
  idcode : Half := 1
  udp : UdpDest := {}
  vlan : Option VlanTag := none
  command : Option TxDest := none   -- where the command channel answers (R89); none for the data destination
  deriving DecidableEq, Repr

/-- An R-SV publication record (R90). -/
structure RsvRec where
  id : Nat
  rg : Nat
  slot : Nat
  dest : TxDest
  lc : Nat
  channels : List Nat
  svId : List Byte := []
  appid : Half := 0x4000
  confRev : Word := 1
  dmac : BitVec 48 := 0
  udp : UdpDest := {}
  vlan : Option VlanTag := none
  deriving DecidableEq, Repr

/-- The grandmaster dataset of an Announce message, as the comparison of IEEE 1588-2019 reads it (R102). -/
structure PtpDataset where
  priority1 : Nat
  clockClass : Nat
  accuracy : Nat
  variance : Nat
  priority2 : Nat
  gmId : BitVec 64
  steps : Nat
  senderId : BitVec 64
  utcOffset : Int
  utcValid : Bool
  leap61 : Bool
  leap59 : Bool
  timeTraceable : Bool
  inaccuracy : Option Word     -- totalTimeInaccuracy of the IEEE_C37_238 TLV
  deriving DecidableEq, Repr

/-- A PTP message (R102, R103).  Times are ns of Device Time or of the master's time; `mine` says that a response answers this device's request. -/
inductive PtpBody where
  | announce (ds : PtpDataset)
  | sync (sender : BitVec 64) (seq : Half) (twoStep : Bool) (origin : Nat) (corr : Int) (rx : Nat)
  | followUp (sender : BitVec 64) (seq : Half) (precise : Nat) (corr : Int)
  | pdelayReq (seq : Half) (rx : Nat)
  | pdelayResp (mine : Bool) (seq : Half) (twoStep : Bool) (t2 : Nat) (corr : Int) (rx : Nat)
  | pdelayRespFollowUp (mine : Bool) (seq : Half) (t3 : Nat) (corr : Int)
  | delayResp (mine : Bool) (seq : Half) (t4 : Nat) (corr : Int)
  | management
  deriving DecidableEq, Repr

/-- A PTP message as it reaches a port: transport 0 Ethernet, 1 UDP over IPv4, 2 UDP over IPv6. -/
structure PtpMsg where
  port : Nat
  domain : Nat
  version : Nat
  transport : Nat
  dport : Half
  dmac : BitVec 48
  vlan : Option VlanTag
  body : PtpBody
  deriving DecidableEq, Repr

/-- An IRIG-B frame (R104): its BCD digits in the order units and tens of seconds, minutes and hours, units, tens and hundreds of the day of the year, units and tens of the year. -/
structure IrigFrame where
  edge : Nat             -- Device Time of the leading edge of the reference marker
  falling : Bool         -- that edge falls
  markersOk : Bool
  parityOk : Bool
  digits : List Nat
  offset : Int           -- time offset of the extension, in half hours, signed
  leapPending : Bool
  leapDelete : Bool
  tq : Nat
  deriving DecidableEq, Repr

/-- A Strainer output item (Table 06-12). -/
structure ItemRec where
  chan : Nat
  kind : Nat
  div : Nat
  deriving DecidableEq, Repr

/-- A Strainer output record (Table 06-12). -/
structure WavOutRec where
  id : Nat
  rg : Nat
  items : List ItemRec
  deriving DecidableEq, Repr

/-- A coefficient set (R168): M and taps h[0] to h[16M] as f32. -/
structure CoefSet where
  m : Nat
  taps : List Word
  deriving DecidableEq, Repr

/-- Channels and tables of a meter point record (Table 07-6). Channels in the order V_A, I_A, V_B, I_B, V_C, I_C; none when unused. -/
structure MeterRec where
  mp : Nat
  chans : List (Option Nat)
  tables : List (Option Nat)
  deriving DecidableEq, Repr

/-- The 64 modulator bits of each path of a local input that form one CIC output, oldest in bit 0, and whether a modulator overloaded (R148, R164); inputs 0 to 7 have the low path only. -/
structure AfeSample where
  input : Nat
  low : BitVec 64
  high : BitVec 64
  lowOver : Bool
  highOver : Bool
  deriving DecidableEq, Repr

/-- A signal record of an ambient-analysis group (Table 08-5). -/
structure SignalRec where
  group : Nat
  pos : Nat
  chan : Nat
  ref : Nat
  sel : Nat
  scale : Word
  deriving DecidableEq, Repr

/-- A band monitor record (Table 08-5). -/
structure MonitorRec where
  id : Nat
  chan : Nat
  ref : Nat
  sel : Nat
  bands : List Bool
  tSus : Nat
  outBase : Nat
  tAvg : Nat             -- ms
  zetaF : Nat            -- 0.1 %
  edges : List (Word × Word × Word)   -- f_lo, f_hi, A_th of bands 0 to 5
  deriving DecidableEq, Repr

/-- A source-location branch record (Table 08-5). -/
structure LocBranch where
  vChan : Nat
  iChan : Nat
  ks : Word
  reverse : Bool
  deriving DecidableEq, Repr

/-- A node record of the network model (Table 09-9). -/
structure NodeRec where
  vBase : Word
  vOut : Option Nat
  islOut : Option Nat
  deriving DecidableEq, Repr

/-- A branch record of the network model (Table 09-9). -/
structure BranchRec where
  nodeF : Nat
  nodeT : Nat
  switching : Bool
  interRule : Nat
  dflt : Bool
  chan : Option Nat
  r : Word
  x : Word
  b : Word
  tap : Word
  phi : Word
  deriving DecidableEq, Repr

/-- A measurement record (Table 09-9). -/
structure MeasRec where
  chan : Nat
  kind : Nat
  at_ : Nat
  k : Word
  sigma : Word
  deriving DecidableEq, Repr

/-- A coherency record (Table 09-9). -/
structure CohRec where
  freq : Nat
  phasor : Nat
  out : Nat
  node : Nat
  deriving DecidableEq, Repr

/-- Operators of the catalogue (Table 10-1) with their parameters. -/
inductive Operator where
  | slotRead (chans : List Nat)
  | slotWrite (chans : List Nat)
  | arith (op : Nat) (k : Word)      -- 0 ADD, 1 SUB, 2 MUL, 3 DIV, 4 CMUL, 5 CONJ, 6 ABS, 7 ARG
  | angdiff
  | fdiff
  | rocofW (n : Nat)
  | thresh (level hyst : Word) (above : Bool) (pickup : Nat)
  | trend (n : Nat)
  | guard (nonzero : Bool)
  | select
  | delay (ticks : Nat)
  | almRaise (alarm : Nat)
  | capTrig (trigger : Nat)
  | mtrAcc (mp : Nat)
  | oscBand (monitor : Nat)
  | oscDef
  | oscPub (group : Nat)
  | oscRefresh (group : Nat)
  | seSolve
  | isl
  deriving DecidableEq, Repr

/-- A graph's trigger (R241). -/
inductive Trigger where
  | section_ (rg sec : Nat)
  | derived (chan : Nat)
  | event (stream : Nat)
  | timer (ticks : Nat)
  deriving DecidableEq, Repr

/-- A node record (Table 10-7). -/
structure DfsNode where
  op : Operator
  required : List Bool     -- required input mask, one per input port
  outs : Nat
  stateBytes : Nat
  deriving DecidableEq, Repr

/-- An arc record (Table 10-7). -/
structure DfsArc where
  src : Nat
  srcPort : Nat
  dst : Nat
  dstPort : Nat
  optional_ : Bool
  deriving DecidableEq, Repr

/-- A graph record with its nodes and arcs (Table 10-7). -/
structure GraphRec where
  id : Nat
  lc : Nat
  supersede : Bool
  skip : Bool             -- SHED_MODE: false HALVE, true SKIP
  en : Bool
  trigger : Trigger
  nodes : List DfsNode
  arcs : List DfsArc
  pinCluster : Option Nat
  pinEngine : Option Nat
  deriving DecidableEq, Repr

/-- The block library (Table 11-2). -/
inductive BlockType where
  | and | or | xor | not | eq | ne | lt | le | gt | ge
  | ton | tof | tp | rs | sr | rTrig | fTrig | ctu | ctd | ctud
  | sel | mux | max | min | limit | rateLim | pid
  | angSup | rocofSup | islMemb | dampSup | runback
  deriving DecidableEq, Repr

/-- Where a block call takes an input from (R265, Programs). -/
inductive CallSrc where
  | const (w : Word)
  | input (entry : Nat)
  | call (inst port : Nat)
  deriving DecidableEq, Repr

/-- A block call: its instance, its bound inputs, and the output entries its output ports are bound to. -/
structure BlockCall where
  inst : Nat
  ins : List CallSrc
  outs : List (Nat × Nat × Option Half)   -- (output port, output entry, quality word that the program sets; none for that of the result)
  deriving DecidableEq, Repr

/-- An instance record (Table 11-12). -/
structure InstRec where
  hash : BitVec 64
  path : List Byte
  task : Nat
  typ : BlockType
  stateBytes : Nat
  params : List Word
  deriving DecidableEq, Repr

/-- An input entry record (Table 11-12). -/
inductive InputKind where
  | channel (chan : Nat)
  | detector (alarm : Nat)
  | goose (stream element : Nat)
  | peer (writer output maxAge : Nat)
  | outStatus (entry : Nat)
  | dest (d : Nat)
  | system
  deriving DecidableEq, Repr

structure InputRec where
  task : Nat
  kind : InputKind
  deriving DecidableEq, Repr

/-- An output entry record (Table 11-12). -/
inductive OutputKind where
  | pub (pub element dest : Nat)
  | pin (pin : Nat)
  | peer (output dest : Nat)
  | channel (chan : Nat)
  deriving DecidableEq, Repr

structure OutputRec where
  task : Nat
  kind : OutputKind
  deriving DecidableEq, Repr

/-- A publication record, of the cyclic engine or of ALM (R272, R293). -/
structure PubRec where
  id : Nat
  appid : Half
  gocbRef : List Byte
  datSet : List Byte
  goId : List Byte
  confRev : Word
  elements : Nat
  dmac : BitVec 48
  vlan : Option VlanTag
  dest : TxDest
  lc : Nat
  rgoose : Bool
  slot : Nat
  alg : Nat
  tMin : Nat
  tMax : Nat
  types : List GooseType := []   -- types of the elements; BOOLEAN where none is given (R272, R293)
  udp : UdpDest := {}
  deriving DecidableEq, Repr

/-- A destination record (Table 11-12). -/
inductive DestRec where
  | station (stream : Option Nat)
  | peer (device : Nat)
  deriving DecidableEq, Repr

/-- A task record with its call list (Table 11-12). -/
structure TaskRec where
  period : Nat
  budget : Nat
  wcet : Nat
  calls : List BlockCall
  deriving DecidableEq, Repr

/-- A cyclic control program: the CYC section of the image, or the image PROG_LOAD loads (R284). -/
structure CycProgram where
  id : Word
  taskEn : List Bool
  pinMask : List Bool
  tasks : List TaskRec
  insts : List InstRec
  inputs : List InputRec
  outputs : List OutputRec
  pubs : List PubRec
  dests : List DestRec
  pemVersion : Nat
  deriving DecidableEq, Repr

/-- An alarm record (Table 12-5). -/
structure AlarmRec where
  id : Nat
  sev : Nat
  latch : Bool
  ackReq : Bool
  record : Bool
  queue : Bool
  pins : BitVec 8
  pub : Option (Nat × Nat)     -- publication and element
  deriving DecidableEq, Repr

/-- An ALM_RAISE handoff (R286): condition, the detector's input in slot form, order key, and the closure that led to it. -/
structure Handoff where
  alarm : Nat
  active : Bool
  a : Word
  b : Word
  q : Half
  key : Nat
  closure : Option Nat
  deriving DecidableEq, Repr

/-- A recorder's fixed settings (Table 13-6): its channel list, store signing slot and divisor. -/
structure RecorderRec where
  id : Nat
  chans : List Nat
  signSlot : Nat
  div : Nat
  deriving DecidableEq, Repr

/-- A queue record of the HIF image section (Table 14-10). -/
structure QueueRec where
  q : Nat
  log2depth : Nat
  producer : Nat
  consumer : Nat
  vector : Nat
  irqEn : Bool
  thresh : Nat
  itr : Nat
  deriving DecidableEq, Repr

/-- How the host interface is reset (R328, R332). -/
inductive HostResetKind where
  | flr | hotReset | perst
  deriving DecidableEq, Repr

/-- A channel slot (Table 00-4). -/
structure Slot where
  a : Word              -- 32 | R10 | - | value A
  b : Word              -- 32 | R10 | - | value B
  q : Half              -- 16 | R12 | - | quality word
  off : Half            -- 16 | R11 | - | arrival offset
  src : Half            -- 16 | R10 | - | source stream
  tq : Byte             -- 8 | R10 | - | source time-quality code
  deriving DecidableEq, Repr

/-- Load of an unpinned graph (R370). -/
structure GraphLoad where
  owner : Nat
  graph : Nat
  lc : Nat
  time : Nat
  deriving DecidableEq, Repr

/-- What a Hedgerow or T0 packet carries (R356, R360, R363, R364, R370, R371). -/
inductive HgwBody where
  | linkState (device seq : Nat) (links : List (Nat × Nat))
  | closure (owner rg sec tag : Nat) (flags : Byte) (seq : Word) (onDl : Bool)
  | slots (owner rg tag : Nat) (vals : List (Nat × Slot))
  | slotWrite (rg tag : Nat) (chan : Nat) (a b : Word) (q : Half)
  | peer (writer output : Nat) (a b : Word) (q : Half) (startGts : Nat) (cycle : Word) (gts : Nat)
  | event (gts : Nat) (source : Word) (code : Half) (sev : Nat) (validity : Byte) (payload : List Byte)
  | utilisation (device busy engines : Nat) (loads : List GraphLoad)
  | placement (ver : Nat) (moves : List (Nat × Nat × Nat)) (boundary : Nat)
  | placementAck (device ver : Nat)
  | withdraw (ver : Nat)
  | stateMove (owner graph start hmax hg : Nat) (rec_ : GraphRec) (blocks : List (List Word))
  deriving DecidableEq, Repr

/-- Traffic classes of the links, in strict priority (R356). -/
inductive HgwClass where
  | lc0 | time | lc1 | lc2 | lc3 | bulk
  deriving DecidableEq, Repr

/-- A Hedgerow packet (R356). -/
structure HgwPacket where
  src : Nat
  dst : Nat
  cls : HgwClass
  size : Nat
  body : HgwBody
  deriving DecidableEq, Repr

/-- A health report (Table 16-3). -/
structure HealthReport where
  seq : Word
  status : Half
  sync : Byte
  tq : Byte
  digestLow : Word
  sup : Word
  pem : Word
  hgl : Word
  mismatches : Word
  temp : Int
  links : Half
  deriving DecidableEq, Repr

/-- What one device tells the other when T0 trains (R377, R379, R380, R389). -/
structure TwinHello where
  side : Bool
  uid : BitVec 128
  role : Nat
  roleGts : Nat
  committed : Bool
  commitGts : Nat
  sup : Word
  pem : Word
  hgl : Word
  digest : BitVec 384
  deriving DecidableEq, Repr

/-- Which publications a mirror message names (R386). -/
inductive PubClass where
  | cyc | alm | rsv
  deriving DecidableEq, Repr

/-- A publication as the mirror holds it (R386). -/
structure MirrorPub where
  cls : PubClass
  id : Nat
  stNum : Word
  sqNum : Word
  spdu : Word
  t : Nat
  elems : List (Word × Half)
  deriving DecidableEq, Repr

/-- A journal entry (Table 14-8) as T0 carries it. -/
structure JournalRec where
  handle : Nat
  tag : Word
  opcode : Nat
  status : Nat
  disp : Nat
  step : Nat
  total : Nat
  gts : Nat
  units : Nat
  items : Bool
  resumedBy : Nat
  deriving DecidableEq, Repr

/-- What a mirror message carries (R386). -/
inductive MirrorBody where
  | pin (n : Nat) (active : Bool)
  | pub (p : MirrorPub)
  | outTag (o tag : Nat)
  | pulse (k issued : Nat) (start : Option Nat)
  | alarmAck (alarm source : Nat)
  | journal (r : JournalRec)
  deriving DecidableEq, Repr

/-- A mirror message of T0 with the number that its acknowledgement returns. -/
structure MirrorMsg where
  num : Nat
  body : MirrorBody
  deriving DecidableEq, Repr

/-- The state a partner sends while this device is PAIRING (Table 16-2). -/
structure TwinSnapshot where
  insts : List (List Word)
  taskCycles : List (Word × Int)
  progStart : Nat
  alarms : List (Nat × Nat × Half)
  pinHolds : List (Option Nat)
  meters : List (Nat × List (BitVec 64 × Word × Half) × Word)
  pulses : List (Nat × Nat × Nat)
  pubs : List MirrorPub
  outTags : List (Nat × Nat)
  switches : List (Nat × Bool × Option Bool × Option Nat)
  journal : List JournalRec
  deriving DecidableEq, Repr

/-- Who asks the Caddy for an operation (Table 17-4, MASTERS). -/
inductive CaddyMaster where
  | host | sup | decAuth | pubAuth | capSign
  deriving DecidableEq, Repr

/-- The uses of a key (Table 17-4, USES). -/
inductive KeyUse where
  | macVerify | macGenerate | sign | verify | derive | wrap
  deriving DecidableEq, Repr

/-- A request to the Caddy (R397). -/
structure CaddyReq where
  id : Nat
  master : CaddyMaster
  secure : Bool
  slot : Nat
  use : KeyUse
  data : List Byte
  deriving DecidableEq, Repr

/-- An image of SUP, PEM, HGL or CAL (Table 19-4). -/
structure FwImage where
  ident : Word
  format : Half
  component : Nat
  secVer : Nat
  version : Word
  payload : List Byte
  catalogue : Word
  setFormat : Nat
  setOldest : Nat
  keyIndex : Nat
  manifest : List (Nat × Word × Word)
  uid : BitVec 128
  pubKey : List Byte
  signature : List Byte
  calId : Word := 0                          -- CAL: identifier of the data (WAV_CAL_ID)
  times : List (Nat × Nat × Nat) := []       -- PEM: worst-case times of operators that differ from Table 10-1: place in the table, ns, ns for each item (R244)
  cal : List (Word × Word × Nat) := []       -- CAL: gain, offset in V and delay in ns of the 24 paths: inputs 0 to 15, then the high paths of 8 to 15 (R166)
  deriving DecidableEq, Repr

/-- A record of the runtime settings (R435). -/
structure SettingRec where
  offset : Nat
  window : Word
  value : Word
  deriving DecidableEq, Repr

/-- A runtime settings copy in NOR (R435). -/
structure SettingsCopy where
  format : Nat
  seq : Nat
  digest : BitVec 384
  records : List SettingRec
  ok : Bool
  deriving DecidableEq, Repr

/-- An entry of a configuration image's directory (Table 19-5). -/
structure SectionDir where
  ident : Word
  format : Nat
  data : List Byte
  crcOk : Bool
  deriving DecidableEq, Repr

/-- An error as its detector reports it (R445, R483). -/
structure ErrorRec where
  grade : Nat
  source : Word
  code : Half
  cause : Nat
  channel : Nat
  addr : Nat
  deriving DecidableEq, Repr

/-- What a PMC sample records (Table 20-6). -/
structure SampleRec where
  engine : Nat
  counter : Nat
  skid : Nat
  cls : Nat
  idle : Bool
  catalogue : Nat
  graph : Nat
  node : Nat
  deriving DecidableEq, Repr

/-- What DOMAIN's tamper watch found (R418). -/
inductive TamperSource where
  | input (n : Nat)
  | vbat
  | temp
  | xtal
  deriving DecidableEq, Repr

/-- A temperature table's point (R181): temperature, ratio and phase corrections as f32. -/
structure TempPoint where
  temp : Word
  r : Word
  theta : Word
  deriving DecidableEq, Repr

/-- A configuration image (R431), read into the records of its sections.  Register fields are (BAR0 offset, value) pairs. -/
structure CfgImage where
  headerOk : Bool
  version : Word
  minSup : Word
  dir : List SectionDir
  signerKey : List Byte
  signature : List Byte
  settings : List (Nat × Word)
  streams : List (Nat × StreamRec)
  map : List (Nat × MapEntry)
  outs : List OutRec
  rsvs : List RsvRec
  groups : List GroupRec
  sections : List SectionRec
  chans : List ChanRec
  wavOuts : List WavOutRec
  coefs : List CoefSet
  meters : List MeterRec
  tables : List (List TempPoint)
  signals : List SignalRec
  monitors : List MonitorRec
  locs : List LocBranch
  locBase : Nat
  nodes : List NodeRec
  branches : List BranchRec
  meas : List MeasRec
  cohs : List CohRec
  sBase : Word
  seBase : Nat
  islSummary : Nat
  nnzMax : Nat
  graphs : List GraphRec
  dfsCatalogue : Word
  program : Option CycProgram
  alarms : List AlarmRec
  almPubs : List PubRec
  almPins : Byte
  recorders : List RecorderRec
  queues : List QueueRec
  pins : List (Nat × Nat × Nat)
  deriving DecidableEq, Repr

/-- What a NOR slot of a component holds (R425): nothing that verifies, a firmware image or a configuration image. -/
inductive SlotImage where
  | empty
  | fw (i : FwImage)
  | cfg (i : CfgImage)
  deriving DecidableEq, Repr

/-- What the host's buffer of a command holds, read as the command's rule reads it. -/
inductive BufContent where
  | none
  | image (i : SlotImage)
  | bytes (b : List Byte)
  deriving DecidableEq, Repr

/-- Fields that every command packet carries (Table 14-5). -/
structure CmdHdr where
  tag : Word
  progress : Bool
  buf : Nat
  len : Nat
  deriving DecidableEq, Repr

/-- A peer value as it arrives (R273). -/
structure PeerRx where
  writer : Nat
  output : Nat
  a : Word
  b : Word
  q : Half
  startGts : Nat
  cycle : Word
  gts : Nat
  deriving DecidableEq, Repr

/-- What the neighbour tells when a Hedgerow link trains (R354). -/
structure HgwHello where
  device : Nat
  systemId : Word
  epoch : Nat
  hgl : Word
  deriving DecidableEq, Repr

/-- The commands of the block, one constructor per row of spec/opcode_table.json, with the row's operands. -/
inductive Instr where
  /-- `REGISTER_WRITE` (R6). A host or firmware write to a register that has no row of its own takes effect as LIVE, STAGED or LOCKED under the access code of its field. -/
  | registerWrite (offset : Nat) (value : Word)
  /-- `CLK_REF_LOST` (R35). REF_LOCK stays clear for more than 10 us while the device runs, which raises an E4 fault and logs event 0x0101. -/
  | clkRefLost (durationNs : Nat)
  /-- `CLK_SERDES_LOST` (R35). A SerDes PLL loses lock, which takes down its ports and links and logs event 0x0102. -/
  | clkSerdesLost (links : List Nat)
  /-- `CLK_PCIE_REF_LOST` (R35). The PCIe reference is lost, which takes the host link down and logs event 0x0103. -/
  | clkPcieRefLost
  /-- `RX_FRAME` (R45). A frame is received on a port and passes through the receive steps of coding, length, FCS, PRP, steering, rules and buffering. -/
  | rxFrame (port : Nat) (f : RxFrame)
  /-- `PRP_ENTRY_EXPIRE` (R49). A duplicate-table entry unused for 400 ms is freed. -/
  | prpEntryExpire (pair : Nat) (mac : BitVec 48)
  /-- `PRP_LAN_SILENT` (R50). One port of a pair receives nothing for SPT_PRP_TIMEOUT while the other receives, which logs event 0x0203. -/
  | prpLanSilent (pair : Nat) (lanB : Bool)
  /-- `PRP_SUPERVISION_TX` (R51). Supervisor firmware sends a PRP supervision frame on each port of a pair every 2,000 ms. -/
  | prpSupervisionTx (pair : Nat)
  /-- `LINK_UP` (R481). Training of a station or management port completes, which logs event 0x0202. -/
  | linkUp (port : Nat)
  /-- `LINK_DOWN` (R481). A port loses its link or refuses the partner's speed, which logs event 0x0201. -/
  | linkDown (port cause : Nat)
  /-- `MAXLEN_WRITE` (R46). A write of SPT_MAXLEN is staged, or is ignored with event 0x0207 when outside 1,518 to 9,600. -/
  | maxlenWrite (port : Nat) (value : Word)
  /-- `SPT_COMMIT` (R47). A write of SPT_COMMIT requests the staged port settings to take effect. -/
  | sptCommit (mask : Word)
  /-- `SPT_COMMIT_POINT` (R47). A port direction reaches its frame boundary after SPT_COMMIT and adopts the staged settings. -/
  | sptCommitPoint (port : Nat) (tx : Bool)
  /-- `SUP_POOL_DRAIN` (R53). Supervisor firmware takes a frame from a port's supervisor pool. -/
  | supPoolDrain (port : Nat)
  /-- `RXR_ENABLE` (R56). Setting SPT_RXR_CTRL.EN enables a receive ring and sets HEAD to 0. -/
  | rxrEnable (port ring : Nat) (value : Word)
  /-- `RXR_DISABLE` (R56). Clearing SPT_RXR_CTRL.EN lets a delivery in progress complete and then stops the ring. -/
  | rxrDisable (port ring : Nat) (value : Word)
  /-- `HOST_TX_DESCRIPTOR` (R58). The port takes a host transmit descriptor and queues its frame, or refuses it with ERR. -/
  | hostTxDescriptor (port ring : Nat) (d : TxDesc)
  /-- `TX_FRAME` (R57). A port starts transmitting the head frame of its highest-priority non-empty queue. -/
  | txFrame (port : Nat)
  /-- `TXTS_POP` (R60). A read of SPT_TXTS_POP removes the head stamp and loads it into SPT_TXTS_LO and _HI. -/
  | txtsPop (port : Nat)
  /-- `TXTS_STAT_CLEAR` (R59). A W1C write of OVF clears the overflow flag and the LOST count. -/
  | txtsStatClear (port : Nat)
  /-- `EEE_TW_UPDATE` (R63). A new wake time learnt from LLDP takes effect and the wake instant is recomputed. -/
  | eeeTwUpdate (port tw : Nat)
  /-- `LPI_ENTER` (R62). A port whose queues are empty and whose next LC0 window is far enough ahead enters transmit LPI. -/
  | lpiEnter (port : Nat)
  /-- `LPI_WAKE` (R62). A port leaves LPI Tw + 2 us before an LC0 window or scheduled LC0 transmission. -/
  | lpiWake (port : Nat)
  /-- `LPI_FRAME_WAKE` (R62). A frame is queued while the port is in LPI, so the port wakes and counts any LC0 frame in SPT_CNT_LPI_LC0_WAKE. -/
  | lpiFrameWake (port : Nat)
  /-- `C37_DATA_FRAME` (R73). A C37.118.2 data frame is checked, tagged, scaled and written into slots of its stream. -/
  | c37DataFrame (f : C37Frame)
  /-- `REPARSE_ATTEMPT` (R76). Supervisor firmware sends the command for CFG-2 or CFG-3 to the stream's PMU, up to 3 attempts 2 s apart. -/
  | reparseAttempt (stream : Nat)
  /-- `CFG_FRAME_RX` (R76). Supervisor firmware receives a configuration frame and accepts or rejects the new mapping. -/
  | cfgFrameRx (stream : Nat) (f : CfgFrame)
  /-- `REPARSE_RETRY` (R76). A REJECTED stream is tried again after 60 s. -/
  | reparseRetry (stream : Nat)
  /-- `ST_REPARSE` (R76). A write of DEC_ST_REPARSE requests an immediate re-parse of the selected stream. -/
  | stReparse
  /-- `ST_DISABLE` (R482). A write of 0 to DEC_ST_STATE disables the selected entry at the next row boundary. -/
  | stDisable
  /-- `ST_ENABLE` (R482). A write of 1 to DEC_ST_STATE enables a DISABLED entry or starts a re-parse of an INVALID or REJECTED one. -/
  | stEnable
  /-- `DEC_COMMIT` (R83). A write of DEC_COMMIT requests the staged DEC fields and key slots to commit. -/
  | decCommit
  /-- `SV_FRAME` (R77). A sampled-values frame is checked and its ASDU samples are passed with quality to the Strainer. -/
  | svFrame (f : SvFrame)
  /-- `SESSION_PDU` (R81). An IEC 61850-90-5 session PDU is checked for key, signature and replay before its payload is decoded. -/
  | sessionPdu (p : SessionPdu)
  /-- `GOOSE_FRAME` (R84). A GOOSE message is checked and, with a new stNum, passed as an event to TOP, CYC and CAP. -/
  | gooseFrame (f : GooseFrame)
  /-- `ROW_BOUNDARY` (R115). Device Time reaches a grid tag of a rate group, so a furrow opens and boundary-bound commits and per-tag writes take place. -/
  | rowBoundary (rg : Nat)
  /-- `OUTPUT_STREAM_FRAME` (R87). An output-stream frame for a row is built once its sections close and derived channels are written, or at tag + DEC_OUT_WAIT. -/
  | outputStreamFrame (o tag : Nat)
  /-- `OUT_CMD_OFF` (R89). The C37.118.2 command 0x0001 turns off transmission of an output stream. -/
  | outCmdOff (o : Nat)
  /-- `OUT_CMD_ON` (R89). The C37.118.2 command 0x0002 turns on transmission of an output stream. -/
  | outCmdOn (o : Nat)
  /-- `OUT_CMD_SEND_HDR` (R89). The command 0x0003 makes the firmware send the HDR frame. -/
  | outCmdSendHdr (o : Nat)
  /-- `OUT_CMD_SEND_CFG1` (R89). The command 0x0004 makes the firmware send CFG-1. -/
  | outCmdSendCfg1 (o : Nat)
  /-- `OUT_CMD_SEND_CFG2` (R89). The command 0x0005 makes the firmware send CFG-2. -/
  | outCmdSendCfg2 (o : Nat)
  /-- `OUT_CMD_SEND_CFG3` (R89). The command 0x0006 makes the firmware send CFG-3. -/
  | outCmdSendCfg3 (o : Nat)
  /-- `OUT_CHANGE_APPLY` (R89). A committed output-stream change takes effect at the first second boundary DEC_OUT_CFG_DELAY after the commit, clearing STAT[10]. -/
  | outChangeApply (o : Nat)
  /-- `RSV_PUBLISH` (R90). An R-SV publication sends one signed ASDU for a row of its rate group. -/
  | rsvPublish (p tag : Nat)
  /-- `TIME_ROLLOVER` (R94). TIM_NS wraps, so TIM_TIME_HI increments, ROLL sets and the supervisor is interrupted. -/
  | timeRollover
  /-- `EXTENSION_CHECK` (R94). Supervisor firmware compares Device Time with its own extension and raises E3 with event 0x0408 on disagreement. -/
  | extensionCheck
  /-- `INC_WRITE` (R96). A write of TIM_INC_HI in mode HOST sets a new increment, or is refused with event 0x040A. -/
  | incWrite (hi : Word)
  /-- `TIME_STEP` (R96). A write of TIM_ADJ_HI, or a servo step, adds an offset to Device Time in one tick and logs event 0x0405. -/
  | timeStep (hi : Word)
  /-- `HOST_SYNC_WRITE` (R97). A write of TIM_HOST_SYNC in mode HOST sets the synchronisation state and logs the matching event. -/
  | hostSyncWrite (value : Word)
  /-- `PTP_MESSAGE` (R102). A PTP message is received on an enabled port and used for parent selection, delay or offset measurement. -/
  | ptpMessage (m : PtpMsg)
  /-- `ANNOUNCE_TIMEOUT` (R102). No Announce arrives from the parent for 3 intervals and parent selection runs again. -/
  | announceTimeout
  /-- `IRIG_FRAME` (R104). An IRIG-B frame is decoded and applied as a measurement, or discarded and counted. -/
  | irigFrame (f : IrigFrame)
  /-- `PPS_IN_EDGE` (R105). An active edge on PPS_IN is stamped and taken as a phase measurement. -/
  | ppsInEdge
  /-- `PPS_MISS` (R105). No PPS_IN edge arrives for more than 1.001 s, which counts in TIM_CNT_PPS_MISS. -/
  | ppsMiss
  /-- `SOURCE_TIMEOUT` (R99). No valid measurement arrives for n s, so LOCKED enters HOLDOVER or ACQUIRING returns to FREE. -/
  | sourceTimeout
  /-- `SOURCE_FAULT_EXPIRE` (R99). The 600 s for which a source was declared faulty ends. -/
  | sourceFaultExpire (src : Nat)
  /-- `SECOND_BOUNDARY` (R101). Device Time reaches a second boundary, at which holdover error, leap seconds, PPS_OUT and adaptive deadlines are evaluated. -/
  | secondBoundary
  /-- `PPS_OUT_END` (R107). PPS_OUT returns inactive after WIDTH us. -/
  | ppsOutEnd
  /-- `SECTION_DEADLINE` (R120). Device Time reaches T + d with the section open, so it closes by deadline. -/
  | sectionDeadline (rg tag sec : Nat)
  /-- `RELEASE_TOKEN_ADMIT` (R248). A release token that waited in the alignment engine enters a ready list when space frees. -/
  | releaseTokenAdmit
  /-- `ROW_RETIRE` (R117). At T + Hg the row retires: unwritten derived channels become MISSING, the row is copied to history and the furrow freed. -/
  | rowRetire (rg : Nat)
  /-- `GLEANER_WRITE` (R134). The Gleaner writes a late delivery into the furrow or ring entry, revising the row. -/
  | gleanerWrite
  /-- `ALN_COMMIT` (R142). A write of ALN_COMMIT requests a group's staged settings to commit at its next row boundary. -/
  | alnCommit (mask : Word)
  /-- `AFE_SAMPLE` (R147). A local CIC output sample is formed, its gain path chosen and passed into the chain. -/
  | afeSample (a : AfeSample)
  /-- `AFE_OVERLOAD_END` (R164). An overload episode ends after 1 ms without overload. -/
  | afeOverloadEnd (input : Nat)
  /-- `CHANNEL_STALL` (R154). No input sample reaches a channel for 10 ms, which marks it STALLED and logs event 0x0603. -/
  | channelStall (chan : Nat)
  /-- `SYNC_ARM` (R161). A write of WAV_SYNC.ARM arms a synchronising reset, or clears with event 0x0607 when too late. -/
  | syncArm (value : Word)
  /-- `WAV_COMMIT` (R167). A write of WAV_COMMIT requests channel settings to commit, with a CONFIG reset for chain changes. -/
  | wavCommit (mask : Word)
  /-- `STEEP_CLOSE` (R177). A steep closes after its last sample and its record is written to the ring with a notice. -/
  | steepClose (mp : Nat)
  /-- `STEEP_CLOSE_TIMEOUT` (R177). The last sample has not arrived 1 s after the steep end, so the steep closes with samples not produced. -/
  | steepCloseTimeout (mp : Nat)
  /-- `PULSE_START` (R183). A queued pulse drives its pin active. -/
  | pulseStart (k : Nat)
  /-- `PULSE_END` (R183). A pulse ends after WIDTH ms and the inactive gap starts. -/
  | pulseEnd (k : Nat)
  /-- `METER_SAVE_PERIOD` (R185). The save period elapses and the metering state is saved to NOR. -/
  | meterSavePeriod
  /-- `METER_SAVE_NOW` (R185). A write of MTR_SAVE.NOW starts a metering save to NOR. -/
  | meterSaveNow
  /-- `METER_SAVE_DONE` (R185). A metering save completes, or fails with event 0x0707. -/
  | meterSaveDone (ok : Bool)
  /-- `METER_SNAPSHOT` (R189). A write of MTR_SNAP.GO copies the meter point's accumulators between two samples and sets DONE. -/
  | meterSnapshot (value : Word)
  /-- `MTR_COMMIT` (R187). A write of MTR_COMMIT requests a meter point's staged settings at its next steep boundary. -/
  | mtrCommit (hi : Bool) (mask : Word)
  /-- `OSC_REFRESH_INSTANT` (R195). A refresh instant of a group passes and the refresh is queued once its sections close. -/
  | oscRefreshInstant (group : Nat)
  /-- `OSC_REFRESH_DONE` (R196). A refresh completes on the matrix unit, identifying modes and tracking slots. -/
  | oscRefreshDone (group : Nat)
  /-- `OSC_COMMIT` (R213). A write of OSC_COMMIT requests staged OSC settings to commit. -/
  | oscCommit (mask : Word)
  /-- `INTERMEDIATE_TIMEOUT` (R218). A switching branch stays intermediate for TOP_INTERMEDIATE and is resolved by INTER_RULE. -/
  | intermediateTimeout (branch : Nat)
  /-- `SW_OVERRIDE` (R219). A write of TOP_SW_OVERRIDE overrides the selected switching branch. -/
  | swOverride (value : Word)
  /-- `SE_ROW_START` (R220). The estimator and island engine start a row at the later of its last input closure and T + 20 us. -/
  | seRowStart (idx : Nat)
  /-- `SE_SOLVE_DONE` (R224). The estimator writes its estimates and status channels after removing bad data. -/
  | seSolveDone (idx : Nat)
  /-- `ISLAND_ROW` (R231). The island engine writes islands and coherency groups and detects splits and merges. -/
  | islandRow (idx : Nat)
  /-- `COALESCE_EXPIRE` (R227). TOP_COALESCE ms after a topology change a refactorisation starts. -/
  | coalesceExpire
  /-- `REFAC_DONE` (R228). A refactorisation completes and its factor is used from the next solve, or fails with NO_RESOURCE. -/
  | refacDone
  /-- `TOP_COMMIT` (R236). A write of TOP_COMMIT requests the staged TOP settings to commit. -/
  | topCommit
  /-- `GRAPH_INSTANCE_CREATE` (R242). A graph trigger creates an instance, superseding or waiting when 16 are unfinished. -/
  | graphInstanceCreate (graph : Nat)
  /-- `OPERATOR_DISPATCH` (R246). An engine takes the head ready instance after its reservations are made. -/
  | operatorDispatch (pe : Nat)
  /-- `OPERATOR_YIELD` (R247). A lower-class operator reaches a yield point and is suspended for waiting LC0 work. -/
  | operatorYield (pe : Nat)
  /-- `OPERATOR_COMPLETE` (R246). An operator completes, writing its state and output tokens and making successors ready. -/
  | operatorComplete (pe : Nat)
  /-- `DELAY_TICK` (R249). A 10 us delay tick releases due DELAY tokens and TIMER triggers. -/
  | delayTick
  /-- `EPOCH_BOUNDARY` (R253). An epoch boundary passes, at which the Sower rebalances and staged DFS and HGW fields commit. -/
  | epochBoundary
  /-- `STATE_COPY_DONE` (R254). The copy of a moved graph's state completes and its first instance becomes ready in the new cluster. -/
  | stateCopyDone (graph : Nat)
  /-- `ENGINE_FENCE` (R256). An engine with an uncorrectable error is fenced and its operators cancelled with cause FAULT. -/
  | engineFence (pe : Nat)
  /-- `GRAPH_HALT` (R250). A write of DFS_GRAPH_CTRL.HALT cancels every unfinished operator of the graph. -/
  | graphHalt (graph : Nat)
  /-- `GRAPH_RESUME` (R250). A write of DFS_GRAPH_CTRL.RESUME lets a halted graph run again. -/
  | graphResume (graph : Nat)
  /-- `DFS_COMMIT` (R259). A write of DFS_COMMIT requests staged DFS fields at the next epoch boundary. -/
  | dfsCommit
  /-- `CYCLE_START` (R262). A task's cycle starts: staged fields commit and the input image is frozen. -/
  | cycleStart (task : Nat)
  /-- `LOGIC_COMPLETE` (R263). A task's logic completes, writing outputs at once with LATE when the write point has passed. -/
  | logicComplete (task : Nat)
  /-- `WRITE_POINT` (R271). At W the outputs of the cycle take effect as publications, pins, peer values and channel writes. -/
  | writePoint (task : Nat)
  /-- `PUB_RETRANSMIT` (R272). A GOOSE or R-GOOSE publication is retransmitted at its scheduled spacing. -/
  | pubRetransmit (alm : Bool) (p : Nat)
  /-- `PEER_VALUE_RX` (R273). A peer value arrives and is accepted or discarded by program start GTS and cycle count. -/
  | peerValueRx (v : PeerRx)
  /-- `EXCHANGE_INSTANT` (R280). At X every task starts with the new program, and outputs change hands. -/
  | exchangeInstant
  /-- `EXCHANGE_TIMEOUT` (R280). No boundary qualifies within 60 s and the exchange completes with TIMEOUT. -/
  | exchangeTimeout
  /-- `CYC_COMMIT` (R282). A write of CYC_COMMIT requests staged CYC fields at the task's next cycle start. -/
  | cycCommit (mask : Word)
  /-- `ALARM_HANDOFF` (R287). An ALM_RAISE handoff is accepted and may change the alarm's state, pins, publication, queue entry and record. -/
  | alarmHandoff
  /-- `ALM_ACK` (R290). A write of ALM_ACK acknowledges an alarm when its CHG matches. -/
  | almAck (value : Word)
  /-- `ALM_ACK_ALL` (R290). A write of ALM_ACK_ALL acknowledges every unacknowledged alarm of the selected severities. -/
  | almAckAll (value : Word)
  /-- `PIN_HOLD_EXPIRE` (R292). The HOLD time of a released alarm pin ends and the pin goes inactive. -/
  | pinHoldExpire (pin : Nat)
  /-- `ALARM_PUB_SEND` (R293). An alarm publication is built and sent with the element states at the start of its build. -/
  | alarmPubSend (p : Nat)
  /-- `ALM_COMMIT` (R304). A write of ALM_COMMIT commits staged ALM settings when no handoff is in process. -/
  | almCommit
  /-- `EVENT_COMMIT` (R298). The recorder commits the head of the staging queue as a numbered record in NOR. -/
  | eventCommit
  /-- `HEARTBEAT` (R298). Every 3,600 s the recorder logs event 0x0D05. -/
  | heartbeat
  /-- `EVR_RD_SEQ` (R302). A write of EVR_RD_SEQ loads the named record into EVR_RD_DATA. -/
  | evrRdSeq (value : Word)
  /-- `GATHER_END` (R313). The gather window ends and the capture is decided from all firings found. -/
  | gatherEnd (recorder : Nat)
  /-- `CAP_AUTO_TIMEOUT` (R315). In AUTO mode no firing is found by TIMEOUT and the device forces a trigger. -/
  | capAutoTimeout (recorder : Nat)
  /-- `CAPTURE_CLOSE` (R315). GATHER us after its last frame the capture becomes STORED and the recorder re-arms or idles. -/
  | captureClose (recorder : Nat)
  /-- `CAP_R_ARM` (R315). A write of CAP_R_CMD.ARM takes an IDLE recorder to ARMED. -/
  | capRArm (recorder : Nat)
  /-- `CAP_R_DISARM` (R315). A write of CAP_R_CMD.DISARM idles an ARMED recorder or cuts an ACTIVE capture. -/
  | capRDisarm (recorder : Nat)
  /-- `CAP_R_FORCE` (R315). A write of CAP_R_CMD.FORCE triggers an ARMED recorder at the newest frame. -/
  | capRForce (recorder : Nat)
  /-- `CAP_R_RELEASE` (R317). A write of CAP_R_RELEASE frees or marks free a stored capture. -/
  | capRRelease (recorder : Nat) (value : Word)
  /-- `CAP_R_MARK_SET` (R322). A write of CAP_R_MARK_HI sets a rewind mark. -/
  | capRMarkSet (recorder mark : Nat) (hi : Word)
  /-- `CAP_COMMIT` (R325). A write of CAP_COMMIT requests staged recorder settings once it is IDLE or ARMED without firings. -/
  | capCommit (mask : Word)
  /-- `PCIE_LINK_DOWN` (R332). The PCIe link goes down, emptying host queues and stopping host DMA. -/
  | pcieLinkDown
  /-- `PCIE_LINK_UP` (R332). The PCIe link comes up, which logs event 0x0F02. -/
  | pcieLinkUp
  /-- `HOST_RESET` (R332). An FLR, hot reset or PCIE_PERST_N assertion resets only the host interface. -/
  | hostReset (kind : HostResetKind)
  /-- `APERTURE_READ` (R331). A BAR4 read returns DRAM data, zeros or poisoned data. -/
  | apertureRead (offset len : Nat)
  /-- `APERTURE_WRITE` (R331). A write to BAR4 is discarded and counted. -/
  | apertureWrite (offset : Nat)
  /-- `QUEUE_POP` (R336). A host read of a POP window takes visible words from the head of a queue. -/
  | queuePop (q words : Nat)
  /-- `QUEUE_POP_TIMEOUT` (R336). A stalled POP read reaches HIF_QSTALL and returns 0xFFFF_FFFE for missing words. -/
  | queuePopTimeout (q : Nat)
  /-- `QUEUE_PUSH` (R335). A host write to a PUSH window appends payload words to the open packet. -/
  | queuePush (q : Nat) (words : List Word)
  /-- `QUEUE_PUSH_END` (R335). A write of PUSH_END closes the host packet and writes its length word, or discards a mismatch. -/
  | queuePushEnd (q : Nat) (value : Word)
  /-- `PUSH_STALL_TIMEOUT` (R337). A host packet does not fit within HIF_QSTALL and is discarded with event 0x0F04. -/
  | pushStallTimeout (q : Nat)
  /-- `QUEUE_IRQ_ITR_EXPIRE` (R341). ITR us after the first POP read following an interrupt, the queue may raise its vector again. -/
  | queueIrqItrExpire (q : Nat)
  /-- `COMMAND_TAKE` (R343). Supervisor firmware takes a command from Q0, assigns a handle and posts its first completion. -/
  | commandTake (content : BufContent)
  /-- `LONG_OP_STEP_COMMIT` (R347). A step of a long operation commits, updating the journal and posting a progress or final completion. -/
  | longOpStepCommit (handle : Nat)
  /-- `NOP` (R343). The command 0x0001 completes at once with OK. -/
  | nop (h : CmdHdr)
  /-- `JOURNAL` (R349). The command 0x0002 writes the journal entry of a handle or tag to the host buffer. -/
  | journal (h : CmdHdr) (key : Word) (byTag twin : Bool)
  /-- `CANCEL` (R346). The command 0x0003 stops a long operation at its next step boundary. -/
  | cancel (h : CmdHdr) (target : Word)
  /-- `RESUME` (R349). The command 0x0004 continues a RESUMABLE operation under a new handle. -/
  | resume (h : CmdHdr) (target : Word)
  /-- `ACK` (R290). The command 0x0010 acknowledges an alarm against a CHG value. -/
  | ack (h : CmdHdr) (alarm chg : Half)
  /-- `ARM` (R315). The command 0x0020 arms a recorder. -/
  | arm (h : CmdHdr) (recorder : Nat)
  /-- `EXPORT` (R323). The command 0x0021 copies a stored capture to host memory in steps, signing it when configured. -/
  | export_ (h : CmdHdr) (recorder capture : Nat)
  /-- `EXPORT_FRAMES` (R322). The command 0x0022 copies live-ring frames from a mark and advances the mark. -/
  | exportFrames (h : CmdHdr) (recorder mark : Nat)
  /-- `RELEASE` (R317). The command 0x0023 releases a stored capture. -/
  | release (h : CmdHdr) (recorder capture : Nat)
  /-- `REFACTOR` (R227). The command 0x0030 requests a refactorisation and completes when one started after it ends. -/
  | refactor (h : CmdHdr)
  /-- `REBALANCE` (R253). The command 0x0031 forces a rebalance at the next epoch boundary. -/
  | rebalance (h : CmdHdr)
  /-- `PROG_LOAD` (R278). The command 0x0040 loads a program image into the standby area after checks. -/
  | progLoad (h : CmdHdr) (content : BufContent)
  /-- `PROG_EXCHANGE` (R280). The command 0x0041 schedules the exchange to the standby program at X. -/
  | progExchange (h : CmdHdr)
  /-- `PROG_REVERT` (R281). The command 0x0042 exchanges back to the previous program. -/
  | progRevert (h : CmdHdr)
  /-- `IMAGE_STAGE` (R437). The command 0x0050 writes and verifies an image in the inactive slot of a component. -/
  | imageStage (h : CmdHdr) (component : Nat) (content : BufContent)
  /-- `IMAGE_ACTIVATE` (R437). The command 0x0051 makes a staged or other slot active in TRIAL and starts a warm reset. -/
  | imageActivate (h : CmdHdr) (component : Nat) (other : Bool)
  /-- `CONFIRM` (R438). The command 0x0052 confirms a component in TRIAL and raises its fuse count. -/
  | confirm (h : CmdHdr) (component : Nat)
  /-- `SETTINGS_SAVE` (R435). The command 0x0053 records the runtime settings in the alternate copy in NOR. -/
  | settingsSave (h : CmdHdr)
  /-- `KEY_UPDATE` (R400). The command 0x0060 checks, commits and activates a key update message, possibly with a life-cycle transition. -/
  | keyUpdate (h : CmdHdr) (content : BufContent)
  /-- `ARCHIVE_READ` (R347). The command 0x0070 copies history rows, event records or steep records to the host buffer. -/
  | archiveRead (h : CmdHdr) (source first count : Nat)
  /-- `DATE_SET` (R412). The command 0x0080 loads the RTC count from a valid calendar date, or completes with BAD_DATE. -/
  | dateSet (h : CmdHdr) (year month day hour minute second : Nat)
  /-- `ROLE_SWITCH` (R384). The command 0x0090 requests a twin switch-over at the first RG0 row boundary at least 10 ms later. -/
  | roleSwitch (h : CmdHdr)
  /-- `HGW_LINK_TRAINED` (R354). A Hedgerow link completes training and compares ID, system identity, epoch and HGL version. -/
  | hgwLinkTrained (link : Nat) (m : HgwHello)
  /-- `HGW_LINK_DOWN` (R355). A Hedgerow link loses lock for 10 us or exhausts retries and is declared down. -/
  | hgwLinkDown (link : Nat)
  /-- `HGW_PACKET_RX` (R356). A Hedgerow packet arrives and is delivered, relayed or rejected for retry. -/
  | hgwPacketRx (link : Nat) (crcOk : Bool) (p : HgwPacket)
  /-- `LINK_STATE_FLOOD` (R359). Every 10 ms a device floods its link-state message. -/
  | linkStateFlood
  /-- `ROUTE_RECOMPUTE` (R359). A device recomputes its route table after a changing link-state message, logging event 0x1003. -/
  | routeRecompute
  /-- `ROUTE_TIMEOUT` (R359). No link-state message from a device arrives for 30 ms and its route goes down. -/
  | routeTimeout (device : Nat)
  /-- `CLOSURE_TOKEN_RX` (R360). A forwarded closure token arrives and the section is released to the local Harrow. -/
  | closureTokenRx (owner rg sec tag : Nat) (flags : Byte) (seq : Word) (onDl : Bool)
  /-- `FWD_SECTION_TIMEOUT` (R361). No closure token arrives by T + HMAX + 28 us and the forwarded section is released by itself. -/
  | fwdSectionTimeout (owner rg sec tag : Nat)
  /-- `HGW_TIME_EXCHANGE` (R365). Every 1 ms a link exchanges time messages and updates delay and offset. -/
  | hgwTimeExchange (link : Nat) (t1 t2 t3 t4 : Nat) (locked : Bool)
  /-- `LINK_STEP_CHANGE` (R368). A link direction changes its speed step by utilisation or ahead of an LC0 window. -/
  | linkStepChange (link : Nat) (rx : Option Nat) (util : Nat)
  /-- `XPLACEMENT_ACK_DEADLINE` (R370). 100 ms before the applying boundary the coordinator withdraws an unacknowledged placement. -/
  | xplacementAckDeadline
  /-- `HGW_COMMIT` (R374). A write of HGW_COMMIT requests staged HGW fields at the next epoch boundary. -/
  | hgwCommit
  /-- `T0_TRAINED` (R380). T0 completes training and the two devices exchange side and UID, resolving conflicts and dual Tilled roles. -/
  | t0Trained (h : TwinHello)
  /-- `PARTNER_WAIT_EXPIRE` (R377). No partner is heard 2 s after the commit and the device becomes SOLO. -/
  | partnerWaitExpire
  /-- `PAIRING_SYNC_DONE` (R378). State synchronisation completes and the device becomes FALLOW, logging event 0x1101. -/
  | pairingSyncDone (snap : TwinSnapshot)
  /-- `PAIRING_TIMEOUT` (R378). Synchronisation has not completed within 120 s and restarts. -/
  | pairingTimeout
  /-- `ROW_DIGEST_RX` (R382). The Fallow device compares a received row digest with its own. -/
  | rowDigestRx (rg tag : Nat) (digest : Word)
  /-- `COMPARE_WINDOW_END` (R382). A 10 s compare window ends and COMPARE_FAIL is set or cleared. -/
  | compareWindowEnd
  /-- `HEALTH_REPORT_TX` (R383). Every 100 ms the Fallow device sends its health report. -/
  | healthReportTx
  /-- `HEALTH_REPORT_RX` (R383). The Tilled device receives a health report and updates PARTNER_READY. -/
  | healthReportRx (r : HealthReport)
  /-- `PARTNER_REPORT_TIMEOUT` (R383). No health report arrives for 300 ms and the Fallow device stops being READY. -/
  | partnerReportTimeout
  /-- `SELF_TEST_FAIL` (R383). A Fallow self-test fails and the device becomes FAULTY. -/
  | selfTestFail (bit : Nat)
  /-- `SWITCH_INSTANT` (R384). The RG0 row boundary chosen for a commanded switch-over is reached and outputs are handed over. -/
  | switchInstant
  /-- `PARTNER_LOSS_DETECT` (R384). No T0 heartbeat and no liveness edge for 500 us, so the partner is taken as lost. -/
  | partnerLossDetect
  /-- `RELEASE_REQUEST_RX` (R384). The Fallow device receives the Tilled device's E4 release request. -/
  | releaseRequestRx
  /-- `INPUT_TRIGGER_EXPIRE` (R384). For 50 ms the Tilled device lacks a station link the Fallow device has, starting a switch-over. -/
  | inputTriggerExpire
  /-- `TAKEOVER_COMPLETE` (R387). The new Tilled device completes its role change and takes over pins, pulses, publications and streams. -/
  | takeoverComplete
  /-- `MIRROR_MESSAGE_RX` (R386). The Fallow device applies and acknowledges a mirror message of the Tilled outputs. -/
  | mirrorMessageRx (m : MirrorMsg)
  /-- `T0_DETACH` (R389). T0 is down for 500 us while the liveness line toggles, so the Fallow device becomes DETACHED. -/
  | t0Detach
  /-- `CADDY_REQUEST` (R397). A master requests a key operation, which is checked and latched into the Caddy engine. -/
  | caddyRequest (r : CaddyReq)
  /-- `CADDY_OP_DONE` (R397). A Caddy operation completes with its result. -/
  | caddyOpDone (id : Nat)
  /-- `SEC_REDERIVE` (R403). A write of SEC_REDERIVE re-derives a slot from its parent. -/
  | secRederive (writer : CaddyMaster) (value : Word)
  /-- `BKD_WRITE_APPLY` (R408). A write to a BKD register takes effect at the next 32.768 kHz edge. -/
  | bkdWriteApply
  /-- `BKD_TICK_READ` (R410). A read of BKD_TICK_LO returns the count and freezes the read group. -/
  | bkdTickRead (sup : Bool)
  /-- `BKD_WEEKDAY_READ` (R410). A read of BKD_WEEKDAY returns its shadow and ends the freeze. -/
  | bkdWeekdayRead (sup : Bool)
  /-- `FREEZE_TIMEOUT` (R410). A freeze lasting 1 s ends by itself and sets FREEZE_TIMEOUT. -/
  | freezeTimeout (sup : Bool)
  /-- `WEEKDAY_ADVANCE` (R414). The prescaler reaches 86,400 x 32,768 ticks and the weekday advances. -/
  | weekdayAdvance
  /-- `ALARM_ARM` (R415). A write of BKD_ALARM_CTRL.ARM arms the RTC alarm, or sets ALARM_PAST. -/
  | alarmArm
  /-- `RTC_ALARM` (R415). The count reaches or passes the compare value, so the alarm fires and may assert PWR_EN. -/
  | rtcAlarm
  /-- `PWR_OFF` (R417). A write of BKD_PWR_CTRL.OFF clears the PWR_EN latch. -/
  | pwrOff
  /-- `WAKE_IN_EDGE` (R417). An active edge on WAKE_IN sets the PWR_EN latch. -/
  | wakeInEdge
  /-- `TAMPER_INPUT` (R419). A tamper input or monitor becomes active, erasing key RAM and latching the cause. -/
  | tamperInput (src : TamperSource)
  /-- `DOMAIN_POWER_ON` (R407). The backup domain powers on after losing its contents. -/
  | domainPowerOn
  /-- `RTC_SYNC_CHECK` (R413). Supervisor firmware compares the RTC with UTC and reloads it when they differ by over 1 ms. -/
  | rtcSyncCheck
  /-- `COLD_START` (R423). PORST_N is released and the device runs the cold start stages to the configuration commit. -/
  | coldStart (straps : BitVec 4)
  /-- `WARM_RESET` (R424). A warm reset re-verifies images, reloads the configuration and commits again. -/
  | warmReset (cause : Nat)
  /-- `PORST_ASSERT` (R469). PORST_N is pulled low for at least 10 us and resets the device. -/
  | porstAssert (ns : Nat)
  /-- `RAIL_UNDERVOLTAGE` (R467). A monitored rail lies below its minimum for 2 us and resets the device. -/
  | railUndervoltage (rail ns : Nat)
  /-- `BOOT_RESET` (R422). A write of 0x0000_5257 to BOOT_RESET requests a warm reset. -/
  | bootReset (value : Word)
  /-- `SUP_WATCHDOG_EXPIRE` (R422). The supervisor watchdog is not served for 1 s and causes a warm reset. -/
  | supWatchdogExpire
  /-- `BOOT_RCV_GO` (R430). A write of BOOT_RCV_GO in recovery verifies the recovery SUP image and restarts. -/
  | bootRcvGo (value : Word) (image : SlotImage)
  /-- `TRIAL_DEADLINE` (R442). The trial deadline passes without CONFIRM and the component falls back. -/
  | trialDeadline (component : Nat)
  /-- `TWIN_CFG_ACTIVATE` (R443). Both twin devices activate a forwarded CFG image at the agreed second boundary. -/
  | twinCfgActivate
  /-- `ERROR_DETECT` (R445). An error is detected, graded, contained by hardware and placed on the error stack. -/
  | errorDetect (e : ErrorRec)
  /-- `ERROR_HANDLING_DONE` (R448). Supervisor firmware completes handling one error, records it and may restart a block. -/
  | errorHandlingDone
  /-- `HANDLER_TIMEOUT` (R449). One error handling lasts 10 ms and becomes an E4 handler fault. -/
  | handlerTimeout
  /-- `E4_WARM_RESET` (R450). At t_e + 20 ms or when handling completes the device makes the warm reset of an E4. -/
  | e4WarmReset
  /-- `THERMAL_LEVEL_CHANGE` (R453). The junction temperature crosses a threshold and the shedding level changes. -/
  | thermalLevelChange (sensor : Nat) (temp : Int)
  /-- `OVERTEMP` (R454). T_j stays at or above 125 C for 10 ms and raises E4. -/
  | overtemp (sensor : Nat) (temp : Int)
  /-- `CURRENT_LIMIT` (R456). The core current exceeds 68 A for 1 ms, entering at least level 1, or 72 A and raising E4. -/
  | currentLimit (tenMa : Nat)
  /-- `DRAM_TEMP_CHECK` (R457). Every 16 ms a DRAM controller reads its device temperature and doubles or restores refresh. -/
  | dramTempCheck (channel : Nat) (temp : Int)
  /-- `PMC_RUN` (R458). A write of PMC_CTRL.RUN starts or stops every enabled counter together. -/
  | pmcRun (run : Bool)
  /-- `PMC_CLEAR` (R458). A write of PMC_CTRL.CLEAR sets every counter to 0. -/
  | pmcClear
  /-- `PMC_SAMPLE` (R461). A sampling counter wraps and a sample record is written to the ring after the skid. -/
  | pmcSample (r : SampleRec)
  /-- `DRAM_LOCK_LOST` (R41). The DDR5 clock loses lock, so SYS_CLK_STATUS.DRAM_LOCK falls and SYS_CLK_EVENTS.DRAM_LOCK sets. -/
  | dramLockLost
  /-- `DOMAIN_SUPPLY_CHANGE` (R407). VDDIO_33 leaves or re-enters its recommended range, so the backup domain switches between VDDIO_33 and VBAT and ON_VBAT changes. -/
  | domainSupplyChange (inRange : Bool)
  /-- `VBAT_LOW` (R407). VBAT crosses 2.0 V, which sets or clears BKD_STATUS.VBAT_LOW. -/
  | vbatLow (low : Bool)
  /-- `CURRENT_LIMIT_CLEAR` (R456). The core current stays below 64 A for 1 s, so the device leaves the current-forced shedding level and CURRENT_LIMIT clears. -/
  | currentLimitClear (tenMa : Nat)
  /-- `MIRROR_ACK_RX` (R386). The Tilled device receives the Fallow device's acknowledgement of a mirror message and may then change the pin level or send the publication that waited for it. -/
  | mirrorAckRx (num : Nat)
  /-- `PCIE_COMPLETION_TIMEOUT` (R328). A non-posted request issued by the device gets no completion within 50 ms and is reported as a completion timeout under AER. -/
  | pcieCompletionTimeout (requester : Nat)
  deriving DecidableEq, Repr

end Sys2Proof
end

