-- ==== Sys2Proof/Decode.lean ====
section
/-!
DEFINITION. The command a word spells: no row of spec/opcode_table.json gives any bits, so no word spells one.
-/
namespace Sys2Proof

/-- The command that a word of `nbits` bits spells by the table's bits; every row's field list is empty, so there is none. -/
def decodeTableWord (nbits w : Nat) : Option Instr :=
  match nbits, w with
  | _, _ => none

end Sys2Proof
end

