-- ==== Sys2Proof/Config.lean ====
section
/-!
DEFINITION. What a device fixes or the spec leaves open: opaque constants, so that no proof can see a value (log entries 2, 3, 9, 11).
-/
namespace Sys2Proof.Config

/-- The partner of a port signals Low Power Idle (R61): CLK_PORT tick and port. -/
opaque partnerLpi : Nat → Nat → Bool
/-- The four words of the device UID (R40: "Per device"). -/
opaque uid : Nat → Word
/-- Attached DRAM beyond the first MiB, in MiB. -/
opaque dramMore : Fin 131072
/-- Attached DRAM in MiB: some, and at most 128 GiB (R463). -/
def dramMiB : Nat := dramMore.val + 1
/-- A DRAM address lies in a region with the secret tag (R38), whose place the spec does not give. -/
opaque secretDram : Nat → Bool
/-- Values the spec leaves open, applied to State.free. -/
opaque freeWord : Nat → Word
/-- Random bytes that the device draws (R398), by number of draws made. -/
opaque random : Nat → List Byte

/-! ### Numbers: functions whose values the spec does not give bit by bit -/

/-- Angle in radians of the complex value (re, im). -/
opaque arg32 : Word → Word → Word
/-- Cosine and sine of an angle in units of a turn / 2^32. -/
opaque cosSin : Word → Word × Word
/-- Payload of the NaN that an operation gives. -/
opaque nanOp : Word → Word → Word

/-- Cosine and sine of an angle in radians, binary32. -/
opaque cosSinRad : Word → Word × Word
/-- e^x, binary32. -/
opaque exp32 : Word → Word
/-- Length in bytes, without FCS, of a configuration or header frame of an output stream, which carries names that the spec does not give: kind, and channels. -/
opaque frameLen : Nat → Nat → Nat
/-- The 16-bit integer field of a value in units (R86, R87), whose rounding the spec does not state: 0 phasor part, magnitude or analog value, 1 FREQ, 2 DFREQ, 3 angle; value and unit. -/
opaque outInt : Nat → Word → Word → Half

/-- Tap of the Hilbert filter of R171 at a distance of 1 to 240 from its centre; the tap on the other side is its negative and the centre is 0. -/
opaque hilbertTap : Nat → Word
/-- An increment of R174 that does not fit 64 bits, of m x 2^e W, var or VA: what the conversion to u64 gives then is open. -/
opaque energyOver : Int → Int → Nat
/-- p and q (R172) of samples that are not finite, as numbers m x 2^e: the four words. -/
opaque powerOf : List Word → (Int × Int) × (Int × Int)
/-- A DRAM address lies in the region that keeps the meter accumulators (R186), whose place the spec does not give. -/
opaque meterDram : Nat → Bool

/-- Natural logarithm. -/
opaque ln32 : Word → Word
/-- A tap of the symmetric decimation filter of R193: row rate, FMAX in 0.01 Hz, ratio q, distance from the centre. -/
opaque oscTap : Nat → Nat → Nat → Nat → Word
/-- Least-squares solution of R196: rows, columns, both matrices row by row. -/
opaque lstsq : Nat → Nat → List Word → List Word → List Word
/-- Eigenpairs of an n x n matrix (R196): eigenvalue and unit eigenvector. -/
opaque eig : Nat → List Word → List ((Word × Word) × List (Word × Word))

/-- Approximate degree of a bus in the elimination order of R222, whose approximation the spec does not give: edges of G, buses eliminated, bus. -/
opaque amdDegree : List (Nat × Nat) → List Nat → Nat → Nat

/-- The intake of a recorder is full because DRAM writes have fallen behind (R318), which depends on traffic that the model has not: tick and recorder. -/
opaque captureBehind : Nat → Nat → Bool
/-- Bytes of a Hedgerow packet, whose encoding the spec does not give: kind of body and number of items. -/
opaque packetSize : Nat → Nat → Nat
/-- A graph meets R241, R252 and Table 05-5 on another device (R369, R370), which the spec does not say how a device learns: index of the free value, device, owner and graph. -/
opaque remoteFits : Nat → Nat → Nat → Nat → Bool
/-- What a library block gives where its function is not stated bit by bit: type, parameters, state, inputs, DT in µs; new state and outputs. -/
opaque block : Nat → List Word → List Word → List Word → Nat → List Word × List Word

/-- Catalogue number of an operator (R244): its place among the kinds of Operator. -/
opaque catalogueNumber : Nat → Nat
/-- What "real and complex arithmetic" (Table 10-1) gives where the spec does not say: operation, first and second input. -/
opaque arith : Nat → Word × Word → Word × Word → Word × Word
/-- Angle of a complex value in degrees, in (−180°, 180°]. -/
opaque argDegrees : Word → Word → Word
/-- Seconds in the unit of time of the slope of TREND (Table 10-1), which the spec does not give. -/
opaque trendUnit : Word

/-- Operations issued and completed, issued and discarded, and starved of operands in a CLK_PORT tick of an engine that runs an operator (R459): tick and engine. -/
opaque issueSlots : Nat → Nat → Nat × Nat × Nat
/-- Events of the memory traffic and stalls of Table 20-5 in a CLK_PORT tick: tick, event code and counter. -/
opaque trafficEvents : Nat → Nat → Nat → Nat
/-- Occupancy of the DRAM request queue at a tick (R460). -/
opaque dramQueue : Nat → Nat

/-! ### Cryptography: the functions of FIPS 180, 186-5, 198-1, SP 800-38D and SP 800-108 -/

opaque sha384 : List Byte → List Byte
/-- HMAC of an algorithm of R80 under a key. -/
opaque mac : Nat → List Byte → List Byte → List Byte
opaque ecdsaVerify : List Byte → List Byte → List Byte → Bool
opaque ecdsaSign : List Byte → List Byte → Nat → List Byte
/-- Public key of a private key. -/
opaque ecdsaPublic : List Byte → List Byte
/-- HMAC-SHA-384 of data under a key, the PRF of R394 and R401. -/
opaque hmac384 : List Byte → List Byte → List Byte
/-- ECC CDH shared value of a private key and a public point. -/
opaque ecdh : List Byte → List Byte → List Byte
/-- AES-256-GCM opening: key, IV, associated data, cipher text, tag. -/
opaque gcmOpen : List Byte → List Byte → List Byte → List Byte → List Byte → Option (List Byte)
/-- AES wrapping of data under a key (use WRAP). -/
opaque wrap : List Byte → List Byte → List Byte
/-- The private state key that is derived from the working root (R394). -/
opaque stateKey : List Byte → List Byte
/-- The uncompressed form of a compressed P-384 point. -/
opaque decompress : List Byte → List Byte
/-- The root secret fused for a life-cycle state (R392). -/
opaque rootSecret : Nat → List Byte
/-- The hash the boot ROM holds for an image key index (R428). -/
opaque romKeyHash : Nat → List Byte
/-- The bytes of a firmware image that its signature covers: header and payload (R428). -/
opaque fwBytes : FwImage → List Byte
/-- The bytes of a configuration image that its signature covers (R431). -/
opaque cfgBytes : CfgImage → List Byte
/-- SHA-384 of the sections other than TWN, in directory order (R431). -/
opaque cfgDigest : CfgImage → BitVec 384

end Sys2Proof.Config
end

