-- ==== Sys2Proof/Machine/State.lean ====
section
/-!
DEFINITION. The state of the CHM-2500 as plain data.  After each field: width | rule of spec/ | value at reset | what it holds.
Times in "elapsed ns" count from reset on the undisturbed CLK_PORT clock; times in "ns" alone are Device Time.
-/
namespace Sys2Proof.Machine

/-! ### Station and management ports (02_station_ports.md) -/

/-- An entry of a pair's duplicate table (R49). -/
structure PrpEntry where
  mac : BitVec 48       -- 48 | R49 | - | source MAC address
  seqs : List Half      -- 16 each | R49 | - | sequence numbers recently seen
  lastUse : Nat         -- ns | R49 | - | elapsed time of its last use
  deriving DecidableEq, Repr

/-- A PRP pair (R48 to R51). -/
structure PairState where
  table : List PrpEntry := []   -- 8,192 entries | R49 | empty | duplicate table
  txSeq : Half := 0             -- 16 | R51 | DESIGN CHOICE 0 | next transmit sequence number
  lastRxA : Nat := 0            -- ns | R50 | 0 | elapsed time of the last frame on LAN A
  lastRxB : Nat := 0            -- ns | R50 | 0 | elapsed time of the last frame on LAN B
  lastSup : Option Nat := none  -- ns | R51 | none | elapsed time of the last supervision frame sent
  deriving DecidableEq, Repr

/-- Which receive pool a buffered frame took its cells from, and for whom (R53). -/
inductive PoolClass where
  | dec (lc : Nat) | sup | host
  deriving DecidableEq, Repr

/-- A frame held in a receive pool (R53). -/
structure PoolFrame where
  cls : PoolClass       -- - | R53 | - | decoder class, supervisor or host
  reserve : Nat         -- cells | R53 | - | cells taken from the LC0 reserve
  shared : Nat          -- cells | R53 | - | cells taken from the shared (or supervisor) pool
  stamp : Nat           -- 64 | R44 | - | receive time stamp
  frame : RxFrame       -- - | R53 | - | the frame
  deriving DecidableEq, Repr

/-- What a queued transmit frame carries. -/
inductive TxBody where
  | host (d : TxDesc) (port ring at_ : Nat)   -- descriptor, its ring, and where it lies in host memory
  | supervision
  | outStream (o : Nat) (bytes : List Byte)
  | outConfig (kind dataRate : Nat) (soc fracsec : Word) (cfg : OutRec)
  | rsv (p smpCnt smpSynch : Nat) (spdu : Word) (vals : List (Word × Word)) (tag : Nat)
  | alarmPub (p : Nat) (stNum sqNum : Word) (tal : Nat) (closure : Option Nat) (alarm : Nat) (elems : List (Word × Word))
  | cycPub (p : Nat) (stNum sqNum : Word) (tal : Nat) (elems : List (Word × Word))
  | ptp (kind : Nat) (seq : Half) (t : Nat)   -- 0 Pdelay_Resp with t2, 1 Pdelay_Resp_Follow_Up with t3, 2 Pdelay_Req, 3 Delay_Req
  | cfgRequest (stream : Nat) (cfg3 : Bool)
  deriving DecidableEq, Repr

/-- A frame waiting in, or sent from, a port's transmit queues (R57). -/
structure TxFrame where
  cls : Nat             -- - | R57 | - | 0 LC0, 1 supervisor, 2 LC1, 3 LC2, 4 LC3: the strict priority
  len : Nat             -- bytes | R58 | - | length with FCS, and trailer on a pair
  prp : Option (Half × BitVec 4)   -- 16, 4 | R51 | - | sequence number and LAN identifier on a pair
  body : TxBody         -- - | R57 | - | what the frame carries
  deriving DecidableEq, Repr

/-- What a port holds beside its registers. -/
structure PortState where
  pool : List PoolFrame := []        -- list | R53 | empty | frames held in the receive pools
  supFree : Nat := 128               -- cells | R53 | 128 | supervisor cells free
  txq : List TxFrame := []           -- list | R57 | empty | transmit queues, oldest first
  lastTx : Option TxFrame := none    -- - | R57 | none | the frame last put on the wire
  txts : List (Half × Nat) := []     -- 16 entries | R59 | empty | transmit time-stamp queue
  txPopped : Nat := 0                -- 64 | R60 | 0 | stamp of the popped entry
  txMaxlen : Nat := 1522             -- 14 | R47 | 1,522 | MAXLEN in effect on the transmit side
  rxPassed : Bool := false           -- 1 | R47 | false | receive direction has passed its boundary since SPT_COMMIT
  txPassed : Bool := false           -- 1 | R47 | false | transmit direction has passed its boundary since SPT_COMMIT
  wakeAt : Option Nat := none        -- ns | R62 | none | elapsed time at which a waking port may send
  ringIrq : List (Nat × Nat × Bool) := []  -- list | R56 | empty | host rings (transmit ring t as 32 + t): elapsed time of the last interrupt, and whether one waits
  deriving DecidableEq, Repr

/-! ### Stream decoding and output streams (03_stream_decoding.md) -/

/-- Arrival statistics of a stream (Table 05-2). -/
structure ArrStats where
  top1 : Nat := 0       -- 16 | R126 | 0 | largest offset in the window
  top2 : Nat := 0       -- 16 | R126 | 0 | second largest offset in the window
  n : Nat := 0          -- 32 | R126 | 0 | deliveries in the window
  q : Nat := 0          -- 16 | R126 | 0 | estimate in effect
  p : Nat := 0          -- 16 | R126 | 0 | value of the last completed window
  last : Nat := 0       -- 16 | R126 | 0 | offset of the last delivery
  learning : Bool := true  -- 1 | R126 | 1 | no window completed yet
  windows : Nat := 0    -- 32 | R126 | 0 | windows completed
  late : Nat := 0       -- 32 | R126 | 0 | LATE_CNT
  deriving DecidableEq, Repr

/-- The last accepted message of a GOOSE subscription (R85). -/
structure GooseLast where
  stamp : Nat           -- 64 | R85 | - | receive stamp
  tal : Nat             -- ms | R85 | - | TimeAllowedtoLive
  stNum : Word          -- 32 | R85 | - | stNum
  test : Bool           -- 1 | R85 | - | test or simulation
  ndsCom : Bool         -- 1 | R85 | - | ndsCom
  timeBad : Bool        -- 1 | R85 | - | t not synchronised
  vals : List Word      -- list | R85 | - | element values
  auth : Bool           -- 1 | R82 | - | authentication failed, under AUTH_POLICY MARK
  deriving DecidableEq, Repr

/-- A stream table entry (Table 03-1), with the device's per-stream memory. -/
structure StreamEntry where
  cfg : StreamRec                    -- bytes 0-95 | R66 | image | the record of the image
  state : StreamState                -- 8 | R66 | image | STATE
  lastSpdu : Word := 0               -- 32 | R66 | 0 | last accepted SPDU number
  stNum : Word := 0                  -- 32 | R66 | 0 | last stNum
  sqNum : Word := 0                  -- 32 | R66 | 0 | last sqNum
  tal : Word := 0                    -- 32 | R66 | 0 | TimeAllowedtoLive in ms
  newest : Option Nat := none        -- 64 | R66 | none | newest tag delivered
  dup : BitVec 256 := 0              -- 256 | R68 | 0 | duplicate bitmap
  lastStamp : Nat := 0               -- 64 | R66 | 0 | receive stamp of the last accepted frame
  stats : ArrStats := {}             -- bytes 160-191 | R126 | - | arrival statistics
  cnts : List Word := [0, 0, 0, 0, 0, 0, 0, 0]  -- 8 x 32 | R66 | 0 | accepted, duplicate, structure, authentication, replay, decimated, gap, withdrawn
  anySpdu : Bool := false            -- 1 | R81 | false | an SPDU has been accepted
  authFailed : Bool := false         -- 1 | R82 | false | a failure was logged since the last accepted PDU
  keyStale : Bool := false           -- 1 | R81 | false | KEY_STALE was logged since the last success
  revFailed : Bool := false          -- 1 | R78 | false | confRev mismatch was logged since the last accepted frame
  stat10 : List Bool := []           -- 1 per block | R76 | empty | STAT[10] of each block in the last frame
  goose : Option GooseLast := none   -- - | R85 | none | last accepted GOOSE message
  goosePrev : Option GooseLast := none -- - | R85 | none | the one before it, for a tag that lies before the newest stamp
  talLogged : Bool := false          -- 1 | R85 | false | expiry was logged since the last accepted message
  smpCnt : Option Nat := none        -- 16 | R79 | none | last smpCnt
  reparse : Option (Nat × Nat) := none -- - | R76 | none | attempts made and elapsed ns of the last one
  retryAt : Option Nat := none       -- ns | R76 | none | elapsed ns at which a REJECTED stream is tried again
  pendState : Option StreamState := none -- - | R482 | none | state taken at the next row boundary
  deriving DecidableEq, Repr

/-- Key fields staged for an entry (R83). -/
structure KeyShadow where
  curSlot : Option Half := none
  nextSlot : Option Half := none
  curKeyId : Option Word := none
  nextKeyId : Option Word := none
  deriving DecidableEq, Repr

/-- An output stream (R86 to R89). -/
structure OutState where
  cfg : OutRec                       -- - | R86 | image | record
  on : Bool := false                 -- 1 | R89 | AUTOSTART | transmission on
  pendAt : Option Nat := none        -- ns | R89 | none | second boundary at which a committed change applies
  pendCtrl : Word := 0               -- 32 | R89 | 0 | DEC_OUT_CTRL waiting for it
  pendWait : Word := 0               -- 32 | R89 | 0 | DEC_OUT_WAIT waiting for it
  lastTag : Option Nat := none       -- 64 | R87 | none | tag of the last frame built
  deriving DecidableEq, Repr

/-- An R-SV publication (R90). -/
structure RsvState where
  cfg : RsvRec                       -- - | R90 | image | record
  lastTag : Option Nat := none       -- 64 | R90 | none | tag of the last PDU sent
  deriving DecidableEq, Repr

/-- The stream decoder. -/
structure DecState where
  streams : List (Nat × StreamEntry) := []   -- 16,384 entries | R66 | empty | stream table
  map : List (Nat × MapEntry) := []          -- 270,336 entries | R69 | empty | channel map
  keys : List (Nat × KeyShadow) := []        -- list | R83 | empty | staged key fields
  outs : List OutState := []                 -- 64 | R86 | empty | output streams
  rsvs : List RsvState := []                 -- 32 | R90 | empty | R-SV publications
  commitWait : List Nat := []                -- 4 | R83, R8 | empty | rate groups whose commit point after DEC_COMMIT is still to come
  commitNeed : List Nat := []                -- 4 | R83 | empty | those of them with anything staged before the write
  deriving DecidableEq, Repr

/-! ### Device Time (04_device_time.md) -/

/-- The time engine beside its registers. -/
structure TimState where
  ns : Word := 0                  -- 32 | R93 | 0 | TIM_NS
  hi : Word := 0                  -- 32 | R94 | 0 | TIM_TIME_HI
  frac : Word := 0                -- 32 | R93 | DESIGN CHOICE 0 | hidden fraction register
  ticks : Nat := 0                -- ticks | R34 | 0 | CLK_PORT ticks since reset (the model's elapsed clock)
  freq : Int := 0                 -- 2^-32 ns | R99 | 0 | F minus nominal
  slew : Int := 0                 -- 2^-32 ns | R99 | 0 | slew term
  slewEnd : Option Nat := none    -- ticks | R99 | none | tick at which the slew has removed its offset
  overS : Nat := 0                -- count | R99 | 0 | consecutive measurements above S
  underL : Nat := 0               -- count | R99 | 0 | consecutive measurements within L
  over4L : Nat := 0               -- count | R99 | 0 | consecutive measurements above 4 L
  prev : Option (Int × Nat) := none  -- - | R99 | none | previous offset and its Device Time
  lastMeas : Nat := 0             -- ns | R99 | 0 | elapsed time of the last valid measurement
  bound : Nat := 0                -- ns | R101 | 0 | B of the source in use
  traceable : Bool := false       -- 1 | R101 | false | the source in use is traceable
  eLocked : Nat := 0              -- ns | R101 | 0 | E at the last measurement made in LOCKED
  lockedAt : Nat := 0             -- ns | R101 | 0 | elapsed time of the last measurement made in LOCKED, or of reset
  faults : List (Nat × Nat) := [] -- list | R99 | empty | sources declared faulty and elapsed ns at which that ends
  announces : List (Nat × PtpDataset × Nat) := []  -- list | R102 | empty | newest Announce of each master on each port and its elapsed time
  parent : Option (Nat × PtpDataset) := none       -- - | R102 | none | parent's port and dataset
  ptpSync : Option (Nat × Half × Nat × Int) := none -- - | R102 | none | two-step Sync awaiting its Follow_Up
  lastSync : Option Nat := none   -- ns | R100 | none | elapsed time of the last Sync from the parent
  pathDelay : List (Nat × Int) := []  -- ns | R103 | empty | mean path delay per port
  ptpSeq : Half := 0              -- 16 | R102 | 0 | sequence number of the last request
  ptpTx : List (Nat × Half × Nat) := []  -- list | R103 | empty | internal transmit stamp of the last message of a kind on a port, keyed 4 x port + kind, with its sequence number
  pdelay : List (Nat × Half × Nat × Nat × Int) := [] -- list | R102 | empty | two-step Pdelay_Resp awaiting its follow-up, by port: sequence number, t2, t4, correction
  lastSyncAt : Option (Nat × Int × Nat) := none -- - | R102 | none | port of the last Sync, the master's time of it and its receive stamp, for end-to-end delay
  irig : Option (Nat × Nat × Bool) := none  -- - | R100 | none | last frame's UTC second, its edge, and whether it followed another
  irigAt : Nat := 0               -- ns | R100 | 0 | elapsed time of the last frame
  pps : Option (Nat × Bool) := none  -- - | R100 | none | last edge and whether it followed another by 1 s
  lastPps : Nat := 0              -- ns | R105 | 0 | elapsed time of the last edge or counted miss
  checkDt : Nat := 0              -- 64 | R94 | 0 | Device Time at the previous extension check
  checkTicks : Nat := 0           -- ticks | R94 | 0 | ticks at the previous check
  utcLog : List (Nat × Int) := [] -- list | R109 | empty | UTC midnights at which a leap second applied and the offset before
  leapMid : Option Nat := none    -- s | R109 | none | S_mid of the pending leap second
  leapSrc : Bool := false         -- 1 | R109 | false | a source supplies leap information
  leapDone : Option (Nat × Bool) := none -- s | R110 | none | TAI second of the last applied leap and its direction
  ppsEnd : Option Nat := none     -- ns | R107 | none | elapsed time at which PPS_OUT returns inactive
  lastSec : Nat := 0              -- s | R101 | 0 | last second boundary evaluated
  valLog : List (Nat × Byte) := [] -- list | R17, R298 | empty | changes of the time validity, newest first: Device Time of the change and the validity before it
  deriving DecidableEq, Repr

/-! ### Alignment engine (05_alignment.md) -/


/-- A row in flight: its header (Table 00-6), its slots, and the settings it opened with (R118, R142). -/
structure Furrow where
  tag : Nat             -- 64 | R14 | - | tag
  idx : Nat             -- 64 | R139 | - | row index n
  flags : Byte          -- 8 | R15 | - | row flags
  rev : Half := 0       -- 16 | R135 | 0 | revision
  closed : BitVec 64 := 0   -- 64 | R14 | 0 | section-closed bitmap
  onDl : BitVec 64 := 0     -- 64 | R14 | 0 | section-on-deadline bitmap
  filled : Nat := 0     -- 32 | R124 | 0 | filled slots
  missing : Nat := 0    -- 32 | R124 | 0 | MISSING slots
  wseq : Word := 0      -- 32 | R135 | 0 | write sequence
  slots : List (Nat × Slot) := []   -- list | R118 | empty | slots written, by channel
  delivered : List (Nat × Nat) := []  -- list | R120 | empty | (section, stream) deliveries
  deadlines : List Nat  -- ns | R125 | - | deadline of each section
  hg : Nat              -- ns | R117 | - | group maximum headland the row opened with
  bare : BitVec 64 := 0     -- 64 | R120 | 0 | sections that had no waited-for member when it opened
  closedAt : List (Nat × Nat) := [] -- ns | R29 | empty | closure instant of each section
  deriving DecidableEq, Repr

/-- The newest VALID value of a HOLD_EN channel (R123). -/
structure HoldVal where
  a : Word
  b : Word
  q : Half
  src : Half
  tag : Nat
  deriving DecidableEq, Repr

/-- A late delivery in the Gleaner's intake (R133). -/
structure GleanEntry where
  rg : Nat
  tag : Nat
  stream : Half
  stamp : Nat
  derived : Bool
  slots : List (Nat × Slot)
  deriving DecidableEq, Repr

/-- A rate group beside its registers. -/
structure GroupState where
  nextS : Nat := 0      -- s | R113 | 0 | second of the next row to open
  nextK : Nat := 0      -- - | R113 | 0 | index within the second of the next row to open
  nextIdx : Nat := 0    -- 64 | R116 | 0 | row index of the next row to open
  tag0S : Nat := 0      -- s | R139 | 0 | second of TAG0
  tag0K : Nat := 0      -- - | R139 | 0 | index of TAG0
  furrows : List Furrow := []          -- list | R117 | empty | rows in flight, oldest first
  holds : List (Nat × HoldVal) := []   -- 16,384 | R123 | empty | hold values
  skipped : List Nat := []             -- list | R129 | empty | row indices not produced, until WRIDX passes them
  nLost : Nat := 0                     -- 32 | R136 | 0 | notices lost so far
  conflictSec : Option Nat := none     -- s | R134 | none | second in which event 0x0503 was last logged
  gleanDrops : Nat := 0                -- 32 | R133 | 0 | Gleaner drops so far
  deriving DecidableEq, Repr

/-- The alignment engine. -/
structure AlnState where
  chans : List (Nat × ChanRec) := []   -- 262,144 | R144 | empty | channel records
  groups : List (Nat × GroupState) := []  -- 4 | R113 | empty | rate groups running
  intake : List GleanEntry := []       -- 4,096 | R133 | empty | Gleaner intake
  gleanFull : Bool := false            -- 1 | R133 | false | a delivery was dropped for lack of space since the last accepted one
  noticeLost : Bool := false           -- 1 | R136 | false | a notice of the host queue was lost since the last delivered
  kept : List (Nat × Furrow) := []     -- list | R87 | empty | retired rows, by rate group, of which an output frame is still to be built
  deriving DecidableEq, Repr

/-! ### Waveform chain (06_waveforms_and_phasors.md) -/

/-- An input sample, or a grid sample, of the Strainer with its quality (R147, R155). -/
structure WSample where
  t : Int               -- ns (scaled after stage 3) | R147 | - | time
  v : Word              -- 32 | R147 | - | value, f32
  q : Half              -- 16 | R155 | - | quality flags
  tq : Nat              -- 8 | R155 | - | time-quality code
  stamp : Nat           -- 64 | R152 | - | receive stamp
  env : Word := 0       -- 32 | R158 | 0 | envelope at a grid sample
  deriving DecidableEq, Repr

/-- A waveform channel beside its registers. -/
structure WavChan where
  fir : List WSample := []        -- list | R149 | empty | FIR inputs, newest first
  phase : Nat := 0                -- - | R149 | 0 | FIR inputs since the last decimated sample
  dec : List WSample := []        -- 4 | R151 | empty | decimated samples with scaled assigned times, newest first
  grid : List (Nat × WSample) := []  -- list | R151 | empty | grid outputs by grid index, newest first
  nextG : Option Nat := none      -- - | R151 | none | grid index of the next output
  good : Option WSample := none   -- - | R153 | none | last good input sample
  lastT : Option Nat := none      -- ns | R147 | none | t_in of the last sample accepted
  lastArr : Nat := 0              -- ns | R154 | 0 | elapsed time of the last sample
  nR : Nat := 0                   -- - | R162 | 0 | n_r of the last reset
  d : Option Nat := none          -- - | R162 | none | D of the last reset, once its first FIR input is known
  tR : Nat := 0                   -- ns | R161 | 0 | t_r of the last reset
  env : Word := 0                 -- 32 | R158 | 0 | envelope
  old : Option (Nat × List Word) := none  -- - | R167 | none | a commit point and the CTRL, ENV_TC, SCALE and OFFSET that samples before it take
  sync : Option Nat := none       -- ns | R162 | none | t_r of a SYNC reset that waits for the first sample at or after it
  gapN : Nat := 0                 -- - | R163 | 0 | n_r of the last GAP reset, before which pending results are discarded
  deriving DecidableEq, Repr

/-- A local analog input (R164, R165). -/
structure AfeState where
  recent : List (Nat × Bool) := []   -- list | R165 | empty | sample times of the last HOLD ms and whether below 0.7 FS_h
  episode : Option Nat := none       -- ns | R164 | none | time of the last overload of the episode
  lowCic : List Word := []           -- 10 x 32 | R148 | 0 | integrators and combs of the low path
  highCic : List Word := []          -- 10 x 32 | R148 | 0 | integrators and combs of the high path
  deriving DecidableEq, Repr

/-- The waveform chain. -/
structure WavState where
  chans : List (Nat × WavChan) := []   -- 8,208 | R146 | empty | channels that hold anything
  outs : List (WavOutRec × Nat) := []  -- 4,096 | R159 | empty | outputs and the next tag of each, as second x rate + index
  coefs : List CoefSet := []           -- 16 | R168 | empty | coefficient sets
  afe : List (Nat × AfeState) := []    -- 16 | R164 | empty | local inputs
  syncAt : Option Nat := none          -- s | R161 | none | second at which the SYNC reset happens
  wasLocked : Bool := false            -- 1 | R161 | false | LOCKED has been entered since the last second boundary
  syncWait : Option (Nat × Bool) := none  -- - | R161 | none | a SYNC reset that no sample has reached yet: t_r, and whether it ends ARM
  oldHold : Option (Nat × Nat) := none -- - | R167 | none | a commit point and the AFE_HOLD in ms that samples before it take
  cal : List (Word × Word × Nat) := [] -- 24 | R166 | empty | calibration data in use
  deriving DecidableEq, Repr

/-! ### Energy metering (07_metering.md) -/

/-- An accumulator (R174). -/
structure Acc where
  val : BitVec 64 := 0    -- 64 | R174 | 0 | reading
  frac : Word := 0        -- 32 | R174 | 0 | hidden fraction
  wraps : Half := 0       -- 16 | R179 | 0 | wrap count
  deriving DecidableEq, Repr


/-- A meter point beside its registers. -/
structure MeterPoint where
  cfg : MeterRec                    -- - | R188 | image | channels and tables
  accs : List Acc := []             -- 40 | R173 | 0 | accumulators, 10 x element + index
  start : Nat := 0                  -- ns | R176 | 0 | start of the current steep
  stop : Nat := 0                   -- ns | R176 | 0 | end of the current steep
  nextN : Nat := 0                  -- - | R171 | 0 | grid index of the next metering sample
  samples : Nat := 0                -- 32 | R177 | 0 | samples accumulated
  flagged : Nat := 0                -- 32 | R177 | 0 | samples flagged
  missed : Nat := 0                 -- 32 | R177 | 0 | samples not produced
  seq : Word := 0                   -- 32 | R177 | 0 | record sequence number
  restored : Bool := false          -- 1 | R186 | 0 | next record carries RESTORED
  changed : Bool := false           -- 1 | R177 | 0 | current steep is the first after a commit
  held : Bool := false              -- 1 | R177 | 0 | a switch-over occurred in the steep
  staleSteep : Bool := false        -- 1 | R177 | 0 | the temperature was stale in the steep
  temp : Option Word := none        -- 32 | R181 | none | last VALID temperature
  stale : Bool := false             -- 1 | R181 | 0 | stale episode logged
  deriving DecidableEq, Repr

/-- A pulse output (R182, R183). -/
structure PulseState where
  total : Nat := 0                  -- - | R387 | 0 | pulses queued so far
  issued : Nat := 0                 -- - | R386 | 0 | pulses issued so far
  rem : Nat := 0                    -- 64 | R182 | 0 | divider remainder, in 2^-32 micro-units
  activeEnd : Option Nat := none    -- ns | R183 | none | elapsed time at which the pulse ends
  gapEnd : Nat := 0                 -- ns | R183 | 0 | elapsed time at which the gap ends
  lost : Nat := 0                   -- 32 | R183 | 0 | pulses lost so far
  lostRun : Bool := false           -- 1 | R183 | 0 | loss logged since the last issued pulse
  pin : Bool := false               -- 1 | R183 | inactive | level of MPk
  deriving DecidableEq, Repr

/-- A save of the metering state in NOR (R185). -/
structure MeterSave where
  copy : Nat                        -- 1 | R185 | - | NOR device
  time : Nat                        -- ns | R186 | - | Device Time of the save
  ok : Bool                         -- 1 | R185 | - | CRC holds
  points : List (Nat × List Acc × Word)  -- list | R185 | - | accumulators and sequence numbers
  rems : List Nat                   -- list | R185 | - | divider remainders
  addr : Nat := 0                   -- B | R185 | - | place in the ring of the NOR device
  deriving DecidableEq, Repr

/-- Energy metering. -/
structure MtrState where
  points : List (Nat × MeterPoint) := []   -- 64 | R170 | empty | meter points
  pulses : List PulseState := []           -- 8 | R182 | idle | MP0 to MP7
  tables : List (List TempPoint) := []     -- list | R188 | empty | temperature tables
  saves : List MeterSave := []             -- list | R185 | empty | metering partition of NOR
  saving : Option MeterSave := none        -- - | R185 | none | save in progress
  nextCopy : Nat := 0                      -- 1 | R185 | 0 | NOR device of the next save
  fronts : List Nat := [0, 0]              -- B x 2 | R185 | 0 | write front of each NOR device's metering partition
  kept : Option (List (Nat × List Acc × Word) × List Nat) := none  -- - | R186 | none | accumulators, sequence numbers and remainders that DRAM keeps across a warm reset
  keptBad : Bool := false                  -- 1 | R186 | false | an uncorrectable error has struck that copy: its CRC fails
  lastSave : Nat := 0                      -- ns | R185 | 0 | elapsed time of the last periodic save
  lost : Nat := 0                          -- 32 | R178 | 0 | notices lost so far
  deriving DecidableEq, Repr

/-! ### Oscillation analysis (08_oscillations.md) -/

/-- A mode identified by a refresh, or held in a slot (R196, R198). -/
structure OscMode where
  f : Word              -- 32 | R196 | - | frequency, Hz
  zeta : Word           -- 32 | R196 | - | damping, %
  e : Word              -- 32 | R196 | - | energy share
  shape : List (Word × Word)   -- 32 x 2 | R196 | - | mode shape
  deriving DecidableEq, Repr

/-- A mode slot (R198). -/
structure OscSlot where
  mode : Option OscMode := none   -- - | R198 | empty | mode held
  count : Nat := 0                -- - | R198 | 0 | tracking count
  below : Bool := false           -- 1 | R198 | false | damping below ZETA_ALARM has been logged
  deriving DecidableEq, Repr

/-- One analysis row of a group: its sequence number, its quality and the signals' values, none where not VALID (R193). -/
structure OscRow where
  seq : Nat
  tag : Nat
  q : Half
  raw : List (Option Word)     -- m f32 | R190 | - | values as the slots give them
  x : List (Option Word)       -- m f32 | R190 | - | values, SEL 3 unwrapped
  deriving DecidableEq, Repr

/-- One analysis sample of a group (R193): its number, the row that decided it, d and u of each signal, none where unusable. -/
structure OscSample where
  j : Nat
  need : Nat
  d : List (Option Word)
  u : List (Option Word)
  deriving DecidableEq, Repr

/-- A refresh on the matrix unit: what it found with the settings it started with (R196, R213). -/
structure OscRun where
  tag : Nat                        -- 64 | R195 | - | refresh tag
  startAt : Nat                    -- ns | R196 | - | elapsed time at which it started
  kept : List OscMode              -- list | R196 | - | modes kept, by descending energy
  modes : Nat                      -- 5 | R213 | - | MODES
  zetaAlarm : Nat                  -- 8 | R213 | - | ZETA_ALARM
  basis : List Word                -- P x n f32 | R196 | - | new basis
  q : Half                         -- 16 | R200 | - | union of flags over the rows newly added
  count : Word                     -- f32 | R200 | - | weighted count of usable columns
  total : Word                     -- f32 | R199 | - | weighted count of all columns
  deriving DecidableEq, Repr

/-- An ambient-analysis group beside its registers. -/
structure OscGroup where
  rows : List OscRow := []         -- 60 s | R197 | empty | row buffer, newest first
  samples : List OscSample := []   -- A_g | R211 | empty | sample buffer, newest first
  firstJ : Nat := 0                -- - | R194 | 0 | number of the first sample since the reset
  from_ : Nat := 0                 -- - | R201 | 0 | first row after the reset
  published : List Nat := []       -- list | R200 | empty | tags of furrows that OSC_PUB has written
  toPublish : List Nat := []       -- list | R200 | empty | tags that a graph left to the last closure
  lastCol : Nat := 0               -- - | R194 | 0 | number of the next column to add to C
  lastRow : Nat := 0               -- - | R200 | 0 | sequence number up to which rows have been taken by a refresh
  cov : List Word := []            -- P x P f32 | R194 | 0 | covariance C
  basis : List Word := []          -- P x n f32 | R196 | initial | subspace basis
  count : Word := 0                -- f32 | R200 | 0 | weighted count of usable columns
  total : Word := 0                -- f32 | R199 | 0 | weighted count of all columns
  slots : List OscSlot := []       -- 16 | R198 | empty | mode slots
  queued : Option Nat := none      -- 64 | R195 | none | refresh tag queued
  waiting : List Nat := []         -- list | R195 | empty | refresh tags whose sections have not all closed
  running : Option OscRun := none  -- - | R195 | none | refresh running
  instant : Nat := 0               -- ns | R195 | 0 | last refresh instant seen
  nRefresh : Nat := 0              -- - | R212 | 0 | refreshes queued, for shedding
  notices : List (Nat × Bool) := []  -- list | R197 | empty | revised row tags (and NOTICE_LOST) queued
  lastDone : Nat := 0              -- ns | R200 | 0 | elapsed time of the last completed refresh
  lastTag : Option Nat := none     -- 64 | R199 | none | tag of the last completed refresh
  doneCount : Word := 0            -- f32 | R200 | 0 | weighted count of usable columns of the last completed refresh
  doneTotal : Word := 0            -- f32 | R199 | 0 | weighted count of all columns of the last completed refresh
  lastQ : Half := 0                -- 16 | R200 | 0 | union of SYNC_LOST, TIME_SUSPECT and TEST over the rows newly added
  thin : Bool := false             -- 1 | R200 | false | event 0x0804 logged in this episode
  deriving DecidableEq, Repr

/-- One band of a monitor (R204, R205). -/
structure BandState where
  filt : List Word := []           -- 2 biquads | R204 | 0 | filter state
  m2 : Word := 0                   -- f32 | R204 | 0 | mean square
  amps : List Word := []           -- N | R204 | empty | amplitudes of the last N rows, newest first
  zeta : Word := 0                 -- f32 | R204 | 0 | damping estimate
  alert : Bool := false            -- 1 | R205 | 0 | ALERT
  forced : Bool := false           -- 1 | R205 | 0 | FORCED
  ringdown : Bool := false         -- 1 | R205 | 0 | RINGDOWN
  growing : Bool := false          -- 1 | R205 | 0 | GROWING
  since : Nat := 0                 -- rows | R205 | 0 | rows for which ALERT has been set
  logged : List Bool := [false, false, false]  -- 3 | R205 | 0 | events logged in this ALERT episode
  deriving DecidableEq, Repr

/-- A band monitor (R203 to R206). -/
structure MonitorState where
  cfg : MonitorRec                 -- - | R203 | image | record
  bands : List BandState := []     -- 6 | R204 | 0 | bands
  lastX : Word := 0                -- f32 | R206 | 0 | last VALID x
  lastArg : Option Word := none    -- f32 | R190 | none | last unwrapped angle
  badRows : Nat := 0               -- rows | R206 | 0 | consecutive rows without VALID
  goodRows : Nat := 0              -- rows | R206 | 0 | VALID rows since reset
  lastOut : List (Nat × Slot) := []  -- list | R212 | empty | previous row's outputs
  stage : Option MonitorRec := none -- - | R213 | none | STAGED values
  ran : List Nat := []             -- list | R207 | empty | tags of furrows worked on
  deriving DecidableEq, Repr

/-- A branch of source location (R208, R209). -/
structure LocState where
  cfg : LocBranch                  -- - | R208 | image | record
  filt : List (List Word) := []    -- 4 x 2 biquads | R209 | 0 | filter states of P, Q, theta, ell
  prev : Option (Word × Word) := none  -- f32 x 2 | R209 | none | last filtered theta and ell
  lastArg : Option Word := none    -- f32 | R209 | none | last unwrapped theta
  w : Word := 0                    -- f32 | R209 | 0 | W
  ws : List (Nat × Word) := []     -- list | R209 | empty | W of the window's rows
  deriving DecidableEq, Repr

/-- The oscillation analyser. -/
structure OscState where
  groups : List (Nat × OscGroup) := []     -- 32 | R191 | empty | groups
  signals : List SignalRec := []           -- 2,048 | R191 | empty | signals
  monitors : List (Nat × MonitorState) := []  -- 16,384 | R203 | empty | band monitors
  branches : List LocState := []           -- 512 | R208 | empty | source-location branches
  locBase : Nat := 0                       -- 18 | R210 | 0 | output base of location
  locSince : Nat := 0                      -- ns | R210 | 0 | Device Time at which ACTIVE began
  locLogged : Bool := false                -- 1 | R210 | false | event 0x0806 logged since ACTIVE began
  locLast : List (Nat × Slot) := []        -- list | R212 | empty | previous row's outputs
  locEdges : Word × Word := (0, 0)         -- f32 x 2 | R208 | 0 | band taken when FORCED rose
  locRan : List Nat := []                  -- list | R210 | empty | tags of furrows worked on
  deriving DecidableEq, Repr

/-! ### Topology, state estimation and islands (09_topology_state_islands.md) -/

/-- A switching branch (R218, R219). -/
structure SwitchState where
  closed : Bool := false           -- 1 | R218 | DEFAULT | resolved state
  suspect : Bool := true           -- 1 | R218 | 1 | SUSPECT
  dbpos : Nat := 0                 -- 2 | R218 | 0 | last Dbpos received
  seen : Bool := false             -- 1 | R218 | 0 | a message has been accepted
  badSlot : Bool := false          -- 1 | R218 | 0 | status slot not VALID
  interAt : Option Nat := none     -- ns | R218 | none | stamp at which the intermediate state began
  interDone : Bool := false        -- 1 | R218 | 0 | intermediate time has expired
  prev : Bool := false             -- 1 | R218 | DEFAULT | state resolved without the override
  override : Option Bool := none   -- 2 | R219 | none | override
  deriving DecidableEq, Repr

/-- A column of the stored factor (R222). -/
structure FacCol where
  bus : Nat                        -- - | R222 | - | bus, by its lowest node
  d : Word                         -- f32 | R222 | - | entry of D
  low : List (Nat × (Word × Word)) -- list | R222 | - | entries of L below it, by bus
  deriving DecidableEq, Repr

/-- A factor of the gain matrix (R222). -/
structure Factor where
  ver : Nat                        -- 32 | R228 | - | topology version
  closed : List Bool               -- list | R222 | - | switching states it was built for
  inSet : List Bool                -- list | R222 | - | measurements of its set
  usable : List Bool               -- list | R221 | - | measurements of its set that are not null
  nnz : Nat                        -- - | R222 | - | nonzeros of L
  unobs : List Nat                 -- list | R222 | - | unobservable buses
  omega : List Word                -- list | R222 | - | Ω of each measurement
  cols : List FacCol               -- list | R222 | - | L and D, in elimination order
  critical : List Bool             -- list | R224 | - | critical or null measurements
  deriving DecidableEq, Repr

/-- A coherency group (R232). -/
structure CohGroup where
  ref : Nat                        -- - | R232 | - | reference signal
  mergeRows : List (Nat × Nat)     -- list | R232 | - | rows for which it has matched a lower group's reference
  deriving DecidableEq, Repr

/-- A row that the estimator and the island engine have begun (R220). -/
structure TopRow where
  idx : Nat                        -- 64 | R220 | - | row index
  tag : Nat                        -- 64 | R220 | - | tag
  start : Nat                      -- ns | R226 | - | elapsed start
  topo : List (Nat × Bool)         -- list | R220 | - | states of the switching branches
  factor : Option Factor           -- - | R228 | - | factor in use at its start
  meas : List Slot                 -- list | R223 | - | measurement slots
  cohs : List (Slot × Slot)        -- list | R232 | - | frequency and phasor slots of each signal
  seDone : Bool                    -- 1 | R226 | - | estimates written
  islDone : Bool                   -- 1 | R231 | - | islands written
  deriving DecidableEq, Repr

/-- Topology, estimator and islands. -/
structure TopState where
  nodes : List NodeRec := []               -- 20,480 | R216 | empty | node records
  branches : List BranchRec := []          -- 40,960 | R216 | empty | branch records
  meas : List MeasRec := []                -- 81,920 | R216 | empty | measurement records
  cohs : List CohRec := []                 -- 4,096 | R216 | empty | coherency records
  sBase : Word := 0                        -- f32 | R217 | image | S_BASE
  seBase : Nat := 0                        -- 18 | R225 | image | SE_BASE
  islSummary : Nat := 0                    -- 18 | R233 | image | ISL_SUMMARY channel
  sw : List (Nat × SwitchState) := []      -- list | R218 | DEFAULT | switching branches
  changes : List (Nat × Nat × Bool) := []  -- list | R220 | empty | (stamp, branch, state) of state changes
  baseline : List (Nat × Bool) := []       -- list | R220 | DEFAULT | states before every listed change
  factor : Option Factor := none           -- - | R228 | none | factor in use
  building : Option (Factor × Nat) := none -- - | R227 | none | refactorisation running and its start (elapsed ns)
  pending : Bool := false                  -- 1 | R227 | false | a cause is held
  coalesceAt : Option Nat := none          -- ns | R227 | none | Device Time at which the coalescing window ends
  want : List Bool := []                   -- list | R223 | all | measurement set in effect
  absentRun : List Nat := []               -- rows | R223 | 0 | rows for which a measurement of the set was absent
  presentRun : List Nat := []              -- rows | R223 | 0 | rows for which one outside it was VALID
  removedRun : List Nat := []              -- list | R224 | empty | measurements whose last row used them and removed them
  notEst : Bool := false                   -- 1 | R223 | false | a not-estimated episode is open
  rows : List TopRow := []                 -- list | R220 | empty | rows begun and not finished, oldest first
  lastRow : Option Nat := none             -- 64 | R226 | none | index of the last row begun
  lastOut : List (Nat × Slot) := []        -- list | R235 | empty | previous row's estimates
  energised : List (Option Nat) := []      -- list | R231 | none | label of each energised node in the previous row
  labels : List Nat := []                  -- list | R233 | - | label of each node in the previous row
  cohGroups : List (Nat × CohGroup) := []  -- 64 | R232 | empty | groups
  cohOf : List Nat := []                   -- 8 each | R232 | 0xFF | group of each signal
  cohOver : Bool := false                  -- 1 | R232 | false | overflow episode logged
  handleIdx : Nat := 0                     -- 16 | R227 | 0 | index of the refactorisation handle
  handleGen : Nat := 0                     -- 16 | R227 | 0 | generation
  waiters : List (Nat × Bool) := []        -- list | R227 | empty | host commands waiting, and whether a refactorisation has started since
  deriving DecidableEq, Repr

/-! ### Porac engines and the Harrow (10_porac_engines.md) -/

/-- A token on an arc (Graphs). -/
inductive Token where
  | value (s : Slot)
  | null
  deriving DecidableEq, Repr

/-- Where an operator instance stands (R246, R247, R251). -/
inductive OpPhase where
  | gathering | readyPending | ready | running (pe : Nat) | suspended (pe : Nat) | delayed | done | cancelled
  deriving DecidableEq, Repr

/-- An operator instance of a graph instance. -/
structure OpInst where
  node : Nat                       -- - | R242 | - | node
  phase : OpPhase                  -- - | R246 | - | where it stands
  inputs : List (Option Token)     -- 8 | R242 | - | tokens on its input ports
  entry : Bool                     -- 1 | R245 | - | holds a matching-store entry
  reserve : Bool                   -- 1 | R245 | - | the entry is of the LC0 reserve
  readyTick : Nat                  -- ticks | R246 | - | elapsed ns at which it became ready
  cancelRun : Bool                 -- 1 | R251 | - | cancelled after dispatch
  deriving DecidableEq, Repr

/-- A graph instance (Graphs). -/
structure GraphInst where
  id : Nat                         -- - | R242 | - | serial number of the instance
  graph : Nat                      -- 12 | R241 | - | graph
  key : Nat                        -- 64 | R241 | - | order key
  row : Option (Nat × Nat)         -- - | R241 | - | rate group and row index of a row trigger
  cluster : Nat                    -- 3 | R254 | - | cluster it runs in
  closure : Option Nat             -- ns | R29 | - | closure instant of the section that triggered it
  copying : Bool                   -- 1 | R254 | - | the graph's state is still being copied
  dead : Bool                      -- 1 | R251 | - | cancelled as a whole
  ops : List OpInst                -- list | R242 | - | operator instances
  deriving DecidableEq, Repr

/-- A trigger held in the alignment engine or at a graph (R242, R248). -/
structure HeldTrigger where
  key : Nat                        -- 64 | R241 | - | order key
  row : Option (Nat × Nat)         -- - | R241 | - | rate group and row index of a row trigger
  closure : Option Nat             -- ns | R29 | - | closure instant of the section that led to it
  counted : Bool                   -- 1 | R242 | - | counted as held
  deriving DecidableEq, Repr

/-- An entry of a cluster's delay list (R249). -/
structure DelayEntry where
  due : Nat                        -- ticks | R249 | - | due delay tick
  serial : Nat                     -- - | R249 | - | order of insertion
  inst : Option Nat                -- - | R249 | - | graph instance of a DELAY; none for a TIMER trigger
  graph : Nat                      -- 12 | R249 | - | graph
  node : Nat                       -- - | R249 | - | node of a DELAY
  token : Token                    -- - | R249 | - | token
  deriving DecidableEq, Repr

/-- A graph beside its record. -/
structure GraphState where
  cfg : GraphRec                   -- - | R258 | image | record
  cluster : Nat := 0               -- 3 | R252 | by the Sower | home cluster
  engine : Nat := 0                -- 6 | R252 | by the Sower | home engine of its first node
  homes : List Nat := []           -- 6 each | R252 | by the Sower | home engine of each node
  affinity : List Nat := []        -- 6 each | R246 | home | engine that last ran each node
  blocks : List (List Word) := []  -- list | R240 | initial | state block of each node
  halted : Bool := false           -- 1 | R250 | false | halted
  lost : Bool := false             -- 1 | R256 | false | state lost with a fenced engine
  awaits : Bool := false           -- 1 | R371 | false | its state is on the way from another device
  move : Option (Nat × Nat) := none  -- - | R254 | none | new cluster and the epoch boundary (s) a move waits from
  deferred : Bool := false         -- 1 | R254 | false | move deferred at the last boundary
  waiting : List HeldTrigger := [] -- list | R242 | empty | triggers held
  shedFlip : Bool := false         -- 1 | R255 | false | alternation of a graph that is not row-triggered
  lastOut : List (Nat × Slot) := []  -- list | R255 | empty | outputs of the previous row
  shared : List Bool := []         -- 1 each | R252 | by the Sower | state block of each node in shared SRAM
  busy : Nat := 0                  -- ns | R253 | 0 | engine time measured in the epoch
  load : Nat := 0                  -- us/s | R259 | 0 | engine time of the last epoch
  deriving DecidableEq, Repr

/-- An engine beside its registers. -/
structure EngineState where
  running : Option (Nat × Nat) := none    -- - | R246 | none | (graph instance, node) running
  suspended : Option (Nat × Nat) := none  -- - | R247 | none | suspended operator
  since : Nat := 0                 -- ns | R257 | 0 | elapsed time up to which busy time is accounted
  busy : List Nat := [0, 0, 0, 0, 0]  -- ns | R257 | 0 | busy time per class, and in all, in the load window
  deriving DecidableEq, Repr

/-- The engines and the Harrow. -/
structure DfsState where
  graphs : List (Nat × GraphState) := []  -- 4,096 | R241 | empty | graphs
  insts : List GraphInst := []            -- list | R242 | empty | unfinished graph instances, oldest first
  nextId : Nat := 0                       -- - | R242 | 0 | serial number of the next instance
  engines : List EngineState := []        -- 64 | R239 | idle | engines
  delays : List (List DelayEntry) := [[], [], [], [], [], [], [], []]  -- 512 per cluster | R249 | empty | delay lists
  delaySerial : Nat := 0                  -- - | R249 | 0 | insertions so far
  delayTick : Nat := 0                    -- ticks | R249 | 0 | last delay tick processed
  winStart : Nat := 0                     -- ns | R257 | 0 | elapsed start of the load window
  rebalance : List Nat := []              -- list | R253 | empty | handles of REBALANCE commands waiting
  epochStart : Nat := 0                   -- s | R253 | 0 | last epoch boundary
  reserveOut : List (Nat × Nat) := []     -- list | R260 | empty | (cluster, resource) for which 0x0A03 is logged
  shedTotal : Nat := 0                    -- 32 | R255 | 0 | instances shed so far
  deriving DecidableEq, Repr

/-! ### Cyclic control (11_cyclic_control.md) -/

/-- An input image entry (Table 11-4). -/
structure InEntry where
  val : Slot                       -- 16 B | R269 | MISSING | value
  time : Nat := 0                  -- 64 | R269 | 0 | time
  aux : Word := 0                  -- 32 | R269 | 0 | aux
  flags : Word := 0                -- 32 | R269 | 0 | flags
  deriving DecidableEq, Repr

/-- An output image entry (Table 11-6). -/
structure OutEntry where
  a : Word := 0                    -- 32 | R271 | 0 | value A
  b : Word := 0                    -- 32 | R271 | 0 | value B
  q : Half := 0                    -- 16 | R271 | 0 | quality word
  status : Half := 0               -- 16 | R271 | 0 | status
  cycle : Word := 0                -- 32 | R271 | 0 | cycle that wrote it
  deriving DecidableEq, Repr

/-- A task beside its registers. -/
structure TaskState where
  offset : Int := 0                -- ns | R261 | 0 | O_t
  start : Nat := 0                 -- ns | R262 | 0 | start instant of the cycle
  nextStart : Nat := 0             -- ns | R261 | 0 | next start instant
  wAt : Nat := 0                   -- ns | R262 | 0 | elapsed time of W
  running : Bool := false          -- 1 | R263 | 0 | logic is running
  waitingW : Bool := false         -- 1 | R262 | 0 | logic complete, W not reached
  overrun : Bool := false          -- 1 | R263 | 0 | the last cycle overran
  late : Bool := false             -- 1 | R263 | 0 | W has passed with the logic running
  skips : Nat := 0                 -- - | R264 | 0 | starts skipped since the previous cycle
  cycles : Nat := 0                -- - | R273 | 0 | cycles run since program start
  began : Nat := 0                 -- ns | R262 | 0 | elapsed start of the cycle
  written : List (Nat × OutEntry) := []  -- list | R271 | empty | output entries written by the cycle
  stopped : Bool := false          -- 1 | R275 | 0 | stopped by a fenced engine
  dt : Nat := 0                    -- us | R264 | 0 | DT of the cycle
  prevStart : Nat := 0             -- ns | R274 | 0 | start instant of the cycle before
  prevW : Nat := 0                 -- ns | R269 | 0 | W of the previous cycle
  deriving DecidableEq, Repr

/-- The last value accepted from a peer's output (R273). -/
structure PeerVal where
  writer : Nat
  output : Nat
  a : Word
  b : Word
  q : Half
  startGts : Nat
  cycle : Word
  gts : Nat
  deriving DecidableEq, Repr

/-- A publication of the cyclic engine, or of ALM (R272, R293). -/
structure PubState where
  cfg : PubRec                     -- - | R272 | image | record
  stNum : Word := 1                -- 32 | R272 | 1 | stNum
  sqNum : Word := 0                -- 32 | R272 | 0 | sqNum
  spdu : Word := 0                 -- 32 | R272 | 0 | SPDU number of the last PDU
  elems : List (Word × Half) := [] -- list | R272 | empty | elements as last published
  spacing : Nat := 0               -- ns | R272 | 0 | spacing to the next message
  nextAt : Option Nat := none      -- ns | R272 | none | elapsed time of the next retransmission
  tSince : Nat := 0                -- ns | R272 | 0 | field t
  change : Option Nat := none      -- ns | R293 | none | a change waits to be sent, with its earliest closure
  alarm : Nat := 0                 -- - | R41 | 0 | alarm of that change
  deriving DecidableEq, Repr

/-- A destination (R276). -/
structure DestState where
  cfg : DestRec                    -- - | R276 | image | record
  live : Bool := false             -- 1 | R276 | false | LIVE
  since : Nat := 0                 -- ns | R269 | 0 | GTS of the last change of LIVE
  losses : Nat := 0                -- 32 | R269 | 0 | loss episodes
  deriving DecidableEq, Repr

/-- The state of a detector as CYC sees it (R269). -/
structure DetState where
  alarm : Nat                      -- 12 | R269 | - | alarm
  active : Bool                    -- 1 | R269 | - | result
  gts : Nat                        -- 64 | R269 | - | GTS of the last change
  changes : List Nat := [0, 0, 0, 0]  -- 4 x 32 | R269 | 0 | changes since each task's last freeze
  rose : List Bool := [false, false, false, false]  -- 4 | R269 | 0 | ROSE for each task
  fell : List Bool := [false, false, false, false]  -- 4 | R269 | 0 | FELL for each task
  deriving DecidableEq, Repr

/-- A program area (R266). -/
structure ProgArea where
  prog : CycProgram                -- - | R266 | image | program
  inst : List (List Word)          -- 2 MiB | R267 | initial | state of each instance
  params : List (List Word)        -- 2 MiB | R267 | image | parameters of each instance
  fresh : List Bool                -- list | R279 | - | instances in their first cycle
  deriving DecidableEq, Repr

/-- The cyclic control engine. -/
structure CycState where
  run : Option ProgArea := none        -- - | R266 | none | running program
  standby : Option ProgArea := none    -- - | R266 | none | standby program
  tasks : List TaskState := []         -- 4 | R261 | idle | CT0 to CT3
  inputs : List InEntry := []          -- 16,384 | R269 | MISSING | input image
  outputs : List OutEntry := []        -- 8,192 | R271 | 0 | output image
  pubs : List PubState := []           -- 64 | R272 | empty | publications
  dests : List DestState := []         -- 128 | R276 | empty | destinations
  peers : List PeerVal := []           -- list | R273 | empty | last values accepted
  heldPeer : List (Nat × OutEntry × Nat) := []  -- list | R277 | empty | held peer values by output entry, with W
  dets : List DetState := []           -- list | R269 | empty | detectors
  progStart : Nat := 0                 -- 64 | R273 | 0 | program start GTS
  latest : List (Nat × Nat × Slot × Half) := []  -- list | R269 | empty | newest slot of each input channel in a retired row: channel, tag, slot, revision
  releasePins : List Nat := []         -- list | R281 | empty | pins that take their inactive level at the first W after X
  gooseSeen : List (Nat × Word) := []  -- list | R269 | empty | stNum at the last freeze of each GOOSE input
  exch : Option (Nat × Nat) := none    -- - | R280 | none | handle of the exchange pending and the instant it was accepted
  standbyRan : Bool := false           -- 1 | R281 | false | the standby program is the one that ran before the last exchange
  parStage : List (Nat × Nat × Nat × Word) := []  -- list | R282 | empty | staged parameter writes (task, instance, offset, value)
  deriving DecidableEq, Repr

/-! ### Alarms and the event log (12_alarms_and_event_log.md) -/

/-- An alarm (R286 to R290). -/
structure AlarmState where
  cfg : AlarmRec                   -- - | R286 | image | definition in effect
  state : Nat := 0                 -- 2 | R288 | NORMAL | state of Table 12-1
  cond : Bool := false             -- 1 | R286 | inactive | condition
  chg : Half := 0                  -- 16 | R288 | 0 | CHG
  lastKey : Option Nat := none     -- 64 | R287 | none | order key of the last accepted handoff
  lastGts : Nat := 0               -- 64 | R287 | 0 | GTS of the last change
  last : Word × Word × Half := (0, 0, 0)  -- 32, 32, 16 | R294 | 0 | values and quality of the last handoff
  lag : Nat := 0                   -- 32 | R294 | 0 | its time from order key to handoff, in us
  stage : Option AlarmRec := none  -- - | R304 | none | STAGED definition
  deriving DecidableEq, Repr

/-- An alarm pin (R292, R271). -/
structure PinState where
  active : Bool := false           -- 1 | R292 | false | at its active level
  since : Nat := 0                 -- ns | R292 | 0 | elapsed time at which it became active
  holding : Bool := false          -- 1 | R292 | false | kept active by HOLD
  driven : Bool := false           -- 1 | R292, R423 | false | driven; false before the commit and on a Fallow device
  byCyc : Bool := false            -- 1 | R271 | image | owned by CYC
  byAlm : Bool := false            -- 1 | R292 | image | owned by ALM
  deriving DecidableEq, Repr

/-- The alarm block beside its registers. -/
structure AlmState where
  alarms : List (Nat × AlarmState) := []  -- 4,096 | R286 | empty | alarms
  pins : List PinState := [{}, {}, {}, {}, {}, {}, {}, {}]  -- 8 | R292 | inactive | AL0 to AL7
  pubs : List PubState := []              -- 64 | R293 | empty | alarm publications
  handoffs : List Handoff := []           -- list | R286 | empty | handoffs waiting to be taken
  queueLost : Nat := 0                    -- 32 | R294 | 0 | entries lost so far
  queueLostRun : Bool := false            -- 1 | R294 | false | loss logged since the last delivered entry
  deriving DecidableEq, Repr

/-- An event record (Table 00-8), before its number, marks and CRC: what a block submits. -/
structure Event where
  gts : Nat                        -- 64 | R17 | - | GTS
  source : Word                    -- 32 | R17 | - | source number
  code : Half                      -- 16 | R17 | - | event code
  sev : Nat                        -- 2 | R17 | - | severity
  synthetic : Bool                 -- 1 | R18 | - | SYNTHETIC
  remote : Bool                    -- 1 | R18 | - | REMOTE
  validity : Byte                  -- 8 | R17 | - | time validity
  payload : List Byte              -- 256 | R17 | - | payload bytes, from byte 24
  deriving DecidableEq, Repr

/-- A committed record. -/
structure LogRecord where
  ev : Event                       -- - | R298 | - | the event
  optime : Nat                     -- 32 | R298 | - | operating time in s
  pwrcyc : Nat                     -- 24 | R298 | - | power-cycle count
  seq : Word                       -- 32 | R298 | - | sequence number
  deriving DecidableEq, Repr

/-- A record place of the log partition (R298 to R301). -/
inductive LogPlace where
  | valid (r : LogRecord) | cleared | torn
  deriving DecidableEq, Repr

/-- A sector of the log partition: the places programmed so far, oldest first, and its erase count. -/
structure LogSector where
  places : List LogPlace := []     -- 1,024 | R298 | empty | places programmed since the last erase
  erases : Nat := 0                -- 17 | R300 | 0 | erase count
  deriving DecidableEq, Repr

/-- Losses that wait to be told in a LOST record (R297). -/
structure LostAcc where
  counts : List Nat := [0, 0, 0, 0]  -- 4 x 32 | R297 | 0 | events lost at severities 0 to 3
  first : Nat := 0                 -- 64 | R297 | 0 | GTS of the earliest lost event
  firstVal : Byte := 0             -- 8 | R298 | 0 | its time validity
  last : Nat := 0                  -- 64 | R297 | 0 | GTS of the latest lost event
  deriving DecidableEq, Repr

/-- The event recorder beside its registers. -/
structure EvrState where
  staging : List Event := []       -- 512 | R296 | empty | staging queue, head first
  lost : Option LostAcc := none    -- - | R297 | none | losses not yet told
  sectors : List (Nat × LogSector) := []  -- 1,024 | R298 | erased | sectors of the log that hold anything or were erased
  front : Nat := 0                 -- 10 | R298 | 0 | sector of the write front
  nextSeq : Word := 0              -- 32 | R298 | 0 | next sequence number
  optimeBase : Nat := 0            -- s | R298 | 0 | operating time at the last start
  startNs : Nat := 0               -- ns | R298 | 0 | elapsed time of that start
  pwrcyc : Nat := 0                -- 24 | R298 | 0 | power-cycle count
  lastBeat : Nat := 0              -- ns | R298 | 0 | elapsed time of the last heartbeat
  deriving DecidableEq, Repr

/-! ### Disturbance capture (13_disturbance_capture.md) -/

/-- A frame of a recorder (Table 13-2). -/
structure CapFrame where
  num : Nat                        -- 64 | R310 | - | frame number
  time : Nat                       -- 64 | R309 | - | row tag or grid instant
  rev : Half                       -- 16 | R309 | - | row revision
  flags : Byte                     -- 8 | R309 | - | row flags
  seq : Word                       -- 32 | R309 | - | row sequence number
  slots : List Slot                -- list | R309 | - | slots (ROW), or values with quality (WAVE)
  deriving DecidableEq, Repr

/-- A firing found (R312). -/
structure Firing where
  cond : Nat                       -- 3 | R312 | - | condition
  frame : Nat                      -- 64 | R312 | - | trigger frame k
  phi : Nat                        -- 9 | R312 | - | phi, 1 to 256
  gts : Nat                        -- 64 | R312 | - | trigger GTS
  deriving DecidableEq, Repr

/-- A capture (R316 to R321). -/
structure Capture where
  num : Nat                        -- 32 | R323 | - | capture number
  flags : Half := 0                -- 16 | R323 | 0 | flags of Table 13-4
  cause : Half                     -- 16 | R313 | - | cause mask
  trigCond : Nat                   -- 8 | R313 | - | TRIG_COND
  phi : Nat                        -- 8 | R312 | - | phi
  trigFrame : Nat                  -- 64 | R313 | - | trigger frame
  trigGts : Nat                    -- 64 | R312 | - | trigger GTS
  lastWanted : Nat                 -- 64 | R314 | - | last frame of the capture
  frames : List CapFrame           -- list | R317 | - | frames, oldest first
  events : List Event := []        -- list | R320 | empty | event records
  later : Nat := 0                 -- 16 | R314 | 0 | LATER_TRIG
  revisedAfter : Nat := 0          -- 16 | R321 | 0 | REVISED_AFTER
  revTags : List Nat := []         -- list | R321 | empty | rows of the capture with notices queued
  closeTime : Nat := 0             -- 64 | R323 | 0 | close time
  free : Bool := false             -- 1 | R317 | false | released, waiting for older captures
  exporting : Bool := false        -- 1 | R317 | false | being exported
  deriving DecidableEq, Repr

/-- A condition beside its registers (R311). -/
structure CapCond where
  hist : List (Option Word) := []  -- N + 1 | R311 | empty | values of the last frames, newest first
  fired : Bool := false            -- 1 | R311 | false | a discrete condition's last handoff was active
  deriving DecidableEq, Repr

/-- A recorder beside its registers. -/
structure RecorderState where
  cfg : RecorderRec                -- - | R308 | image | record
  conds : List CapCond := []       -- 8 | R311 | empty | conditions
  frames : List CapFrame := []     -- D_L | R310 | empty | live ring, oldest first
  widx : Nat := 0                  -- 64 | R310 | 0 | WIDX
  lastJ : Option Nat := none       -- 64 | R308 | none | grid index of the last WAVE frame
  armFrame : Nat := 0              -- 64 | R316 | 0 | frame number at which it was armed
  armTime : Nat := 0               -- ns | R315 | 0 | Device Time at which it was armed
  autoForce : Bool := false        -- 1 | R315 | false | a forced trigger waits for its frame
  firings : List Firing := []      -- list | R313 | empty | firings found
  waitDisc : List (Nat × Nat) := [] -- list | R312 | empty | discrete firings (condition, t_c) whose frame is not yet written
  gatherEnd : Option Nat := none   -- ns | R313 | none | elapsed time at which the gather window ends
  active : Option Capture := none  -- - | R314 | none | ACTIVE capture
  closeAt : Option Nat := none     -- ns | R315 | none | elapsed time at which it closes
  stored : List Capture := []      -- list | R317 | empty | stored captures, oldest first
  lastEnd : Option Nat := none     -- 64 | R316 | none | last frame of the previous capture
  events : List Event := []        -- 1,024 | R320 | empty | last matching events
  missedRun : Bool := false        -- 1 | R314 | false | event 0x0E07 logged since the last capture
  marks : List Nat := [0, 0, 0, 0] -- 4 x 64 | R322 | 0 | rewind marks
  deriving DecidableEq, Repr

/-- The capture block. -/
structure CapState where
  recs : List (Nat × RecorderState) := []  -- 16 | R308 | empty | recorders
  deriving DecidableEq, Repr

/-! ### Host interface, queues and commands (14_host_interface.md) -/

/-- A packet in a queue: its KIND and payload words (R334). -/
structure Packet where
  kind : Nat                       -- 8 | R334 | - | KIND
  words : List Word                -- 1 to 1,024 words | R334 | - | payload
  deriving DecidableEq, Repr

/-- A host POP read that waits (R336). -/
structure PopWait where
  n : Nat                          -- words | R336 | - | words asked for
  limit : Nat                      -- ns | R336 | - | elapsed time at which it expires
  deriving DecidableEq, Repr

/-- A queue beside its registers. -/
structure QueueState where
  packets : List Packet := []      -- list | R334 | empty | complete packets, oldest first
  taken : Option Nat := none       -- words | R336 | none | words of the head packet already read, its length word among them
  open_ : Option (List Word) := none  -- list | R334 | none | words of the open host packet
  discarding : Bool := false       -- 1 | R337 | false | PUSH writes are discarded up to the next PUSH_END
  rdPtr : Nat := 0                 -- 16 | R340 | 0 | read pointer
  rdCopy : Nat := 0                -- 16 | R340 | 0 | its second copy
  wrPtr : Nat := 0                 -- 16 | R340 | 0 | write pointer
  wrCopy : Nat := 0                -- 16 | R340 | 0 | its second copy
  waits : List PopWait := []       -- list | R336 | empty | stalled host reads, oldest first
  pushWait : List (List Word × Nat) := []  -- list | R337 | empty | PUSH writes held for credits, oldest first, and the elapsed time of each one's limit
  endWait : Option Word := none    -- 32 | R337 | none | PUSH_END held behind them
  irqArmed : Bool := true          -- 1 | R341 | true | may raise its vector
  irqAfter : Option Nat := none    -- ns | R341 | none | elapsed time at which ITR ends, once a POP has been read
  pushDrops : Nat := 0             -- 32 | R337 | 0 | host packets discarded so far
  deriving DecidableEq, Repr

/-- Disposition of a journal entry (Table 14-8). -/
inductive Disposition where
  | complete | resumable | redo | running | resumed
  deriving DecidableEq, Repr

/-- The work of a command, as its supervisor firmware holds it. -/
inductive OpWork where
  | export_ (recorder : Nat) (capture : Nat) (image : List Byte)
  | exportFrames (recorder mark first last : Nat)
  | archiveRead (source first count : Nat)
  | refactor
  | rebalance
  | progLoad (image : SlotImage)
  | progExchange (revert : Bool)
  | imageStage (component : Nat) (image : SlotImage)
  | imageActivate (component : Nat)
  | settingsSave (records : List SettingRec)
  | keyUpdate (msg : List Byte)
  | roleSwitch
  deriving DecidableEq, Repr

/-- A running long operation (R343). -/
structure LongOp where
  handle : Nat                     -- 32 | R345 | - | handle
  tag : Word                       -- 32 | R343 | - | tag
  opcode : Nat                     -- 16 | R343 | - | opcode
  progress : Bool                  -- 1 | R343 | - | PROGRESS
  items : Bool                     -- 1 | R347 | - | units are items, not bytes
  buf : Nat                        -- 64 | R342 | - | host buffer address
  len : Nat                        -- 32 | R342 | - | host buffer length
  step : Nat                       -- 16 | R347 | - | steps committed
  total : Nat                      -- 16 | R347 | - | total steps
  sizes : List Nat                 -- list | R347 | - | units of the steps
  units : Nat                      -- 64 | R347 | - | units committed
  result : Nat                     -- 64 | R344 | - | result so far
  cancelled : Bool                 -- 1 | R346 | - | stops at its next step boundary
  work : OpWork                    -- - | R343 | - | what it does
  deriving DecidableEq, Repr

/-- A journal entry (Table 14-8). -/
structure JournalEntry where
  handle : Nat                     -- 32 | R347 | - | handle
  tag : Word                       -- 32 | R347 | - | tag
  opcode : Nat                     -- 16 | R347 | - | opcode
  status : Nat                     -- 8 | R347 | - | status, 2 while running
  disp : Disposition               -- 8 | R347 | - | disposition
  step : Nat                       -- 16 | R347 | - | last committed step
  total : Nat                      -- 16 | R347 | - | total steps, or 0
  gts : Nat                        -- 64 | R347 | - | GTS of the last step commit
  units : Nat                      -- 64 | R347 | - | units committed
  unitItems : Bool                 -- 8 | R347 | - | unit
  resumedBy : Nat                  -- 32 | R349 | - | handle of the RESUME
  serial : Nat := 0                -- - | R349 | 0 | order in which its handle was issued
  ctx : Option LongOp := none      -- - | R347 | none | operation context, used by RESUME
  deriving DecidableEq, Repr

/-- A handle slot (R345). -/
structure HandleSlot where
  idx : Nat                        -- 10 | R345 | - | slot index
  gen : Nat                        -- 16 | R345 | - | generation
  deriving DecidableEq, Repr

/-- The host interface beside its registers. -/
structure HifState where
  queues : List (Nat × QueueState) := []   -- 128 | R333 | empty | queues
  ops : List LongOp := []                  -- 16 | R343 | empty | long operations
  slots : List HandleSlot := []            -- 1,024 | R345 | generation 0 | handle slots that have been used, most recently freed last
  nextSlot : Nat := 0                      -- 11 | R345 | 0 | slots never used start here
  journal : List (Nat × JournalEntry) := []  -- 1,024 | R347 | empty | journal entries by slot
  mirror : List (Nat × JournalEntry) := []   -- 1,024 | R347 | empty | entries mirrored from the Tilled device
  nextSerial : Nat := 0                    -- - | R349 | 0 | handles issued
  aer : List Nat := []                     -- list | R328 | empty | completion timeouts reported under AER, by requester
  busMaster : Bool := false                -- 1 | R332 | false | DMA to host memory permitted
  aperHeld : List (Nat × Nat × Nat) := []  -- list | R331 | empty | poisoned DRAM ranges
  q1Wait : List (List Word) := []          -- list | R337 | empty | completions that wait for space in Q1, oldest first
  vectors : List Nat := []                 -- list | R341 | empty | MSI-X vectors raised, oldest first
  cutShort : Nat × Nat := (0, 0)           -- 16, 16 | R348 | 0 | operations cut short by the last reset, and RESUMABLE among them
  flrs : Nat := 0                          -- 32 | R332 | 0 | packets lost at the last FLR
  deriving DecidableEq, Repr

/-! ### Joined systems (15_joined_systems.md) -/

/-- A Hedgerow link beside its registers. -/
structure LinkState where
  queue : List HgwPacket := []     -- list | R356 | empty | packets waiting, oldest first
  retries : Nat := 0               -- - | R355 | 0 | retries of the packet on the wire
  busyUntil : Nat := 0             -- ns | R356 | 0 | elapsed time at which the packet on the wire has been sent
  above : Nat := 0                 -- - | R366 | 0 | consecutive measurements beyond the limit
  below : Nat := 0                -- - | R366 | 0 | consecutive measurements within the limit
  deriving DecidableEq, Repr

/-- What is known of a device of the joined system (R358, R359). -/
structure DeviceInfo where
  seq : Nat := 0                   -- - | R359 | 0 | newest link-state message
  links : List (Nat × Nat) := []   -- list | R359 | empty | its links and their neighbours
  lastMsg : Nat := 0               -- ns | R359 | 0 | elapsed time of that message
  up : Bool := false               -- 1 | R359 | false | route up
  first : Option Nat := none       -- 3 | R358 | none | first link
  hops : Nat := 0                  -- 4 | R358 | 0 | hops
  deriving DecidableEq, Repr

/-- A section forwarded from another device (R360, R361). -/
structure FwdSection where
  owner : Nat                      -- 9 | R360 | - | device that closes it
  rg : Nat                         -- 2 | R360 | - | rate group
  sec : Nat                        -- 6 | R360 | - | section
  hmax : Nat                       -- ns | R361 | - | its maximum headland
  hg : Nat                         -- ns | R117 | - | maximum headland of its rate group, at which a row retires there
  rows : List (Nat × List (Nat × Slot)) := []  -- list | R360 | empty | slots that have arrived, by tag
  released : List Nat := []        -- list | R361 | empty | tags released
  deriving DecidableEq, Repr

/-- A cross-device placement under way (R370). -/
structure XPlacement where
  ver : Nat
  boundary : Nat
  moves : List (Nat × Nat × Nat)   -- owner, graph, device
  acks : List Nat
  deriving DecidableEq, Repr

/-- Joined systems. -/
structure HgwState where
  links : List LinkState := [{}, {}, {}, {}, {}, {}]  -- 6 | R353 | down | H0 to H5
  devices : List (Nat × DeviceInfo) := []  -- 512 | R358 | empty | route table
  pins : List (Nat × Nat × Nat) := []      -- 4,096 | R373 | empty | pin records: owner, graph, device
  fwd : List FwdSection := []              -- list | R361 | empty | forwarded sections consumed here
  pending : Option XPlacement := none      -- - | R370 | none | placement under way
  utils : List (Nat × Nat × Nat × List GraphLoad) := []  -- list | R370 | empty | utilisations received: device, busy time, engines, loads
  guests : List (Nat × Nat) := []          -- list | R369 | empty | guest graphs: owner, graph
  away : List (Nat × Nat × Nat) := []      -- list | R369, R371 | empty | devices of own graphs, newest first: graph, first row tag, device
  deferred : List (Nat × Nat × Nat × Nat) := []  -- list | R371 | empty | moves from here that wait: owner, graph, first row tag, device
  unsent : List (Nat × Nat × Nat × Nat) := []  -- list | R371 | empty | state moves that wait for a route: owner, graph, first row tag, device
  distLost : List (Nat × Nat) := []        -- list | R362 | empty | LC0 graphs here beyond 2 hops of their owner: owner, graph
  lastFlood : Nat := 0                     -- ns | R359 | 0 | elapsed time of the last flood
  floodSeq : Nat := 0                      -- - | R359 | 0 | number of the last flood
  evtLost : Nat := 0                       -- 32 | R364 | 0 | events lost so far
  evtLostRun : Bool := false               -- 1 | R364 | false | loss logged since the last delivered event
  t0 : List HgwPacket := []            -- list | R376 | empty | Hedgerow packets for the partner, to send or relayed, oldest first
  partnerLinks : List (Nat × Nat) := []  -- list | R376 | empty | usable Hedgerow links of the partner's side and their neighbours
  lc0Links : List Nat := []            -- 6 | R132, R368 | empty | links that LC0 packets of other devices have crossed since the last route change
  deriving DecidableEq, Repr

/-! ### Twin operation (16_twin_operation.md) -/

/-- Twin operation beside its registers. -/
structure TwnState where
  partner : Option TwinHello := none   -- - | R380 | none | what the partner told at the last training
  conflict : Bool := false             -- 1 | R380 | false | a side conflict holds
  commitAt : Nat := 0                  -- ns | R377 | 0 | elapsed time of the configuration commit
  heard : Bool := false                -- 1 | R377 | false | a partner has been heard since the commit
  t0Lost : Bool := false               -- 1 | R35 | false | T0 went down with its PLL
  pairStart : Nat := 0                 -- ns | R378 | 0 | elapsed time at which synchronisation began
  roleGts : Nat := 0                   -- 64 | R389 | 0 | role GTS
  report : Option HealthReport := none -- 64 B | R383 | none | last health report
  reportAt : Nat := 0                  -- ns | R383 | 0 | elapsed time of that report
  reportSeq : Word := 0                -- 32 | R383 | 0 | sequence number of the next report sent
  lastReport : Option HealthReport := none -- 64 B | R383 | none | last report this device sent
  reportSent : Nat := 0                -- ns | R383 | 0 | elapsed time of it
  selfTest : BitVec 4 := 0             -- 4 | R383 | 0 | FAULT bits 0 to 3 found by the self-test
  digests : List (Nat × Nat × Word) := []  -- list | R382 | empty | own row digests: rate group, tag, CRC
  early : List (Nat × Nat × Word) := []    -- list | R382 | empty | partner digests of rows not yet retired here
  winStart : Nat := 0                  -- ns | R382 | 0 | start of the compare window
  winMis : Nat := 0                    -- - | R382 | 0 | mismatches in the window
  winRg : Nat := 0                     -- 2 | R382 | 0 | rate group of the window's first mismatch
  lastMis : Nat := 0                   -- - | R383 | 0 | mismatches in the last window
  pendSwitch : Option (Nat × Nat) := none  -- - | R384 | none | handle and instant of a commanded switch-over
  ts : Option (Nat × Nat) := none      -- - | R385 | none | elapsed t_s and cause of the switch-over under way
  inputLoss : Option Nat := none       -- ns | R384 | none | elapsed time since which cause 4's condition holds
  fallow : Bool := false               -- 1 | R386 | false | the partner is FALLOW: the pair is TILLED and FALLOW
  pins : List Bool := [false, false, false, false, false, false, false, false]  -- 8 | R386 | inactive | mirrored pin levels
  pubs : List MirrorPub := []          -- list | R386 | empty | mirrored publications
  outTags : List (Nat × Nat) := []     -- list | R386 | empty | mirrored row tag of each output stream
  pulses : List (Nat × Nat × Option Nat) := []  -- 8 | R386 | empty | mirrored pulses issued and start of the pulse in progress
  unacked : List MirrorMsg := []       -- list | R386 | empty | mirror messages sent and not acknowledged, oldest first
  held : List (Nat × TxDest × Nat × Nat × TxBody) := []  -- list | R386 | empty | messages held until the mirror message of a number is acknowledged: destination, class, length and body
  nextMsg : Nat := 0                   -- - | R386 | 0 | number of the next mirror message
  acked : List Nat := []               -- list | R386 | empty | acknowledgements this device has sent, newest first
  cfgActivate : Option (Nat × Nat) := none  -- - | R443 | none | boundary of a forwarded CFG activation, and its handle
  deriving DecidableEq, Repr

/-! ### Keys and life cycle (17_keys_and_life_cycle.md) -/

/-- Key types (Table 17-3). -/
inductive KeyType where
  | empty | hmac256 | aes128 | aes256 | ecdsaPriv | ecdsaPub | kdf
  deriving DecidableEq, Repr

/-- A Caddy slot (Table 17-4). -/
structure KeySlot where
  typ : KeyType := .empty         -- 3 | R396 | EMPTY | type
  masters : BitVec 5 := 0         -- 5 | R396 | 0 | MASTERS
  secure : Bool := false          -- 1 | R396 | 0 | WORLD
  lcMask : BitVec 5 := 0          -- 5 | R396 | 0 | LC_MASK
  uses : BitVec 6 := 0            -- 6 | R396 | 0 | USES
  rederive : Bool := false        -- 1 | R396 | 0 | REDERIVE
  keyId : Word := 0               -- 32 | R396 | 0 | KEY_ID
  depth : Nat := 0                -- 3 | R396 | 0 | DEPTH
  parent : Half := 0xFFFF         -- 16 | R396 | 0xFFFF | PARENT
  pgen : Half := 0                -- 16 | R396 | 0 | PGEN
  gen : Half := 0                 -- 16 | R402 | 0 | GEN
  label : List Byte := []         -- 48 B | R401 | empty | label and context of a derived key
  material : List Byte := []      -- <= 48 B | R396 | empty | key material
  pubKey : List Byte := []        -- 97 B | R396 | empty | public key of an ECDSA slot
  deriving DecidableEq, Repr

/-- A Caddy operation running or waiting (R397). -/
structure CaddyOp where
  req : CaddyReq                  -- - | R397 | - | the request
  key : KeySlot                   -- - | R397 | - | the slot's type and key material, latched at its start
  deriving DecidableEq, Repr

/-- How a Caddy operation ended (R397, R404). -/
inductive CaddyResult where
  | done (result : List Byte)
  | badArg | tamper | badState | authFail | keyStale
  deriving DecidableEq, Repr

/-- The key store and the life cycle. -/
structure SecState where
  lc : Nat := 0                        -- 3 | R392 | DESIGN CHOICE 0 | life-cycle state in fuses
  returns : Nat := 0                   -- 2 | R393 | DESIGN CHOICE 0 | return fuses spent
  ownerHash : List Byte := []          -- 384 | R395 | DESIGN CHOICE empty | OWNER_HASH, empty in BLANK
  counter : BitVec 64 := 0             -- 64 | R400 | DESIGN CHOICE 0 | update counter in NOR
  slots : List (Nat × KeySlot) := []   -- 512 | R396 | empty | slots that are not EMPTY, or whose GEN is not 0
  share : Option (List Byte) := none   -- 256 | R398 | DESIGN CHOICE none | SHARE in the key RAM
  bkCounter : BitVec 64 := 0           -- 64 | R398 | 0 | backup copy of the update counter
  store : List (BitVec 64 × List (Nat × KeySlot) × List Byte) := []  -- 2 | R398 | empty | NOR copies, newest first: counter, slots, and the SHARE their storage key was derived from
  pendRecs : Option (List Byte) := none  -- - | R400 | none | committed message whose activation has not run
  ops : List CaddyOp := []             -- 70 | R397 | empty | operations running, oldest first
  queue : List CaddyOp := []           -- list | R397 | empty | operations waiting in order
  results : List (Nat × CaddyResult) := []  -- list | R397 | empty | results by request, newest first
  denied : List (Nat × Nat) := []      -- list | R397 | empty | second in which 0x1206 was last logged, by slot
  nDraws : Nat := 0                    -- - | R398 | 0 | random values drawn so far
  deriving DecidableEq, Repr

/-! ### Backup domain (18_backup_domain.md) -/

/-- A shadow set of the read group (R410). -/
structure Freeze where
  count : BitVec 48               -- 48 | R410 | - | shadow of the count
  prescale : Word                 -- 32 | R410 | - | shadow of the prescaler
  weekday : BitVec 3              -- 3 | R410 | - | shadow of the weekday
  since : Nat                     -- ns | R410 | - | elapsed time of the copy
  deriving DecidableEq, Repr

/-- The backup domain. -/
structure BkdState where
  count : BitVec 48 := 0          -- 48 | R409 | 0 | RTC count
  prescale : Word := 0            -- 32 | R414 | 0 | weekday prescaler
  weekday : BitVec 3 := 0         -- 3 | R414 | 0 | weekday
  alarm : BitVec 48 := 0          -- 48 | R415 | 0 | compare value
  armed : Bool := false           -- 1 | R415 | 0 | ARM
  fired : Bool := false           -- 1 | R415 | 0 | FIRED
  skipped : Bool := false         -- 1 | R415 | 0 | SKIPPED
  alarmAt : BitVec 48 := 0        -- 48 | R415 | 0 | count at the last firing
  sqwEn : Bool := false           -- 1 | R416 | 0 | SQW EN
  sqwDiv : BitVec 4 := 0          -- 4 | R416 | 0 | SQW DIV
  wakeAlarm : Bool := true        -- 1 | R417 | 1 | WAKE_ALARM
  wakeIn : Bool := true           -- 1 | R417 | 1 | WAKE_IN
  wakeTamper : Bool := false      -- 1 | R417 | 0 | WAKE_TAMPER
  wakePol : Bool := false         -- 1 | R417 | 0 | WAKE_POL
  latch : Bool := true            -- 1 | R417 | 1 | PWR_EN latch
  tampCtrl : Word := 0            -- 32 | R418 | 0 | BKD_TAMP_CTRL
  tampState : BitVec 7 := 0       -- 7 | R418 | 0 | inputs and conditions active now
  tampCause : Byte := 0           -- 8 | R419 | 0 | latched causes
  tampTick : BitVec 48 := 0       -- 48 | R419 | 0 | count at the first latched cause
  tampers : Half := 0             -- 16 | R419 | 0 | tampers since domain power-on
  rtcValid : Bool := false        -- 1 | R407 | 0 | RTC_VALID
  onVbat : Bool := false          -- 1 | R407 | 0 | ON_VBAT
  vbatLow : Bool := false         -- 1 | R407 | 0 | VBAT_LOW
  alarmPast : Bool := false       -- 1 | R415 | 0 | ALARM_PAST
  freezeTo : Bool := false        -- 1 | R410 | 0 | FREEZE_TIMEOUT
  hostFreeze : Option Freeze := none  -- - | R410 | none | host's shadows
  supFreeze : Option Freeze := none   -- - | R410 | none | supervisor firmware's shadows
  writes : List (Nat × Word) := []    -- list | R408 | empty | register writes that wait for the next edge, oldest first
  loaded : Bool := false          -- 1 | R409 | false | a load of the count replaces the next edge's increment
  tickLoHeld : Option Word := none  -- 32 | R409 | none | value of BKD_TICK_LO held for the write of BKD_TICK_HI
  alarmLoHeld : Option Word := none -- 32 | R415 | none | value of BKD_ALARM_LO held for the write of BKD_ALARM_HI
  lost : Bool := false            -- 1 | R407 | false | contents were lost and event 0x1305 is due at the first start
  offAlarm : Option (BitVec 48 × Bool) := none  -- - | R415 | none | firing while the main supply was off, not yet logged
  mainOn : Bool := true           -- 1 | R418 | true | the main supply is on
  lastSync : Option Nat := none   -- ns | R413 | none | elapsed time of the last comparison with UTC
  deriving DecidableEq, Repr

/-! ### Start-up, configuration and updates (19_start_up_and_updates.md) -/

/-- States of a component in the boot record (R426). -/
inductive CompState where
  | none | staging | staged | trial
  deriving DecidableEq, Repr


/-- A component's entry of the boot record, with its fuse counter (R426, R440). -/
structure CompRec where
  slotB : Bool := false           -- 1 | R426 | DESIGN CHOICE A | active slot
  state : CompState := .none      -- 2 | R426 | DESIGN CHOICE NONE | state
  imgA : SlotImage := .empty      -- - | R425 | DESIGN CHOICE empty | image in slot A
  imgB : SlotImage := .empty      -- - | R425 | DESIGN CHOICE empty | image in slot B
  deadline : Option Nat := .none  -- ns | R437 | none | elapsed time of the trial deadline
  fuses : Nat := 0                -- 6 | R440 | DESIGN CHOICE 0 | security fuse count
  lastFallback : Nat := 0         -- 3 | R442 | 0 | cause of the last fallback
  deriving DecidableEq, Repr

/-- Start-up and updates beside their registers. -/
structure BootState where
  comps : List CompRec := [{}, {}, {}, {}, {}]  -- 5 | R426 | DESIGN CHOICE empty | SUP, PEM, HGL, CAL, CFG
  recSeq : Nat := 0               -- 32 | R426 | 0 | boot record sequence number
  copies : List SettingsCopy := []  -- 2 | R435 | DESIGN CHOICE none | runtime settings copies, newest first
  resetAt : Nat := 0              -- ns | R422 | 0 | elapsed time of the last reset release
  straps : BitVec 4 := 1          -- 4 | R470 | DESIGN CHOICE 1 | straps sampled at the last release of PORST_N
  image : Option CfgImage := none -- - | R434 | none | configuration image committed
  outputsOff : Bool := true       -- 1 | R423 | true | outputs undriven, station ports silent
  porst : Bool := false           -- 1 | R469 | false | held in reset
  coldCause : Nat := 1            -- 4 | R422 | 1 | cause that the next cold start records
  cycSet : List SettingRec := []  -- list | R436 | empty | runtime settings of the cyclic program, for this start
  activate : Option Nat := none   -- 32 | R348 | none | handle of the IMAGE_ACTIVATE whose warm reset runs or is in trial
  halted : Bool := false          -- 1 | R470 | false | boot ROM halted before reading NOR
  deriving DecidableEq, Repr

/-! ### Health, faults and operating limits (20_health_faults_limits.md) -/

/-- An entry of the error stack (R448). -/
structure StackEntry where
  err : ErrorRec                  -- - | R448 | - | the error
  gts : Nat                       -- 64 | R451 | - | GTS of its detection
  val : Byte := 0                 -- 8 | R298 | - | time validity at that GTS
  order : Nat                     -- - | R448 | - | order of detection
  resumed : Bool                  -- 1 | R448 | - | its handling was pre-empted and resumes where it stopped
  deriving DecidableEq, Repr

/-- A record of the error area (R451). -/
structure AreaRec where
  err : ErrorRec                  -- - | R451 | - | the error
  gts : Nat                       -- 64 | R451 | - | its GTS
  val : Byte                      -- 8 | R298 | - | time validity at that GTS
  logged : Bool                   -- 1 | R451 | - | its event has been submitted
  deriving DecidableEq, Repr

/-- Health beside its registers. -/
structure HltState where
  stack : List StackEntry := []        -- 16 | R448 | empty | errors that wait for handling
  handling : Option (StackEntry × Nat) := none  -- - | R448 | none | error being handled and the elapsed start of its handling
  order : Nat := 0                     -- - | R448 | 0 | errors detected so far
  lostRun : Bool := false              -- 1 | R448 | false | 0x1506 logged since the last handled error
  e1At : List (Word × Nat) := []       -- list | R445 | empty | second in which 0x1501 was last logged, by source
  e2Count : List (Word × Nat × Nat) := [] -- list | R447 | empty | E2 errors of a source in a second
  e3At : List (Nat × Nat) := []        -- list | R447 | empty | elapsed time of the last E3 of each block
  active : Word := 0                   -- 32 | R451 | 0 | E3 active, one bit per block code
  e4 : Option Nat := none              -- ns | R450 | none | elapsed t_e of the E4 in progress
  area : List AreaRec := []            -- 16 | R451 | empty | error area: most recent E3 and E4 records, newest first
  temps : List Int := []               -- 24 | R453 | 0 | sensors in 0.1 degC
  thermLevel : Nat := 0                -- 2 | R453 | 0 | level by T_j
  currentLevel : Bool := false         -- 1 | R456 | false | level 1 forced by the current limit
  chanHot : List Bool := [false, false]  -- 2 | R457 | false | refresh doubled, by channel
  hotSince : List (Option Nat) := [none, none]  -- 2 | R457 | none | elapsed time since which the channel reads above 95 degC
  coolSince : List (Option Nat) := [none, none] -- 2 | R457 | none | elapsed time since which it reads below 82 degC
  dramLost : Bool := false             -- 1 | R41 | false | DDR5 clock has lost lock
  pllLost : List Nat := []           -- list | R35 | empty | ports and links (Table 01-10 numbers) whose PLL has lost lock and has not trained since
  deriving DecidableEq, Repr

/-! ### The whole machine -/

/-- The CHM-2500. -/
structure State where
  regs : List (Nat × Word)        -- 32 each | R5 | the reset column of each register table | the BAR0 registers that differ from their reset value, by BAR0 offset
  shadow : List (Nat × Word)      -- 32 each | R7 | empty | shadows of STAGED fields written since the last commit, by BAR0 offset
  loHold : List (Nat × Word)      -- 32 each | R3 | empty | _LO values held for the next write of _HI, by offset of the _LO register
  hiLatch : List (Nat × Word)     -- 32 each | R3 | empty | _HI values latched by a read of _LO, by offset of the _HI register
  committed : Bool                -- 1 | R434 | false | the configuration commit has happened
  dram : List Host.Cell           -- 8 each | R36 | empty | DRAM bytes that are not 0
  hostMem : List Host.Cell        -- 8 each | R332 | empty | host memory bytes the device has written
  ports : List PortState          -- 6 | R45 | see fields | S0 to S3, M0, M1
  pairs : List PairState          -- 2 | R48 | see fields | PRP pairs P0 and P1
  dec : DecState                  -- - | R66 | see fields | stream decoder
  tim : TimState                  -- - | R93 | see fields | time engine
  aln : AlnState                  -- - | R113 | see fields | alignment engine
  wav : WavState                  -- - | R146 | see fields | waveform chain
  mtr : MtrState                  -- - | R170 | see fields | energy metering
  osc : OscState                  -- - | R191 | see fields | oscillation analyser
  top : TopState                  -- - | R216 | see fields | topology, estimator, islands
  dfs : DfsState                  -- - | R239 | see fields | Porac engines and Harrow
  cyc : CycState                  -- - | R261 | see fields | cyclic control
  alm : AlmState                  -- - | R286 | see fields | alarms
  evr : EvrState                  -- - | R296 | see fields | event recorder
  cap : CapState                  -- - | R308 | see fields | capture
  hif : HifState                  -- - | R328 | see fields | host interface
  hgw : HgwState                  -- - | R353 | see fields | joined systems
  twn : TwnState                  -- - | R375 | see fields | twin operation
  sec : SecState                  -- - | R392 | see fields | keys and life cycle
  bkd : BkdState                  -- - | R407 | see fields | backup domain
  boot : BootState                -- - | R422 | see fields | start-up and updates
  hlt : HltState                  -- - | R445 | see fields | health
  free : Nat                      -- MODEL'S OWN | - | DESIGN CHOICE 0 | index of the next free value (log entry 3)
  readData : List Word            -- MODEL'S OWN | - | DESIGN CHOICE empty | words the last read command returned (log entry 4)
  pending : List Instr            -- MODEL'S OWN | - | empty | commands that wait, first in first out
  deriving DecidableEq, Repr

/-- Why the machine stops for good.  No command of this block does: the constructor is for a decoded command that no rule gives an effect. -/
inductive Fault where
  /-- Never raised by this model (safe): the spec gives every command an effect. -/
  | none
  deriving DecidableEq, Repr

/-- Why a command is refused. -/
inductive Refusal where
  /-- The command has no meaning in the model yet (safe): raised by an arm of exec. -/
  | notModelled (mnemonic : String)
  deriving DecidableEq, Repr

/-- The machine right after reset, before its first start (R422): registers at the reset column of their tables, memories empty, the backup domain just powered on, and no image in NOR (log entries 2, 5 and 6). -/
def State.reset : State where
  regs := []
  shadow := []
  loHold := []
  hiLatch := []
  committed := false
  dram := []
  hostMem := []
  ports := [{}, {}, {}, {}, {}, {}]
  pairs := [{}, {}]
  dec := {}
  tim := {}
  aln := {}
  wav := {}
  mtr := { pulses := [{}, {}, {}, {}, {}, {}, {}, {}] }
  osc := {}
  top := {}
  dfs := { engines := List.replicate 64 {} }
  cyc := { tasks := [{}, {}, {}, {}] }
  alm := {}
  evr := {}
  cap := {}
  hif := {}
  hgw := {}
  twn := {}
  sec := {}
  bkd := {}
  boot := {}
  hlt := {}
  free := 0
  readData := []
  pending := []

end Sys2Proof.Machine
end

