-- ==== Sys2Proof/Machine/RegMap.lean ====
section
/-!
DEFINITION. The BAR0 register map (R39, R40 and the register table of each chapter): addresses, access masks and reset values.
-/
namespace Sys2Proof.Machine

/-- Half of a 64-bit pair that is written under R3. -/
inductive PairHalf where
  | none | lo | hi
  deriving DecidableEq, Repr

/-- A register, or an array of n1 x n2 registers: access masks of Table 00-2 and the reset value. -/
structure RegDesc where
  off : Nat
  n1 : Nat
  s1 : Nat
  n2 : Nat
  s2 : Nat
  live : Word
  staged : Word
  locked : Word
  w1c : Word
  rc : Bool
  pair : PairHalf
  reset : Word
  deriving DecidableEq, Repr

namespace RegDesc

/-- RO. -/
def ro (off : Nat) (reset : Word := 0) : RegDesc := ⟨off, 1, 0, 1, 0, 0, 0, 0, 0, false, .none, reset⟩
/-- RC. -/
def cnt (off : Nat) (reset : Word := 0) : RegDesc := ⟨off, 1, 0, 1, 0, 0, 0, 0, 0, true, .none, reset⟩
/-- LIVE fields (RW, WO). -/
def rw (off : Nat) (mask reset : Word := 0) : RegDesc := ⟨off, 1, 0, 1, 0, mask, 0, 0, 0, false, .none, reset⟩
/-- STAGED fields (RWS). -/
def rws (off : Nat) (mask reset : Word := 0) : RegDesc := ⟨off, 1, 0, 1, 0, 0, mask, 0, 0, false, .none, reset⟩
/-- LOCKED fields (RWL). -/
def rwl (off : Nat) (mask reset : Word := 0) : RegDesc := ⟨off, 1, 0, 1, 0, 0, 0, mask, 0, false, .none, reset⟩
/-- An array of n registers at a stride. -/
def arr (d : RegDesc) (n s : Nat) : RegDesc := { d with n1 := n, s1 := s }
/-- An array of n1 x n2 registers. -/
def arr2 (d : RegDesc) (n1 s1 n2 s2 : Nat) : RegDesc := { d with n1 := n1, s1 := s1, n2 := n2, s2 := s2 }
/-- The half of a pair that it is. -/
def half (d : RegDesc) (h : PairHalf) : RegDesc := { d with pair := h }

/-- The descriptor covers the register at this offset of its block. -/
def covers (d : RegDesc) (a : Nat) : Bool :=
  d.off ≤ a && (a - d.off) / d.s1 < d.n1 && (a - d.off) % d.s1 / d.s2 < d.n2 && (a - d.off) % d.s1 % d.s2 == 0

end RegDesc

open RegDesc

/-- Registers of the SYS block. -/
def regsSYS : List RegDesc := [
  ro 0x0 0x43250021,
  ro 0x4 (Config.uid 0),
  ro 0x8 (Config.uid 1),
  ro 0xC (Config.uid 2),
  ro 0x10 (Config.uid 3),
  rwl 0x14 0x1FF 0,
  ro 0x18,
  ⟨0x1C, 1, 0x0, 1, 0x0, 0x0, 0x0, 0x0, 0xF, false, .none, 0⟩,
  ro 0x20,
  cnt 0x24,
  cnt 0x28,
  rw 0x2C 0xFFFFFFFF 0]

/-- Registers of the SPT block, part 1. -/
def regsSPT1 : List RegDesc := [
  ro 0x40014 0x180 |>.arr 2 0x10000,
  rwl 0x0 0x1037 0 |>.arr 6 0x10000,
  ro 0x4 |>.arr 6 0x10000,
  rws 0x8 0x3FFF 0x5F2 |>.arr 6 0x10000,
  rws 0xC 0x1F03 0 |>.arr 6 0x10000,
  ro 0x10 |>.arr 6 0x10000,
  ro 0x14 0x02000600 |>.arr 6 0x10000,
  rw 0x18 0xFFFFFFFF 0x3E8 |>.arr 6 0x10000,
  cnt 0x100 |>.arr 6 0x10000,
  cnt 0x104 |>.arr 6 0x10000,
  cnt 0x108 |>.arr 6 0x10000,
  cnt 0x10C |>.arr 6 0x10000,
  cnt 0x110 |>.arr 6 0x10000,
  cnt 0x114 |>.arr 6 0x10000,
  cnt 0x118 |>.arr 6 0x10000,
  cnt 0x11C |>.arr 6 0x10000,
  cnt 0x120 |>.arr 6 0x10000,
  cnt 0x124 |>.arr 6 0x10000,
  cnt 0x128 |>.arr 6 0x10000,
  cnt 0x12C |>.arr 6 0x10000,
  cnt 0x130 |>.arr 6 0x10000,
  cnt 0x134 |>.arr 6 0x10000,
  cnt 0x138 |>.arr 6 0x10000,
  cnt 0x13C |>.arr 6 0x10000,
  cnt 0x140 |>.arr 6 0x10000,
  cnt 0x144 |>.arr 6 0x10000,
  ro 0x200 |>.arr 6 0x10000,
  ro 0x204 |>.arr 6 0x10000 |>.half .lo,
  ro 0x208 |>.arr 6 0x10000 |>.half .hi,
  ⟨0x20C, 6, 0x10000, 1, 0x0, 0x0, 0x0, 0x0, 0x100, false, .none, 0⟩,
  rw 0x1000 0xFF3F0F01 0x400 |>.arr2 6 0x10000 32 0x40,
  rw 0x1004 0xFFFFFFFF 0 |>.arr2 6 0x10000 32 0x40 |>.half .lo,
  rw 0x1008 0xFFFFFFFF 0 |>.arr2 6 0x10000 32 0x40 |>.half .hi,
  rw 0x100C 0xFFF 0 |>.arr2 6 0x10000 32 0x40,
  ro 0x1010 |>.arr2 6 0x10000 32 0x40,
  cnt 0x1014 |>.arr2 6 0x10000 32 0x40,
  rw 0x1800 0xFF3F0F01 0x400 |>.arr2 6 0x10000 8 0x40,
  rw 0x1804 0xFFFFFFFF 0 |>.arr2 6 0x10000 8 0x40 |>.half .lo,
  rw 0x1808 0xFFFFFFFF 0 |>.arr2 6 0x10000 8 0x40 |>.half .hi,
  rw 0x180C 0xFFF 0 |>.arr2 6 0x10000 8 0x40]

/-- Registers of the SPT block, part 2. -/
def regsSPT2 : List RegDesc := [
  ro 0x1810 |>.arr2 6 0x10000 8 0x40,
  rws 0x2000 0x1F733F 0 |>.arr2 4 0x10000 256 0x20,
  rws 0x42000 0x1F733F 0 |>.arr2 2 0x10000 64 0x20,
  rws 0x2004 0xFF0FFF 0 |>.arr2 4 0x10000 256 0x20,
  rws 0x42004 0xFF0FFF 0 |>.arr2 2 0x10000 64 0x20,
  rws 0x2008 0xFFFFFFFF 0 |>.arr2 4 0x10000 256 0x20,
  rws 0x42008 0xFFFFFFFF 0 |>.arr2 2 0x10000 64 0x20,
  rws 0x200C 0xFFFFFFFF 0 |>.arr2 4 0x10000 256 0x20,
  rws 0x4200c 0xFFFFFFFF 0 |>.arr2 2 0x10000 64 0x20,
  rws 0x2010 0xFFFF 0 |>.arr2 4 0x10000 256 0x20,
  rws 0x42010 0xFFFF 0 |>.arr2 2 0x10000 64 0x20,
  rws 0x2014 0xFFFFFFFF 0 |>.arr2 4 0x10000 256 0x20,
  rws 0x42014 0xFFFFFFFF 0 |>.arr2 2 0x10000 64 0x20,
  rws 0x2018 0xFFFF 0 |>.arr2 4 0x10000 256 0x20,
  rws 0x42018 0xFFFF 0 |>.arr2 2 0x10000 64 0x20,
  cnt 0x201C |>.arr2 4 0x10000 256 0x20,
  cnt 0x4201c |>.arr2 2 0x10000 64 0x20,
  rwl 0x80000 0x1 0 |>.arr 2 0x100,
  cnt 0x80004 |>.arr 2 0x100,
  cnt 0x80008 |>.arr 2 0x100,
  ro 0x8000C |>.arr 2 0x100,
  ro 0xF0000]

/-- Registers of the SPT block. -/
def regsSPT : List RegDesc := regsSPT1 ++ regsSPT2

/-- Registers of the DEC block. -/
def regsDEC : List RegDesc := [
  rwl 0x0 0x10F 0x5,
  ro 0x4,
  ro 0x8,
  rws 0xC 0x3F 0x3C,
  rw 0x10 0x3FFF 0,
  ro 0x14,
  rws 0x18 0xFFFFFFFF 0,
  ro 0x1C,
  rws 0x20 0xFFFFFFFF 0,
  rws 0x24 0xFFFFFFFF 0,
  cnt 0x100,
  cnt 0x104,
  cnt 0x108,
  cnt 0x10C,
  cnt 0x110,
  cnt 0x114,
  cnt 0x118,
  cnt 0x11C,
  cnt 0x120,
  cnt 0x124,
  cnt 0x128,
  cnt 0x12C,
  cnt 0x130,
  cnt 0x134,
  cnt 0x138,
  ro 0x1000 |>.arr 64 0x4,
  ⟨0x2000, 64, 0x20, 1, 0x0, 0x0, 0xFF30, 0x1, 0x0, false, .none, 0x110⟩,
  ro 0x2004 |>.arr 64 0x20,
  cnt 0x2008 |>.arr 64 0x20,
  cnt 0x200C |>.arr 64 0x20,
  rws 0x2010 0xFFFFF 0x4E20 |>.arr 64 0x20,
  rws 0x3000 0x701 0 |>.arr 32 0x20,
  ro 0x3004 |>.arr 32 0x20,
  cnt 0x3008 |>.arr 32 0x20]

/-- Registers of the TIM block. -/
def regsTIM : List RegDesc := [
  rwl 0x0 0xF13 0x300,
  ro 0x4 0x7F00,
  ro 0x8,
  ro 0xC |>.half .lo,
  ro 0x10 |>.half .hi,
  rw 0x14 0xFFFFFFFF 0x8F5C28F6 |>.half .lo,
  rw 0x18 0xFF 0x2 |>.half .hi,
  ro 0x1C |>.half .lo,
  ro 0x20 |>.half .hi,
  rw 0x24 0xFFFF 0,
  rw 0x28 0x3 0,
  ro 0x2C 0xFFFFFFFF,
  ro 0x30,
  rw 0x34 0xFFFFFFFF 0x64,
  rw 0x38 0xFFFFFFFF 0x186A0,
  rw 0x3C 0xFFFFFFFF 0x14,
  rw 0x40 0xFFFFFFFF 0x2710,
  rwl 0x44 0x777 0x321,
  rwl 0x48 0x3FFF0F 0,
  rw 0x4C 0xFFFFFFFF 0x186A01,
  rwl 0x50 0xFFFFFFF3 0x640,
  rwl 0x54 0xFFFFFFF7 0,
  ro 0x58 |>.half .lo,
  ro 0x5C |>.half .hi,
  ⟨0x60, 1, 0x0, 1, 0x0, 0x0, 0x0, 0x0, 0x7, false, .none, 0⟩,
  rw 0x64 0x17 0,
  rw 0x68 0xFFFFFFFF 0xFFFFFFFF,
  cnt 0x80,
  cnt 0x84,
  cnt 0x88,
  cnt 0x8C,
  cnt 0x90,
  rwl 0x100 0xFFFFFFFF 0 |>.arr 6 0x10]

/-- Registers of the ALN block, part 1. -/
def regsALN1 : List RegDesc := [
  rwl 0x0 0xF 0,
  ro 0x4,
  ro 0x8,
  ⟨0xC, 1, 0x0, 1, 0x0, 0x0, 0x0, 0x0, 0xF, false, .none, 0⟩,
  ro 0x10,
  ro 0x14,
  ro 0x18,
  cnt 0x1C,
  rwl 0x20 0xFF 0,
  ro 0x24,
  rw 0x28 0x3FFFF 0,
  ro 0x2C,
  rwl 0x1000 0x7FFF 0 |>.arr 4 0x1000,
  rws 0x1004 0xFFFFFFFF 0x7D0 |>.arr 4 0x1000,
  rws 0x1008 0xFFFFFFFF 0x2710 |>.arr 4 0x1000,
  ro 0x100C |>.arr 4 0x1000,
  ro 0x1010 |>.arr 4 0x1000,
  ⟨0x1014, 4, 0x1000, 1, 0x0, 0x0, 0x70, 0x3, 0x0, false, .none, 0⟩,
  rwl 0x1018 0xFFFFFFFF 0 |>.arr 4 0x1000 |>.half .lo,
  rwl 0x101C 0xFFFFFFFF 0 |>.arr 4 0x1000 |>.half .hi,
  rwl 0x1020 0xFFFFFFFF 0 |>.arr 4 0x1000,
  ro 0x1024 |>.arr 4 0x1000,
  ro 0x1028 |>.arr 4 0x1000 |>.half .lo,
  ro 0x102C |>.arr 4 0x1000 |>.half .hi,
  ro 0x1030 |>.arr 4 0x1000,
  ro 0x1034 |>.arr 4 0x1000 |>.half .lo,
  ro 0x1038 |>.arr 4 0x1000 |>.half .hi,
  cnt 0x1100 |>.arr 4 0x1000,
  cnt 0x1104 |>.arr 4 0x1000,
  cnt 0x1108 |>.arr 4 0x1000,
  cnt 0x110C |>.arr 4 0x1000,
  cnt 0x1110 |>.arr 4 0x1000,
  cnt 0x1114 |>.arr 4 0x1000,
  cnt 0x1118 |>.arr 4 0x1000,
  cnt 0x111C |>.arr 4 0x1000,
  cnt 0x1120 |>.arr 4 0x1000,
  cnt 0x1124 |>.arr 4 0x1000,
  cnt 0x1128 |>.arr 4 0x1000,
  cnt 0x112C |>.arr 4 0x1000,
  cnt 0x1130 |>.arr 4 0x1000]

/-- Registers of the ALN block, part 2. -/
def regsALN2 : List RegDesc := [
  cnt 0x1134 |>.arr 4 0x1000,
  ⟨0x1400, 4, 0x1000, 64, 0x10, 0x0, 0x10, 0x3, 0x0, false, .none, 0⟩,
  rws 0x1404 0xFFFFFFFF 0x4E20 |>.arr2 4 0x1000 64 0x10,
  rws 0x1408 0xFFFFFFFF 0x10003E8 |>.arr2 4 0x1000 64 0x10,
  ro 0x140C |>.arr2 4 0x1000 64 0x10]

/-- Registers of the ALN block. -/
def regsALN : List RegDesc := regsALN1 ++ regsALN2

/-- Registers of the WAV block. -/
def regsWAV : List RegDesc := [
  ⟨0x90000, 16, 0x40, 1, 0, 0, 0x00FF0F10, 0x7, 0, false, .none, 0x00320008⟩,
  rwl 0x0 0x3 0,
  ro 0x4,
  ro 0x8,
  ⟨0xC, 1, 0x0, 1, 0x0, 0x0, 0x0, 0x0, 0xF, false, .none, 0⟩,
  rw 0x10 0x7 0,
  rw 0x14 0xFFFFFFFF 0 |>.half .lo,
  rw 0x18 0xFFFFFFFF 0 |>.half .hi,
  ro 0x1C |>.half .lo,
  ro 0x20 |>.half .hi,
  rws 0x24 0x3FF 0x14,
  ro 0x28,
  cnt 0x100,
  cnt 0x104,
  cnt 0x108,
  cnt 0x10C,
  rwl 0x800 0x13 0 |>.arr 16 0x10,
  ro 0x804 |>.arr 16 0x10,
  ⟨0x10000, 8208, 0x40, 1, 0x0, 0x0, 0xFF0F10, 0x7, 0x0, false, .none, 0x00320000⟩,
  rws 0x10004 0xF1FFF 0x1 |>.arr 8208 0x40,
  rws 0x10008 0x3FFFF 0 |>.arr 8208 0x40,
  rws 0x1000C 0x3FFF 0x64 |>.arr 8208 0x40,
  rws 0x10010 0xFFFFFFFF 0x3F800000 |>.arr 8208 0x40,
  rws 0x10014 0xFFFFFFFF 0 |>.arr 8208 0x40,
  ro 0x10018 |>.arr 8208 0x40,
  ro 0x1001C |>.arr 8208 0x40,
  ro 0x10020 |>.arr 8208 0x40,
  ro 0x10024 |>.arr 8208 0x40,
  cnt 0x10028 |>.arr 8208 0x40,
  cnt 0x1002C |>.arr 8208 0x40,
  cnt 0x10030 |>.arr 8208 0x40,
  cnt 0x10034 |>.arr 8208 0x40,
  cnt 0x10038 |>.arr 8208 0x40]

/-- Registers of the MTR block. -/
def regsMTR : List RegDesc := [
  rwl 0x0 0x1 0,
  ro 0x4,
  ro 0x8,
  ro 0xC,
  ⟨0x10, 1, 0x0, 1, 0x0, 0x0, 0x0, 0x0, 0x1, false, .none, 0⟩,
  rw 0x14 0xFFFFFFFF 0x384,
  ro 0x18,
  rw 0x1C 0x3F 0,
  rwl 0x20 0xFFFFFFFF 0 |>.half .lo,
  rwl 0x24 0xFFFFFFFF 0 |>.half .hi,
  rwl 0x28 0xFFFFFFFF 0,
  ro 0x2C |>.half .lo,
  ro 0x30 |>.half .hi,
  rwl 0x34 0xFF 0,
  cnt 0x100,
  cnt 0x104,
  cnt 0x108,
  cnt 0x10C,
  rws 0x800 0x3FF3FFF 0x640000 |>.arr 8 0x10,
  rws 0x804 0xFFFFFFFF 0x1 |>.arr 8 0x10,
  ro 0x808 |>.arr 8 0x10,
  cnt 0x80C |>.arr 8 0x10,
  ⟨0x1000, 64, 0x100, 1, 0x0, 0x0, 0x20, 0x1F, 0x0, false, .none, 0⟩,
  rws 0x1004 0xFFF 0x384 |>.arr 64 0x100,
  rwl 0x1008 0x3FFFF 0 |>.arr 64 0x100,
  ro 0x100C |>.arr 64 0x100,
  ro 0x1010 |>.arr 64 0x100 |>.half .lo,
  ro 0x1014 |>.arr 64 0x100 |>.half .hi,
  ro 0x1018 |>.arr 64 0x100,
  ro 0x8000 |>.arr 40 0x8 |>.half .lo,
  ro 0x8004 |>.arr 40 0x8 |>.half .hi,
  ro 0x8200 |>.arr 40 0x4]

/-- Registers of the OSC block, part 1. -/
def regsOSC1 : List RegDesc := [
  rwl 0x0 0x3 0,
  ro 0x4,
  ro 0x8,
  ⟨0xC, 1, 0x0, 1, 0x0, 0x0, 0x0, 0x0, 0xF, false, .none, 0⟩,
  rwl 0x10 0xFFFFFFFF 0 |>.half .lo,
  rwl 0x14 0xFFFFFFFF 0 |>.half .hi,
  rwl 0x18 0xFFFFFFFF 0,
  rw 0x1C 0x3FFF 0,
  rwl 0x20 0xBF0FFFFF 0,
  rws 0x24 0xFFFFFFFF 0xA1E03E8,
  ro 0x28,
  rws 0x40 0xFFFFFFFF 0 |>.arr 6 0x10,
  rws 0x44 0xFFFFFFFF 0 |>.arr 6 0x10,
  rws 0x48 0xFFFFFFFF 0 |>.arr 6 0x10,
  ro 0x4C |>.arr 6 0x10,
  cnt 0x100,
  cnt 0x104,
  cnt 0x108,
  cnt 0x10C,
  rwl 0x800 0x37 0,
  rws 0x804 0x73FFF1 0,
  rws 0x808 0xFFFFFFFF 0,
  rws 0x80C 0xFFFFFFFF 0,
  rws 0x810 0x7F 0x1E,
  ro 0x814,
  rwl 0x1000 0x107F7 0 |>.arr 32 0x100,
  rws 0x1004 0xFFFFFFFF 0xC8000A |>.arr 32 0x100,
  rws 0x1008 0x7FF 0x258 |>.arr 32 0x100,
  rws 0x100C 0x3FFF 0x3E8 |>.arr 32 0x100,
  rws 0x1010 0xFF1F1F 0x320008 |>.arr 32 0x100,
  ro 0x1014 |>.arr 32 0x100,
  ro 0x1018 |>.arr 32 0x100 |>.half .lo,
  ro 0x101C |>.arr 32 0x100 |>.half .hi,
  ro 0x1020 |>.arr 32 0x100,
  ro 0x1024 |>.arr 32 0x100,
  rwl 0x1028 0x3FFFF 0 |>.arr 32 0x100,
  cnt 0x1040 |>.arr 32 0x100,
  cnt 0x1044 |>.arr 32 0x100,
  cnt 0x1048 |>.arr 32 0x100,
  cnt 0x104C |>.arr 32 0x100]

/-- Registers of the OSC block, part 2. -/
def regsOSC2 : List RegDesc := [
  ro 0x1080 |>.arr2 32 0x100 16 0x8,
  ro 0x1084 |>.arr2 32 0x100 16 0x8]

/-- Registers of the OSC block. -/
def regsOSC : List RegDesc := regsOSC1 ++ regsOSC2

/-- Registers of the TOP block. -/
def regsTOP : List RegDesc := [
  rwl 0x0 0x3337 0,
  ro 0x4,
  ro 0x8,
  ⟨0xC, 1, 0x0, 1, 0x0, 0x0, 0x0, 0x0, 0x1, false, .none, 0⟩,
  ro 0x10,
  ro 0x14,
  ro 0x18,
  ro 0x1C,
  ro 0x20,
  ro 0x24,
  rws 0x28 0x7F 0x2,
  rws 0x2C 0xFFFF 0x1388,
  rws 0x30 0x1F 0x10,
  rws 0x34 0xFF 0x5,
  rws 0x38 0xFFFFFFFF 0x40800000,
  rws 0x3C 0xFFFFFFFF 0x3E99999A,
  rws 0x40 0xFFFFFFFF 0x3D4CCCCD,
  rws 0x44 0xFFFFFFFF 0x3F000000,
  rws 0x48 0xFF3F 0xA14,
  ro 0x4C,
  rw 0x50 0xFFFF 0,
  ro 0x54,
  rw 0x58 0x3 0,
  cnt 0x100,
  cnt 0x104,
  cnt 0x108,
  cnt 0x10C,
  cnt 0x110,
  cnt 0x114,
  cnt 0x118,
  cnt 0x11C,
  cnt 0x120,
  cnt 0x124,
  cnt 0x128,
  cnt 0x12C]

/-- Registers of the DFS block. -/
def regsDFS : List RegDesc := [
  ro 0x1700 0xF,
  rwl 0x0 0x1 0,
  ro 0x4,
  ro 0x8,
  rwl 0xC 0xFFFFFFFF 0x3C,
  rws 0x10 0xFFFF01 0x400A01,
  ro 0x14,
  rw 0x18 0xFFF 0,
  ro 0x1C,
  ro 0x20,
  rw 0x24 0xFFF 0,
  rw 0x28 0x3FF 0x64,
  rw 0x2C 0x37 0,
  cnt 0x40 |>.arr 16 0x4,
  cnt 0x100,
  cnt 0x104,
  cnt 0x108,
  cnt 0x10C,
  cnt 0x110,
  cnt 0x114,
  cnt 0x118,
  cnt 0x11C,
  cnt 0x120,
  cnt 0x124,
  cnt 0x128,
  ro 0x1000 0xFF |>.arr 8 0x100,
  ro 0x1004 |>.arr 8 0x100,
  cnt 0x1008 |>.arr 8 0x100,
  ro 0x100C |>.arr 8 0x100,
  ro 0x1010 |>.arr 8 0x100,
  ro 0x1014 |>.arr 8 0x100,
  ro 0x1018 |>.arr 8 0x100,
  ro 0x1020 |>.arr2 8 0x100 4 0x4,
  ro 0x4000 |>.arr 64 0x40,
  ro 0x4004 0xFFFFFFFF |>.arr 64 0x40,
  ro 0x4008 |>.arr 64 0x40,
  ro 0x400C |>.arr2 64 0x40 4 0x4,
  cnt 0x401C |>.arr 64 0x40,
  ro 0x4020 |>.arr 64 0x40]

/-- Registers of the CYC block. -/
def regsCYC : List RegDesc := [
  rwl 0x0 0xF1 0,
  ro 0x4 0x80,
  ro 0x8,
  ⟨0xC, 1, 0x0, 1, 0x0, 0x0, 0x0, 0x0, 0xF, false, .none, 0⟩,
  ro 0x10,
  ro 0x14,
  ro 0x18 |>.half .lo,
  ro 0x1C |>.half .hi,
  ro 0x20,
  ro 0x24,
  ro 0x28,
  ro 0x2C,
  rw 0x30 0x1FFF 0,
  rw 0x34 0xFFFC 0,
  rws 0x38 0xFFFFFFFF 0,
  rw 0x3C 0x73FFF 0,
  ro 0x40 |>.arr 8 0x4,
  rwl 0x1000 0xFFFFFFFF 0 |>.arr 4 0x100,
  rws 0x1004 0xFFFFFFFF 0 |>.arr 4 0x100,
  ro 0x1008 |>.arr 4 0x100,
  ro 0x100C |>.arr 4 0x100,
  cnt 0x1010 |>.arr 4 0x100,
  ro 0x1014 |>.arr 4 0x100,
  ro 0x1018 |>.arr 4 0x100,
  cnt 0x1040 |>.arr 4 0x100,
  cnt 0x1044 |>.arr 4 0x100,
  cnt 0x1048 |>.arr 4 0x100,
  cnt 0x104C |>.arr 4 0x100,
  ro 0x3000 |>.arr 128 0x10,
  cnt 0x3004 |>.arr 128 0x10]

/-- Registers of the ALM block. -/
def regsALM : List RegDesc := [
  rwl 0x0 0x1 0,
  ro 0x4,
  ro 0x8,
  ⟨0xC, 1, 0x0, 1, 0x0, 0x0, 0x0, 0x0, 0x1, false, .none, 0⟩,
  ro 0x10,
  ro 0x14,
  rw 0x18 0xFFF 0,
  ⟨0x1C, 1, 0x0, 1, 0x0, 0x0, 0xF, 0xBF3FFF30, 0x0, false, .none, 0⟩,
  ro 0x20,
  ro 0x24 |>.half .lo,
  ro 0x28 |>.half .hi,
  rwl 0x30 0xFF 0,
  ro 0x34,
  ⟨0x40, 8, 0x4, 1, 0x0, 0x0, 0x3FF0000, 0x3, 0x0, false, .none, 0⟩,
  cnt 0x100,
  cnt 0x104,
  cnt 0x108,
  cnt 0x10C,
  ro 0x2000 |>.arr 64 0x20,
  ro 0x2004 |>.arr 64 0x20,
  ro 0x2008 |>.arr 64 0x20,
  cnt 0x200C |>.arr 64 0x20]

/-- Registers of the EVR block. -/
def regsEVR : List RegDesc := [
  ro 0x0,
  ro 0x4,
  ro 0x8,
  ro 0xC,
  ro 0x10,
  ro 0x14,
  rw 0x18 0xFFFFFFFF 0,
  ro 0x1C,
  rwl 0x20 0xFF 0,
  ro 0x24,
  ro 0x28,
  ro 0x2C,
  ro 0x40 |>.arr 16 0x4,
  cnt 0x100,
  cnt 0x104 |>.arr 4 0x4,
  cnt 0x114 |>.arr 3 0x4,
  cnt 0x124,
  cnt 0x128,
  cnt 0x12C,
  cnt 0x130,
  cnt 0x134]

/-- Registers of the CAP block. -/
def regsCAP : List RegDesc := [
  rwl 0x0 0x3 0,
  ro 0x4,
  ro 0x8,
  ⟨0xC, 1, 0x0, 1, 0x0, 0x0, 0x0, 0x0, 0xFFFF, false, .none, 0⟩,
  rwl 0x10 0xFFFFFFFF 0 |>.half .lo,
  rwl 0x14 0xFFFFFFFF 0 |>.half .hi,
  rwl 0x18 0xFFFFFFFF 0,
  cnt 0x100,
  cnt 0x104,
  cnt 0x108,
  ⟨0x1000, 16, 0x200, 1, 0x0, 0x0, 0xF0, 0xFFF010F, 0x0, false, .none, 0⟩,
  ro 0x1004 |>.arr 16 0x200,
  ro 0x1008 |>.arr 16 0x200,
  rws 0x100C 0xFFFFFFFF 0 |>.arr 16 0x200,
  rws 0x1010 0xFFFFFFFF 0x1 |>.arr 16 0x200,
  rws 0x1014 0xFFFFFFFF 0x1 |>.arr 16 0x200,
  rws 0x1018 0xFFF 0x3C |>.arr 16 0x200,
  rws 0x101C 0x1FFFF 0x3E8 |>.arr 16 0x200,
  ro 0x1020 |>.arr 16 0x200 |>.half .lo,
  ro 0x1024 |>.arr 16 0x200 |>.half .hi,
  rwl 0x1028 0xFFFFFFFF 0 |>.arr 16 0x200,
  rwl 0x102C 0xFFFFFFFF 0 |>.arr 16 0x200,
  ro 0x1030 |>.arr 16 0x200,
  ro 0x1034 |>.arr 16 0x200,
  ro 0x1038 |>.arr 16 0x200,
  rws 0x103C 0x1FFF0003 0x1000001 |>.arr 16 0x200,
  rw 0x1040 0xFFFFFFFF 0 |>.arr2 16 0x200 4 0x10 |>.half .lo,
  rw 0x1044 0xFFFFFFFF 0 |>.arr2 16 0x200 4 0x10 |>.half .hi,
  ⟨0x1048, 16, 0x200, 4, 0x10, 0x0, 0x0, 0x0, 0x1, false, .none, 0⟩,
  cnt 0x104C |>.arr2 16 0x200 4 0x10,
  cnt 0x1080 |>.arr 16 0x200,
  cnt 0x1084 |>.arr 16 0x200,
  cnt 0x1088 |>.arr 16 0x200,
  cnt 0x108C |>.arr 16 0x200,
  rws 0x1090 0xFFFFFFFF 0xFFFFFFFF |>.arr 16 0x200,
  rws 0x1100 0xFF3F 0 |>.arr2 16 0x200 8 0x10,
  rws 0x1104 0xFFFFFFFF 0 |>.arr2 16 0x200 8 0x10,
  rws 0x1108 0xFFFFFFFF 0 |>.arr2 16 0x200 8 0x10,
  rws 0x110C 0xFFFFFFFF 0 |>.arr2 16 0x200 8 0x10]

/-- Registers of the HIF block. -/
def regsHIF : List RegDesc := [
  ⟨0x1000, 1, 0, 1, 0, 0, 0, 0x7F0000, 0, false, .none, 0x1019⟩,
  ⟨0x1020, 1, 0, 1, 0, 0, 0, 0x7F0000, 0, false, .none, 0x119⟩,
  ro 0x1004 0x10000000,
  ro 0x1024 0x10000000,
  rwl 0x0 0x3F01 0,
  ro 0x4,
  rw 0x8 0xFFFFFFFF 0x28,
  ro 0xC 0x25001F3D,
  rwl 0x10 0xFFFFFFFF 0 |>.half .lo,
  rwl 0x14 0xFFFFFFFF 0 |>.half .hi,
  rwl 0x18 0xFFFFFFFF 0 |>.half .lo,
  rwl 0x1C 0xFFFFFFFF 0 |>.half .hi,
  cnt 0x100,
  cnt 0x104,
  cnt 0x108,
  cnt 0x10C,
  cnt 0x110,
  cnt 0x114,
  cnt 0x118,
  cnt 0x11C,
  rwl 0x1000 0x7FFF1F 0 |>.arr 128 0x20,
  ro 0x1004 |>.arr 128 0x20,
  rw 0x1008 0xFFFFFF 0x1 |>.arr 128 0x20,
  ⟨0x100C, 128, 0x20, 1, 0x0, 0x0, 0x0, 0x0, 0x3, false, .none, 0⟩,
  cnt 0x1010 |>.arr 128 0x20,
  cnt 0x1014 |>.arr 128 0x20,
  cnt 0x1018 |>.arr 128 0x20,
  cnt 0x101C |>.arr 128 0x20]

/-- Registers of the HGW block. -/
def regsHGW : List RegDesc := [
  rwl 0x0 0x3F01 0,
  ro 0x4,
  rwl 0x8 0xFFF 0x111,
  ro 0xC,
  rwl 0x10 0xFFFFFFFF 0,
  rw 0x14 0x7F01 0xA01,
  rw 0x18 0xFFFFFFFF 0x64,
  rwl 0x1C 0xB1FF 0,
  rws 0x20 0xFFFFF1 0x400A10,
  ro 0x24,
  rw 0x28 0x1FF 0,
  ro 0x2C,
  ro 0x30,
  ro 0x34,
  cnt 0x100,
  cnt 0x104,
  cnt 0x108,
  cnt 0x10C,
  cnt 0x110,
  ro 0x1000 |>.arr 6 0x100,
  ro 0x1004 |>.arr 6 0x100,
  ro 0x1008 |>.arr 6 0x100,
  ro 0x100C |>.arr 6 0x100,
  cnt 0x1040 |>.arr 6 0x100,
  cnt 0x1044 |>.arr 6 0x100,
  cnt 0x1048 |>.arr 6 0x100,
  cnt 0x104C |>.arr 6 0x100]

/-- Registers of the TWN block. -/
def regsTWN : List RegDesc := [
  rwl 0x0 0xF 0,
  ro 0x4,
  rw 0x8 0xFFFFFFFF 0xA,
  ro 0xC |>.half .lo,
  ro 0x10 |>.half .hi,
  ro 0x14,
  ro 0x18,
  ro 0x1C,
  ro 0x20 0xFFFFFFFF,
  ro 0x24,
  ro 0x28,
  cnt 0x100,
  cnt 0x104,
  cnt 0x108,
  cnt 0x10C,
  cnt 0x110]

/-- Registers of the SEC block. -/
def regsSEC : List RegDesc := [
  rwl 0x0 0x1 0x1,
  ro 0x4,
  ⟨0x8, 1, 0x0, 1, 0x0, 0x0, 0x0, 0x0, 0xC, false, .none, 0⟩,
  ro 0xC,
  ro 0x10 |>.half .lo,
  ro 0x14 |>.half .hi,
  ro 0x18,
  rw 0x1C 0x1FF 0,
  ro 0x20,
  ro 0x24,
  ro 0x28,
  ro 0x2C 0xFFFF,
  ro 0x30,
  ro 0x40 |>.arr 25 0x4,
  ro 0xC0 |>.arr 25 0x4,
  ro 0x140 |>.arr 12 0x4,
  cnt 0x200,
  cnt 0x204,
  cnt 0x208,
  cnt 0x20C,
  cnt 0x210,
  cnt 0x214]

/-- Registers of the BKD block. -/
def regsBKD : List RegDesc := [
  rwl 0x0 0x3 0,
  ⟨0x4, 1, 0x0, 1, 0x0, 0x0, 0x0, 0x0, 0x18, false, .none, 0⟩,
  rw 0x8 0xFFFFFFFF 0 |>.half .lo,
  rw 0xC 0xFFFF 0 |>.half .hi,
  ro 0x10,
  rw 0x14 0x7 0,
  rw 0x18 0xFFFFFFFF 0 |>.half .lo,
  rw 0x1C 0xFFFF 0 |>.half .hi,
  ⟨0x20, 1, 0x0, 1, 0x0, 0x1, 0x0, 0x0, 0x6, false, .none, 0⟩,
  ro 0x24 |>.half .lo,
  ro 0x28 |>.half .hi,
  rw 0x2C 0xF1 0,
  rw 0x30 0xF 0,
  rwl 0x34 0x77777 0,
  ro 0x38,
  ⟨0x3C, 1, 0x0, 1, 0x0, 0x0, 0x0, 0x0, 0xFF, false, .none, 0⟩,
  ro 0x40 |>.half .lo,
  ro 0x44 |>.half .hi,
  ro 0x48]

/-- Registers of the BOOT block. -/
def regsBOOT : List RegDesc := [
  ro 0x0,
  ro 0x4,
  ro 0x8,
  ro 0xC,
  ro 0x10,
  ro 0x14,
  ro 0x18,
  ro 0x1C,
  ro 0x20,
  cnt 0x100,
  rwl 0x800 0xFFFFFFFF 0x258,
  ro 0x804,
  ro 0x808,
  ro 0x80C,
  cnt 0x810,
  ro 0x1000 |>.arr 5 0x20,
  ro 0x1004 |>.arr 5 0x20,
  ro 0x1008 |>.arr 5 0x20,
  ro 0x100C |>.arr 5 0x20,
  ro 0x1010 |>.arr 5 0x20]

/-- Registers of the HLT block. -/
def regsHLT : List RegDesc := [
  rw 0x0 0xFF01 0x1001,
  ro 0x4,
  ro 0x8,
  ro 0xC,
  ro 0x10 |>.half .lo,
  ro 0x14 |>.half .hi,
  ro 0x18,
  ro 0x1C,
  ro 0x20,
  rw 0x24 0x1F 0,
  ro 0x28,
  cnt 0x2C,
  ro 0x30,
  cnt 0x34,
  cnt 0x100 |>.arr 4 0x4,
  cnt 0x110,
  cnt 0x114,
  cnt 0x118,
  cnt 0x11C,
  rw 0x8000 0x1 0,
  rw 0x8004 0x1 0,
  rw 0x8008 0xFFFFFFFF 0 |>.half .lo,
  rw 0x800C 0xFFFFFFFF 0 |>.half .hi,
  rw 0x8010 0xFFFFFFFF 0,
  ro 0x8014 |>.half .lo,
  ro 0x8018 |>.half .hi,
  ⟨0x8100, 32, 0x10, 1, 0x0, 0x71FFF, 0x0, 0x0, 0x8000, false, .none, 0⟩,
  ⟨0x10000, 64, 0x100, 8, 0x10, 0x71FFF, 0x0, 0x0, 0x8000, false, .none, 0⟩,
  rw 0x8104 0xFFFF 0 |>.arr 32 0x10,
  rw 0x10004 0xFFFF 0 |>.arr2 64 0x100 8 0x10,
  rw 0x8108 0xFFFFFFFF 0 |>.arr 32 0x10 |>.half .lo,
  rw 0x10008 0xFFFFFFFF 0 |>.arr2 64 0x100 8 0x10 |>.half .lo,
  rw 0x810C 0xFFFF 0 |>.arr 32 0x10 |>.half .hi,
  rw 0x1000C 0xFFFF 0 |>.arr2 64 0x100 8 0x10 |>.half .hi]

/-- Registers of the MEM block. -/
def regsMEM : List RegDesc := [
  ro 0x0,
  ro 0x4,
  rw 0x8 0xFF 0x18,
  cnt 0xC,
  cnt 0x10,
  ro 0x1000 |>.arr 2 0x100,
  cnt 0x1004 |>.arr 2 0x100,
  cnt 0x1008 |>.arr 2 0x100,
  ro 0x100C |>.arr 2 0x100 |>.half .lo,
  ro 0x1010 |>.arr 2 0x100 |>.half .hi]

/-- The registers of the block at BAR0 offset `i` MiB (Table 01-5). -/
def blockRegs : Nat → List RegDesc
  | 0 => regsSYS
  | 1 => regsSPT
  | 2 => regsDEC
  | 3 => regsTIM
  | 4 => regsALN
  | 5 => regsWAV
  | 6 => regsMTR
  | 7 => regsOSC
  | 8 => regsTOP
  | 9 => regsDFS
  | 10 => regsCYC
  | 11 => regsALM
  | 12 => regsEVR
  | 13 => regsCAP
  | 14 => regsHIF
  | 15 => regsHGW
  | 16 => regsTWN
  | 17 => regsSEC
  | 18 => regsBKD
  | 19 => regsBOOT
  | 20 => regsHLT
  | 21 => regsMEM
  | _ => []

/-- The register at a BAR0 offset, if the offset is assigned (R39). -/
def regDesc (a : Nat) : Option RegDesc := (blockRegs (a / 0x100000)).find? (fun d => d.covers (a % 0x100000))

/-- The value of a register right after reset. -/
def regReset (a : Nat) : Word := match regDesc a with
  | some d => d.reset
  | none => 0

/-! ### Register addresses -/

namespace Reg

abbrev SYS_ID : Nat := 0x0
abbrev SYS_UID_0 : Nat := 0x4
abbrev SYS_UID_1 : Nat := 0x8
abbrev SYS_UID_2 : Nat := 0xC
abbrev SYS_UID_3 : Nat := 0x10
abbrev SYS_DEVICE_ID : Nat := 0x14
abbrev SYS_CLK_STATUS : Nat := 0x18
abbrev SYS_CLK_EVENTS : Nat := 0x1C
abbrev SYS_CNT_LOCKED_WR : Nat := 0x20
abbrev SYS_LC0_LAT_MAX : Nat := 0x24
abbrev SYS_LC0_LAT_OVER : Nat := 0x28
abbrev SYS_SCRATCH : Nat := 0x2C
abbrev SPT_PORT_CTRL (p : Nat) : Nat := 0x100000 + p * 0x10000
abbrev SPT_PORT_STATUS (p : Nat) : Nat := 0x100004 + p * 0x10000
abbrev SPT_MAXLEN (p : Nat) : Nat := 0x100008 + p * 0x10000
abbrev SPT_PORT_DEFAULT (p : Nat) : Nat := 0x10000C + p * 0x10000
abbrev SPT_EEE_TW (p : Nat) : Nat := 0x100010 + p * 0x10000
abbrev SPT_POOL_FREE (p : Nat) : Nat := 0x100014 + p * 0x10000
abbrev SPT_PRP_TIMEOUT (p : Nat) : Nat := 0x100018 + p * 0x10000
abbrev SPT_CNT_RX_FRAMES (p : Nat) : Nat := 0x100100 + p * 0x10000
abbrev SPT_CNT_RX_RUNT (p : Nat) : Nat := 0x100104 + p * 0x10000
abbrev SPT_CNT_RX_OVERSIZE (p : Nat) : Nat := 0x100108 + p * 0x10000
abbrev SPT_CNT_RX_FCS (p : Nat) : Nat := 0x10010C + p * 0x10000
abbrev SPT_CNT_RX_CODE (p : Nat) : Nat := 0x100110 + p * 0x10000
abbrev SPT_CNT_RX_PRP_BAD (p : Nat) : Nat := 0x100114 + p * 0x10000
abbrev SPT_CNT_RX_UNKNOWN (p : Nat) : Nat := 0x100118 + p * 0x10000
abbrev SPT_CNT_RX_RULE_DISCARD (p : Nat) : Nat := 0x10011C + p * 0x10000
abbrev SPT_CNT_RX_NOBUF_LC0 (p : Nat) : Nat := 0x100120 + p * 0x10000
abbrev SPT_CNT_RX_NOBUF_LC1 (p : Nat) : Nat := 0x100124 + p * 0x10000
abbrev SPT_CNT_RX_NOBUF_LC2 (p : Nat) : Nat := 0x100128 + p * 0x10000
abbrev SPT_CNT_RX_NOBUF_LC3 (p : Nat) : Nat := 0x10012C + p * 0x10000
abbrev SPT_CNT_RX_NOBUF_SUP (p : Nat) : Nat := 0x100130 + p * 0x10000
abbrev SPT_CNT_TX_FRAMES (p : Nat) : Nat := 0x100134 + p * 0x10000
abbrev SPT_CNT_TX_REJECT (p : Nat) : Nat := 0x100138 + p * 0x10000
abbrev SPT_CNT_LPI_ENTRY (p : Nat) : Nat := 0x10013C + p * 0x10000
abbrev SPT_CNT_LPI_LC0_WAKE (p : Nat) : Nat := 0x100140 + p * 0x10000
abbrev SPT_CNT_TX_LINK_DROP (p : Nat) : Nat := 0x100144 + p * 0x10000
abbrev SPT_TXTS_POP (p : Nat) : Nat := 0x100200 + p * 0x10000
abbrev SPT_TXTS_LO (p : Nat) : Nat := 0x100204 + p * 0x10000
abbrev SPT_TXTS_HI (p : Nat) : Nat := 0x100208 + p * 0x10000
abbrev SPT_TXTS_STAT (p : Nat) : Nat := 0x10020C + p * 0x10000
abbrev SPT_RXR_CTRL (p r : Nat) : Nat := 0x101000 + p * 0x10000 + r * 0x40
abbrev SPT_RXR_BASE_LO (p r : Nat) : Nat := 0x101004 + p * 0x10000 + r * 0x40
abbrev SPT_RXR_BASE_HI (p r : Nat) : Nat := 0x101008 + p * 0x10000 + r * 0x40
abbrev SPT_RXR_TAIL (p r : Nat) : Nat := 0x10100C + p * 0x10000 + r * 0x40
abbrev SPT_RXR_HEAD (p r : Nat) : Nat := 0x101010 + p * 0x10000 + r * 0x40
abbrev SPT_RXR_NOBUF (p r : Nat) : Nat := 0x101014 + p * 0x10000 + r * 0x40
abbrev SPT_TXR_CTRL (p t : Nat) : Nat := 0x101800 + p * 0x10000 + t * 0x40
abbrev SPT_TXR_BASE_LO (p t : Nat) : Nat := 0x101804 + p * 0x10000 + t * 0x40
abbrev SPT_TXR_BASE_HI (p t : Nat) : Nat := 0x101808 + p * 0x10000 + t * 0x40
abbrev SPT_TXR_TAIL (p t : Nat) : Nat := 0x10180C + p * 0x10000 + t * 0x40
abbrev SPT_TXR_HEAD (p t : Nat) : Nat := 0x101810 + p * 0x10000 + t * 0x40
abbrev SPT_RULE_CTRL (p k : Nat) : Nat := 0x102000 + p * 0x10000 + k * 0x20
abbrev SPT_RULE_VID (p k : Nat) : Nat := 0x102004 + p * 0x10000 + k * 0x20
abbrev SPT_RULE_ETYPE (p k : Nat) : Nat := 0x102008 + p * 0x10000 + k * 0x20
abbrev SPT_RULE_DMAC0 (p k : Nat) : Nat := 0x10200C + p * 0x10000 + k * 0x20
abbrev SPT_RULE_DMAC1 (p k : Nat) : Nat := 0x102010 + p * 0x10000 + k * 0x20
abbrev SPT_RULE_MASK0 (p k : Nat) : Nat := 0x102014 + p * 0x10000 + k * 0x20
abbrev SPT_RULE_MASK1 (p k : Nat) : Nat := 0x102018 + p * 0x10000 + k * 0x20
abbrev SPT_RULE_HITS (p k : Nat) : Nat := 0x10201C + p * 0x10000 + k * 0x20
abbrev SPT_PRP_CTRL (p : Nat) : Nat := 0x180000 + p * 0x100
abbrev SPT_PRP_DUP (p : Nat) : Nat := 0x180004 + p * 0x100
abbrev SPT_PRP_EVICT (p : Nat) : Nat := 0x180008 + p * 0x100
abbrev SPT_PRP_STAT (p : Nat) : Nat := 0x18000C + p * 0x100
abbrev SPT_COMMIT : Nat := 0x1F0000
abbrev DEC_CTRL : Nat := 0x200000
abbrev DEC_STATUS : Nat := 0x200004
abbrev DEC_COMMIT : Nat := 0x200008
abbrev DEC_OUT_CFG_DELAY : Nat := 0x20000C
abbrev DEC_ST_INDEX : Nat := 0x200010
abbrev DEC_ST_STATE : Nat := 0x200014
abbrev DEC_ST_KEYS : Nat := 0x200018
abbrev DEC_ST_REPARSE : Nat := 0x20001C
abbrev DEC_ST_KEYID_CUR : Nat := 0x200020
abbrev DEC_ST_KEYID_NEXT : Nat := 0x200024
abbrev DEC_CNT_FRAMES : Nat := 0x200100
abbrev DEC_CNT_UNKNOWN : Nat := 0x200104
abbrev DEC_CNT_CHK : Nat := 0x200108
abbrev DEC_CNT_VERSION : Nat := 0x20010C
abbrev DEC_CNT_STRUCT : Nat := 0x200110
abbrev DEC_CNT_DUP : Nat := 0x200114
abbrev DEC_CNT_DECIMATED : Nat := 0x200118
abbrev DEC_CNT_INVALID : Nat := 0x20011C
abbrev DEC_CNT_AUTH_FAIL : Nat := 0x200120
abbrev DEC_CNT_REPLAY : Nat := 0x200124
abbrev DEC_CNT_KEY_STALE : Nat := 0x200128
abbrev DEC_CNT_UNSUPPORTED : Nat := 0x20012C
abbrev DEC_CNT_CONFREV : Nat := 0x200130
abbrev DEC_CNT_SV_GAP : Nat := 0x200134
abbrev DEC_CNT_RANGE : Nat := 0x200138
abbrev DEC_ST_WINDOW (i : Nat) : Nat := 0x201000 + i * 0x4
abbrev DEC_OUT_CTRL (o : Nat) : Nat := 0x202000 + o * 0x20
abbrev DEC_OUT_STATUS (o : Nat) : Nat := 0x202004 + o * 0x20
abbrev DEC_OUT_CNT_TX (o : Nat) : Nat := 0x202008 + o * 0x20
abbrev DEC_OUT_CNT_PARTIAL (o : Nat) : Nat := 0x20200C + o * 0x20
abbrev DEC_OUT_WAIT (o : Nat) : Nat := 0x202010 + o * 0x20
abbrev DEC_RSV_CTRL (p : Nat) : Nat := 0x203000 + p * 0x20
abbrev DEC_RSV_SPDU (p : Nat) : Nat := 0x203004 + p * 0x20
abbrev DEC_RSV_CNT_TX (p : Nat) : Nat := 0x203008 + p * 0x20
abbrev TIM_CTRL : Nat := 0x300000
abbrev TIM_STATUS : Nat := 0x300004
abbrev TIM_NS : Nat := 0x300008
abbrev TIM_TIME_LO : Nat := 0x30000C
abbrev TIM_TIME_HI : Nat := 0x300010
abbrev TIM_INC_LO : Nat := 0x300014
abbrev TIM_INC_HI : Nat := 0x300018
abbrev TIM_ADJ_LO : Nat := 0x30001C
abbrev TIM_ADJ_HI : Nat := 0x300020
abbrev TIM_TAI_UTC : Nat := 0x300024
abbrev TIM_LEAP : Nat := 0x300028
abbrev TIM_ERR_EST : Nat := 0x30002C
abbrev TIM_OFFSET : Nat := 0x300030
abbrev TIM_LOCK_THRESH : Nat := 0x300034
abbrev TIM_STEP_THRESH : Nat := 0x300038
abbrev TIM_HOLD_DRIFT : Nat := 0x30003C
abbrev TIM_HOLD_LIMIT : Nat := 0x300040
abbrev TIM_SRC_CTRL : Nat := 0x300044
abbrev TIM_PTP_CTRL : Nat := 0x300048
abbrev TIM_PPS_OUT : Nat := 0x30004C
abbrev TIM_PPS_IN : Nat := 0x300050
abbrev TIM_IRIG_CTRL : Nat := 0x300054
abbrev TIM_PARENT_LO : Nat := 0x300058
abbrev TIM_PARENT_HI : Nat := 0x30005C
abbrev TIM_EVT : Nat := 0x300060
abbrev TIM_HOST_SYNC : Nat := 0x300064
abbrev TIM_HOST_ERR : Nat := 0x300068
abbrev TIM_CNT_MEAS : Nat := 0x300080
abbrev TIM_CNT_PTP_BAD : Nat := 0x300084
abbrev TIM_CNT_IRIG_BAD : Nat := 0x300088
abbrev TIM_CNT_PPS_MISS : Nat := 0x30008C
abbrev TIM_CNT_STEP : Nat := 0x300090
abbrev TIM_PORT_ASYM (n : Nat) : Nat := 0x300100 + n * 0x10
abbrev ALN_CTRL : Nat := 0x400000
abbrev ALN_STATUS : Nat := 0x400004
abbrev ALN_COMMIT : Nat := 0x400008
abbrev ALN_COMMIT_STAT : Nat := 0x40000C
abbrev ALN_LC0_CHANNELS : Nat := 0x400010
abbrev ALN_HOLD_CHANNELS : Nat := 0x400014
abbrev ALN_FURROW_USED : Nat := 0x400018
abbrev ALN_FURROW_PEAK : Nat := 0x40001C
abbrev ALN_REV_QUEUE : Nat := 0x400020
abbrev ALN_GLEAN_DEPTH : Nat := 0x400024
abbrev ALN_CH_INDEX : Nat := 0x400028
abbrev ALN_CH_INFO : Nat := 0x40002C
abbrev ALN_RG_CFG (g : Nat) : Nat := 0x401000 + g * 0x1000
abbrev ALN_RG_DERIVE (g : Nat) : Nat := 0x401004 + g * 0x1000
abbrev ALN_RG_HORIZON (g : Nat) : Nat := 0x401008 + g * 0x1000
abbrev ALN_RG_HEADLAND (g : Nat) : Nat := 0x40100C + g * 0x1000
abbrev ALN_RG_CHANNELS (g : Nat) : Nat := 0x401010 + g * 0x1000
abbrev ALN_RG_HIST_CTRL (g : Nat) : Nat := 0x401014 + g * 0x1000
abbrev ALN_RG_HIST_BASE_LO (g : Nat) : Nat := 0x401018 + g * 0x1000
abbrev ALN_RG_HIST_BASE_HI (g : Nat) : Nat := 0x40101C + g * 0x1000
abbrev ALN_RG_HIST_DEPTH (g : Nat) : Nat := 0x401020 + g * 0x1000
abbrev ALN_RG_STRIDE (g : Nat) : Nat := 0x401024 + g * 0x1000
abbrev ALN_RG_WRIDX_LO (g : Nat) : Nat := 0x401028 + g * 0x1000
abbrev ALN_RG_WRIDX_HI (g : Nat) : Nat := 0x40102C + g * 0x1000
abbrev ALN_RG_SEQ (g : Nat) : Nat := 0x401030 + g * 0x1000
abbrev ALN_RG_TAG0_LO (g : Nat) : Nat := 0x401034 + g * 0x1000
abbrev ALN_RG_TAG0_HI (g : Nat) : Nat := 0x401038 + g * 0x1000
abbrev ALN_RG_CNT_ROWS (g : Nat) : Nat := 0x401100 + g * 0x1000
abbrev ALN_RG_CNT_OFFGRID (g : Nat) : Nat := 0x401104 + g * 0x1000
abbrev ALN_RG_CNT_FUTURE (g : Nat) : Nat := 0x401108 + g * 0x1000
abbrev ALN_RG_CNT_SEC_DEADLINE (g : Nat) : Nat := 0x40110C + g * 0x1000
abbrev ALN_RG_CNT_HELD (g : Nat) : Nat := 0x401110 + g * 0x1000
abbrev ALN_RG_CNT_GLEAN (g : Nat) : Nat := 0x401114 + g * 0x1000
abbrev ALN_RG_CNT_GLEAN_EXPIRED (g : Nat) : Nat := 0x401118 + g * 0x1000
abbrev ALN_RG_CNT_GLEAN_DUP (g : Nat) : Nat := 0x40111C + g * 0x1000
abbrev ALN_RG_CNT_GLEAN_CONFLICT (g : Nat) : Nat := 0x401120 + g * 0x1000
abbrev ALN_RG_CNT_GLEAN_NOSPACE (g : Nat) : Nat := 0x401124 + g * 0x1000
abbrev ALN_RG_CNT_DERIVED_LATE (g : Nat) : Nat := 0x401128 + g * 0x1000
abbrev ALN_RG_CNT_NOTICE_LOST (g : Nat) : Nat := 0x40112C + g * 0x1000
abbrev ALN_RG_CNT_REV_SAT (g : Nat) : Nat := 0x401130 + g * 0x1000
abbrev ALN_RG_CNT_STEP_SKIP (g : Nat) : Nat := 0x401134 + g * 0x1000
abbrev ALN_SEC_CTRL (g s : Nat) : Nat := 0x401400 + g * 0x1000 + s * 0x10
abbrev ALN_SEC_HMAX (g s : Nat) : Nat := 0x401404 + g * 0x1000 + s * 0x10
abbrev ALN_SEC_MARGIN (g s : Nat) : Nat := 0x401408 + g * 0x1000 + s * 0x10
abbrev ALN_SEC_DEADLINE (g s : Nat) : Nat := 0x40140C + g * 0x1000 + s * 0x10
abbrev WAV_CTRL : Nat := 0x500000
abbrev WAV_STATUS : Nat := 0x500004
abbrev WAV_COMMIT : Nat := 0x500008
abbrev WAV_COMMIT_STAT : Nat := 0x50000C
abbrev WAV_SYNC : Nat := 0x500010
abbrev WAV_SYNC_SEC_LO : Nat := 0x500014
abbrev WAV_SYNC_SEC_HI : Nat := 0x500018
abbrev WAV_SYNC_LAST_LO : Nat := 0x50001C
abbrev WAV_SYNC_LAST_HI : Nat := 0x500020
abbrev WAV_AFE_HOLD : Nat := 0x500024
abbrev WAV_CAL_ID : Nat := 0x500028
abbrev WAV_CNT_SYNC : Nat := 0x500100
abbrev WAV_CNT_SV_STALE : Nat := 0x500104
abbrev WAV_CNT_STALL : Nat := 0x500108
abbrev WAV_CNT_ABANDON : Nat := 0x50010C
abbrev WAV_AFE_CTRL (l : Nat) : Nat := 0x500800 + l * 0x10
abbrev WAV_AFE_STATUS (l : Nat) : Nat := 0x500804 + l * 0x10
abbrev WAV_CH_CTRL (c : Nat) : Nat := 0x510000 + c * 0x40
abbrev WAV_CH_DECIM (c : Nat) : Nat := 0x510004 + c * 0x40
abbrev WAV_CH_DELAY (c : Nat) : Nat := 0x510008 + c * 0x40
abbrev WAV_CH_ENV_TC (c : Nat) : Nat := 0x51000C + c * 0x40
abbrev WAV_CH_SCALE (c : Nat) : Nat := 0x510010 + c * 0x40
abbrev WAV_CH_OFFSET (c : Nat) : Nat := 0x510014 + c * 0x40
abbrev WAV_CH_STATUS (c : Nat) : Nat := 0x510018 + c * 0x40
abbrev WAV_CH_FD (c : Nat) : Nat := 0x51001C + c * 0x40
abbrev WAV_CH_LATENCY (c : Nat) : Nat := 0x510020 + c * 0x40
abbrev WAV_CH_SETTLE (c : Nat) : Nat := 0x510024 + c * 0x40
abbrev WAV_CH_CNT_FILL (c : Nat) : Nat := 0x510028 + c * 0x40
abbrev WAV_CH_CNT_RESET (c : Nat) : Nat := 0x51002C + c * 0x40
abbrev WAV_CH_CNT_ABANDON (c : Nat) : Nat := 0x510030 + c * 0x40
abbrev WAV_CH_CNT_SWITCH (c : Nat) : Nat := 0x510034 + c * 0x40
abbrev WAV_CH_CNT_OVERLOAD (c : Nat) : Nat := 0x510038 + c * 0x40
abbrev MTR_CTRL : Nat := 0x600000
abbrev MTR_STATUS : Nat := 0x600004
abbrev MTR_COMMIT_LO : Nat := 0x600008
abbrev MTR_COMMIT_HI : Nat := 0x60000C
abbrev MTR_COMMIT_STAT : Nat := 0x600010
abbrev MTR_SAVE_PERIOD : Nat := 0x600014
abbrev MTR_SAVE : Nat := 0x600018
abbrev MTR_SNAP : Nat := 0x60001C
abbrev MTR_REC_BASE_LO : Nat := 0x600020
abbrev MTR_REC_BASE_HI : Nat := 0x600024
abbrev MTR_REC_DEPTH : Nat := 0x600028
abbrev MTR_REC_WRIDX_LO : Nat := 0x60002C
abbrev MTR_REC_WRIDX_HI : Nat := 0x600030
abbrev MTR_REC_QUEUE : Nat := 0x600034
abbrev MTR_CNT_STEEPS : Nat := 0x600100
abbrev MTR_CNT_PULSE_LOST : Nat := 0x600104
abbrev MTR_CNT_NOTICE_LOST : Nat := 0x600108
abbrev MTR_CNT_SAVES : Nat := 0x60010C
abbrev MTR_PULSE_CTRL (k : Nat) : Nat := 0x600800 + k * 0x10
abbrev MTR_PULSE_K (k : Nat) : Nat := 0x600804 + k * 0x10
abbrev MTR_PULSE_PENDING (k : Nat) : Nat := 0x600808 + k * 0x10
abbrev MTR_PULSE_CNT (k : Nat) : Nat := 0x60080C + k * 0x10
abbrev MTR_MP_CTRL (m : Nat) : Nat := 0x601000 + m * 0x100
abbrev MTR_MP_STEEP (m : Nat) : Nat := 0x601004 + m * 0x100
abbrev MTR_MP_TEMP_CH (m : Nat) : Nat := 0x601008 + m * 0x100
abbrev MTR_MP_STATUS (m : Nat) : Nat := 0x60100C + m * 0x100
abbrev MTR_MP_START_LO (m : Nat) : Nat := 0x601010 + m * 0x100
abbrev MTR_MP_START_HI (m : Nat) : Nat := 0x601014 + m * 0x100
abbrev MTR_MP_SAMPLES (m : Nat) : Nat := 0x601018 + m * 0x100
abbrev MTR_SNAP_ACC_LO (a : Nat) : Nat := 0x608000 + a * 0x8
abbrev MTR_SNAP_ACC_HI (a : Nat) : Nat := 0x608004 + a * 0x8
abbrev MTR_SNAP_WRAP (a : Nat) : Nat := 0x608200 + a * 0x4
abbrev OSC_CTRL : Nat := 0x700000
abbrev OSC_STATUS : Nat := 0x700004
abbrev OSC_COMMIT : Nat := 0x700008
abbrev OSC_COMMIT_STAT : Nat := 0x70000C
abbrev OSC_DRAM_BASE_LO : Nat := 0x700010
abbrev OSC_DRAM_BASE_HI : Nat := 0x700014
abbrev OSC_DRAM_SIZE : Nat := 0x700018
abbrev OSC_MON_INDEX : Nat := 0x70001C
abbrev OSC_MON_CFG : Nat := 0x700020
abbrev OSC_MON_PARAM : Nat := 0x700024
abbrev OSC_MON_STATUS : Nat := 0x700028
abbrev OSC_BAND_FLO (b : Nat) : Nat := 0x700040 + b * 0x10
abbrev OSC_BAND_FHI (b : Nat) : Nat := 0x700044 + b * 0x10
abbrev OSC_BAND_ATH (b : Nat) : Nat := 0x700048 + b * 0x10
abbrev OSC_BAND_AMP (b : Nat) : Nat := 0x70004C + b * 0x10
abbrev OSC_CNT_REFRESH : Nat := 0x700100
abbrev OSC_CNT_SHED_SKIP : Nat := 0x700104
abbrev OSC_CNT_MON_RESET : Nat := 0x700108
abbrev OSC_CNT_NOTICES : Nat := 0x70010C
abbrev OSC_LOC_CTRL : Nat := 0x700800
abbrev OSC_LOC_SRC : Nat := 0x700804
abbrev OSC_LOC_FLO : Nat := 0x700808
abbrev OSC_LOC_FHI : Nat := 0x70080C
abbrev OSC_LOC_WIN : Nat := 0x700810
abbrev OSC_LOC_STATUS : Nat := 0x700814
abbrev OSC_G_CTRL (g : Nat) : Nat := 0x701000 + g * 0x100
abbrev OSC_G_BAND (g : Nat) : Nat := 0x701004 + g * 0x100
abbrev OSC_G_WINDOW (g : Nat) : Nat := 0x701008 + g * 0x100
abbrev OSC_G_REFRESH (g : Nat) : Nat := 0x70100C + g * 0x100
abbrev OSC_G_MODES (g : Nat) : Nat := 0x701010 + g * 0x100
abbrev OSC_G_STATUS (g : Nat) : Nat := 0x701014 + g * 0x100
abbrev OSC_G_LAST_LO (g : Nat) : Nat := 0x701018 + g * 0x100
abbrev OSC_G_LAST_HI (g : Nat) : Nat := 0x70101C + g * 0x100
abbrev OSC_G_USABLE (g : Nat) : Nat := 0x701020 + g * 0x100
abbrev OSC_G_DURATION (g : Nat) : Nat := 0x701024 + g * 0x100
abbrev OSC_G_CH_BASE (g : Nat) : Nat := 0x701028 + g * 0x100
abbrev OSC_G_CNT_REFRESH (g : Nat) : Nat := 0x701040 + g * 0x100
abbrev OSC_G_CNT_OVERRUN (g : Nat) : Nat := 0x701044 + g * 0x100
abbrev OSC_G_CNT_REVISED (g : Nat) : Nat := 0x701048 + g * 0x100
abbrev OSC_G_CNT_UNUSABLE (g : Nat) : Nat := 0x70104C + g * 0x100
abbrev OSC_G_SLOT_F (g s : Nat) : Nat := 0x701080 + g * 0x100 + s * 0x8
abbrev OSC_G_SLOT_Z (g s : Nat) : Nat := 0x701084 + g * 0x100 + s * 0x8
abbrev TOP_CTRL : Nat := 0x800000
abbrev TOP_STATUS : Nat := 0x800004
abbrev TOP_COMMIT : Nat := 0x800008
abbrev TOP_COMMIT_STAT : Nat := 0x80000C
abbrev TOP_TOPO_VER : Nat := 0x800010
abbrev TOP_FACTOR_VER : Nat := 0x800014
abbrev TOP_FACTOR_NNZ : Nat := 0x800018
abbrev TOP_FACTOR_UNOBS : Nat := 0x80001C
abbrev TOP_REFAC_HANDLE : Nat := 0x800020
abbrev TOP_REFAC_TIME : Nat := 0x800024
abbrev TOP_COALESCE : Nat := 0x800028
abbrev TOP_INTERMEDIATE : Nat := 0x80002C
abbrev TOP_SE_KMAX : Nat := 0x800030
abbrev TOP_SE_PERSIST : Nat := 0x800034
abbrev TOP_SE_LNR : Nat := 0x800038
abbrev TOP_ENERG_PU : Nat := 0x80003C
abbrev TOP_COH_FTOL : Nat := 0x800040
abbrev TOP_COH_ATOL : Nat := 0x800044
abbrev TOP_COH_CTRL : Nat := 0x800048
abbrev TOP_NNZ_MAX : Nat := 0x80004C
abbrev TOP_SW_INDEX : Nat := 0x800050
abbrev TOP_SW_STATE : Nat := 0x800054
abbrev TOP_SW_OVERRIDE : Nat := 0x800058
abbrev TOP_CNT_ROWS : Nat := 0x800100
abbrev TOP_CNT_NOT_EST : Nat := 0x800104
abbrev TOP_CNT_MISMATCH : Nat := 0x800108
abbrev TOP_CNT_REFAC : Nat := 0x80010C
abbrev TOP_CNT_REFAC_FAIL : Nat := 0x800110
abbrev TOP_CNT_REMOVED : Nat := 0x800114
abbrev TOP_CNT_UNTESTABLE : Nat := 0x800118
abbrev TOP_CNT_SUSPECT : Nat := 0x80011C
abbrev TOP_CNT_INTER_TIMEOUT : Nat := 0x800120
abbrev TOP_CNT_ISL_CHANGE : Nat := 0x800124
abbrev TOP_CNT_COH_OVERFLOW : Nat := 0x800128
abbrev TOP_CNT_SHED : Nat := 0x80012C
abbrev DFS_CTRL : Nat := 0x900000
abbrev DFS_STATUS : Nat := 0x900004
abbrev DFS_COMMIT : Nat := 0x900008
abbrev DFS_SOWER_EPOCH : Nat := 0x90000C
abbrev DFS_SOWER_CTRL : Nat := 0x900010
abbrev DFS_PLACE_VER : Nat := 0x900014
abbrev DFS_PLACE_INDEX : Nat := 0x900018
abbrev DFS_PLACE_INFO : Nat := 0x90001C
abbrev DFS_PLACE_LOAD : Nat := 0x900020
abbrev DFS_GRAPH_CTRL : Nat := 0x900024
abbrev DFS_LOAD_WIN : Nat := 0x900028
abbrev DFS_HIST_SEL : Nat := 0x90002C
abbrev DFS_HIST_BIN (i : Nat) : Nat := 0x900040 + i * 0x4
abbrev DFS_CNT_DISPATCH : Nat := 0x900100
abbrev DFS_CNT_CANCEL_PRE : Nat := 0x900104
abbrev DFS_CNT_CANCEL_READY : Nat := 0x900108
abbrev DFS_CNT_CANCEL_RUN : Nat := 0x90010C
abbrev DFS_CNT_SUSPEND : Nat := 0x900110
abbrev DFS_CNT_BP_STALL : Nat := 0x900114
abbrev DFS_CNT_AFFINITY_MISS : Nat := 0x900118
abbrev DFS_CNT_INST_WAIT : Nat := 0x90011C
abbrev DFS_CNT_MOVES : Nat := 0x900120
abbrev DFS_CNT_MOVE_DEFER : Nat := 0x900124
abbrev DFS_CNT_SHED : Nat := 0x900128
abbrev DFS_CL_STATUS (c : Nat) : Nat := 0x901000 + c * 0x100
abbrev DFS_CL_MS (c : Nat) : Nat := 0x901004 + c * 0x100
abbrev DFS_CL_MS_PEAK (c : Nat) : Nat := 0x901008 + c * 0x100
abbrev DFS_CL_READY01 (c : Nat) : Nat := 0x90100C + c * 0x100
abbrev DFS_CL_READY23 (c : Nat) : Nat := 0x901010 + c * 0x100
abbrev DFS_CL_DELAY (c : Nat) : Nat := 0x901014 + c * 0x100
abbrev DFS_CL_MAKESPAN (c : Nat) : Nat := 0x901018 + c * 0x100
abbrev DFS_CL_LOAD (c k : Nat) : Nat := 0x901020 + c * 0x100 + k * 0x4
abbrev DFS_PE_STATUS (e : Nat) : Nat := 0x904000 + e * 0x40
abbrev DFS_PE_OP (e : Nat) : Nat := 0x904004 + e * 0x40
abbrev DFS_PE_LOAD (e : Nat) : Nat := 0x904008 + e * 0x40
abbrev DFS_PE_LOAD_LC (e k : Nat) : Nat := 0x90400C + e * 0x40 + k * 0x4
abbrev DFS_PE_CNT_OPS (e : Nat) : Nat := 0x90401C + e * 0x40
abbrev DFS_PE_LM_USED (e : Nat) : Nat := 0x904020 + e * 0x40
abbrev CYC_CTRL : Nat := 0xA00000
abbrev CYC_STATUS : Nat := 0xA00004
abbrev CYC_COMMIT : Nat := 0xA00008
abbrev CYC_COMMIT_STAT : Nat := 0xA0000C
abbrev CYC_PROG_ID : Nat := 0xA00010
abbrev CYC_STANDBY_ID : Nat := 0xA00014
abbrev CYC_EXCH_TIME_LO : Nat := 0xA00018
abbrev CYC_EXCH_TIME_HI : Nat := 0xA0001C
abbrev CYC_EXCH_MATCHED : Nat := 0xA00020
abbrev CYC_EXCH_NEW : Nat := 0xA00024
abbrev CYC_EXCH_REMOVED : Nat := 0xA00028
abbrev CYC_INST_USED : Nat := 0xA0002C
abbrev CYC_PARAM_INST : Nat := 0xA00030
abbrev CYC_PARAM_OFF : Nat := 0xA00034
abbrev CYC_PARAM_VAL : Nat := 0xA00038
abbrev CYC_IMG_SEL : Nat := 0xA0003C
abbrev CYC_IMG_ENTRY (i : Nat) : Nat := 0xA00040 + i * 0x4
abbrev CYC_T_PERIOD (t : Nat) : Nat := 0xA01000 + t * 0x100
abbrev CYC_T_BUDGET (t : Nat) : Nat := 0xA01004 + t * 0x100
abbrev CYC_T_WCET (t : Nat) : Nat := 0xA01008 + t * 0x100
abbrev CYC_T_EXEC_LAST (t : Nat) : Nat := 0xA0100C + t * 0x100
abbrev CYC_T_EXEC_MAX (t : Nat) : Nat := 0xA01010 + t * 0x100
abbrev CYC_T_OFFSET (t : Nat) : Nat := 0xA01014 + t * 0x100
abbrev CYC_T_CYCLE (t : Nat) : Nat := 0xA01018 + t * 0x100
abbrev CYC_T_CNT_OVERRUN (t : Nat) : Nat := 0xA01040 + t * 0x100
abbrev CYC_T_CNT_SKIP (t : Nat) : Nat := 0xA01044 + t * 0x100
abbrev CYC_T_CNT_DEST_LOST (t : Nat) : Nat := 0xA01048 + t * 0x100
abbrev CYC_T_CNT_PEER_DROP (t : Nat) : Nat := 0xA0104C + t * 0x100
abbrev CYC_DST_STATUS (d : Nat) : Nat := 0xA03000 + d * 0x10
abbrev CYC_DST_CNT_LOST (d : Nat) : Nat := 0xA03004 + d * 0x10
abbrev ALM_CTRL : Nat := 0xB00000
abbrev ALM_STATUS : Nat := 0xB00004
abbrev ALM_COMMIT : Nat := 0xB00008
abbrev ALM_COMMIT_STAT : Nat := 0xB0000C
abbrev ALM_ACK : Nat := 0xB00010
abbrev ALM_ACK_ALL : Nat := 0xB00014
abbrev ALM_INDEX : Nat := 0xB00018
abbrev ALM_DEF : Nat := 0xB0001C
abbrev ALM_STATE : Nat := 0xB00020
abbrev ALM_LAST_LO : Nat := 0xB00024
abbrev ALM_LAST_HI : Nat := 0xB00028
abbrev ALM_QUEUE : Nat := 0xB00030
abbrev ALM_PIN_STATE : Nat := 0xB00034
abbrev ALM_PIN_CTRL (n : Nat) : Nat := 0xB00040 + n * 0x4
abbrev ALM_CNT_CHANGES : Nat := 0xB00100
abbrev ALM_CNT_STALE : Nat := 0xB00104
abbrev ALM_CNT_ACK_REFUSED : Nat := 0xB00108
abbrev ALM_CNT_QUEUE_LOST : Nat := 0xB0010C
abbrev ALM_PUB_STATUS (p : Nat) : Nat := 0xB02000 + p * 0x20
abbrev ALM_PUB_STNUM (p : Nat) : Nat := 0xB02004 + p * 0x20
abbrev ALM_PUB_SQNUM (p : Nat) : Nat := 0xB02008 + p * 0x20
abbrev ALM_PUB_CNT_TX (p : Nat) : Nat := 0xB0200C + p * 0x20
abbrev EVR_STATUS : Nat := 0xC00000
abbrev EVR_SEQ_FIRST : Nat := 0xC00004
abbrev EVR_SEQ_NEXT : Nat := 0xC00008
abbrev EVR_GEN : Nat := 0xC0000C
abbrev EVR_COUNT : Nat := 0xC00010
abbrev EVR_SEV3_COUNT : Nat := 0xC00014
abbrev EVR_RD_SEQ : Nat := 0xC00018
abbrev EVR_RD_STATUS : Nat := 0xC0001C
abbrev EVR_QUEUE : Nat := 0xC00020
abbrev EVR_ERASE_MAX : Nat := 0xC00024
abbrev EVR_OPTIME : Nat := 0xC00028
abbrev EVR_PWRCYC : Nat := 0xC0002C
abbrev EVR_RD_DATA (i : Nat) : Nat := 0xC00040 + i * 0x4
abbrev EVR_CNT_WRITTEN : Nat := 0xC00100
abbrev EVR_CNT_QDROP (k : Nat) : Nat := 0xC00104 + k * 0x4
abbrev EVR_CNT_FULL_DROP (k : Nat) : Nat := 0xC00114 + k * 0x4
abbrev EVR_CNT_DISPLACED : Nat := 0xC00124
abbrev EVR_CNT_OVERWRITE : Nat := 0xC00128
abbrev EVR_CNT_RECLAIM : Nat := 0xC0012C
abbrev EVR_CNT_TORN : Nat := 0xC00130
abbrev EVR_CNT_QUEUE_LOST : Nat := 0xC00134
abbrev CAP_CTRL : Nat := 0xD00000
abbrev CAP_STATUS : Nat := 0xD00004
abbrev CAP_COMMIT : Nat := 0xD00008
abbrev CAP_COMMIT_STAT : Nat := 0xD0000C
abbrev CAP_DRAM_BASE_LO : Nat := 0xD00010
abbrev CAP_DRAM_BASE_HI : Nat := 0xD00014
abbrev CAP_DRAM_SIZE : Nat := 0xD00018
abbrev CAP_CNT_CAPTURES : Nat := 0xD00100
abbrev CAP_CNT_OVERFLOW : Nat := 0xD00104
abbrev CAP_CNT_EV_LOST : Nat := 0xD00108
abbrev CAP_R_CTRL (r : Nat) : Nat := 0xD01000 + r * 0x200
abbrev CAP_R_STATUS (r : Nat) : Nat := 0xD01004 + r * 0x200
abbrev CAP_R_CMD (r : Nat) : Nat := 0xD01008 + r * 0x200
abbrev CAP_R_PRE (r : Nat) : Nat := 0xD0100C + r * 0x200
abbrev CAP_R_POST (r : Nat) : Nat := 0xD01010 + r * 0x200
abbrev CAP_R_MAXPOST (r : Nat) : Nat := 0xD01014 + r * 0x200
abbrev CAP_R_TIMEOUT (r : Nat) : Nat := 0xD01018 + r * 0x200
abbrev CAP_R_GATHER (r : Nat) : Nat := 0xD0101C + r * 0x200
abbrev CAP_R_WIDX_LO (r : Nat) : Nat := 0xD01020 + r * 0x200
abbrev CAP_R_WIDX_HI (r : Nat) : Nat := 0xD01024 + r * 0x200
abbrev CAP_R_LIVE_DEPTH (r : Nat) : Nat := 0xD01028 + r * 0x200
abbrev CAP_R_STORE (r : Nat) : Nat := 0xD0102C + r * 0x200
abbrev CAP_R_STORE_FREE (r : Nat) : Nat := 0xD01030 + r * 0x200
abbrev CAP_R_LAST (r : Nat) : Nat := 0xD01034 + r * 0x200
abbrev CAP_R_RELEASE (r : Nat) : Nat := 0xD01038 + r * 0x200
abbrev CAP_R_EVCFG (r : Nat) : Nat := 0xD0103C + r * 0x200
abbrev CAP_R_MARK_LO (r i : Nat) : Nat := 0xD01040 + r * 0x200 + i * 0x10
abbrev CAP_R_MARK_HI (r i : Nat) : Nat := 0xD01044 + r * 0x200 + i * 0x10
abbrev CAP_R_MARK_STAT (r i : Nat) : Nat := 0xD01048 + r * 0x200 + i * 0x10
abbrev CAP_R_MARK_LOST (r i : Nat) : Nat := 0xD0104C + r * 0x200 + i * 0x10
abbrev CAP_R_CNT_CAPTURES (r : Nat) : Nat := 0xD01080 + r * 0x200
abbrev CAP_R_CNT_MISSED (r : Nat) : Nat := 0xD01084 + r * 0x200
abbrev CAP_R_CNT_LATER (r : Nat) : Nat := 0xD01088 + r * 0x200
abbrev CAP_R_CNT_OVERWRITTEN (r : Nat) : Nat := 0xD0108C + r * 0x200
abbrev CAP_R_EVMASK (r : Nat) : Nat := 0xD01090 + r * 0x200
abbrev CAP_C_CTRL (r c : Nat) : Nat := 0xD01100 + r * 0x200 + c * 0x10
abbrev CAP_C_TH1 (r c : Nat) : Nat := 0xD01104 + r * 0x200 + c * 0x10
abbrev CAP_C_TH2 (r c : Nat) : Nat := 0xD01108 + r * 0x200 + c * 0x10
abbrev CAP_C_SRC (r c : Nat) : Nat := 0xD0110C + r * 0x200 + c * 0x10
abbrev HIF_CTRL : Nat := 0xE00000
abbrev HIF_STATUS : Nat := 0xE00004
abbrev HIF_QSTALL : Nat := 0xE00008
abbrev HIF_PCI_ID : Nat := 0xE0000C
abbrev HIF_APER_BASE_LO : Nat := 0xE00010
abbrev HIF_APER_BASE_HI : Nat := 0xE00014
abbrev HIF_JRNL_BASE_LO : Nat := 0xE00018
abbrev HIF_JRNL_BASE_HI : Nat := 0xE0001C
abbrev HIF_CNT_CMD : Nat := 0xE00100
abbrev HIF_CNT_CMD_BAD : Nat := 0xE00104
abbrev HIF_CNT_BAD_ACCESS : Nat := 0xE00108
abbrev HIF_CNT_APER_WRITE : Nat := 0xE0010C
abbrev HIF_CNT_APER_ZERO : Nat := 0xE00110
abbrev HIF_CNT_APER_POISON : Nat := 0xE00114
abbrev HIF_CNT_FLR : Nat := 0xE00118
abbrev HIF_CNT_LINK_DOWN : Nat := 0xE0011C
abbrev HIF_Q_CTRL (q : Nat) : Nat := 0xE01000 + q * 0x20
abbrev HIF_Q_COUNT (q : Nat) : Nat := 0xE01004 + q * 0x20
abbrev HIF_Q_IRQ (q : Nat) : Nat := 0xE01008 + q * 0x20
abbrev HIF_Q_STATUS (q : Nat) : Nat := 0xE0100C + q * 0x20
abbrev HIF_Q_CNT_LOST (q : Nat) : Nat := 0xE01010 + q * 0x20
abbrev HIF_Q_CNT_RESET (q : Nat) : Nat := 0xE01014 + q * 0x20
abbrev HIF_Q_CNT_PUSH_DROP (q : Nat) : Nat := 0xE01018 + q * 0x20
abbrev HIF_Q_CNT_PKTS (q : Nat) : Nat := 0xE0101C + q * 0x20
abbrev HGW_CTRL : Nat := 0xF00000
abbrev HGW_STATUS : Nat := 0xF00004
abbrev HGW_TORUS : Nat := 0xF00008
abbrev HGW_POS : Nat := 0xF0000C
abbrev HGW_SYSTEM_ID : Nat := 0xF00010
abbrev HGW_LP_CTRL : Nat := 0xF00014
abbrev HGW_TIME_LIMIT : Nat := 0xF00018
abbrev HGW_EVT_FWD : Nat := 0xF0001C
abbrev HGW_SOWER_CTRL : Nat := 0xF00020
abbrev HGW_COMMIT : Nat := 0xF00024
abbrev HGW_ROUTE_INDEX : Nat := 0xF00028
abbrev HGW_ROUTE : Nat := 0xF0002C
abbrev HGW_TIME_OFS : Nat := 0xF00030
abbrev HGW_PLACE_VER : Nat := 0xF00034
abbrev HGW_CNT_LOST : Nat := 0xF00100
abbrev HGW_CNT_FWD_TIMEOUT : Nat := 0xF00104
abbrev HGW_CNT_XMOVES : Nat := 0xF00108
abbrev HGW_CNT_XMOVE_DEFER : Nat := 0xF0010C
abbrev HGW_CNT_EVT_FWD_LOST : Nat := 0xF00110
abbrev HGW_L_STATUS (l : Nat) : Nat := 0xF01000 + l * 0x100
abbrev HGW_L_DELAY (l : Nat) : Nat := 0xF01004 + l * 0x100
abbrev HGW_L_OFFSET (l : Nat) : Nat := 0xF01008 + l * 0x100
abbrev HGW_L_UTIL (l : Nat) : Nat := 0xF0100C + l * 0x100
abbrev HGW_L_CNT_RETRY (l : Nat) : Nat := 0xF01040 + l * 0x100
abbrev HGW_L_CNT_LC0_RETRY3 (l : Nat) : Nat := 0xF01044 + l * 0x100
abbrev HGW_L_CNT_STEP (l : Nat) : Nat := 0xF01048 + l * 0x100
abbrev HGW_L_CNT_DOWN (l : Nat) : Nat := 0xF0104C + l * 0x100
abbrev TWN_CTRL : Nat := 0x1000000
abbrev TWN_STATUS : Nat := 0x1000004
abbrev TWN_CMP_LIMIT : Nat := 0x1000008
abbrev TWN_LAST_SW_LO : Nat := 0x100000C
abbrev TWN_LAST_SW_HI : Nat := 0x1000010
abbrev TWN_LAST_CAUSE : Nat := 0x1000014
abbrev TWN_GAP_MAX : Nat := 0x1000018
abbrev TWN_PARTNER_HEALTH : Nat := 0x100001C
abbrev TWN_PARTNER_AGE : Nat := 0x1000020
abbrev TWN_PARTNER_SUP : Nat := 0x1000024
abbrev TWN_CFG_DIGEST : Nat := 0x1000028
abbrev TWN_CNT_SWITCH : Nat := 0x1000100
abbrev TWN_CNT_CMP_ROWS : Nat := 0x1000104
abbrev TWN_CNT_CMP_MISMATCH : Nat := 0x1000108
abbrev TWN_CNT_HB_MISS : Nat := 0x100010C
abbrev TWN_CNT_GAP_PUB : Nat := 0x1000110
abbrev SEC_CTRL : Nat := 0x1100000
abbrev SEC_LC_STATE : Nat := 0x1100004
abbrev SEC_STATUS : Nat := 0x1100008
abbrev SEC_RETURNS : Nat := 0x110000C
abbrev SEC_UPD_COUNTER_LO : Nat := 0x1100010
abbrev SEC_UPD_COUNTER_HI : Nat := 0x1100014
abbrev SEC_SLOTS_USED : Nat := 0x1100018
abbrev SEC_SLOT_INDEX : Nat := 0x110001C
abbrev SEC_SLOT_ATTR : Nat := 0x1100020
abbrev SEC_SLOT_GEN : Nat := 0x1100024
abbrev SEC_SLOT_KEYID : Nat := 0x1100028
abbrev SEC_SLOT_PARENT : Nat := 0x110002C
abbrev SEC_REDERIVE : Nat := 0x1100030
abbrev SEC_SLOT_PUBKEY (i : Nat) : Nat := 0x1100040 + i * 0x4
abbrev SEC_STATE_PK (i : Nat) : Nat := 0x11000C0 + i * 0x4
abbrev SEC_OWNER_HASH (i : Nat) : Nat := 0x1100140 + i * 0x4
abbrev SEC_CNT_OPS : Nat := 0x1100200
abbrev SEC_CNT_DENIED : Nat := 0x1100204
abbrev SEC_CNT_STALE : Nat := 0x1100208
abbrev SEC_CNT_TAMPER_ABORT : Nat := 0x110020C
abbrev SEC_CNT_UPD_OK : Nat := 0x1100210
abbrev SEC_CNT_UPD_FAIL : Nat := 0x1100214
abbrev BKD_CTRL : Nat := 0x1200000
abbrev BKD_STATUS : Nat := 0x1200004
abbrev BKD_TICK_LO : Nat := 0x1200008
abbrev BKD_TICK_HI : Nat := 0x120000C
abbrev BKD_WDAY_PRESCALE : Nat := 0x1200010
abbrev BKD_WEEKDAY : Nat := 0x1200014
abbrev BKD_ALARM_LO : Nat := 0x1200018
abbrev BKD_ALARM_HI : Nat := 0x120001C
abbrev BKD_ALARM_CTRL : Nat := 0x1200020
abbrev BKD_ALARM_AT_LO : Nat := 0x1200024
abbrev BKD_ALARM_AT_HI : Nat := 0x1200028
abbrev BKD_SQW : Nat := 0x120002C
abbrev BKD_PWR_CTRL : Nat := 0x1200030
abbrev BKD_TAMP_CTRL : Nat := 0x1200034
abbrev BKD_TAMP_STATE : Nat := 0x1200038
abbrev BKD_TAMP_CAUSE : Nat := 0x120003C
abbrev BKD_TAMP_TICK_LO : Nat := 0x1200040
abbrev BKD_TAMP_TICK_HI : Nat := 0x1200044
abbrev BKD_CNT_TAMPER : Nat := 0x1200048
abbrev BOOT_STATUS : Nat := 0x1300000
abbrev BOOT_RESET_CAUSE : Nat := 0x1300004
abbrev BOOT_RESET : Nat := 0x1300008
abbrev BOOT_COMMIT_MS : Nat := 0x130000C
abbrev BOOT_CFG_VERSION : Nat := 0x1300010
abbrev BOOT_CFG_DIGEST : Nat := 0x1300014
abbrev BOOT_REFUSE_SECTION : Nat := 0x1300018
abbrev BOOT_REFUSE_INFO : Nat := 0x130001C
abbrev BOOT_RCV_GO : Nat := 0x1300020
abbrev BOOT_CNT_WARM : Nat := 0x1300100
abbrev FWU_CONFIRM_WIN : Nat := 0x1300800
abbrev FWU_SET_STATUS : Nat := 0x1300804
abbrev FWU_SET_RECORDS : Nat := 0x1300808
abbrev FWU_SET_SEQ : Nat := 0x130080C
abbrev FWU_CNT_FALLBACK : Nat := 0x1300810
abbrev FWU_C_STATUS (n : Nat) : Nat := 0x1301000 + n * 0x20
abbrev FWU_C_VERSION (n : Nat) : Nat := 0x1301004 + n * 0x20
abbrev FWU_C_VERSION_OTHER (n : Nat) : Nat := 0x1301008 + n * 0x20
abbrev FWU_C_SECVER (n : Nat) : Nat := 0x130100C + n * 0x20
abbrev FWU_C_TRIAL_LEFT (n : Nat) : Nat := 0x1301010 + n * 0x20
abbrev HLT_CTRL : Nat := 0x1400000
abbrev HLT_SUMMARY : Nat := 0x1400004
abbrev HLT_E3_ACTIVE : Nat := 0x1400008
abbrev HLT_STACK : Nat := 0x140000C
abbrev HLT_LAST_LO : Nat := 0x1400010
abbrev HLT_LAST_HI : Nat := 0x1400014
abbrev HLT_LAST_SRC : Nat := 0x1400018
abbrev HLT_LAST_CODE : Nat := 0x140001C
abbrev HLT_THERM : Nat := 0x1400020
abbrev HLT_TEMP_INDEX : Nat := 0x1400024
abbrev HLT_TEMP : Nat := 0x1400028
abbrev HLT_TEMP_PEAK : Nat := 0x140002C
abbrev HLT_VCORE_I : Nat := 0x1400030
abbrev HLT_VCORE_PEAK : Nat := 0x1400034
abbrev HLT_CNT_E (n : Nat) : Nat := 0x1400100 + n * 0x4
abbrev HLT_CNT_PREEMPT : Nat := 0x1400110
abbrev HLT_CNT_STACK_LOST : Nat := 0x1400114
abbrev HLT_CNT_ESCALATE : Nat := 0x1400118
abbrev HLT_CNT_SHED_ENTRY : Nat := 0x140011C
abbrev PMC_CTRL : Nat := 0x1408000
abbrev PMC_SAMPLE_CTRL : Nat := 0x1408004
abbrev PMC_SAMPLE_BASE_LO : Nat := 0x1408008
abbrev PMC_SAMPLE_BASE_HI : Nat := 0x140800C
abbrev PMC_SAMPLE_DEPTH : Nat := 0x1408010
abbrev PMC_SAMPLE_WRIDX_LO : Nat := 0x1408014
abbrev PMC_SAMPLE_WRIDX_HI : Nat := 0x1408018
abbrev PMC_G_SEL (g : Nat) : Nat := 0x1408100 + g * 0x10
abbrev PMC_E_SEL (e k : Nat) : Nat := 0x1410000 + e * 0x100 + k * 0x10
abbrev PMC_G_THRESH (g : Nat) : Nat := 0x1408104 + g * 0x10
abbrev PMC_E_THRESH (e k : Nat) : Nat := 0x1410004 + e * 0x100 + k * 0x10
abbrev PMC_G_LO (g : Nat) : Nat := 0x1408108 + g * 0x10
abbrev PMC_E_LO (e k : Nat) : Nat := 0x1410008 + e * 0x100 + k * 0x10
abbrev PMC_G_HI (g : Nat) : Nat := 0x140810C + g * 0x10
abbrev PMC_E_HI (e k : Nat) : Nat := 0x141000C + e * 0x100 + k * 0x10
abbrev MEM_STATUS : Nat := 0x1500000
abbrev MEM_SIZE : Nat := 0x1500004
abbrev MEM_SCRUB : Nat := 0x1500008
abbrev MEM_SRAM_CNT_CE : Nat := 0x150000C
abbrev MEM_SRAM_CNT_UE : Nat := 0x1500010
abbrev MEM_CH_STATUS (c : Nat) : Nat := 0x1501000 + c * 0x100
abbrev MEM_CH_CNT_CE (c : Nat) : Nat := 0x1501004 + c * 0x100
abbrev MEM_CH_CNT_UE (c : Nat) : Nat := 0x1501008 + c * 0x100
abbrev MEM_CH_LAST_LO (c : Nat) : Nat := 0x150100C + c * 0x100
abbrev MEM_CH_LAST_HI (c : Nat) : Nat := 0x1501010 + c * 0x100

end Reg

end Sys2Proof.Machine
end

