-- ==== Sys2Proof/Machine/Ops.lean ====
section
/-!
DEFINITION. Operations that every block shares: sparse maps, registers, time, DRAM and host memory, and the event staging queue.
-/
namespace Sys2Proof.Machine

/-! ### Sparse maps: keys rise strictly, and no entry equals the value of an unlisted key -/

/-- The canonical form: every key is at least `lo`, keys rise strictly, and no value is its key's default. -/
def smWf {α : Type} [DecidableEq α] (d : Nat → α) : Nat → List (Nat × α) → Bool
  | _, [] => true
  | lo, (b, w) :: r => decide (lo ≤ b) && decide (w ≠ d b) && smWf d (b + 1) r

/-- A memory is in canonical form: addresses rise strictly and no listed byte is the 0 that an unlisted address reads as. -/
def Memory.wf (m : List Host.Cell) : Bool := smWf (fun _ => 0) 0 m

/-- The entry at a key. -/
def kvGet {α : Type} : List (Nat × α) → Nat → Option α
  | [], _ => none
  | (b, v) :: r, a => if a = b then some v else kvGet r a

/-- Puts an entry in key order. -/
def kvPut {α : Type} : List (Nat × α) → Nat → α → List (Nat × α)
  | [], a, v => [(a, v)]
  | (b, w) :: r, a, v => if a < b then (a, v) :: (b, w) :: r else if a = b then (a, v) :: r else (b, w) :: kvPut r a v

/-- Removes an entry. -/
def kvDel {α : Type} (l : List (Nat × α)) (a : Nat) : List (Nat × α) := l.filter (fun p => p.1 != a)

/-- Reads a sparse map: an unlisted key reads as its default. -/
def smGet {α : Type} (d : Nat → α) (l : List (Nat × α)) (a : Nat) : α := (kvGet l a).getD (d a)

/-- Writes a sparse map: an entry equal to its key's default is not listed. -/
def smPut {α : Type} [DecidableEq α] (d : Nat → α) (l : List (Nat × α)) (a : Nat) (v : α) : List (Nat × α) :=
  if v = d a then kvDel l a else kvPut l a v

/-- Changes an entry where there is one. -/
def kvMod {α : Type} (l : List (Nat × α)) (a : Nat) (f : α → α) : List (Nat × α) :=
  l.map (fun p => if p.1 = a then (p.1, f p.2) else p)

/-- Changes the element at an index. -/
def listMod {α : Type} (l : List α) (i : Nat) (f : α → α) : List α := l.modify i f

/-! ### Bit fields -/

/-- Bits [hi:lo] of a word as a number. -/
def bitsOf (w : Word) (hi lo : Nat) : Nat := (w.toNat >>> lo) % 2 ^ (hi + 1 - lo)

/-- A word with bits [hi:lo] replaced. -/
def withBits (w : Word) (hi lo v : Nat) : Word :=
  (w &&& ~~~(BitVec.ofNat 32 ((2 ^ (hi + 1 - lo) - 1) <<< lo))) ||| BitVec.ofNat 32 ((v % 2 ^ (hi + 1 - lo)) <<< lo)

/-- A Bool as a bit. -/
def bit (b : Bool) : Nat := if b then 1 else 0

/-- A signed number as a word, saturating at ±2^31 − 1. -/
def satS32 (i : Int) : Word := BitVec.ofInt 32 (max (-(2 ^ 31 - 1)) (min (2 ^ 31 - 1) i))

/-! ### Registers -/

/-- The value held by the register at a BAR0 offset. -/
def State.reg (s : State) (a : Nat) : Word := smGet regReset s.regs a

/-- Sets the value held by a register. -/
def State.setReg (s : State) (a : Nat) (v : Word) : State := { s with regs := smPut regReset s.regs a v }

/-- Bits [hi:lo] of a register. -/
def State.field (s : State) (a hi lo : Nat) : Nat := bitsOf (s.reg a) hi lo

/-- Bit n of a register. -/
def State.flag (s : State) (a n : Nat) : Bool := (s.reg a).getLsbD n

/-- Sets bits [hi:lo] of a register. -/
def State.setField (s : State) (a hi lo v : Nat) : State := s.setReg a (withBits (s.reg a) hi lo v)

/-- Sets bit n of a register. -/
def State.setFlag (s : State) (a n : Nat) (b : Bool) : State := s.setField a n n (bit b)

/-- A counter register plus n, saturating at 0xFFFF_FFFF. -/
def State.bumpBy (s : State) (a n : Nat) : State := s.setReg a (satWord ((s.reg a).toNat + n))

/-- A counter register plus 1, saturating at 0xFFFF_FFFF. -/
def State.bump (s : State) (a : Nat) : State := s.bumpBy a 1

/-- The larger of a register and a value, saturating. -/
def State.maxReg (s : State) (a v : Nat) : State := s.setReg a (satWord (max (s.reg a).toNat v))

/-- Sets a register pair to a 64-bit value. -/
def State.setPair (s : State) (lo hi v : Nat) : State :=
  (s.setReg lo (Word.ofNat v)).setReg hi (Word.ofNat (v / 2 ^ 32))

/-- The 64-bit value of a register pair. -/
def State.pair (s : State) (lo hi : Nat) : Nat := (s.reg lo).toNat + 2 ^ 32 * (s.reg hi).toNat

/-- STAGED fields of a register. -/
def stagedMask (a : Nat) : Word := match regDesc a with
  | some d => d.staged
  | none => 0xFFFFFFFF

/-- The value that a register will have after its commit: its STAGED fields from the shadow, the others as they are. -/
def State.staged (s : State) (a : Nat) : Word :=
  match kvGet s.shadow a with
  | some v => (s.reg a &&& ~~~(stagedMask a)) ||| (v &&& stagedMask a)
  | none => s.reg a

/-- Makes the shadow of a register its value in effect. -/
def State.commitReg (s : State) (a : Nat) : State :=
  { s.setReg a (s.staged a) with shadow := kvDel s.shadow a }

/-- Puts a value in the shadow of a STAGED register (R7). -/
def State.stageReg (s : State) (a : Nat) (v : Word) : State := { s with shadow := kvPut s.shadow a v }

/-- Commits the shadows of every register of a window (R7). -/
def State.commitRange (s : State) (lo n : Nat) : State :=
  (s.shadow.filter (fun p => lo ≤ p.1 && p.1 < lo + n)).foldl (fun s p => s.commitReg p.1) s

/-- Discards the shadow of a register. -/
def State.dropShadow (s : State) (a : Nat) : State := { s with shadow := kvDel s.shadow a }

/-! ### Time -/

/-- Device Time in ns of TAI (R93). -/
def State.now (s : State) : Nat := 2 ^ 32 * s.tim.hi.toNat + s.tim.ns.toNat

/-- Elapsed ns since reset on CLK_PORT, 2.56 ns a tick, rounded down (R34). -/
def State.elapsed (s : State) : Nat := 64 * s.tim.ticks / 25

/-- The second of Device Time. -/
def State.second (s : State) : Nat := s.now / 1000000000

/-- Synchronisation state of Table 04-1: 0 FREE, 1 ACQUIRING, 2 LOCKED, 3 HOLDOVER. -/
def State.syncState (s : State) : Nat := s.field Reg.TIM_STATUS 2 0

/-- Time-quality code of Device Time (R101). -/
def State.timeQuality (s : State) : Nat := s.field Reg.TIM_STATUS 11 8

/-! ### Little-endian bytes (R2) -/

/-- n bytes of a number, least significant first. -/
def leBytes : Nat → Nat → List Byte
  | 0, _ => []
  | n + 1, v => BitVec.ofNat 8 v :: leBytes n (v / 256)

/-- The number that bytes spell, least significant first. -/
def leNat : List Byte → Nat
  | [] => 0
  | b :: r => b.toNat + 256 * leNat r

/-- Bytes i to i + n − 1 of a list; bytes past its end are 0. -/
def bytesAt (l : List Byte) (i n : Nat) : List Byte := (List.range n).map (fun k => l.getD (i + k) 0)

/-- The little-endian number in bytes i to i + n − 1. -/
def natAt (l : List Byte) (i n : Nat) : Nat := leNat (bytesAt l i n)

/-- A list cut or padded with zeros to n bytes. -/
def padTo (n : Nat) (l : List Byte) : List Byte := bytesAt l 0 n

/-! ### CRC-32C (R20) -/

/-- One step of the reflected CRC for a bit. -/
def crcBit (c : Word) : Word := if c.getLsbD 0 then (c >>> 1) ^^^ 0x82F63B78#32 else c >>> 1

/-- The CRC register after a byte. -/
def crcByte (c : Word) (b : Byte) : Word :=
  let x := c ^^^ b.setWidth 32
  crcBit (crcBit (crcBit (crcBit (crcBit (crcBit (crcBit (crcBit x)))))))

/-- The CRC-32C of a list of bytes: reflected Castagnoli, initial value and final XOR 0xFFFF_FFFF. -/
def crc32c (l : List Byte) : Word := l.foldl crcByte 0xFFFFFFFF#32 ^^^ 0xFFFFFFFF#32

/-! ### Memories -/

/-- A DRAM byte; an unlisted byte reads 0. -/
def State.dramByte (s : State) (a : Nat) : Byte := smGet (fun _ => 0) s.dram a

/-- Writes bytes to DRAM at rising addresses. -/
def dramPut : List Host.Cell → Nat → List Byte → List Host.Cell
  | m, _, [] => m
  | m, a, b :: r => dramPut (smPut (fun _ => 0) m a b) (a + 1) r

/-- Writes bytes to DRAM. -/
def State.writeDram (s : State) (a : Nat) (l : List Byte) : State := { s with dram := dramPut s.dram a l }

/-- n DRAM bytes. -/
def State.readDram (s : State) (a n : Nat) : List Byte := (List.range n).map (fun k => s.dramByte (a + k))

/-- Writes bytes to host memory as bus master. -/
def State.writeHost (s : State) (a : Nat) (l : List Byte) : State := { s with hostMem := dramPut s.hostMem a l }

/-- A byte of host memory that the device has written; an unlisted byte reads 0. -/
def State.hostByte (s : State) (a : Nat) : Byte := smGet (fun _ => 0) s.hostMem a

/-! ### Free values -/

/-- The next free value. -/
def State.freshWord (s : State) : Word := Config.freeWord s.free

/-- The state after n free values were taken. -/
def State.useFree (s : State) (n : Nat) : State := { s with free := s.free + n }

/-! ### Events (R17, R296, R297) -/

/-- The source number of a block's local source in this device. -/
def State.sourceOf (s : State) (block loc : Nat) : Word :=
  Word.ofNat (2 ^ 23 * s.field Reg.SYS_DEVICE_ID 8 0 + 2 ^ 16 * (block % 128) + loc % 2 ^ 16)

/-- Time validity as Device Time stands: bit 7 LOCKED (Table 04-1), bits [3:0] the time-quality code. -/
def State.validity (s : State) : Byte :=
  BitVec.ofNat 8 ((if 2 ≤ s.syncState then 0x80 else 0) + s.timeQuality)

/-- Time validity as Device Time stood at an instant: before a change, what it was until that change (R17, R298). -/
def State.validityAt (s : State) (t : Nat) : Byte :=
  if s.now ≤ t then s.validity
  else (((s.tim.valLog.filter (fun x => decide (t < x.1))).getLast?).map (fun x => x.2)).getD s.validity

/-- Remembers the time validity that held up to now, where a state that follows has another (R298). -/
def State.noteValidity (old s : State) : State :=
  let t := s.now
  let v := old.validity
  { s with tim := if v = s.validity then s.tim else { s.tim with valLog := (t, v) :: s.tim.valLog } }

/-- A LOST record, which is never displaced (R297). -/
def Event.isLost (e : Event) : Bool := e.code == 0x0D01

/-- The lowest severity among queued events that blocks submitted; LOST records do not count (R297). -/
def lowestSev : List Event → Nat
  | [] => 4
  | e :: r => if e.isLost then lowestSev r else min e.sev (lowestSev r)

/-- Removes the newest queued event of a severity, if any. -/
def dropNewest (sev : Nat) (q : List Event) : List Event :=
  (q.reverse.eraseP (fun e => !e.isLost && e.sev == sev)).reverse

/-- Adds one lost event to the losses that wait to be told. -/
def addLoss (l : Option LostAcc) (e : Event) : LostAcc :=
  let a := l.getD { first := e.gts, firstVal := e.validity }
  { a with
    counts := listMod a.counts e.sev (· + 1)
    first := min a.first e.gts
    firstVal := if e.gts < a.first then e.validity else a.firstVal
    last := max a.last e.gts }

/-- Counts a lost event (R296). -/
def State.loseEvent (s : State) (e : Event) : State :=
  let s := s.bump (Reg.EVR_CNT_QDROP e.sev)
  { s with evr := { s.evr with lost := some (addLoss s.evr.lost e) } }

/-- Shows the staging depth. -/
def State.showStaging (s : State) : State := s.setField Reg.EVR_STATUS 9 0 s.evr.staging.length

/-- A block submits an event to the staging queue (R296). -/
def State.stageEvent (s : State) (e : Event) : State :=
  if s.evr.staging.length < 512 then
    { s with evr := { s.evr with staging := s.evr.staging ++ [e] } }.showStaging
  else
    let low := lowestSev s.evr.staging
    if 2 ≤ e.sev && low < e.sev then
      match s.evr.staging.reverse.find? (fun x => !x.isLost && x.sev == low) with
      | some v =>
        let s := (s.loseEvent v).bump Reg.EVR_CNT_DISPLACED
        { s with evr := { s.evr with staging := dropNewest low s.evr.staging ++ [e] } }
      | none => s.loseEvent e
    else s.loseEvent e

/-- A recorder selects an event: severity and block mask (R320). -/
def State.capSelects (s : State) (r : Nat) (e : Event) : Bool :=
  decide (s.field (Reg.CAP_R_EVCFG r) 1 0 ≤ e.sev) && s.flag (Reg.CAP_R_EVMASK r) (bitsOf e.source 22 16)

/-- A capture's span holds an instant. -/
def Capture.spans (c : Capture) (t : Nat) : Bool :=
  match c.frames.head?, c.frames.getLast? with
  | some a, some b => decide (a.time ≤ t) && decide (t ≤ b.time)
  | _, _ => false

/-- A recorder with an event it has selected: its last 1,024 events, and those of the ACTIVE capture (R320). -/
def RecorderState.addEvent (x : RecorderState) (e : Event) : RecorderState :=
  let l := x.events ++ [e]
  { x with
    events := l.drop (l.length - 1024)
    active := x.active.map (fun c => { c with events := c.events ++ [e] }) }

/-- The recorders copy an event as it is submitted; one that belongs to a closed capture is counted (R320). -/
def State.captureEvent (s : State) (e : Event) : State :=
  s.cap.recs.foldl (fun (s : State) (x : Nat × RecorderState) =>
    if s.capSelects x.1 e then
      let late := x.2.stored.any (fun c => c.spans e.gts)
      let s := { s with cap := { s.cap with recs := kvMod s.cap.recs x.1 (fun y => y.addEvent e) } }
      if late then s.bump Reg.CAP_CNT_EV_LOST else s
    else s) s

/-- Codes of the records that the recorder itself generates (R18): LOST, RECOVERED, START, HEARTBEAT and the wear warning of block 0x0D. -/
def ownCodes : List Nat := [0x0D01, 0x0D03, 0x0D04, 0x0D05, 0x0D06]

/-- The event of a code at a GTS, as its block submits it: the block is the high byte of the code, the time validity that at the GTS. -/
def State.eventAt (s : State) (gts code sev loc : Nat) (payload : List Byte) : Event where
  gts := gts
  source := s.sourceOf (code / 256) loc
  code := BitVec.ofNat 16 code
  sev := sev
  synthetic := ownCodes.contains code
  remote := false
  validity := s.validityAt gts
  payload := padTo 32 payload

/-! ### Hedgerow packets (R356, R358, R364) -/

/-- This device's ID. -/
def State.ownId (s : State) : Nat := s.field Reg.SYS_DEVICE_ID 8 0

/-- A route to a device is up (R359); a device reaches itself. -/
def State.routeUp (s : State) (d : Nat) : Bool := d == s.ownId || ((kvGet s.hgw.devices d).map (fun x => x.up)).getD false

/-- Kind and number of items of a packet body. -/
def bodySize : HgwBody → Nat × Nat
  | .linkState _ _ l => (0, l.length)
  | .closure _ _ _ _ _ _ _ => (1, 1)
  | .slots _ _ _ v => (2, v.length)
  | .slotWrite _ _ _ _ _ _ => (3, 1)
  | .peer _ _ _ _ _ _ _ _ => (4, 1)
  | .event _ _ _ _ _ p => (5, p.length)
  | .utilisation _ _ _ l => (6, l.length)
  | .placement _ m _ => (7, m.length)
  | .placementAck _ _ => (8, 1)
  | .withdraw _ => (9, 1)
  | .stateMove _ _ _ _ _ r b => (10, r.nodes.length + r.arcs.length + (b.map List.length).foldl (· + ·) 0)

/-- Bytes of a packet, within the limit of its class (R356). -/
def packetBytes (cls : HgwClass) (b : HgwBody) : Nat :=
  let n := Config.packetSize (bodySize b).1 (bodySize b).2
  min (if cls = .lc0 then 1088 else 4160) n

/-- T0 to the partner of a twin pair is up. -/
def State.t0Up (s : State) : Bool := s.flag Reg.TWN_CTRL 0 && s.flag Reg.TWN_STATUS 9

/-- This device terminates a link: of a twin pair side A the even ones and side B the odd ones, and none while it is FAULTY by a side conflict (R376, R380). -/
def State.terminates (s : State) (l : Nat) : Bool :=
  !s.flag Reg.TWN_CTRL 0 || ((l % 2 == 1) == s.flag Reg.TWN_CTRL 1 && !(s.twn.conflict && s.field Reg.TWN_STATUS 2 0 == 6))

/-- This device may originate Hedgerow packets: not a pair's device in a silent role (R376, R381). -/
def State.originates (s : State) : Bool := s.field Reg.TWN_STATUS 2 0 ≤ 2

/-- Gives a packet to the partner over T0; while T0 is down nothing is relayed (R376). -/
def State.relayT0 (s : State) (p : HgwPacket) : State :=
  { s with hgw := if s.t0Up then { s.hgw with t0 := s.hgw.t0 ++ [p] } else s.hgw }

/-- Puts a packet in the queue of a link; one for a link of the partner's side goes over T0, and waits as for a link that is down while T0 is down (R359, R376). -/
def State.linkQueue (s : State) (l : Nat) (p : HgwPacket) : State :=
  { s with hgw :=
      if s.t0Up && !s.terminates l then { s.hgw with t0 := s.hgw.t0 ++ [p] }
      else { s.hgw with links := listMod s.hgw.links l (fun x => { x with queue := x.queue ++ [p] }) } }

/-- Sends or relays a packet along its route; one for a device with no route is lost (R359). -/
def State.routePacket (s : State) (p : HgwPacket) : State :=
  match (kvGet s.hgw.devices p.dst) with
  | some d =>
    match d.up, d.first with
    | true, some l => s.linkQueue l p
    | _, _ => s.bump Reg.HGW_CNT_LOST
  | none => s.bump Reg.HGW_CNT_LOST

/-- Sends a packet of this device; a silent device of a twin pair originates none (R376). -/
def State.hgwSend (s : State) (dst : Nat) (cls : HgwClass) (b : HgwBody) : State :=
  if !s.originates then s
  else if s.flag Reg.HGW_CTRL 0 then s.routePacket { src := s.ownId, dst := dst, cls := cls, size := packetBytes cls b, body := b }
  else s.bump Reg.HGW_CNT_LOST

/-- Class of a packet for a latency class (R360). -/
def hgwClass (lc : Nat) : HgwClass := if lc = 0 then .lc0 else if lc = 1 then .lc1 else if lc = 2 then .lc2 else .lc3

/-- Local number of a graph of a device: guests stand above the 4,096 own graphs (R369). -/
def guestGraph (owner g : Nat) : Nat := (owner + 1) * 4096 + g

/-- Local number of a rate group of another device (R360). -/
def guestGroup (owner rg : Nat) : Nat := (owner + 1) * 4 + rg

/-- The device that runs a graph of this device for a row tag (R369, R371). -/
def State.graphHost (s : State) (g tag : Nat) : Nat :=
  ((s.hgw.away.find? (fun x => x.1 == g && decide (x.2.1 ≤ tag))).map (fun x => x.2.2)).getD s.ownId

/-- A block submits an event here: the recorders of CAP copy it, and it enters the staging queue (R296, R320). -/
def State.submitHere (s : State) (e : Event) : State := (s.captureEvent e).stageEvent e

/-- An event of severity at least MINSEV goes to the collector; for an unreachable collector it is dropped, with event 0x1009 at the first drop (R364). -/
def State.forwardEvent (s : State) (e : Event) : State :=
  let w := s.reg Reg.HGW_EVT_FWD
  let c := bitsOf w 8 0
  if !w.getLsbD 15 || e.sev < bitsOf w 13 12 || c = s.ownId || e.remote then s
  else if s.flag Reg.HGW_CTRL 0 && s.routeUp c then
    let s := s.hgwSend c .lc3 (.event e.gts e.source e.code e.sev e.validity e.payload)
    { s with hgw := { s.hgw with evtLostRun := false } }
  else
    let n := satNat 32 (s.hgw.evtLost + 1)
    let first := !s.hgw.evtLostRun
    let s := { s with hgw := { s.hgw with evtLost := n, evtLostRun := true } }.bump Reg.HGW_CNT_EVT_FWD_LOST
    if first then s.submitHere (s.eventAt s.now 0x1009 1 0 (leBytes 2 c ++ leBytes 2 0 ++ leBytes 4 n)) else s

/-- A block submits an event: here, and to the collector of a joined system (R296, R320, R364). -/
def State.submit (s : State) (e : Event) : State := (s.submitHere e).forwardEvent e

/-- Logs an event of local source 0 now, with the payload from byte 24. -/
def State.log (s : State) (code sev : Nat) (payload : List Byte) : State := s.submit (s.eventAt s.now code sev 0 payload)

/-! ### Windows of state by index -/

/-- A port's state. -/
def State.port (s : State) (p : Nat) : PortState := s.ports.getD p {}

/-- Changes a port's state. -/
def State.modPort (s : State) (p : Nat) (f : PortState → PortState) : State := { s with ports := listMod s.ports p f }

/-- A pair's state. -/
def State.prp (s : State) (p : Nat) : PairState := s.pairs.getD p {}

/-- Changes a pair's state. -/
def State.modPair (s : State) (p : Nat) (f : PairState → PairState) : State := { s with pairs := listMod s.pairs p f }

/-- The block runs and its outputs drive: not a Fallow or otherwise silent role (Table 16-1), and outputs are on (R423, R450). -/
def State.drives (s : State) : Bool := !s.boot.outputsOff && s.field Reg.TWN_STATUS 2 0 ≤ 2

/-! ### The mirror on the Fallow partner (R386) -/

/-- TWN_STATUS.ROLE (Table 16-1). -/
def State.role (s : State) : Nat := s.field Reg.TWN_STATUS 2 0

/-- The pair is TILLED and FALLOW with T0 up, and this device is the Tilled one: its outputs are mirrored (R386, R389). -/
def State.mirrored (s : State) : Bool := s.role == 2 && s.flag Reg.TWN_STATUS 9 && s.twn.fallow

/-- Sends a mirror message. -/
def State.mirror (s : State) (b : MirrorBody) : State :=
  { s with twn := { s.twn with unacked := s.twn.unacked ++ [MirrorMsg.mk s.twn.nextMsg b], nextMsg := s.twn.nextMsg + 1 } }

/-! ### Performance counters (R458) -/

/-- A 48-bit counter, by its SEL register, counts n; a wrap sets OVF. -/
def State.pmcAdd (s : State) (sel n : Nat) : State :=
  let v := s.pair (sel + 8) (sel + 12) + n
  let s := s.setPair (sel + 8) (sel + 12) (v % 2 ^ 48)
  if 2 ^ 48 ≤ v then s.setFlag sel 15 true else s

/-- An enabled counter counts an event while RUN is set; an engine counter with LC_FILTER only for its class. -/
def State.pmcCount (s : State) (sel code lc n : Nat) : State :=
  let w := s.reg sel
  if w.getLsbD 8 && bitsOf w 7 0 == code && (!w.getLsbD 12 || bitsOf w 11 10 == lc) then s.pmcAdd sel n else s

/-- The counters of an engine see an event of Table 20-5 while it runs work of a class. -/
def State.pmcEngine (s : State) (e code lc n : Nat) : State :=
  if !s.flag Reg.PMC_CTRL 0 then s
  else (List.range 8).foldl (fun (s : State) k => s.pmcCount (Reg.PMC_E_SEL e k) code lc n) s

/-- The global counters see an event of Table 20-5. -/
def State.pmcGlobal (s : State) (code n : Nat) : State :=
  if !s.flag Reg.PMC_CTRL 0 then s
  else (List.range 32).foldl (fun (s : State) g =>
    let w := s.reg (Reg.PMC_G_SEL g)
    if w.getLsbD 8 && bitsOf w 7 0 == code then s.pmcAdd (Reg.PMC_G_SEL g) n else s) s

/-- A port or link (Table 01-10 number) has trained, so its PLL is locked again; SERDES_LOCK shows it once every one is (Table 01-9). -/
def State.pllBack (s : State) (n : Nat) : State :=
  if s.hlt.pllLost.contains n then
    let l := s.hlt.pllLost.filter (fun x => x != n)
    let s := { s with hlt := { s.hlt with pllLost := l } }
    if l.isEmpty then s.setFlag Reg.SYS_CLK_STATUS 1 true else s
  else s

end Sys2Proof.Machine
end

