-- ==== Sys2Proof/Machine/Errors.lean ====
section
/-!
DEFINITION. Grading, escalating, stacking and containing errors (R445 to R450), as every block reports them.
-/
namespace Sys2Proof.Machine

/-- Raises an MSI-X vector (R341, R452). -/
def State.raiseVector (s : State) (v : Nat) : State := { s with hif := { s.hif with vectors := s.hif.vectors ++ [v] } }

/-- The highest grade among the errors handled, stacked or active (HLT_SUMMARY.WORST). -/
def State.worst (s : State) : Nat :=
  let h := match s.hlt.handling with
    | some (e, _) => e.err.grade
    | none => 0
  let st := s.hlt.stack.foldl (fun m e => max m e.err.grade) h
  let a := if s.hlt.active = 0 then st else max st 3
  if s.hlt.e4.isSome then 4 else a

/-- The shedding level in force: by temperature, or level 1 by the current limit (R453, R456). -/
def State.shedLevel (s : State) : Nat := max s.hlt.thermLevel (bit s.hlt.currentLevel)

/-! ### What the health registers show (R451, R452) -/

/-- Some component of the boot record is in TRIAL. -/
def State.inTrial (s : State) : Bool := s.boot.comps.any (fun c => c.state == .trial)

/-- Engines that are fenced. -/
def State.fenced (s : State) : Nat := ((List.range 60).filter (fun e => s.flag (Reg.DFS_PE_STATUS e) 5)).length

/-- Every cluster shows its LC0 program loaded and an admission is committed (HLT_SUMMARY bit 11). -/
def State.lc0Shown (s : State) : Bool := (List.range 8).all (fun c => s.flag (Reg.DFS_CL_STATUS c) 8) && s.committed

/-- The word HLT_SUMMARY shows: the device's state in one read (R452, Table 20-7). -/
def State.summary (s : State) : Word :=
  Word.ofNat (s.worst % 8 + 8 * (s.shedLevel % 4) + 32 * bit s.hlt.currentLevel + 64 * bit (s.hlt.chanHot.any id)
    + 128 * bit s.inTrial + 256 * (s.syncState % 8) + 2048 * bit s.lc0Shown + 4096 * (s.fenced % 256) + 2 ^ 20 * s.role)

/-- Shows HLT_SUMMARY, HLT_E3_ACTIVE and the level in HLT_THERM (Table 20-7). -/
def State.showHealth (s : State) : State :=
  ((s.setReg Reg.HLT_SUMMARY s.summary).setReg Reg.HLT_E3_ACTIVE s.hlt.active).setField Reg.HLT_THERM 1 0 s.shedLevel

/-- The end of every command: the next state, its health registers showing the present state (R452). -/
def answer (s : State) : Host.Outcome State Fault Refusal := .next s.showHealth

/-- Raises ERR_VECTOR where WORST or THERM_LEVEL differ from an earlier state (R452). -/
def State.noticeHealth (s0 s : State) : State :=
  if s.worst ≠ s0.worst || s.shedLevel ≠ s0.shedLevel then s.raiseVector (s.field Reg.HIF_CTRL 13 8) else s

/-- The block code of a source number (R17). -/
def blockOf (src : Word) : Nat := bitsOf src 22 16

/-- An error escalates to a grade: event 0x1505 and HLT_CNT_ESCALATE (R447). -/
def State.escalate (s : State) (e : ErrorRec) (g : Nat) : State :=
  (s.log 0x1505 2 (leBytes 4 e.source.toNat ++ leBytes 1 g)).bump Reg.HLT_CNT_ESCALATE

/-- E2 errors of a source so far in the present second. -/
def State.e2InSecond (s : State) (src : Word) : Nat :=
  match s.hlt.e2Count.find? (fun x => x.1 == src) with
  | some (_, sec, n) => if sec = s.second then n else 0
  | none => 0

/-- Counts an E2 error of a source (R447). -/
def State.countE2 (s : State) (src : Word) : State :=
  { s with hlt := { s.hlt with
      e2Count := (src, s.second, s.e2InSecond src + 1) :: s.hlt.e2Count.filter (fun x => x.1 != src) } }

/-- Another E3 of the block was found less than 60 s ago (R447). -/
def State.recentE3 (s : State) (b : Nat) : Bool :=
  match kvGet s.hlt.e3At b with
  | some t => decide (s.elapsed ≤ t + 60000000000)
  | none => false

/-- Marks an E3 of a block active and remembers when (R447, R451). -/
def State.markE3 (s : State) (b : Nat) : State :=
  { s with hlt := { s.hlt with
      active := s.hlt.active ||| (1 <<< b)
      e3At := kvPut s.hlt.e3At b s.elapsed } }

/-- The sequence of R450 begins: outputs stop; the pins become undriven. -/
def State.beginE4 (s : State) : State :=
  if s.hlt.e4.isSome then s
  else
    let s : State := { s with
      hlt := { s.hlt with e4 := some s.elapsed }
      boot := { s.boot with outputsOff := true }
      alm := { s.alm with pins := s.alm.pins.map (fun p => { p with driven := false }) } }
    if s.role = 2 && !s.flag Reg.TWN_STATUS 8 then s.log 0x1108 2 (leBytes 1 3) else s

/-- The grade an error ends with, and the state after its escalations were logged (R447); an E3 that finds the stack full becomes E4 (R448). -/
def State.gradeError (s : State) (e : ErrorRec) : ErrorRec × State :=
  let (e, s) :=
    if e.grade = 2 then
      let s := s.countE2 e.source
      if s.e2InSecond e.source = s.field Reg.HLT_CTRL 15 8 + 1 then ({ e with grade := 3, cause := 2 }, s.escalate e 3) else (e, s)
    else (e, s)
  let b := blockOf e.source
  let full := s.hlt.handling.isSome && decide (16 ≤ s.hlt.stack.length)
  if e.grade = 3 then
    if full then ({ e with grade := 4, cause := 2 }, s.markE3 b)
    else if b = 0x01 || b = 0x05 || b = 0x15 || b = 0x16 || s.recentE3 b then
      ({ e with grade := 4, cause := 2 }, (s.markE3 b).escalate e 4)
    else (e, s.markE3 b)
  else (e, s)

/-- Shows the stack in HLT_STACK (R462). -/
def State.showStack (s : State) : State :=
  let g := match s.hlt.handling with
    | some (e, _) => e.err.grade
    | none => 0
  let n := s.hlt.stack.length
  let s := s.setField Reg.HLT_STACK 4 0 n
  let s := s.setField Reg.HLT_STACK 10 8 g
  s.setField Reg.HLT_STACK 20 16 (max (s.field Reg.HLT_STACK 20 16) n)

/-- Starts handling an entry, returning the one being handled to the stack (R448). -/
def State.preempt (s : State) (x : StackEntry) : State :=
  match s.hlt.handling with
  | some (h, _) =>
    ({ s with hlt := { s.hlt with
        handling := some (x, s.elapsed)
        stack := { h with resumed := true } :: s.hlt.stack } }).bump Reg.HLT_CNT_PREEMPT
  | none => { s with hlt := { s.hlt with handling := some (x, s.elapsed) } }

/-- Puts an error before the handler or on the stack (R448). -/
def State.stackError (s : State) (x : StackEntry) : State :=
  match s.hlt.handling with
  | none => s.preempt x
  | some (h, _) =>
    if s.hlt.stack.length < 16 then
      (if h.err.grade < x.err.grade then s.preempt x else { s with hlt := { s.hlt with stack := s.hlt.stack ++ [x] } })
    else if x.err.grade ≤ 2 then
      let s := s.bump Reg.HLT_CNT_STACK_LOST
      if s.hlt.lostRun then s
      else
        let s := s.log 0x1506 2 (leBytes 4 (s.reg Reg.HLT_CNT_STACK_LOST).toNat)
        { s with hlt := { s.hlt with lostRun := true } }
    else s.preempt x

/-- Reports an error to the health function: grade, count, record, contain and stack it (R445 to R448, R450). -/
def State.raiseError (s0 : State) (e0 : ErrorRec) : State :=
  let (e, s) := s0.gradeError e0
  let s := s.bump (Reg.HLT_CNT_E (e.grade - 1))
  let s := s.setPair Reg.HLT_LAST_LO Reg.HLT_LAST_HI s.now
  let s := s.setReg Reg.HLT_LAST_SRC e.source
  let s := s.setReg Reg.HLT_LAST_CODE (Word.ofNat (e.code.toNat + 2 ^ 16 * (e.grade % 8)))
  let s := if 4 ≤ e.grade then s.beginE4 else s
  let x : StackEntry := { err := e, gts := s.now, val := s.validity, order := s.hlt.order, resumed := false }
  let s := { s with hlt := { s.hlt with order := s.hlt.order + 1 } }
  s0.noticeHealth (s.stackError x).showStack

/-- An error of a block with the code of its own event. -/
def State.blockError (s : State) (grade block code : Nat) : State :=
  s.raiseError { grade := grade, source := s.sourceOf block 0, code := BitVec.ofNat 16 code, cause := 1, channel := 0, addr := 0 }

end Sys2Proof.Machine
end

