-- ==== Sys2Proof/Machine/Queues.lean ====
section
/-!
DEFINITION. Queues and packets (R333 to R341), handles, completions and the journal (R343 to R349) as shared operations.
-/
namespace Sys2Proof.Machine

/-! ### Queues -/

/-- A queue's state. -/
def State.queue (s : State) (q : Nat) : QueueState := (kvGet s.hif.queues q).getD {}

/-- Sets a queue's state. -/
def State.setQueue (s : State) (q : Nat) (x : QueueState) : State :=
  { s with hif := { s.hif with queues := kvPut s.hif.queues q x } }

/-- HIF_Q_CTRL.EN. -/
def State.qEn (s : State) (q : Nat) : Bool := s.flag (Reg.HIF_Q_CTRL q) 0
/-- Depth in words. -/
def State.qDepth (s : State) (q : Nat) : Nat := 2 ^ s.field (Reg.HIF_Q_CTRL q) 4 1
/-- Producer code of Table 14-3. -/
def State.qProducer (s : State) (q : Nat) : Nat := s.field (Reg.HIF_Q_CTRL q) 11 8
/-- Consumer code of Table 14-3. -/
def State.qConsumer (s : State) (q : Nat) : Nat := s.field (Reg.HIF_Q_CTRL q) 15 12

/-- A packet's words in the ring: its length word (Table 14-4), then its payload. -/
def Packet.ring (p : Packet) : List Word := Word.ofNat (p.words.length % 2048 + p.kind % 256 * 2 ^ 16) :: p.words

/-- Words visible to the consumer. -/
def QueueState.visible (x : QueueState) : List Word := (x.packets.map Packet.ring).flatten.drop (x.taken.getD 0)

/-- Words in use, an open reservation with its length slot among them (R334). -/
def QueueState.used (x : QueueState) : Nat :=
  x.visible.length + (match x.open_ with
    | some w => w.length + 1
    | none => 0)

/-- Complete packets whose length word has not yet been read (R339). -/
def QueueState.count (x : QueueState) : Nat := x.packets.length - (if x.taken.isSome then 1 else 0)

/-- Free words (R339). -/
def State.qFree (s : State) (q : Nat) : Nat := s.qDepth q - (s.queue q).used

/-- HIF_Q_COUNT (R339); a queue that is not in use reads 0. -/
def State.qCountReg (s : State) (q : Nat) : Word :=
  if s.qEn q then Word.ofNat ((s.queue q).count % 2 ^ 16 + s.qFree q * 2 ^ 16) else 0

/-- A pointer of a queue advances by n words, in both copies (R340). -/
def advance (ptr : Nat × Nat) (n depth : Nat) : Nat × Nat := ((ptr.1 + n) % depth, (ptr.2 + n) % depth)

/-- Removes n visible words from the head. -/
def QueueState.take (depth : Nat) : Nat → QueueState → QueueState
  | 0, x => x
  | n + 1, x =>
    match x.packets with
    | [] => x
    | p :: r =>
      let k := x.taken.getD 0 + 1
      let ptr := advance (x.rdPtr, x.rdCopy) 1 depth
      QueueState.take depth n
        { x with
          packets := if k = p.words.length + 1 then r else p :: r
          taken := if k = p.words.length + 1 then none else some k
          rdPtr := ptr.1
          rdCopy := ptr.2 }

/-- The packets a queue holds, an open one among them. -/
def QueueState.held (x : QueueState) : Nat := x.packets.length + bit x.open_.isSome

/-- Shows OPEN in HIF_Q_STATUS. -/
def State.showOpen (s : State) (q : Nat) : State := s.setFlag (Reg.HIF_Q_STATUS q) 2 (s.queue q).open_.isSome

/-- Raises the queue's vector where R341 calls for it. -/
def State.qIrq (s : State) (q : Nat) : State :=
  let x := s.queue q
  if s.flag (Reg.HIF_Q_CTRL q) 22 && x.irqArmed && s.field (Reg.HIF_Q_IRQ q) 7 0 ≤ x.count then
    (s.setQueue q { x with irqArmed := false, irqAfter := none }).raiseVector (s.field (Reg.HIF_Q_CTRL q) 21 16)
  else s

/-- A POP read was made: the time of R341 starts, and with ITR 0 has ended. -/
def State.qPopped (s : State) (q : Nat) : State :=
  let x := s.queue q
  if x.irqArmed || x.irqAfter.isSome then s
  else
    let itr := s.field (Reg.HIF_Q_IRQ q) 23 8
    if itr = 0 then (s.setQueue q { x with irqArmed := true }).qIrq q
    else s.setQueue q { x with irqAfter := some (s.elapsed + itr * 1000) }

/-- A pointer mismatch resets the queue (R340). -/
def State.qReset (s : State) (q : Nat) : State :=
  let x := s.queue q
  let lost := x.held
  let s := s.setQueue q { x with
    packets := [], taken := none, open_ := none, rdPtr := 0, rdCopy := 0, wrPtr := 0, wrCopy := 0
    discarding := x.discarding || (x.open_.isSome && x.endWait.isNone && s.qProducer q == 0)
    pushWait := [], endWait := none, waits := [] }
  let s := x.waits.foldl (fun (s : State) w => { s with readData := List.replicate w.n 0xFFFFFFFE#32 }) s
  let s := s.bumpBy (Reg.HIF_Q_CNT_LOST q) lost
  let s := s.bump (Reg.HIF_Q_CNT_RESET q)
  let s := (s.setFlag (Reg.HIF_Q_STATUS q) 0 true).showOpen q
  let s := s.log 0x0F03 2 (leBytes 4 q ++ leBytes 4 lost)
  s.blockError 2 0x0F 0x0F03

/-- Compares both copies of each pointer, as every access does (R340). -/
def State.qCheck (s : State) (q : Nat) : State :=
  let x := s.queue q
  if x.rdPtr = x.rdCopy && x.wrPtr = x.wrCopy then s else s.qReset q

/-- Serves the oldest stalled host reads, at most n of them, that now find all their words (R336). -/
def State.qServe (q : Nat) : Nat → State → State
  | 0, s => s
  | n + 1, s =>
    let x := s.queue q
    match x.waits with
    | w :: r =>
      if w.n ≤ x.visible.length then
        State.qServe q n ((({ s with readData := x.visible.take w.n }).setQueue q
          { QueueState.take (s.qDepth q) w.n x with waits := r }).qPopped q)
      else s
    | [] => s

/-- Serves stalled host reads that now find all their words (R336). -/
def State.qWake (s : State) (q : Nat) : State := State.qServe q (s.queue q).waits.length s

/-- Appends a complete packet: the write pointer moves, the packet counts, and an interrupt or a stalled read may follow. -/
def State.qAppend (s : State) (q : Nat) (p : Packet) : State :=
  let x := s.queue q
  let ptr := advance (x.wrPtr, x.wrCopy) (p.words.length + 1) (s.qDepth q)
  let s := s.setQueue q { x with packets := x.packets ++ [p], wrPtr := ptr.1, wrCopy := ptr.2 }
  ((s.bump (Reg.HIF_Q_CNT_PKTS q)).qIrq q).qWake q

/-- A block offers a packet to a queue: none when it does not fit, or the queue is not in use (R337). -/
def State.qOffer (s0 : State) (q kind : Nat) (words : List Word) : Option State :=
  let s := s0.qCheck q
  if s.qEn q && words.length + 1 ≤ s.qFree q then some (s.qAppend q { kind := kind, words := words }) else none

/-- Bytes as little-endian words. -/
def toWords : Nat → List Byte → List Word
  | 0, _ => []
  | n + 1, l => Word.ofNat (natAt l 0 4) :: toWords n (l.drop 4)

/-- Drops the host packet being pushed (R335, R337, R338). -/
def State.pushDrop (s : State) (q cause : Nat) (rest : Bool) : State :=
  let x := s.queue q
  let n := x.pushDrops + 1
  let s := s.setQueue q { x with open_ := none, discarding := rest, pushWait := [], endWait := none, pushDrops := n }
  let s := s.bump (Reg.HIF_Q_CNT_PUSH_DROP q)
  let s := (s.setFlag (Reg.HIF_Q_STATUS q) 1 true).showOpen q
  s.log 0x0F04 1 (leBytes 1 q ++ leBytes 1 cause ++ leBytes 2 0 ++ leBytes 4 n)

/-- Words of a PUSH write join the open packet, wait for credits, or drop the packet (R335, R337, R338). -/
def State.pushWords (s : State) (q : Nat) (words : List Word) : State :=
  let x := s.queue q
  let old := x.open_.getD []
  let held := (x.pushWait.map (fun w => w.1.length)).foldl (· + ·) old.length
  if s.qDepth q < held + words.length + 1 then s.pushDrop q 3 true
  else if x.pushWait.isEmpty && x.visible.length + old.length + words.length + 1 ≤ s.qDepth q then
    (s.setQueue q { x with open_ := some (old ++ words) }).showOpen q
  else
    (s.setQueue q { x with
      open_ := some old
      pushWait := x.pushWait ++ [(words, s.elapsed + s.field Reg.HIF_QSTALL 15 0 * 1000)] }).showOpen q

/-- PUSH_END closes the open packet, or drops it where WORDS does not match (R335). -/
def State.pushClose (s : State) (q : Nat) (value : Word) : State :=
  let x := s.queue q
  match x.open_ with
  | some w =>
    if w.length = bitsOf value 10 0 && 1 ≤ w.length && w.length ≤ 1024 then
      ((s.setQueue q { x with open_ := none }).qAppend q { kind := bitsOf value 23 16, words := w }).showOpen q
    else s.pushDrop q 2 false
  | none => s.pushDrop q 2 false

/-- PUSH writes held for credits that now fit, oldest first, join the open packet: what it holds then, and those that still wait. -/
def takeWaiting (free : Nat) : List (List Word × Nat) → List Word → List Word × List (List Word × Nat)
  | [], o => (o, [])
  | (w, t) :: r, o => if o.length + w.length + 1 ≤ free then takeWaiting free r (o ++ w) else (o, (w, t) :: r)

/-- Space has freed: PUSH writes that wait for credits go on, and the PUSH_END behind them (R337). -/
def State.pushWake (s : State) (q : Nat) : State :=
  let x := s.queue q
  if x.pushWait.isEmpty then s
  else
    let a := takeWaiting (s.qDepth q - x.visible.length) x.pushWait (x.open_.getD [])
    let s := (s.setQueue q { x with open_ := some a.1, pushWait := a.2, endWait := if a.2.isEmpty then none else x.endWait }).showOpen q
    match a.2, x.endWait with
    | [], some v => s.pushClose q v
    | _, _ => s

/-- Completions that wait for space enter Q1 in order (R337). -/
def State.flushQ1 : Nat → State → State
  | 0, s => s
  | n + 1, s =>
    match s.hif.q1Wait with
    | [] => s
    | w :: r =>
      match s.qOffer 1 0x02 w with
      | some s' => flushQ1 n { s' with hif := { s'.hif with q1Wait := r } }
      | none => s

/-- A host POP takes n words: bad access, data at once, or a stalled read (R336). -/
def State.pop (s0 : State) (q n : Nat) : State :=
  if s0.qConsumer q ≠ 0 || !s0.qEn q then
    ({ s0 with readData := List.replicate n 0xFFFFFFFE#32 }).bump Reg.HIF_CNT_BAD_ACCESS
  else
    let s := s0.qCheck q
    let x := s.queue q
    if x.waits.isEmpty && n ≤ x.visible.length then
      let s := { s with readData := x.visible.take n }
      let s := (s.setQueue q (QueueState.take (s.qDepth q) n x)).qPopped q
      if q = 1 then s.flushQ1 s.hif.q1Wait.length else s
    else
      ({ s with readData := [] }).setQueue q
        { x with waits := x.waits ++ [PopWait.mk n (s.elapsed + s.field Reg.HIF_QSTALL 15 0 * 1000)] }

/-- A stalled host read expires: the words visible, then 0xFFFF_FFFE (R336). -/
def State.popExpire (s0 : State) (q : Nat) : State :=
  match (s0.queue q).waits with
  | w :: r =>
    if w.limit ≤ s0.elapsed then
      let s := s0.qCheck q
      let x := s.queue q
      let got := x.visible.take w.n
      let s := { s with readData := got ++ List.replicate (w.n - got.length) 0xFFFFFFFE#32 }
      let s := s.setQueue q { QueueState.take (s.qDepth q) got.length x with waits := r }
      let s := s.qPopped q
      if q = 1 then s.flushQ1 s.hif.q1Wait.length else s
    else s0
  | [] => s0

/-! ### Handles and the journal -/

/-- A buffer's address is a multiple of 64 and not 0 (Table 14-5). -/
def bufOk (h : CmdHdr) : Bool := h.buf != 0 && h.buf % 64 == 0

/-- A handle of a slot (R345). -/
def handleOf (h : HandleSlot) : Nat := h.idx + h.gen * 2 ^ 16

/-- Takes a handle slot: one never used, or else the one freed longest ago with the next generation (R345). -/
def State.newHandle (s : State) : Nat × State :=
  if s.hif.nextSlot < 1024 then
    (handleOf { idx := s.hif.nextSlot, gen := 1 }, { s with hif := { s.hif with nextSlot := s.hif.nextSlot + 1 } })
  else
    match s.hif.slots with
    | h :: r =>
      (handleOf { h with gen := if h.gen = 0xFFFF then 1 else h.gen + 1 }, { s with hif := { s.hif with slots := r } })
    | [] => (handleOf { idx := 0, gen := 1 }, s)

/-- Frees the slot of a handle at its final completion. -/
def State.freeHandle (s : State) (h : Nat) : State :=
  { s with hif := { s.hif with slots := s.hif.slots ++ [{ idx := h % 2 ^ 16, gen := h / 2 ^ 16 }] } }

/-- Disposition codes of Table 14-8. -/
def Disposition.code : Disposition → Nat
  | .complete => 0
  | .resumable => 1
  | .redo => 2
  | .running => 3
  | .resumed => 4

/-- A journal entry's 64 bytes (Table 14-8); the operation context stays 0. -/
def JournalEntry.bytes (e : JournalEntry) : List Byte :=
  padTo 64 (leBytes 4 e.handle ++ leBytes 4 e.tag.toNat ++ leBytes 2 e.opcode ++ leBytes 1 e.status ++ leBytes 1 e.disp.code
    ++ leBytes 2 e.step ++ leBytes 2 e.total ++ leBytes 8 e.gts ++ leBytes 8 e.units ++ leBytes 1 (bit e.unitItems)
    ++ leBytes 3 0 ++ leBytes 4 e.resumedBy)

/-- A journal entry as T0 carries it. -/
def JournalEntry.toRec (e : JournalEntry) : JournalRec where
  handle := e.handle
  tag := e.tag
  opcode := e.opcode
  status := e.status
  disp := e.disp.code
  step := e.step
  total := e.total
  gts := e.gts
  units := e.units
  items := e.unitItems
  resumedBy := e.resumedBy

/-- A disposition code's meaning (Table 14-8). -/
def Disposition.ofCode : Nat → Disposition
  | 1 => .resumable
  | 2 => .redo
  | 3 => .running
  | 4 => .resumed
  | _ => .complete

/-- The entry that a mirrored record gives, with its place in the order of handles. -/
def entryOfRec (r : JournalRec) (serial : Nat) : JournalEntry where
  handle := r.handle
  tag := r.tag
  opcode := r.opcode
  status := r.status
  disp := Disposition.ofCode r.disp
  step := r.step
  total := r.total
  gts := r.gts
  units := r.units
  unitItems := r.items
  resumedBy := r.resumedBy
  serial := serial

/-- An entry keeps the serial number of its handle; a new handle takes the next. -/
def serialFor (l : List (Nat × JournalEntry)) (h next : Nat) : Nat :=
  match kvGet l (h % 2 ^ 16) with
  | some e => if e.handle = h then e.serial else next
  | none => next

/-- Updates the journal entry of a handle's slot, in the journal region of DRAM too, and on the Fallow partner (R347). -/
def State.putJournal (s : State) (e0 : JournalEntry) : State :=
  let i := e0.handle % 2 ^ 16
  let n := serialFor s.hif.journal e0.handle s.hif.nextSerial
  let e := { e0 with serial := n }
  let s := { s with hif := { s.hif with journal := kvPut s.hif.journal i e, nextSerial := max s.hif.nextSerial (n + 1) } }
  let s := s.writeDram (s.pair Reg.HIF_JRNL_BASE_LO Reg.HIF_JRNL_BASE_HI + 64 * i) e.bytes
  if s.mirrored then s.mirror (.journal e.toRec) else s

/-- The journal entry of a handle that has not been reused (R345). -/
def State.journalOf (s : State) (h : Nat) : Option JournalEntry :=
  match kvGet s.hif.journal (h % 2 ^ 16) with
  | some e => if e.handle = h then some e else none
  | none => none

/-- A completion's payload (Table 14-6). -/
def completionWords (h : Nat) (tag : Word) (op status : Nat) (final progress : Bool) (step total units result : Nat) : List Word :=
  toWords 8 (leBytes 4 h ++ leBytes 4 tag.toNat ++ leBytes 2 op ++ leBytes 1 status
    ++ leBytes 1 (bit final + 2 * bit progress) ++ leBytes 2 step ++ leBytes 2 total ++ leBytes 8 units ++ leBytes 8 result)

/-- Posts a completion on Q1, or lets it wait for space behind earlier ones (R337, R344). -/
def State.post (s : State) (w : List Word) : State :=
  let wait := { s with hif := { s.hif with q1Wait := s.hif.q1Wait ++ [w] } }
  if s.hif.q1Wait.isEmpty then
    match s.qOffer 1 0x02 w with
    | some s' => s'
    | none => wait
  else wait

/-- A command ends with its first completion: short, or refused (R343). -/
def State.completeShort (s0 : State) (h : CmdHdr) (op status result : Nat) : State :=
  let (hd, s) := s0.newHandle
  let s := s.post (completionWords hd h.tag op status true false 0 0 0 result)
  let s := s.putJournal
    { handle := hd, tag := h.tag, opcode := op, status := status, disp := .complete, step := 0, total := 0
      gts := s0.now, units := 0, unitItems := true, resumedBy := 0 }
  s.freeHandle hd

/-- Shows the long operations running (HIF_STATUS). -/
def State.showOps (s : State) : State := s.setField Reg.HIF_STATUS 20 16 s.hif.ops.length

/-- A long command starts: first completion OK, FINAL clear, step 0; a 17th completes at once with NO_RESOURCE (R343). -/
def State.startLong (s0 : State) (h : CmdHdr) (op : Nat) (work : OpWork) (items : Bool) (total : Nat) (sizes : List Nat) : State :=
  if 16 ≤ s0.hif.ops.length then s0.completeShort h op 0x05 0
  else
    let (hd, s) := s0.newHandle
    let s := s.post (completionWords hd h.tag op 0x00 false false 0 total 0 0)
    let s := s.putJournal
      { handle := hd, tag := h.tag, opcode := op, status := 0x02, disp := .running, step := 0, total := total
        gts := s0.now, units := 0, unitItems := items, resumedBy := 0 }
    State.showOps { s with hif := { s.hif with ops := s.hif.ops ++
        [{ handle := hd, tag := h.tag, opcode := op, progress := h.progress, items := items, buf := h.buf, len := h.len
           step := 0, total := total, sizes := sizes, units := 0, result := 0, cancelled := false, work := work }] } }

/-- The handle that the last command received. -/
def State.lastHandle (s : State) : Nat := ((s.hif.ops.getLast?).map (fun o => o.handle)).getD 0

/-- The running long operation of a handle. -/
def State.longOp (s : State) (h : Nat) : Option LongOp := s.hif.ops.find? (fun o => o.handle == h)

/-- Changes a long operation. -/
def State.modOp (s : State) (h : Nat) (f : LongOp → LongOp) : State :=
  { s with hif := { s.hif with ops := s.hif.ops.map (fun o => if o.handle = h then f o else o) } }

/-- A long operation's journal entry with a status and disposition. -/
def LongOp.entry (o : LongOp) (gts status : Nat) (d : Disposition) : JournalEntry :=
  { handle := o.handle, tag := o.tag, opcode := o.opcode, status := status, disp := d, step := o.step, total := o.total
    gts := gts, units := o.units, unitItems := o.items, resumedBy := 0, ctx := some o }

/-- A step of a long operation commits: journal, and a progress completion when asked for and not the last (R343, R347). -/
def State.commitStep (s : State) (h units : Nat) (last : Bool) : State :=
  let s := s.modOp h (fun o => { o with step := o.step + 1, units := o.units + units })
  match s.longOp h with
  | some o =>
    let s := s.putJournal (o.entry s.now 0x02 .running)
    if o.progress && !last then
      s.post (completionWords o.handle o.tag o.opcode 0x00 false true o.step o.total o.units 0)
    else s
  | none => s

/-- A long operation ends with its final completion (R343). -/
def State.finishOp (s : State) (h status result : Nat) : State :=
  match s.longOp h with
  | some o =>
    let s := s.putJournal (o.entry s.now status .complete)
    let s := s.post (completionWords o.handle o.tag o.opcode status true false o.step o.total o.units result)
    let s := { s with hif := { s.hif with ops := s.hif.ops.filter (fun x => x.handle != h) } }
    (s.freeHandle h).showOps
  | none => s

/-- A long operation that a reset or a switch-over ends: no final completion, and a disposition (R348). -/
def State.cutOp (s : State) (o : LongOp) (d : Disposition) : State :=
  let s := s.putJournal (o.entry s.now 0x0C d)
  let s := { s with hif := { s.hif with ops := s.hif.ops.filter (fun x => x.handle != o.handle) } }
  let s := match o.work with
    | .export_ r n _ => { s with cap := { s.cap with recs := kvMod s.cap.recs r (fun (x : RecorderState) =>
        { x with stored := x.stored.map (fun (c : Capture) => if c.num = n then { c with exporting := false } else c) }) } }
    | _ => s
  (s.freeHandle o.handle).showOps

/-- Ends every running operation of a kind with a status. -/
def State.finishWhere (s : State) (p : OpWork → Bool) (status : Nat) : State :=
  (s.hif.ops.filter (fun o => p o.work)).foldl (fun s o => s.finishOp o.handle status 0) s

/-- Some running operation of a kind. -/
def State.opRunning (s : State) (p : OpWork → Bool) : Bool := s.hif.ops.any (fun o => p o.work)

end Sys2Proof.Machine
end

