-- ==== Sys2Proof/Machine/EventLog.lean ====
section
/-!
DEFINITION. The event recorder (12_alarms_and_event_log.md): the log in NOR, its reclaim and rebuild, and reading it (R297 to R303).
-/
namespace Sys2Proof.Machine

/-- The bytes 0 to 59 of a record (Table 00-8). -/
def LogRecord.body (r : LogRecord) : List Byte :=
  leBytes 8 r.ev.gts ++ leBytes 4 r.ev.source.toNat ++ leBytes 2 r.ev.code.toNat
    ++ leBytes 1 (r.ev.sev % 4 + 4 * bit r.ev.synthetic + 8 * bit r.ev.remote) ++ [r.ev.validity]
    ++ leBytes 4 r.optime ++ leBytes 3 r.pwrcyc ++ leBytes 1 0 ++ padTo 32 r.ev.payload ++ leBytes 4 r.seq.toNat

/-- The 64 bytes of a valid record (R17, R20). -/
def LogRecord.bytes (r : LogRecord) : List Byte := r.body ++ leBytes 3 ((crc32c r.body).toNat % 2 ^ 24) ++ [0x5A]

/-! ### The partition (R298 to R300) -/

/-- A sector. -/
def State.sector (s : State) (i : Nat) : LogSector := (kvGet s.evr.sectors i).getD {}

/-- Sets a sector. -/
def State.setSector (s : State) (i : Nat) (x : LogSector) : State :=
  { s with evr := { s.evr with sectors := kvPut s.evr.sectors i x } }

/-- The valid records of a sector. -/
def LogSector.records (x : LogSector) : List LogRecord :=
  x.places.filterMap (fun p => match p with
    | .valid r => some r
    | _ => none)

/-- Every valid record, by sector. -/
def State.logRecords (s : State) : List LogRecord := (s.evr.sectors.map (fun x => x.2.records)).flatten

/-- Age of a sequence number, modulo 2^32: larger is older (R298). -/
def State.age (s : State) (q : Word) : Nat := (s.evr.nextSeq - q).toNat

/-- The oldest of some records. -/
def State.oldest (s : State) (l : List LogRecord) : Option LogRecord :=
  l.foldl (fun (b : Option LogRecord) r => match b with
    | some x => if s.age x.seq < s.age r.seq then some r else some x
    | none => some r) none

/-- Valid records and N3, as the registers keep them. -/
def State.logCount (s : State) : Nat := (s.reg Reg.EVR_COUNT).toNat
/-- N3. -/
def State.sev3Count (s : State) : Nat := (s.reg Reg.EVR_SEV3_COUNT).toNat

/-- The log counts as full for a severity (R299). -/
def State.logFull (s : State) (sev : Nat) : Bool :=
  if sev = 3 then decide (1047552 ≤ s.logCount) else decide (1047552 ≤ s.logCount + (4096 - s.sev3Count))

/-- The sectors that hold nothing. -/
def State.erasedSectors (s : State) : List Nat := (List.range 1024).filter (fun i => (s.sector i).places.isEmpty)

/-- The erased sector that follows the write front. -/
def State.nextErased (s : State) : Option Nat :=
  let e := (s.erasedSectors).filter (fun i => i != s.evr.front)
  match e.find? (fun i => decide (s.evr.front < i)) with
  | some i => some i
  | none => e.head?

/-- The write front has an erased place. -/
def State.frontFree (s : State) : Bool := decide ((s.sector s.evr.front).places.length < 1024)

/-- The write front moves to another erased sector while one stays erased (R299). -/
def State.moveFront (s : State) : State :=
  if s.frontFree || (s.erasedSectors).length < 2 then s
  else match s.nextErased with
    | some i => { s with evr := { s.evr with front := i } }
    | none => s

/-- Shows EVR_SEQ_FIRST and EVR_SEQ_NEXT (R302). -/
def State.showSeqs (s : State) : State :=
  (s.setReg Reg.EVR_SEQ_FIRST (match s.oldest s.logRecords with
    | some r => r.seq
    | none => s.evr.nextSeq)).setReg Reg.EVR_SEQ_NEXT s.evr.nextSeq

/-- Programs byte 63 of a record to 0x00 (R299). -/
def State.clearRecord (s : State) (r : LogRecord) : State :=
  let clear : LogPlace → LogPlace := fun p => if p = .valid r then .cleared else p
  let s := { s with evr := { s.evr with sectors := s.evr.sectors.map (fun (x : Nat × LogSector) => (x.1, { x.2 with places := x.2.places.map clear })) } }
  let s := s.setReg Reg.EVR_COUNT (Word.ofNat (s.logCount - 1))
  if r.ev.sev = 3 then s.setReg Reg.EVR_SEV3_COUNT (Word.ofNat (s.sev3Count - 1)) else s

/-- Places of a sector that hold no valid record. -/
def State.freeable (s : State) (i : Nat) : Nat := (s.sector i).places.length - (s.sector i).records.length

/-- The sector to reclaim: most places without a valid record, then oldest records (R300). -/
def State.reclaimVictim (s : State) : Option Nat :=
  let score := fun (i : Nat) => (s.freeable i, match s.oldest (s.sector i).records with
    | some r => s.age r.seq
    | none => 2 ^ 32)
  ((List.range 1024).filter (fun i => !(s.sector i).places.isEmpty)).foldl (fun (b : Option Nat) i => match b with
    | some j => if (score j).1 < (score i).1 || ((score j).1 == (score i).1 && decide ((score j).2 < (score i).2)) then some i else some j
    | none => some i) none

/-- Reclaims a sector: its valid records move to the write front, and it is erased (R300). -/
def State.reclaim (s : State) : State :=
  match s.reclaimVictim, s.nextErased with
  | some v, some spare =>
    let keep := (s.sector v).records.map LogPlace.valid
    let n := (s.sector v).erases + 1
    let s := s.setSector spare { (s.sector spare) with places := keep }
    let s := s.setSector v { places := [], erases := n }
    let s := { s with evr := { s.evr with front := spare } }
    let s := (s.bump Reg.EVR_GEN).bump Reg.EVR_CNT_RECLAIM
    let s := if s.field Reg.EVR_ERASE_MAX 16 0 < n then s.setReg Reg.EVR_ERASE_MAX (Word.ofNat (n % 2 ^ 17 + v * 2 ^ 22)) else s
    if n = 90001 then s.log 0x0D06 2 (leBytes 2 v ++ leBytes 2 0 ++ leBytes 4 n) else s
  | _, _ => s

/-- The operating time in s (R298). -/
def State.optime (s : State) : Nat := s.evr.optimeBase + (s.elapsed - s.evr.startNs) / 1000000000

/-- Shows the operating time and the power-cycle count. -/
def State.showOptime (s : State) : State :=
  (s.setReg Reg.EVR_OPTIME (Word.ofNat s.optime)).setReg Reg.EVR_PWRCYC (Word.ofNat (s.evr.pwrcyc % 2 ^ 24))

/-- Copies a committed record to the host queue (R303). -/
def State.hostRecord (s : State) (r : LogRecord) : State :=
  if s.flag Reg.EVR_QUEUE 7 then
    match s.qOffer (s.field Reg.EVR_QUEUE 6 0) 0x13 (toWords 16 r.bytes) with
    | some s => s
    | none => s.bump Reg.EVR_CNT_QUEUE_LOST
  else s

/-- Programs a record into the place at the write front. -/
def State.programRecord (s : State) (r : LogRecord) : State :=
  let f := s.evr.front
  let s := s.setSector f { (s.sector f) with places := (s.sector f).places ++ [.valid r] }
  let s := { s with evr := { s.evr with nextSeq := s.evr.nextSeq + 1 } }
  let s := s.setReg Reg.EVR_COUNT (Word.ofNat (s.logCount + 1))
  let s := if r.ev.sev = 3 then s.setReg Reg.EVR_SEV3_COUNT (Word.ofNat (s.sev3Count + 1)) else s
  (s.bump Reg.EVR_CNT_WRITTEN).hostRecord r

/-- Makes an erased place at the write front where it has none (R300). -/
def State.makePlace (s : State) : State :=
  let s := s.moveFront
  if s.frontFree then s else s.reclaim

/-- Commits an event as a numbered record (R298 to R300). -/
def State.commitRecord (s : State) (e : Event) : State :=
  let s := s.showOptime
  let r : LogRecord := { ev := e, optime := s.optime, pwrcyc := s.evr.pwrcyc % 2 ^ 24, seq := s.evr.nextSeq }
  let s :=
    if s.logFull e.sev then
      match s.oldest ((s.logRecords).filter (fun x => decide (x.ev.sev ≤ e.sev))) with
      | some v =>
        let full := decide ((s.logCount) = 1047552)
        let s := if full then (s.clearRecord v).makePlace.programRecord r else (s.makePlace.programRecord r).clearRecord v
        (s.bump Reg.EVR_GEN).bump Reg.EVR_CNT_OVERWRITE
      | none => s.bump (Reg.EVR_CNT_FULL_DROP e.sev)
    else s.makePlace.programRecord r
  s.showSeqs

/-- The LOST record of accumulated losses (R297, Table 12-4). -/
def State.lostRecord (s : State) (l : LostAcc) : Event :=
  { gts := l.first, source := s.sourceOf 0x0D 0, code := 0x0D01
    sev := if l.counts.getD 3 0 ≠ 0 then 3 else if l.counts.getD 2 0 ≠ 0 then 2 else if l.counts.getD 1 0 ≠ 0 then 1 else 0
    synthetic := true, remote := false, validity := l.firstVal
    payload := padTo 32 ((l.counts.map (fun n => leBytes 4 (satNat 32 n))).flatten ++ leBytes 8 l.last) }

/-- `EVENT_COMMIT`: the recorder takes the head of the staging queue; after a loss the place that frees takes a LOST record (R297, R298). -/
def execEventCommit (s : State) : Host.Outcome State Fault Refusal := answer <|
  if !s.flag Reg.EVR_STATUS 16 then s
  else match s.evr.staging with
    | [] => s
    | e :: r =>
      let s := match s.evr.lost with
        | some l => { s with evr := { s.evr with staging := s.lostRecord l :: r, lost := none } }
        | none => { s with evr := { s.evr with staging := r } }
      s.showStaging.commitRecord e

/-- `HEARTBEAT`: event 0x0D05 every 3,600 s (R298). -/
def execHeartbeat (s : State) : Host.Outcome State Fault Refusal := answer <|
  if s.flag Reg.EVR_STATUS 16 && s.evr.lastBeat + 3600000000000 ≤ s.elapsed then
    { s with evr := { s.evr with lastBeat := s.elapsed } }.log 0x0D05 0 []
  else s

/-- `EVR_RD_SEQ`: loads the record of a sequence number, or zeros (R302). -/
def execEvrRdSeq (value : Word) (s : State) : Host.Outcome State Fault Refusal := answer <|
  let s := s.setReg Reg.EVR_RD_SEQ value
  let r := s.logRecords.find? (fun r => r.seq == value)
  let b := match r with
    | some r => r.bytes
    | none => []
  let s := (List.range 16).foldl (fun (s : State) i => s.setReg (Reg.EVR_RD_DATA i) (Word.ofNat (natAt b (4 * i) 4))) s
  s.setField Reg.EVR_RD_STATUS 1 0 (bit r.isSome + 2)

/-! ### The start (R298, R301) -/

/-- The newest valid record. -/
def State.newest (s : State) : Option LogRecord :=
  (s.logRecords).foldl (fun (b : Option LogRecord) r => match b with
    | some x => if (r.seq - x.seq).toNat < 2 ^ 31 then some r else some x
    | none => some r) none

/-- The boot firmware rebuilds the index; events 0x0D03 and 0x0D04 are committed before those that wait (R298, R301). -/
def State.startRecorder (s : State) : State :=
  let torn := (s.evr.sectors.map (fun (x : Nat × LogSector) => (x.2.places.filter (fun p => p == .torn)).length)).foldl (· + ·) 0
  let all := s.logRecords
  let base := match s.newest with
    | some r => r.optime
    | none => 0
  let next : Word := match s.newest with
    | some r => r.seq + 1
    | none => s.evr.nextSeq
  let s := { s with evr := { s.evr with nextSeq := next, optimeBase := base, startNs := s.elapsed, lastBeat := s.elapsed } }
  let s := (s.setReg Reg.EVR_COUNT (Word.ofNat all.length)).setReg Reg.EVR_SEV3_COUNT (Word.ofNat (all.filter (fun r => r.ev.sev == 3)).length)
  let s := s.setReg Reg.EVR_CNT_TORN (Word.ofNat torn)
  let worst := s.evr.sectors.foldl (fun (b : Nat × Nat) (x : Nat × LogSector) => if b.1 < x.2.erases then (x.2.erases, x.1) else b) (0, 0)
  let s := s.setReg Reg.EVR_ERASE_MAX (Word.ofNat (worst.1 % 2 ^ 17 + worst.2 * 2 ^ 22))
  let s := s.setFlag Reg.EVR_STATUS 16 true
  let e1 := s.eventAt s.now 0x0D03 0 0 (leBytes 4 all.length ++ leBytes 4 torn)
  let e2 := s.eventAt s.now 0x0D04 0 0 (leBytes 1 (s.field Reg.BOOT_RESET_CAUSE 3 0) ++ leBytes 3 0 ++ leBytes 4 base)
  ((((s.captureEvent e1).captureEvent e2).commitRecord e1).commitRecord e2).showSeqs

end Sys2Proof.Machine
end

