-- ==== Sys2Proof/Machine/Keys.lean ====
section
/-!
DEFINITION. The Caddy, update messages and derivation (R392 to R406).
-/
namespace Sys2Proof.Machine

/-! ### Keys and their derivation -/

/-- The 16 bytes of the UID, as in SYS_UID_0 to SYS_UID_3. -/
def State.uidBytes (s : State) : List Byte :=
  leBytes 4 (s.reg Reg.SYS_UID_0).toNat ++ leBytes 4 (s.reg Reg.SYS_UID_1).toNat
    ++ leBytes 4 (s.reg Reg.SYS_UID_2).toNat ++ leBytes 4 (s.reg Reg.SYS_UID_3).toNat

/-- Four bytes of a number, most significant first (SP 800-108; log entry 14). -/
def be32 (n : Nat) : List Byte := (leBytes 4 n).reverse

/-- The number that bytes spell, most significant first. -/
def beNat (l : List Byte) : Nat := leNat l.reverse

/-- The KDF in counter mode of R401, for an output of L bits. -/
def kdf (kin label context : List Byte) (bits : Nat) : List Byte :=
  ((List.range ((bits + 383) / 384)).map
    (fun i => Config.hmac384 kin (be32 (i + 1) ++ label ++ [0] ++ context ++ be32 bits))).flatten.take (bits / 8)

/-- "ROOT", "STORE" and "KUPD" as bytes. -/
def lblRoot : List Byte := [0x52, 0x4F, 0x4F, 0x54]
def lblStore : List Byte := [0x53, 0x54, 0x4F, 0x52, 0x45]
def lblKupd : List Byte := [0x4B, 0x55, 0x50, 0x44]

/-- The working root of the current life-cycle state (R394). -/
def State.workingRoot (s : State) : List Byte :=
  Config.hmac384 (Config.rootSecret s.sec.lc) (lblRoot ++ leBytes 1 s.sec.returns)

/-- The state private key (R394). -/
def State.statePriv (s : State) : List Byte := Config.stateKey s.workingRoot

/-- The storage key under a SHARE (R398). -/
def State.storageKey (s : State) (share : List Byte) : List Byte := kdf s.workingRoot lblStore share 256

/-- The group order of P-384 (FIPS 186-5, log entry 14). -/
def orderP384 : Nat :=
  0xFFFFFFFFFFFFFFFFFFFFFFFFFFFFFFFFFFFFFFFFFFFFFFFFC7634D81F4372DDF581A0DB248B0A77AECEC196ACCC52973

/-- Key types by the code of Table 17-3. -/
def KeyType.ofCode : Nat → Option KeyType
  | 0 => some .empty
  | 1 => some .hmac256
  | 2 => some .aes128
  | 3 => some .aes256
  | 4 => some .ecdsaPriv
  | 5 => some .ecdsaPub
  | 6 => some .kdf
  | _ => none

/-- The code of Table 17-3. -/
def KeyType.code : KeyType → Nat
  | .empty => 0
  | .hmac256 => 1
  | .aes128 => 2
  | .aes256 => 3
  | .ecdsaPriv => 4
  | .ecdsaPub => 5
  | .kdf => 6

/-- Bytes of material of a type. -/
def KeyType.bytes : KeyType → Nat
  | .empty => 0
  | .hmac256 => 32
  | .aes128 => 16
  | .aes256 => 32
  | .ecdsaPriv => 48
  | .ecdsaPub => 0
  | .kdf => 48

/-- The USES bits a type permits (Table 17-3). -/
def KeyType.permits : KeyType → BitVec 6
  | .empty => 0
  | .hmac256 => 0b000011
  | .aes128 => 0b100011
  | .aes256 => 0b100011
  | .ecdsaPriv => 0b001100
  | .ecdsaPub => 0b001000
  | .kdf => 0b010000

/-- The USES bit of a use. -/
def useBit : KeyUse → Nat
  | .macVerify => 0
  | .macGenerate => 1
  | .sign => 2
  | .verify => 3
  | .derive => 4
  | .wrap => 5

/-- The MASTERS bit of a master. -/
def masterBit : CaddyMaster → Nat
  | .host => 0
  | .sup => 1
  | .decAuth => 2
  | .pubAuth => 3
  | .capSign => 4

abbrev Slots := List (Nat × KeySlot)

/-- A slot of a set. -/
def slotIn (l : Slots) (n : Nat) : KeySlot := (kvGet l n).getD {}

/-- A slot of the Caddy. -/
def State.slot (s : State) (n : Nat) : KeySlot := slotIn s.sec.slots n

/-- A slot is stale: its parent is EMPTY, has another generation than PGEN, or is stale itself (R402).  Chains have depth at most 4 (R401). -/
def staleIn (l : Slots) : Nat → Nat → Bool
  | 0, _ => false
  | k + 1, n =>
    let x := slotIn l n
    if x.parent = 0xFFFF#16 then false
    else
      let p := slotIn l x.parent.toNat
      p.typ == .empty || x.pgen != p.gen || staleIn l k x.parent.toNat

/-- Derived material of a child type (R401). -/
def deriveMaterial (parent : KeySlot) (lab uid : List Byte) (t : KeyType) : List Byte :=
  let k := kdf parent.material (lab.take 16) (lab.drop 16 ++ uid ++ leBytes 2 parent.gen.toNat) (8 * t.bytes)
  if t = .ecdsaPriv then (leBytes 48 (beNat k % orderP384 + 1)).reverse else k

/-- A slot derived, or re-derived, from a parent: material, PGEN, and its own GEN + 1 (R401 to R403). -/
def deriveFrom (l : Slots) (uid : List Byte) (x : KeySlot) : KeySlot :=
  let p := slotIn l x.parent.toNat
  let m := deriveMaterial p x.label uid x.typ
  { x with
    material := m
    pubKey := if x.typ = .ecdsaPriv then Config.ecdsaPublic m else []
    pgen := p.gen
    gen := x.gen + 1
    depth := p.depth + 1 }

/-! ### Requests (R397) -/

/-- Status codes of Table 00-9 for the refusals of R397. -/
def CaddyResult.status : CaddyResult → Nat
  | .done _ => 0x00
  | .badArg => 0x03
  | .badState => 0x04
  | .authFail => 0x06
  | .keyStale => 0x07
  | .tamper => 0x08

/-- The first check that a request fails, in the order of R397; while TAMPER is set every request fails with it (R404, R419). -/
def State.caddyCheck (s : State) (r : CaddyReq) : Option CaddyResult :=
  let x := s.slot r.slot
  if s.flag Reg.SEC_STATUS 0 then some .tamper
  else if x.typ = .empty then some .badArg
  else if !x.lcMask.getLsbD s.sec.lc then some .badState
  else if !x.masters.getLsbD (masterBit r.master) || (x.secure && (r.master == .host || (r.master == .sup && !r.secure)))
      || !x.uses.getLsbD (useBit r.use) then some .authFail
  else if staleIn s.sec.slots 5 r.slot then some .keyStale
  else none

/-- Counts and logs a refusal: SEC_CNT_DENIED and event 0x1206 at most once a second per slot, or SEC_CNT_STALE (R397). -/
def State.caddyRefuse (s : State) (r : CaddyReq) (c : CaddyResult) : State :=
  match c with
  | .keyStale => s.bump Reg.SEC_CNT_STALE
  | c =>
    let s := s.bump Reg.SEC_CNT_DENIED
    if kvGet s.sec.denied r.slot = some s.second then s
    else
      let s := s.log 0x1206 1 (leBytes 2 r.slot ++ leBytes 1 (masterBit r.master) ++ leBytes 1 c.status)
      { s with sec := { s.sec with denied := kvPut s.sec.denied r.slot s.second } }

/-- The engines a use runs on, and how many operations run there at once (R397). -/
def useRoom : KeyUse → Nat × Nat
  | .macVerify => (0, 64)
  | .macGenerate => (0, 64)
  | .wrap => (0, 64)
  | .derive => (1, 4)
  | .sign => (2, 2)
  | .verify => (2, 2)

/-- Operations running on the engines of a use. -/
def State.caddyLoad (s : State) (u : KeyUse) : Nat := (s.sec.ops.filter (fun o => (useRoom o.req.use).1 == (useRoom u).1)).length

/-- Shows the MAC operations in progress (SEC_STATUS.MAC_BUSY). -/
def State.showMac (s : State) : State := s.setField Reg.SEC_STATUS 15 8 (s.caddyLoad .macVerify)

/-- Records a request's result. -/
def State.caddyAnswer (s : State) (id : Nat) (r : CaddyResult) : State :=
  { s with sec := { s.sec with results := (id, r) :: s.sec.results } }

/-- Starts a request whose engine has room: the checks, then the material latched (R397). -/
def State.caddyStart (s : State) (r : CaddyReq) : State :=
  match s.caddyCheck r with
  | some c => (s.caddyRefuse r c).caddyAnswer r.id c
  | none =>
    ({ s with sec := { s.sec with
        ops := s.sec.ops ++ [CaddyOp.mk r (s.slot r.slot)] } }).showMac

/-- Takes a request: it starts, or waits in order (R397). -/
def State.caddyTake (s : State) (r : CaddyReq) : State :=
  if s.caddyLoad r.use < (useRoom r.use).2 && s.sec.queue.all (fun o => (useRoom o.req.use).1 != (useRoom r.use).1) then s.caddyStart r
  else { s with sec := { s.sec with queue := s.sec.queue ++ [CaddyOp.mk r {}] } }

/-- Starts waiting requests in order while their engines have room. -/
def State.caddyNext : Nat → State → State
  | 0, s => s
  | n + 1, s =>
    match s.sec.queue.find? (fun o => decide (s.caddyLoad o.req.use < (useRoom o.req.use).2)) with
    | some o => caddyNext n ({ s with sec := { s.sec with queue := s.sec.queue.erase o } }.caddyStart o.req)
    | none => s

/-- The MAC algorithm of a key type: HMAC-SHA256 or AES-GMAC (Table 17-3, R80). -/
def KeyType.macAlg : KeyType → Nat
  | .hmac256 => 1
  | _ => 4

/-- What an operation gives (Table 17-3). -/
def State.caddyResult (s : State) (o : CaddyOp) : List Byte :=
  let x := o.key
  match o.req.use with
  | .macVerify => Config.mac x.typ.macAlg x.material o.req.data
  | .macGenerate => Config.mac x.typ.macAlg x.material o.req.data
  | .sign => Config.ecdsaSign x.material o.req.data s.sec.nDraws
  | .verify => [BitVec.ofNat 8 (Sys2Proof.Machine.bit (Config.ecdsaVerify x.pubKey (o.req.data.drop 96) (o.req.data.take 96)))]
  | .derive => []
  | .wrap => Config.wrap x.material o.req.data

/-- A running operation ends with its result; the next in order starts. -/
def State.caddyFinish (s : State) (id : Nat) : State :=
  match s.sec.ops.find? (fun o => o.req.id == id) with
  | some o =>
    let s := s.caddyAnswer id (.done (s.caddyResult o))
    let s := { s with sec := { s.sec with ops := s.sec.ops.erase o, nDraws := s.sec.nDraws + 1 } }
    let s := (s.bump Reg.SEC_CNT_OPS).showMac
    s.caddyNext s.sec.queue.length
  | none => s

/-- A key operation that a hardware master makes within a command: refused, or the key material and the operation counted. -/
def State.caddyUse (s : State) (m : CaddyMaster) (slot : Nat) (u : KeyUse) : State × Except CaddyResult (List Byte) :=
  let r : CaddyReq := { id := 0, master := m, secure := true, slot := slot, use := u, data := [] }
  match s.caddyCheck r with
  | some c => (s.caddyRefuse r c, .error c)
  | none => (s.bump Reg.SEC_CNT_OPS, .ok (s.slot slot).material)

/-- `CADDY_REQUEST`: a master requests a key operation (R397). -/
def execCaddyRequest (r : CaddyReq) (s : State) : Host.Outcome State Fault Refusal := answer (s.caddyTake r)

/-- `CADDY_OP_DONE`: a Caddy operation completes with its result (R397). -/
def execCaddyOpDone (id : Nat) (s : State) : Host.Outcome State Fault Refusal := answer (s.caddyFinish id)

/-- `SEC_REDERIVE`: HOST or SUP re-derives a slot that permits it; a stale parent fails with REDERIVE_ERR (R403). -/
def execSecRederive (writer : CaddyMaster) (value : Word) (s : State) : Host.Outcome State Fault Refusal :=
  let n := bitsOf value 8 0
  let x := s.slot n
  answer <|
    if (writer = .host || writer = .sup) && x.typ != .empty && x.rederive then
      let p := slotIn s.sec.slots x.parent.toNat
      if s.flag Reg.SEC_STATUS 0 || p.typ = .empty || staleIn s.sec.slots 5 x.parent.toNat then s.setFlag Reg.SEC_STATUS 3 true
      else
        let s := { s with sec := { s.sec with slots := kvPut s.sec.slots n (deriveFrom s.sec.slots s.uidBytes x) } }
        s.setFlag Reg.SEC_STATUS 2 true
    else s

/-! ### Fields of an update message (Table 17-5), and its refusal (R400) -/

/-- Operations of a message. -/
def msgOps (m : List Byte) : Nat := natAt m 6 1
/-- TARGET of a message. -/
def msgTarget (m : List Byte) : Nat := natAt m 7 1
/-- Update counter of a message. -/
def msgCounter (m : List Byte) : Nat := natAt m 24 8

/-- KEY_UPDATE is refused at a step: event 0x1203 and SEC_CNT_UPD_FAIL (R400). -/
def State.kuRefuse (s : State) (m : List Byte) (status step : Nat) : State :=
  (s.log 0x1203 2 (leBytes 1 status ++ leBytes 1 step ++ leBytes 2 0 ++ leBytes 4 (msgCounter m))).bump Reg.SEC_CNT_UPD_FAIL

/-! ### Tamper (R404) -/

/-- Refuses the requests that wait: they find TAMPER set (R397, R404). -/
def State.refuseWaiting (s : State) : State :=
  s.sec.queue.foldl (fun s o => match s.caddyCheck o.req with
    | some c => (s.caddyRefuse o.req c).caddyAnswer o.req.id c
    | none => s) { s with sec := { s.sec with queue := [] } }

/-- The Caddy's action at a tamper while the device runs (R404). -/
def State.caddyTamper (s : State) : State :=
  let n := s.sec.ops.length
  let waiting := s.sec.queue
  let s1 := s.sec.ops.foldl (fun s o => s.caddyAnswer o.req.id .tamper) s
  let s1 := s1.bumpBy Reg.SEC_CNT_TAMPER_ABORT n
  let s1 := match s.sec.ops with
    | o :: _ => s1.log 0x1204 3 (leBytes 2 o.req.slot ++ leBytes 1 (masterBit o.req.master) ++ leBytes 1 n)
    | [] => s1
  let s1 := s1.setFlag Reg.SEC_STATUS 0 true
  let s1 := { s1 with sec := { s1.sec with ops := [], queue := waiting, share := none } }
  let s1 := (s1.refuseWaiting).showMac
  let s1 := { s1 with sec := { s1.sec with slots := [] } }
  s1.hif.ops.foldl (fun (s : State) o => match o.work with
    | .keyUpdate m => ((s.kuRefuse m 0x08 (o.step + 1)).setFlag Reg.SEC_STATUS 4 false).finishOp o.handle 0x08 0
    | _ => s) s1

/-! ### Update messages (R399, R400) -/

/-- Operation record i of a message. -/
def msgRec (m : List Byte) (i : Nat) : List Byte := bytesAt m (256 + 128 * i) 128
/-- The operation records of a message. -/
def msgRecs (m : List Byte) : List (List Byte) := (List.range (msgOps m)).map (msgRec m)

/-- An unsigned message that only decommissions a RETURNED device is exempt from the owner's checks (Table 17-7, step 1). -/
def State.exempt (s : State) (m : List Byte) : Bool := s.sec.lc == 3 && msgTarget m == 4 && msgOps m == 0

/-- The bytes of the header that Table 17-5 says are 0: the ephemeral key among them where a transport slot is named. -/
def headZero (m : List Byte) : Bool :=
  (bytesAt m 38 2 ++ bytesAt m 234 22 ++ (if natAt m 36 2 = 0xFFFF then [] else bytesAt m 137 97)).all (fun b => b == 0)

/-- Step 1: header, UID, length, owner key and signature (Table 17-7).  The answer is a status, 0 for success. -/
def State.kuStep1 (s : State) (m : List Byte) : Nat :=
  let len := 256 + 128 * msgOps m + 96
  if natAt m 0 4 ≠ 0x4450554B || natAt m 4 2 ≠ 1 || 32 < msgOps m || bytesAt m 8 16 ≠ s.uidBytes
      || natAt m 32 4 ≠ len || m.length ≠ len || !headZero m then 0x03
  else if s.exempt m then 0x00
  else if s.sec.lc ≠ 0 && Config.sha384 (bytesAt m 40 97) ≠ s.sec.ownerHash then 0x06
  else if Config.ecdsaVerify (bytesAt m 40 97) (m.take (len - 96)) (bytesAt m (len - 96) 96) then 0x00
  else 0x06

/-- TARGET is permitted from the current state (Table 17-2, R393, R395). -/
def State.targetOk (s : State) (m : List Byte) : Bool :=
  let t := msgTarget m
  match s.sec.lc with
  | 0 => t == 1 && msgOps m == 0
  | 1 => t == 0xFF || t == 2 || t == 3 || t == 4
  | 2 => t == 0xFF || (t == 1 && decide (s.sec.returns < 3)) || t == 3 || t == 4
  | 3 => t == 0xFF || (t == 4 && msgOps m == 0)
  | _ => false

/-- Step 2: the counter, then TARGET (Table 17-7). -/
def State.kuStep2 (s : State) (m : List Byte) : Nat :=
  if msgCounter m ≤ s.sec.counter.toNat then 0x0B else if s.targetOk m then 0x00 else 0x04

/-- The transport key: ECDH, or the material of an AES_256 slot with WRAP (R399). -/
def State.transportKey (s : State) (m : List Byte) : Except Nat (List Byte) :=
  let t := natAt m 36 2
  if t = 0xFFFF then .ok (kdf (Config.ecdh s.statePriv (bytesAt m 137 97)) lblKupd (s.uidBytes ++ bytesAt m 24 8) 256)
  else
    let x := s.slot t
    if x.typ = .aes256 && x.uses.getLsbD 5 && x.lcMask.getLsbD s.sec.lc && !staleIn s.sec.slots 5 t then .ok x.material else .error 0x03

/-- The attributes a record gives (Table 17-6). -/
def recSlot (r : List Byte) (t : KeyType) (gen : Half) : KeySlot :=
  let a := natAt r 6 1
  { typ := t, masters := BitVec.ofNat 5 a, secure := a / 64 % 2 == 1, rederive := a / 128 % 2 == 1
    lcMask := BitVec.ofNat 5 (natAt r 7 1), uses := BitVec.ofNat 6 (natAt r 8 1), keyId := Word.ofNat (natAt r 12 4), gen := gen }

/-- One attribute set is no wider than another (R396). -/
def narrower (x y : KeySlot) : Bool :=
  x.masters &&& ~~~y.masters == 0 && x.lcMask &&& ~~~y.lcMask == 0 && x.uses &&& ~~~y.uses == 0
    && (!y.secure || x.secure) && (!x.rederive || y.rederive)

/-- One record against the working copy of the slots (R396, R399 to R402, Table 17-6); the error is a status. -/
def kuRecord (key : Except Nat (List Byte)) (uid : List Byte) (draw : Nat) (l : Slots) (r : List Byte) : Except Nat Slots :=
  let n := natAt r 2 2
  let old := slotIn l n
  match KeyType.ofCode (natAt r 1 1) with
  | none => .error 0x03
  | some t =>
    let x := recSlot r t (old.gen + 1)
    if 512 ≤ n then .error 0x03
    else
      match natAt r 0 1 with
      | 1 =>
        if t = .empty || x.uses &&& ~~~t.permits ≠ 0 then .error 0x03
        else if old.typ ≠ .empty then .error 0x05
        else if t = .ecdsaPub then .ok (kvPut l n { x with pubKey := Config.decompress (bytesAt r 32 49) })
        else
          match key with
          | .error e => .error e
          | .ok k =>
            match Config.gcmOpen k (bytesAt r 16 12) (uid ++ bytesAt r 0 16) (bytesAt r 32 t.bytes) (bytesAt r 80 16) with
            | none => .error 0x06
            | some m =>
              .ok (kvPut l n { x with material := m, pubKey := if t = .ecdsaPriv then Config.ecdsaPublic m else [] })
      | 2 =>
        let pn := natAt r 4 2
        let p := slotIn l pn
        if t = .empty || t = .ecdsaPub || x.uses &&& ~~~t.permits ≠ 0 || p.typ ≠ .kdf || !p.uses.getLsbD 4 || pn = n
            || 4 < p.depth + 1 then .error 0x03
        else if old.typ ≠ .empty && (old.parent.toNat ≠ pn || old.typ ≠ t) then .error 0x05
        else if old.typ ≠ .empty && !narrower x old then .error 0x03
        else if staleIn l 5 pn then .error 0x07
        else .ok (kvPut l n (deriveFrom l uid { x with gen := old.gen, parent := BitVec.ofNat 16 pn, label := bytesAt r 32 48 }))
      | 3 => if old.typ = .empty then .error 0x03 else .ok (kvPut l n { old with gen := old.gen + 1 })
      | 4 => if old.typ = .empty then .error 0x03 else .ok (kvPut l n { gen := old.gen })
      | 5 =>
        if old.typ = .empty || !narrower x old then .error 0x03
        else .ok (kvPut l n { old with masters := x.masters, secure := x.secure, rederive := x.rederive, lcMask := x.lcMask, uses := x.uses })
      | 6 =>
        if t ≠ .ecdsaPriv || x.uses &&& ~~~t.permits ≠ 0 then .error 0x03
        else if old.typ ≠ .empty then .error 0x05
        else
          let m := Config.random draw
          .ok (kvPut l n { x with material := m, pubKey := Config.ecdsaPublic m })
      | _ => .error 0x03

/-- Every record in order; a later one sees the effect of an earlier one (R400). -/
def kuRecords (key : Except Nat (List Byte)) (uid : List Byte) : Nat → Slots → List (List Byte) → Except Nat Slots
  | _, l, [] => .ok l
  | d, l, r :: rest =>
    match kuRecord key uid d l r with
    | .ok l' => kuRecords key uid (d + 1) l' rest
    | .error e => .error e

/-- Step 3: the working copy after every record; with a TARGET it begins empty, as the transition erases the slots (R393, R400). -/
def State.kuStep3 (s : State) (m : List Byte) : Except Nat Slots :=
  let base : Slots := if msgTarget m = 0xFF then s.sec.slots else []
  kuRecords (s.transportKey m) s.uidBytes (s.sec.nDraws + 1) base (msgRecs m)

/-- Step 4: the working copy and the counter are committed to the alternate NOR copy and the backup domain, with a new SHARE where it was lost (R398, R400). -/
def State.kuStep4 (s : State) (m : List Byte) (l : Slots) : State :=
  let share := s.sec.share.getD (Config.random s.sec.nDraws)
  let c : BitVec 64 := BitVec.ofNat 64 (msgCounter m)
  { s with sec := { s.sec with
      counter := c, bkCounter := c, share := some share, nDraws := s.sec.nDraws + 1 + msgOps m
      store := (c, l, share) :: s.sec.store.take 1, pendRecs := some m } }

/-- Step 5 without a TARGET: every slot change takes effect at once; a WRITE or GENERATE clears TAMPER (R400, R404). -/
def State.kuActivate (s : State) (m : List Byte) (l : Slots) : State :=
  let clears := (msgRecs m).any (fun r => natAt r 0 1 == 1 || natAt r 0 1 == 6)
  let s := { s with sec := { s.sec with slots := l, pendRecs := none } }
  let s := if clears then s.setFlag Reg.SEC_STATUS 0 false else s
  let s := s.log 0x1202 1 (leBytes 8 (msgCounter m))
  s.bump Reg.SEC_CNT_UPD_OK

/-- The slots of the newest copy in NOR. -/
def State.storedSlots (s : State) : Slots :=
  match s.sec.store with
  | (_, l, _) :: _ => l
  | [] => s.sec.slots

/-- The fuses of a life-cycle transition: state, return fuse, and OWNER_HASH from BLANK, with events 0x1202 and 0x1201 (R393, R395). -/
def State.fuse (s : State) (m : List Byte) : State :=
  let t := msgTarget m
  let old := s.sec.lc
  let s := { s with sec := { s.sec with
      lc := t
      returns := if old = 2 && t = 1 then s.sec.returns + 1 else s.sec.returns
      ownerHash := if old = 0 then Config.sha384 (bytesAt m 40 97) else s.sec.ownerHash
      pendRecs := none } }
  let s := (s.log 0x1202 1 (leBytes 8 (msgCounter m))).bump Reg.SEC_CNT_UPD_OK
  s.log 0x1201 3 (leBytes 1 old ++ leBytes 1 t ++ leBytes 1 s.sec.returns)

/-- After the restart of a transition the operations of its message apply in the new state, under a new SHARE (R393, R398, R405). -/
def State.adopt (s : State) (m : List Byte) (l : Slots) : State :=
  let l := if msgTarget m = 4 then [] else l
  let share := Config.random s.sec.nDraws
  { s with sec := { s.sec with
      slots := l, share := some share, nDraws := s.sec.nDraws + 1, store := [(s.sec.counter, l, share)] } }

/-- A message committed by step 4 whose activation has not run, with a TARGET: the transition is made at the next start (R400). -/
def State.pendTarget (s : State) : Option (List Byte) := s.sec.pendRecs.filter (fun m => msgTarget m != 0xFF)

/-- At start the Caddy opens the newer copy that verifies, or starts empty with event 0x1205 (R398). -/
def State.openCaddy (s : State) : State :=
  let lost (s : State) (cause : Nat) : State :=
    let s := { s with sec := { s.sec with slots := [] } }
    (s.setFlag Reg.SEC_STATUS 1 true).log 0x1205 3 (leBytes 1 cause)
  if s.sec.lc = 0 || s.sec.lc = 4 then { s with sec := { s.sec with slots := [] } }
  else
    match s.sec.share with
    | none => lost s 1
    | some sh =>
      if s.sec.counter < s.sec.bkCounter then lost s 2
      else
        match s.sec.store.find? (fun c => c.2.2 == sh) with
        | some (_, l, _) => ({ s with sec := { s.sec with slots := l } }).setFlag Reg.SEC_STATUS 1 false
        | none => lost s 3

/-- The Caddy at a start: a committed message whose activation has not run is applied, and else the Caddy opens, unless TAMPER stands (R398, R400, R404). -/
def State.startCaddy (s : State) : State :=
  match s.sec.pendRecs with
  | some m => if s.sec.share.isSome then s.kuActivate m s.storedSlots
      else { s with sec := { s.sec with pendRecs := none } }.openCaddy
  | none => if s.flag Reg.SEC_STATUS 0 then s else s.openCaddy

end Sys2Proof.Machine
end

