-- ==== Sys2Proof/Machine/Backup.lean ====
section
/-!
DEFINITION. The backup domain and real-time clock (R407 to R421).
-/
namespace Sys2Proof.Machine

/-- Changes the backup domain. -/
def State.modBkd (s : State) (f : BkdState → BkdState) : State := { s with bkd := f s.bkd }

/-- A wake source sets the PWR_EN latch when it is enabled (R417). -/
def wake (en : Bool) (b : BkdState) : BkdState := { b with latch := b.latch || en }

/-- Payload of a count: bits [47:32], then [31:0] (Table 18-6). -/
def countBytes (c : BitVec 48) : List Byte := leBytes 2 (c.toNat / 2 ^ 32) ++ leBytes 4 (c.toNat % 2 ^ 32)

/-- The alarm fires (R415): ARM clears, FIRED sets, the count is latched, PWR_EN may be asserted, and event 0x1301 is logged now or, with the main supply off, at the next start. -/
def State.fireAlarm (s : State) (skipped : Bool) : State :=
  let c := s.bkd.count
  let s := s.modBkd (fun b => wake b.wakeAlarm { b with armed := false, fired := true, skipped := skipped, alarmAt := c })
  if s.bkd.mainOn then s.log 0x1301 1 (leBytes 1 (bit skipped) ++ leBytes 1 0 ++ countBytes c)
  else s.modBkd (fun b => { b with offAlarm := some (c, skipped) })

/-- A load of the count replaces the tick of its edge, sets RTC_VALID and is evaluated as a load (R407, R409, Table 18-1). -/
def State.loadCount (s : State) (c : BitVec 48) : State :=
  let old := s.bkd.count
  let s := s.modBkd (fun b => { b with count := c, rtcValid := true, loaded := true })
  if s.bkd.armed && decide (old.toNat < s.bkd.alarm.toNat) && decide (s.bkd.alarm.toNat ≤ c.toNat) then s.fireAlarm true else s

/-- A write of ARM arms the alarm, or sets ALARM_PAST when the compare value is at most the count (R415). -/
def State.armAlarm (s : State) : State :=
  s.modBkd (fun b =>
    if b.count.toNat < b.alarm.toNat then { b with armed := true, fired := false, skipped := false } else { b with alarmPast := true })

/-- One write takes effect in the domain (R408, Table 18-4). -/
def State.applyBkd (s : State) (off : Nat) (v : Word) : State :=
  match off with
  | 0x00 => s.setReg Reg.BKD_CTRL (v &&& 3)
  | 0x04 => s.modBkd (fun b => { b with alarmPast := b.alarmPast && !v.getLsbD 3, freezeTo := b.freezeTo && !v.getLsbD 4 })
  | 0x08 => s.modBkd (fun b => { b with tickLoHeld := some v })
  | 0x0C =>
    let lo := (s.bkd.tickLoHeld).getD (s.bkd.count.setWidth 32)
    let c : BitVec 48 := BitVec.ofNat 48 (lo.toNat + v.toNat % 2 ^ 16 * 2 ^ 32)
    (s.modBkd (fun b => { b with tickLoHeld := none })).loadCount c
  | 0x14 => if v.toNat % 8 = 7 then s else s.modBkd (fun b => { b with weekday := BitVec.ofNat 3 v.toNat, prescale := 0 })
  | 0x18 => if s.bkd.armed then s else s.modBkd (fun b => { b with alarmLoHeld := some v })
  | 0x1C =>
    if s.bkd.armed then s
    else
      let lo := (s.bkd.alarmLoHeld).getD (s.bkd.alarm.setWidth 32)
      s.modBkd (fun b => { b with alarmLoHeld := none, alarm := BitVec.ofNat 48 (lo.toNat + v.toNat % 2 ^ 16 * 2 ^ 32) })
  | 0x20 =>
    let s := s.modBkd (fun b => { b with fired := b.fired && !v.getLsbD 1, skipped := b.skipped && !v.getLsbD 2 })
    if v.getLsbD 0 then s.armAlarm else s.modBkd (fun b => { b with armed := false })
  | 0x2C => s.modBkd (fun b => { b with sqwEn := v.getLsbD 0, sqwDiv := BitVec.ofNat 4 (bitsOf v 7 4) })
  | 0x30 =>
    s.modBkd (fun b => { b with
      wakeAlarm := v.getLsbD 0, wakeIn := v.getLsbD 1, wakeTamper := v.getLsbD 2, wakePol := v.getLsbD 3
      latch := b.latch && !v.getLsbD 8 })
  | 0x34 => s.modBkd (fun b => { b with tampCtrl := v &&& 0x77777 })
  | 0x3C => s.modBkd (fun b => { b with tampCause := b.tampCause &&& ~~~(v.setWidth 8) })
  | _ => s

/-- The waiting writes take effect in the order in which they were written (R408). -/
def State.applyWrites (s : State) : State :=
  s.bkd.writes.foldl (fun s w => s.applyBkd w.1 w.2) (s.modBkd (fun b => { b with writes := [] }))

/-- Ticks of a day, at which the prescaler returns to 0 (R414). -/
def ticksPerDay : Nat := 2831155200

/-- The prescaler's tick: at a day's ticks it returns to 0 and the weekday advances, wrapping from 6 to 0 (R414). -/
def tickWeekday (b : BkdState) : BkdState :=
  if ticksPerDay ≤ b.prescale.toNat + 1 then { b with prescale := 0, weekday := if b.weekday = 6 then 0 else b.weekday + 1 }
  else { b with prescale := b.prescale + 1 }

/-- An edge of the 32.768 kHz clock: writes, then the tick, which a load or a weekday write replaces (R408, R409, R414, R415). -/
def State.bkdEdge (s : State) : State :=
  let wday := s.bkd.writes.any (fun w => w.1 == 0x14 && w.2.toNat % 8 != 7)
  let s := s.applyWrites
  let s := if wday then s else s.modBkd tickWeekday
  if s.bkd.loaded then s.modBkd (fun b => { b with loaded := false })
  else
    let s := s.modBkd (fun b => { b with count := b.count + 1 })
    if s.bkd.armed && s.bkd.count = s.bkd.alarm then s.fireAlarm false else s

/-- The level of SQW_OUT for n ≥ 1: high while bit n − 1 of the count is 0; for n = 0 it follows the crystal, high after an edge (R416). -/
def BkdState.sqwOut (b : BkdState) : Bool := b.sqwEn && (b.sqwDiv == 0 || !b.count.getLsbD (b.sqwDiv.toNat - 1))

/-- `BKD_WRITE_APPLY`: the waiting writes take effect at the edge (R408). -/
def execBkdWriteApply (s : State) : Host.Outcome State Fault Refusal := answer s.applyWrites

/-- The freeze of one reader (R410). -/
def BkdState.freezeOf (b : BkdState) (sup : Bool) : Option Freeze := if sup then b.supFreeze else b.hostFreeze

/-- Sets the freeze of one reader (R410). -/
def BkdState.setFreeze (b : BkdState) (sup : Bool) (f : Option Freeze) : BkdState :=
  if sup then { b with supFreeze := f } else { b with hostFreeze := f }

/-- `BKD_TICK_READ`: the live count's low word, and all four registers into the reader's shadows (R410). -/
def execBkdTickRead (sup : Bool) (s : State) : Host.Outcome State Fault Refusal :=
  let b := s.bkd
  let since := ((b.freezeOf sup).map (fun f => f.since)).getD s.elapsed
  let f : Freeze := { count := b.count, prescale := b.prescale, weekday := b.weekday, since := since }
  answer { s with bkd := b.setFreeze sup (some f), readData := [b.count.setWidth 32] }

/-- `BKD_WEEKDAY_READ`: the shadow, which ends the freeze; outside a freeze the live weekday (R410). -/
def execBkdWeekdayRead (sup : Bool) (s : State) : Host.Outcome State Fault Refusal :=
  let b := s.bkd
  let w := ((b.freezeOf sup).map (fun f => f.weekday)).getD b.weekday
  answer { s with bkd := b.setFreeze sup none, readData := [w.setWidth 32] }

/-- `FREEZE_TIMEOUT`: a freeze that has lasted 1 s ends by itself and sets FREEZE_TIMEOUT (R410). -/
def execFreezeTimeout (sup : Bool) (s : State) : Host.Outcome State Fault Refusal :=
  match s.bkd.freezeOf sup with
  | some f =>
    answer (if f.since + 1000000000 ≤ s.elapsed then s.modBkd (fun b => { b.setFreeze sup none with freezeTo := true }) else s)
  | none => answer s

/-- `WEEKDAY_ADVANCE`: the tick at which the prescaler reaches a day's ticks; before it nothing happens (R414). -/
def execWeekdayAdvance (s : State) : Host.Outcome State Fault Refusal :=
  answer (if ticksPerDay ≤ s.bkd.prescale.toNat + 1 then s.modBkd tickWeekday else s)

/-- `ALARM_ARM`: a write of BKD_ALARM_CTRL.ARM (R415). -/
def execAlarmArm (s : State) : Host.Outcome State Fault Refusal := answer s.armAlarm

/-- `RTC_ALARM`: an armed alarm whose compare value the count has reached, or passed at a load, fires (R415). -/
def execRtcAlarm (s : State) : Host.Outcome State Fault Refusal :=
  answer (if s.bkd.armed && decide (s.bkd.alarm.toNat ≤ s.bkd.count.toNat) then s.fireAlarm (s.bkd.alarm != s.bkd.count) else s)

/-- `PWR_OFF`: a write of OFF clears the latch (R417). -/
def execPwrOff (s : State) : Host.Outcome State Fault Refusal := answer (s.modBkd (fun b => { b with latch := false }))

/-- `WAKE_IN_EDGE`: an active edge on WAKE_IN sets the latch when WAKE_IN is enabled (R417). -/
def execWakeInEdge (s : State) : Host.Outcome State Fault Refusal := answer (s.modBkd (fun b => wake b.wakeIn b))

/-- The cause bit of a tamper source (Table 18-4, BKD_TAMP_CAUSE). -/
def tamperBit : TamperSource → Nat
  | .input n => n % 4
  | .vbat => 4
  | .temp => 5
  | .xtal => 6

/-- The bit of BKD_TAMP_CTRL that enables a source (Table 18-5). -/
def tamperEnable : TamperSource → Nat
  | .input n => 4 * (n % 4)
  | .vbat => 16
  | .temp => 17
  | .xtal => 18

/-- What the domain does at each tamper (R419): key RAM erased, cause and count latched, PWR_EN, counter. -/
def State.domainTamper (s : State) (c : Nat) : State :=
  let s := { s with sec := { s.sec with share := none, bkCounter := 0 } }
  s.modBkd (fun b => wake b.wakeTamper { b with
    tampState := b.tampState ||| BitVec.ofNat 7 (2 ^ c)
    tampTick := if b.tampCause = 0 then b.count else b.tampTick
    tampCause := b.tampCause ||| BitVec.ofNat 8 (2 ^ c)
    tampers := if b.tampers = 0xFFFF#16 then b.tampers else b.tampers + 1 })

/-- The device runs: supervisor firmware has come through its start (BOOT_STATUS.PHASE COMMITTED or UNCONFIGURED). -/
def State.running (s : State) : Bool := s.bkd.mainOn && (s.field Reg.BOOT_STATUS 2 0 == 3 || s.field Reg.BOOT_STATUS 2 0 == 4)

/-- `TAMPER_INPUT`: an enabled input or monitor becomes active (R418, R419); a running device acts under R404 and logs event 0x1302 (Table 18-2). -/
def execTamperInput (src : TamperSource) (s : State) : Host.Outcome State Fault Refusal :=
  answer <|
    if s.bkd.tampCtrl.getLsbD (tamperEnable src) then
      let s := s.domainTamper (tamperBit src)
      if s.running then
        let s := s.caddyTamper.modBkd (fun b => { b with tampCause := b.tampCause ||| 0x80 })
        s.log 0x1302 3 (leBytes 1 s.bkd.tampCause.toNat ++ leBytes 1 0 ++ countBytes s.bkd.count)
      else s
    else s

/-- `DOMAIN_POWER_ON`: the domain powers on after losing its contents: count, alarm, weekday and key RAM start at 0, RTC_VALID is clear, PWR_EN is asserted, and event 0x1305 is due at the first start (R407). -/
def execDomainPowerOn (s : State) : Host.Outcome State Fault Refusal :=
  answer { s with
    bkd := { mainOn := s.bkd.mainOn, onVbat := s.bkd.onVbat, vbatLow := s.bkd.vbatLow, lost := true }
    sec := { s.sec with share := none, bkCounter := 0 } }

/-- `DOMAIN_SUPPLY_CHANGE`: the domain draws from VDDIO_33 within its range and from VBAT otherwise (R407). -/
def execDomainSupplyChange (inRange : Bool) (s : State) : Host.Outcome State Fault Refusal :=
  answer (s.modBkd (fun b => { b with onVbat := !inRange, mainOn := inRange }))

/-- `VBAT_LOW`: VBAT crosses 2.0 V (R407). -/
def execVbatLow (low : Bool) (s : State) : Host.Outcome State Fault Refusal := answer (s.modBkd (fun b => { b with vbatLow := low }))

/-! ### Calendar (R411, R412) -/

/-- A leap year under the Gregorian rule (R411). -/
def isLeap (y : Nat) : Bool := y % 4 == 0 && (y % 100 != 0 || y % 400 == 0)

/-- Days of a month; 0 for a month that does not exist. -/
def monthLen (y m : Nat) : Nat :=
  match m with
  | 1 | 3 | 5 | 7 | 8 | 10 | 12 => 31
  | 4 | 6 | 9 | 11 => 30
  | 2 => if isLeap y then 29 else 28
  | _ => 0

/-- A date that DATE_SET accepts (R412). -/
def dateOk (y mo d h mi sec : Nat) : Bool :=
  2000 ≤ y && y ≤ 2199 && 1 ≤ mo && mo ≤ 12 && 1 ≤ d && d ≤ monthLen y mo && h ≤ 23 && mi ≤ 59 && sec ≤ 59

/-- Days from 2000-01-01 to the first day of a year. -/
def daysToYear (y : Nat) : Nat := ((List.range (y - 2000)).map (fun i => if isLeap (2000 + i) then 366 else 365)).sum

/-- Days from the first day of a year to the first day of a month. -/
def daysToMonth (y m : Nat) : Nat := ((List.range (m - 1)).map (fun i => monthLen y (i + 1))).sum

/-- The tick count of a calendar date, sub-second bits 0 (R411, R412). -/
def dateTicks (y mo d h mi sec : Nat) : Nat :=
  ((daysToYear y + daysToMonth y mo + (d - 1)) * 86400 + h * 3600 + mi * 60 + sec) * 32768

/-- The year of a day counted from the first of `y`, and the day in it; none from 2200 on (R411). -/
def yearOfDay : Nat → Nat → Nat → Option (Nat × Nat)
  | 0, _, _ => none
  | n + 1, y, d =>
    let len := if isLeap y then 366 else 365
    if d < len then some (y, d) else yearOfDay n (y + 1) (d - len)

/-- The month of a day of a year counted from the first of month `m`, and the day of that month. -/
def monthOfDay (y : Nat) : Nat → Nat → Nat → Nat × Nat
  | 0, m, d => (m, d + 1)
  | n + 1, m, d => if monthLen y m ≤ d then monthOfDay y n (m + 1) (d - monthLen y m) else (m, d + 1)

/-- The calendar date of a tick count: year, month, day, hour, minute, second; none, which is BAD_DATE, beyond 2199 (R411). -/
def tickToDate (t : Nat) : Option (Nat × Nat × Nat × Nat × Nat × Nat) :=
  let sec := t / 32768
  let rem := sec % 86400
  (yearOfDay 200 2000 (sec / 86400)).map (fun (y, d) =>
    let (m, day) := monthOfDay y 12 1 d
    (y, m, day, rem / 3600, rem % 3600 / 60, rem % 60))

/-- `DATE_SET`: loads the count from a valid date with event 0x1304, or completes with BAD_DATE and touches nothing (R412). -/
def execDateSet (h : CmdHdr) (year month day hour minute second : Nat) (s : State) : Host.Outcome State Fault Refusal :=
  answer <|
    if dateOk year month day hour minute second then
      let c := dateTicks year month day hour minute second
      let old := s.bkd.count
      let s := s.loadCount (BitVec.ofNat 48 c)
      let s := s.log 0x1304 1 (leBytes 8 old.toNat ++ leBytes 8 c)
      s.completeShort h 0x0080 0x00 0
    else s.completeShort h 0x0080 0x0A 0

/-- TAI minus UTC in s, as TIM_TAI_UTC holds it. -/
def State.taiUtc (s : State) : Int := ((s.reg Reg.TIM_TAI_UTC).setWidth 16).toInt

/-- The tick count of the present UTC: seconds of UTC since 2000-01-01, times 32,768 (R108, R411). -/
def State.utcTicks (s : State) : Int := ((s.now : Int) - s.taiUtc * 1000000000 - 946684800 * 1000000000) * 32768 / 1000000000

/-- `RTC_SYNC_CHECK`: with SYNC_EN and Device Time LOCKED, and an hour after the last comparison, the RTC is compared with UTC and loaded when they differ by over 1 ms, with event 0x1306 (R413). -/
def execRtcSyncCheck (s : State) : Host.Outcome State Fault Refusal :=
  let due := match s.bkd.lastSync with
    | some t => decide (t + 3600000000000 ≤ s.elapsed)
    | none => true
  answer <|
    if s.flag Reg.BKD_CTRL 0 && s.syncState == 2 && due then
      let d := s.utcTicks - (s.bkd.count.toNat : Int)
      let s' := s.modBkd (fun b => { b with lastSync := some s.elapsed })
      if 1000000 * 32768 < d.natAbs * 1000000000 then
        (s'.loadCount (BitVec.ofInt 48 s.utcTicks)).log 0x1306 0 (leBytes 8 (BitVec.ofInt 64 d).toNat)
      else s'
    else s

end Sys2Proof.Machine
end

