-- ==== Sys2Proof/Machine/Ports.lean ====
section
/-!
DEFINITION. Station and management ports (02_station_ports.md): receiving, PRP, host rings, transmitting and time stamps.
-/
namespace Sys2Proof.Machine

/-! ### Ports and pairs -/

/-- SPT_PORT_CTRL.MODE. -/
def State.portMode (s : State) (p : Nat) : Nat := s.field (Reg.SPT_PORT_CTRL p) 2 0

/-- The port is on and its link is up (R64, R481). -/
def State.linkIsUp (s : State) (p : Nat) : Bool := s.portMode p != 0 && s.flag (Reg.SPT_PORT_STATUS p) 0

/-- The port belongs to an enabled PRP pair. -/
def State.paired (s : State) (p : Nat) : Bool := p < 4 && s.flag (Reg.SPT_PRP_CTRL (p / 2)) 0

/-- The pair of a frame's port has received a frame on one LAN: the time of it, and event 0x0204 where that LAN was silent (R50). -/
def State.lanHeard (s : State) (pair : Nat) (lanB : Bool) : State :=
  let t := s.elapsed
  let s := s.modPair pair (fun x => if lanB then { x with lastRxB := t } else { x with lastRxA := t })
  if s.flag (Reg.SPT_PRP_STAT pair) (bit lanB) then
    (s.setFlag (Reg.SPT_PRP_STAT pair) (bit lanB) false).log 0x0204 0 (leBytes 1 pair ++ leBytes 1 (0xA + bit lanB))
  else s

/-! ### PRP duplicate discard (R48, R49) -/

/-- The last six bytes are a redundancy control trailer: the suffix and the size match (R48). -/
def hasTrailer (f : RxFrame) : Bool := f.tail.suffix == 0x88FB#16 && f.tail.size == f.lsduLength

/-- A frame as it is delivered: without its trailer where that is good (R48). -/
def stripTrailer (stripped : Bool) (f : RxFrame) : RxFrame :=
  if stripped then { f with data := f.data.take (f.data.length - 6) } else f

/-- The trailer's LAN identifier is that of the port. -/
def goodTrailer (p : Nat) (f : RxFrame) : Bool := f.tail.lan.toNat == 0xA + p % 2

/-- The entry least recently used. -/
def oldestEntry : List PrpEntry → Option PrpEntry
  | [] => none
  | e :: r => match oldestEntry r with
    | some o => if o.lastUse < e.lastUse then some o else some e
    | none => some e

/-- Entries used less than 400 ms ago. -/
def liveEntries (t : Nat) (l : List PrpEntry) : List PrpEntry := l.filter (fun e => t < e.lastUse + 400000000)

/-- Looks a sequence number up in the pair's table and records it; answers whether it is a second copy (R49).  DESIGN CHOICE (log entry 20): "recently seen" is the last 32,768 numbers, and a number is forgotten with its second copy, so that a third is delivered. -/
def State.prpSeen (s : State) (pair : Nat) (mac : BitVec 48) (seq : Half) : Bool × State :=
  let t := s.elapsed
  let tab := liveEntries t (s.prp pair).table
  match tab.find? (fun e => e.mac == mac) with
  | some e =>
    let rest := tab.filter (fun x => x.mac != mac)
    if e.seqs.contains seq then
      (true, s.modPair pair (fun x => { x with table := PrpEntry.mk mac (e.seqs.filter (fun q => q != seq)) t :: rest }))
    else
      (false, s.modPair pair (fun x => { x with table := PrpEntry.mk mac ((seq :: e.seqs).take 32768) t :: rest }))
  | none =>
    let new := PrpEntry.mk mac [seq] t
    if tab.length < 8192 then (false, s.modPair pair (fun x => { x with table := new :: tab }))
    else
      let old := (oldestEntry tab).map (fun e => e.mac)
      (false, (s.modPair pair (fun x => { x with table := new :: tab.filter (fun e => some e.mac != old) })).bump (Reg.SPT_PRP_EVICT pair))

/-! ### The rule table (R52) -/

/-- EtherType as the rules see it. -/
def ruleEtype (f : RxFrame) : Nat := if f.secondTag then 0x8100 else f.etherType.toNat

/-- The UDP destination port as the rules see it. -/
def ruleUdp (f : RxFrame) : Option Nat :=
  if f.secondTag then none
  else match f.udp with
    | some u => if (u.ipv6 && u.extHeaders) || u.nonFirstFragment then none else some u.dport.toNat
    | none => none

/-- The VLAN match of a rule word: 0xFFF matches untagged frames only. -/
def vidMatches (vid : Nat) (f : RxFrame) : Bool :=
  match f.vlan with
  | none => vid == 0xFFF
  | some v => vid != 0xFFF && v.vid.toNat == vid

/-- Every enabled match of rule k holds. -/
def State.ruleMatches (s : State) (p k : Nat) (f : RxFrame) : Bool :=
  let c := s.reg (Reg.SPT_RULE_CTRL p k)
  let v := s.reg (Reg.SPT_RULE_VID p k)
  let e := s.reg (Reg.SPT_RULE_ETYPE p k)
  let pcp := (f.vlan.map (fun v => v.pcp.toNat)).getD 0
  let addr := (s.reg (Reg.SPT_RULE_DMAC0 p k)).toNat + (s.reg (Reg.SPT_RULE_DMAC1 p k)).toNat * 2 ^ 32
  let mask := (s.reg (Reg.SPT_RULE_MASK0 p k)).toNat + (s.reg (Reg.SPT_RULE_MASK1 p k)).toNat * 2 ^ 32
  c.getLsbD 0
    && (!c.getLsbD 1 || vidMatches (bitsOf v 11 0) f)
    && (!c.getLsbD 2 || v.getLsbD (16 + pcp))
    && (!c.getLsbD 3 || ruleEtype f == bitsOf e 15 0)
    && (!c.getLsbD 4 || Nat.land f.dmac.toNat mask == Nat.land addr mask)
    && (!c.getLsbD 5 || ruleUdp f == some (bitsOf e 31 16))

/-- Where a frame goes. -/
inductive Steer where
  | dec (lc : Nat) | sup | host (ring : Nat) | ruleDiscard | unknown
  deriving DecidableEq, Repr

/-- The decoder class that PCP gives (R53). -/
def pcpClass (f : RxFrame) : Nat := 3 - ((f.vlan.map (fun v => v.pcp.toNat)).getD 0) / 2

/-- Number of rules of a port. -/
def ruleCount (p : Nat) : Nat := if p < 4 then 256 else 64

/-- The lowest-numbered enabled rule that matches. -/
def State.ruleOf (s : State) (p : Nat) (f : RxFrame) : Option Nat :=
  (List.range (ruleCount p)).find? (fun k => s.ruleMatches p k f)

/-- The target of a rule, or of the default action. -/
def State.steer (s : State) (p : Nat) (f : RxFrame) : Option Nat → Steer
  | some k =>
    let c := s.reg (Reg.SPT_RULE_CTRL p k)
    match bitsOf c 9 8 with
    | 0 => .ruleDiscard
    | 1 => if 4 ≤ p then .ruleDiscard else .dec (if c.getLsbD 14 then pcpClass f else bitsOf c 13 12)
    | 2 => .host (bitsOf c 20 16)
    | _ => .sup
  | none => if s.field (Reg.SPT_PORT_DEFAULT p) 1 0 = 2 then .host (s.field (Reg.SPT_PORT_DEFAULT p) 12 8) else .unknown

/-! ### Receive pools (R53) -/

/-- Cells that a frame needs. -/
def cellsOf (f : RxFrame) : Nat := (f.length + 255) / 256

/-- Free cells of the shared pool. -/
def State.sharedFree (s : State) (p : Nat) : Nat := s.field (Reg.SPT_POOL_FREE p) 15 0

/-- Free cells of the LC0 reserve. -/
def State.reserveFree (s : State) (p : Nat) : Nat := s.field (Reg.SPT_POOL_FREE p) 31 16

/-- Sets both counts of SPT_POOL_FREE. -/
def State.setFree (s : State) (p shared reserve : Nat) : State :=
  s.setReg (Reg.SPT_POOL_FREE p) (Word.ofNat (shared % 65536 + reserve * 65536))

/-- Stores a frame of a decoder class in the pools, or counts a NOBUF. -/
def State.storeDec (s : State) (p lc : Nat) (f : RxFrame) : State :=
  let n := cellsOf f
  let r := if lc = 0 then min n (s.reserveFree p) else 0
  if n - r ≤ s.sharedFree p then
    let t := s.now
    (s.setFree p (s.sharedFree p - (n - r)) (s.reserveFree p - r)).modPort p (fun x =>
      { x with pool := x.pool ++ [PoolFrame.mk (.dec lc) r (n - r) t f] })
  else if lc = 0 then
    (s.bump (Reg.SPT_CNT_RX_NOBUF_LC0 p)).log 0x0206 3 (leBytes 1 p ++ leBytes 2 f.length)
  else s.bump (Reg.SPT_CNT_RX_NOBUF_LC0 p + 4 * lc)

/-- Stores a frame in the supervisor pool, or counts a NOBUF. -/
def State.storeSup (s : State) (p : Nat) (f : RxFrame) : State :=
  let n := cellsOf f
  if n ≤ (s.port p).supFree then
    let t := s.now
    s.modPort p (fun x => { x with supFree := x.supFree - n, pool := x.pool ++ [PoolFrame.mk .sup 0 n t f] })
  else s.bump (Reg.SPT_CNT_RX_NOBUF_SUP p)

/-- Returns a frame's cells to its pools. -/
def State.freeCells (s : State) (p : Nat) (x : PoolFrame) : State :=
  match x.cls with
  | .sup => s.modPort p (fun y => { y with supFree := y.supFree + x.shared })
  | _ => s.setFree p (s.sharedFree p + x.shared) (s.reserveFree p + x.reserve)

/-- The decoder takes the frame of a port with a receive stamp from its pool (R53). -/
def State.takeDec (s : State) (p stamp : Nat) : State :=
  match (s.port p).pool.find? (fun x => x.cls != .sup && x.stamp == stamp) with
  | some x => (s.freeCells p x).modPort p (fun y => { y with pool := y.pool.erase x })
  | none => s

/-! ### Host rings (R54 to R56, R58) -/

/-- Raises a host ring's interrupt, no closer than ITR µs after the last (Table 02-8); `id` is the ring, a transmit ring as 32 + t. -/
def State.ringInterrupt (s : State) (p id : Nat) (ctrl : Word) : State :=
  let itr := bitsOf ctrl 31 24 * 1000
  let t := s.elapsed
  match kvGet (s.port p).ringIrq id with
  | some (last, _) =>
    if t < last + itr then s.modPort p (fun x => { x with ringIrq := kvPut x.ringIrq id (last, true) })
    else (s.modPort p (fun x => { x with ringIrq := kvPut x.ringIrq id (t, false) })).raiseVector (bitsOf ctrl 21 16)
  | none => (s.modPort p (fun x => { x with ringIrq := kvPut x.ringIrq id (t, false) })).raiseVector (bitsOf ctrl 21 16)

/-- The control register of a ring, numbered as in `ringInterrupt`. -/
def ringCtrl (p id : Nat) : Nat := if id < 32 then Reg.SPT_RXR_CTRL p id else Reg.SPT_TXR_CTRL p (id - 32)

/-- Raises ring interrupts that waited for their ITR (Table 02-8). -/
def State.ringDue (s : State) (p : Nat) : State :=
  (s.port p).ringIrq.foldl (fun (s : State) (x : Nat × Nat × Bool) =>
    let c := s.reg (ringCtrl p x.1)
    if x.2.2 && x.2.1 + bitsOf c 31 24 * 1000 ≤ s.elapsed then s.ringInterrupt p x.1 c else s) s

/-- The partner of a port whose link is up signals LPI or not: no command says when, so SPT_PORT_STATUS.LPI_RX is a free value at each tick (R61, log entry 22). -/
def State.partnerLpi (s : State) (p : Nat) : State :=
  if s.linkIsUp p then s.setFlag (Reg.SPT_PORT_STATUS p) 2 (Config.partnerLpi s.tim.ticks p) else s

/-- Entries of a ring. -/
def ringSize (ctrl : Word) : Nat := 2 ^ bitsOf ctrl 11 8

/-- Writes the buffers and descriptors of a delivery, in order. -/
def State.writeBuffers (s : State) (base size head stamp len rule flags : Nat) : Nat → List Nat → List Byte → State
  | 0, _, _ => s
  | n + 1, bufs, data =>
    let first := n + 1 == (data.length + 2047) / 2048 && bitsOf (Word.ofNat flags) 1 1 == 1
    let part := data.take 2048
    let s := s.writeHost (bufs.headD 0) part
    let fl := 1 + 2 * bit first + 4 * bit (n == 0) + flags / 8 * 8
    let s := s.writeHost (base + 16 * head) (leBytes 8 stamp ++ leBytes 2 part.length ++ leBytes 2 (if n = 0 then len else 0)
      ++ leBytes 2 rule ++ leBytes 1 fl ++ leBytes 1 0)
    writeBuffers s base size ((head + 1) % size) stamp len rule (flags / 8 * 8) n bufs.tail (data.drop 2048)

/-- Delivers a frame to a host ring, or counts it in SPT_RXR_NOBUF (R53, R55). -/
def State.deliverHost (s : State) (p ring : Nat) (rule : Option Nat) (stripped : Bool) (f : RxFrame) : State :=
  let c := s.reg (Reg.SPT_RXR_CTRL p ring)
  let size := ringSize c
  let head := (s.reg (Reg.SPT_RXR_HEAD p ring)).toNat
  let avail := ((s.reg (Reg.SPT_RXR_TAIL p ring)).toNat + size - head % size) % size
  let bytes := f.length - 4 - (if stripped then 6 else 0)
  let need := (bytes + 2047) / 2048
  if cellsOf f ≤ s.sharedFree p && c.getLsbD 0 && s.hif.busMaster && need ≤ avail then
    let base := s.pair (Reg.SPT_RXR_BASE_LO p ring) (Reg.SPT_RXR_BASE_HI p ring)
    let flags := 2 + 8 * bit f.vlan.isSome + 16 * bit stripped + 32 * bit (s.paired p && p % 2 == 1)
    let s := s.writeBuffers base size head s.now f.length (rule.getD 0xFFFF) flags need f.hostBufs (padTo bytes f.data)
    (s.setReg (Reg.SPT_RXR_HEAD p ring) (Word.ofNat ((head + need) % size))).ringInterrupt p ring c
  else s.bump (Reg.SPT_RXR_NOBUF p ring)

/-- A write of a ring's CTRL (R56, Table 02-8): LOG2SIZE stays while EN is 1 or where it is outside 4 to 12, and setting EN sets HEAD to 0. -/
def State.writeRing (s : State) (ctrl head : Nat) (value : Word) : State :=
  let old := s.reg ctrl
  let log := if old.getLsbD 0 || bitsOf value 11 8 < 4 || 12 < bitsOf value 11 8 then bitsOf old 11 8 else bitsOf value 11 8
  let s := s.setReg ctrl (withBits (value &&& 0xFF3F0001#32) 11 8 log)
  if value.getLsbD 0 && !old.getLsbD 0 then s.setReg head 0 else s

/-! ### Transmitting (R51, R57, R58, R64) -/

/-- A transmit descriptor's write-back: its own 16 bytes with DONE or ERR set (R58). -/
def txWriteBack (d : TxDesc) (err : Bool) : List Byte :=
  leBytes 8 d.addr ++ leBytes 2 d.len ++ leBytes 2 d.tsId.toNat ++ leBytes 1 (2 * bit d.tsReq + (if err then 8 else 4))
    ++ leBytes 1 d.cls.toNat ++ leBytes 2 0

/-- A host frame's own port is done with it: the descriptor is written back, and its ring may interrupt (R58).  DESIGN CHOICE (log entry 21): the spec does not say when; the model writes DONE when the frame leaves or is dropped with its link, and moves HEAD when it takes the descriptor. -/
def State.hostDone (s : State) (p : Nat) (f : TxFrame) (err : Bool) : State :=
  match f.body with
  | .host d q ring at_ =>
    if q = p && s.hif.busMaster then (s.writeHost at_ (txWriteBack d err)).ringInterrupt p (32 + ring) (s.reg (Reg.SPT_TXR_CTRL p ring)) else s
  | _ => s

/-- Queues a frame at a port; a port that is off or whose link is down discards it. -/
def State.sendPort (s : State) (p : Nat) (f : TxFrame) : State :=
  if s.linkIsUp p then s.modPort p (fun x => { x with txq := x.txq ++ [f] }) else (s.bump (Reg.SPT_CNT_TX_LINK_DROP p)).hostDone p f false

/-- Queues a frame of `len` bytes without FCS at a port, or on both ports of its pair with one sequence number (R51, R58). -/
def State.sendOn (s : State) (p cls len : Nat) (body : TxBody) : State :=
  let n := max len 60 + 4
  if s.paired p then
    let q := p / 2
    let seq := (s.prp q).txSeq
    let s := s.modPair q (fun x => { x with txSeq := x.txSeq + 1 })
    (s.sendPort (2 * q) (TxFrame.mk cls (n + 6) (some (seq, 0xA)) body)).sendPort (2 * q + 1)
      (TxFrame.mk cls (n + 6) (some (seq, 0xB)) body)
  else s.sendPort p (TxFrame.mk cls n none body)

/-- Sends to a port or a pair. -/
def State.sendTo (s : State) (d : TxDest) (cls len : Nat) (body : TxBody) : State :=
  match d with
  | .port p => s.sendOn p cls len body
  | .pair q => s.sendOn (2 * q) cls len body

/-- Transmit queue of a latency class (R57): LC0 before the supervisor, then LC1 to LC3. -/
def lcQueue (lc : Nat) : Nat := if lc = 0 then 0 else lc + 1

/-- The next frame to send: the oldest of the highest-priority queue. -/
def nextTx : List TxFrame → Option TxFrame
  | [] => none
  | f :: r => match nextTx r with
    | some g => if g.cls < f.cls then some g else some f
    | none => some f

/-- ns that a frame of a length takes on the wire, with preamble, at the port's line rate. -/
def wireNs (mode len : Nat) : Nat :=
  match mode with
  | 1 => (len + 8) * 8 / 25
  | 2 => (len + 8) * 8 / 10
  | _ => (len + 8) * 8

/-- Shows COUNT in SPT_TXTS_STAT. -/
def State.showTxts (s : State) (p : Nat) : State := s.setField (Reg.SPT_TXTS_STAT p) 4 0 (s.port p).txts.length

/-- A transmit time stamp enters the queue, or is lost (R59). -/
def State.pushTxts (s : State) (p id : Nat) : State :=
  let t := s.now
  if (s.port p).txts.length < 16 then
    (s.modPort p (fun x => { x with txts := x.txts ++ [(BitVec.ofNat 16 id, t)] })).showTxts p
  else
    let s1 := s.setField (Reg.SPT_TXTS_STAT p) 31 16 (satNat 16 (s.field (Reg.SPT_TXTS_STAT p) 31 16 + 1))
    if s.flag (Reg.SPT_TXTS_STAT p) 8 then s1
    else (s1.setFlag (Reg.SPT_TXTS_STAT p) 8 true).log 0x0205 1 (leBytes 1 p)

/-- An LC0 alarm publication's last bit leaves: SYS_LC0_LAT_MAX and SYS_LC0_LAT_OVER (R40, R41). -/
def State.lc0Egress (s : State) (p : Nat) (f : TxFrame) : State :=
  match f.cls, f.body with
  | 0, .alarmPub _ _ _ _ (some c) alarm _ =>
    let lat := s.now + wireNs (s.portMode p) f.len - c
    let s := s.maxReg Reg.SYS_LC0_LAT_MAX lat
    if 500000 < lat then
      (s.bump Reg.SYS_LC0_LAT_OVER).log 0x0104 3 (leBytes 4 (satNat 32 lat) ++ leBytes 2 alarm)
    else s
  | _, _ => s

/-- A PTP message leaves: its stamp stays on the internal path, and the follow-up of a Pdelay_Resp carries it (R102, R103). -/
def State.ptpStamp (s : State) (p kind : Nat) (seq : Half) : State :=
  let t := s.now
  let s := { s with tim := { s.tim with ptpTx := kvPut s.tim.ptpTx (4 * p + kind) (seq, t) } }
  if kind = 0 then s.sendPort p (TxFrame.mk 1 72 none (.ptp 1 seq t)) else s

/-- A frame leaves the port: counts, its stamp and its latency. -/
def State.egress (s : State) (p : Nat) (f : TxFrame) : State :=
  let s := (s.modPort p (fun x => { x with txq := x.txq.erase f, lastTx := some f })).bump (Reg.SPT_CNT_TX_FRAMES p)
  match f.body with
  | .host d _ _ _ => if d.tsReq then s.pushTxts p d.tsId.toNat else s
  | .ptp kind seq _ => s.ptpStamp p kind seq
  | _ => s.lc0Egress p f

/-- A host frame's length lies above MAXLEN − 4 as its transmission begins (R47, R58). -/
def State.txTooLong (s : State) (p : Nat) (f : TxFrame) : Bool :=
  match f.body with
  | .host d _ _ _ => decide ((s.port p).txMaxlen - 4 < d.len)
  | _ => false

/-- The transmission of a frame begins: it leaves, or a host frame that is too long is refused (R47, R58). -/
def State.beginTx (s : State) (p : Nat) (f : TxFrame) : State :=
  if s.txTooLong p f then ((s.modPort p (fun x => { x with txq := x.txq.erase f })).bump (Reg.SPT_CNT_TX_REJECT p)).hostDone p f true
  else (s.egress p f).hostDone p f false

/-- The device's outputs are off at a port; a committed device that waits for keys after a tamper keeps M0 and M1 (R420, R450). -/
def State.portOff (s : State) (p : Nat) : Bool :=
  s.boot.outputsOff && !(4 ≤ p && s.committed && s.flag Reg.SEC_STATUS 0 && !s.flag Reg.BKD_CTRL 1 && s.hlt.e4.isNone)

/-- The port may send now: link up, outputs on, awake. -/
def State.maySend (s : State) (p : Nat) : Bool :=
  s.linkIsUp p && !s.portOff p && !s.flag (Reg.SPT_PORT_STATUS p) 1
    && (match (s.port p).wakeAt with
      | some t => decide (t ≤ s.elapsed)
      | none => true)

/-- The link of a port goes down: its queued frames are discarded (R58), and event 0x0201 names the cause (R43, R481). -/
def State.portDown (s : State) (p cause : Nat) : State :=
  let q := (s.port p).txq
  let s := q.foldl (fun (s : State) f => s.hostDone p f false) (s.bumpBy (Reg.SPT_CNT_TX_LINK_DROP p) q.length)
  let s := s.modPort p (fun x => { x with txq := [], wakeAt := none })
  (s.setReg (Reg.SPT_PORT_STATUS p) 0).log 0x0201 2 (leBytes 1 p ++ leBytes 1 cause)

/-! ### The commands -/

/-- Steps 7 to 9 of Table 02-2 for a frame that passed the steps before. -/
def State.rxSteer (s : State) (p : Nat) (stripped : Bool) (f : RxFrame) : State :=
  let g := stripTrailer stripped f
  if ruleEtype f = 0x88CC || ruleEtype f = 0x88FB then s.storeSup p g
  else
    let k := s.ruleOf p f
    let dest := s.steer p f k
    let s := match k with
      | some k => s.bump (Reg.SPT_RULE_HITS p k)
      | none => s
    match dest with
    | .dec lc => s.storeDec p lc g
    | .sup => s.storeSup p g
    | .host r => s.deliverHost p r k stripped f
    | .ruleDiscard => s.bump (Reg.SPT_CNT_RX_RULE_DISCARD p)
    | .unknown => s.bump (Reg.SPT_CNT_RX_UNKNOWN p)

/-- Steps 5 and on of Table 02-2 for an accepted frame. -/
def State.rxAccepted (s : State) (p : Nat) (f : RxFrame) : State :=
  if s.paired p then
    let s := s.lanHeard (p / 2) (p % 2 == 1)
    if hasTrailer f then
      if goodTrailer p f then
        let (dup, s) := s.prpSeen (p / 2) f.smac f.tail.seq
        if dup then s.bump (Reg.SPT_PRP_DUP (p / 2)) else s.rxSteer p true f
      else s.bump (Reg.SPT_CNT_RX_PRP_BAD p)
    else s.rxSteer p false f
  else s.rxSteer p false f

/-- `RX_FRAME`: the steps of Table 02-2 (R45, R46). -/
def execRxFrame (port : Nat) (f : RxFrame) (s : State) : Host.Outcome State Fault Refusal := answer <|
  if !s.linkIsUp port then s
  else if !f.codingOk then s.bump (Reg.SPT_CNT_RX_CODE port)
  else if f.length ≤ 63 then s.bump (Reg.SPT_CNT_RX_RUNT port)
  else if s.field (Reg.SPT_MAXLEN port) 13 0 < f.length then s.bump (Reg.SPT_CNT_RX_OVERSIZE port)
  else if !f.fcsOk then s.bump (Reg.SPT_CNT_RX_FCS port)
  else ((s.bump (Reg.SPT_CNT_RX_FRAMES port)).setFlag (Reg.SPT_PORT_STATUS port) 2 false).rxAccepted port f

/-- `PRP_ENTRY_EXPIRE`: an entry unused for 400 ms is freed (R49). -/
def execPrpEntryExpire (pair : Nat) (mac : BitVec 48) (s : State) : Host.Outcome State Fault Refusal :=
  answer (s.modPair pair (fun x => { x with
    table := x.table.filter (fun e => e.mac != mac || decide (s.elapsed < e.lastUse + 400000000)) }))

/-- `PRP_LAN_SILENT`: one LAN has been silent for SPT_PRP_TIMEOUT while the other receives (R50). -/
def execPrpLanSilent (pair : Nat) (lanB : Bool) (s : State) : Host.Outcome State Fault Refusal := answer <|
  let x := s.prp pair
  let mine := if lanB then x.lastRxB else x.lastRxA
  let other := if lanB then x.lastRxA else x.lastRxB
  let limit := (s.reg (Reg.SPT_PRP_TIMEOUT (2 * pair))).toNat * 1000000
  if s.flag (Reg.SPT_PRP_CTRL pair) 0 && !s.flag (Reg.SPT_PRP_STAT pair) (bit lanB) && mine < other && mine + limit ≤ s.elapsed then
    (s.setFlag (Reg.SPT_PRP_STAT pair) (bit lanB) true).log 0x0203 2 (leBytes 1 pair ++ leBytes 1 (0xA + bit lanB))
  else s

/-- The 2,000 ms between supervision frames of a pair have passed (R51). -/
def State.supervisionDue (s : State) (pair : Nat) : Bool :=
  match (s.prp pair).lastSup with
  | some t => decide (t + 2000000000 ≤ s.elapsed)
  | none => true

/-- `PRP_SUPERVISION_TX`: every 2,000 ms a supervision frame leaves on each port of the pair (R51). -/
def execPrpSupervisionTx (pair : Nat) (s : State) : Host.Outcome State Fault Refusal := answer <|
  if s.flag (Reg.SPT_PRP_CTRL pair) 0 && s.supervisionDue pair then
    let t := s.elapsed
    (s.modPair pair (fun x => { x with lastSup := some t })).sendOn (2 * pair) 1 60 .supervision
  else s

/-- `LINK_UP`: a training completes (R481). -/
def execLinkUp (port : Nat) (s : State) : Host.Outcome State Fault Refusal := answer <|
  if s.portMode port ≠ 0 && s.committed && !s.flag (Reg.SPT_PORT_STATUS port) 0 then
    ((s.pllBack port).setReg (Reg.SPT_PORT_STATUS port) 1).log 0x0202 0 (leBytes 1 port ++ leBytes 1 (s.portMode port))
  else s

/-- `LINK_DOWN`: the link is lost, or on SGMII the partner's speed is refused (R43, R481). -/
def execLinkDown (port cause : Nat) (s : State) : Host.Outcome State Fault Refusal := answer <|
  let refused := cause == 3 && s.portMode port == 4 && s.committed
  if s.portMode port ≠ 0 && ((s.flag (Reg.SPT_PORT_STATUS port) 0 && cause != 3) || refused) then s.portDown port cause else s

/-- `MAXLEN_WRITE`: a value of 1,518 to 9,600 is staged; any other is ignored with event 0x0207 (R46). -/
def execMaxlenWrite (port : Nat) (value : Word) (s : State) : Host.Outcome State Fault Refusal := answer <|
  if 1518 ≤ bitsOf value 13 0 && bitsOf value 13 0 ≤ 9600 then s.stageReg (Reg.SPT_MAXLEN port) (value &&& 0x3FFF#32)
  else s.log 0x0207 1 (leBytes 1 port ++ leBytes 4 value.toNat)

/-- Both directions of a port wait for their frame boundary. -/
def State.askCommit (s : State) (p : Nat) : State :=
  (s.setFlag Reg.SPT_COMMIT p true).modPort p (fun x => { x with rxPassed := false, txPassed := false })

/-- `SPT_COMMIT`: both directions of each named port wait for their frame boundary (R47). -/
def execSptCommit (mask : Word) (s : State) : Host.Outcome State Fault Refusal :=
  answer ((List.range 6).foldl (fun (s : State) p => if mask.getLsbD p then s.askCommit p else s) s)

/-- `SPT_COMMIT_POINT`: a direction of a port adopts the staged settings (R47). -/
def execSptCommitPoint (port : Nat) (tx : Bool) (s : State) : Host.Outcome State Fault Refusal := answer <|
  if !s.flag Reg.SPT_COMMIT port then s
  else
    let x := s.port port
    let s :=
      if tx then
        let m := if x.rxPassed then s.reg (Reg.SPT_MAXLEN port) else s.staged (Reg.SPT_MAXLEN port)
        s.modPort port (fun x => { x with txMaxlen := bitsOf m 13 0, txPassed := true })
      else (s.commitRange (Reg.SPT_PORT_CTRL port) 0x10000).modPort port (fun x => { x with rxPassed := true })
    if (s.port port).rxPassed && (s.port port).txPassed then s.setFlag Reg.SPT_COMMIT port false else s

/-- `SUP_POOL_DRAIN`: supervisor firmware takes the oldest frame of the supervisor pool (R53). -/
def execSupPoolDrain (port : Nat) (s : State) : Host.Outcome State Fault Refusal := answer <|
  match (s.port port).pool.find? (fun x => x.cls == .sup) with
  | some x => (s.freeCells port x).modPort port (fun y => { y with pool := y.pool.erase x })
  | none => s

/-- `RXR_ENABLE`: setting EN sets HEAD to 0 (R56). -/
def execRxrEnable (port ring : Nat) (value : Word) (s : State) : Host.Outcome State Fault Refusal :=
  answer (s.writeRing (Reg.SPT_RXR_CTRL port ring) (Reg.SPT_RXR_HEAD port ring) (value ||| 1))

/-- `RXR_DISABLE`: clearing EN stops the ring; deliveries are whole, so none is in progress (R56). -/
def execRxrDisable (port ring : Nat) (value : Word) (s : State) : Host.Outcome State Fault Refusal :=
  answer (s.writeRing (Reg.SPT_RXR_CTRL port ring) (Reg.SPT_RXR_HEAD port ring) (value &&& ~~~1))

/-- `HOST_TX_DESCRIPTOR`: the port takes the descriptor at HEAD: class 0 is refused with ERR, else the frame is queued, and its length judged when its transmission begins (R47, R58). -/
def execHostTxDescriptor (port ring : Nat) (d : TxDesc) (s : State) : Host.Outcome State Fault Refusal := answer <|
  let c := s.reg (Reg.SPT_TXR_CTRL port ring)
  let size := ringSize c
  let head := (s.reg (Reg.SPT_TXR_HEAD port ring)).toNat
  if s.portMode port = 0 || !c.getLsbD 0 || !s.hif.busMaster || head % size = (s.reg (Reg.SPT_TXR_TAIL port ring)).toNat % size then s
  else
    let at_ := s.pair (Reg.SPT_TXR_BASE_LO port ring) (Reg.SPT_TXR_BASE_HI port ring) + 16 * head
    let body : TxBody := .host d port ring at_
    let s := s.setReg (Reg.SPT_TXR_HEAD port ring) (Word.ofNat ((head + 1) % size))
    if d.cls.toNat = 0 then (s.bump (Reg.SPT_CNT_TX_REJECT port)).hostDone port (TxFrame.mk 0 0 none body) true
    else s.sendOn port (lcQueue d.cls.toNat) d.len body

/-- `TX_FRAME`: the head frame of the highest-priority queue leaves (R57, R59). -/
def execTxFrame (port : Nat) (s : State) : Host.Outcome State Fault Refusal := answer <|
  if s.maySend port then
    match nextTx (s.port port).txq with
    | some f => s.beginTx port f
    | none => s
  else s

/-- `TXTS_POP`: a read of SPT_TXTS_POP removes the head entry and loads its stamp (R60). -/
def execTxtsPop (port : Nat) (s : State) : Host.Outcome State Fault Refusal := answer <|
  match (s.port port).txts with
  | (id, t) :: r =>
    let s := (s.modPort port (fun x => { x with txts := r, txPopped := t })).showTxts port
    { s.setPair (Reg.SPT_TXTS_LO port) (Reg.SPT_TXTS_HI port) t with readData := [Word.ofNat (id.toNat + 2 ^ 16)] }
  | [] => { s with readData := [0] }

/-- `TXTS_STAT_CLEAR`: clearing OVF also clears LOST (R59). -/
def execTxtsStatClear (port : Nat) (s : State) : Host.Outcome State Fault Refusal :=
  answer ((s.setFlag (Reg.SPT_TXTS_STAT port) 8 false).setField (Reg.SPT_TXTS_STAT port) 31 16 0)

end Sys2Proof.Machine
end

