-- ==== Sys2Proof/Machine/Align.lean ====
section
/-!
DEFINITION. The alignment engine (05_alignment.md): the tag grid, furrows, section closure, deadlines, the Gleaner and history rings.
-/
namespace Sys2Proof.Machine

/-! ### Slots and quality (R10 to R13) -/

namespace Q
abbrev valid : Half := 0x0001
abbrev missing : Half := 0x0002
abbrev late : Half := 0x0004
abbrev revised : Half := 0x0008
abbrev held : Half := 0x0010
abbrev syncLost : Half := 0x0020
abbrev timeSuspect : Half := 0x0040
abbrev test : Half := 0x0080
abbrev settling : Half := 0x0100
abbrev range : Half := 0x0200
abbrev authFail : Half := 0x0400
abbrev estimated : Half := 0x0800
abbrev derived : Half := 0x1000
abbrev alarm : Half := 0x2000
end Q

/-- A quality word has a flag. -/
def hasQ (q f : Half) : Bool := q &&& f != 0

/-- The slot of a value that did not arrive (R13, R122).  DESIGN CHOICE (log entry 16): the spec gives its arrival offset, source index and time-quality code no value; the model writes 0 for all three, in unwritten derived channels too. -/
def missingSlot : Slot := { a := 0, b := 0, q := Q.missing, off := 0, src := 0, tq := 0 }

/-- A quality word under R13: MISSING, HELD, SETTLING and AUTH_FAIL clear VALID, LATE needs REVISED, and of ESTIMATED and DERIVED the one that says who computed it last stays. -/
def tidyQ (q : Half) : Half :=
  let q := if hasQ q (Q.missing ||| Q.held ||| Q.settling ||| Q.authFail) then q &&& ~~~Q.valid else q
  let q := if hasQ q Q.revised then q else q &&& ~~~Q.late
  if hasQ q Q.derived then q &&& ~~~Q.estimated else q

/-- A slot under R13: beside its quality word, a MISSING value is 0. -/
def tidySlot (x : Slot) : Slot :=
  if hasQ x.q Q.missing then { x with a := 0, b := 0, q := tidyQ x.q } else { x with q := tidyQ x.q }

/-- The 16 bytes of a slot (Table 00-4). -/
def slotBytes (x : Slot) : List Byte :=
  leBytes 4 x.a.toNat ++ leBytes 4 x.b.toNat ++ leBytes 2 x.q.toNat ++ leBytes 2 x.off.toNat ++ leBytes 2 x.src.toNat
    ++ leBytes 1 x.tq.toNat ++ leBytes 1 0

/-- The slot that 16 bytes spell. -/
def slotOf (l : List Byte) : Slot :=
  { a := BitVec.ofNat 32 (natAt l 0 4), b := BitVec.ofNat 32 (natAt l 4 4), q := BitVec.ofNat 16 (natAt l 8 2)
    off := BitVec.ofNat 16 (natAt l 10 2), src := BitVec.ofNat 16 (natAt l 12 2), tq := BitVec.ofNat 8 (natAt l 14 1) }

/-- The arrival offset from a tag to a time: 16 µs units rounded down, 0 before the tag, saturating (R11, R27). -/
def arrivalOffset (tag t : Nat) : Half := BitVec.ofNat 16 (satNat 16 ((t - tag) / 16000))

/-! ### The tag grid (R113 to R116) -/

/-- tag(s, k) at rate r. -/
def gridTag (r s k : Nat) : Nat := s * 1000000000 + (k * 1000000000 + r / 2) / r

/-- The grid tag that follows. -/
def gridNext (r : Nat) (x : Nat × Nat) : Nat × Nat := if x.2 + 1 < r then (x.1, x.2 + 1) else (x.1 + 1, 0)

/-- The grid tag before. -/
def gridPrev (r : Nat) (x : Nat × Nat) : Nat × Nat := if x.2 = 0 then (x.1 - 1, r - 1) else (x.1, x.2 - 1)

/-- Distance of two numbers. -/
def dist (a b : Nat) : Nat := (a - b) + (b - a)

/-- The grid tag within the tolerance ⌊10^9 / (4 r)⌋ of a time (R24, R114). -/
def gridNear (r t : Nat) : Option (Nat × Nat) :=
  let s := t / 1000000000
  let k := ((t % 1000000000) * r + 500000000) / 1000000000
  let x := if k < r then (s, k) else (s + 1, 0)
  if r ≠ 0 && dist t (gridTag r x.1 x.2) ≤ 1000000000 / (4 * r) then some x else none

/-- Rate of a group. -/
def State.rate (s : State) (g : Nat) : Nat := s.field (Reg.ALN_RG_CFG g) 7 0

/-- Sections of a group. -/
def State.sectionCount (s : State) (g : Nat) : Nat := s.field (Reg.ALN_RG_CFG g) 14 8

/-- A running rate group. -/
def State.group (s : State) (g : Nat) : Option GroupState := kvGet s.aln.groups g

/-- Changes a rate group. -/
def State.modGroup (s : State) (g : Nat) (f : GroupState → GroupState) : State :=
  { s with aln := { s.aln with groups := kvMod s.aln.groups g f } }

/-- The row index of a grid tag, none before TAG0 (R139). -/
def rowIndex (x : GroupState) (r : Nat) (p : Nat × Nat) : Option Nat :=
  let n : Int := ((p.1 : Int) - x.tag0S) * r + p.2 - x.tag0K
  if 0 ≤ n then some n.toNat else none

/-- The tag of row n (R139). -/
def rowTag (x : GroupState) (r n : Nat) : Nat := gridTag r (x.tag0S + (x.tag0K + n) / r) ((x.tag0K + n) % r)

/-- The instant at which the next row's furrow opens: the grid tag before it (R115). -/
def opensAt (x : GroupState) (r : Nat) : Nat :=
  let p := gridPrev r (x.nextS, x.nextK)
  gridTag r p.1 p.2

/-! ### Channels, members and counts (R25, R118, R120, R124) -/

/-- Channels of a rate group, in ascending number. -/
def State.groupChans (s : State) (g : Nat) : List (Nat × ChanRec) := s.aln.chans.filter (fun c => c.2.rg == g)

/-- Measured channels of a section. -/
def State.secChans (s : State) (g sec : Nat) : List (Nat × ChanRec) :=
  s.aln.chans.filter (fun c => c.2.rg == g && !c.2.derived && c.2.sec == sec)

/-- Channels of a row. -/
def State.rowChans (s : State) (g : Nat) : Nat := (s.groupChans g).length

/-- Position of a channel in its row (R118). -/
def State.position (s : State) (g c : Nat) : Nat := ((s.groupChans g).filter (fun x => decide (x.1 < c))).length

/-- A stream's record has a channel. -/
def inStream (e : StreamRec) (c : Nat) : Bool := e.typ != .unused && e.chanBase ≤ c && c < e.chanBase + e.chanCount

/-- Streams with a channel in a section, in stream order. -/
def State.members (s : State) (g sec : Nat) : List (Nat × StreamEntry) :=
  let cs := s.secChans g sec
  s.dec.streams.filter (fun e => e.2.cfg.rg == g && cs.any (fun c => inStream e.2.cfg c.1))

/-- Members that a section waits for: their entries are VALID. -/
def State.waited (s : State) (g sec : Nat) : List Nat :=
  ((s.members g sec).filter (fun e => e.2.state == .valid)).map (fun e => e.1)

/-- Latency class of a section. -/
def State.secLc (s : State) (g sec : Nat) : Nat := s.field (Reg.ALN_SEC_CTRL g sec) 1 0

/-- A section of a furrow is closed. -/
def Furrow.isClosed (f : Furrow) (sec : Nat) : Bool := f.closed.getLsbD sec

/-- Sets the header counts from the slots (R124). -/
def Furrow.recount (f : Furrow) : Furrow :=
  let m := (f.slots.filter (fun x => hasQ x.2.q Q.missing)).length
  { f with missing := m, filled := f.slots.length - m }

/-- Changes the furrow of a tag. -/
def State.modFurrow (s : State) (g tag : Nat) (h : Furrow → Furrow) : State :=
  s.modGroup g (fun x => { x with furrows := x.furrows.map (fun f => if f.tag = tag then h f else f) })

/-- The furrow of a tag, while it lives. -/
def State.furrow (s : State) (g tag : Nat) : Option Furrow :=
  match s.group g with
  | some x => x.furrows.find? (fun f => f.tag == tag)
  | none => none

/-! ### Closure (R120 to R123) -/

/-- The hold value that a section's closure at a row may use (R123). -/
def State.holdFor (s : State) (g tag c : Nat) (r : ChanRec) : Option HoldVal :=
  match s.group g with
  | some x =>
    match kvGet x.holds c with
    | some h =>
      let lim := match gridNear (s.rate g) tag, gridNear (s.rate g) h.tag with
        | some p, some q => (p.1 * s.rate g + p.2) - (q.1 * s.rate g + q.2) ≤ r.holdMax
        | _, _ => false
      if r.holdEn && h.tag < tag && lim then some h else none
    | none => none
  | none => none

/-- The slot of a channel that delivered no value by the closure, or an absent one whose other flags stay (R71, R122, R123). -/
def State.closingSlot (s : State) (g tag c : Nat) (r : ChanRec) (old : Option Slot) : Slot :=
  match s.holdFor g tag c r with
  | some h => { a := h.a, b := h.b, q := Q.held ||| (h.q &&& (Q.syncLost ||| Q.timeSuspect ||| Q.test)), off := 0xFFFF, src := h.src, tq := 0xF }
  | none => old.getD missingSlot

/-- A slot holds a delivered value. -/
def deliveredIn (f : Furrow) (c : Nat) : Bool :=
  match kvGet f.slots c with
  | some x => !hasQ x.q Q.missing
  | none => false

/-- Graphs with a trigger that are enabled and not halted receive it (R241). -/
def State.triggerGraphs (s : State) (tr : Trigger) (key : Nat) (row : Option (Nat × Nat)) (closure : Option Nat) : State :=
  { s with dfs := { s.dfs with graphs := s.dfs.graphs.map (fun (x : Nat × GraphState) =>
      if s.flag Reg.DFS_CTRL 0 && x.2.cfg.trigger == tr && x.2.cfg.en && !x.2.halted && (4096 ≤ x.1 || s.graphHost x.1 key == s.ownId) then
        (x.1, { x.2 with waiting := x.2.waiting ++ [HeldTrigger.mk key row closure false] })
      else x) } }

/-- Channels that a graph's SLOT_READ nodes name (R360). -/
def readChans (c : GraphRec) : List Nat := ((c.nodes.map (fun n => match n.op with
  | .slotRead l => l
  | _ => [])).flatten).eraseDups

/-- The slot of a channel that a reader of a row in its furrow sees: MISSING while the channel's section is open (R33). -/
def State.seenIn (s : State) (f : Furrow) (chan : Nat) : Slot :=
  match kvGet s.aln.chans chan with
  | some c => if c.derived || f.isClosed c.sec then (kvGet f.slots chan).getD missingSlot else missingSlot
  | none => missingSlot

/-- A closed section goes to the devices that run graphs of this device which it triggers: their slots, then the closure token (R360, R371). -/
def State.forwardSection (s : State) (g tag sec : Nat) : State :=
  match s.furrow g tag with
  | some f =>
    let away := s.dfs.graphs.filter (fun x => decide (x.1 < 4096) && x.2.cfg.trigger == .section_ g sec && x.2.cfg.en && s.graphHost x.1 tag != s.ownId)
    let devs := (away.map (fun x => s.graphHost x.1 tag)).eraseDups
    let cls := hgwClass (s.secLc g sec)
    devs.foldl (fun (s : State) d =>
      let chans := (((away.filter (fun x => s.graphHost x.1 tag == d)).map (fun x => readChans x.2.cfg)).flatten).eraseDups
      let vals := chans.map (fun c => (c, s.seenIn f c))
      (s.hgwSend d cls (.slots s.ownId g tag vals)).hgwSend d cls
        (.closure s.ownId g sec tag f.flags (Word.ofNat f.idx) (f.onDl.getLsbD sec))) s
  | none => s

/-- Closes an open section of a row: slots without a value, bitmaps, counts and the release token (R120, R122, R124). -/
def State.closeSection (s : State) (g tag sec : Nat) (byDeadline : Bool) : State :=
  match s.furrow g tag with
  | none => s
  | some f =>
    if f.isClosed sec then s
    else
      let fill := ((s.secChans g sec).filter (fun c => !deliveredIn f c.1)).map (fun c => (c.1, s.closingSlot g tag c.1 c.2 (kvGet f.slots c.1)))
      let held := (fill.filter (fun x => hasQ x.2.q Q.held)).length
      let t := s.now
      let s := s.modFurrow g tag (fun f => { f with
        slots := fill.foldl (fun l (x : Nat × Slot) => kvPut l x.1 x.2) f.slots
        closed := f.closed ||| (1 <<< sec)
        onDl := if byDeadline then f.onDl ||| (1 <<< sec) else f.onDl
        closedAt := kvPut f.closedAt sec t }.recount)
      let s := (s.triggerGraphs (.section_ g sec) tag (some (g, f.idx)) (some t)).forwardSection g tag sec
      let s := (s.bumpBy (Reg.ALN_RG_CNT_HELD g) held).pmcGlobal 0x23 1
      if byDeadline then s.bump (Reg.ALN_RG_CNT_SEC_DEADLINE g) else s

/-- Every waited-for member has delivered to a section of a furrow. -/
def State.allDelivered (s : State) (g sec : Nat) (f : Furrow) : Bool :=
  (s.waited g sec).all (fun i => f.delivered.contains (sec, i))

/-- Closes a section by completion where every waited-for member has delivered. -/
def State.tryComplete (s : State) (g tag sec : Nat) : State :=
  match s.furrow g tag with
  | some f => if !f.isClosed sec && s.allDelivered g sec f then s.closeSection g tag sec false else s
  | none => s

/-- Shows which adaptive sections have a waited-for member that is LEARNING (Tables 05-14 and 05-15). -/
def State.showLearning (s : State) : State :=
  let learns := fun (g sec : Nat) => s.flag (Reg.ALN_SEC_CTRL g sec) 4
    && (s.members g sec).any (fun e => e.2.state == .valid && e.2.stats.learning)
  (List.range 4).foldl (fun (s : State) g =>
    if (s.group g).isSome then
      let secs := List.range (s.sectionCount g)
      (secs.foldl (fun (s : State) sec => s.setFlag (Reg.ALN_SEC_DEADLINE g sec) 31 (learns g sec)) s).setFlag Reg.ALN_STATUS (8 + g) (secs.any (learns g))
    else s.setFlag Reg.ALN_STATUS (8 + g) false) s

/-- A stream stops being waited for: open sections whose remaining members have delivered close at once (R120). -/
def State.stopWaiting (s : State) (stream : Nat) : State :=
  match kvGet s.dec.streams stream with
  | some e =>
    let g := e.cfg.rg
    match s.group g with
    | some x =>
      let secs := (List.range (s.sectionCount g)).filter (fun sec => (s.secChans g sec).any (fun c => inStream e.cfg c.1))
      x.furrows.foldl (fun (s : State) f => secs.foldl (fun (s : State) sec => s.tryComplete g f.tag sec) s) s
    | none => s
  | none => s

/-- The deadline of an open section lies in the past: it closes by deadline. -/
def State.deadlineDue (s : State) (g tag sec : Nat) : State :=
  match s.furrow g tag with
  | some f => if sec < s.sectionCount g ∧ tag + f.deadlines.getD sec 0 ≤ s.now then s.closeSection g tag sec true else s
  | none => s

/-- Every open section of a group whose deadline lies in the past closes, in tag order (R129). -/
def State.closeOverdue (s : State) (g : Nat) : State :=
  match s.group g with
  | some x =>
    x.furrows.foldl (fun (s : State) f =>
      (List.range (s.sectionCount g)).foldl (fun (s : State) sec => s.deadlineDue g f.tag sec) s) s
  | none => s

/-! ### Furrow space and headland (R37, R117) -/

/-- Bytes of a row. -/
def State.rowBytes (s : State) (g : Nat) : Nat := 64 + 16 * s.rowChans g

/-- STRIDE (R138). -/
def State.stride (s : State) (g : Nat) : Nat := (s.rowBytes g + 63) / 64 * 64

/-- Group maximum headland in µs, from given HMAX and DERIVE readings (R117). -/
def headlandOf (read : Nat → Word) (g sections : Nat) : Nat :=
  ((List.range sections).map (fun i => (read (Reg.ALN_SEC_HMAX g i)).toNat)).foldl max 0 + (read (Reg.ALN_RG_DERIVE g)).toNat

/-- ⌈µs × rate⌉ in rows. -/
def ceilRows (us r : Nat) : Nat := (us * r + 999999) / 1000000

/-- Furrow space of a group in bytes with a headland in µs (R37). -/
def State.furrowSpace (s : State) (g hg : Nat) : Nat := (ceilRows hg (s.rate g) + 1) * s.rowBytes g

/-- A group is enabled. -/
def State.groupOn (s : State) (g : Nat) : Bool := s.flag Reg.ALN_CTRL g

/-- Shows the headland space in use (Table 05-14). -/
def State.showFurrows (s : State) : State :=
  let used := (List.range 4).foldl (fun n g => n + (((s.group g).map (fun x => x.furrows.length)).getD 0) * s.rowBytes g) 0
  (s.setReg Reg.ALN_FURROW_USED (Word.ofNat ((used + 1023) / 1024))).maxReg Reg.ALN_FURROW_PEAK ((used + 1023) / 1024)

/-! ### Opening rows (R115, R116, R120, R125) -/

/-- The first grid tag at least one interval after an instant (R116). -/
def firstRow (r t : Nat) : Nat × Nat :=
  let s := t / 1000000000
  let k := (t % 1000000000) * r / 1000000000
  let c := (List.range 4).map (fun i => (s + (k + i) / r, (k + i) % r))
  (c.find? (fun x => t * r + 1000000000 ≤ gridTag r x.1 x.2 * r)).getD (s + 1, 0)

/-- A rate group starts to run (R116). -/
def State.enableGroup (s : State) (g : Nat) : State :=
  let r := s.rate g
  let p := firstRow r s.now
  let x : GroupState := { nextS := p.1, nextK := p.2, nextIdx := 0, tag0S := p.1, tag0K := p.2 }
  let s := { s with aln := { s.aln with groups := kvPut s.aln.groups g x } }
  let s := s.setPair (Reg.ALN_RG_TAG0_LO g) (Reg.ALN_RG_TAG0_HI g) (gridTag r p.1 p.2)
  s.setFlag Reg.ALN_STATUS g true

/-- The deadline in ns that a row of a section takes (R125). -/
def State.secDeadline (s : State) (g sec : Nat) : Nat :=
  if s.flag (Reg.ALN_SEC_CTRL g sec) 4 then s.field (Reg.ALN_SEC_DEADLINE g sec) 18 0 * 1000
  else (s.reg (Reg.ALN_SEC_HMAX g sec)).toNat * 1000

/-- Shows the waited-for members of each section (Table 05-15). -/
def State.showMembers (s : State) (g : Nat) : State :=
  (List.range (s.sectionCount g)).foldl (fun (s : State) sec =>
    s.setField (Reg.ALN_SEC_CTRL g sec) 30 16 (s.waited g sec).length) s

/-- Opens the furrow of the next row. -/
def State.openRow (s : State) (g : Nat) : State :=
  match s.group g with
  | none => s
  | some x =>
    let r := s.rate g
    let secs := List.range (s.sectionCount g)
    let f : Furrow :=
      { tag := gridTag r x.nextS x.nextK, idx := x.nextIdx, flags := 0
        deadlines := secs.map (fun sec => s.secDeadline g sec)
        hg := (s.reg (Reg.ALN_RG_HEADLAND g)).toNat * 1000
        bare := secs.foldl (fun b sec => if (s.waited g sec).isEmpty then b ||| (1 <<< sec) else b) 0 }
    let n := gridNext r (x.nextS, x.nextK)
    let s := s.modGroup g (fun y => { y with nextS := n.1, nextK := n.2, nextIdx := y.nextIdx + 1, furrows := y.furrows ++ [f] })
    ((s.setReg (Reg.ALN_RG_SEQ g) (Word.ofNat x.nextIdx)).showMembers g).showFurrows

/-- Row flags that Device Time gives at a tag (R15). -/
def State.tagFlags (s : State) : Byte := if s.syncState < 2 then 2 else if s.syncState = 3 then 4 else 0

/-- Device Time reaches the tag of a row: its flags, and the sections without a waited-for member close (R15, R120). -/
def State.reachTag (s : State) (g tag : Nat) : State :=
  let fl := s.tagFlags
  let s := s.modFurrow g tag (fun f => { f with flags := f.flags ||| fl })
  match s.furrow g tag with
  | some f => (List.range (s.sectionCount g)).foldl (fun (s : State) sec =>
      if f.bare.getLsbD sec then s.closeSection g tag sec false else s) s
  | none => s

/-! ### History rings (R138, R139) -/

/-- The ring base. -/
def State.ringBase (s : State) (g : Nat) : Nat := s.pair (Reg.ALN_RG_HIST_BASE_LO g) (Reg.ALN_RG_HIST_BASE_HI g)

/-- D. -/
def State.ringDepth (s : State) (g : Nat) : Nat := (s.reg (Reg.ALN_RG_HIST_DEPTH g)).toNat

/-- The ring is enabled. -/
def State.histOn (s : State) (g : Nat) : Bool := s.flag (Reg.ALN_RG_HIST_CTRL g) 0

/-- WRIDX. -/
def State.wridx (s : State) (g : Nat) : Nat := s.pair (Reg.ALN_RG_WRIDX_LO g) (Reg.ALN_RG_WRIDX_HI g)

/-- Address of the ring entry of a row. -/
def State.entryAddr (s : State) (g n : Nat) : Nat := s.ringBase g + 4096 + n % max 1 (s.ringDepth g) * s.stride g

/-- Address of its CRC word. -/
def State.crcAddr (s : State) (g n : Nat) : Nat :=
  s.ringBase g + 4096 + s.ringDepth g * s.stride g + 4 * (n % max 1 (s.ringDepth g))

/-- The 64 bytes of a row header (Table 00-6). -/
def headerBytes (g : Nat) (f : Furrow) : List Byte :=
  padTo 64 (leBytes 8 f.tag ++ leBytes 1 g ++ leBytes 1 f.flags.toNat ++ leBytes 2 f.rev.toNat ++ leBytes 4 (f.idx % 2 ^ 32)
    ++ leBytes 8 f.closed.toNat ++ leBytes 8 f.onDl.toNat ++ leBytes 4 f.filled ++ leBytes 4 f.missing ++ leBytes 4 f.wseq.toNat)

/-- The row's bytes in channel order. -/
def State.rowImage (s : State) (g : Nat) (f : Furrow) : List Byte :=
  headerBytes g f ++ ((s.groupChans g).map (fun c => slotBytes ((kvGet f.slots c.1).getD missingSlot))).flatten

/-- Writes the CRC word of a ring entry from its bytes (R138). -/
def State.writeEntryCrc (s : State) (g n : Nat) : State :=
  s.writeDram (s.crcAddr g n) (leBytes 4 (crc32c (s.readDram (s.entryAddr g n) (s.rowBytes g))).toNat)

/-- Writes the ring descriptor (Table 05-7). -/
def State.writeDescriptor (s : State) (g : Nat) : State :=
  let b := padTo 60 (leBytes 4 0x484E4C41 ++ leBytes 2 1 ++ leBytes 1 g ++ leBytes 1 (s.rate g) ++ leBytes 8 (s.wridx g)
    ++ leBytes 4 (s.ringDepth g) ++ leBytes 4 (s.stride g) ++ leBytes 4 (s.rowChans g) ++ leBytes 4 0
    ++ leBytes 8 (s.pair (Reg.ALN_RG_TAG0_LO g) (Reg.ALN_RG_TAG0_HI g)))
  s.writeDram (s.ringBase g) (b ++ leBytes 4 (crc32c b).toNat)

/-- Passes WRIDX over rows that are not produced (R129). -/
def passSkipped : List Nat → Nat → Nat × List Nat
  | [], w => (w, [])
  | n :: r, w => if n = w then passSkipped r (w + 1) else (w, n :: r)

/-- WRIDX takes a value, passing over rows not produced. -/
def State.setWridx (s : State) (g w : Nat) : State :=
  match s.group g with
  | some x =>
    let (w, l) := passSkipped x.skipped w
    let s := (s.setPair (Reg.ALN_RG_WRIDX_LO g) (Reg.ALN_RG_WRIDX_HI g) w).modGroup g (fun y => { y with skipped := l })
    if s.histOn g then s.writeDescriptor g else s
  | none => s

/-- The oldest row takes its final form (R117): sections still open close by deadline, and unwritten channels become MISSING. -/
def State.fillRow (s : State) (g : Nat) : State :=
  match (s.group g).bind (fun x => x.furrows.head?) with
  | some f =>
    let s := (List.range (s.sectionCount g)).foldl (fun (s : State) sec => s.closeSection g f.tag sec true) s
    let blank := (s.groupChans g).map (fun c => (c.1, missingSlot))
    s.modFurrow g f.tag (fun h => { h with
      slots := blank.foldl (fun l (c : Nat × Slot) => if (kvGet l c.1).isNone then kvPut l c.1 c.2 else l) h.slots }.recount)
  | none => s

/-- An output stream of a group is on and has yet to build the frame of a tag (R87). -/
def State.frameDue (s : State) (g tag : Nat) : Bool :=
  s.dec.outs.any (fun x => x.on && x.cfg.rg == g && (match x.lastTag with
    | some t => decide (t < tag)
    | none => true))

/-- A row that retires before the frames of its output streams are built is kept for them; a kept row goes once none is to come, or 2 s after its tag.  DESIGN CHOICE (log entry 33): the spec does not say where a frame takes such a row from. -/
def State.keepRow (s : State) (g : Nat) (h : Furrow) : State :=
  let l := (s.aln.kept ++ [(g, h)]).filter (fun x => s.frameDue x.1 x.2.tag && decide (s.now < x.2.tag + 2000000000))
  { s with aln := { s.aln with kept := l } }

/-- The row of a tag that an output frame draws on: in flight, or kept. -/
def State.outRow (s : State) (g tag : Nat) : Option Furrow :=
  match s.furrow g tag with
  | some f => some f
  | none => (s.aln.kept.find? (fun x => x.1 == g && x.2.tag == tag)).map (fun x => x.2)

/-- History takes the oldest row and its furrow is freed (R117, R139). -/
def State.retireRow (s : State) (g : Nat) : State :=
  match (s.group g).bind (fun x => x.furrows.head?) with
  | some h =>
    let s := s.keepRow g h
    let s := if s.histOn g then (s.writeDram (s.entryAddr g h.idx) (s.rowImage g h)).writeEntryCrc g h.idx else s
    let s := s.modGroup g (fun y => { y with furrows := y.furrows.drop 1 })
    ((s.bump (Reg.ALN_RG_CNT_ROWS g)).setWridx g (h.idx + 1)).showFurrows
  | none => s

/-! ### Time steps (R129, R130) -/

/-- Rows whose furrow opening lies after one instant and before another. -/
def passedRows (r old new : Nat) : Nat → GroupState → GroupState
  | 0, x => x
  | n + 1, x =>
    let o := opensAt x r
    if old < o && o < new then
      let p := gridNext r (x.nextS, x.nextK)
      passedRows r old new n { x with nextS := p.1, nextK := p.2, nextIdx := x.nextIdx + 1, skipped := x.skipped ++ [x.nextIdx] }
    else x

/-- A rate group's part of a forward step of Device Time from one instant to another. -/
def State.stepGroup (s : State) (g old new : Nat) : State :=
  match s.group g with
  | some x =>
    let s := s.closeOverdue g
    let s := (x.furrows.filter (fun f => decide (old < f.tag && f.tag < new))).foldl (fun (s : State) f => s.reachTag g f.tag) s
    let most := (new - old) * s.rate g / 1000000000 + 2
    let y := passedRows (s.rate g) old new most x
    let n := y.nextIdx - x.nextIdx
    let s := s.modGroup g (fun z => { z with nextS := y.nextS, nextK := y.nextK, nextIdx := y.nextIdx, skipped := y.skipped })
    if n = 0 then s
    else
      let s := (s.bumpBy (Reg.ALN_RG_CNT_STEP_SKIP g) n).setWridx g (s.wridx g)
      s.log 0x0505 2 (leBytes 1 g ++ leBytes 3 0 ++ leBytes 4 n)
  | none => s

/-- Every rate group's part of a step of Device Time from an instant to the present one. -/
def State.stepRows (s : State) (old : Nat) : State :=
  if old < s.now then (List.range 4).foldl (fun (s : State) g => s.stepGroup g old s.now) s else s

/-! ### Delivering values (R32, R114, R119, R126, R133) -/

/-- Takes an offset into the statistics of a stream (R126). -/
def ArrStats.take (a : ArrStats) (off : Nat) (late : Bool) : ArrStats :=
  let x := min off 0xFFFF
  { a with
    top1 := max a.top1 x
    top2 := if a.top1 ≤ x then a.top1 else max a.top2 x
    n := satNat 32 (a.n + 1)
    last := x
    late := if late then satNat 32 (a.late + 1) else a.late }

/-- Changes a stream's entry. -/
def State.modStream (s : State) (i : Nat) (f : StreamEntry → StreamEntry) : State :=
  { s with dec := { s.dec with streams := kvMod s.dec.streams i f } }

/-- Remembers the newest VALID value that a slot of each HOLD_EN channel held (R123). -/
def State.keepHolds (s : State) (g tag : Nat) (vals : List (Nat × Slot)) : State :=
  vals.foldl (fun (s : State) (v : Nat × Slot) =>
    match kvGet s.aln.chans v.1 with
    | some c =>
      if c.holdEn && hasQ v.2.q Q.valid then
        s.modGroup g (fun x =>
          let newer := match kvGet x.holds v.1 with
            | some h => decide (h.tag < tag)
            | none => true
          if newer then { x with holds := kvPut x.holds v.1 (HoldVal.mk v.2.a v.2.b v.2.q v.2.src tag) } else x)
      else s
    | none => s) s

/-- The row of an index is held in a furrow, or in its ring entry, not overwritten (R133, R139). -/
def State.rowExists (s : State) (g n : Nat) : Bool :=
  match s.group g with
  | some x =>
    x.furrows.any (fun f => f.idx == n) ||
      (s.histOn g && n < s.wridx g && s.wridx g ≤ n + s.ringDepth g && natAt (s.readDram (s.entryAddr g n) 8) 0 8 == rowTag x (s.rate g) n)
  | none => false

/-- Shows the Gleaner intake. -/
def State.showIntake (s : State) : State := s.setField Reg.ALN_GLEAN_DEPTH 12 0 s.aln.intake.length

/-- A late delivery reaches the Gleaner: its horizon and row are judged, and it enters the intake (R133). -/
def State.glean (s : State) (n : Nat) (e : GleanEntry) : State :=
  let g := e.rg
  if e.stamp - e.tag ≤ (s.reg (Reg.ALN_RG_HORIZON g)).toNat * 1000000 && s.rowExists g n then
    if s.aln.intake.length < 4096 then
      ({ s with aln := { s.aln with intake := s.aln.intake ++ [e], gleanFull := false } }).showIntake
    else
      let d := ((s.group g).map (fun x => x.gleanDrops)).getD 0 + 1
      let full := s.aln.gleanFull
      let s := (s.bump (Reg.ALN_RG_CNT_GLEAN_NOSPACE g)).modGroup g (fun x => { x with gleanDrops := d })
      let s := { s with aln := { s.aln with gleanFull := true } }
      if full then s else s.log 0x0502 2 (leBytes 1 g ++ leBytes 1 0 ++ leBytes 2 e.stream.toNat ++ leBytes 4 d)
  else s.bump (Reg.ALN_RG_CNT_GLEAN_EXPIRED g)

/-- A slot may still be written in its furrow: its section is open. -/
def State.slotOpen (s : State) (f : Furrow) (c : Nat) : Bool :=
  match kvGet s.aln.chans c with
  | some r => !f.isClosed r.sec
  | none => false

/-- The sections that hold a channel of a list. -/
def State.secsOf (s : State) (vals : List (Nat × Slot)) : List Nat :=
  (vals.filterMap (fun v => (kvGet s.aln.chans v.1).map (fun c => c.sec))).eraseDups

/-! The duplicate bitmap (R68) -/

/-- Distance in rows from a grid point to the newest tag: none where the point is newer. -/
def behind (r newest : Nat) (p : Nat × Nat) : Option Nat :=
  match gridNear r newest with
  | some q =>
    let a := p.1 * r + p.2
    let b := q.1 * r + q.2
    if a ≤ b then some (b - a) else none
  | none => none

/-- The tag of a grid point is marked in a stream's bitmap (R68). -/
def dupMarked (e : StreamEntry) (r : Nat) (p : Nat × Nat) : Bool :=
  match e.newest with
  | some n => match behind r n p with
    | some d => decide (d < 256) && e.dup.getLsbD d
    | none => false
  | none => false

/-- Marks the tag of a grid point in a stream's bitmap, moving the window where it is the newest (R68). -/
def markTag (e : StreamEntry) (r : Nat) (p : Nat × Nat) : StreamEntry :=
  let tag := gridTag r p.1 p.2
  match e.newest with
  | some n =>
    match behind r n p with
    | some d => if d < 256 then { e with dup := e.dup ||| (1 <<< d) } else e
    | none =>
      match gridNear r n with
      | some q =>
        let d := p.1 * r + p.2 - (q.1 * r + q.2)
        { e with newest := some tag, dup := (if d < 256 then e.dup <<< d else 0) ||| 1 }
      | none => { e with newest := some tag, dup := 1 }
  | none => { e with newest := some tag, dup := 1 }

/-- A stream delivers its values for a grid tag of its rate group (R27, R32, R114, R115, R120, R126, R133).  `p` is the grid point. -/
def State.deliver (s : State) (g stream stamp : Nat) (p : Nat × Nat) (vals : List (Nat × Slot)) : State :=
  match s.group g with
  | none => s
  | some x =>
    let r := s.rate g
    let tag := gridTag r p.1 p.2
    match rowIndex x r p with
    | none => (s.modStream stream (fun e => markTag e r p)).bump (Reg.ALN_RG_CNT_GLEAN_EXPIRED g)
    | some n =>
      if x.nextIdx ≤ n then s.bump (Reg.ALN_RG_CNT_FUTURE g)
      else
        let s := s.modStream stream (fun e => markTag e r p)
        let off := (arrivalOffset tag stamp).toNat
        match s.furrow g tag with
        | some f =>
          let now := vals.filter (fun v => s.slotOpen f v.1)
          let rest := vals.filter (fun v => !s.slotOpen f v.1)
          let s := (s.keepHolds g tag now).modFurrow g tag (fun f => { f with slots := now.foldl (fun l (v : Nat × Slot) => kvPut l v.1 v.2) f.slots }.recount)
          let secs := (s.secsOf vals).filter (fun sec => !f.isClosed sec)
          let s := s.modFurrow g tag (fun f => { f with delivered := f.delivered ++ secs.map (fun sec => (sec, stream)) })
          let s := s.modStream stream (fun e => { e with stats := e.stats.take off (!rest.isEmpty) })
          let s := secs.foldl (fun (s : State) sec => s.tryComplete g tag sec) s
          if rest.isEmpty then s else s.glean n (GleanEntry.mk g tag (BitVec.ofNat 16 stream) stamp false rest)
        | none =>
          (s.modStream stream (fun e => { e with stats := e.stats.take off true })).glean n
            (GleanEntry.mk g tag (BitVec.ofNat 16 stream) stamp false vals)

/-- A derived or estimated channel is written into the row of a tag, or into history when that row has retired (R26, R119). -/
def State.writeWithTq (s : State) (g tag chan : Nat) (a b : Word) (q : Half) (tq : Nat) (closure : Option Nat) : State :=
  let x := tidySlot { a := a, b := b, q := q, off := arrivalOffset tag s.now, src := 0xFFFF, tq := BitVec.ofNat 8 tq }
  match s.furrow g tag with
  | some f =>
    (s.modFurrow g tag (fun f => { f with slots := kvPut f.slots chan x }.recount)).triggerGraphs (.derived chan) tag (some (g, f.idx)) closure
  | none =>
    let s := s.bump (Reg.ALN_RG_CNT_DERIVED_LATE g)
    match s.group g with
    | some y =>
      match (gridNear (s.rate g) tag).bind (rowIndex y (s.rate g)) with
      | some n => s.glean n (GleanEntry.mk g tag 0xFFFF s.now true [(chan, x)])
      | none => s.bump (Reg.ALN_RG_CNT_GLEAN_EXPIRED g)
    | none => s

/-- The row of another rate group that a derived channel belongs to: that of the same tag in the channel's own group (R24, R26). -/
def State.rowOf (s : State) (g tag chan : Nat) : Option (Nat × Nat) :=
  match kvGet s.aln.chans chan with
  | some c => if c.rg = g then some (g, tag) else (gridNear (s.rate c.rg) tag).map (fun p => (c.rg, gridTag (s.rate c.rg) p.1 p.2))
  | none => some (g, tag)

/-- A derived channel is written with the time quality of Device Time. -/
def State.writeDerived (s : State) (g tag chan : Nat) (a b : Word) (q : Half) (closure : Option Nat) : State :=
  s.writeWithTq g tag chan a b q s.timeQuality closure

/-- A graph operator writes a derived channel into the row of its tag in the channel's own rate group; where that group's grid has no such tag nothing is written (R24, log entry 17). -/
def State.writeOwn (s : State) (g tag chan : Nat) (a b : Word) (q : Half) (closure : Option Nat) : State :=
  match s.rowOf g tag chan with
  | some (g', t) => s.writeDerived g' t chan a b q closure
  | none => s

/-- Sets a row flag, in the furrow or in the ring entry of a row that has retired (R15). -/
def State.setRowFlag (s : State) (g n tag k : Nat) : State :=
  if (s.furrow g tag).isSome then s.modFurrow g tag (fun f => { f with flags := f.flags ||| (1 <<< k) })
  else if s.rowExists g n then
    let a := s.entryAddr g n + 9
    (s.writeDram a [s.dramByte a ||| (1 <<< k)]).writeEntryCrc g n
  else s

/-- A slot of a section that another device forwarded; one that has not arrived, and one of a row that has retired there, reads MISSING (R33, R361). -/
def State.fwdSlot (s : State) (g tag chan : Nat) : Slot :=
  let l := s.hgw.fwd.filter (fun x => guestGroup x.owner x.rg == g && decide (s.now < tag + x.hg))
  ((l.filterMap (fun x => (x.rows.find? (fun r => r.1 == tag)).bind (fun r => kvGet r.2 chan))).head?).getD missingSlot

/-- The slot that a consumer sees at a tag: MISSING in an open section or a retired row (R33). -/
def State.readSlot (s : State) (g tag chan : Nat) : Slot :=
  if 4 ≤ g then s.fwdSlot g tag chan
  else match s.furrow g tag with
  | some f => s.seenIn f chan
  | none => missingSlot

/-! ### The Gleaner (R134, R135) -/

/-- Quality bits that a duplicate is compared by. -/
def coreQ (q : Half) : Half := q &&& ~~~(Q.late ||| Q.revised)

/-- What the Gleaner does with one slot of a delivery. -/
inductive GleanSlot where
  | replace | dup | conflict
  deriving DecidableEq, Repr

/-- Compares a delivered slot with the slot in the row (R134). -/
def gleanSlot (old new : Slot) : GleanSlot :=
  if hasQ old.q Q.missing || hasQ old.q Q.held then .replace
  else if old.a = new.a && old.b = new.b && coreQ old.q = coreQ new.q then .dup
  else .conflict

/-- A late slot's quality. -/
def lateSlot (x : Slot) : Slot := { x with q := x.q ||| Q.late ||| Q.revised }

/-- The next revision number (R135). -/
def nextRev (r : Half) : Half := if r = 0xFFFF then r else r + 1

/-- Event 0x0503 at most once per second per rate group (R134). -/
def State.logConflict (s : State) (e : GleanEntry) : State :=
  let sec := ((s.group e.rg).map (fun x => x.conflictSec)).getD none
  if sec = some s.second then s
  else
    let t := s.second
    (s.modGroup e.rg (fun x => { x with conflictSec := some t })).log 0x0503 1
      (leBytes 1 e.rg ++ leBytes 1 0 ++ leBytes 2 e.stream.toNat ++ leBytes 4 (e.tag % 1000000000))

/-- Slots of a delivery that the Gleaner writes, with the counts of the others (R134). -/
def State.gleanCompare (s : State) (e : GleanEntry) (old : Nat → Slot) : State × List (Nat × Slot) :=
  let put := e.slots.filter (fun v => gleanSlot (old v.1) v.2 == .replace)
  let dups := (e.slots.filter (fun v => gleanSlot (old v.1) v.2 == .dup)).length
  let conf := (e.slots.filter (fun v => gleanSlot (old v.1) v.2 == .conflict)).length
  let s := (s.bumpBy (Reg.ALN_RG_CNT_GLEAN_DUP e.rg) dups).bumpBy (Reg.ALN_RG_CNT_GLEAN_CONFLICT e.rg) conf
  ((if conf = 0 then s else s.logConflict e), put.map (fun v => (v.1, lateSlot v.2)))

/-- Counts of a delivery that revised a row: the delivery, and a revision past 0xFFFF (R135, Table 05-14). -/
def State.countRevision (s : State) (e : GleanEntry) (rev : Half) : State :=
  let s := if e.derived then s else s.bump (Reg.ALN_RG_CNT_GLEAN e.rg)
  if rev = 0xFFFF then s.bump (Reg.ALN_RG_CNT_REV_SAT e.rg) else s

/-- A revision of a row in the ring that subscribers are told of: tag, index, new revision, slots replaced. -/
structure Revision where
  entry : GleanEntry
  idx : Nat
  rev : Half
  count : Nat
  deriving DecidableEq, Repr

/-- The running cyclic program has a channel as an input. -/
def State.isCycInput (s : State) (chan : Nat) : Bool :=
  ((s.cyc.run.map (fun a => a.prog.inputs)).getD []).any (fun r => r.kind == .channel chan)

/-- What a later freeze sees of slots that the Gleaner writes into a row that has retired, where no newer row has replaced it (R270). -/
def State.reviseLatest (s : State) (g tag : Nat) (put : List (Nat × Slot)) (rev : Half) : State :=
  let own := fun (c : Nat) => (kvGet s.aln.chans c).any (fun r => r.rg == g)
  let derived := fun (c : Nat) => (kvGet s.aln.chans c).any (fun r => r.derived)
  let change := fun (x : Nat × Nat × Slot × Half) =>
    if !own x.1 then x
    else match kvGet put x.1 with
      | some v => if x.2.1 = tag || (derived x.1 && decide (x.2.1 < tag)) then (x.1, tag, v, rev) else x
      | none => if x.2.1 = tag then (x.1, tag, x.2.2.1, rev) else x
  let added := put.filter (fun v => derived v.1 && s.isCycInput v.1 && !s.cyc.latest.any (fun x => x.1 == v.1))
  { s with cyc := { s.cyc with latest := s.cyc.latest.map change ++ added.map (fun v => (v.1, tag, v.2, rev)) } }

/-- Writes a delivery into a ring entry (R135): slots, counts, revision, the next even write sequence, and the CRC word of the whole. -/
def State.gleanRing (s : State) (e : GleanEntry) (n : Nat) : State × Option Revision :=
  let a := s.entryAddr e.rg n
  let at_ := fun (s : State) (c : Nat) => a + 64 + 16 * s.position e.rg c
  let (s, put) := s.gleanCompare e (fun c => slotOf (s.readDram (at_ s c) 16))
  if put.isEmpty then (s, none)
  else
    let h := s.readDram a 64
    let gone := (put.filter (fun v => hasQ v.2.q Q.missing)).length
    let wasMissing := (put.filter (fun v => hasQ (slotOf (s.readDram (at_ s v.1) 16)).q Q.missing)).length
    let filled := natAt h 32 4 + wasMissing - gone
    let missing := natAt h 36 4 + gone - wasMissing
    let old : Half := BitVec.ofNat 16 (natAt h 10 2)
    let s := put.foldl (fun (s : State) v => s.writeDram (at_ s v.1) (slotBytes v.2)) (s.keepHolds e.rg e.tag put)
    let s := (s.writeDram (a + 10) (leBytes 2 (nextRev old).toNat)).writeDram (a + 32) (leBytes 4 filled ++ leBytes 4 missing)
    let s := s.writeDram (a + 40) (leBytes 4 (natAt h 40 4 + 2))
    let s := (((s.writeEntryCrc e.rg n).countRevision e old).pmcGlobal 0x24 1).reviseLatest e.rg e.tag put (nextRev old)
    (s, some { entry := e, idx := n, rev := nextRev old, count := put.length })

/-- The Gleaner takes the head of its intake and writes it; answers the revision of a row in the ring. -/
def State.gleanHead (s : State) : State × Option Revision :=
  match s.aln.intake with
  | [] => (s, none)
  | e :: r =>
    let s := { s with aln := { s.aln with intake := r } }.showIntake
    let n := (s.group e.rg).bind (fun x => (gridNear (s.rate e.rg) e.tag).bind (rowIndex x (s.rate e.rg)))
    match s.furrow e.rg e.tag, n with
    | some f, _ =>
      let (s, put) := s.gleanCompare e (fun c => (kvGet f.slots c).getD missingSlot)
      if put.isEmpty then (s, none)
      else
        let s := (s.keepHolds e.rg e.tag put).modFurrow e.rg e.tag (fun f => { f with
          slots := put.foldl (fun l (v : Nat × Slot) => kvPut l v.1 v.2) f.slots, rev := nextRev f.rev, wseq := f.wseq + 2 }.recount)
        ((s.countRevision e f.rev).pmcGlobal 0x24 1, none)
    | none, some n => if s.rowExists e.rg n then s.gleanRing e n else (s.bump (Reg.ALN_RG_CNT_GLEAN_EXPIRED e.rg), none)
    | none, none => (s.bump (Reg.ALN_RG_CNT_GLEAN_EXPIRED e.rg), none)

/-- The 16 bytes of a revision notice (Table 05-6). -/
def noticeBytes (v : Revision) (lost : Bool) : List Byte :=
  leBytes 8 v.entry.tag ++ leBytes 1 v.entry.rg ++ leBytes 1 (bit lost + 2 * bit v.entry.derived) ++ leBytes 2 v.rev.toNat
    ++ leBytes 2 v.entry.stream.toNat ++ leBytes 2 v.count

/-- The host's notice of a revision (R136). -/
def State.hostNotice (s : State) (v : Revision) : State :=
  let g := v.entry.rg
  let lost := s.aln.noticeLost
  if s.flag (Reg.ALN_RG_HIST_CTRL g) 6 && s.flag Reg.ALN_REV_QUEUE 7 then
    match s.qOffer (s.field Reg.ALN_REV_QUEUE 6 0) 0x10 (toWords 4 (noticeBytes v lost)) with
    | some s => { s with aln := { s.aln with noticeLost := false } }
    | none =>
      let n := ((s.group g).map (fun x => x.nLost)).getD 0 + 1
      let s := (s.bump (Reg.ALN_RG_CNT_NOTICE_LOST g)).modGroup g (fun x => { x with nLost := n })
      let s := { s with aln := { s.aln with noticeLost := true } }
      s.log 0x0508 1 (leBytes 1 g ++ leBytes 3 0 ++ leBytes 4 n)
  else s

/-! ### Adaptive deadlines (R127, R128) -/

/-- A stream's window closes at a second boundary with N ≥ 1,000 (R127). -/
def ArrStats.closeWindow (a : ArrStats) : ArrStats :=
  if a.n < 1000 then a
  else
    let p := a.top2
    { a with
      p := p
      q := if a.learning || a.q ≤ p then p else a.q - (a.q - p) / 4
      learning := false
      top1 := 0
      top2 := 0
      n := 0
      windows := satNat 32 (a.windows + 1) }

/-- Statistics of the waited-for members of a section. -/
def State.memberStats (s : State) (g sec : Nat) : List ArrStats :=
  ((s.members g sec).filter (fun e => e.2.state == .valid)).map (fun e => e.2.stats)

/-- The candidate deadline of an adaptive section in µs (R128). -/
def State.candidate (s : State) (g sec : Nat) : Nat :=
  let m := s.memberStats g sec
  let hmax := (s.reg (Reg.ALN_SEC_HMAX g sec)).toNat
  if m.isEmpty || m.any (fun a => a.learning) then hmax
  else min hmax ((m.foldl (fun q a => max q a.q) 0 + 1) * 16 + s.field (Reg.ALN_SEC_MARGIN g sec) 15 0)

/-- An adaptive section evaluates its candidate at a second boundary (R128). -/
def State.adaptSection (s : State) (g sec : Nat) : State :=
  if !s.flag (Reg.ALN_SEC_CTRL g sec) 4 then s
  else
    let c := s.candidate g sec
    let d := s.field (Reg.ALN_SEC_DEADLINE g sec) 18 0
    if c ≠ d && (s.field (Reg.ALN_SEC_MARGIN g sec) 31 16 ≤ dist c d || c = (s.reg (Reg.ALN_SEC_HMAX g sec)).toNat) then
      let b := s.second * 1000000000
      let s := s.setField (Reg.ALN_SEC_DEADLINE g sec) 18 0 c
      let s := s.modGroup g (fun x => { x with furrows := x.furrows.map (fun f =>
        if b ≤ f.tag then { f with deadlines := f.deadlines.set sec (c * 1000) } else f) })
      s.log 0x0501 0 (leBytes 1 g ++ leBytes 1 sec ++ leBytes 2 0 ++ leBytes 4 c)
    else s

/-- The alignment engine's part of a second boundary. -/
def State.adaptSecond (s : State) : State :=
  let s := { s with dec := { s.dec with streams := s.dec.streams.map (fun (e : Nat × StreamEntry) => (e.1, { e.2 with stats := e.2.stats.closeWindow })) } }
  let s := s.showLearning
  (List.range 4).foldl (fun (s : State) g =>
    if (s.group g).isSome then (List.range (s.sectionCount g)).foldl (fun (s : State) sec => s.adaptSection g sec) s else s) s

/-! ### Commits (R142, R143) -/

/-- The cause for which a group's commit is refused: 1 furrow space, 2 ring depth, 3 value range (R143). -/
def State.commitCause (s : State) (g : Nat) : Option Nat :=
  let secs := List.range (s.sectionCount g)
  let h := fun i => (s.staged (Reg.ALN_SEC_HMAX g i)).toNat
  let der := (s.staged (Reg.ALN_RG_DERIVE g)).toNat
  let hor := (s.staged (Reg.ALN_RG_HORIZON g)).toNat
  let bad := secs.any (fun i => h i < 2000 || 500000 < h i || 10000 < bitsOf (s.staged (Reg.ALN_SEC_MARGIN g i)) 31 16)
  let hg := headlandOf s.staged g (s.sectionCount g)
  let space := ((List.range 4).filter (fun k => s.groupOn k)).foldl (fun n k =>
    n + s.furrowSpace k (if k = g then hg else (s.reg (Reg.ALN_RG_HEADLAND k)).toNat)) 0
  if bad || der < 500 || 100000 < der || 60000 < hor then some 3
  else if 41943040 < space then some 1
  else if s.histOn g && s.ringDepth g < ceilRows (hor * 1000) (s.rate g) + ceilRows hg (s.rate g) + 1 then some 2
  else none

/-- The deadlines in effect follow a change of mode or of HMAX (R125). -/
def State.resetDeadline (s : State) (g sec : Nat) (wasAdaptive : Bool) : State :=
  let hmax := (s.reg (Reg.ALN_SEC_HMAX g sec)).toNat
  let d := s.field (Reg.ALN_SEC_DEADLINE g sec) 18 0
  let adaptive := s.flag (Reg.ALN_SEC_CTRL g sec) 4
  s.setField (Reg.ALN_SEC_DEADLINE g sec) 18 0 (if adaptive && wasAdaptive then min d hmax else hmax)

/-- A group's staged settings commit, or its whole commit is refused (R142, R143). -/
def State.commitAln (s : State) (g : Nat) : State :=
  if !s.flag Reg.ALN_COMMIT g then s
  else
    let s := s.setFlag Reg.ALN_COMMIT g false
    match s.commitCause g with
    | some c =>
      ((s.setFlag Reg.ALN_COMMIT_STAT g true).setField Reg.ALN_COMMIT_STAT 10 8 c).log 0x0504 1 (leBytes 1 g ++ leBytes 1 c)
    | none =>
      let secs := List.range (s.sectionCount g)
      let was := secs.map (fun i => s.flag (Reg.ALN_SEC_CTRL g i) 4)
      let s := s.commitRange (Reg.ALN_RG_CFG g) 0x1000
      let s := s.setReg (Reg.ALN_RG_HEADLAND g) (Word.ofNat (headlandOf s.reg g (s.sectionCount g)))
      (secs.foldl (fun (s : State) i => s.resetDeadline g i (was.getD i false)) s).showLearning

/-! ### The commands -/

/-- `ALN_COMMIT`: each named group commits at its next row boundary; a group that does not run has none and commits at once (R142). -/
def execAlnCommit (mask : Word) (s : State) : Host.Outcome State Fault Refusal := answer <|
  (List.range 4).foldl (fun (s : State) g =>
    if mask.getLsbD g then
      let s := s.setFlag Reg.ALN_COMMIT g true
      if (s.group g).isSome then s else s.commitAln g
    else s) s

/-- Shows the channel that ALN_CH_INDEX selects (Table 05-15). -/
def State.showChannel (s : State) : State :=
  let c := s.field Reg.ALN_CH_INDEX 17 0
  s.setReg Reg.ALN_CH_INFO (match kvGet s.aln.chans c with
    | some r => Word.ofNat (1 + r.rg * 2 + (if r.derived then 0 else r.sec * 8) + bit r.derived * 512 + bit r.holdEn * 1024
        + s.position r.rg c * 4096)
    | none => 0)

end Sys2Proof.Machine
end

