-- ==== Sys2Proof/Machine/F32.lean ====
section
/-!
DEFINITION. binary32 and binary64 arithmetic: IEEE 754's results, rounded to nearest with ties to even (PRESUMED, log entry 9); the last
bits of the functions that IEEE 754 does not require to be rounded correctly are open.
-/
namespace Sys2Proof.Machine

/-- A number m x 2^e. -/
structure Dy where
  m : Int
  e : Int
  deriving DecidableEq, Repr

namespace F32

/-- 2^n for an integer n that is not negative, else 1. -/
def pow2 (n : Int) : Int := 2 ^ n.toNat

/-- Both numbers at the smaller of their exponents. -/
def align (x y : Dy) : Int × Int × Int :=
  let e := min x.e y.e
  (x.m * pow2 (x.e - e), y.m * pow2 (y.e - e), e)

/-- Sum. -/
def dyAdd (x y : Dy) : Dy :=
  let (a, b, e) := align x y
  ⟨a + b, e⟩
/-- Difference. -/
def dySub (x y : Dy) : Dy := dyAdd x ⟨-y.m, y.e⟩
/-- Product. -/
def dyMul (x y : Dy) : Dy := ⟨x.m * y.m, x.e + y.e⟩
/-- x < y. -/
def dyLt (x y : Dy) : Bool :=
  let (a, b, _) := align x y
  decide (a < b)
/-- x ≤ y. -/
def dyLe (x y : Dy) : Bool := !dyLt y x
/-- |x|. -/
def dyAbs (x : Dy) : Dy := ⟨x.m.natAbs, x.e⟩
/-- An integer. -/
def dyInt (i : Int) : Dy := ⟨i, 0⟩

/-- The word is NaN. -/
def isNaN (w : Word) : Bool := bitsOfExp w == 255 && w.toNat % 2 ^ 23 != 0
where bitsOfExp (w : Word) : Nat := w.toNat / 2 ^ 23 % 256

/-- The word is NaN or an infinity. -/
def notFinite (w : Word) : Bool := w.toNat / 2 ^ 23 % 256 == 255

/-- The value of a finite word. -/
def val (w : Word) : Dy :=
  let e : Nat := w.toNat / 2 ^ 23 % 256
  let f : Nat := w.toNat % 2 ^ 23
  let m : Nat := if e = 0 then f else f + 2 ^ 23
  ⟨if w.getLsbD 31 then -(m : Int) else (m : Int), (if e = 0 then -149 else (e : Int) - 150)⟩

/-- Plus or minus infinity. -/
def infinity (neg : Bool) : Word := if neg then 0xFF800000#32 else 0x7F800000#32

/-- The bits of m x 2^q for |m| < 2^24 with q at least −149, normal or subnormal. -/
def pack (neg : Bool) (m : Nat) (q : Int) : Word :=
  let b := if m < 2 ^ 23 then m else (m - 2 ^ 23) + (q + 150).toNat * 2 ^ 23
  BitVec.ofNat 32 (b + (if neg then 2 ^ 31 else 0))

/-- n / 2^k rounded to nearest, ties to even. -/
def roundShift (n k : Nat) : Nat :=
  let q := n / 2 ^ k
  let r := 2 * (n % 2 ^ k)
  if r < 2 ^ k || (r == 2 ^ k && q % 2 == 0) then q else q + 1

/-- A number rounded to binary32: an infinity from 2^128 on, subnormal below 2^−126. -/
def ofDy (x : Dy) : Word :=
  let n := x.m.natAbs
  if n = 0 then 0
  else
    let top : Int := (Nat.log2 n : Int) + x.e
    let q := max (top - 23) (-149)
    if 128 ≤ top then infinity (x.m < 0)
    else pack (x.m < 0) (if q ≤ x.e then n * 2 ^ (x.e - q).toNat else roundShift n (q - x.e).toNat) q

/-- A number rounded to 53 significant bits: binary64, whose exponents the device's quantities do not reach the ends of. -/
def round64 (x : Dy) : Dy :=
  let k := Nat.log2 x.m.natAbs - 52
  if k = 0 then x else
    let m : Int := roundShift x.m.natAbs k
    ⟨if x.m < 0 then -m else m, x.e + k⟩

/-- n / d with 64 bits beyond the leading one and a last bit that stands for all the rest, so that rounding it rounds the quotient. -/
def quot (n : Int) (d : Nat) : Dy :=
  let k := Nat.log2 d + 64
  let a := n.natAbs * 2 ^ k
  let m : Int := 2 * (a / d : Nat) + (if a % d = 0 then 0 else 1)
  ⟨if n < 0 then -m else m, -((k : Int) + 1)⟩

/-- A quotient of integers as binary32. -/
def ofRat (n : Int) (d : Nat) : Word := if d = 0 then 0 else ofDy (quot n d)

/-- The integer square root of n < 4^k, by its bits from the highest. -/
def isqrt (n : Nat) : Nat → Nat → Nat
  | 0, r => r
  | k + 1, r => isqrt n k (if (r + 2 ^ k) * (r + 2 ^ k) ≤ n then r + 2 ^ k else r)

/-- The square root of a number that is not negative, with a last bit that stands for all the rest. -/
def root (x : Dy) : Dy :=
  let e := if x.e % 2 = 0 then x.e else x.e - 1
  let n := (if x.e % 2 = 0 then x.m.natAbs else 2 * x.m.natAbs) * 2 ^ 128
  let r := isqrt n (Nat.log2 n / 2 + 1) 0
  ⟨2 * (r : Int) + (if r * r = n then 0 else 1), e / 2 - 65⟩

/-- The square root as binary64. -/
def sqrt64 (x : Dy) : Dy := round64 (root x)

/-- An integer as binary32. -/
def ofInt (i : Int) : Word := ofDy (dyInt i)

/-- −x. -/
def neg (w : Word) : Word := w ^^^ 0x80000000#32
/-- |x|. -/
def abs (w : Word) : Word := w &&& 0x7FFFFFFF#32

/-- A quiet NaN, its payload open. -/
def nan (x y : Word) : Word := Config.nanOp x y ||| 0x7FC00000#32
/-- The sign of a product or quotient. -/
def signs (x y : Word) : Bool := x.getLsbD 31 != y.getLsbD 31
/-- Zero with a sign. -/
def zero (neg : Bool) : Word := if neg then 0x80000000#32 else 0
/-- The value of a finite word is zero. -/
def isZero (w : Word) : Bool := w.toNat % 2 ^ 31 == 0

/-- x + y. -/
def add (x y : Word) : Word :=
  if isNaN x || isNaN y then nan x y
  else if notFinite x then (if notFinite y && x != y then nan x y else x)
  else if notFinite y then y
  else if isZero x && isZero y then x &&& y
  else ofDy (dyAdd (val x) (val y))
/-- x − y. -/
def sub (x y : Word) : Word := if isNaN y then nan x y else add x (y ^^^ 0x80000000#32)
/-- x × y. -/
def mul (x y : Word) : Word :=
  if isNaN x || isNaN y then nan x y
  else if notFinite x || notFinite y then (if isZero x || isZero y then nan x y else infinity (signs x y))
  else if isZero x || isZero y then zero (signs x y)
  else ofDy (dyMul (val x) (val y))
/-- x / y. -/
def div (x y : Word) : Word :=
  if isNaN x || isNaN y then nan x y
  else if notFinite x then (if notFinite y then nan x y else infinity (signs x y))
  else if notFinite y then zero (signs x y)
  else if isZero y then (if isZero x then nan x y else infinity (signs x y))
  else if isZero x then zero (signs x y)
  else
    let a := val x
    let b := val y
    let q := quot (if b.m < 0 then -a.m else a.m) b.m.natAbs
    ofDy ⟨q.m, q.e + a.e - b.e⟩

/-- x < y; false where either is not a number. -/
def lt (x y : Word) : Bool :=
  if isNaN x || isNaN y then false
  else if notFinite x && notFinite y then x != y && x == infinity true
  else if notFinite x then x == infinity true
  else if notFinite y then y == infinity false
  else dyLt (val x) (val y)
/-- x ≤ y. -/
def le (x y : Word) : Bool := !isNaN x && !isNaN y && !lt y x
/-- x = y as numbers. -/
def eq (x y : Word) : Bool := le x y && le y x

/-- Larger of two. -/
def max (x y : Word) : Word := if lt x y then y else x
/-- Smaller of two. -/
def min (x y : Word) : Word := if lt y x then y else x

/-- Square root. -/
def sqrt (x : Word) : Word :=
  if isZero x || x = infinity false then x
  else if isNaN x || x.getLsbD 31 then nan x x
  else ofDy (root (val x))

/-- a² + b² of finite parts, exactly. -/
def magSq (a b : Word) : Dy := dyAdd (dyMul (val a) (val a)) (dyMul (val b) (val b))

/-- |a + jb| < x for a finite x. -/
def magLt (a b x : Word) : Bool := 0 < (val x).m && dyLt (magSq a b) (dyMul (val x) (val x))

/-- |a + jb| > x for a finite x. -/
def magGt (a b x : Word) : Bool := (val x).m < 0 || dyLt (dyMul (val x) (val x)) (magSq a b)

/-- |a + jb|. -/
def mag (a b : Word) : Word :=
  if b = 0 then abs a else if a = 0 then abs b
  else if notFinite a || notFinite b then (if isNaN a || isNaN b then nan a b else infinity false)
  else ofDy (root (magSq a b))

/-- arg(a + jb) in radians: 0 on the positive real axis, else open in its rounding. -/
def arg (a b : Word) : Word := if b = 0 && a.toNat < 2 ^ 31 then 0 else Config.arg32 a b

/-- Complex product. -/
def cmul (a b c d : Word) : Word × Word := (sub (mul a c) (mul b d), add (mul a d) (mul b c))

end F32

end Sys2Proof.Machine
end

