-- ==== Sys2Proof/Machine/Phasor.lean ====
section
/-!
DEFINITION. The phasor estimators of R156, operation by operation in binary32 as the rule's listing gives them.
-/
namespace Sys2Proof.Machine

/-- π as binary32. -/
def pi32 : Word := 0x40490FDB
/-- 2π as binary32. -/
def twoPi32 : Word := 0x40C90FDB
/-- 4,800 as binary32: FS. -/
def fs32 : Word := 0x45960000

namespace F32

/-- Sum of complex numbers. -/
def cadd (a b : Word × Word) : Word × Word := (add a.1 b.1, add a.2 b.2)
/-- A real number times a complex one. -/
def cscale (k : Word) (z : Word × Word) : Word × Word := (mul k z.1, mul k z.2)
/-- Quotient of complex numbers. -/
def cdiv (a b : Word × Word) : Word × Word :=
  let d := add (mul b.1 b.1) (mul b.2 b.2)
  let n := cmul a.1 a.2 b.1 (neg b.2)
  (div n.1 d, div n.2 d)
/-- An angle brought into (−π, π]. -/
def wrap (x : Word) : Word := if lt pi32 x then sub x twoPi32 else if le x (neg pi32) then add x twoPi32 else x
/-- −x, x² and products of several factors, from the left. -/
def prod (l : List Word) : Word := l.tail.foldl mul (l.headD 0)

end F32

/-- z(n): the sample of grid index j within its second, demodulated against a cosine of f0. -/
def demod (f0 j : Nat) (x : Word) : Word × Word :=
  let a := F32.div (F32.prod [0xC0000000, pi32, F32.ofInt f0, F32.ofInt j]) fs32
  let k := Config.cosSinRad a
  (F32.mul x k.1, F32.mul x k.2)

/-- z(c + m) for m from −h to h, from the 2h + 1 samples around index c of the second. -/
def demodAll (f0 c h : Nat) (xs : List Word) : List (Word × Word) :=
  xs.mapIdx (fun i x => demod f0 ((c + 9600 + i - h) % 4800) x)

/-- Σ of weighted values, from the first on. -/
def csum (l : List (Word × (Word × Word))) : Word × Word := l.foldl (fun s p => F32.cadd s (F32.cscale p.1 p.2)) (0, 0)

/-- rect of R156: one cycle of z from offset lo to hi with half weight at both ends, of the values for offsets −h to h. -/
def rectWindow (h : Nat) (zs : List (Word × Word)) (lo n : Nat) : Word × Word :=
  let l := (zs.drop lo).take (n + 1)
  let s := csum (l.mapIdx (fun i z => (if i = 0 || i = n then 0x3F000000 else 0x3F800000, z)))
  F32.cscale (F32.div (F32.sqrt 0x40000000) (F32.ofInt (if n = 0 then h else n))) s

/-- P-class phasor, frequency and ROCOF (R156), from the samples c − h to c + h; those of a phasor of exactly 0 are not numbers (R155). -/
def pClass (f0 c : Nat) (xs : List Word) : (Word × Word) × (Word × Word) :=
  let h := 4800 / f0
  let zs := demodAll f0 c h xs
  let hf := F32.ofInt h
  let f := F32.ofInt f0
  let s := csum (zs.mapIdx (fun i z => (F32.sub 0x3F800000 (F32.div (F32.ofInt (((i : Int) - h).natAbs : Int)) hf), z)))
  let x := F32.cscale (F32.div (F32.sqrt 0x40000000) hf) s
  let a := rectWindow h zs 0 h
  let b := rectWindow h zs (h / 2) h
  let d := rectWindow h zs h h
  let zero := [x, a, b, d].any (fun z => F32.isZero z.1 && F32.isZero z.2)
  let d1 := F32.wrap (F32.sub (F32.arg b.1 b.2) (F32.arg a.1 a.2))
  let d2 := F32.wrap (F32.sub (F32.arg d.1 d.2) (F32.arg b.1 b.2))
  (x, if zero then (F32.infinity false, F32.infinity false)
      else (F32.add f (F32.div (F32.mul (F32.add d1 d2) f) twoPi32), F32.div (F32.prod [F32.sub d2 d1, 0x40000000, f, f]) pi32))

/-- M-class phasor, frequency and ROCOF (R156), from the samples c − h to c + h. -/
def mClass (f0 rm c : Nat) (xs : List Word) : (Word × Word) × (Word × Word) :=
  let h := max (9600 / max 1 rm) (4800 / f0)
  let k := F32.div pi32 (F32.ofInt h)
  let zs := demodAll f0 c h xs
  let trig := fun (i : Nat) => Config.cosSinRad (F32.mul k (F32.ofInt ((i : Int) - h)))
  let half : Word := 0x3F000000
  let s0 := csum (zs.mapIdx (fun i z => (F32.add half (F32.mul half (trig i).1), z)))
  let s1 := csum (zs.mapIdx (fun i z => (F32.prod [half, k, fs32, (trig i).2], z)))
  let s2 := csum (zs.mapIdx (fun i z => (F32.prod [F32.neg half, k, k, fs32, fs32, (trig i).1], z)))
  let u := F32.cdiv s1 s0
  let v := F32.cdiv s2 s0
  (F32.cscale (F32.div (F32.sqrt 0x40000000) (F32.ofInt h)) s0,
   (F32.add (F32.ofInt f0) (F32.div u.2 twoPi32), F32.div (F32.sub v.2 (F32.prod [0x40000000, u.1, u.2])) twoPi32))

end Sys2Proof.Machine
end

