-- ==== Sys2Proof/Machine/Wave.lean ====
section
/-!
DEFINITION. The Strainer (06_waveforms_and_phasors.md): its chain, estimators, detectors, outputs, resets and local inputs.
-/
namespace Sys2Proof.Machine

/-! ### Exact numbers -/

/-- m x 2^e / d as binary32. -/
def dyOver (x : Dy) (d : Nat) : Word := if 0 ≤ x.e then F32.ofRat (x.m * F32.pow2 x.e) d else F32.ofRat x.m (d * (F32.pow2 (-x.e)).toNat)

/-- Σ x, exactly. -/
def dySum (l : List Dy) : Dy := l.foldl F32.dyAdd ⟨0, 0⟩

/-! ### Sample quality (R155) -/

/-- Flags that a result takes from its span. -/
def spanFlags : Half := Q.syncLost ||| Q.timeSuspect ||| Q.test ||| Q.range ||| Q.authFail ||| Q.alarm

/-- The quality of a result over its span: the union of flags, and VALID where every sample had it. -/
def spanQ (l : List WSample) : Half :=
  let f := l.foldl (fun q x => q ||| (x.q &&& (spanFlags ||| Q.settling))) 0
  if l.all (fun x => hasQ x.q Q.valid) && !hasQ f Q.settling then f ||| Q.valid else f

/-- The largest time-quality code of a span. -/
def spanTq (l : List WSample) : Nat := l.foldl (fun m x => max m x.tq) 0

/-- The latest stamp of a span. -/
def spanStamp (l : List WSample) : Nat := l.foldl (fun m x => max m x.stamp) 0

/-- The time of the 4,800 S/s grid sample of an index (R151). -/
def gridInstant (g : Nat) : Nat := g / 4800 * 1000000000 + (g % 4800 * 1000000000 + 2400) / 4800

/-- The index of the first grid sample at or after a time. -/
def gridFrom (t : Nat) : Nat :=
  let j := (t % 1000000000) * 4800 / 1000000000
  let g := t / 1000000000 * 4800 + j
  if t ≤ gridInstant g then g else g + 1

/-! ### A channel's settings -/

/-- A waveform channel. -/
def State.wch (s : State) (c : Nat) : WavChan := (kvGet s.wav.chans c).getD {}

/-- Sets a waveform channel. -/
def State.setWch (s : State) (c : Nat) (x : WavChan) : State := { s with wav := { s.wav with chans := kvPut s.wav.chans c x } }

/-- The SV stream that assigns a channel (R146). -/
def State.svOf (s : State) (c : Nat) : Option (Nat × StreamEntry) :=
  s.dec.streams.find? (fun e => (e.2.cfg.typ == .sv92 || e.2.cfg.typ == .sv61869 || e.2.cfg.typ == .rsv) && inStream e.2.cfg c)

/-- F_fin as a quotient: the stream's rate, or 3,906,250 / 64 for a local channel (R148). -/
def State.finRate (s : State) (c : Nat) : Nat × Nat :=
  if 8192 ≤ c then (3906250, 64) else ((s.svOf c).elim 1 (fun e => e.2.cfg.rate), 1)

/-- What the chain of a channel needs: F_fin = num / den, M, δ x 1,024, G_cic in ns, and the taps. -/
structure Chain where
  num : Nat
  den : Nat
  m : Nat
  delta : Int
  gcic : Nat
  taps : List Word

/-- δ x 1,024 of a DELAY word. -/
def deltaOf (w : Word) : Int := (w.setWidth 18).toInt

/-- All 32M + 1 taps of a coefficient set (R149, R168). -/
def allTaps (k : CoefSet) : List Word := k.taps.take (16 * k.m + 1) ++ (k.taps.take (16 * k.m)).reverse

/-- The chain of a channel. -/
def State.chain (s : State) (c : Nat) : Chain :=
  let (n, d) := s.finRate c
  let w := s.reg (Reg.WAV_CH_DECIM c)
  { num := n, den := d, m := max 1 (bitsOf w 12 0), delta := deltaOf (s.reg (Reg.WAV_CH_DELAY c))
    gcic := if 8192 ≤ c then 40320 else 0
    taps := ((s.wav.coefs[bitsOf w 19 16]?).map allTaps).getD [] }

/-- Units of assigned times in a ns. -/
def Chain.scale (k : Chain) : Nat := 1024 * k.num

/-- 1 / F_d in those units. -/
def Chain.period (k : Chain) : Nat := 1000000000 * k.den * k.m * 1024

/-- t_a of a decimated sample from the time of its last FIR input (R150). -/
def Chain.assign (k : Chain) (t : Int) : Int :=
  (t - k.gcic) * k.scale - (16384 + k.delta) * (1000000000 * k.den * k.m)

/-- t_a(33) from the time of the first FIR input after a reset (R162). -/
def Chain.settleEnd (k : Chain) (t0 : Int) : Int :=
  (t0 - k.gcic) * k.scale + (18432 - k.delta) * (1000000000 * k.den * k.m) - 1000000000 * k.den * 1024

/-- D of R162. -/
def settleCount (tR : Nat) (k : Chain) (t0 : Int) : Nat :=
  let e := k.settleEnd t0 / k.scale
  let up := if k.settleEnd t0 % k.scale = 0 then e else e + 1
  gridFrom up.toNat - gridFrom tR

/-- Nominal frequency. -/
def State.wavF0 (s : State) (c : Nat) : Nat := if s.flag (Reg.WAV_CH_CTRL c) 4 then 60 else 50

/-- CTRL (0), ENV_TC (1), SCALE (2) or OFFSET (3) of a channel, as its next sample takes it (R167). -/
def State.wavSet (s : State) (c k : Nat) : Word :=
  match (s.wch c).old with
  | some (_, l) => l.getD k 0
  | none => s.reg ([Reg.WAV_CH_CTRL c, Reg.WAV_CH_ENV_TC c, Reg.WAV_CH_SCALE c, Reg.WAV_CH_OFFSET c].getD k 0)

/-- From the first sample with t_in at or after a commit point, a channel takes the values committed there (R167). -/
def State.dropOld (s : State) (c : Nat) (t : Int) : State :=
  let x := s.wch c
  match x.old with
  | some (u, _) => if t < (u : Int) then s else s.setWch c { x with old := none }
  | none => s

/-- Half-length of the P-class window (Table 06-3). -/
def pHalf (f0 : Nat) : Nat := 4800 / f0

/-- Half-length of the M-class window (Table 06-3). -/
def mHalf (f0 rm : Nat) : Nat := max (9600 / max 1 rm) (4800 / f0)

/-- Reach of an item of a kind on a channel, in grid samples (R152). -/
def State.reach (s : State) (c kind : Nat) : Nat :=
  if kind ≤ 1 then pHalf (s.wavF0 c)
  else if kind ≤ 3 then mHalf (s.wavF0 c) (s.field (Reg.WAV_CH_CTRL c) 23 16) else 0

/-! ### Results (R156 to R160, R163) -/

/-- The sample of a channel at a grid index, if it was produced since the last reset. -/
def WavChan.at_ (x : WavChan) (g : Nat) : Option WSample := (x.grid.find? (fun p => p.1 == g)).map (fun p => p.2)

/-- What the estimators and detectors see of a channel: nothing from before its last reset (R163). -/
def WavChan.sinceReset (x : WavChan) : WavChan := { x with grid := x.grid.filter (fun p => decide (x.nR ≤ p.1)) }

/-- The first index from n on at which a channel has an output, or its next one. -/
def WavChan.firstFrom (x : WavChan) (n : Nat) : Nat :=
  (x.grid.map (fun p => p.1)).foldl (fun m g => if n ≤ g then min m g else m) (x.nextG.getD 0)

/-- Samples from index a, n of them; one that was not produced counts as 0 (R163). -/
def WavChan.span (x : WavChan) (a : Int) (n : Nat) : List (Option WSample) :=
  (List.range n).map (fun (i : Nat) => let g : Int := a + (i : Int); if g < 0 then none else x.at_ g.toNat)

/-- Values of a span. -/
def spanVals (l : List (Option WSample)) : List Word := l.map (fun x => (x.map (fun y => y.v)).getD 0)

/-- Σ x² / n as binary32's square root. -/
def rmsOf (l : List Word) : Word :=
  if l.isEmpty then 0
  else if l.any F32.isNaN then F32.nan 0 0
  else if l.any F32.notFinite then F32.infinity false
  else F32.sqrt (dyOver (dySum (l.map (fun w => F32.dyMul (F32.val w) (F32.val w)))) l.length)

/-- The largest |x| of a span and the value at its earliest place. -/
def peakOf : List Word → Word × Word
  | [] => (0, 0)
  | [w] => (F32.abs w, w)
  | w :: r => let (m, v) := peakOf r; if F32.lt (F32.abs w) m then (m, v) else (F32.abs w, w)

/-- A result: values, quality and time quality; a value that is not finite is 0 with RANGE (R155). -/
def finish (v : Word × Word) (q : Half) (tq : Nat) : (Word × Word) × Half × Nat :=
  if F32.notFinite v.1 || F32.notFinite v.2 then ((0, 0), (q ||| Q.range) &&& ~~~Q.valid, tq) else (v, q, tq)

/-- Marks SETTLING, which clears VALID. -/
def settle (b : Bool) (q : Half) : Half := if b then (q ||| Q.settling) &&& ~~~Q.valid else q

/-- Half-cycle RMS at an index. -/
def halfRms (x : WavChan) (n1 : Nat) (c : Int) : Word := rmsOf (spanVals (x.span (c - (n1 / 2 : Nat) + 1) (n1 / 2)))

/-- One item of kind 0 to 7 on a channel for index c, with r the rate of the output's group. -/
def State.itemResult (s : State) (x : WavChan) (ch kind c r : Nat) : (Word × Word) × Half × Nat :=
  let f0 := s.wavF0 ch
  let n1 := 4800 / f0
  let d := x.nR + x.d.getD 0
  let int := 4800 / max 1 r
  let win := fun (a : Int) (n : Nat) => x.span a n
  let fin := fun (v : Word × Word) (w : List (Option WSample)) (st : Bool) =>
    let l := w.filterMap id
    finish v (settle st (spanQ l &&& ~~~Q.settling)) (spanTq l)
  if kind ≤ 3 then
    let h := s.reach ch kind
    let w := win ((c : Int) - h) (2 * h + 1)
    let (ph, fr) := if kind ≤ 1 then pClass f0 (c % 4800) (spanVals w)
      else mClass f0 (s.field (Reg.WAV_CH_CTRL ch) 23 16) (c % 4800) (spanVals w)
    fin (if kind % 2 = 0 then ph else fr) w (decide (c < d + h))
  else if kind = 4 then
    let w := win ((c : Int) - n1 + 1) n1
    fin (rmsOf (spanVals w), halfRms x n1 c) w (decide (c + 1 < d + n1))
  else if kind = 5 then
    let vs := (List.range int).map (fun (i : Nat) => halfRms x n1 ((c : Int) - (int : Int) + 1 + (i : Int)))
    let w := win ((c : Int) - int - (n1 / 2 : Nat) + 2) (int + n1 / 2 - 1)
    fin (vs.foldl F32.min (vs.headD 0), vs.foldl F32.max (vs.headD 0)) w (decide (c + 2 < d + int + n1 / 2))
  else if kind = 6 then
    let w := win ((c : Int) - int + 1) int
    fin (peakOf (spanVals w)) w (decide (c + 1 < d + int))
  else
    let tau := bitsOf (s.wavSet ch 1) 13 0
    let w := win c 1
    fin (((x.at_ c).map (fun y => y.env)).getD 0, 0) w (decide (c < d + (4800 * tau + 999) / 1000))

/-- The slots of an item for index c (R159, R160). -/
def State.itemSlots (s : State) (i : ItemRec) (c r : Nat) : List ((Word × Word) × Half × Nat) :=
  let x := (s.wch i.chan).sinceReset
  if i.kind = 8 then
    let n := 4800 / max 1 i.div / max 1 r
    (List.range n).map (fun k =>
      let g : Int := (c : Int) - ((n - 1 - k) * i.div : Nat)
      match (if g < 0 then none else x.at_ g.toNat) with
      | some y => finish (y.v, 0) y.q y.tq
      | none => ((0, 0), settle true 0, 0))
  else [s.itemResult x i.chan i.kind c r]

/-- The latest grid sample that an item needs has been produced, or will never be. -/
def State.itemReady (s : State) (i : ItemRec) (c : Nat) : Bool :=
  match (s.wch i.chan).nextG with
  | some n => decide (c + s.reach i.chan i.kind < n)
  | none => false

/-- The internal stream of an output (R159). -/
def State.outStream (s : State) (o : Nat) : Option (Nat × StreamEntry) :=
  s.dec.streams.find? (fun e => e.2.cfg.typ == .internal && e.2.cfg.key == .internal (BitVec.ofNat 16 o) && e.2.state == .valid)

/-- A result that a GAP reset found pending with its window wholly before n_r: it is discarded (R163). -/
def State.itemGone (s : State) (i : ItemRec) (c : Nat) : Bool := decide (c + s.reach i.chan i.kind < (s.wch i.chan).gapN)

/-- Places of the items' slots in an output, in item order (R159). -/
def itemPlaces (r : Nat) (items : List ItemRec) : List (Nat × ItemRec) :=
  items.foldl (fun (l : List (Nat × ItemRec)) (i : ItemRec) =>
    let k := match l.getLast? with
      | some (k, j) => k + (if j.kind = 8 then 4800 / max 1 j.div / max 1 r else 1)
      | none => 0
    l ++ [(k, i)]) []

/-- Writes all slots of an output for a tag, in item order from the stream's channel base, but those of results that a GAP reset discarded (R159, R163). -/
def State.writeOutput (s : State) (o : WavOutRec) (n : Nat) : State :=
  let r := max 1 (s.rate o.rg)
  let c := n * (4800 / r)
  let p := (n / r, n % r)
  match s.outStream o.id with
  | some (i, e) =>
    let tag := gridTag r p.1 p.2
    let t := s.now
    let live := (itemPlaces r o.items).filter (fun x => !s.itemGone x.2 c)
    let mk := fun (k : Nat) (v : (Word × Word) × Half × Nat) =>
      (e.cfg.chanBase + k, Slot.mk v.1.1 v.1.2 v.2.1 (arrivalOffset tag t) (BitVec.ofNat 16 i) (BitVec.ofNat 8 v.2.2))
    let vals := (live.map (fun x => (s.itemSlots x.2 c r).mapIdx (fun k v => mk (x.1 + k) v))).flatten
    if vals.isEmpty then s else s.deliver o.rg i t p vals
  | none => s

/-- Writes every result of an output that is ready, tag after tag. -/
def State.runOutput (o : WavOutRec) : Nat → Nat → State → Nat × State
  | 0, n, s => (n, s)
  | k + 1, n, s =>
    if o.items.all (fun i => s.itemReady i (n * (4800 / max 1 (s.rate o.rg)))) then runOutput o k (n + 1) (s.writeOutput o n) else (n, s)

/-- Writes the results of every output that names a channel. -/
def State.runOutputs (s : State) (c : Nat) : State :=
  s.wav.outs.foldl (fun (s : State) o =>
    if o.1.items.any (fun i => i.chan == c) then
      let next := ((s.wav.outs.find? (fun x => x.1.id == o.1.id)).map (fun x => x.2)).getD o.2
      let (n, s) := State.runOutput o.1 512 next s
      { s with wav := { s.wav with outs := s.wav.outs.map (fun (x : WavOutRec × Nat) => if x.1.id = o.1.id then (x.1, n) else x) } }
    else s) s

/-! ### The chain (R149 to R151) -/

/-- A combination of samples at a time with a value. -/
def joinSamples (t : Int) (v : Word) (l : List WSample) : WSample :=
  { t := t, v := v, q := spanQ l, tq := spanTq l, stamp := spanStamp l }

/-- Stage 2: a decimated sample from the FIR inputs, newest first. -/
def firOut (k : Chain) (l : List WSample) : Word :=
  if l.any (fun x => F32.notFinite x.v) then F32.nan 0 0
  else F32.ofDy (dySum ((l.zip k.taps).map (fun p => F32.dyMul (F32.val p.1.v) (F32.val p.2))))

/-- Stage 4: the cubic Lagrange interpolation through samples i − 1 to i + 2 at μ = p / q (R151). -/
def lagrange (x0 x1 x2 x3 : Word) (p q : Int) : Word :=
  if [x0, x1, x2, x3].any F32.notFinite then F32.nan 0 0
  else
    let w0 := -(p * (p - q) * (p - 2 * q))
    let w1 := 3 * (p + q) * (p - q) * (p - 2 * q)
    let w2 := -(3 * (p + q) * p * (p - 2 * q))
    let w3 := (p + q) * p * (p - q)
    let sum := dySum [F32.dyMul (F32.val x0) ⟨w0, 0⟩, F32.dyMul (F32.val x1) ⟨w1, 0⟩, F32.dyMul (F32.val x2) ⟨w2, 0⟩, F32.dyMul (F32.val x3) ⟨w3, 0⟩]
    dyOver sum (6 * q * q * q).toNat

/-- exp(−1 / (4,800 τ)) for τ in ms (R158). -/
def decayFactor (ms : Nat) : Word := Config.exp32 (F32.ofRat (-10) (48 * ms))

/-- Appends a grid output: SETTLING for the first D after a reset, and the envelope (R158, R162). -/
def State.pushGrid (s : State) (c g : Nat) (y : WSample) : State :=
  let x := s.wch c
  let st := decide (g < x.nR + x.d.getD 0)
  let e := F32.max (F32.abs y.v) (if F32.isZero x.env then 0 else F32.mul x.env (decayFactor (bitsOf (s.wavSet c 1) 13 0)))
  let y := { y with q := settle st y.q, env := e }
  let s := s.setWch c { x with grid := ((g, y) :: x.grid).take 24000, nextG := some (g + 1), env := e }
  s.setFlag (Reg.WAV_CH_STATUS c) 0 st

/-- Produces the grid outputs before a time in scaled units, from the last four decimated samples. -/
def State.resample (k : Chain) (c : Nat) : Nat → State → State
  | 0, s => s
  | n + 1, s =>
    let x := s.wch c
    match x.nextG, x.dec with
    | some g, [d3, d2, d1, d0] =>
      let t : Int := gridInstant g * k.scale
      if t < d2.t then
        let y := if t < d1.t then joinSamples t 0 []
          else joinSamples t (lagrange d0.v d1.v d2.v d3.v (t - d1.t) (d2.t - d1.t)) [d0, d1, d2, d3]
        resample k c n (s.pushGrid c g { y with t := gridInstant g })
      else s
    | _, _ => s

/-- A sample enters stage 2. -/
def State.firIn (s : State) (c : Nat) (w : WSample) : State :=
  let k := s.chain c
  let x := s.wch c
  let s := if x.d.isNone then s.setFlag (Reg.WAV_CH_STATUS c) 0 (decide (settleCount x.tR k w.t ≠ 0)) else s
  let x := if x.d.isNone then
      { x with d := some (settleCount x.tR k w.t) } else x
  let fir := (w :: x.fir).take (32 * k.m + 1)
  let s := s.setField (Reg.WAV_CH_SETTLE c) 15 0 (x.d.getD 0)
  if x.phase + 1 < k.m then s.setWch c { x with fir := fir, phase := x.phase + 1 }
  else
    let y := joinSamples (k.assign w.t) (firOut k fir) fir
    let zero := fun (n : Nat) => joinSamples (y.t - (n * k.period : Nat)) 0 []
    let old := if x.dec.isEmpty then [zero 1, zero 2, zero 3] else x.dec
    (s.setWch c { x with fir := fir, phase := 0, dec := (y :: old).take 4 }).resample k c 400

/-! ### Resets (R161 to R163) -/

/-- The first tag of an output none of whose results is discarded whole: an output with items of other channels keeps its place. -/
def State.keepFrom (s : State) (o : WavOutRec) (c nR next : Nat) : Nat :=
  let step := 4800 / max 1 (s.rate o.rg)
  let reaches := o.items.map (fun i => s.reach c i.kind)
  if o.items.all (fun i => i.chan == c) then max next ((nR - reaches.foldl max 0 + step - 1) / max 1 step) else next

/-- Results of an output on a channel, from a tag on, whose window ends before n_r. -/
def State.abandoned (s : State) (o : WavOutRec) (c nR next : Nat) : Nat :=
  let step := 4800 / max 1 (s.rate o.rg)
  ((o.items.filter (fun i => i.chan == c)).map (fun i => (nR - s.reach c i.kind + step - 1) / max 1 step - next)).foldl (· + ·) 0

/-- Discards the pending results of a channel whose window ends before n_r; answers how many there were (R163). -/
def State.abandon (s : State) (c nR : Nat) : Nat × State :=
  let hit := s.wav.outs.filter (fun o => o.1.items.any (fun i => i.chan == c))
  let n := (hit.map (fun o => s.abandoned o.1 c nR o.2)).foldl (· + ·) 0
  let s := s.setWch c { s.wch c with gapN := nR }
  (n, { s with wav := { s.wav with outs := s.wav.outs.map (fun (o : WavOutRec × Nat) =>
    if o.1.items.any (fun i => i.chan == c) then (o.1, s.keepFrom o.1 c nR o.2) else o) } })

/-- The state of stages 1 to 6 of a channel becomes zero at t_r (R162). -/
def State.zeroChain (s : State) (c tR cause : Nat) : State :=
  let n := gridFrom tR
  let x := s.wch c
  let s := s.setWch c { lastT := x.lastT, lastArr := x.lastArr, grid := x.grid.filter (fun p => decide (p.1 < n)), nextG := some n, nR := n, tR := tR, old := x.old, gapN := x.gapN
                        good := if cause = 1 || cause = 4 then x.good else none }
  (s.setReg (Reg.WAV_CH_SETTLE c) (Word.ofNat (cause * 65536))).setFlag (Reg.WAV_CH_STATUS c) 0 false

/-- Shows how many channels settle. -/
def State.showSettling (s : State) : State :=
  s.setField Reg.WAV_STATUS 13 0 ((s.wav.chans.filter (fun p => s.flag (Reg.WAV_CH_STATUS p.1) 0)).length)

/-- A GAP or CONFIG reset of one channel (R161, R163). -/
def State.resetChannel (s : State) (c tR cause gap : Nat) : State :=
  let s := s.zeroChain c tR cause
  let s := (s.bump (Reg.WAV_CH_CNT_RESET c)).log 0x0602 1 (leBytes 2 c ++ leBytes 1 cause ++ leBytes 1 0 ++ leBytes 4 gap)
  if cause = 3 then
    let (n, s) := s.abandon c (gridFrom tR)
    if n = 0 then s
    else ((s.bumpBy (Reg.WAV_CH_CNT_ABANDON c) n).bumpBy Reg.WAV_CNT_ABANDON n).log 0x0605 1 (leBytes 2 c ++ leBytes 2 0 ++ leBytes 4 n)
  else s

/-- Channels enabled. -/
def State.wavEnabled (s : State) : List Nat := (s.wav.chans.filter (fun p => s.flag (Reg.WAV_CH_CTRL p.1) 0)).map (fun p => p.1)

/-- A SYNC or STEP reset shows itself: event 0x0601, WAV_SYNC_LAST and the count; a SYNC reset that was armed ends ARM (R161). -/
def State.announceReset (s : State) (tR cause : Nat) (disarm : Bool) : State :=
  let s := if disarm then (s.setFlag Reg.WAV_SYNC 4 false).setFlag Reg.WAV_STATUS 17 false else s
  let s := ({ s with wav := { s.wav with syncWait := none } }.bump Reg.WAV_CNT_SYNC).setPair Reg.WAV_SYNC_LAST_LO Reg.WAV_SYNC_LAST_HI tR
  s.log 0x0601 0 (leBytes 1 cause ++ leBytes 1 0 ++ leBytes 2 s.wavEnabled.length ++ leBytes 4 (tR / 1000000000))

/-- A STEP reset of every enabled channel (R161). -/
def State.resetAll (s : State) (tR cause : Nat) : State :=
  ((s.wavEnabled.foldl (fun (s : State) c => s.zeroChain c tR cause) s).announceReset tR cause false).showSettling

/-- A SYNC reset at t_r: each channel takes it with its first sample at or after t_r, and the first such sample shows it (R161, R162, Table 06-8). -/
def State.syncReset (s : State) (tR : Nat) (disarm : Bool) : State :=
  let l := s.wavEnabled
  let s := { s with wav := { s.wav with syncAt := none } }
  if l.isEmpty then s.announceReset tR 1 disarm
  else
    let s := l.foldl (fun (s : State) c => s.setWch c { s.wch c with sync := some tR }) s
    { s with wav := { s.wav with syncWait := some (tR, disarm) } }

/-- A channel takes a SYNC reset that waits for its first sample at or after t_r. -/
def State.syncChannel (s : State) (c : Nat) (t : Int) : State :=
  match (s.wch c).sync with
  | some tR =>
    if t < (tR : Int) then s
    else
      let s := match s.wav.syncWait with
        | some (u, disarm) => s.announceReset u 1 disarm
        | none => s
      (s.zeroChain c tR 1).showSettling
  | none => s

/-- Every enabled channel resets just after a step of Device Time (R161). -/
def State.stepWave (s : State) : State := if s.flag Reg.WAV_CTRL 0 then s.resetAll s.now 2 else s

/-- An edge of PPS_IN with MODE 1 armed: the reset is at the second boundary nearest to it (R161). -/
def State.ppsWave (s : State) : State :=
  if s.flag Reg.WAV_SYNC 4 && s.field Reg.WAV_SYNC 1 0 = 1 && s.wav.syncAt.isNone && s.wav.syncWait.isNone then
    let sec := (s.now + 500000000) / 1000000000
    if sec * 1000000000 ≤ s.now then s.syncReset (sec * 1000000000) true else { s with wav := { s.wav with syncAt := some sec } }
  else s

/-- Device Time enters LOCKED from another state (R161). -/
def State.lockWave (s : State) : State := { s with wav := { s.wav with wasLocked := true } }

/-- The Strainer's part of a second boundary: SYNC resets that are due (R161). -/
def State.waveSecond (s : State) : State :=
  let t := s.second * 1000000000
  let lock := s.wav.wasLocked && s.flag Reg.WAV_SYNC 2
  let s := { s with wav := { s.wav with wasLocked := false } }
  let armed := s.flag Reg.WAV_SYNC 4 && s.wav.syncWait.isNone
  let due := match s.field Reg.WAV_SYNC 1 0 with
    | 1 => (match s.wav.syncAt with
      | some x => decide (x ≤ s.second)
      | none => false)
    | 2 => decide (s.pair Reg.WAV_SYNC_SEC_LO Reg.WAV_SYNC_SEC_HI ≤ s.second)
    | _ => false
  if armed && due then s.syncReset t true else if lock then s.syncReset t false else s

/-! ### Input samples (R147, R153, R154) -/

/-- Linear interpolation of a filled sample, k of n + 1 steps from one good sample to the next (R153). -/
def fillSample (a b : WSample) (n k : Nat) : WSample :=
  let v := if F32.notFinite a.v || F32.notFinite b.v then F32.nan a.v b.v
    else dyOver (F32.dyAdd (F32.dyMul (F32.val a.v) ⟨(n + 1 - k : Nat), 0⟩) (F32.dyMul (F32.val b.v) ⟨k, 0⟩)) (n + 1)
  { joinSamples (a.t + (b.t - a.t) * k / (n + 1 : Nat)) v [a, b] with q := spanQ [a, b] }

/-- The samples that lie between the last good sample and this one. -/
def State.gapBefore (s : State) (c : Nat) (w : WSample) : Nat :=
  match (s.wch c).good with
  | some a =>
    let (n, d) := s.finRate c
    (((w.t - a.t) * n + (500000000 * d : Nat)) / (1000000000 * d : Nat)).toNat - 1
  | none => 0

/-- A good sample of a channel enters the chain: a gap before it is filled, or resets the chain (R153). -/
def State.goodSample (s : State) (c : Nat) (w : WSample) : State :=
  let x := s.wch c
  if x.nextG.isSome && w.t < (x.tR : Int) then s.setWch c { x with good := some w }
  else
    let n := s.gapBefore c w
    let s :=
      if x.nextG.isNone then
        let s := s.zeroChain c w.t.toNat 0
        (s.abandon c (gridFrom w.t.toNat)).2
      else if n = 0 then s
      else if n ≤ bitsOf (s.wavSet c 0) 11 8 then
        match x.good with
        | some a =>
          ((List.range n).foldl (fun (s : State) k =>
            let y := fillSample a w n (k + 1)
            if y.t < (x.tR : Int) then s else s.firIn c y) s).bumpBy (Reg.WAV_CH_CNT_FILL c) n
        | none => s
      else s.resetChannel c w.t.toNat 3 n
    let s := s.firIn c w
    (s.setWch c { s.wch c with good := some w }).runOutputs c

/-- A sample reaches a channel: stale sampled values are discarded, gap samples wait, a stall ends (R147, R153, R154). -/
def State.wavIn (s : State) (c : Nat) (w : WSample) (isGap : Bool) : State :=
  if !s.flag Reg.WAV_CTRL 0 || !s.flag (Reg.WAV_CH_CTRL c) 0 then s
  else
    let s := (s.dropOld c w.t).syncChannel c w.t
    let x := s.wch c
    let stale := match x.lastT with
      | some t => decide (c < 8192) && decide (w.t ≤ (t : Int))
      | none => false
    if stale then s.bump Reg.WAV_CNT_SV_STALE
    else
      let s := (s.setWch c { x with lastT := some w.t.toNat, lastArr := s.elapsed }).setFlag (Reg.WAV_CH_STATUS c) 1 false
      if isGap then s else (s.goodSample c w).showSettling

/-- `CHANNEL_STALL`: no input sample reaches an enabled channel for 10 ms (R154). -/
def execChannelStall (chan : Nat) (s : State) : Host.Outcome State Fault Refusal := answer <|
  let x := s.wch chan
  if s.flag (Reg.WAV_CH_CTRL chan) 0 && !s.flag (Reg.WAV_CH_STATUS chan) 1 && x.lastArr + 10000000 ≤ s.elapsed then
    ((s.setFlag (Reg.WAV_CH_STATUS chan) 1 true).bump Reg.WAV_CNT_STALL).log 0x0603 2 (leBytes 2 chan)
  else s

/-- `SYNC_ARM`: a write of WAV_SYNC (R161); MODE 2 with its second already begun clears ARM with event 0x0607. -/
def execSyncArm (value : Word) (s : State) : Host.Outcome State Fault Refusal := answer <|
  let armed := s.flag Reg.WAV_SYNC 4
  let s := s.setReg Reg.WAV_SYNC ((value &&& 7) ||| (if armed then 0x10 else 0))
  let mode := bitsOf value 1 0
  if !value.getLsbD 4 then s
  else if mode = 2 && s.pair Reg.WAV_SYNC_SEC_LO Reg.WAV_SYNC_SEC_HI ≤ s.second then
    ((s.setFlag Reg.WAV_SYNC 4 false).setFlag Reg.WAV_STATUS 17 false).log 0x0607 1 (leBytes 1 mode)
  else
    let s := (s.setFlag Reg.WAV_SYNC 4 true).setFlag Reg.WAV_STATUS 17 true
    { s with wav := { s.wav with syncAt := none } }

/-! ### Local analog inputs (R164 to R166) -/

/-- A local input. -/
def State.afe (s : State) (i : Nat) : AfeState := (kvGet s.wav.afe i).getD {}

/-- Sets a local input. -/
def State.setAfe (s : State) (i : Nat) (x : AfeState) : State := { s with wav := { s.wav with afe := kvPut s.wav.afe i x } }

/-- Gain of the high path. -/
def afeGain (w : Word) : Nat := match bitsOf w 1 0 with
  | 0 => 1
  | 1 => 4
  | _ => 16

/-- |x| < k / 10 of 1.0 V / gain. -/
def belowScale (x : Word) (k gain : Nat) : Bool :=
  !F32.notFinite x && F32.dyLt (F32.dyMul (F32.dyAbs (F32.val x)) ⟨10 * gain, 0⟩) ⟨k, 0⟩

/-- Running sums of a cascade: each stage adds its input to its state and hands the sum on. -/
def integrate (x : Word) : List Word → List Word
  | [] => []
  | a :: r => (a + x) :: integrate (a + x) r

/-- Differences of a cascade: each stage hands on its input less the one before, and keeps its input; answers the last difference. -/
def comb (x : Word) : List Word → Word × List Word
  | [] => (x, [])
  | a :: r => let (y, l) := comb (x - a) r; (y, x :: l)

/-- Stage 1: 64 modulator bits, +1 or −1, through five integrators, and one output through five combs of differential delay 1 (R148). -/
def cic (st : List Word) (bits : BitVec 64) : Word × List Word :=
  let i := ((st ++ List.replicate 10 0).take 5)
  let i := (List.range 64).foldl (fun (l : List Word) k => integrate (if bits.getLsbD k then 1 else 0xFFFFFFFF#32) l) i
  let (y, cs) := comb (i.getLast?.getD 0) (((st ++ List.replicate 10 0).drop 5).take 5)
  (y, i ++ cs)

/-- A CIC output in V: full scale 2^30 stands for 1.0 V / gain (R164, DEDUCED), corrected by the path's calibration data (R166). -/
def State.pathVolts (s : State) (path gain : Nat) (y : Word) : Word :=
  let v := F32.ofRat y.toInt (2 ^ 30 * gain)
  match s.wav.cal[path]? with
  | some (g, o, _) => F32.add (F32.mul v g) o
  | none => v

/-- The analog delay of a path in ns: that of its calibration data (R147, R166). -/
def State.pathDelayNs (s : State) (path : Nat) : Nat := ((s.wav.cal[path]?).map (fun x => x.2.2)).getD 0

/-- The path of a sample and the state after it (R164, R165): whether the high path is taken, and whether the state is HIGH. -/
def State.afePath (s : State) (a : AfeSample) (high : Word) (recent : List (Nat × Bool)) : Bool × Bool :=
  let w := s.reg (Reg.WAV_AFE_CTRL a.input)
  let gain := afeGain w
  if a.input < 8 then (false, false)
  else if !w.getLsbD 4 then (gain != 1, gain != 1)
  else if s.flag (Reg.WAV_AFE_STATUS a.input) 1 then
    let ok := belowScale high 9 gain && !a.highOver
    (ok, ok)
  else (false, recent.all (fun x => x.2))

/-- WAV_AFE_HOLD in ms as a sample at a time takes it (R167). -/
def State.holdMs (s : State) (t : Nat) : Nat :=
  match s.wav.oldHold with
  | some (u, v) => if t < u then v else s.field Reg.WAV_AFE_HOLD 9 0
  | none => s.field Reg.WAV_AFE_HOLD 9 0

/-- A local sample in engineering units with its quality (R155, R166). -/
def State.afeValue (s : State) (c : Nat) (v : Word) (overl : Bool) (t : Nat) : WSample :=
  let q : Half := (if s.syncState < 2 then Q.syncLost else if s.syncState = 3 then Q.timeSuspect else 0)
    ||| (if overl then Q.range else 0) ||| Q.valid
  { t := t, v := F32.add (F32.mul v (s.wavSet c 2)) (s.wavSet c 3), q := q, tq := s.timeQuality, stamp := s.now }

/-- A local CIC output is formed on each path, stamped from Device Time less the path's delay, and its path chosen; it enters its channel (R147, R148, R164, R165). -/
def State.afeIn (s : State) (a : AfeSample) : State :=
  let c := 8192 + a.input
  if !s.flag Reg.WAV_CTRL 1 then s
  else
    let x := s.afe a.input
    let ctrl := s.reg (Reg.WAV_AFE_CTRL a.input)
    let (yl, lowCic) := cic x.lowCic a.low
    let (yh, highCic) := cic x.highCic a.high
    let low := s.pathVolts a.input (if a.input < 8 then afeGain ctrl else 1) yl
    let high := s.pathVolts (8 + a.input) (afeGain ctrl) yh
    let recent := ((s.now, belowScale low 7 (afeGain ctrl)) :: x.recent).filter (fun p => s.now < p.1 + s.holdMs s.now * 1000000)
    let (useHigh, st) := s.afePath a high recent
    let was := s.flag (Reg.WAV_AFE_STATUS a.input) 1
    let overl := if useHigh then a.highOver else a.lowOver
    let t := s.now - s.pathDelayNs (if useHigh then 8 + a.input else a.input)
    let s := if !ctrl.getLsbD 4 || a.input < 8 || was = st then s else s.bump (Reg.WAV_CH_CNT_SWITCH c)
    let s := ((s.setFlag (Reg.WAV_AFE_STATUS a.input) 1 st).setFlag (Reg.WAV_AFE_STATUS a.input) 0 overl)
    let s := (s.setFlag (Reg.WAV_CH_STATUS c) 2 st).setFlag (Reg.WAV_CH_STATUS c) 3 overl
    let s := s.setAfe a.input { recent := recent, episode := if overl then some s.now else x.episode, lowCic := lowCic, highCic := highCic }
    let s := if overl then s.bump (Reg.WAV_CH_CNT_OVERLOAD c) else s
    let s := if overl && x.episode.isNone then s.log 0x0604 1 (leBytes 1 a.input ++ leBytes 1 (bit useHigh)) else s
    let s := s.dropOld c t
    s.wavIn c (s.afeValue c (if useHigh then high else low) overl t) false

/-- `AFE_OVERLOAD_END`: an episode ends after 1 ms without overload (R164). -/
def execAfeOverloadEnd (input : Nat) (s : State) : Host.Outcome State Fault Refusal := answer <|
  match (s.afe input).episode with
  | some t => if t + 1000000 ≤ s.now then s.setAfe input { s.afe input with episode := none } else s
  | none => s

/-! ### Commits (R167) -/

/-- ⌈a / b⌉. -/
def ceilDiv (a b : Nat) : Nat := (a + b - 1) / max 1 b

/-- L of a reach in units of 100 µs, rounded up (R152): every term over 1,024 x num, in ns. -/
def latencyUnits (k : Chain) (reach : Nat) : Nat :=
  let per := 1000000000 * k.den * k.m
  let lag := (16 * 1024 + (max 0 (3072 + k.delta)).toNat) * per
  ceilDiv (reach * 1000000000 * k.scale + 4800 * (k.gcic * k.scale + lag + 20000 * k.scale)) (4800 * k.scale * 100000)

/-- Shows F_d and L of a channel (Table 06-13). -/
def State.showChain (s : State) (c : Nat) : State :=
  let k := s.chain c
  let f0 := s.wavF0 c
  let s := s.setReg (Reg.WAV_CH_FD c) (Word.ofNat ((2000 * k.num + k.den * k.m) / (2 * k.den * k.m)))
  s.setReg (Reg.WAV_CH_LATENCY c) (Word.ofNat (latencyUnits k (pHalf f0) % 65536
    + latencyUnits k (mHalf f0 (s.field (Reg.WAV_CH_CTRL c) 23 16)) * 65536))

/-- The cause for which a channel's values are refused: 1 F_d, 2 MRATE, 3 DELAY, 4 COEF (R167). -/
def State.wavCause (s : State) (c : Nat) : Option Nat :=
  let (n, d) := s.finRate c
  let w := s.staged (Reg.WAV_CH_DECIM c)
  let m := bitsOf w 12 0
  let mr := bitsOf (s.staged (Reg.WAV_CH_CTRL c)) 23 16
  let dl := deltaOf (s.staged (Reg.WAV_CH_DELAY c))
  if m = 0 || 4096 < m || n < 4000 * d * m || 4800 * d * m < n then some 1
  else if mr = 0 || 240 < mr || 4800 % mr ≠ 0 then some 2
  else if dl < -65536 || 65536 < dl then some 3
  else if ((s.wav.coefs[bitsOf w 19 16]?).map (fun k => k.m)) ≠ some m then some 4
  else none

/-- Registers of a channel whose change resets its chain. -/
def chainBits (s : State) (c : Nat) : Word × Word × Word :=
  (s.reg (Reg.WAV_CH_DECIM c), s.reg (Reg.WAV_CH_DELAY c), s.reg (Reg.WAV_CH_CTRL c) &&& 0x00FF0010#32)

/-- Channels of a group with staged fields. -/
def State.wavStaged (s : State) (g : Nat) : List Nat :=
  (((s.shadow.filter (fun p => 0x510000 ≤ p.1 && p.1 < 0x510000 + 8208 * 0x40)).map (fun p => (p.1 - 0x510000) / 0x40)).eraseDups).filter
    (fun c => s.field (Reg.WAV_CH_CTRL c) 2 1 == g)

/-- Commits a channel's staged fields at a commit point: a change of its chain resets it, any other waits for the first sample at or after the point (R167). -/
def State.commitChannel (s : State) (t c : Nat) : State :=
  let old := chainBits s c
  let was := [s.wavSet c 0, s.wavSet c 1, s.wavSet c 2, s.wavSet c 3]
  let s := (s.commitRange (Reg.WAV_CH_CTRL c) 0x40).showChain c
  if !s.flag (Reg.WAV_CH_CTRL c) 0 then s
  else if chainBits s c = old then s.setWch c { s.wch c with old := some (t, was) }
  else (s.setWch c { s.wch c with old := none }).resetChannel c t 4 0

/-- WAV_AFE_HOLD commits; samples before the commit point keep the old value (R167). -/
def State.commitHold (s : State) (t : Nat) : State :=
  match kvGet s.shadow Reg.WAV_AFE_HOLD with
  | some _ =>
    let old := s.holdMs t
    { s.commitReg Reg.WAV_AFE_HOLD with wav := { s.wav with oldHold := some (t, old) } }
  | none => s

/-- A group's waveform settings commit at its row boundary t, or are refused whole (R167).  DESIGN CHOICE (log entry 32): WAV_AFE_HOLD belongs to no rate group and the spec does not say which row boundary commits it; it commits with whichever group's WAV commit comes first. -/
def State.commitWav (s : State) (g t : Nat) : State :=
  if !s.flag Reg.WAV_COMMIT g then s
  else
    let s := s.setFlag Reg.WAV_COMMIT g false
    let l := s.wavStaged g
    match (l.filterMap (fun c => (s.wavCause c).map (fun k => (c, k)))).head? with
    | some (c, k) =>
      let s := ((s.setFlag Reg.WAV_COMMIT_STAT g true).setField Reg.WAV_COMMIT_STAT 10 8 k).setField Reg.WAV_COMMIT_STAT 29 16 c
      s.log 0x0606 1 (leBytes 1 g ++ leBytes 1 k ++ leBytes 2 c)
    | none => (l.foldl (fun (s : State) c => s.commitChannel t c) (s.commitHold t)).showSettling

/-- `WAV_COMMIT`: a group's channels commit at its next row boundary; a group that does not run commits at once (R167). -/
def execWavCommit (mask : Word) (s : State) : Host.Outcome State Fault Refusal := answer <|
  (List.range 4).foldl (fun (s : State) g =>
    if mask.getLsbD g then
      let s := s.setFlag Reg.WAV_COMMIT g true
      if (s.group g).isSome then s else s.commitWav g s.now
    else s) s

end Sys2Proof.Machine
end

