-- ==== Sys2Proof/Machine/Osc.lean ====
section
/-!
DEFINITION. The oscillation analyser (08_oscillations.md): ambient analysis, band monitors and source location.
-/
namespace Sys2Proof.Machine

/-! ### Signal quantities (R190) -/

/-- The nearest integer to a number m x 2^e. -/
def dyRound (x : Dy) : Int :=
  let y := F32.dyAdd x ⟨1, -1⟩
  if 0 ≤ y.e then y.m * F32.pow2 y.e else y.m / F32.pow2 (-y.e)

/-- An angle unwrapped to within π of the one before (R190). -/
def unwrap (prev : Option Word) (x : Word) : Word :=
  match prev with
  | none => x
  | some p =>
    if F32.notFinite p || F32.notFinite x then x
    else
      let turns := F32.val (F32.div (F32.sub p x) twoPi32)
      let k := dyRound turns
      if k = 0 then x else F32.add x (F32.mul (F32.ofInt k) twoPi32)

/-- The quantity that a selector takes, none where it is not valid (R190). -/
def quantity (sel : Nat) (x ref : Slot) (prev : Option Word) : Option Word :=
  if !hasQ x.q Q.valid then none
  else match sel with
    | 0 => some x.a
    | 1 => some x.b
    | 2 => some (F32.mag x.a x.b)
    | _ =>
      if hasQ ref.q Q.valid then
        let z := F32.cmul x.a x.b ref.a (F32.neg ref.b)
        some (unwrap prev (F32.arg z.1 z.2))
      else none

/-! ### Groups (R191 to R194) -/

/-- A group. -/
def State.oscGroup (s : State) (g : Nat) : OscGroup := (kvGet s.osc.groups g).getD {}

/-- Changes a group. -/
def State.modOsc (s : State) (g : Nat) (f : OscGroup → OscGroup) : State :=
  { s with osc := { s.osc with groups := kvPut s.osc.groups g (f (s.oscGroup g)) } }

/-- A group is enabled. -/
def State.oscOn (s : State) (g : Nat) : Bool := s.flag Reg.OSC_CTRL 0 && s.flag (Reg.OSC_G_CTRL g) 0

/-- Rate group of a group. -/
def State.oscRg (s : State) (g : Nat) : Nat := s.field (Reg.OSC_G_CTRL g) 2 1

/-- Signals of a group by position. -/
def State.oscSignals (s : State) (g : Nat) : List SignalRec :=
  (List.range 64).filterMap (fun p => s.osc.signals.find? (fun x => x.group == g && x.pos == p))

/-- q of R192. -/
def decimation (r fmax : Nat) : Nat := max 1 (r * 100 / (4 * max 1 fmax))

/-- q of a group. -/
def State.oscQ (s : State) (g : Nat) : Nat := decimation (s.rate (s.oscRg g)) (s.field (Reg.OSC_G_BAND g) 31 16)

/-- Sections of the rate group that hold a signal of a group. -/
def State.oscSections (s : State) (g : Nat) : List Nat :=
  ((s.oscSignals g).filterMap (fun x => (kvGet s.aln.chans x.chan).bind (fun c => if c.derived then none else some c.sec))).eraseDups

/-- A channel of a furrow has its value: a measured one when its section has closed, a derived one when its producer has written it. -/
def State.chanReady (s : State) (f : Furrow) (c : Nat) : Bool :=
  match kvGet s.aln.chans c with
  | some r => if r.derived then (kvGet f.slots c).isSome else f.isClosed r.sec
  | none => true

/-- Every section of a group's signals has closed for a furrow. -/
def State.oscClosed (s : State) (g : Nat) (f : Furrow) : Bool := (s.oscSections g).all (fun i => f.isClosed i)

/-- The slot of a channel in the history ring. -/
def State.histSlot (s : State) (g n c : Nat) : Slot := slotOf (s.readDram (s.entryAddr g n + 64 + 16 * s.position g c) 16)

/-- Every signal of a group has its value in a furrow, its reference channel too. -/
def State.oscReady (s : State) (g : Nat) (f : Furrow) : Bool :=
  (s.oscSignals g).all (fun x => s.chanReady f x.chan && (x.sel != 3 || s.chanReady f x.ref))

/-- The quantities of a group's row, SEL 3 as the angle itself, with the flags of their slots. -/
def State.oscRaw (s : State) (g : Nat) (read : Nat → Slot) : Half × List (Option Word) :=
  let sl := (s.oscSignals g).map (fun x => (read x.chan, read x.ref, x.sel))
  (sl.foldl (fun q x => q ||| (x.1.q &&& (Q.syncLost ||| Q.timeSuspect ||| Q.test))) 0, sl.map (fun x => quantity x.2.2 x.1 x.2.1 none))

/-- The values of the rows before: the latest of each signal. -/
def lastVals (rows : List OscRow) (m : Nat) : List (Option Word) :=
  (List.range m).map (fun i => (rows.find? (fun r => (r.x.getD i none).isSome)).bind (fun r => r.x.getD i none))

/-- A row put after others: each SEL 3 value unwrapped against the one before it (R190). -/
def rowAfter (rows : List OscRow) (sels : List Nat) (r : OscRow) : OscRow :=
  let old := lastVals rows sels.length
  { r with x := r.raw.mapIdx (fun i v => if sels.getD i 0 = 3 then v.map (fun w => unwrap (old.getD i none) w) else v) }

/-- The value of a signal at a row, filled where R193 allows. -/
def filled (rows : List OscRow) (gap i : Nat) (n : Int) : Option Word :=
  let at_ := fun (k : Int) => (rows.find? (fun r => (r.seq : Int) == k)).bind (fun r => r.x.getD i none)
  match at_ n with
  | some v => some v
  | none =>
    let back := (List.range gap).find? (fun (k : Nat) => (at_ (n - 1 - (k : Int))).isSome)
    let fwd := (List.range gap).find? (fun (k : Nat) => (at_ (n + 1 + (k : Int))).isSome)
    match back, fwd with
    | some b, some f =>
      if b + f + 1 ≤ gap then
        match at_ (n - 1 - (b : Int)), at_ (n + 1 + (f : Int)) with
        | some u, some v => some (F32.add u (F32.mul (F32.sub v u) (F32.ofRat (b + 1 : Nat) (b + f + 2))))
        | _, _ => none
      else none
    | _, _ => none

/-- Rows that d(j) spans. -/
def spanOf (q j : Nat) : Nat × Nat := if q = 1 then (j, j) else (j * q - 4 * q, j * q + 4 * q)

/-- The values of a signal over the span of d(j), filled. -/
def rowVals (rows : List OscRow) (q gap i j : Nat) : List (Option Word) :=
  let (lo, hi) := spanOf q j
  (List.range (hi + 1 - lo)).map (fun (k : Nat) => filled rows gap i ((lo + k : Nat) : Int))

/-- d(j) of a signal (R193): for q of at least 2 the symmetric FIR filter of 8q + 1 taps, oldest row first. -/
def decimated (r fmax q : Nat) (v : List (Option Word)) : Option Word :=
  if !v.all (fun x => x.isSome) then none
  else if q = 1 then v.headD none
  else some ((v.filterMap id).mapIdx (fun k x => F32.mul (Config.oscTap r fmax q ((k : Int) - (4 * q : Nat)).natAbs) x) |>.foldl F32.add 0)

/-- d(j) and u(j) of a group, u from the d before (R193). -/
def sampleAt (rows : List OscRow) (r fmax q gap : Nat) (sig : List SignalRec) (before : List (Option Word)) (j need : Nat) : OscSample :=
  let d := (List.range sig.length).map (fun i => decimated r fmax q (rowVals rows q gap i j))
  { j := j, need := need, d := d
    u := sig.mapIdx (fun i x => match d.getD i none, before.getD i none with
      | some a, some b => some (F32.div (F32.sub a b) x.scale)
      | _, _ => none) }

/-- The last row up to which every gap is decided: a run of invalid rows at the end, short enough to be filled, still waits for the VALID row after it (R193). -/
def decidedTop (rows : List OscRow) (gap m : Nat) : Nat :=
  let n := (rows.head?.map (fun r => r.seq)).getD 0
  (List.range m).foldl (fun (t : Nat) i =>
    match rows.find? (fun r => (r.x.getD i none).isSome) with
    | some r => if n ≤ r.seq + gap then min t r.seq else t
    | none => t) n

/-- Rows that a group's buffer holds, and samples (R197, R211). -/
def State.oscSizes (s : State) (g : Nat) : Nat × Nat :=
  let q := s.oscQ g
  let r := 60 * s.rate (s.oscRg g) + 8 * q + 1
  (r, (r + q - 1) / q + 16)

/-- Forms the analysis samples that the rows now decide (R193). -/
def State.oscSample (s : State) (g : Nat) : State :=
  let x := s.oscGroup g
  let q := s.oscQ g
  let gap := s.field (Reg.OSC_G_MODES g) 12 8
  let sig := s.oscSignals g
  let top := decidedTop x.rows gap sig.length
  let need := (x.rows.head?.map (fun r => r.seq)).getD 0
  let first := (x.rows.getLast?.map (fun r => r.seq)).getD 0
  let start := match x.samples with
    | y :: _ => y.j + 1
    | [] => if q = 1 then first else (first + 5 * q - 1) / q
  let stop := if q = 1 then top + 1 else top / q + 1 - 4
  let more := (List.range (stop - start)).foldl (fun (l : List OscSample) i =>
    sampleAt x.rows (s.rate (s.oscRg g)) (s.field (Reg.OSC_G_BAND g) 31 16) q gap sig ((l.head?.map (fun y => y.d)).getD []) (start + i) need :: l) x.samples
  s.modOsc g (fun y => { y with samples := more.take (s.oscSizes g).2, firstJ := if x.samples.isEmpty then start else y.firstJ })

/-- Takes the rows whose signals have their values into a group's buffer, in row order, which holds 60 s (R193, R197). -/
def State.oscCollect (s : State) (g : Nat) : State :=
  if !s.oscOn g then s
  else
    let rg := s.oscRg g
    match s.group rg with
    | some x =>
      let y := s.oscGroup g
      let next := max y.from_ ((y.rows.head?.map (fun r => r.seq + 1)).getD 0)
      let ready := (x.furrows.filter (fun f => decide (next ≤ f.idx))).takeWhile (fun f => s.oscReady g f)
      ready.foldl (fun (s : State) f =>
        let (q, raw) := s.oscRaw g (fun c => (kvGet f.slots c).getD missingSlot)
        let sels := (s.oscSignals g).map (fun z => z.sel)
        (s.modOsc g (fun y => { y with
          rows := (rowAfter y.rows sels (OscRow.mk f.idx f.tag q raw raw) :: y.rows).take (s.oscSizes g).1 })).oscSample g) s
    | none => s

/-- The analysis sample of a number in the buffer. -/
def sampleOf (l : List OscSample) (j : Int) : List (Option Word) := ((l.find? (fun y => (y.j : Int) == j)).map (fun y => y.u)).getD [none]

/-- h_f(k) and h_p(k), none where the column is unusable (R194). -/
def column (l : List OscSample) (k : Nat) : Option (List Word × List Word) :=
  let hf := ((List.range 8).map (fun (a : Nat) => sampleOf l ((k : Int) + (a : Int)))).flatten
  let hp := ((List.range 8).map (fun (a : Nat) => sampleOf l ((k : Int) - 1 - (a : Int)))).flatten
  if hf.all (fun v => v.isSome) && hp.all (fun v => v.isSome) then some (hf.filterMap id, hp.filterMap id) else none

/-- The product h_f h_p^T of a column, row by row; zeros for an unusable one. -/
def outer (p : Nat) (c : Option (List Word × List Word)) : List Word :=
  match c with
  | some (f, b) => (f.map (fun x => b.map (fun y => F32.mul x y))).flatten
  | none => List.replicate (p * p) 0

/-- a + k x b, element by element. -/
def addScaled (a : List Word) (k : Word) (b : List Word) : List Word := (a.zip b).map (fun x => F32.add x.1 (F32.mul k x.2))

/-- λ^n. -/
def lamPow (lam : Word) : Nat → Word
  | 0 => 0x3F800000
  | n + 1 => F32.mul lam (lamPow lam n)

/-- λ of a group (R194): 1 − q / (W r). -/
def State.oscLambda (s : State) (g : Nat) : Word :=
  let w := s.field (Reg.OSC_G_WINDOW g) 10 0 * s.rate (s.oscRg g)
  F32.ofRat ((w : Int) - s.oscQ g) w

/-- C of a group, zeros at first. -/
def OscGroup.covOf (x : OscGroup) (p : Nat) : List Word := if x.cov.isEmpty then List.replicate (p * p) 0 else x.cov

/-- The columns still to add that samples from rows up to a sequence number complete: the first, and the one after the last (R194, R195). -/
def OscGroup.columnRange (x : OscGroup) (top : Nat) : Nat × Nat :=
  let hi := ((x.samples.find? (fun y => decide (y.need ≤ top))).map (fun y => y.j + 1 - 7)).getD 0
  (max x.lastCol (x.firstJ + 9), hi)

/-- A refresh's new columns enter C, with the weighted counts: C becomes λ^d C plus the sum of the new weighted columns (R194, R196, R199). -/
def State.addColumns (s : State) (g top : Nat) : State :=
  let x := s.oscGroup g
  let p := 8 * (s.oscSignals g).length
  let lam := s.oscLambda g
  let (lo, hi) := x.columnRange top
  let ks := (List.range (hi - lo)).map (fun i => (lo + i, column x.samples (lo + i)))
  if ks.isEmpty then s
  else
    let used := ks.filter (fun k => k.2.isSome)
    let sum := used.foldl (fun (a : List Word) k => addScaled a (lamPow lam (hi - 1 - k.1)) (outer p k.2)) (List.replicate (p * p) 0)
    let total := fun (l : List (Nat × Option (List Word × List Word))) => l.foldl (fun (a : Word) k => F32.add a (lamPow lam (hi - 1 - k.1))) 0
    let old := lamPow lam (hi - lo)
    (s.modOsc g (fun y => { y with
      cov := addScaled sum old (y.covOf p)
      count := F32.add (F32.mul old y.count) (total used)
      total := F32.add (F32.mul old y.total) (total ks)
      lastCol := hi })).bumpBy (Reg.OSC_G_CNT_UNUSABLE g) (ks.length - used.length)

/-- A buffer with its hit rows reread from history, each SEL 3 value from the first of them on unwrapped again; newest row first (R190, R197). -/
def State.rereadRows (s : State) (g : Nat) (hit : OscRow → Bool) : List OscRow → Bool × List OscRow
  | [] => (false, [])
  | r :: l =>
    let rg := s.oscRg g
    let (dirty, rest) := s.rereadRows g hit l
    let again := hit r && s.rowExists rg r.seq && (s.furrow rg r.tag).isNone
    let r' := if again then let y := s.oscRaw g (s.histSlot rg r.seq); { r with q := y.1, raw := y.2 } else r
    if dirty || again then (true, rowAfter rest ((s.oscSignals g).map (fun z => z.sel)) r' :: rest) else (false, r :: rest)

/-- A buffer of samples with those formed again whose rows a revision changed; newest first (R197). -/
def reformSamples (old new : List OscRow) (r fmax q gap : Nat) (sig : List SignalRec) : List OscSample → List OscSample
  | [] => []
  | y :: l =>
    let first := (new.getLast?.map (fun x => x.seq)).getD 0
    let rest := reformSamples old new r fmax q gap sig l
    let before := (rest.head?.map (fun x => x.d)).getD []
    let held := decide (first ≤ (spanOf q y.j).1) && (List.range sig.length).any (fun i => rowVals old q gap i y.j != rowVals new q gap i y.j)
    let d := if held then (sampleAt new r fmax q gap sig before y.j y.need).d else y.d
    let same := d == y.d && before == (l.head?.map (fun x => x.d)).getD []
    if same || rest.isEmpty then { y with d := d } :: rest
    else { y with d := d, u := sig.mapIdx (fun i x => match d.getD i none, before.getD i none with
      | some a, some b => some (F32.div (F32.sub a b) x.scale)
      | _, _ => none) } :: rest

/-- A refresh applies the notices queued before it started: every column of C that uses a changed sample has its old weighted product replaced by the new one (R197). -/
def State.applyRevisions (s : State) (g : Nat) : State :=
  let x := s.oscGroup g
  if x.notices.isEmpty then s
  else
    let p := 8 * (s.oscSignals g).length
    let lam := s.oscLambda g
    let allRows := x.notices.any (fun n => n.2)
    let rows := (s.rereadRows g (fun r => allRows || x.notices.any (fun n => n.1 == r.tag)) x.rows).2
    let new := reformSamples x.rows rows (s.rate (s.oscRg g)) (s.field (Reg.OSC_G_BAND g) 31 16) (s.oscQ g) (s.field (Reg.OSC_G_MODES g) 12 8)
      (s.oscSignals g) x.samples
    let ks := ((List.range 16).flatMap (fun a => (x.samples.map (fun y => y.j)).map (fun j => j + a - 7))).eraseDups.filter (fun k =>
      decide (x.firstJ + 9 ≤ k) && decide (k < x.lastCol) && column x.samples k != column new k)
    let s := (s.bumpBy Reg.OSC_CNT_NOTICES x.notices.length).bumpBy (Reg.OSC_G_CNT_REVISED g) ks.length
    let s := ks.foldl (fun (s : State) k =>
      let a := column x.samples k
      let b := column new k
      let l := lamPow lam (x.lastCol - 1 - k)
      s.modOsc g (fun y => { y with
        cov := addScaled (addScaled (y.covOf p) (F32.neg l) (outer p a)) l (outer p b)
        count := F32.add y.count (if a.isSome == b.isSome then 0 else if b.isSome then l else F32.neg l) })) s
    s.modOsc g (fun y => { y with rows := rows, samples := new, notices := [] })

/-! ### The refresh (R196) -/

/-- Element of a matrix held row by row. -/
def elem (a : List Word) (cols i j : Nat) : Word := a.getD (i * cols + j) 0

/-- Product of an r x k matrix, or its transpose, with a k x c one. -/
def matMul (tr : Bool) (a : List Word) (r k c : Nat) (b : List Word) : List Word :=
  ((List.range r).map (fun i => (List.range c).map (fun j =>
    (List.range k).foldl (fun t l => F32.add t (F32.mul (if tr then elem a r l i else elem a k i l) (elem b c l j))) 0))).flatten

/-- Column j of a matrix. -/
def colOf (a : List Word) (rows cols j : Nat) : List Word := (List.range rows).map (fun i => elem a cols i j)

/-- Dot product. -/
def dot (a b : List Word) : Word := (a.zip b).foldl (fun t x => F32.add t (F32.mul x.1 x.2)) 0

/-- A matrix from its columns. -/
def fromCols (cs : List (List Word)) (rows : Nat) : List Word := ((List.range rows).map (fun i => cs.map (fun c => c.getD i 0))).flatten

/-- Modified Gram-Schmidt in column order: each column made orthogonal to those before, and normalised. -/
def gramSchmidt : List (List Word) → List (List Word) → List (List Word)
  | [], out => out
  | c :: r, out =>
    let v := out.foldl (fun (v : List Word) u => addScaled v (F32.neg (dot u v)) u) c
    let n := F32.sqrt (dot v v)
    gramSchmidt r (out ++ [v.map (fun x => F32.div x n)])

/-- orth of R196. -/
def orth (a : List Word) (rows cols : Nat) : List Word := fromCols (gramSchmidt ((List.range cols).map (colOf a rows cols)) []) rows

/-- The initial basis of R196: orth of cos(PI (i + 0.5) (j + 1) / P), multiplied and divided in the listing's order. -/
def basis0 (p n : Nat) : List Word :=
  orth (((List.range p).map (fun (i : Nat) => (List.range n).map (fun (j : Nat) =>
    (Config.cosSinRad (F32.div (F32.prod [pi32, F32.add (F32.ofInt i) 0x3F000000, F32.ofInt (j + 1 : Nat)]) (F32.ofInt p))).1))).flatten) p n

/-- One subspace iteration. -/
def iterate (c : List Word) (p n : Nat) : Nat → List Word → List Word
  | 0, x => x
  | k + 1, x => iterate c p n k (orth (matMul false c p p n (matMul true c p p n x)) p n)

/-- |z|². -/
def sq (z : Word × Word) : Word := F32.add (F32.mul z.1 z.1) (F32.mul z.2 z.2)

/-- The entry of largest |·|, the first of equals. -/
def largest : List (Word × Word) → Word × Word
  | [] => (0x3F800000, 0)
  | [z] => z
  | z :: r => let y := largest r; if F32.lt (sq z) (sq y) then y else z

/-- A mode of an eigenpair: none where it is real, a conjugate, or out of limits (R196, R202). -/
def modeOf (cout : List Word) (m n : Nat) (fa fmin fmax : Word) (ev : (Word × Word) × List (Word × Word)) : Option OscMode :=
  let z := ev.1
  if F32.le z.2 0 then none
  else
    let re := F32.mul (Config.ln32 (F32.mag z.1 z.2)) fa
    let im := F32.mul (F32.arg z.1 z.2) fa
    let f := F32.div im twoPi32
    let zeta := F32.div (F32.neg re) (F32.mag re im)
    if F32.lt f fmin || F32.lt fmax f || F32.lt zeta (F32.ofRat (-1) 10) || F32.lt (F32.ofRat 2 5) zeta then none
    else
      let shape := (List.range m).map (fun i => (List.range n).foldl (fun (t : Word × Word) j =>
        let v := ev.2.getD j (0, 0)
        (F32.add t.1 (F32.mul (elem cout n i j) v.1), F32.add t.2 (F32.mul (elem cout n i j) v.2))) (0, 0))
      let big := largest shape
      some { f := f, zeta := F32.ofRat (dyRound (F32.dyMul (F32.val zeta) ⟨1000, 0⟩)) 10
             e := shape.foldl (fun t x => F32.add t (sq x)) 0, shape := shape.map (fun x => if x = big then (0x3F800000, 0) else F32.cdiv x big) }

/-- A mode before another: more energy, and at equal energy the lower frequency. -/
def modeBefore (a b : OscMode) : Bool := F32.lt b.e a.e || (F32.eq a.e b.e && F32.le a.f b.f)

/-- Inserts a mode in order. -/
def insertMode (a : OscMode) : List OscMode → List OscMode
  | [] => [a]
  | b :: r => if modeBefore a b then a :: b :: r else b :: insertMode a r

/-- The kept modes of a covariance, and the new basis (R196). -/
def identify (cov basis : List Word) (m modes : Nat) (fa fmin fmax : Word) : List OscMode × List Word :=
  let p := 8 * m
  let n := 2 * modes + 4
  let x := iterate cov p n 8 (if basis.length = p * n then basis else basis0 p n)
  let y := matMul true cov p p n x
  let cy := matMul false cov p p n y
  let sig := (List.range n).map (fun j => F32.sqrt (dot (colOf x p n j) (colOf cy p n j)))
  let o := fromCols ((List.range n).map (fun j => (colOf x p n j).map (fun v => F32.mul v (F32.sqrt (sig.getD j 0))))) p
  let a := Config.lstsq (p - m) n (o.take ((p - m) * n)) (o.drop (m * n))
  let found := (Config.eig n a).filterMap (modeOf (o.take (m * n)) m n fa fmin fmax)
  let kept := (found.foldr insertMode []).take modes
  let tot := kept.foldl (fun t y => F32.add t y.e) 0
  (kept.map (fun y => { y with e := F32.div y.e tot }), x)

/-! ### Slots (R198) -/

/-- |a − b|. -/
def fdist (a b : Word) : Dy := F32.dyAbs (F32.dySub (F32.val a) (F32.val b))

/-- The unmatched occupied slot nearest to a frequency, where it lies within 10 % of the slot's own (R198). -/
def nearestSlot (slots : List OscSlot) (used : List Nat) (f : Word) : Option Nat :=
  let at_ := fun (i : Nat) => ((slots.getD i {}).mode.map (fun y => y.f)).getD 0
  let open_ := (List.range slots.length).filter (fun i => !used.contains i && (slots.getD i {}).mode.isSome)
  let best := open_.foldl (fun (b : Option Nat) i => match b with
    | some j => if F32.dyLt (fdist f (at_ i)) (fdist f (at_ j)) then some i else some j
    | none => some i) none
  best.bind (fun i => if F32.dyLe (F32.dyMul ⟨10, 0⟩ (fdist f (at_ i))) (F32.val (at_ i)) then some i else none)

/-- Assigns modes to slots; answers the slots and which are matched. -/
def assign : List OscMode → List OscSlot → List Nat → List OscSlot × List Nat
  | [], l, used => (l, used)
  | y :: r, l, used =>
    match nearestSlot l used y.f with
    | some i => assign r (l.modify i (fun x => { x with mode := some y, count := x.count + 1 })) (i :: used)
    | none =>
      match (List.range l.length).find? (fun i => !used.contains i) with
      | some i => assign r (l.set i { mode := some y, count := 1, below := false }) (i :: used)
      | none => assign r l used

/-- A number in tenths as a signed integer. -/
def tenths (w : Word) : Int := dyRound (F32.dyMul (F32.val w) ⟨10, 0⟩)

/-- Event 0x0801 where a slot's damping falls below ZETA_ALARM (R198). -/
def State.slotAlarm (s : State) (g i zetaAlarm : Nat) : State :=
  let x := ((s.oscGroup g).slots.getD i {})
  match x.mode with
  | some y =>
    let low := decide (tenths y.zeta < (zetaAlarm : Int))
    let s1 := s.modOsc g (fun z => { z with slots := z.slots.modify i (fun w => { w with below := low }) })
    if low && !x.below then s1.log 0x0801 2 (leBytes 1 g ++ leBytes 1 i ++ leBytes 2 (BitVec.ofInt 16 (tenths y.zeta)).toNat
      ++ leBytes 4 (dyRound (F32.dyMul (F32.val y.f) ⟨1000, 0⟩)).toNat)
    else s1
  | none => s

/-- Shows a group's slots. -/
def State.showSlots (s : State) (g : Nat) : State :=
  (List.range 16).foldl (fun (s : State) i =>
    let y := ((s.oscGroup g).slots.getD i {}).mode
    (s.setReg (Reg.OSC_G_SLOT_F g i) ((y.map (fun m => m.f)).getD 0)).setReg (Reg.OSC_G_SLOT_Z g i) ((y.map (fun m => m.zeta)).getD 0)) s

/-- U of the last refresh of a group (R199). -/
def OscGroup.usableOf (x : OscGroup) : Word := if F32.eq x.doneTotal 0 then 0 else F32.div x.doneCount x.doneTotal

/-- U in units of 2^−16 (Table 08-6). -/
def OscGroup.usable (x : OscGroup) : Nat := (dyRound (F32.dyMul (F32.val x.usableOf) ⟨65536, 0⟩)).toNat

/-- The weighted count is below 0.63 x W x F_a (R200). -/
def State.oscSettling (s : State) (g : Nat) : Bool :=
  let need : Int := (63 * s.field (Reg.OSC_G_WINDOW g) 10 0 * s.rate (s.oscRg g) : Nat)
  F32.dyLt (F32.dyMul (F32.val (s.oscGroup g).doneCount) ⟨(100 * s.oscQ g : Nat), 0⟩) ⟨need, 0⟩

/-- Shows a group's state. -/
def State.showOsc (s : State) (g : Nat) : State :=
  let x := s.oscGroup g
  let u := x.usable
  let s := s.setFlag (Reg.OSC_G_STATUS g) 0 (s.oscSettling g)
  let s := s.setFlag (Reg.OSC_G_STATUS g) 1 (decide (u < 32768))
  let s := s.setFlag (Reg.OSC_G_STATUS g) 2 x.running.isSome
  let s := s.setField (Reg.OSC_G_STATUS g) 15 8 (s.oscQ g)
  let s := s.setFlag Reg.OSC_STATUS 8 (s.osc.groups.any (fun p => p.2.running.isSome))
  s.setReg (Reg.OSC_G_USABLE g) (Word.ofNat u)

/-! ### Queueing and running (R195, R212) -/

/-- The matrix unit starts the lowest queued group when it is free (R195, R196). -/
def State.oscStart (s : State) : State :=
  if s.osc.groups.any (fun p => p.2.running.isSome) then s
  else match s.osc.groups.find? (fun p => p.2.queued.isSome) with
    | some (g, x) =>
      let tag := x.queued.getD 0
      let rg := s.oscRg g
      let top := ((x.rows.find? (fun r => decide (r.tag ≤ tag))).map (fun r => r.seq)).getD 0
      let s := (s.applyRevisions g).addColumns g top
      let y := s.oscGroup g
      let modes := s.field (Reg.OSC_G_MODES g) 4 0
      let hz := fun (n : Nat) => F32.ofRat (n : Int) 100
      let r := identify (y.covOf (8 * (s.oscSignals g).length)) y.basis (s.oscSignals g).length modes
        (F32.ofRat (s.rate rg : Int) (s.oscQ g)) (hz (s.field (Reg.OSC_G_BAND g) 15 0)) (hz (s.field (Reg.OSC_G_BAND g) 31 16))
      let new := y.rows.filter (fun r => y.lastRow ≤ r.seq && r.seq ≤ top)
      let run : OscRun := { tag := tag, startAt := s.elapsed, kept := r.1, modes := modes
                            zetaAlarm := s.field (Reg.OSC_G_MODES g) 23 16, basis := r.2
                            q := new.foldl (fun q x => q ||| x.q) 0, count := y.count, total := y.total }
      (s.modOsc g (fun y => { y with queued := none, running := some run, lastRow := top + 1 })).showOsc g
    | none => s

/-- A refresh is queued: an older one that has not started is skipped, and shedding runs every 4th only (R195, R212). -/
def State.oscQueue (s : State) (g tag : Nat) : State :=
  let x := s.oscGroup g
  let s := s.modOsc g (fun y => { y with waiting := y.waiting.filter (fun t => t != tag), nRefresh := y.nRefresh + 1 })
  if 1 ≤ s.shedLevel && x.nRefresh % 4 ≠ 0 then s.bump Reg.OSC_CNT_SHED_SKIP
  else
    let s :=
      if x.queued.isSome then
        let s := s.bump (Reg.OSC_G_CNT_OVERRUN g)
        s.log 0x0805 1 (leBytes 1 g ++ leBytes 3 0 ++ leBytes 4 (s.reg (Reg.OSC_G_CNT_OVERRUN g)).toNat)
      else s
    s.modOsc g (fun y => { y with queued := some tag })

/-- The refresh tag of a group has all its sections closed. -/
def State.oscTagClosed (s : State) (g tag : Nat) : Bool :=
  match s.furrow (s.oscRg g) tag with
  | some f => s.oscClosed g f
  | none => (s.oscGroup g).rows.any (fun r => decide (tag ≤ r.tag))

/-- Rows are taken, refreshes queued whose tags have closed, oldest first, and the matrix unit goes on (R193, R195). -/
def State.oscRefreshes (s : State) : State :=
  let gs := (List.range 32).filter (fun g => s.oscOn g)
  let s := gs.foldl (fun (s : State) g => s.oscCollect g) s
  let s := gs.foldl (fun (s : State) g => (s.oscGroup g).waiting.foldl (fun (s : State) t =>
    if s.oscTagClosed g t then s.oscQueue g t else s) s) s
  s.oscStart

/-- The first grid tag at or after a time. -/
def tagFrom (r t : Nat) : Nat :=
  let s := t / 1000000000
  let k := (t % 1000000000) * r / 1000000000
  let c := (List.range 3).map (fun i => gridTag r (s + (k + i) / max 1 r) ((k + i) % max 1 r))
  (c.find? (fun x => decide (t ≤ x))).getD 0

/-- `OSC_REFRESH_DONE`: the running refresh completes, and its modes take slots (R196, R198). -/
def execOscRefreshDone (group : Nat) (s : State) : Host.Outcome State Fault Refusal := answer <|
  match (s.oscGroup group).running with
  | some run =>
    let x := s.oscGroup group
    let base := (x.slots ++ List.replicate (run.modes - x.slots.length) (OscSlot.mk none 0 false)).take run.modes
    let (l, used) := assign run.kept base []
    let l := l.mapIdx (fun i (y : OscSlot) => if used.contains i then y else OscSlot.mk none 0 false)
    let t := s.elapsed
    let s := s.modOsc group (fun y => { y with
      running := none, basis := run.basis, slots := l, lastDone := t, lastTag := some run.tag, lastQ := run.q
      doneCount := run.count, doneTotal := run.total })
    let s := (List.range l.length).foldl (fun (s : State) i => s.slotAlarm group i run.zetaAlarm) s
    let s := (s.bump Reg.OSC_CNT_REFRESH).bump (Reg.OSC_G_CNT_REFRESH group)
    let s := s.setPair (Reg.OSC_G_LAST_LO group) (Reg.OSC_G_LAST_HI group) run.tag
    let s := s.setReg (Reg.OSC_G_DURATION group) (Word.ofNat ((t - run.startAt) / 1000))
    let s := s.setField (Reg.OSC_G_STATUS group) 20 16 run.kept.length
    ((s.showSlots group).showOsc group).oscStart
  | none => s

/-- A group resets (R201): the rows opened from now on fill it. -/
def State.oscReset (s : State) (g : Nat) : State :=
  let t := s.elapsed
  let iv := s.field (Reg.OSC_G_REFRESH g) 13 0 * 1000000
  let seen := s.now / max 1 iv * iv
  let next := ((s.group (s.oscRg g)).map (fun x => x.nextIdx)).getD 0
  let s := s.modOsc g (fun x => { instant := min x.instant seen, nRefresh := x.nRefresh, lastDone := t, from_ := next })
  ((s.setField (Reg.OSC_G_STATUS g) 20 16 0).showSlots g).showOsc g

/-- A STEP reset of Device Time resets every group (R201). -/
def State.stepOsc (s : State) : State :=
  if s.flag Reg.OSC_CTRL 0 then ((List.range 32).filter (fun g => s.oscOn g)).foldl (fun (s : State) g => s.oscReset g) s else s

/-- A revision notice reaches the analyser (R197). -/
def State.oscNotice (s : State) (v : Revision) (lost : Bool) : State :=
  let rg := v.entry.rg
  if s.flag (Reg.ALN_RG_HIST_CTRL rg) 4 then
    ((List.range 32).filter (fun g => s.oscOn g && s.oscRg g == rg)).foldl (fun (s : State) g =>
      if lost || (s.oscGroup g).rows.any (fun r => r.tag == v.entry.tag) then
        s.modOsc g (fun x => { x with notices := x.notices ++ [(v.entry.tag, lost)] })
      else s) s
  else s

/-! ### Results (R199, R200) -/

/-- OSC_PUB: writes a group's newest results into a row. The age channel is always VALID (R199, R200). -/
def State.oscPub (s : State) (g tag : Nat) (closure : Option Nat) : State :=
  let x := s.oscGroup g
  if !s.oscOn g || x.published.contains tag then s
  else
    let rg := s.oscRg g
    let b := s.field (Reg.OSC_G_CH_BASE g) 17 0
    let modes := s.field (Reg.OSC_G_MODES g) 4 0
    let m := (s.oscSignals g).length
    let u := x.usable
    let thin := x.lastTag.isSome && decide (u < 32768)
    let stale := decide (x.lastDone + 8 * s.field (Reg.OSC_G_REFRESH g) 13 0 * 1000000 < s.elapsed)
    let set : Half := if s.oscSettling g then Q.settling else Q.valid
    let base : Half := Q.derived ||| x.lastQ
    let age := match x.lastTag with
      | some t => F32.ofRat ((tag : Int) - (t : Int)) 1000000000
      | none => s.freshWord
    let s := if x.lastTag.isSome then s else s.useFree 1
    let s := if thin && !x.thin then s.log 0x0804 1 (leBytes 1 g ++ leBytes 1 0 ++ leBytes 2 u) else s
    let s := s.modOsc g (fun y => { y with thin := thin, published := tag :: y.published.filter (fun t => (s.furrow rg t).isSome) })
    let put := fun (s : State) (c : Nat) (v : Option (Word × Word)) => match v with
      | some v => s.writeDerived rg tag c v.1 v.2 (base ||| set) closure
      | none => s.writeDerived rg tag c 0 0 (base ||| Q.missing) closure
    let s := s.writeDerived rg tag b age x.usableOf (base ||| Q.valid) closure
    (List.range modes).foldl (fun (s : State) i =>
      let sl := x.slots.getD i {}
      let y := if thin || stale then none else sl.mode
      let s := put s (b + 1 + 2 * i) (y.map (fun y => (y.f, y.zeta)))
      let s := put s (b + 2 + 2 * i) (y.map (fun y => (y.e, F32.ofInt sl.count)))
      if s.flag (Reg.OSC_G_CTRL g) 16 then
        (List.range m).foldl (fun (s : State) j => put s (b + 1 + 2 * modes + i * m + j) (y.map (fun y => y.shape.getD j (0, 0)))) s
      else s) s

/-- OSC_PUB as a node of a graph: it writes the row where the last section that holds a signal has closed, else it leaves the row to that closure (R200). -/
def State.oscPubNode (s : State) (g tag : Nat) (closure : Option Nat) : State :=
  match s.furrow (s.oscRg g) tag with
  | some f => if s.oscClosed g f then s.oscPub g tag closure else s.modOsc g (fun y => { y with toPublish := y.toPublish ++ [tag] })
  | none => s

/-! ### Band monitors (R203 to R207) -/

/-- A band monitor. -/
def State.monitor (s : State) (i : Nat) : Option MonitorState := kvGet s.osc.monitors i

/-- Changes a band monitor. -/
def State.modMonitor (s : State) (i : Nat) (f : MonitorState → MonitorState) : State :=
  { s with osc := { s.osc with monitors := kvMod s.osc.monitors i f } }

/-- Bands of a monitor that are enabled. -/
def monOn (c : MonitorRec) : List Nat := (List.range 6).filter (fun b => c.bands.getD b false)

/-- Edges and threshold of a band. -/
def monEdge (c : MonitorRec) (b : Nat) : Word × Word × Word := c.edges.getD b (0, 0, 0)

/-- The smallest f_lo among the enabled bands. -/
def monLowest (c : MonitorRec) : Word :=
  match (monOn c).map (fun b => (monEdge c b).1) with
  | [] => 0x3F800000
  | a :: l => l.foldl F32.min a

/-- Rows of settling are not yet over: n < ⌈r (T_avg + 2 / f_lo)⌉ (R206). -/
def monitorSettling (c : MonitorRec) (r n : Nat) : Bool :=
  F32.dyLt (F32.dyMul ⟨(1000 * n : Nat) - ((r * c.tAvg : Nat) : Int), 0⟩ (F32.val (monLowest c))) ⟨(2000 * r : Nat), 0⟩

/-- tan(π f / r): a band edge prewarped for the bilinear transform at row rate r (R204). -/
def prewarp (r : Nat) (f : Word) : Word :=
  let k := Config.cosSinRad (F32.div (F32.mul pi32 f) (F32.ofInt r))
  F32.div k.2 k.1

/-- The biquad of an analog section BW s / (s² − 2 R s + M) under the bilinear transform, with its pole at R ± jI: b0, a1 and a2; b1 is 0 and b2 is −b0. -/
def biquadOf (bw re im : Word) : Word × Word × Word :=
  let m := F32.add (F32.mul re re) (F32.mul im im)
  let twoR := F32.mul 0x40000000 re
  let a0 := F32.add (F32.sub 0x3F800000 twoR) m
  (F32.div bw a0, F32.div (F32.mul 0x40000000 (F32.sub m 0x3F800000)) a0, F32.div (F32.add (F32.add 0x3F800000 twoR) m) a0)

/-- The two biquads of the 4th-order Butterworth band-pass (R204): the poles (p BW ± √(p² BW² − 4 ω0²)) / 2 of the prototype's pole p = −√½ + j√½, whose p² is −j. -/
def butterworth (r : Nat) (lo hi : Word) : (Word × Word × Word) × (Word × Word × Word) :=
  let a := prewarp r lo
  let b := prewarp r hi
  let bw := F32.sub b a
  let w4 := F32.prod [0x40800000, a, b]
  let bw2 := F32.mul bw bw
  let half : Word := 0x3F000000
  let im := F32.sqrt (F32.mul half (F32.add (F32.mag w4 bw2) w4))
  let re := F32.div (F32.mul half bw2) im
  let h := F32.mul (F32.sqrt half) bw
  (biquadOf bw (F32.mul half (F32.sub re h)) (F32.mul half (F32.sub h im)),
   biquadOf bw (F32.mul half (F32.sub (F32.neg re) h)) (F32.mul half (F32.add h im)))

/-- One biquad on a sample, with two words of state. -/
def biquad (c : Word × Word × Word) (st : Word × Word) (x : Word) : (Word × Word) × Word :=
  let y := F32.add (F32.mul c.1 x) st.1
  ((F32.sub st.2 (F32.mul c.2.1 y), F32.sub (F32.neg (F32.mul c.1 x)) (F32.mul c.2.2 y)), y)

/-- The band-pass of R204 on a sample: row rate, f_lo and f_hi, state, input; the new state and the output. -/
def bandpass (r : Nat) (lo hi : Word) (st : List Word) (x : Word) : List Word × Word :=
  let c := butterworth r lo hi
  let u := biquad c.1 (st.getD 0 0, st.getD 1 0) x
  let v := biquad c.2 (st.getD 2 0, st.getD 3 0) u.2
  ([u.1.1, u.1.2, v.1.1, v.1.2], v.2)

/-- A band takes x (R204). -/
def BandState.step (b : BandState) (c : MonitorRec) (k r : Nat) (x : Word) : BandState :=
  let (lo, hi, _) := monEdge c k
  let (st, y) := bandpass r lo hi b.filt x
  let nr := F32.ofRat ((c.tAvg * r : Nat) : Int) 1000
  let m2 := F32.add b.m2 (F32.div (F32.sub (F32.mul y y) b.m2) nr)
  let a := F32.sqrt (F32.mul 0x40000000 m2)
  let n := (c.tAvg * r + 999) / 1000
  let prev := b.amps.getD (n - 1) 0
  let fc := F32.sqrt (F32.mul lo hi)
  let z :=
    if F32.eq prev 0 then 0
    else
      let d := F32.neg (F32.div (F32.sub (Config.ln32 a) (Config.ln32 prev)) (F32.ofRat (n : Int) r))
      F32.mul (F32.div d (F32.mul twoPi32 fc)) (F32.ofInt 100)
  { b with filt := st, m2 := m2, amps := (a :: b.amps).take n, zeta := z }

/-- Flags of a band in their order: ALERT, FORCED, RINGDOWN, GROWING. -/
def BandState.bits (b : BandState) : Nat := bit b.alert + 2 * bit b.forced + 4 * bit b.ringdown + 8 * bit b.growing

/-- A band's flags are evaluated (R205). -/
def BandState.evaluate (b : BandState) (c : MonitorRec) (k r : Nat) : BandState :=
  let ath := F32.val (monEdge c k).2.2
  let a := F32.val (b.amps.headD 0)
  let alert := if b.alert then !F32.dyLt (F32.dyMul ⟨10, 0⟩ a) (F32.dyMul ⟨8, 0⟩ ath) else !F32.dyLt a ath
  if alert then
    let z10 := F32.dyMul ⟨10, 0⟩ (F32.val b.zeta)
    let small := F32.dyLt (F32.dyAbs z10) ⟨c.zetaF, 0⟩
    { b with
      alert := true
      forced := small && c.tSus * r ≤ b.since
      ringdown := !small && 0 < z10.m
      growing := !small && z10.m < 0 }
  else { b with alert := false, forced := false, ringdown := false, growing := false, since := 0, logged := [false, false, false] }

/-- The events of the flags that rise in a band, once per ALERT episode. -/
def State.bandEvents (s : State) (i k : Nat) (b : BandState) : State × BandState :=
  let one := fun (x : State × BandState) (j code sev : Nat) (on : Bool) =>
    if on && !x.2.logged.getD j false then
      (x.1.log code sev (leBytes 2 i ++ leBytes 1 k ++ leBytes 1 0 ++ leBytes 4 (b.amps.headD 0).toNat), { x.2 with logged := x.2.logged.set j true })
    else x
  one (one (one (s, b) 0 0x0802 2 b.forced) 1 0x0803 1 b.ringdown) 2 0x0807 3 b.growing

/-- The analysis band that location's settings give now (R208). -/
def State.bandNow (s : State) : Word × Word :=
  if s.flag Reg.OSC_LOC_SRC 0 then
    match s.monitor (s.field Reg.OSC_LOC_SRC 17 4) with
    | some x => let e := monEdge x.cfg (s.field Reg.OSC_LOC_SRC 22 20); (e.1, e.2.1)
    | none => (0, 0)
  else (s.reg Reg.OSC_LOC_FLO, s.reg Reg.OSC_LOC_FHI)

/-- The analysis band of location: fixed under SRC 0, and under SRC 1 as it was taken when FORCED rose (R208). -/
def State.locBand (s : State) : Word × Word := if s.flag Reg.OSC_LOC_SRC 0 then s.osc.locEdges else s.bandNow

/-- Clears the state of every location branch. -/
def State.resetBranches (s : State) : State :=
  { s with osc := { s.osc with branches := s.osc.branches.map (fun b => LocState.mk b.cfg [] none none 0 []), locLast := [] } }

/-- Location becomes ACTIVE or ends (R208). -/
def State.setActive (s : State) (on : Bool) : State :=
  if on then
    let t := s.now
    let edges := s.bandNow
    let s := (s.setFlag Reg.OSC_LOC_STATUS 0 true).setFlag Reg.OSC_LOC_STATUS 1 true
    { s with osc := { s.osc with locSince := t, locLogged := false, locEdges := edges } }.resetBranches
  else (s.setFlag Reg.OSC_LOC_STATUS 0 false).setFlag Reg.OSC_LOC_STATUS 1 false

/-- FORCED of a band changes: location from that band begins or ends (R208). -/
def State.forcedChanged (s : State) (i k : Nat) (was now : Bool) : State :=
  if was = now || !s.flag Reg.OSC_CTRL 1 || !s.flag Reg.OSC_LOC_CTRL 0 || !s.flag Reg.OSC_LOC_SRC 0 || s.field Reg.OSC_LOC_SRC 17 4 ≠ i
      || s.field Reg.OSC_LOC_SRC 22 20 ≠ k then s
  else s.setActive now

/-- Halved work of a latency class under shedding (R212). -/
def State.halved (s : State) (lc : Nat) : Bool := (1 ≤ s.shedLevel && lc == 3) || (2 ≤ s.shedLevel && lc == 2)

/-- Writes outputs with HELD as a copy of the previous row's (R212). -/
def State.copyOutputs (s : State) (g tag : Nat) (l : List (Nat × Slot)) (closure : Option Nat) : State :=
  l.foldl (fun (s : State) (v : Nat × Slot) => s.writeDerived g tag v.1 v.2.a v.2.b (v.2.q ||| Q.held) closure) s

/-- Shows the monitor that OSC_MON_INDEX selects. -/
def State.showMonitor (s : State) : State :=
  let i := s.field Reg.OSC_MON_INDEX 13 0
  match s.monitor i with
  | some x =>
    let c := x.cfg
    let mask := (List.range 6).foldl (fun n b => n + bit (c.bands.getD b false) * 2 ^ b) 0
    let rg := ((kvGet s.aln.chans c.chan).map (fun r => r.rg)).getD 0
    let s := s.setReg Reg.OSC_MON_CFG (Word.ofNat (c.chan + c.sel * 2 ^ 18 + mask * 2 ^ 24 + 2 ^ 31))
    let s := s.setReg Reg.OSC_MON_PARAM (Word.ofNat (c.tAvg / 10 + c.tSus * 2 ^ 16 + c.zetaF * 2 ^ 24))
    let st := x.bands.mapIdx (fun b y => y.bits * 16 ^ b)
    let s := s.setField Reg.OSC_MON_STATUS 23 0 (st.foldl (· + ·) 0)
    let s := s.setFlag Reg.OSC_MON_STATUS 24 (monitorSettling c (s.rate rg) x.goodRows)
    (List.range 6).foldl (fun (s : State) b =>
      let e := monEdge c b
      let s := (s.setReg (Reg.OSC_BAND_FLO b) e.1).setReg (Reg.OSC_BAND_FHI b) e.2.1
      (s.setReg (Reg.OSC_BAND_ATH b) e.2.2).setReg (Reg.OSC_BAND_AMP b) ((x.bands.getD b {}).amps.headD 0)) s
  | none => (List.range 28).foldl (fun (s : State) k => if k = 1 then s else s.setReg (Reg.OSC_MON_CFG + 4 * k) 0) s

/-- OSC_BAND: a monitor works on a row (R204 to R206, R212). -/
def State.oscBand (s : State) (i g n tag lc : Nat) (closure : Option Nat) : State :=
  match s.monitor i with
  | some x =>
    if !s.flag Reg.OSC_CTRL 0 || x.ran.contains tag then s
    else
    let c := x.cfg
    let r := s.rate g
    let v := quantity c.sel (s.readSlot g tag c.chan) (s.readSlot g tag c.ref) x.lastArg
    let bad := if v.isSome then 0 else x.badRows + 1
    let reset := bad == 6
    let feed := decide (bad ≤ 5)
    let in_ := if reset then 0 else v.getD x.lastX
    let good := if reset then 0 else x.goodRows + bit v.isSome
    let settling := monitorSettling c r good
    let old := List.range 6 |>.map (fun b => x.bands.getD b {})
    let step := fun (b : Nat) (y : BandState) =>
      if !c.bands.getD b false then y
      else if reset then {}
      else if feed then let z := y.step c b r in_; { z with since := if z.alert then z.since + 1 else 0 } else y
    let bands := old.mapIdx step
    let halved := s.halved lc
    let eval := !settling && (!halved || n % 2 == 0)
    let bands := if eval then bands.mapIdx (fun b y => if c.bands.getD b false then y.evaluate c b r else y) else bands
    let s := if reset then s.bump Reg.OSC_CNT_MON_RESET else s
    let (s, bands) := bands.foldl (fun (p : State × List BandState) y =>
      let (s, y) := p.1.bandEvents i p.2.length y
      (s, p.2 ++ [y])) (s, [])
    let s := s.modMonitor i (fun z => { z with
      bands := bands, lastX := in_, badRows := bad, goodRows := good
      ran := tag :: z.ran.filter (fun t => (s.furrow g t).isSome)
      lastArg := if c.sel = 3 && !reset then (if v.isSome then v else z.lastArg) else none })
    let s := (List.range 6).foldl (fun (s : State) b =>
      s.forcedChanged i b (old.getD b {}).forced (bands.getD b {}).forced) s
    let s := if s.field Reg.OSC_MON_INDEX 13 0 = i then (s.setFlag Reg.OSC_MON_STATUS 25 halved).showMonitor else s
    if halved && n % 2 == 1 then
      let s := s.copyOutputs g tag x.lastOut closure
      if reset then s.modMonitor i (fun z => { z with lastOut := z.lastOut.map (fun y => (y.1, Slot.mk 0 0 (Q.derived ||| Q.settling) 0 0xFFFF 0)) }) else s
    else
      let q : Half := Q.derived ||| (if settling then Q.settling else if v.isSome then Q.valid else 0)
      let word := (bands.mapIdx (fun b y => y.bits * 16 ^ b)).foldl (· + ·) 0
      let vals := (c.outBase, Word.ofNat word, (0 : Word)) ::
        (monOn c).map (fun b => (c.outBase + 1 + b, (bands.getD b {}).amps.headD 0, (bands.getD b {}).zeta))
      let s := vals.foldl (fun (s : State) (y : Nat × Word × Word) => s.writeDerived g tag y.1 y.2.1 y.2.2 q closure) s
      let outs := vals.map (fun y => (y.1, Slot.mk y.2.1 y.2.2 q 0 0xFFFF 0))
      s.modMonitor i (fun z => { z with lastOut := outs })
  | none => s

/-! ### Source location (R208 to R210) -/

/-- P, Q, θ and ℓ of a branch in a row, none where an input is not VALID (R209). -/
def State.locInputs (s : State) (g tag : Nat) (b : LocState) : Option (List Word) :=
  let v := s.readSlot g tag b.cfg.vChan
  let i := s.readSlot g tag b.cfg.iChan
  if hasQ v.q Q.valid && hasQ i.q Q.valid then
    let (ia, ib) := if b.cfg.reverse then (F32.neg i.a, F32.neg i.b) else (i.a, i.b)
    let z := F32.cmul v.a v.b ia (F32.neg ib)
    some [F32.mul b.cfg.ks z.1, F32.mul b.cfg.ks z.2, unwrap b.lastArg (F32.arg v.a v.b), Config.ln32 (F32.mag v.a v.b)]
  else none

/-- A branch takes a row (R209). -/
def LocState.step (b : LocState) (r n win : Nat) (lo hi : Word) (x : Option (List Word)) : LocState :=
  match x with
  | none => { b with ws := b.ws.filter (fun y => decide (n < y.1 + win * r)) }
  | some l =>
    let out := l.mapIdx (fun k v => bandpass r lo hi (b.filt.getD k []) v)
    let d := fun (k : Nat) => (out.getD k ([], 0)).2
    let w := match b.prev with
      | some (th, el) => F32.add b.w (F32.add (F32.mul (d 0) (F32.sub (d 2) th)) (F32.mul (d 1) (F32.sub (d 3) el)))
      | none => b.w
    { b with filt := out.map (fun y => y.1), prev := some (d 2, d 3), lastArg := some (l.getD 2 0), w := w
             ws := ((n, w) :: b.ws).filter (fun y => decide (n < y.1 + win * r)) }

/-- The least-squares slope of W over its rows, per second (R209). -/
def slopeOf (r : Nat) (l : List (Nat × Word)) : Word :=
  match l.getLast? with
  | none => 0
  | some (n0, _) =>
    let n : Int := l.length
    let k := fun (y : Nat × Word) => ((y.1 - n0 : Nat) : Int)
    let sk := (l.map k).foldl (· + ·) 0
    let skk := (l.map (fun y => k y * k y)).foldl (· + ·) 0
    let sy := dySum (l.map (fun y => F32.val y.2))
    let sky := dySum (l.map (fun y => F32.dyMul ⟨k y, 0⟩ (F32.val y.2)))
    let den := n * skk - sk * sk
    if den = 0 then 0
    else dyOver (F32.dyMul ⟨(r : Int), 0⟩ (F32.dySub (F32.dyMul ⟨n, 0⟩ sky) (F32.dyMul ⟨sk, 0⟩ sy))) den.toNat

/-- The rank of branch i: 1 plus the branches with a larger D, or an equal one and a lower number (R210). -/
def rankOf (ds : List Word) (i : Nat) : Nat :=
  let d := ds.getD i 0
  1 + ((List.range ds.length).filter (fun j => F32.lt d (ds.getD j 0) || (F32.eq d (ds.getD j 0) && decide (j < i)))).length

/-- OSC_DEF: source location works on a row (R209, R210, R212). -/
def State.oscDef (s : State) (n tag : Nat) (closure : Option Nat) : State :=
  if !s.flag Reg.OSC_CTRL 1 || !s.flag Reg.OSC_LOC_CTRL 0 || s.osc.locRan.contains tag then s
  else
    let g := s.field Reg.OSC_LOC_CTRL 2 1
    let s := { s with osc := { s.osc with locRan := tag :: s.osc.locRan.filter (fun t => (s.furrow g t).isSome) } }
    let b := s.osc.locBase
    let nb := s.osc.branches.length
    let out := fun (s : State) (l : List (Nat × Slot)) =>
      l.foldl (fun (s : State) (v : Nat × Slot) => s.writeDerived g tag v.1 v.2.a v.2.b v.2.q closure) s
    if !s.flag Reg.OSC_LOC_STATUS 0 then
      out s ((List.range (nb + 1)).map (fun i => (b + i, Slot.mk 0 0 (Q.derived ||| Q.missing) 0 0xFFFF 0)))
    else
      let (lo, hi) := s.locBand
      let win := s.field Reg.OSC_LOC_WIN 6 0
      let r := s.rate g
      let br := s.osc.branches.map (fun y => y.step r n win lo hi (s.locInputs g tag y))
      let s := { s with osc := { s.osc with branches := br } }
      if s.halved (s.field Reg.OSC_LOC_CTRL 5 4) && n % 2 == 1 then s.copyOutputs g tag s.osc.locLast closure
      else
        let full := decide (s.osc.locSince + win * 1000000000 ≤ tag)
        let ds := br.map (fun y => slopeOf r y.ws)
        let top := ((List.range nb).find? (fun i => rankOf ds i == 1)).getD 0
        let q : Half := Q.derived ||| (if full then Q.valid else Q.settling)
        let l := (b, Slot.mk (F32.sqrt (F32.mul lo hi)) (F32.ofInt top) q 0 0xFFFF 0) ::
          (List.range nb).map (fun i => (b + 1 + i, Slot.mk (ds.getD i 0) (F32.ofInt (rankOf ds i)) q 0 0xFFFF 0))
        let s := (s.setFlag Reg.OSC_LOC_STATUS 1 (!full)).setField Reg.OSC_LOC_STATUS 24 16 top
        let s := if full && !s.osc.locLogged then s.log 0x0806 2 (leBytes 2 top ++ leBytes 2 0 ++ leBytes 4 (ds.getD top 0).toNat) else s
        let s := { s with osc := { s.osc with locLast := l, locLogged := s.osc.locLogged || full } }
        out s l

/-! ### What runs when (R195, R200, R207, R210) -/

/-- A graph of the image holds a node of an operator. -/
def State.placed (s : State) (op : Operator) : Bool := s.dfs.graphs.any (fun g => decide (g.1 < 4096) && g.2.cfg.nodes.any (fun n => n.op == op))

/-- The class and the closure instant with which a monitor works on a row: those of its measured channel's section; a derived channel's producer gives the class (R207, R30). -/
def State.monitorClass (s : State) (f : Furrow) (c : Nat) : Nat × Option Nat :=
  match kvGet s.aln.chans c with
  | some r =>
    if r.derived then
      (((s.dfs.graphs.find? (fun g => g.2.cfg.nodes.any (fun n => match n.op with
        | .slotWrite l => l.contains c
        | _ => false))).map (fun g => g.2.cfg.lc)).getD 1, none)
    else (s.secLc r.rg r.sec, kvGet f.closedAt r.sec)
  | none => (3, none)

/-- The monitors of a group whose channel a furrow now holds, and that no graph runs, work on the row (R207). -/
def State.monitorsDue (s : State) (g : Nat) (f : Furrow) : State :=
  s.osc.monitors.foldl (fun (s : State) (m : Nat × MonitorState) =>
    let c := m.2.cfg
    if !m.2.ran.contains f.tag && ((kvGet s.aln.chans c.chan).map (fun r => r.rg)) == some g && s.chanReady f c.chan && !s.placed (.oscBand m.1) then
      let k := s.monitorClass f c.chan
      s.oscBand m.1 g f.idx f.tag k.1 k.2
    else s) s

/-- Location works on a furrow once every branch's channels have their values, where no graph runs it (R210). -/
def State.locationDue (s : State) (g : Nat) (f : Furrow) : State :=
  if s.flag Reg.OSC_CTRL 1 && s.flag Reg.OSC_LOC_CTRL 0 && s.field Reg.OSC_LOC_CTRL 2 1 == g && !s.placed .oscDef
      && s.osc.branches.all (fun b => s.chanReady f b.cfg.vChan && s.chanReady f b.cfg.iChan) then s.oscDef f.idx f.tag none
  else s

/-- Groups whose signals' sections have all closed in a furrow write it, where no graph does or a graph has left it to this closure (R200). -/
def State.publishDue (s : State) (rg : Nat) (f : Furrow) : State :=
  ((List.range 32).filter (fun g => s.oscOn g && s.oscRg g == rg)).foldl (fun (s : State) g =>
    let x := s.oscGroup g
    if s.oscClosed g f && (!s.placed (.oscPub g) || x.toPublish.contains f.tag) then
      (s.oscPub g f.tag none).modOsc g (fun y => { y with toPublish := y.toPublish.filter (fun t => t != f.tag) })
    else s) s

/-- Everything of the analyser that the rows now allow: OSC_PUB, the band monitors and location on each row, then the refreshes (R195, R200, R207, R210). -/
def State.oscDue (s : State) : State :=
  if !s.flag Reg.OSC_CTRL 0 && !s.flag Reg.OSC_CTRL 1 then s
  else
    let s := s.aln.groups.foldl (fun (s : State) (x : Nat × GroupState) => x.2.furrows.foldl (fun (s : State) f =>
      (((s.publishDue x.1 f).monitorsDue x.1 f).locationDue x.1 ((s.furrow x.1 f.tag).getD f))) s) s
    s.oscRefreshes

/-- `OSC_REFRESH_INSTANT`: a multiple of the refresh interval passes (R195). -/
def execOscRefreshInstant (group : Nat) (s : State) : Host.Outcome State Fault Refusal := answer <|
  let iv := s.field (Reg.OSC_G_REFRESH group) 13 0 * 1000000
  let i := s.now / max 1 iv * iv
  if s.oscOn group && (s.oscGroup group).instant < i then
    let s := s.oscDue
    let t := tagFrom (s.rate (s.oscRg group)) i
    (s.modOsc group (fun y => { y with instant := i, waiting := y.waiting ++ [t] })).oscDue
  else s

/-! ### Commits (R191, R203, R209, R213) -/

/-- A group's settings lie in the ranges of R191. -/
def oscGroupOk (band win iv modes : Word) : Bool :=
  let lo := bitsOf band 15 0
  let hi := bitsOf band 31 16
  let w := bitsOf win 10 0
  1 ≤ lo && lo < hi && hi ≤ 500 && 30 ≤ w && w ≤ 1200 && 1000 ≤ lo * w && 250 ≤ bitsOf iv 13 0 && bitsOf iv 13 0 ≤ 10000
    && 1 ≤ bitsOf modes 4 0 && bitsOf modes 4 0 ≤ 16 && bitsOf modes 12 8 ≤ 25

/-- A monitor's settings lie in the ranges of R203, at row rate r. -/
def monitorOk (c : MonitorRec) (r : Nat) : Bool :=
  let v := F32.val
  100 ≤ c.tAvg && c.tAvg ≤ 60000 && 1 ≤ c.tSus && c.tSus ≤ 255 && 1 ≤ c.zetaF && c.zetaF ≤ 255 && (monOn c).all (fun b =>
    let (lo, hi, a) := monEdge c b
    !F32.notFinite lo && !F32.notFinite hi && !F32.notFinite a
      && F32.dyLe ⟨1, 0⟩ (F32.dyMul ⟨100, 0⟩ (v lo)) && F32.dyLe (v hi) ⟨5, 0⟩
      && F32.dyLe (F32.dyMul ⟨10, 0⟩ (v hi)) ⟨(4 * r : Nat), 0⟩
      && F32.dyLe (F32.dyMul ⟨12, 0⟩ (v lo)) (F32.dyMul ⟨10, 0⟩ (v hi)) && F32.dyLt ⟨0, 0⟩ (v a))

/-- Rate group of a channel. -/
def State.chanRg (s : State) (c : Nat) : Nat := ((kvGet s.aln.chans c).map (fun r => r.rg)).getD 0

/-- Why a rate group's OSC commit is refused, with the index: 1 group, 2 monitor, 3 location. -/
def State.oscCause (s : State) (rg : Nat) : Option (Nat × Nat) :=
  let g := (List.range 32).find? (fun g => s.oscOn g && s.oscRg g == rg && !oscGroupOk (s.staged (Reg.OSC_G_BAND g))
    (s.staged (Reg.OSC_G_WINDOW g)) (s.staged (Reg.OSC_G_REFRESH g)) (s.staged (Reg.OSC_G_MODES g)))
  let m := s.osc.monitors.find? (fun x => match x.2.stage with
    | some c => s.chanRg c.chan == rg && !monitorOk c (s.rate rg)
    | none => false)
  let w := bitsOf (s.staged Reg.OSC_LOC_WIN) 6 0
  match g, m with
  | some g, _ => some (1, g)
  | none, some x => some (2, x.1)
  | none, none => if s.flag Reg.OSC_LOC_CTRL 0 && s.field Reg.OSC_LOC_CTRL 2 1 = rg && (w < 5 || 120 < w) then some (3, 0) else none

/-- Commits a group's staged settings; a change of FMIN or FMAX resets it (R201, R213). -/
def State.commitOscGroup (s : State) (g : Nat) : State :=
  let old := s.reg (Reg.OSC_G_BAND g)
  let s := s.commitRange (Reg.OSC_G_CTRL g) 0x100
  if s.reg (Reg.OSC_G_BAND g) = old then s else s.oscReset g

/-- Commits the location's staged settings; a change of band resets every branch (R208). -/
def State.commitLoc (s : State) : State :=
  let key := fun (s : State) => (s.reg Reg.OSC_LOC_SRC, s.locBand)
  let old := key s
  let s := s.commitRange Reg.OSC_LOC_CTRL 0x14
  if key s = old then s
  else if s.flag Reg.OSC_LOC_SRC 0 then
    let on := match s.monitor (s.field Reg.OSC_LOC_SRC 17 4) with
      | some x => (x.bands.getD (s.field Reg.OSC_LOC_SRC 22 20) {}).forced
      | none => false
    s.setActive (on && s.flag Reg.OSC_CTRL 1 && s.flag Reg.OSC_LOC_CTRL 0)
  else s.setActive (s.flag Reg.OSC_CTRL 1 && s.flag Reg.OSC_LOC_CTRL 0)

/-- A rate group's OSC settings commit at its row boundary, or are refused whole (R213). -/
def State.commitOsc (s : State) (rg : Nat) : State :=
  if !s.flag Reg.OSC_COMMIT rg then s
  else
    let s := s.setFlag Reg.OSC_COMMIT rg false
    match s.oscCause rg with
    | some (c, i) =>
      let s := ((s.setFlag Reg.OSC_COMMIT_STAT rg true).setField Reg.OSC_COMMIT_STAT 10 8 c).setField Reg.OSC_COMMIT_STAT 29 16 i
      s.log 0x0808 1 (leBytes 1 rg ++ leBytes 1 c ++ leBytes 2 i)
    | none =>
      let oldBand := s.locBand
      let s := ((List.range 32).filter (fun g => s.oscRg g == rg)).foldl (fun (s : State) g => s.commitOscGroup g) s
      let s := { s with osc := { s.osc with monitors := s.osc.monitors.map (fun (x : Nat × MonitorState) =>
        match x.2.stage with
        | some c => if s.chanRg c.chan == rg then (x.1, { x.2 with cfg := c, stage := none }) else x
        | none => x) } }
      let s := if s.field Reg.OSC_LOC_CTRL 2 1 = rg then s.commitLoc else s
      let s := if s.locBand = oldBand then s else s.resetBranches
      s.showMonitor

/-- `OSC_COMMIT`: each named rate group commits at its next row boundary; one that does not run commits at once (R213). -/
def execOscCommit (mask : Word) (s : State) : Host.Outcome State Fault Refusal := answer <|
  (List.range 4).foldl (fun (s : State) g =>
    if mask.getLsbD g then
      let s := s.setFlag Reg.OSC_COMMIT g true
      if (s.group g).isSome then s else s.commitOsc g
    else s) s

end Sys2Proof.Machine
end

