-- ==== Sys2Proof/Machine/Time.lean ====
section
/-!
DEFINITION. Device Time and synchronisation (04_device_time.md): the counter, the servo, the sources, UTC and leap seconds.
-/
namespace Sys2Proof.Machine

/-! ### Register pairs (R3) -/

/-- A write of a _LO register only holds its value. -/
def State.holdLo (s : State) (lo : Nat) (v : Word) : State := { s with loHold := kvPut s.loHold lo v }

/-- The lower half that a write of _HI pairs with: the value held, or the lower half in effect. -/
def State.lowHalf (s : State) (lo : Nat) : Word := (kvGet s.loHold lo).getD (s.reg lo)

/-- The held value is used up. -/
def State.clearLo (s : State) (lo : Nat) : State := { s with loHold := kvDel s.loHold lo }

/-! ### The counter (R93, R94) -/

/-- 200 ppm of the nominal increment 0x02_8F5C_28F6, in 2^-32 ns (R96). -/
def incLimit : Int := 2199023

/-- The nominal increment in 2^-32 ns. -/
def incNominal : Int := 0x028F5C28F6

/-- TIM_INC in 2^-32 ns. -/
def State.inc (s : State) : Nat := (s.field Reg.TIM_INC_HI 7 0) * 2 ^ 32 + (s.reg Reg.TIM_INC_LO).toNat

/-- Sets TIM_INC. -/
def State.setInc (s : State) (i : Int) : State :=
  (s.setReg Reg.TIM_INC_LO (BitVec.ofInt 32 i)).setReg Reg.TIM_INC_HI (BitVec.ofInt 32 (i / 2 ^ 32) &&& 0xFF#32)

/-- Sets Device Time, modulo 2^64, and shows it. -/
def State.setNow (s : State) (t : Nat) : State :=
  let lo := Word.ofNat t
  let hi := Word.ofNat (t / 2 ^ 32)
  let s := { s with tim := { s.tim with ns := lo, hi := hi } }
  ((s.setReg Reg.TIM_NS lo).setReg Reg.TIM_TIME_LO lo).setReg Reg.TIM_TIME_HI hi

/-- TIM_NS before its wrap is taken: the sum of a tick. -/
def State.nsSum (s : State) : Nat := (s.tim.ns.toNat * 2 ^ 32 + s.tim.frac.toNat + s.inc) / 2 ^ 32

/-- One CLK_PORT tick: TIM_NS and the hidden fraction take TIM_INC, and a wrap raises TIM_TIME_HI and sets ROLL (R93, R94). -/
def State.tickTime (s : State) : State :=
  let sum := s.tim.ns.toNat * 2 ^ 32 + s.tim.frac.toNat + s.inc
  let t := s.tim.hi.toNat * 2 ^ 32 + sum / 2 ^ 32
  let wraps := 2 ^ 32 ≤ sum / 2 ^ 32
  let s := { s with tim := { s.tim with frac := Word.ofNat sum, ticks := s.tim.ticks + 1 } }
  let s := s.setNow t
  if wraps then s.setFlag Reg.TIM_EVT 0 true else s

/-! ### Estimated error and time quality (R101) -/

/-- The C37.118.2 time-quality code of an error in ns: the smallest n from 1 to 0xB with 10^(n−10) s ≥ E, else 0xF. -/
def tqCode (e : Nat) : Nat := ((List.range 11).find? (fun k => e ≤ 10 ^ k)).elim 0xF (fun k => k + 1)

/-- STAT[8:6] of Table 04-4 in LOCKED and HOLDOVER. -/
def statTq (e : Nat) : Nat := ((List.range 6).find? (fun k => e < 10 ^ (k + 2))).elim 7 (fun k => k + 1)

/-- STAT[5:4] of Table 04-4. -/
def statUnlock (u : Nat) : Nat :=
  if u < 10000000000 then 0 else if u < 100000000000 then 1 else if u < 1000000000000 then 2 else 3

/-- The unlocked time U in ns. -/
def State.unlocked (s : State) : Nat := if s.syncState = 2 then 0 else s.elapsed - s.tim.lockedAt

/-- Mode HOST (TIM_CTRL.MODE). -/
def State.hostMode (s : State) : Bool := s.field Reg.TIM_CTRL 1 0 == 1

/-- The time-quality code for a state, an error and traceability (R98, R101). -/
def tqOf (sync e : Nat) (traceable : Bool) : Nat :=
  if sync < 2 then 0xF else if sync = 2 && traceable && e ≤ 1000 then 0 else tqCode e

/-- Shows STAT_UNLOCK. -/
def State.showUnlock (s : State) : State := s.setField Reg.TIM_STATUS 17 16 (statUnlock s.unlocked)

/-- E in the present state (R97, R101). -/
def State.errNow (s : State) : Nat :=
  if s.hostMode then (s.reg Reg.TIM_HOST_ERR).toNat
  else match s.syncState with
    | 2 => s.tim.bound + (s.reg Reg.TIM_LOCK_THRESH).toNat
    | 3 => s.tim.eLocked + (s.reg Reg.TIM_HOLD_DRIFT).toNat * (s.elapsed - s.tim.lockedAt) / 1000000000
    | _ => 0xFFFFFFFF

/-- Shows the time bits that follow from the state and from E, which TIM_ERR_EST saturates but the code does not (R98, R101). -/
def State.showQuality (s : State) : State :=
  let e := s.errNow
  let s := s.setField Reg.TIM_STATUS 11 8 (tqOf s.syncState e (s.flag Reg.TIM_STATUS 18))
  let s := s.setField Reg.TIM_STATUS 14 12 (if s.syncState < 2 then 7 else statTq e)
  s.showUnlock

/-- Evaluates E and what follows from it. -/
def State.evalErr (s : State) : State := s.noteValidity (s.setReg Reg.TIM_ERR_EST (satWord s.errNow)).showQuality

/-- Takes a synchronisation state: TIM_STATUS.STATE, TIM_EVT.STATE_CHANGE, and the consecutive counts start again (R98). -/
def State.setSync (s : State) (st : Nat) : State :=
  let s := if s.syncState = st then s else s.setFlag Reg.TIM_EVT 1 true
  let s := if st = 2 && s.syncState ≠ 2 then s.lockWave else s
  let t := s.setField Reg.TIM_STATUS 2 0 st
  s.noteValidity (t.setReg Reg.TIM_ERR_EST (satWord t.errNow)).showQuality

/-- Event 0x0403, from a state. -/
def State.logFree (s : State) (old e : Nat) : State := s.log 0x0403 3 (leBytes 1 old ++ leBytes 4 e)

/-- Event 0x0402. -/
def State.logHoldover (s : State) (src cause : Nat) : State := s.log 0x0402 2 (leBytes 1 src ++ leBytes 1 cause)

/-- Event 0x0401. -/
def State.logLocked (s : State) : State :=
  s.log 0x0401 0 (leBytes 1 (s.field Reg.TIM_STATUS 5 4) ++ leBytes 4 (s.reg Reg.TIM_ERR_EST).toNat)

/-- Event 0x040A for a register and a cause. -/
def State.refuseTim (s : State) (reg cause : Nat) : State := s.log 0x040A 1 (leBytes 4 reg ++ leBytes 1 cause)

/-! ### The servo (R99) -/

/-- Starts the consecutive counts again. -/
def State.zeroCounts (s : State) : State := { s with tim := { s.tim with overS := 0, underL := 0, over4L := 0 } }

/-- TIM_INC = F + φ. -/
def State.applyServo (s : State) : State := s.setInc (incNominal + s.tim.freq + s.tim.slew)

/-- The slew in progress stops and TIM_INC is frozen at F. -/
def State.freezeServo (s : State) : State := { s with tim := { s.tim with slew := 0, slewEnd := none } }.applyServo

/-- Corrects F by 1/8 of the frequency error that two measurements show. -/
def State.correctFreq (s : State) (offset : Int) : State :=
  let t := s.now
  match s.tim.prev with
  | some (o, t0) =>
    let f := if t0 < t then s.tim.freq + incNominal * (offset - o) / (8 * ((t : Int) - t0)) else s.tim.freq
    { s with tim := { s.tim with freq := max (-incLimit) (min incLimit f), prev := some (offset, t) } }
  | none => { s with tim := { s.tim with prev := some (offset, t) } }

/-- Ticks after which a slew has removed its offset. -/
def slewTicks (offset slew : Int) : Nat := if slew = 0 then 0 else (offset.natAbs * 2 ^ 32 + slew.natAbs - 1) / slew.natAbs

/-- A new slew removes the offset over 1 s, within ±200 ppm (R99). -/
def State.startSlew (s : State) (offset : Int) : State :=
  let lim := max (-incLimit - s.tim.freq) (min (incLimit - s.tim.freq) (incNominal * offset / 1000000000))
  { s with tim := { s.tim with slew := lim, slewEnd := some (s.tim.ticks + slewTicks offset lim) } }.applyServo

/-- The slew ends once it has removed its offset; in mode HOST there is none (R97). -/
def State.slewDue (s : State) : State :=
  match s.tim.slewEnd with
  | some t => if t ≤ s.tim.ticks && !s.hostMode then s.freezeServo else s
  | none => s

/-- In mode HOST the servo is stopped: a slew in progress ends with TIM_INC at F (R96, R97). -/
def State.stopServo (s : State) : State := if s.hostMode && s.tim.slewEnd.isSome then s.freezeServo else s

/-- A step of Device Time moves the timetable of the cyclic tasks with it (R265). -/
def State.stepCyc (s : State) (off : Int) : State :=
  let s := { s with cyc := { s.cyc with tasks := s.cyc.tasks.map (fun (t : TaskState) =>
    { t with offset := t.offset + off, nextStart := ((t.nextStart : Int) + off).toNat }) } }
  if off = 0 then s
  else
    let s := (List.range 4).foldl (fun (s : State) t => s.setReg (Reg.CYC_T_OFFSET t) (satS32 (((s.cyc.tasks.getD t {}).offset)))) s
    s.setFlag Reg.CYC_STATUS 7 (s.cyc.tasks.all (fun t => t.offset == 0))

/-- Steps Device Time by an offset, with event 0x0405 (R96); firmware's extension takes the step too. -/
def State.stepBy (s : State) (off : Int) : State :=
  let move := fun (t : Nat) => ((t : Int) + off) % 2 ^ 64 |>.toNat
  let dt := move s.tim.checkDt
  let old := s.now
  let s := s.setNow (move s.now)
  let sec := min s.tim.lastSec s.second
  let s := { s with tim := { s.tim with lastSec := sec, checkDt := dt, prev := none, slew := 0, slewEnd := none } }.zeroCounts
  let s := if s.hostMode then (s.setField Reg.TIM_HOST_SYNC 2 0 0).setReg Reg.TIM_HOST_ERR 0xFFFFFFFF#32 else s.applyServo
  let s := if s.hostMode && s.syncState == 2 then { s with tim := { s.tim with lockedAt := s.elapsed } } else s
  let s := s.setSync (if s.hostMode then 0 else 1)
  (((s.bump Reg.TIM_CNT_STEP).log 0x0405 2 (leBytes 8 ((BitVec.ofInt 64 off).toNat))).stepRows old).stepWave.stepOsc.stepCyc off

/-! ### Sources (R100) -/

/-- TIM_CTRL.SRC_TIMEOUT in ns. -/
def State.srcTimeout (s : State) : Nat := s.field Reg.TIM_CTRL 11 8 * 1000000000

/-- A source is valid; PTP and IRIG-B until SRC_TIMEOUT after the last Sync or frame (DESIGN CHOICE, log entry 36). -/
def State.srcValid (s : State) (src : Nat) : Bool :=
  match src with
  | 1 => s.tim.parent.isSome && (match s.tim.lastSync with
    | some t => decide (s.elapsed < t + s.srcTimeout)
    | none => false)
  | 2 => match s.tim.irig with
    | some (_, _, ok) => ok && decide (s.elapsed < s.tim.irigAt + s.srcTimeout)
    | none => false
  | 3 => match s.tim.pps with
    | some (t, ok) => ok && decide (s.elapsed ≤ t + 1001000000)
    | none => false
  | _ => false

/-- The highest-priority source that is valid and not declared faulty; 0 for none. -/
def State.bestSource (s : State) : Nat :=
  let c := s.reg Reg.TIM_SRC_CTRL
  ([bitsOf c 2 0, bitsOf c 6 4, bitsOf c 10 8].find? (fun x => s.srcValid x && (kvGet s.tim.faults x).isNone)).getD 0

/-- The source in use. -/
def State.source (s : State) : Nat := s.field Reg.TIM_STATUS 5 4

/-- Changes the source in use: counts and the frequency estimate start again, and the old source supplies neither O nor leap information any more (R100, R108, R109).  A change to a source logs event 0x0404, and so does row 2 of Table 04-2 where no source is left. -/
def State.changeSource (s : State) (new cause : Nat) : State :=
  let old := s.source
  if new = old then s
  else
    let s := ((s.setField Reg.TIM_STATUS 5 4 new).zeroCounts).setFlag Reg.TIM_TAI_UTC 16 false
    let s := { s with tim := { s.tim with prev := none, leapSrc := false } }
    if new = 0 && cause ≠ 3 then s else s.log 0x0404 1 (leBytes 1 old ++ leBytes 1 new ++ leBytes 1 cause)

/-- |offset| exceeds a threshold. -/
def exceeds (offset : Int) (n : Nat) : Bool := decide (n < offset.natAbs)

/-- Counts a measurement against the thresholds (R99). -/
def State.countMeas (s : State) (offset : Int) : State :=
  let l := (s.reg Reg.TIM_LOCK_THRESH).toNat
  let st := (s.reg Reg.TIM_STEP_THRESH).toNat
  { s with tim := { s.tim with
      overS := if exceeds offset st then s.tim.overS + 1 else 0
      underL := if exceeds offset l then 0 else s.tim.underL + 1
      over4L := if exceeds offset (4 * l) then s.tim.over4L + 1 else 0 } }

/-- Remembers E and the time of a measurement made in LOCKED (R101). -/
def State.markLocked (s : State) : State :=
  if s.syncState = 2 then
    { s with tim := { s.tim with eLocked := s.tim.bound + (s.reg Reg.TIM_LOCK_THRESH).toNat, lockedAt := s.elapsed } }.evalErr
  else s

/-- Row 2 of Table 04-2: the source is faulty for 600 s. -/
def State.faultSource (s : State) : State :=
  let src := s.source
  let old := s.syncState
  let s := { s with tim := { s.tim with faults := kvPut s.tim.faults src (s.elapsed + 600000000000) } }
  let s := s.freezeServo.setSync 3
  let s := if old = 2 then s.logHoldover src 3 else s
  (s.changeSource s.bestSource 3).zeroCounts

/-- Table 04-2 and the servo for one measurement of the source in use, in mode AUTO.  Every measurement after the first corrects F; the one that enters ACQUIRING is the first of the next pair. -/
def State.applyMeasure (s : State) (offset : Int) : State :=
  let st := s.syncState
  let s := s.correctFreq offset
  if 3 ≤ s.tim.overS && (!s.flag Reg.TIM_CTRL 4 || st < 2) then s.stepBy offset
  else if 3 ≤ s.tim.overS then s.faultSource
  else if st = 0 then
    if exceeds offset (s.reg Reg.TIM_STEP_THRESH).toNat then s.startSlew offset else (s.startSlew offset).setSync 1
  else if 16 ≤ s.tim.underL && st ≠ 2 then ((s.startSlew offset).setSync 2).markLocked.logLocked
  else if st = 2 && 4 ≤ s.tim.over4L then
    let src := s.source
    (s.markLocked.freezeServo.setSync 3).logHoldover src 2
  else (s.startSlew offset).markLocked

/-- A valid measurement from a source: it may make that source the one in use, and counts only from that one (R97, R99, R100). -/
def State.measure (s : State) (src : Nat) (offset : Int) (bound : Nat) (traceable : Bool) : State :=
  let cause := if s.source ≠ 0 && !s.srcValid s.source then 2 else 1
  let s := s.changeSource s.bestSource cause
  if s.source ≠ src then s
  else
    let s := (s.bump Reg.TIM_CNT_MEAS).setReg Reg.TIM_OFFSET (satS32 offset)
    let s := { s with tim := { s.tim with lastMeas := s.elapsed } }
    if s.hostMode then s
    else
      let s := { s with tim := { s.tim with bound := bound, traceable := traceable } }
      let s := s.setFlag Reg.TIM_STATUS 18 traceable
      (s.countMeas offset).applyMeasure offset

/-! ### UTC offset and leap seconds (R108 to R111) -/

/-- O at a UTC second, from the newest change on: changes are (midnight, offset before). -/
def offsetUtc : List (Nat × Int) → Int → Int → Int
  | [], o, _ => o
  | (m, b) :: r, o, u => if (m : Int) ≤ u then o else offsetUtc r b u

/-- O at a TAI second: a change takes effect at TAI second midnight + the new offset. -/
def offsetTai : List (Nat × Int) → Int → Int → Int
  | [], o, _ => o
  | (m, b) :: r, o, t => if (m : Int) + o ≤ t then o else offsetTai r b t

/-- TIM_LEAP.DIR: a deletion is pending. -/
def State.leapDel (s : State) : Bool := s.flag Reg.TIM_LEAP 1

/-- The changes of O, the pending one among them, and O after all of them. -/
def State.utcChanges (s : State) : List (Nat × Int) × Int :=
  match s.tim.leapMid with
  | some m => ((m, s.taiUtc) :: s.tim.utcLog, if s.leapDel then s.taiUtc - 1 else s.taiUtc + 1)
  | none => (s.tim.utcLog, s.taiUtc)

/-- The old offset where an insertion took place at a UTC midnight. -/
def insertedAt : List (Nat × Int) → Int → Int → Option Int
  | [], _, _ => none
  | (m, b) :: r, o, u => if (m : Int) = u && o = b + 1 then some b else insertedAt r b u

/-- TAI seconds of an input frame's SOC and FRACSEC (R111). -/
def State.taiOfSoc (s : State) (soc fracsec : Word) : Int :=
  let (l, o) := s.utcChanges
  let u : Int := soc.toNat
  let old := if fracsec.getLsbD 28 && !fracsec.getLsbD 29 then insertedAt l o u else none
  u + old.getD (offsetUtc l o u)

/-- FRACSEC[30:28] of a TAI second under the changes of O, newest first: leap pending up to 60 s before a change, leap occurred for 86,400 s after it, and a deletion of the one that is pending, else of the one that occurred (R110). -/
def leapBitsOf : List (Nat × Int) → Int → Int → Nat × Nat × Nat
  | [], _, _ => (0, 0, 0)
  | (m, b) :: r, o, t =>
    let (pend, occ, del) := leapBitsOf r b t
    let c : Int := m + o
    if (if o < b then c - 60 else c - 61) ≤ t && t < c then (1, occ, bit (o < b))
    else if c ≤ t && t < c + 86400 then (pend, 1, if pend = 1 then del else bit (o < b))
    else (pend, occ, del)

/-- FRACSEC[30:28] of a TAI second (R110). -/
def State.leapBits (s : State) (t : Int) : Nat :=
  let (l, o) := s.utcChanges
  let (pend, occ, del) := leapBitsOf l o t
  pend + 2 * occ + 4 * del

/-- SOC and FRACSEC of a tag for an output frame's TIME_BASE (R110). -/
def State.socFracsec (s : State) (tag timeBase : Nat) : Word × Word :=
  let t : Int := (tag / 1000000000 : Nat)
  let (l, o) := s.utcChanges
  let count := ((tag % 1000000000) * timeBase + 500000000) / 1000000000
  (BitVec.ofInt 32 (t - offsetTai l o t),
   Word.ofNat (count % 2 ^ 24 + s.timeQuality * 2 ^ 24 + s.leapBits t * 2 ^ 28))

/-- Sets O, with event 0x0407 where it changes (R108). -/
def State.setUtcOffset (s : State) (o : Int) (src : Nat) : State :=
  let old := s.taiUtc
  let s1 := s.setField Reg.TIM_TAI_UTC 15 0 (BitVec.ofInt 16 o).toNat
  if s1.taiUtc = old then s1
  else s1.log 0x0407 1 (leBytes 2 (BitVec.ofInt 16 old).toNat ++ leBytes 2 (BitVec.ofInt 16 o).toNat ++ leBytes 1 src)

/-- The UTC midnight that ends the present UTC day. -/
def State.nextMidnight (s : State) : Nat := ((((s.second : Int) - s.taiUtc) / 86400 + 1) * 86400).toNat

/-- A leap second is announced, or no longer announced (R109). -/
def State.setLeap (s : State) (pending del : Bool) : State :=
  if pending then
    let s := (s.setFlag Reg.TIM_LEAP 0 true).setFlag Reg.TIM_LEAP 1 del
    if s.tim.leapMid.isSome then s else { s with tim := { s.tim with leapMid := some s.nextMidnight } }
  else { s.setFlag Reg.TIM_LEAP 0 false with tim := { s.tim with leapMid := none } }

/-- The selected source supplies leap information. -/
def State.sourceLeap (s : State) (pending del : Bool) : State :=
  let s := s.setLeap pending del
  { s with tim := { s.tim with leapSrc := true } }

/-- A second boundary applies a pending leap second that is due, with event 0x0406, and ends OCCURRED after 86,400 s (R109, R110). -/
def State.leapSecond (s : State) : State :=
  let s := match s.tim.leapDone with
    | some (t, _) => if t + 86400 ≤ s.second then s.setFlag Reg.TIM_LEAP 2 false else s
    | none => s
  match s.tim.leapMid with
  | some m =>
    let o := if s.leapDel then s.taiUtc - 1 else s.taiUtc + 1
    let c := ((m : Int) + o).toNat
    if c ≤ s.second then
      let s := { s with tim := { s.tim with
          utcLog := (m, s.taiUtc) :: s.tim.utcLog, leapMid := none, leapDone := some (c, s.leapDel) } }
      let s := s.setField Reg.TIM_TAI_UTC 15 0 (BitVec.ofInt 16 o).toNat
      let s := ((s.setFlag Reg.TIM_LEAP 0 false).setFlag Reg.TIM_LEAP 2 true).setFlag Reg.TIM_EVT 2 true
      s.log 0x0406 1 (leBytes 1 (bit s.leapDel) ++ leBytes 2 (BitVec.ofInt 16 o).toNat)
    else s
  | none => s

/-! ### PTP (R102, R103) -/

/-- The order of the dataset comparison of IEEE 1588-2019: grandmaster fields, then distance and sender. -/
def dsKey (d : PtpDataset) : List Nat :=
  [d.priority1, d.clockClass, d.accuracy, d.variance, d.priority2, d.gmId.toNat, d.steps, d.senderId.toNat]

/-- Lexicographic order. -/
def lexLt : List Nat → List Nat → Bool
  | a :: l, b :: r => if a < b then true else if b < a then false else lexLt l r
  | [], _ :: _ => true
  | _, [] => false

/-- Keeps the newest Announce of a master on a port. -/
def putAnnounce (l : List (Nat × PtpDataset × Nat)) (p : Nat) (d : PtpDataset) (t : Nat) : List (Nat × PtpDataset × Nat) :=
  l.filter (fun x => x.1 != p || x.2.1.senderId != d.senderId) ++ [(p, d, t)]

/-- The best dataset of the announces. -/
def bestAnnounce : List (Nat × PtpDataset × Nat) → Option (Nat × PtpDataset)
  | [] => none
  | (p, d, _) :: r => match bestAnnounce r with
    | some (q, e) => if lexLt (dsKey e) (dsKey d) then some (q, e) else some (p, d)
    | none => some (p, d)

/-- Upper bound of a clockAccuracy in ns (IEEE 1588-2019); every value it does not list, and 0x31 and 0xFE, give 10^9 ns. -/
def accuracyNs (a : Nat) : Nat :=
  match a with
  | 0x17 => 1 | 0x18 => 1 | 0x19 => 1 | 0x1A => 1 | 0x1B => 1 | 0x1C => 1 | 0x1D => 1 | 0x1E => 3 | 0x1F => 10
  | 0x20 => 25 | 0x21 => 100 | 0x22 => 250 | 0x23 => 1000 | 0x24 => 2500 | 0x25 => 10000 | 0x26 => 25000 | 0x27 => 100000
  | 0x28 => 250000 | 0x29 => 1000000 | 0x2A => 2500000 | 0x2B => 10000000 | 0x2C => 25000000 | 0x2D => 100000000
  | 0x2E => 250000000 | 0x2F => 1000000000 | 0x30 => 10000000000 | _ => 1000000000

/-- B and traceability of a PTP parent (Table 04-3). -/
def ptpBound (profile : Nat) (d : PtpDataset) : Nat × Bool :=
  match profile, d.inaccuracy with
  | 1, some i => if i = 0xFFFFFFFF#32 then (1000000000, false) else (i.toNat, d.timeTraceable)
  | _, _ => (accuracyNs d.accuracy, d.timeTraceable)

/-- Bytes of a clockIdentity, first byte first. -/
def identityBytes (i : BitVec 64) : List Byte := (leBytes 8 i.toNat).reverse

/-- What the parent's dataset tells while PTP is the selected source: O and leap flags (R108, R109). -/
def State.takeParentInfo (s : State) (d : PtpDataset) : State :=
  if s.source = 1 then
    let s := if d.utcValid then (s.setUtcOffset d.utcOffset 1).setFlag Reg.TIM_TAI_UTC 16 true else s.setFlag Reg.TIM_TAI_UTC 16 false
    s.sourceLeap (d.leap61 || d.leap59) d.leap59
  else s

/-- Runs parent selection over announces less than 3 intervals old (R102). -/
def State.selectParent (s : State) : State :=
  let live := s.tim.announces.filter (fun x => s.elapsed < x.2.2 + 3000000000)
  let new := bestAnnounce live
  let old := s.tim.parent
  let s := { s with tim := { s.tim with announces := live, parent := new } }
  let s := match new with
    | some (p, d) =>
      let l := identityBytes d.senderId
      let s := (s.setReg Reg.TIM_PARENT_LO (Word.ofNat (natAt l 0 4))).setReg Reg.TIM_PARENT_HI (Word.ofNat (natAt l 4 4))
      (s.setField Reg.TIM_STATUS 22 20 p).takeParentInfo d
    | none => s
  if new.map (fun x => (x.1, x.2.senderId)) = old.map (fun x => (x.1, x.2.senderId)) then s
  else
    let s := { s with tim := { s.tim with ptpSync := none, lastSync := none } }
    match new with
    | some (_, d) => s.log 0x0409 1 (identityBytes d.senderId)
    | none => s

/-- A frame of a PTP request on a port: Pdelay_Req (2) or Delay_Req (3), with the next sequence number (R102). -/
def State.ptpRequest (s : State) (port kind : Nat) : State :=
  let seq := s.tim.ptpSeq + 1
  let len := if kind = 2 then 72 else if s.flag Reg.TIM_PTP_CTRL 3 then 90 else 64
  ({ s with tim := { s.tim with ptpSeq := seq } }).sendPort port (TxFrame.mk 1 len none (.ptp kind seq 0))

/-- A Sync's offset is measured; with end-to-end delay a Delay_Req follows it (R102, R103). -/
def State.ptpOffset (s : State) (port rx : Nat) (master corr : Int) : State :=
  let asym := (s.reg (Reg.TIM_PORT_ASYM port)).toInt
  let delay := (kvGet s.tim.pathDelay port).getD 0
  let s := { s with tim := { s.tim with lastSync := some s.elapsed, ptpSync := none, lastSyncAt := some (port, master + corr, rx) } }
  let s := if s.flag Reg.TIM_PTP_CTRL 2 then s.ptpRequest port 3 else s
  match s.tim.parent with
  | some (_, d) =>
    let (b, tr) := ptpBound (s.field Reg.TIM_PTP_CTRL 1 0) d
    s.measure 1 (master + corr + asym + delay - rx) b tr
  | none => s

/-- The parent is the sender of a message. -/
def State.fromParent (s : State) (port : Nat) (sender : BitVec 64) : Bool :=
  match s.tim.parent with
  | some (p, d) => p == port && d.senderId == sender
  | none => false

/-- The internal stamp with which the request of a kind and sequence number left a port. -/
def State.ptpSent (s : State) (port kind : Nat) (seq : Half) : Option Nat :=
  (kvGet s.tim.ptpTx (4 * port + kind)).bind (fun x => if x.1 = seq then some x.2 else none)

/-- Keeps the mean path delay of a port. -/
def State.setPathDelay (s : State) (port : Nat) (d : Int) : State :=
  { s with tim := { s.tim with pathDelay := kvPut s.tim.pathDelay port d } }

/-- The mean link delay of a peer exchange: request out at t1, in at t2, response out at t3, in at t4. -/
def State.peerDelay (s : State) (port : Nat) (seq : Half) (t2 t3 t4 : Nat) (corr : Int) : State :=
  match s.ptpSent port 2 seq with
  | some t1 => s.setPathDelay port (((t4 : Int) - t1 - ((t3 : Int) - t2) - corr) / 2)
  | none => s

/-- A PTP message that the device supports, on an enabled port. -/
def State.ptpBody (s : State) (port : Nat) : PtpBody → State
  | .announce d =>
    { s with tim := { s.tim with announces := putAnnounce s.tim.announces port d s.elapsed } }.selectParent
  | .sync sender seq two origin corr rx =>
    if !s.fromParent port sender then s
    else if two then { s with tim := { s.tim with ptpSync := some (port, seq, rx, corr) } }
    else s.ptpOffset port rx origin corr
  | .followUp sender seq precise corr =>
    match s.tim.ptpSync with
    | some (p, q, rx, c) => if p = port && q = seq && s.fromParent port sender then s.ptpOffset port rx precise (c + corr) else s
    | none => s
  | .pdelayReq seq rx => s.sendPort port (TxFrame.mk 1 72 none (.ptp 0 seq rx))
  | .pdelayResp mine seq two t2 corr rx =>
    if !mine || (s.ptpSent port 2 seq).isNone then s
    else if two then { s with tim := { s.tim with pdelay := kvPut s.tim.pdelay port (seq, t2, rx, corr) } }
    else s.peerDelay port seq t2 t2 rx corr
  | .pdelayRespFollowUp mine seq t3 corr =>
    match kvGet s.tim.pdelay port with
    | some (q, t2, t4, c) =>
      if mine && q = seq then
        ({ s with tim := { s.tim with pdelay := kvDel s.tim.pdelay port } }).peerDelay port seq t2 t3 t4 (c + corr)
      else s
    | none => s
  | .delayResp mine seq t4 corr =>
    match s.tim.lastSyncAt, s.ptpSent port 3 seq with
    | some (p, t1, t2), some t3 =>
      if mine && p = port then s.setPathDelay port (((t2 : Int) - t1 + (t4 : Int) - t3 - corr) / 2) else s
    | _, _ => s
  | .management => s

/-- The frame that carries a PTP message, as the port's rules see it. -/
def ptpFrame (m : PtpMsg) : RxFrame :=
  { codingOk := true, length := 64, fcsOk := true, dmac := m.dmac, smac := 0, vlan := m.vlan, secondTag := false
    etherType := if m.transport = 0 then 0x88F7 else if m.transport = 1 then 0x0800 else 0x86DD
    udp := if m.transport = 0 then none else some ⟨m.transport != 1, false, false, m.dport⟩
    tail := ⟨0, 0, 0, 0⟩, lsduLength := 0, data := [], hostBufs := [] }

/-- A rule with action SUP hands a PTP message of an enabled port to the supervisor (R103). -/
def State.ptpReaches (s : State) (m : PtpMsg) : Bool :=
  s.flag Reg.TIM_PTP_CTRL (16 + m.port) && s.steer m.port (ptpFrame m) (s.ruleOf m.port (ptpFrame m)) == .sup

/-- The device supports a message's domain, version and transport (R102). -/
def State.ptpSupported (s : State) (m : PtpMsg) : Bool :=
  m.version == 2 && m.domain == s.field Reg.TIM_PTP_CTRL 15 8 && m.transport == s.field Reg.TIM_PTP_CTRL 3 3

/-- Every second the device asks for the link delay of each port with PTP and peer delay (R102). -/
def State.askDelays (s : State) : State :=
  if s.flag Reg.TIM_PTP_CTRL 2 then s
  else (List.range 6).foldl (fun (s : State) p => if s.flag Reg.TIM_PTP_CTRL (16 + p) && s.linkIsUp p then s.ptpRequest p 2 else s) s

/-! ### The commands -/

/-- `TIME_ROLLOVER`: the CLK_PORT tick in which TIM_NS wraps (R94). -/
def execTimeRollover (s : State) : Host.Outcome State Fault Refusal := answer (if 2 ^ 32 ≤ s.nsSum then s.tickTime else s)

/-- `EXTENSION_CHECK`: Device Time against the ticks since the previous check, within 1 ms (R94). -/
def execExtensionCheck (s : State) : Host.Outcome State Fault Refusal :=
  let ext : Nat := s.tim.checkDt + (s.tim.ticks - s.tim.checkTicks) * s.inc / 2 ^ 32
  let diff : Int := (s.now : Int) - (ext : Int)
  let s1 := { s with tim := { s.tim with checkDt := s.now, checkTicks := s.tim.ticks } }
  answer <|
    if exceeds diff 1000000 then
      let s2 := (s1.log 0x0408 3 (leBytes 8 (BitVec.ofInt 64 diff).toNat)).zeroCounts
      ({ s2 with tim := { s2.tim with prev := none } }.setSync 0).blockError 3 0x04 0x0408
    else s1

/-- `INC_WRITE`: a write of TIM_INC_HI (R96). -/
def execIncWrite (hi : Word) (s : State) : Host.Outcome State Fault Refusal := answer <|
  let v : Nat := (hi.toNat % 256) * 2 ^ 32 + (s.lowHalf Reg.TIM_INC_LO).toNat
  let s := s.clearLo Reg.TIM_INC_LO
  if !s.hostMode then s.refuseTim Reg.TIM_INC_HI 1
  else if exceeds ((v : Int) - incNominal) incLimit.toNat then s.refuseTim Reg.TIM_INC_HI 2
  else s.setInc v

/-- `TIME_STEP`: a write of TIM_ADJ_HI adds the signed offset to Device Time, in mode HOST (R96). -/
def execTimeStep (hi : Word) (s : State) : Host.Outcome State Fault Refusal := answer <|
  let off : BitVec 64 := hi ++ (kvGet s.loHold Reg.TIM_ADJ_LO).getD 0
  let s := s.clearLo Reg.TIM_ADJ_LO
  if s.hostMode then s.stepBy off.toInt else s.refuseTim Reg.TIM_ADJ_HI 1

/-- `HOST_SYNC_WRITE`: software sets the synchronisation state in mode HOST (R97). -/
def execHostSyncWrite (value : Word) (s : State) : Host.Outcome State Fault Refusal := answer <|
  let st := bitsOf value 2 0
  if !s.hostMode then s.refuseTim Reg.TIM_HOST_SYNC 1
  else if 3 < st then s.refuseTim Reg.TIM_HOST_SYNC 3
  else
    let old := s.syncState
    let s := s.setReg Reg.TIM_HOST_SYNC (value &&& 0x17#32)
    let s := if old = 2 && st ≠ 2 then { s with tim := { s.tim with lockedAt := s.elapsed } } else s
    let s := (s.setFlag Reg.TIM_STATUS 18 (value.getLsbD 4)).setSync st
    if old = st then s
    else match st with
      | 0 => s.logFree old (s.reg Reg.TIM_ERR_EST).toNat
      | 2 => s.logLocked
      | 3 => s.logHoldover s.source 1
      | _ => s

/-- `PTP_MESSAGE`: another domain, transport or version is counted; messages without a SUP rule, or on ports without PTP, never reach the clock (R102, R103). -/
def execPtpMessage (m : PtpMsg) (s : State) : Host.Outcome State Fault Refusal := answer <|
  if !s.ptpReaches m then s
  else if !s.ptpSupported m then s.bump Reg.TIM_CNT_PTP_BAD
  else s.ptpBody m.port m.body

/-- `ANNOUNCE_TIMEOUT`: the parent has sent no Announce for 3 intervals, and selection runs again (R102). -/
def execAnnounceTimeout (s : State) : Host.Outcome State Fault Refusal := answer s.selectParent

/-- B and traceability of an IRIG-B frame (Table 04-3). -/
def State.irigBound (s : State) (q : Nat) : Nat × Bool :=
  if s.flag Reg.TIM_IRIG_CTRL 2 then (if q = 0 then 100 else 10 ^ (q - 1), q == 0)
  else (s.field Reg.TIM_IRIG_CTRL 15 4 * 1000, false)

/-- Days from 1970-01-01 to the first day of a year. -/
def yearDays (y : Nat) : Nat := 365 * (y - 1970) + ((y - 1) / 4 - (y - 1) / 100 + (y - 1) / 400) - 477

/-- The year of a UTC second. -/
def yearOf (u : Nat) : Nat :=
  let y := u / 86400 / 366 + 1970
  if yearDays (y + 2) * 86400 ≤ u then y + 2 else if yearDays (y + 1) * 86400 ≤ u then y + 1 else y

/-- Every BCD digit of a frame lies in its range (R104); the year only counts with the extension. -/
def irigDigitsOk (cf : Bool) (f : IrigFrame) : Bool :=
  let d := fun (k : Nat) => f.digits.getD k 15
  [9, 6, 9, 5, 9, 2, 9, 9, 3].zipIdx.all (fun x => decide (d x.2 ≤ x.1)) && (!cf || (decide (d 9 ≤ 9) && decide (d 10 ≤ 9)))

/-- Seconds from the start of a frame's year to the time that it codes. -/
def irigYearSeconds (f : IrigFrame) : Nat :=
  let d := fun (k : Nat) => f.digits.getD k 0
  (d 6 + 10 * d 7 + 100 * d 8 - 1) * 86400 + (d 4 + 10 * d 5) * 3600 + (d 2 + 10 * d 3) * 60 + d 0 + 10 * d 1

/-- UTC of a frame: with the extension the year 2000 + its two digits and the coded time plus the signed offset (R104); without it the coded time is UTC in the year that lies nearest to Device Time (PRESUMED, log entry 36). -/
def State.irigUtc (s : State) (f : IrigFrame) : Int :=
  let n := irigYearSeconds f
  if s.flag Reg.TIM_IRIG_CTRL 2 then
    (yearDays (2000 + f.digits.getD 9 0 + 10 * f.digits.getD 10 0) * 86400 + n : Nat) + f.offset * 1800
  else
    let u : Int := (s.second : Int) - s.taiUtc
    let y := yearOf u.toNat
    let at_ := fun (y : Nat) => (yearDays y * 86400 + n : Nat)
    let best := [y - 1, y, y + 1].foldl (fun (b : Nat) (z : Nat) => if ((at_ z : Int) - u).natAbs < ((at_ b : Int) - u).natAbs then z else b) y
    (at_ best : Int)

/-- A frame decodes: markers and polarity, digits, and with the extension parity and time quality (R104). -/
def State.irigOk (s : State) (f : IrigFrame) : Bool :=
  let cf := s.flag Reg.TIM_IRIG_CTRL 2
  f.markersOk && f.falling == s.flag Reg.TIM_IRIG_CTRL 1 && irigDigitsOk cf f && (!cf || (f.parityOk && decide (f.tq < 0xC)))

/-- `IRIG_FRAME`: a frame is discarded and counted, or measures against its own reference marker (R104). -/
def execIrigFrame (f : IrigFrame) (s : State) : Host.Outcome State Fault Refusal := answer <|
  let cf := s.flag Reg.TIM_IRIG_CTRL 2
  if !s.flag Reg.TIM_IRIG_CTRL 0 then s
  else if !s.irigOk f then
    { s.bump Reg.TIM_CNT_IRIG_BAD with tim := { s.tim with irig := none } }
  else
    let utc := (s.irigUtc f).toNat
    let follows := match s.tim.irig with
      | some (u, _, _) => utc == u + 1
      | none => false
    let first := s.tim.irig.isNone
    let s := { s with tim := { s.tim with irig := some (utc, f.edge, follows), irigAt := s.elapsed } }
    if first then s
    else if !follows then s.bump Reg.TIM_CNT_IRIG_BAD
    else
      let (l, o) := s.utcChanges
      let tai : Int := (utc : Int) + offsetUtc l o (utc : Int)
      let (b, tr) := s.irigBound f.tq
      let s := s.measure 2 (tai * 1000000000 - ((f.edge : Int) - s.field Reg.TIM_IRIG_CTRL 31 16)) b tr
      if s.source = 2 then
        let s := s.setFlag Reg.TIM_TAI_UTC 16 false
        if cf then s.sourceLeap f.leapPending f.leapDelete else s
      else s

/-- `PPS_IN_EDGE`: the edge is the second boundary nearest to it, less DELAY (R100, R105). -/
def execPpsInEdge (s : State) : Host.Outcome State Fault Refusal := answer <|
  let e := s.elapsed
  let ok := match s.tim.pps with
    | some (t, _) => 999000000 ≤ e - t && e - t ≤ 1001000000
    | none => false
  let s := { s with tim := { s.tim with pps := some (e, ok), lastPps := e } }.ppsWave
  if ok then
    let t : Int := (s.now : Int) - (s.field Reg.TIM_PPS_IN 31 16 : Int)
    let near : Int := (t + 500000000) / 1000000000 * 1000000000
    s.measure 3 (near - t) (s.field Reg.TIM_PPS_IN 15 4) (s.flag Reg.TIM_PPS_IN 1)
  else s

/-- `PPS_MISS`: an edge is missing for more than 1.001 s (R105). -/
def execPpsMiss (s : State) : Host.Outcome State Fault Refusal := answer <|
  match s.tim.pps with
  | some (t, _) =>
    if s.tim.lastPps + 1001000000 < s.elapsed then
      { s.bump Reg.TIM_CNT_PPS_MISS with tim := { s.tim with pps := some (t, false), lastPps := s.elapsed } }
    else s
  | none => s

/-- `SOURCE_TIMEOUT`: no valid measurement for n s (R99, rows 5 and 6). -/
def execSourceTimeout (s : State) : Host.Outcome State Fault Refusal := answer <|
  if s.hostMode || s.elapsed < s.tim.lastMeas + s.srcTimeout then s
  else
    let src := s.source
    let s := match s.syncState with
      | 2 => (s.freezeServo.setSync 3).logHoldover src 1
      | 1 =>
        let s := s.zeroCounts.setSync 0
        s.logFree 1 (s.reg Reg.TIM_ERR_EST).toNat
      | _ => s
    s.changeSource s.bestSource 2

/-- `SOURCE_FAULT_EXPIRE`: the 600 s of a faulty source end (R99). -/
def execSourceFaultExpire (src : Nat) (s : State) : Host.Outcome State Fault Refusal := answer <|
  match kvGet s.tim.faults src with
  | some t => if t ≤ s.elapsed then { s with tim := { s.tim with faults := kvDel s.tim.faults src } } else s
  | none => s

/-- The time engine's part of a second boundary: holdover error, leap seconds and PPS_OUT (R101, R107, R109, Table 04-2 row 7). -/
def State.timeSecond (s : State) : State :=
  let s := { s with tim := { s.tim with lastSec := s.second } }
  let s := if s.hostMode then s.noteValidity s.showQuality else s.evalErr
  let s :=
    if !s.hostMode && s.syncState == 3 && decide ((s.reg Reg.TIM_HOLD_LIMIT).toNat < s.errNow) then
      let e := s.reg Reg.TIM_ERR_EST
      (s.zeroCounts.setSync 0).logFree 3 e.toNat
    else s
  let s := s.leapSecond.askDelays
  if s.flag Reg.TIM_PPS_OUT 0 then
    { s with tim := { s.tim with ppsEnd := some (s.elapsed + s.field Reg.TIM_PPS_OUT 31 4 * 1000) } }
  else s

/-- `PPS_OUT_END`: PPS_OUT returns inactive after WIDTH µs (R107). -/
def execPpsOutEnd (s : State) : Host.Outcome State Fault Refusal := answer <|
  match s.tim.ppsEnd with
  | some t => if t ≤ s.elapsed then { s with tim := { s.tim with ppsEnd := none } } else s
  | none => s

/-! ### Writes of registers that have no row of their own (R96, R97, R108, R109, Table 04-7) -/

/-- A register with a range: outside it the write is ignored with event 0x040A cause 3. -/
def State.writeRange (s : State) (reg lo hi : Nat) (v : Word) : State :=
  if lo ≤ v.toNat && v.toNat ≤ hi then s.setReg reg v else s.refuseTim reg 3

/-- A value of TIM_CTRL lies in the ranges of Table 04-8: MODE 0 or 1, SRC_TIMEOUT 1 to 15. -/
def timCtrlOk (v : Word) : Bool := decide (bitsOf v 1 0 ≤ 1) && decide (1 ≤ bitsOf v 11 8)
/-- A value of TIM_PTP_CTRL is accepted: PROFILE 0 or 1, and UDP only with end-to-end delay (Table 04-8). -/
def ptpCtrlOk (v : Word) : Bool := decide (bitsOf v 1 0 ≤ 1) && (!v.getLsbD 3 || v.getLsbD 2)

/-- A write of a TIM register. -/
def State.writeTim (s : State) (a : Nat) (v : Word) : State :=
  if a = Reg.TIM_INC_LO || a = Reg.TIM_ADJ_LO then s.holdLo a v
  else if a = Reg.TIM_HOST_ERR then
    (if s.hostMode then (s.setReg a v).evalErr else s.refuseTim a 1)
  else if a = Reg.TIM_LOCK_THRESH then s.writeRange a 10 100000 v
  else if a = Reg.TIM_STEP_THRESH then s.writeRange a 1000 1000000000 v
  else if a = Reg.TIM_HOLD_DRIFT then s.writeRange a 1 10000 v
  else if a = Reg.TIM_HOLD_LIMIT then s.writeRange a 100 100000000 v
  else if a = Reg.TIM_TAI_UTC then
    (if s.flag a 16 then s else s.setUtcOffset (v.setWidth 16).toInt 0)
  else if a = Reg.TIM_LEAP then
    (if s.tim.leapSrc then s else s.setLeap (v.getLsbD 0) (v.getLsbD 1))
  else if a = Reg.TIM_PPS_OUT then
    let w := bitsOf v 31 4
    s.setReg a (if 1 ≤ w && w ≤ 500000 then v &&& 0xFFFFFFF3#32 else withBits (v &&& 3) 31 4 (s.field a 31 4))
  else s

end Sys2Proof.Machine
end

