-- ==== Sys2Proof/Machine/Capture.lean ====
section
/-!
DEFINITION. Disturbance capture (13_disturbance_capture.md): recorders, trigger conditions, captures, their store, and rewind marks.
-/
namespace Sys2Proof.Machine

/-- A recorder that the image defines. -/
def State.recorder (s : State) (r : Nat) : Option RecorderState := kvGet s.cap.recs r

/-- Changes a recorder. -/
def State.modRec (s : State) (r : Nat) (f : RecorderState → RecorderState) : State :=
  { s with cap := { s.cap with recs := kvMod s.cap.recs r f } }

/-- The recorder is enabled (Table 13-8). -/
def State.capOn (s : State) (r : Nat) : Bool := s.flag Reg.CAP_CTRL 0 && s.flag (Reg.CAP_R_CTRL r) 0
/-- WAVE recorder. -/
def State.recWave (s : State) (r : Nat) : Bool := s.flag (Reg.CAP_R_CTRL r) 1
/-- Rate group of a ROW recorder. -/
def State.recRg (s : State) (r : Nat) : Nat := s.field (Reg.CAP_R_CTRL r) 3 2
/-- STATE: 0 IDLE, 1 ARMED, 2 ACTIVE, 3 HOLD (R315). -/
def State.recState (s : State) (r : Nat) : Nat := s.field (Reg.CAP_R_STATUS r) 1 0
/-- D_L. -/
def State.liveDepth (s : State) (r : Nat) : Nat := (s.reg (Reg.CAP_R_LIVE_DEPTH r)).toNat
/-- Frame rate F in frames per second (Table 13-1). -/
def State.frameRate (s : State) (r : Nat) (x : RecorderState) : Nat :=
  if s.recWave r then 4800 / max 1 x.cfg.div else s.rate (s.recRg r)
/-- Stride of a recorder's frames (Table 13-2). -/
def State.recStride (s : State) (r : Nat) (x : RecorderState) : Nat :=
  if s.recWave r then 8 + 8 * x.cfg.chans.length else 16 + 16 * x.cfg.chans.length

/-- Sets the state, in CAP_STATUS too. -/
def State.setRecState (s : State) (r n : Nat) : State :=
  let s := s.setField (Reg.CAP_R_STATUS r) 1 0 n
  (s.setFlag Reg.CAP_STATUS r (n == 1 || n == 2)).setFlag Reg.CAP_STATUS (16 + r) (n == 3)

/-! ### The capture store (R317 to R319) -/

/-- Bytes of a capture in the store: descriptor, channel table, frames and events. -/
def State.captureSize (s : State) (r : Nat) (x : RecorderState) (c : Capture) : Nat :=
  256 + 8 * x.cfg.chans.length + s.recStride r x * c.frames.length + 64 * c.events.length

/-- Bytes of the store in use; the events of an ACTIVE capture take their place at its close. -/
def State.storeUsed (s : State) (r : Nat) (x : RecorderState) : Nat :=
  (x.stored.map (fun c => s.captureSize r x c)).foldl (· + ·) 0 + (match x.active with
    | some c => s.captureSize r x { c with events := [] }
    | none => 0)

/-- Free bytes of the store. -/
def State.storeFree (s : State) (r : Nat) (x : RecorderState) : Nat :=
  (s.reg (Reg.CAP_R_STORE r)).toNat * 1024 - s.storeUsed r x

/-- Shows the store and the stored captures. -/
def State.showStore (s : State) (r : Nat) : State :=
  match s.recorder r with
  | some x =>
    (s.setReg (Reg.CAP_R_STORE_FREE r) (Word.ofNat (s.storeFree r x / 1024))).setField (Reg.CAP_R_STATUS r) 15 8 (satNat 8 x.stored.length)
  | none => s

/-- Frees the oldest captures while they are marked free (R317). -/
def purge : List Capture → List Capture
  | [] => []
  | c :: r => if c.free && !c.exporting then purge r else c :: r

/-- Frees the oldest stored capture that is not being exported (R319). -/
def State.overwriteOldest (s : State) (r : Nat) : State :=
  match s.recorder r with
  | some x =>
    match x.stored.find? (fun c => !c.exporting && !c.free) with
    | some v =>
      let left := purge (x.stored.map (fun (c : Capture) => if c.num = v.num then { c with free := true } else c))
      let s := s.modRec r (fun x => { x with stored := left })
      (s.bump (Reg.CAP_R_CNT_OVERWRITTEN r)).log 0x0E06 1 (leBytes 4 r ++ leBytes 4 v.num)
    | none => s
  | none => s

/-- Makes room for n bytes under POLICY; says whether they fit (R318, R319). -/
def State.makeRoom (r n : Nat) : Nat → State → State × Bool
  | 0, s => (s, false)
  | fuel + 1, s =>
    match s.recorder r with
    | some x =>
      if n ≤ s.storeFree r x then (s, true)
      else if s.flag (Reg.CAP_R_CTRL r) 7 && x.stored.any (fun c => !c.exporting && !c.free) then State.makeRoom r n fuel (s.overwriteOldest r)
      else (s, false)
    | none => (s, false)

/-- Room for n bytes in a recorder's store. -/
def State.roomFor (s : State) (r n : Nat) : State × Bool :=
  State.makeRoom r n ((((s.recorder r).map (fun x => x.stored.length)).getD 0) + 1) s

/-! ### Commits (R325) -/

/-- Why a recorder's commit is refused: 1 range, 2 live depth. -/
def State.capCause (s : State) (r : Nat) (x : RecorderState) : Option Nat :=
  let v := fun a => (s.staged a).toNat
  let pre := v (Reg.CAP_R_PRE r)
  let post := v (Reg.CAP_R_POST r)
  let maxp := v (Reg.CAP_R_MAXPOST r)
  let gather := bitsOf (s.staged (Reg.CAP_R_GATHER r)) 16 0
  let tmo := bitsOf (s.staged (Reg.CAP_R_TIMEOUT r)) 11 0
  let conds := (List.range 8).any (fun c =>
    let w := s.staged (Reg.CAP_C_CTRL r c)
    decide (6 ≤ bitsOf w 3 1) || (bitsOf w 3 1 == 3 && bitsOf w 15 8 == 0))
  if 1048575 < pre || post < 1 || 1048575 < post || maxp < post || 4194303 < maxp || 100000 < gather || tmo < 1 || 3600 < tmo
      || 4096 < bitsOf (s.staged (Reg.CAP_R_EVCFG r)) 28 16 || conds then some 1
  else if s.liveDepth r < pre + (gather * s.frameRate r x + 999999) / 1000000 + 64 then some 2
  else none

/-- The value that an analog condition takes from a frame: none where it lacks VALID (R311). -/
def frameValue (f : CapFrame) (i : Nat) : Option Word :=
  match f.slots[i]? with
  | some v => if hasQ v.q Q.valid then some v.a else none
  | none => none

/-- The conditions whose settings a commit changed start over, on the values of the frames that the live ring holds. -/
def State.renewConds (s old : State) (r : Nat) : State :=
  let same := fun (c : Nat) => s.reg (Reg.CAP_C_CTRL r c) == old.reg (Reg.CAP_C_CTRL r c) && s.reg (Reg.CAP_C_SRC r c) == old.reg (Reg.CAP_C_SRC r c)
  s.modRec r (fun x => { x with conds := x.conds.mapIdx (fun c y =>
    if same c then y
    else { y with fired := false, hist := (x.frames.reverse.take 257).map (fun f => frameValue f (s.reg (Reg.CAP_C_SRC r c)).toNat) }) })

/-- The commit point of a recorder, where it is IDLE or ARMED with no firing found (R325). -/
def State.capTryCommit (s : State) (r : Nat) : State :=
  match s.recorder r with
  | some x =>
    if s.flag Reg.CAP_COMMIT r && (s.recState r = 0 || (s.recState r = 1 && x.firings.isEmpty)) then
      let s := s.setFlag Reg.CAP_COMMIT r false
      match s.capCause r x with
      | some c =>
        ((s.setFlag Reg.CAP_COMMIT_STAT r true).setField Reg.CAP_COMMIT_STAT 18 16 c).log 0x0E05 1 (leBytes 1 r ++ leBytes 1 c)
      | none => (s.commitRange (Reg.CAP_R_CTRL r) 0x200).renewConds s r
    else s
  | none => s

/-- `CAP_COMMIT`: requests the commit of the recorders in a mask. -/
def execCapCommit (mask : Word) (s : State) : Host.Outcome State Fault Refusal := answer <|
  (List.range 16).foldl (fun (s : State) r =>
    if mask.getLsbD r && (s.recorder r).isSome then (s.setFlag Reg.CAP_COMMIT r true).capTryCommit r else s) s

/-! ### Closing (R315, R318, R320, R321) -/

/-- The order of R295: GTS, source, code; equal events stay in order of submission. -/
def eventBefore (a b : Event) : Bool :=
  decide (a.gts < b.gts) || (a.gts == b.gts && (decide (a.source < b.source) || (a.source == b.source && decide (a.code < b.code))))

/-- Inserts an event after those that do not follow it. -/
def insertEvent (e : Event) : List Event → List Event
  | [] => [e]
  | x :: r => if eventBefore e x then e :: x :: r else x :: insertEvent e r

/-- Events in the order of R295. -/
def sortEvents (l : List Event) : List Event := l.foldl (fun a e => insertEvent e a) []

/-- The row of a history ring as a recorder's frame, with the frame's number (R321). -/
def State.rereadRow (s : State) (g : Nat) (x : RecorderState) (f : CapFrame) : CapFrame :=
  match s.group g with
  | some y =>
    match (gridNear (s.rate g) f.time).bind (rowIndex y (s.rate g)) with
    | some n =>
      if s.rowExists g n then
        let a := s.entryAddr g n
        let h := s.readDram a 64
        { f with rev := BitVec.ofNat 16 (natAt h 10 2), flags := BitVec.ofNat 8 (natAt h 9 1)
                 slots := x.cfg.chans.map (fun c => slotOf (s.readDram (a + 64 + 16 * s.position g c) 16)) }
      else f
    | none => f
  | none => f

/-- A recorder goes to ARMED (R315). -/
def State.armRec (s : State) (r : Nat) : State :=
  let t := s.now
  let s := s.modRec r (fun x => { x with
    armFrame := x.widx, armTime := t, autoForce := false, firings := [], waitDisc := [], gatherEnd := none })
  s.setRecState r 1

/-- A capture closes and becomes STORED; the recorder re-arms, idles or holds (R315, R318, R320, R321). -/
def State.closeCapture (s : State) (r : Nat) (flags : Half) (hold : Bool) : State :=
  match s.recorder r with
  | some x =>
    match x.active with
    | some c =>
      let g := s.recRg r
      let inside := sortEvents (c.events.filter (fun e => c.spans e.gts))
      let evmax := s.field (Reg.CAP_R_EVCFG r) 28 16
      let revised := c.frames.any (fun f => c.revTags.contains f.time)
      let frames := c.frames.map (fun f => if c.revTags.contains f.time then s.rereadRow g x f else f)
      let fl := c.flags ||| flags ||| (if evmax < inside.length then 0x0008#16 else 0) ||| (if revised then 0x0010#16 else 0)
      let t := s.now
      let done : Capture := { c with frames := frames, events := inside.take evmax, flags := fl, closeTime := t, revTags := [] }
      let last := (c.frames.getLast?).map (fun f => f.num)
      let s := s.modRec r (fun x => { x with
        active := none, closeAt := none, stored := x.stored ++ [done], lastEnd := if last.isSome then last else x.lastEnd, missedRun := false })
      let s := (s.bump Reg.CAP_CNT_CAPTURES).bump (Reg.CAP_R_CNT_CAPTURES r)
      let s := s.setFlag (Reg.CAP_R_STATUS r) 3 (done.flags.getLsbD 0)
      let s := s.log 0x0E01 1 (leBytes 1 r ++ leBytes 1 0 ++ leBytes 2 c.cause.toNat ++ leBytes 4 c.num)
      let s := if hold then s.setRecState r 3
        else if s.flag (Reg.CAP_R_CTRL r) 5 then s.armRec r
        else s.setRecState r 0
      (s.showStore r).capTryCommit r
    | none => s
  | none => s

/-- An ACTIVE capture stops (R318): cause 1 for want of store, 2 where its intake is full. -/
def State.overflow (s : State) (r cause : Nat) (hold : Bool) : State :=
  match (s.recorder r).bind (fun x => x.active) with
  | some c =>
    let s := (s.bump Reg.CAP_CNT_OVERFLOW).log 0x0E02 2 (leBytes 1 r ++ leBytes 1 cause ++ leBytes 2 0 ++ leBytes 4 c.num)
    s.closeCapture r 0x0001 hold
  | none => s

/-- Appends a frame to the ACTIVE capture, or stops it (R317, R318). -/
def State.storeFrame (s : State) (r : Nat) (hold : Bool) (f : CapFrame) : State :=
  match s.recorder r with
  | some x =>
    match x.active with
    | some c =>
      if c.lastWanted < f.num then s
      else
        let (s, fits) := s.roomFor r (s.recStride r x)
        if fits then
          let c : Capture := { c with frames := c.frames ++ [f] }
          let t := s.elapsed + s.field (Reg.CAP_R_GATHER r) 16 0 * 1000
          let s := s.modRec r (fun x => { x with active := some c, closeAt := if f.num = c.lastWanted then some t else none })
          s.showStore r
        else s.overflow r 1 hold
    | none => s
  | none => s

/-! ### The decision (R313, R314, R316) -/

/-- Counts a later trigger, extending the capture where EXTEND is set (R314). -/
def State.laterTrigger (s : State) (r : Nat) (k : Nat) : State :=
  match s.recorder r with
  | some x =>
    match x.active with
    | some c =>
      let want := if s.flag (Reg.CAP_R_CTRL r) 6 then
          max c.lastWanted (min (k + (s.reg (Reg.CAP_R_POST r)).toNat) (c.trigFrame + (s.reg (Reg.CAP_R_MAXPOST r)).toNat))
        else c.lastWanted
      let have_ := match c.frames.getLast? with
        | some f => f.num + 1
        | none => x.widx
      let more := if c.lastWanted < want then x.frames.filter (fun f => decide (have_ ≤ f.num)) else []
      let grown : Capture := { c with later := satNat 16 (c.later + 1), lastWanted := want }
      let s := s.modRec r (fun x => { x with active := some grown, closeAt := if c.lastWanted < want then none else x.closeAt })
      let s := s.bump (Reg.CAP_R_CNT_LATER r)
      more.foldl (fun (s : State) f => s.storeFrame r false f) s
    | none => s
  | none => s

/-- The next capture number (Table 13-4). -/
def nextCapture (w : Word) : Nat := if w = 0xFFFFFFFF#32 then 1 else w.toNat + 1

/-- Decides a capture: trigger frame, cause, φ, trigger GTS; the frames so far are stored (R313, R316, R317). -/
def State.decideCapture (s : State) (r k : Nat) (cause : Half) (cond phi gts : Nat) (later : List Firing) : State :=
  match s.recorder r with
  | some x =>
    let pre := (s.reg (Reg.CAP_R_PRE r)).toNat
    let first := max (max (k - pre) x.armFrame) (match x.lastEnd with
      | some n => n + 1
      | none => 0)
    let frames := x.frames.filter (fun f => decide (first ≤ f.num))
    let before := (frames.filter (fun f => decide (f.num < k))).length
    let atTrig := x.frames.find? (fun f => f.num == k)
    let lost := match atTrig with
      | some f => f.flags.getLsbD 1 || f.slots.any (fun v => hasQ v.q Q.syncLost)
      | none => false
    let n := nextCapture (s.reg (Reg.CAP_R_LAST r))
    let c : Capture :=
      { num := n, cause := cause, trigCond := cond, phi := phi, trigFrame := k, trigGts := gts
        lastWanted := k + (s.reg (Reg.CAP_R_POST r)).toNat, frames := [], events := x.events
        flags := (if before < pre then 0x0002#16 else 0) ||| (if lost then 0x0040#16 else 0) }
    let (s, fits) := s.roomFor r (256 + 8 * x.cfg.chans.length)
    let s := s.setReg (Reg.CAP_R_LAST r) (Word.ofNat n)
    let s := s.modRec r (fun x => { x with active := some c, firings := [], gatherEnd := none, autoForce := false, closeAt := none })
    let s := (s.setRecState r 2).setFlag (Reg.CAP_R_STATUS r) 2 false
    let s := if fits then frames.foldl (fun (s : State) f => s.storeFrame r (decide (f.num < k)) f) s else s.overflow r 1 true
    (later.foldl (fun (s : State) f => s.laterTrigger r f.frame) s).showStore r
  | none => s

/-- The decision at the end of a gather window over the firings found (R313). -/
def State.decideFirings (s : State) (r : Nat) : State :=
  match s.recorder r with
  | some x =>
    match x.firings with
    | [] => s
    | f0 :: rest =>
      let k := rest.foldl (fun n f => min n f.frame) f0.frame
      let same := x.firings.filter (fun f => f.frame == k)
      let best := same.foldl (fun (b : Firing) f => if f.phi < b.phi || (f.phi == b.phi && decide (f.cond < b.cond)) then f else b) (same.headD f0)
      let cause := same.foldl (fun (m : Half) f => m ||| (1 <<< f.cond)) 0
      s.decideCapture r k cause best.cond best.phi best.gts (x.firings.filter (fun f => f.frame != k))
  | none => s

/-- A forced or manual trigger at a frame: the conditions that fired with that frame join its mask, the others are later triggers (R313, R315). -/
def State.forceCapture (s : State) (r : Nat) (bit : Half) (f : CapFrame) : State :=
  match s.recorder r with
  | some x =>
    let cause := (x.firings.filter (fun y => y.frame == f.num)).foldl (fun (m : Half) y => m ||| (1 <<< y.cond)) bit
    s.decideCapture r f.num cause 0xFF 256 f.time (x.firings.filter (fun y => y.frame != f.num))
  | none => s

/-- `GATHER_END`: the gather window has run out (R313). -/
def execGatherEnd (recorder : Nat) (s : State) : Host.Outcome State Fault Refusal := answer <|
  match (s.recorder recorder).bind (fun x => x.gatherEnd) with
  | some t => if t ≤ s.elapsed then s.decideFirings recorder else s
  | none => s

/-- `CAPTURE_CLOSE`: GATHER µs after its last frame the capture closes (R315). -/
def execCaptureClose (recorder : Nat) (s : State) : Host.Outcome State Fault Refusal := answer <|
  match (s.recorder recorder).bind (fun x => x.closeAt) with
  | some t => if t ≤ s.elapsed then s.closeCapture recorder 0 false else s
  | none => s

/-! ### Firings (R311 to R314) -/

/-- A firing in an IDLE or HOLD recorder, or one too old, is missed (R312, R314). -/
def State.missFiring (s : State) (r cond : Nat) (quiet : Bool) : State :=
  let s := s.bump (Reg.CAP_R_CNT_MISSED r)
  match s.recorder r with
  | some x =>
    if quiet || x.missedRun then s
    else (s.modRec r (fun x => { x with missedRun := true })).log 0x0E07 2
      (leBytes 1 r ++ leBytes 1 cond ++ leBytes 2 0 ++ leBytes 4 (s.reg (Reg.CAP_R_CNT_MISSED r)).toNat)
  | none => s

/-- A firing is found (R313, R314). -/
def State.foundFiring (s : State) (r : Nat) (f : Firing) : State :=
  match s.recorder r with
  | some x =>
    if s.recState r = 1 then
      let t := s.elapsed + s.field (Reg.CAP_R_GATHER r) 16 0 * 1000
      let s := s.modRec r (fun x => { x with firings := x.firings ++ [f], gatherEnd := some (x.gatherEnd.getD t) })
      if x.gatherEnd.isNone then s.setFlag (Reg.CAP_R_STATUS r) 2 true else s
    else if s.recState r = 2 then s.laterTrigger r f.frame
    else s.missFiring r f.cond false
  | none => s

/-- ⌊256 n / d⌋ clamped to 1 to 256 (R312). -/
def phiOf (n d : Int) : Nat := if d = 0 then 256 else (max 1 (min 256 (256 * n / d))).toNat

/-- φ between two values of a quantity, against a threshold. -/
def phiVal (q0 q1 th : Word) : Nat :=
  let a := F32.dySub (F32.val th) (F32.val q0)
  let b := F32.dySub (F32.val q1) (F32.val q0)
  let (x, y, _) := F32.align a b
  phiOf (if y < 0 then -x else x) (if y < 0 then -y else y)

/-- The firing of a condition with φ between two frames (R312). -/
def firingAt (cond phi : Nat) (a b : CapFrame) : Firing :=
  { cond := cond, frame := b.num, phi := phi, gts := a.time + phi * (b.time - a.time) / 256 }

/-- A value rises past a threshold, or falls past it. -/
def rises (th x0 x1 : Word) : Bool := F32.lt x0 th && F32.le th x1
/-- A value falls past a threshold. -/
def fallsPast (th x0 x1 : Word) : Bool := F32.lt th x0 && F32.le x1 th

/-- φ of an analog condition that fires at the newest of some values, newest first (Table 13-3). -/
def analogPhi (ctrl th1 th2 : Word) (f : Nat) (h : List (Option Word)) : Option Nat :=
  let x := fun (i : Nat) => (h[i]?).getD none
  let dir := bitsOf ctrl 5 4
  let n := bitsOf ctrl 15 8
  let crossMag := fun (q0 q1 : Word) => if F32.lt (F32.abs q0) th1 && F32.le th1 (F32.abs q1) then some (phiVal (F32.abs q0) (F32.abs q1) th1) else none
  match bitsOf ctrl 3 1 with
  | 0 =>
    match x 1, x 0 with
    | some a, some b =>
      if (dir != 1 && rises th1 a b) || (dir != 0 && dir != 3 && fallsPast th1 a b) then some (phiVal a b th1) else none
    | _, _ => none
  | 1 =>
    match x 2, x 1, x 0 with
    | some a, some b, some c => crossMag (F32.sub b a) (F32.sub c b)
    | _, _, _ => none
  | 2 =>
    match x 1, x 0 with
    | some a, some b =>
      if F32.le th1 a && F32.le a th2 then
        if F32.lt b th1 then some (phiVal a b th1) else if F32.lt th2 b then some (phiVal a b th2) else none
      else none
    | _, _ => none
  | 3 =>
    match x (n + 1), x n, x 1, x 0 with
    | some a, some b, some c, some d =>
      let rho := fun (u v : Word) => F32.div (F32.mul (F32.sub u v) (F32.ofInt (f : Int))) (F32.ofInt (n : Int))
      crossMag (rho c a) (rho d b)
    | _, _, _, _ => none
  | _ => none

/-- Evaluates an analog condition at the frame just written (R311, R312). -/
def State.evalCond (s : State) (r : Nat) (prev : Option CapFrame) (f : CapFrame) (c : Nat) : State :=
  match s.recorder r with
  | some x =>
    let ctrl := s.reg (Reg.CAP_C_CTRL r c)
    let kind := bitsOf ctrl 3 1
    if ctrl.getLsbD 0 && kind < 4 then
      let h := (frameValue f (s.reg (Reg.CAP_C_SRC r c)).toNat :: (x.conds.getD c {}).hist).take 258
      let s := s.modRec r (fun x => { x with conds := listMod x.conds c (fun y => { y with hist := h }) })
      match prev, analogPhi ctrl (s.reg (Reg.CAP_C_TH1 r c)) (s.reg (Reg.CAP_C_TH2 r c)) (s.frameRate r x) h with
      | some a, some p => s.foundFiring r (firingAt c p a f)
      | _, _ => s
    else s
  | none => s

/-- The firing of a discrete condition at a frame whose predecessor may have gone (R312). -/
def discreteAt (cond tc : Nat) (prev : Option CapFrame) (f : CapFrame) : Firing :=
  match prev with
  | some a => firingAt cond (phiOf ((tc : Int) - a.time) ((f.time : Int) - a.time)) a f
  | none => { cond := cond, frame := f.num, phi := 256, gts := f.time }

/-- The first frame with time at or after an instant, and the frame before it. -/
def frameFrom : Option CapFrame → List CapFrame → Nat → Option (Option CapFrame × CapFrame)
  | _, [], _ => none
  | p, f :: r, t => if t ≤ f.time then some (p, f) else frameFrom (some f) r t

/-- A discrete condition fires for an instant (R312). -/
def State.fireDiscrete (s : State) (r c tc : Nat) : State :=
  match s.recorder r with
  | some x =>
    match frameFrom none x.frames tc with
    | some (p, f) =>
      if p.isNone && decide (tc < f.time) then s.missFiring r c true else s.foundFiring r (discreteAt c tc p f)
    | none => s.modRec r (fun x => { x with waitDisc := x.waitDisc ++ [(c, tc)] })
  | none => s

/-- A handoff to the discrete conditions of a kind and source (R311): 4 DETECTOR by trigger number, 5 ALARM by alarm. -/
def State.capHandoff (s : State) (kind src : Nat) (active : Bool) (key : Nat) : State :=
  s.cap.recs.foldl (fun (s : State) (x : Nat × RecorderState) =>
    (List.range 8).foldl (fun (s : State) c =>
      let ctrl := s.reg (Reg.CAP_C_CTRL x.1 c)
      if s.capOn x.1 && ctrl.getLsbD 0 && bitsOf ctrl 3 1 == kind && (s.reg (Reg.CAP_C_SRC x.1 c)).toNat == src then
        let was := ((x.2.conds.getD c {}).fired)
        let s := s.modRec x.1 (fun y => { y with conds := listMod y.conds c (fun z => { z with fired := active }) })
        if active && !was then s.fireDiscrete x.1 c key else s
      else s) s) s

/-! ### Writing frames (R308 to R310, R322) -/

/-- A mark overtaken by the write of a frame moves to the oldest valid frame (R322). -/
def State.moveMark (s : State) (r low i : Nat) : State :=
  match s.recorder r with
  | some x =>
    let m := x.marks.getD i 0
    if m < low then
      let was := s.flag (Reg.CAP_R_MARK_STAT r i) 0
      let s := s.modRec r (fun x => { x with marks := x.marks.set i low })
      let s := (s.setPair (Reg.CAP_R_MARK_LO r i) (Reg.CAP_R_MARK_HI r i) low).bumpBy (Reg.CAP_R_MARK_LOST r i) (low - m)
      let s := s.setFlag (Reg.CAP_R_MARK_STAT r i) 0 true
      if was then s else s.log 0x0E03 1 (leBytes 1 r ++ leBytes 1 i ++ leBytes 2 0 ++ leBytes 4 (satNat 32 (low - m)))
    else s
  | none => s

/-- A recorder writes its next frame: live ring, marks, store, conditions, forced trigger (R310, R314, R318, R322). -/
def State.writeFrame (s : State) (r time : Nat) (rev : Half) (flags : Byte) (seq : Word) (slots : List Slot) : State :=
  match s.recorder r with
  | some x =>
    let d := s.liveDepth r
    let f : CapFrame := { num := x.widx, time := time, rev := rev, flags := flags, seq := seq, slots := slots }
    let prev := x.frames.getLast?
    let all := x.frames ++ [f]
    let s := s.modRec r (fun x => { x with frames := all.drop (all.length - d), widx := x.widx + 1 })
    let s := s.setPair (Reg.CAP_R_WIDX_LO r) (Reg.CAP_R_WIDX_HI r) (f.num + 1)
    let s := (List.range 4).foldl (fun (s : State) i => s.moveMark r (f.num + 1 - d) i) s
    let s := if s.recState r = 2 then
        (if ((x.active.map (fun c => decide (f.num ≤ c.lastWanted))).getD false) && Config.captureBehind s.tim.ticks r then s.overflow r 2 false
          else s.storeFrame r false f)
      else s
    let s := (List.range 8).foldl (fun (s : State) c => s.evalCond r prev f c) s
    let due := x.waitDisc.filter (fun w => decide (w.2 ≤ time))
    let s := s.modRec r (fun x => { x with waitDisc := x.waitDisc.filter (fun w => !decide (w.2 ≤ time)) })
    let s := due.foldl (fun (s : State) w => s.foundFiring r (discreteAt w.1 w.2 prev f)) s
    if x.autoForce && s.recState r = 1 && x.armTime + s.field (Reg.CAP_R_TIMEOUT r) 11 0 * 1000000000 ≤ time then
      s.forceCapture r 0x0100 f
    else s
  | none => s

/-- The ROW recorders of a group write the finished row (Table 13-1). -/
def State.captureRow (s : State) (g : Nat) (f : Furrow) : State :=
  s.cap.recs.foldl (fun (s : State) (x : Nat × RecorderState) =>
    if s.capOn x.1 && !s.recWave x.1 && s.recRg x.1 == g then
      s.writeFrame x.1 f.tag f.rev f.flags (Word.ofNat f.idx) (x.2.cfg.chans.map (fun c => (kvGet f.slots c).getD missingSlot))
    else s) s

/-- A WAVE channel at a grid instant: its sample, nothing yet, or no output at all (R309). -/
def State.waveAt (s : State) (c j : Nat) : Option Slot :=
  let w := s.wch c
  match w.grid.find? (fun p => p.1 == j) with
  | some (_, v) => some { missingSlot with a := v.v, q := v.q }
  | none =>
    match w.nextG with
    | some n => if j < n then some missingSlot else none
    | none => some missingSlot

/-- The next grid instant at which a WAVE recorder has a sample. -/
def State.nextWave (s : State) (x : RecorderState) : Option Nat :=
  let js := (x.cfg.chans.map (fun c => ((s.wch c).grid.map (fun p => p.1)).filter (fun j =>
    j % max 1 x.cfg.div == 0 && (match x.lastJ with
      | some l => decide (l < j)
      | none => true)))).flatten
  js.foldl (fun (b : Option Nat) j => match b with
    | some m => some (min m j)
    | none => some j) none

/-- A WAVE recorder writes, oldest first, every frame whose channels' outputs exist (Table 13-1). -/
def State.waveFrames (r : Nat) : Nat → State → State
  | 0, s => s
  | fuel + 1, s =>
    match s.recorder r with
    | some x =>
      match s.nextWave x with
      | some j =>
        let vals := x.cfg.chans.map (fun c => s.waveAt c j)
        if vals.all (fun v => v.isSome) then
          State.waveFrames r fuel
            ((s.modRec r (fun y => { y with lastJ := some j })).writeFrame r (gridInstant j) 0 0 0 (vals.map (fun v => v.getD missingSlot)))
        else s
      | none => s
    | none => s

/-- WAVE recorders of a channel follow its new outputs (Table 13-1); a channel holds fewer outputs than the bound of frames here. -/
def State.captureWave (s : State) (chan : Nat) : State :=
  s.cap.recs.foldl (fun (s : State) (x : Nat × RecorderState) =>
    if s.capOn x.1 && s.recWave x.1 && x.2.cfg.chans.contains chan then
      State.waveFrames x.1 (x.2.cfg.chans.foldl (fun n c => n + (s.wch c).grid.length) 0) s
    else s) s

/-- A revision notice of a row reaches the ROW recorders of its group (R321). -/
def State.captureRevision (s : State) (g tag : Nat) : State :=
  if !s.flag (Reg.ALN_RG_HIST_CTRL g) 5 then s
  else
    let holds := fun (c : Capture) => c.frames.any (fun f => f.time == tag)
    let mark : Capture → Capture := fun c => if holds c then { c with revisedAfter := satNat 16 (c.revisedAfter + 1) } else c
    let queue : Capture → Capture := fun c => { c with revTags := c.revTags ++ [tag] }
    s.cap.recs.foldl (fun (s : State) (x : Nat × RecorderState) =>
      if s.capOn x.1 && !s.recWave x.1 && s.recRg x.1 == g then
        s.modRec x.1 (fun y => { y with stored := y.stored.map mark, active := y.active.map queue })
      else s) s

/-! ### Register commands (R315, R317, R322) -/

/-- `CAP_R_ARM`: IDLE to ARMED; ignored in any other state (R315). -/
def execCapRArm (recorder : Nat) (s : State) : Host.Outcome State Fault Refusal := answer <|
  if (s.recorder recorder).isSome && s.capOn recorder && s.recState recorder = 0 then s.armRec recorder else s

/-- `CAP_R_DISARM`: ARMED to IDLE; an ACTIVE capture closes at the newest frame written with CUT (R315). -/
def execCapRDisarm (recorder : Nat) (s : State) : Host.Outcome State Fault Refusal := answer <|
  if (s.recorder recorder).isNone then s
  else if s.recState recorder = 1 then
    let s := s.modRec recorder (fun x => { x with firings := [], gatherEnd := none, autoForce := false, waitDisc := [] })
    ((s.setRecState recorder 0).setFlag (Reg.CAP_R_STATUS recorder) 2 false).capTryCommit recorder
  else if s.recState recorder = 2 then s.closeCapture recorder 0x0004 false
  else s

/-- `CAP_R_FORCE`: an ARMED recorder triggers at the newest frame written (R315). -/
def execCapRForce (recorder : Nat) (s : State) : Host.Outcome State Fault Refusal := answer <|
  match s.recorder recorder with
  | some x =>
    match x.frames.getLast? with
    | some f =>
      if s.recState recorder = 1 then s.forceCapture recorder 0x0200 f else s
    | none => s
  | none => s

/-- `CAP_AUTO_TIMEOUT`: in AUTO mode with no firing found, the first frame at or after arm time + TIMEOUT triggers (R315). -/
def execCapAutoTimeout (recorder : Nat) (s : State) : Host.Outcome State Fault Refusal := answer <|
  match s.recorder recorder with
  | some x =>
    let t := x.armTime + s.field (Reg.CAP_R_TIMEOUT recorder) 11 0 * 1000000000
    if s.recState recorder = 1 && s.flag (Reg.CAP_R_CTRL recorder) 4 && x.firings.isEmpty && decide (t ≤ s.now) then
      match frameFrom none x.frames t with
      | some (_, f) => s.forceCapture recorder 0x0100 f
      | none => s.modRec recorder (fun x => { x with autoForce := true })
    else s
  | none => s

/-- Releases a stored capture: a status of Table 00-9 (R317). -/
def State.releaseCapture (s : State) (r num : Nat) : State × Nat :=
  match s.recorder r with
  | some x =>
    match x.stored.find? (fun c => c.num == num && !c.free) with
    | some c =>
      if c.exporting then (s, 0x02)
      else
        let left := purge (x.stored.map (fun (c : Capture) => if c.num = num then { c with free := true } else c))
        let freed := decide (left.length < x.stored.length)
        let s := s.modRec r (fun x => { x with stored := left })
        let s := if freed && s.recState r = 3 then (if s.flag (Reg.CAP_R_CTRL r) 5 then s.armRec r else s.setRecState r 0) else s
        ((s.showStore r).capTryCommit r, 0x00)
    | none => (s, 0x03)
  | none => (s, 0x03)

/-- `CAP_R_RELEASE`: a write of CAP_R_RELEASE (R317). -/
def execCapRRelease (recorder : Nat) (value : Word) (s : State) : Host.Outcome State Fault Refusal :=
  answer (s.releaseCapture recorder value.toNat).1

/-- `CAP_R_MARK_SET`: a write of CAP_R_MARK_HI sets the mark (R3, R322). -/
def execCapRMarkSet (recorder mark : Nat) (hi : Word) (s : State) : Host.Outcome State Fault Refusal := answer <|
  let lo := Reg.CAP_R_MARK_LO recorder mark
  let v := hi.toNat * 2 ^ 32 + (s.lowHalf lo).toNat
  let s := s.clearLo lo
  match s.recorder recorder with
  | some x =>
    let low := x.widx - s.liveDepth recorder
    if x.widx ≤ v then s
    else
      let s := s.modRec recorder (fun x => { x with marks := x.marks.set mark (max v low) })
      let s := s.setPair lo (Reg.CAP_R_MARK_HI recorder mark) (max v low)
      if v < low then
        let was := s.flag (Reg.CAP_R_MARK_STAT recorder mark) 0
        let s := s.setFlag (Reg.CAP_R_MARK_STAT recorder mark) 0 true
        if was then s else s.log 0x0E03 1 (leBytes 1 recorder ++ leBytes 1 mark ++ leBytes 2 0 ++ leBytes 4 (satNat 32 (low - v)))
      else s
  | none => s

/-! ### The capture record (R323, R324) -/

/-- The bytes of a frame (Table 13-2). -/
def frameBytes (wave : Bool) (f : CapFrame) : List Byte :=
  if wave then leBytes 8 f.time ++ (f.slots.map (fun v => leBytes 4 v.a.toNat ++ leBytes 2 v.q.toNat ++ leBytes 2 0)).flatten
  else leBytes 8 f.time ++ leBytes 2 f.rev.toNat ++ leBytes 1 f.flags.toNat ++ leBytes 1 0 ++ leBytes 4 f.seq.toNat
    ++ (f.slots.map slotBytes).flatten

/-- The source stream index of a channel: the stream whose record has it, or 0xFFFF. -/
def State.streamOf (s : State) (c : Nat) : Nat :=
  match s.dec.streams.find? (fun e => inStream e.2.cfg c) with
  | some e => e.1
  | none => 0xFFFF

/-- An event record in a capture: the log's own record, or what the recorder of the log would assign left open while it has none (log entry 3). -/
def State.capEventBytes (s : State) (i : Nat) (e : Event) : List Byte :=
  match s.logRecords.find? (fun r => r.ev == e) with
  | some r => r.bytes
  | none =>
    let w := fun (k : Nat) => Config.freeWord (s.free + 3 * i + k)
    ({ ev := e, optime := (w 0).toNat, pwrcyc := (w 1).toNat % 2 ^ 24, seq := w 2 } : LogRecord).bytes

/-- The image of a stored capture before its signature (Table 13-4). -/
def State.captureBytes (s : State) (r : Nat) (x : RecorderState) (c : Capture) (sign : Bool) : List Byte :=
  let wave := s.recWave r
  let stride := s.recStride r x
  let first := match c.frames.head? with
    | some f => f.num
    | none => 0
  let head := leBytes 4 0x52504143 ++ leBytes 2 1 ++ leBytes 1 r ++ leBytes 1 (bit wave) ++ leBytes 4 c.num
    ++ leBytes 2 (s.field Reg.SYS_DEVICE_ID 8 0) ++ leBytes 2 ((c.flags ||| (if sign then 0x0020#16 else 0)).toNat)
    ++ leBytes 2 c.cause.toNat ++ leBytes 1 c.trigCond ++ leBytes 1 (c.phi - 1) ++ leBytes 8 c.trigFrame ++ leBytes 8 c.trigGts
    ++ leBytes 8 first ++ leBytes 4 c.frames.length ++ leBytes 4 (c.trigFrame - first) ++ leBytes 4 (s.frameRate r x * 1000)
    ++ leBytes 2 x.cfg.chans.length ++ leBytes 2 c.events.length ++ leBytes 4 stride ++ leBytes 2 c.later ++ leBytes 2 c.revisedAfter
    ++ leBytes 1 (if wave then 0 else s.recRg r) ++ leBytes 1 0 ++ leBytes 2 (if wave then x.cfg.div else 0) ++ leBytes 8 c.closeTime
  let head := padTo 252 head
  head ++ leBytes 4 (crc32c head).toNat
    ++ (x.cfg.chans.map (fun ch => leBytes 4 ch ++ leBytes 2 (s.streamOf ch) ++ leBytes 2 0)).flatten
    ++ (c.frames.map (frameBytes wave)).flatten
    ++ (c.events.mapIdx (fun i e => s.capEventBytes i e)).flatten

end Sys2Proof.Machine
end

