-- ==== Sys2Proof/Machine/Lengths.lean ====
section
/-!
DEFINITION. Lengths of the frames that the device builds (R484), from the encodings of their standards: IEC 61850-8-1, 61850-9-2 and
TR 61850-90-5 in BER, and IEEE C37.118.2 (PRESUMED, log entry 34).  Every length counts from the destination address and leaves out
the FCS and the PRP trailer, which the port adds.
-/
namespace Sys2Proof.Machine

/-- Sum of a list of numbers. -/
def sumNat (l : List Nat) : Nat := l.foldl (fun (a b : Nat) => a + b) 0

/-- A BER element with n content bytes: tag, length field, content. -/
def tlv (n : Nat) : Nat := 1 + (if n < 128 then 1 else if n < 256 then 2 else 3) + n

/-- Content bytes of an unsigned number: the shortest form whose top bit is clear, at most 5 for 32 bits. -/
def uintBytes (n : Nat) : Nat := if n < 128 then 1 else if n < 32768 then 2 else if n < 8388608 then 3 else if n < 2147483648 then 4 else 5

/-- A data-set element at its largest encoding (R484). -/
def elemLen : GooseType → Nat
  | .boolean => tlv 1
  | .bitString => tlv 5
  | .integer => tlv 4
  | .unsigned => tlv 5
  | .float32 => tlv 5

/-- The quality of an element: a BIT STRING of 13 bits. -/
def qualityLen : Nat := tlv 3

/-- Ethernet header and VLAN tag. -/
def macLen (vlan : Option VlanTag) : Nat := 14 + (if vlan.isSome then 4 else 0)

/-- Ethernet, IP and UDP headers. -/
def udpLen (vlan : Option VlanTag) (u : UdpDest) : Nat := macLen vlan + (if u.ipv6 then 40 else 20) + 8

/-- Bytes of a signature of R80. -/
def tagBytes (alg : Nat) : Nat := if alg = 1 then 10 else if alg = 4 then 8 else 16

/-- A session PDU of TR 61850-90-5 around a payload: connectionless transport header 2, session header 26, user-data length 4, payload header 6, and the signature with its tag and length. -/
def sessionLen (alg payload : Nat) : Nat := 2 + 26 + 4 + 6 + payload + 2 + tagBytes alg

/-- A GOOSE PDU: fields of R272, with TimeAllowedtoLive, stNum and sqNum of given sizes, and the data set, to whose elements a cyclic publication adds their quality. -/
def goosePduLen (p : PubRec) (withQ : Bool) (tal st sq : Nat) : Nat :=
  let n := p.elements
  let data := sumNat ((List.range n).map (fun k => elemLen (p.types.getD k .boolean) + (if withQ then qualityLen else 0)))
  tlv (tlv p.gocbRef.length + tlv tal + tlv p.datSet.length + tlv p.goId.length + tlv 8 + tlv st + tlv sq + tlv 1
    + tlv (uintBytes p.confRev.toNat) + tlv 1 + tlv (uintBytes (if withQ then 2 * n else n)) + tlv data)

/-- A GOOSE or R-GOOSE frame whose TimeAllowedtoLive, stNum and sqNum have given sizes. -/
def pubLenOf (p : PubRec) (withQ : Bool) (tal st sq : Nat) : Nat :=
  let pdu := goosePduLen p withQ tal st sq
  if p.rgoose then udpLen p.vlan p.udp + sessionLen p.alg pdu else macLen p.vlan + 8 + pdu

/-- A publication's frame at its longest (R484). -/
def pubWorst (p : PubRec) (withQ : Bool) : Nat := pubLenOf p withQ 5 5 5

/-- A publication's frame with the numbers it carries. -/
def pubLen (p : PubRec) (withQ : Bool) (tal : Nat) (st sq : Word) : Nat :=
  pubLenOf p withQ (uintBytes tal) (uintBytes st.toNat) (uintBytes sq.toNat)

/-- A PMU block of an output frame: STAT, phasors, FREQ and DFREQ, analogs, digital words. -/
def blockLen (b : OutBlockRec) : Nat :=
  2 + b.phasors.length * (if b.phFloat then 8 else 4) + (if b.freqFloat then 8 else 4) + b.analogs.length * (if b.anFloat then 4 else 2)
    + b.digitals.length * 2

/-- FRAMESIZE of an output stream's data frames: header, blocks, CHK. -/
def outSize (o : OutRec) : Nat := 14 + sumNat (o.blocks.map blockLen) + 2

/-- A data frame of an output stream; it has one length. -/
def outLen (o : OutRec) : Nat := udpLen o.vlan o.udp + outSize o

/-- An R-SV frame: one ASDU with svID, smpCnt, confRev, smpSynch and a value and a quality for each channel; it has one length. -/
def rsvLen (r : RsvRec) (alg : Nat) : Nat :=
  let asdu := tlv r.svId.length + tlv 2 + tlv 4 + tlv 1 + tlv (8 * r.channels.length)
  udpLen r.vlan r.udp + sessionLen alg (tlv (tlv 1 + tlv (tlv asdu)))

/-- Station ports that a destination names: one, or both of a pair, each counted on its own (Table 05-5). -/
def destPorts : TxDest → List Nat
  | .port p => [p]
  | .pair q => [2 * q, 2 * q + 1]

/-- A frame as it counts on a port's wire (R484): at least 60 bytes, the PRP trailer on a pair, the FCS, and 20 bytes around it. -/
def wireBytes (d : TxDest) (len : Nat) : Nat :=
  max len 60 + (match d with
    | .pair _ => 6
    | .port _ => 0) + 4 + 20

end Sys2Proof.Machine
end

