-- ==== Sys2Proof/Machine/Mirror.lean ====
section
/-!
DEFINITION. Outputs of the device and their mirror on the Fallow partner (R386): pin levels, publications, output tags, pulses.
-/
namespace Sys2Proof.Machine

/-- Shows the pins (Table 12-6): active, owned by ALM, held by HOLD. -/
def State.showPins (s : State) : State :=
  let n := fun (f : PinState → Bool) => ((s.alm.pins.mapIdx (fun i p => bit (f p) * 2 ^ i))).foldl (· + ·) 0
  s.setReg Reg.ALM_PIN_STATE (Word.ofNat (n (fun p => p.active) + n (fun p => p.byAlm) * 256 + n (fun p => p.holding) * 65536))

/-- An alarm pin takes a level (R292). -/
def State.pinLevel (s : State) (n : Nat) (active : Bool) : State :=
  let t := s.elapsed
  { s with alm := { s.alm with pins := listMod s.alm.pins n (fun p =>
      if p.active = active then p else { p with active := active, since := if active then t else p.since }) } }.showPins

/-- A pin is to take a level: at once, or once its mirror message is acknowledged. -/
def State.drivePin (s : State) (n : Nat) (active : Bool) : State :=
  if s.mirrored then s.mirror (.pin n active) else s.pinLevel n active

/-- A publication message is to be sent: at once, or once its mirror message is acknowledged. -/
def State.sendMirrored (s : State) (p : MirrorPub) (d : TxDest) (cls len : Nat) (b : TxBody) : State :=
  if !s.drives then s
  else if s.mirrored then
    let n := s.twn.nextMsg
    let s := s.mirror (.pub p)
    { s with twn := { s.twn with held := s.twn.held ++ [(n, d, cls, len, b)] } }
  else s.sendTo d cls len b

/-- The mirror message of a number is acknowledged: its pin changes, or its held message goes out. -/
def State.acknowledge (s : State) (n : Nat) : State :=
  let pin := s.twn.unacked.find? (fun m => m.num == n)
  let s := { s with twn := { s.twn with unacked := s.twn.unacked.filter (fun m => m.num != n) } }
  let out := s.twn.held.filter (fun h => h.1 == n)
  let s := { s with twn := { s.twn with held := s.twn.held.filter (fun h => h.1 != n) } }
  let s := match pin with
    | some ⟨_, .pin k active⟩ => s.pinLevel k active
    | _ => s
  out.foldl (fun (s : State) h => s.sendTo h.2.1 h.2.2.1 h.2.2.2.1 h.2.2.2.2) s

/-- The device stops waiting for acknowledgements: everything that waits takes effect (R388, R389). -/
def State.stopMirror (s : State) : State := (s.twn.unacked.map (fun m => m.num)).foldl (fun (s : State) n => s.acknowledge n) s

end Sys2Proof.Machine
end

