-- ==== Sys2Proof/Machine/Decoder.lean ====
section
/-!
DEFINITION. Stream decoding and output streams (03_stream_decoding.md): C37.118.2 frames, re-parsing, commits, outputs and R-SV.
-/
namespace Sys2Proof.Machine

/-! ### Entries -/

/-- The entry of a match key, of one of some types (R67). -/
def State.entryOf (s : State) (k : MatchKey) (ty : StreamType → Bool) : Option (Nat × StreamEntry) :=
  s.dec.streams.find? (fun e => ty e.2.cfg.typ && e.2.cfg.key == k)

/-- Counts in a per-stream counter (Table 03-1, bytes 192 to 223). -/
def State.bumpStream (s : State) (i n : Nat) : State :=
  s.modStream i (fun e => { e with cnts := listMod e.cnts n (fun w => satWord (w.toNat + 1)) })

/-- Shows how many streams are INVALID and REJECTED (DEC_STATUS). -/
def State.showStreams (s : State) : State :=
  let n := fun (st : StreamState) => (s.dec.streams.filter (fun e => e.2.state == st)).length
  s.setReg Reg.DEC_STATUS (Word.ofNat (n .invalid + n .rejected * 65536))

/-- An entry takes a state; one that is no longer VALID is no longer waited for (R76, R120). -/
def State.setStreamState (s : State) (i : Nat) (st : StreamState) : State :=
  let was := ((kvGet s.dec.streams i).map (fun e => e.state == .valid)).getD false
  let s := (s.modStream i (fun e => { e with state := st })).showStreams
  (if was && st != .valid then s.stopWaiting i else s).showLearning

/-- A mapping is withdrawn: cause 1 STAT[10] fell, 2 FRAMESIZE (R76); a re-parse begins. -/
def State.withdraw (s : State) (i cause : Nat) : State :=
  let t := s.elapsed
  let s := s.modStream i (fun e => { e with
    reparse := some (0, t), pendState := if e.pendState = some .disabled then some .disabled else none, stat10 := [] })
  (s.setStreamState i .invalid).log 0x0302 1 (leBytes 2 i ++ leBytes 1 cause)

/-- An entry's pending state takes effect at a row boundary of its rate group (R76, R482). -/
def State.applyPend (s : State) (i : Nat) : State :=
  match kvGet s.dec.streams i with
  | some e =>
    match e.pendState with
    | some st =>
      let s := s.modStream i (fun e => { e with pendState := none, stats := if st = .valid && e.state != .valid then {} else e.stats })
      let s := s.setStreamState i st
      if st = .valid && e.state ≠ .disabled then s.log 0x0303 0 (leBytes 2 i ++ leBytes 2 e.cfg.cfgCnt) else s
    | none => s
  | none => s

/-- An entry is to take a state at the next row boundary; a group that does not run has none, and it takes it at once. -/
def State.pendStream (s : State) (i : Nat) (st : StreamState) : State :=
  let s := s.modStream i (fun e => { e with pendState := some st, reparse := none, retryAt := none })
  match kvGet s.dec.streams i with
  | some e => if (s.group e.cfg.rg).isSome then s else s.applyPend i
  | none => s

/-- The streams' part of a row boundary of a group. -/
def State.applyPends (s : State) (g : Nat) : State :=
  (s.dec.streams.filter (fun e => e.2.cfg.rg == g && e.2.pendState.isSome)).foldl (fun (s : State) e => s.applyPend e.1) s

/-! ### Tags and the duplicate bitmap (R24, R68, R114) -/

/-- How a time stands on a stream's grid (R24). -/
inductive Placed where
  | offGrid | decimated | on (p : Nat × Nat)
  deriving DecidableEq, Repr

/-- Places a time on the grid of a stream's rate and on the group's grid. -/
def placeTag (r streamRate t : Nat) : Placed :=
  let m := max 1 (streamRate / max 1 r)
  match gridNear streamRate t with
  | some (s, k) => if k % m = 0 then .on (s, k / m) else .decimated
  | none => .offGrid

/-- A frame stamped before the furrow of its row opens, at the grid tag before; or whose furrow has not opened (R115, R130). -/
def State.isFuture (s : State) (g stamp : Nat) (p : Nat × Nat) : Bool :=
  match s.group g with
  | some x => match rowIndex x (s.rate g) p with
    | some n => decide (x.nextIdx ≤ n) || decide (stamp < gridTag (s.rate g) (gridPrev (s.rate g) p).1 (gridPrev (s.rate g) p).2)
    | none => false
  | none => false

/-! ### Values (R70, R71, R75) -/

/-- The low 16 bits as a signed number. -/
def int16 (w : Word) : Int := (w.setWidth 16).toInt

/-- A raw value is absent: 0x8000 as an integer, NaN as a float (R71). -/
def rawAbsent (float : Bool) (w : Word) : Bool := if float then F32.isNaN w else w.setWidth 16 == 0x8000#16

/-- A value of a channel before its quality: absent, or parts A and B. -/
abbrev RawVal := Option (Word × Word)

/-- A polar pair in rectangular form. -/
def toRect (m a : Word) : Word × Word :=
  if F32.eq a 0 then (m, 0) else
    let k := Config.cosSinRad a
    (F32.mul m k.1, F32.mul m k.2)

/-- A phasor (R70). -/
def phasorVal (m : MapEntry) (v : Word × Word) : RawVal :=
  if rawAbsent m.float v.1 || rawAbsent m.float v.2 then none
  else
    let raw :=
      if m.float then (if m.polar then toRect v.1 v.2 else v)
      else if m.polar then toRect (F32.mul (F32.ofInt (v.1.setWidth 16).toNat) m.scale) (F32.ofRat (int16 v.2) 10000)
      else (F32.mul (F32.ofInt (int16 v.1)) m.scale, F32.mul (F32.ofInt (int16 v.2)) m.scale)
    let r := if m.rotCos = 0x3F800000 && m.rotSin = 0 then raw else F32.cmul raw.1 raw.2 m.rotCos m.rotSin
    some (F32.add r.1 m.offset, F32.add r.2 m.offset)

/-- Frequency and ROCOF (R70). -/
def freqVal (m : MapEntry) (fnom : Nat) (f d : Word) : RawVal :=
  if rawAbsent m.float f || rawAbsent m.float d then none
  else if m.float then some (f, d)
  else some (F32.ofRat ((fnom : Int) * 1000 + int16 f) 1000, F32.ofRat (int16 d) 100)

/-- An analog value (R70). -/
def analogVal (m : MapEntry) (w : Word) : RawVal :=
  if rawAbsent m.float w then none
  else some (F32.add (F32.mul (if m.float then w else F32.ofInt (int16 w)) m.scale) m.offset, 0)

/-- FNOM in Hz of its code. -/
def fnomHz (code : Nat) : Nat := if code = 2 then 60 else 50

/-- The value of a channel in its PMU block. -/
def blockVal (m : MapEntry) (fnom : Nat) (b : PmuBlock) : RawVal :=
  match m.kind with
  | .phasor => (b.phasors[m.pos]?).bind (phasorVal m)
  | .freq => freqVal m fnom b.freq b.dfreq
  | .analog => (b.analogs[m.pos]?).bind (analogVal m)
  | .digital => (b.digitals[m.pos]?).map (fun d => (d.setWidth 32, 0))
  | _ => none

/-- A value lies outside MIN to MAX: the magnitude of a phasor, value A of others; a digital word is never checked (R70). -/
def outOfRange (m : MapEntry) (v : Word × Word) : Bool :=
  match m.kind with
  | .digital => false
  | .phasor =>
    (!F32.notFinite m.min && F32.magLt v.1 v.2 m.min) || (!F32.notFinite m.max && F32.magGt v.1 v.2 m.max)
  | _ => F32.lt v.1 m.min || F32.lt m.max v.1

/-- A part that is not finite, in a value that is not a digital word. -/
def valBad (m : MapEntry) (v : Word × Word) : Bool :=
  m.kind != .digital && (F32.notFinite v.1 || F32.notFinite v.2)

/-- Flags of a block, without VALID, and whether VALID is cleared (Table 03-4). -/
def State.statQuality (s : State) (stat : Half) (tq : Nat) : Half × Bool :=
  let n := stat.toNat
  let e := n / 16384
  let f : Half := (if e = 1 || e = 3 then Q.alarm else 0) ||| (if e = 2 then Q.test else 0)
    ||| (if stat.getLsbD 13 then Q.syncLost else 0) ||| (if stat.getLsbD 11 then Q.alarm else 0)
    ||| (if n / 16 % 4 = 0 then 0 else Q.timeSuspect)
    ||| (if tq = 0xF then Q.syncLost else if s.field Reg.DEC_CTRL 3 0 < tq then Q.timeSuspect else 0)
  (f, e == 3 || (e == 2 && !s.flag Reg.DEC_CTRL 8))

/-- The slot of a value under flags, and whether its result was not finite (R70, R71). -/
def slotFor (m : MapEntry) (v : RawVal) (flags : Half) (clear : Bool) (off src : Half) (tq : Nat) : Slot × Bool :=
  let mk := fun (a b : Word) (q : Half) => Slot.mk a b q off src (BitVec.ofNat 8 tq)
  match v with
  | none => (mk 0 0 (flags ||| Q.missing), false)
  | some v =>
    if valBad m v then (mk 0 0 (flags ||| Q.range), true)
    else
      let f := if outOfRange m v then flags ||| Q.range else flags
      (mk v.1 v.2 (if clear then f else f ||| Q.valid), false)

/-- The map entries of a stream with their channels. -/
def State.streamMap (s : State) (e : StreamEntry) : List (Nat × MapEntry) :=
  (List.range e.cfg.chanCount).filterMap (fun k => (kvGet s.dec.map (e.cfg.mapBase + k)).map (fun m => (e.cfg.chanBase + k, m)))

/-- One bit of the CRC-CCITT of R72. -/
def crcStep (c : Half) : Half := if c.getLsbD 15 then (c <<< 1) ^^^ 0x1021#16 else c <<< 1

/-- CHK of R72: polynomial 0x1021, initial value 0xFFFF, no reflection, no final XOR. -/
def crcCcitt (l : List Byte) : Half :=
  l.foldl (fun (c : Half) b => (List.range 8).foldl (fun c _ => crcStep c) (c ^^^ ((b.setWidth 16 : Half) <<< 8))) 0xFFFF#16

/-- The n bytes at an offset of a frame, as a number sent most significant byte first. -/
def frameNum (l : List Byte) (off n : Nat) : Nat := beNat ((l.drop off).take n)

/-- Version of a C37.118.2 frame: SYNC[3:0]. -/
def c37Version (f : C37Frame) : Nat := frameNum f.bytes 1 1 % 16
/-- FRAMESIZE. -/
def c37Size (f : C37Frame) : Nat := frameNum f.bytes 2 2
/-- IDCODE. -/
def c37Idcode (f : C37Frame) : Half := BitVec.ofNat 16 (frameNum f.bytes 4 2)
/-- SOC. -/
def c37Soc (f : C37Frame) : Word := Word.ofNat (frameNum f.bytes 6 4)
/-- FRACSEC. -/
def c37Fracsec (f : C37Frame) : Word := Word.ofNat (frameNum f.bytes 10 4)
/-- CHK holds. -/
def c37ChkOk (f : C37Frame) : Bool :=
  decide (16 ≤ f.bytes.length) && (crcCcitt (f.bytes.take (f.bytes.length - 2))).toNat == frameNum f.bytes (f.bytes.length - 2) 2

/-- The slots of a C37.118.2 frame, and how many results were not finite. -/
def State.c37Slots (s : State) (i : Nat) (e : StreamEntry) (f : C37Frame) (tag : Nat) : List (Nat × Slot) × Nat :=
  let tq := bitsOf (c37Fracsec f) 27 24
  let l := (s.streamMap e).map (fun c =>
    let b := f.blocks.getD c.2.block (PmuBlock.mk 0 [] 0 0 [] [])
    let q := s.statQuality b.stat tq
    (c.1, slotFor c.2 (blockVal c.2 (fnomHz e.cfg.fnomCode) b) q.1 q.2 (arrivalOffset tag f.stamp) (BitVec.ofNat 16 i) tq))
  (l.map (fun x => (x.1, x.2.1)), (l.filter (fun x => x.2.2)).length)

/-! ### C37.118.2 data frames (R72 to R76) -/

/-- STAT[10] of the blocks. -/
def stat10Of (f : C37Frame) : List Bool := f.blocks.map (fun b => b.stat.getLsbD 10)

/-- STAT[10] rises in a block.  DESIGN CHOICE (log entry 28): with no earlier frame, a block that has it set counts as a rise. -/
def statRises (old new : List Bool) : Bool := (new.mapIdx (fun k b => b && !old.getD k false)).any id

/-- STAT[10] falls in a block. -/
def statFalls (old new : List Bool) : Bool := (old.mapIdx (fun k b => b && !new.getD k b)).any id

/-- A frame that passed the checks of R73 on its tag: grid, decimation, duplicates, and delivery. -/
def State.c37Place (s : State) (i : Nat) (e : StreamEntry) (f : C37Frame) : State :=
  let g := e.cfg.rg
  let r := s.rate g
  let frac := bitsOf (c37Fracsec f) 23 0
  let t : Int := s.taiOfSoc (c37Soc f) (c37Fracsec f) * 1000000000 + ((2 * frac * 1000000000 + e.cfg.rate) / (2 * max 1 e.cfg.rate) : Nat)
  match (if e.cfg.rate ≤ frac then Placed.offGrid else placeTag r e.cfg.reportRate t.toNat) with
  | .offGrid => s.bump (Reg.ALN_RG_CNT_OFFGRID g)
  | .decimated => (s.bump Reg.DEC_CNT_DECIMATED).bumpStream i 5
  | .on p =>
    if dupMarked e r p then (s.bump Reg.DEC_CNT_DUP).bumpStream i 1
    else if s.isFuture g f.stamp p then s.bump (Reg.ALN_RG_CNT_FUTURE g)
    else
      let (vals, bad) := s.c37Slots i e f (gridTag r p.1 p.2)
      let s := ((s.bump Reg.DEC_CNT_FRAMES).bumpStream i 0).bumpBy Reg.DEC_CNT_RANGE bad
      let s := s.modStream i (fun e => { e with lastStamp := f.stamp })
      (s.deliver g i f.stamp p vals).oscDue

/-- `C37_DATA_FRAME`: the frame leaves its pool, its stream is looked up, and the checks of R73 follow in order; one carried over TCP is not decoded (R72). -/
def execC37DataFrame (f : C37Frame) (s : State) : Host.Outcome State Fault Refusal := answer <|
  let s := s.takeDec f.port f.stamp
  if f.tcp then s
  else match s.entryOf (.c37 (c37Idcode f) f.dport f.ip) (· == .c37) with
  | none => s.bump Reg.DEC_CNT_UNKNOWN
  | some (i, e) =>
    if e.state = .disabled then s
    else if !c37ChkOk f then s.bump Reg.DEC_CNT_CHK
    else if c37Version f ≠ 1 && c37Version f ≠ 2 then s.bump Reg.DEC_CNT_VERSION
    else if c37Size f ≠ e.cfg.frameSize then
      let s := (s.bump Reg.DEC_CNT_STRUCT).bumpStream i 2
      if e.state = .invalid then s else s.withdraw i 2
    else if e.state ≠ .valid then (s.bump Reg.DEC_CNT_INVALID).bumpStream i 7
    else if statFalls e.stat10 (stat10Of f) then s.withdraw i 1
    else
      let s := if statRises e.stat10 (stat10Of f) then s.log 0x0301 0 (leBytes 2 i) else s
      let s := s.modStream i (fun e => { e with stat10 := stat10Of f })
      s.c37Place i { e with stat10 := stat10Of f } f

/-! ### Re-parsing (R76, R482) -/

/-- The mapping of an entry is withdrawn or rejected. -/
def StreamEntry.withdrawn (e : StreamEntry) : Bool := e.state == .invalid || e.state == .rejected

/-- A re-parse of an INVALID or REJECTED C37.118.2 entry starts at once. -/
def State.startReparse (s : State) (i : Nat) : State :=
  let t := s.elapsed
  s.modStream i (fun e => if e.withdrawn && e.cfg.typ == .c37 then { e with reparse := some (0, t) } else e)

/-- `REPARSE_ATTEMPT`: at most 3 commands 2 s apart ask the stream's PMU for CFG-2 or CFG-3 (R76).  DESIGN CHOICE (log entry 29): after three unanswered attempts nothing more follows by itself; the entry stays INVALID until DEC_ST_REPARSE or DEC_ST_STATE starts the next re-parse, or REJECTED until its next 60 s. -/
def execReparseAttempt (stream : Nat) (s : State) : Host.Outcome State Fault Refusal := answer <|
  match kvGet s.dec.streams stream with
  | some e =>
    match e.reparse with
    | some (n, t) =>
      if e.withdrawn && n < 3 && (n = 0 || t + 2000000000 ≤ s.elapsed) then
        let now := s.elapsed
        (s.modStream stream (fun e => { e with reparse := some (n + 1, now) })).sendOn e.cfg.cmdPort 1 60 (.cfgRequest stream e.cfg.cfg3)
      else s
    | none => s
  | none => s

/-- The first condition of R76 that a configuration frame fails, 0 where it meets all four. -/
def State.cfgCondition (s : State) (e : StreamEntry) (f : CfgFrame) : Nat :=
  let alloc := fun (b : Nat) => ((s.streamMap e).filter (fun c => c.2.block == b)).length
  if f.blockChannels.length ≠ e.cfg.units then 1
  else if (f.blockChannels.mapIdx (fun b n => decide (alloc b < n))).any id then 2
  else if !f.formatsOk then 3
  else if f.timeBase ≠ e.cfg.rate || f.fnomCode ≠ e.cfg.fnomCode then 4
  else 0

/-- `CFG_FRAME_RX`: supervisor firmware accepts the new mapping, or rejects it (R76). -/
def execCfgFrameRx (stream : Nat) (f : CfgFrame) (s : State) : Host.Outcome State Fault Refusal := answer <|
  match kvGet s.dec.streams stream with
  | some e =>
    if e.withdrawn && e.reparse.isSome then
      let c := s.cfgCondition e f
      if c = 0 then
        let base := e.cfg.mapBase
        let map := (f.map.take e.cfg.chanCount).mapIdx (fun k m => (base + k, m))
        let s := { s with dec := { s.dec with map := map.foldl (fun l (x : Nat × MapEntry) => kvPut l x.1 x.2) s.dec.map } }
        let s := s.modStream stream (fun e => { e with cfg := { e.cfg with frameSize := f.frameSize, cfgCnt := f.cfgCnt } })
        s.pendStream stream .valid
      else
        let t := s.elapsed + 60000000000
        let s := s.modStream stream (fun e => { e with reparse := none, retryAt := some t })
        (s.setStreamState stream .rejected).log 0x0304 2 (leBytes 2 stream ++ leBytes 1 c)
    else s
  | none => s

/-- `REPARSE_RETRY`: a REJECTED stream is tried again every 60 s (R76). -/
def execReparseRetry (stream : Nat) (s : State) : Host.Outcome State Fault Refusal := answer <|
  match kvGet s.dec.streams stream with
  | some e =>
    match e.retryAt with
    | some t =>
      if e.state = .rejected && t ≤ s.elapsed then
        (s.modStream stream (fun e => { e with retryAt := some (t + 60000000000) })).startReparse stream
      else s
    | none => s
  | none => s

/-- The stream that DEC_ST_INDEX selects. -/
def State.selStream (s : State) : Nat := s.field Reg.DEC_ST_INDEX 13 0

/-- `ST_REPARSE`: a write of DEC_ST_REPARSE (R76). -/
def execStReparse (s : State) : Host.Outcome State Fault Refusal := answer (s.startReparse s.selStream)

/-- `ST_DISABLE`: a write of 0 to DEC_ST_STATE (R482). -/
def execStDisable (s : State) : Host.Outcome State Fault Refusal := answer <|
  match kvGet s.dec.streams s.selStream with
  | some e => if e.cfg.typ = .unused then s else s.pendStream s.selStream .disabled
  | none => s

/-- `ST_ENABLE`: a write of 1 to DEC_ST_STATE (R482). -/
def execStEnable (s : State) : Host.Outcome State Fault Refusal := answer <|
  match kvGet s.dec.streams s.selStream with
  | some e =>
    if e.cfg.typ = .unused then s
    else match e.state with
      | .disabled => s.pendStream s.selStream .valid
      | .valid => s
      | _ => s.startReparse s.selStream
  | none => s

/-! ### Commits (R83, R89, R92) -/

/-- The staged key fields of a stream take effect (R83). -/
def State.commitKeys (s : State) (i : Nat) (k : KeyShadow) : State :=
  let s := { s with dec := { s.dec with keys := kvDel s.dec.keys i } }
  s.modStream i (fun e => { e with cfg := { e.cfg with
    curSlot := k.curSlot.getD e.cfg.curSlot, nextSlot := k.nextSlot.getD e.cfg.nextSlot
    curKeyId := k.curKeyId.getD e.cfg.curKeyId, nextKeyId := k.nextKeyId.getD e.cfg.nextKeyId } })

/-- Changes an output stream. -/
def State.modOut (s : State) (o : Nat) (f : OutState → OutState) : State :=
  { s with dec := { s.dec with outs := s.dec.outs.map (fun x => if x.cfg.id = o then f x else x) } }

/-- An output stream. -/
def State.out (s : State) (o : Nat) : Option OutState := s.dec.outs.find? (fun x => x.cfg.id == o)

/-- The first second boundary at least n s after now. -/
def State.secondAfter (s : State) (n : Nat) : Nat := (s.now + n * 1000000000 + 999999999) / 1000000000 * 1000000000

/-- A committed change to an output stream waits for its second boundary, with STAT[10] set (R89). -/
def State.commitOut (s : State) (o : Nat) : State :=
  match s.out o with
  | none => (s.commitReg (Reg.DEC_OUT_CTRL o)).commitReg (Reg.DEC_OUT_WAIT o)
  | some x =>
  if (kvGet s.shadow (Reg.DEC_OUT_CTRL o)).isNone && (kvGet s.shadow (Reg.DEC_OUT_WAIT o)).isNone then s
  else
    let c := (kvGet s.shadow (Reg.DEC_OUT_CTRL o)).getD (if x.pendAt.isSome then x.pendCtrl else s.reg (Reg.DEC_OUT_CTRL o))
    let w := (kvGet s.shadow (Reg.DEC_OUT_WAIT o)).getD (if x.pendAt.isSome then x.pendWait else s.reg (Reg.DEC_OUT_WAIT o))
    let t := s.secondAfter (s.field Reg.DEC_OUT_CFG_DELAY 5 0)
    let s := (s.dropShadow (Reg.DEC_OUT_CTRL o)).dropShadow (Reg.DEC_OUT_WAIT o)
    (s.modOut o (fun x => { x with pendAt := some t, pendCtrl := c, pendWait := w })).setFlag (Reg.DEC_OUT_STATUS o) 1 true

/-- The decimation of an output stream divides its group's rate (R86). -/
def decimOk (rate d : Nat) : Bool := d != 0 && rate % d == 0

/-- A value of a DEC_OUT_CTRL register holds a decimation that the stream's group allows; any other register's value does (R86). -/
def State.decimFits (s : State) (a : Nat) (v : Word) : Bool :=
  match s.dec.outs.find? (fun x => Reg.DEC_OUT_CTRL x.cfg.id == a) with
  | some x => s.rate x.cfg.rg == 0 || decimOk (s.rate x.cfg.rg) (bitsOf v 15 8)
  | none => true

/-- The lowest-numbered enabled rate group. -/
def State.lowestGroup (s : State) : Nat := ((List.range 4).find? (fun g => s.groupOn g)).getD 0

/-- Rate group at whose row boundary the staged fields of an output stream commit. -/
def State.outGroup (s : State) (o : Nat) : Nat := ((s.out o).map (fun x => x.cfg.rg)).getD s.lowestGroup
/-- Rate group at whose row boundary the staged fields of a publication commit. -/
def State.rsvGroup (s : State) (p : Nat) : Nat := ((s.dec.rsvs.find? (fun x => x.cfg.id == p)).map (fun x => x.cfg.rg)).getD s.lowestGroup
/-- Rate group at whose row boundary the staged keys of a stream commit. -/
def State.keyGroup (s : State) (i : Nat) : Nat := ((kvGet s.dec.streams i).map (fun e => e.cfg.rg)).getD 0

/-- Something of DEC is staged that commits at the row boundary of a group (R83, R92). -/
def State.decStaged (s : State) (g : Nat) : Bool :=
  let has := fun (a : Nat) => (kvGet s.shadow a).isSome
  (s.lowestGroup == g && has Reg.DEC_OUT_CFG_DELAY)
    || s.dec.keys.any (fun k => s.keyGroup k.1 == g)
    || (List.range 64).any (fun o => s.outGroup o == g && (has (Reg.DEC_OUT_CTRL o) || has (Reg.DEC_OUT_WAIT o)))
    || (List.range 32).any (fun p => s.rsvGroup p == g && has (Reg.DEC_RSV_CTRL p))

/-- Everything staged for a group commits, what was staged after DEC_COMMIT with it (R8). -/
def State.commitStaged (s : State) (g : Nat) : State :=
  let s := if s.lowestGroup = g then s.commitReg Reg.DEC_OUT_CFG_DELAY else s
  let s := (s.dec.keys.filter (fun k => s.keyGroup k.1 == g)).foldl (fun (s : State) k => s.commitKeys k.1 k.2) s
  let s := (List.range 64).foldl (fun (s : State) o => if s.outGroup o = g then s.commitOut o else s) s
  (List.range 32).foldl (fun (s : State) p => if s.rsvGroup p = g then s.commitReg (Reg.DEC_RSV_CTRL p) else s) s

/-- DEC_COMMIT clears once everything staged before the write has committed; the commit is then over for every group (R83). -/
def State.decDone (s : State) : State :=
  if s.dec.commitNeed.isEmpty then ({ s with dec := { s.dec with commitWait := [] } }).setFlag Reg.DEC_COMMIT 0 false else s

/-- A group's first row boundary after DEC_COMMIT (R83, R92). -/
def State.commitDec (s : State) (g : Nat) : State :=
  if s.dec.commitWait.contains g then
    let s := s.commitStaged g
    ({ s with dec := { s.dec with
      commitWait := s.dec.commitWait.filter (· != g), commitNeed := s.dec.commitNeed.filter (· != g) } }).decDone
  else s

/-- `DEC_COMMIT`: each group commits at its next row boundary; one that does not run commits at once, and with nothing staged the bit clears (R83). -/
def execDecCommit (s : State) : Host.Outcome State Fault Refusal := answer <|
  let need := (List.range 4).filter (fun g => s.decStaged g)
  let s := ({ s with dec := { s.dec with commitWait := [0, 1, 2, 3], commitNeed := need } }).setFlag Reg.DEC_COMMIT 0 true
  let s := (List.range 4).foldl (fun (s : State) g => if (s.group g).isSome then s else s.commitDec g) s
  s.decDone

/-! ### Output streams (R86 to R89) -/

/-- The channels of an output block. -/
def outChans (b : OutBlockRec) : List Nat := b.phasors ++ b.freq.toList ++ b.analogs ++ b.digitals

/-- Everything an output draws on is there for a tag, or its wait has passed (R87). -/
def State.outReady (s : State) (x : OutState) (tag : Nat) : Bool :=
  let chans := (x.cfg.blocks.map outChans).flatten
  let have_ := fun (f : Furrow) (c : Nat) => match kvGet s.aln.chans c with
    | some r => if r.derived then (kvGet f.slots c).isSome else f.isClosed r.sec
    | none => true
  tag + (s.reg (Reg.DEC_OUT_WAIT x.cfg.id)).toNat * 1000 ≤ s.now ||
    (match s.outRow x.cfg.rg tag with
      | some f => chans.all (have_ f)
      | none => false)

/-- The STAT word of an output block (R88). -/
def State.outStat (s : State) (o : Nat) (flags : Byte) (slots : List Slot) : Half :=
  let absent := slots.any (fun x => !hasQ x.q Q.valid)
  let made := slots.any (fun x => hasQ x.q (Q.held ||| Q.estimated ||| Q.derived)) || flags.getLsbD 3
  BitVec.ofNat 16 ((if flags.getLsbD 4 then 2 else bit absent) * 16384 + bit (flags.getLsbD 1) * 8192
    + bit (s.flag (Reg.DEC_OUT_STATUS o) 1) * 1024 + bit made * 512
    + s.field Reg.TIM_STATUS 14 12 * 64 + statUnlock s.unlocked * 16)

/-- The slot of a channel in the row of a tag, as an output frame takes it. -/
def State.outSlot (s : State) (g tag c : Nat) : Slot :=
  match s.outRow g tag with
  | some f => s.seenIn f c
  | none => missingSlot

/-- A number of n bytes as the wire carries it, most significant byte first. -/
def beBytes (n v : Nat) : List Byte := (leBytes n v).reverse

/-- A field of an output block: absent as NaN or 0x8000 where the channel is not VALID (R87); an integer never takes 0x8000 for a value. -/
def outField (float : Bool) (kind : Nat) (unit_ : Word) (valid : Bool) (w : Word) : List Byte :=
  if float then beBytes 4 (if valid then w.toNat else 0x7FC00000)
  else
    let h := Config.outInt kind w unit_
    beBytes 2 (if valid && h != 0x8000#16 then h.toNat else if valid then 0x8001 else 0x8000)

/-- The two fields of a phasor: rectangular, or magnitude and angle. -/
def outPhasor (b : OutBlockRec) (unit_ : Word) (x : Slot) : List Byte :=
  let v := hasQ x.q Q.valid
  if b.polar then outField b.phFloat 0 unit_ v (F32.mag x.a x.b) ++ outField b.phFloat 3 unit_ v (F32.arg x.a x.b)
  else outField b.phFloat 0 unit_ v x.a ++ outField b.phFloat 0 unit_ v x.b

/-- Bytes of a block: STAT, phasors, FREQ and DFREQ, analogs, digital words; FREQ and DFREQ of a block without a frequency channel are absent. -/
def outBlock (b : OutBlockRec) (stat : Half) (at_ : Nat → Slot) : List Byte :=
  let fnom : Word := F32.ofInt (if b.fnom60 then 60 else 50)
  let f := (b.freq.map at_).getD missingSlot
  let fv := hasQ f.q Q.valid
  beBytes 2 stat.toNat
    ++ (b.phasors.mapIdx (fun k c => outPhasor b (b.phUnits.getD k 0x3F800000) (at_ c))).flatten
    ++ outField b.freqFloat 1 fnom fv f.a ++ outField b.freqFloat 2 0x42C80000 fv f.b
    ++ (b.analogs.mapIdx (fun k c => let x := at_ c; outField b.anFloat 0 (b.anUnits.getD k 0x3F800000) (hasQ x.q Q.valid) x.a)).flatten
    ++ (b.digitals.map (fun c => let x := at_ c; beBytes 2 (if hasQ x.q Q.valid then x.a.toNat else 0x8000))).flatten

/-- A C37.118.2 frame from its type and what follows FRACSEC: SYNC of version 2, FRAMESIZE, IDCODE, SOC, FRACSEC, and CHK (R72). -/
def c37Frame (typ : Nat) (idcode : Half) (soc fracsec : Word) (data : List Byte) : List Byte :=
  let l := beBytes 2 (0xAA02 + typ * 16) ++ beBytes 2 (data.length + 16) ++ beBytes 2 idcode.toNat ++ beBytes 4 soc.toNat
    ++ beBytes 4 fracsec.toNat ++ data
  l ++ beBytes 2 (crcCcitt l).toNat

/-- Builds and sends an output stream's frame for a tag, with row flags added (R87, R88). -/
def State.sendOut (s : State) (x : OutState) (tag : Nat) (more : Byte) : State :=
  let o := x.cfg.id
  let flags := ((s.outRow x.cfg.rg tag).map (fun f => f.flags)).getD 0 ||| more
  let at_ := s.outSlot x.cfg.rg tag
  let data := (x.cfg.blocks.map (fun b => outBlock b (s.outStat o flags ((outChans b).map at_)) at_)).flatten
  let partial_ := x.cfg.blocks.any (fun b => (outChans b).any (fun c => !hasQ (at_ c).q Q.valid))
  let (soc, fr) := s.socFracsec tag x.cfg.timeBase
  let s := s.bump (Reg.DEC_OUT_CNT_TX o)
  let s := if partial_ then s.bump (Reg.DEC_OUT_CNT_PARTIAL o) else s
  let s := s.modOut o (fun x => { x with lastTag := some tag })
  let s := s.sendTo x.cfg.dest (lcQueue (s.field (Reg.DEC_OUT_CTRL o) 5 4)) (outLen x.cfg) (.outStream o (c37Frame 0 x.cfg.idcode soc fr data))
  if s.mirrored then s.mirror (.outTag o tag) else s

/-- A row of the group that an output stream sends: k mod d = 0, newer than the last (R86). -/
def State.outSends (s : State) (x : OutState) (tag : Nat) : Bool :=
  let r := s.rate x.cfg.rg
  let d := max 1 (s.field (Reg.DEC_OUT_CTRL x.cfg.id) 15 8)
  let newer := match x.lastTag with
    | some t => decide (t < tag)
    | none => true
  x.on && newer && (match gridNear r tag with
    | some p => gridTag r p.1 p.2 == tag && p.2 % d == 0
    | none => false)

/-- `OUTPUT_STREAM_FRAME`: the frame for a row is built (R87). -/
def execOutputStreamFrame (o tag : Nat) (s : State) : Host.Outcome State Fault Refusal := answer <|
  match s.out o with
  | some x => if s.drives && tag ≤ s.now && s.outSends x tag && s.outReady x tag then s.sendOut x tag 0 else s
  | none => s

/-- Turns the transmission of an output stream on or off. -/
def State.turnOut (s : State) (o : Nat) (on : Bool) : State :=
  match s.out o with
  | some _ => ((s.modOut o (fun x => { x with on := on })).setFlag (Reg.DEC_OUT_STATUS o) 0 on).setFlag (Reg.DEC_OUT_CTRL o) 1 on
  | none => s

/-- Frames per second of an output stream under the decimation in effect (R86). -/
def State.outRate (s : State) (x : OutState) : Nat := s.rate x.cfg.rg / max 1 (s.field (Reg.DEC_OUT_CTRL x.cfg.id) 15 8)

/-- The frame with which supervisor firmware answers on the command channel: 0 HDR, 1 to 3 CFG-1 to CFG-3, of the stream's record and the settings in effect (R89). -/
def State.outConfig (s : State) (x : OutState) (kind : Nat) : TxBody :=
  let (soc, fr) := s.socFracsec s.now x.cfg.timeBase
  .outConfig kind (s.outRate x) soc fr x.cfg

/-- Supervisor firmware sends a configuration or header frame of an output stream (R89). -/
def State.sendOutConfig (s : State) (o kind : Nat) : State :=
  match s.out o with
  | some x =>
    if s.drives then
      s.sendTo (x.cfg.command.getD x.cfg.dest) 1 (Config.frameLen kind (sumNat (x.cfg.blocks.map (fun b => (outChans b).length)))) (s.outConfig x kind)
    else s
  | none => s

/-- `OUT_CMD_OFF`: command 0x0001 (R89). -/
def execOutCmdOff (o : Nat) (s : State) : Host.Outcome State Fault Refusal := answer (s.turnOut o false)
/-- `OUT_CMD_ON`: command 0x0002 (R89). -/
def execOutCmdOn (o : Nat) (s : State) : Host.Outcome State Fault Refusal := answer (s.turnOut o true)
/-- `OUT_CMD_SEND_HDR`: command 0x0003 (R89). -/
def execOutCmdSendHdr (o : Nat) (s : State) : Host.Outcome State Fault Refusal := answer (s.sendOutConfig o 0)
/-- `OUT_CMD_SEND_CFG1`: command 0x0004 (R89). -/
def execOutCmdSendCfg1 (o : Nat) (s : State) : Host.Outcome State Fault Refusal := answer (s.sendOutConfig o 1)
/-- `OUT_CMD_SEND_CFG2`: command 0x0005 (R89). -/
def execOutCmdSendCfg2 (o : Nat) (s : State) : Host.Outcome State Fault Refusal := answer (s.sendOutConfig o 2)
/-- `OUT_CMD_SEND_CFG3`: command 0x0006 (R89). -/
def execOutCmdSendCfg3 (o : Nat) (s : State) : Host.Outcome State Fault Refusal := answer (s.sendOutConfig o 3)

/-- `OUT_CHANGE_APPLY`: a committed change takes effect at its second boundary, and STAT[10] clears (R89). -/
def execOutChangeApply (o : Nat) (s : State) : Host.Outcome State Fault Refusal := answer <|
  match s.out o with
  | some x =>
    match x.pendAt with
    | some t =>
      if t ≤ s.now then
        let c := s.reg (Reg.DEC_OUT_CTRL o)
        let s := s.setReg (Reg.DEC_OUT_CTRL o) ((c &&& 3) ||| (x.pendCtrl &&& 0xFF30#32))
        let s := s.setReg (Reg.DEC_OUT_WAIT o) x.pendWait
        (s.modOut o (fun x => { x with pendAt := none })).setFlag (Reg.DEC_OUT_STATUS o) 1 false
      else s
    | none => s
  | none => s

/-! ### R-SV publications (R90) -/

/-- The 32-bit quality of a channel: validity in [1:0], test in bit 11. -/
def rsvQuality (q : Half) : Word :=
  Word.ofNat ((if hasQ q Q.valid then 0 else if hasQ q Q.missing then 1 else 3) + (if hasQ q Q.test then 2048 else 0))

/-- Bytes that a PDU's signature covers, as the model orders them. -/
def pduBytes (spdu : Word) (vals : List (Word × Word)) : List Byte :=
  leBytes 4 spdu.toNat ++ (vals.map (fun v => leBytes 4 v.1.toNat ++ leBytes 4 v.2.toNat)).flatten

/-- A publisher signs data with an algorithm of R80 under a Caddy slot: none where the Caddy refuses. -/
def State.signPdu (s : State) (slot alg : Nat) (data : List Byte) : State × Option Nat :=
  match s.caddyUse .pubAuth slot .macGenerate with
  | (s, .ok key) => (s, some (leNat (Config.mac alg key data)))
  | (s, .error _) => (s, none)

/-- `RSV_PUBLISH`: one signed ASDU for a row of the publication's rate group (R90).  DESIGN CHOICE (log entry 30): where the Caddy refuses the key no PDU leaves, and the SPDU number stays. -/
def execRsvPublish (p tag : Nat) (s : State) : Host.Outcome State Fault Refusal := answer <|
  match s.dec.rsvs.find? (fun x => x.cfg.id == p) with
  | some x =>
    let g := x.cfg.rg
    let c := s.reg (Reg.DEC_RSV_CTRL p)
    let alg := bitsOf c 10 8
    let fresh := match x.lastTag with
      | some t => decide (t < tag)
      | none => true
    match gridNear (s.rate g) tag with
    | some q =>
      if s.drives && c.getLsbD 0 && [1, 2, 4, 5].contains alg && fresh && gridTag (s.rate g) q.1 q.2 = tag && tag ≤ s.now then
        let vals := x.cfg.channels.map (fun ch => let v := s.readSlot g tag ch; (v.a, rsvQuality v.q))
        let spdu := s.reg (Reg.DEC_RSV_SPDU p) + 1
        match s.signPdu x.cfg.slot alg (pduBytes spdu vals) with
        | (s, some sig) =>
          let s := (s.setReg (Reg.DEC_RSV_SPDU p) spdu).bump (Reg.DEC_RSV_CNT_TX p)
          let s := { s with dec := { s.dec with rsvs := s.dec.rsvs.map (fun (y : RsvState) => if y.cfg.id = p then { y with lastTag := some tag } else y) } }
          s.sendMirrored (MirrorPub.mk .rsv p 0 0 spdu tag []) x.cfg.dest (lcQueue x.cfg.lc) (rsvLen x.cfg alg)
            (.rsv p q.2 (if s.syncState = 2 then 2 else 0) spdu vals sig)
        | (s, none) => s
      else s
    | none => s
  | none => s

end Sys2Proof.Machine
end

