-- ==== Sys2Proof/Machine/Alarms.lean ====
section
/-!
DEFINITION. Alarms (12_alarms_and_event_log.md): states, pins, publications, queue entries and commits; and the publication rules
they share with cyclic control (R272).
-/
namespace Sys2Proof.Machine

/-! ### Publications (R272, R293) -/

/-- A publication: of ALM, or of the cyclic engine. -/
def State.pub (s : State) (alm : Bool) (p : Nat) : Option PubState :=
  (if alm then s.alm.pubs else s.cyc.pubs).find? (fun x => x.cfg.id == p)

/-- Changes a publication. -/
def State.modPub (s : State) (alm : Bool) (p : Nat) (f : PubState → PubState) : State :=
  let m : PubState → PubState := fun x => if x.cfg.id = p then f x else x
  if alm then { s with alm := { s.alm with pubs := s.alm.pubs.map m } } else { s with cyc := { s.cyc with pubs := s.cyc.pubs.map m } }

/-- stNum and sqNum wrap from 0xFFFF_FFFF to 1. -/
def nextNum (w : Word) : Word := if w = 0xFFFFFFFF#32 then 1 else w + 1

/-- The frame of a publication's message. -/
def pubBody (alm : Bool) (x : PubState) (tal : Nat) : TxBody :=
  let l := x.elems.map (fun e => (e.1, rsvQuality e.2))
  if alm then .alarmPub x.cfg.id x.stNum x.sqNum tal x.change x.alarm l else .cycPub x.cfg.id x.stNum x.sqNum tal l

/-- Shows what a publication last sent (Table 12-6). -/
def State.showPub (s : State) (p : Nat) (x : PubState) : State :=
  ((s.setReg (Reg.ALM_PUB_STNUM p) x.stNum).setReg (Reg.ALM_PUB_SQNUM p) x.sqNum).bump (Reg.ALM_PUB_CNT_TX p)

/-- Sends a publication as it now stands: SPDU number and signature of R-GOOSE, TimeAllowedtoLive twice the spacing (R272). -/
def State.sendPub (s : State) (alm : Bool) (p : Nat) : State :=
  if !s.drives then s
  else match s.pub alm p with
  | some x =>
    let now := s.elapsed
    let x' : PubState := { x with spdu := if x.cfg.rgoose then x.spdu + 1 else x.spdu, nextAt := some (now + x.spacing) }
    let (s, ok) :=
      if x.cfg.rgoose then
        match s.signPdu x.cfg.slot x.cfg.alg (pduBytes x'.spdu (x.elems.map (fun e => (e.1, rsvQuality e.2)))) with
        | (s, some _) => (s, true)
        | (s, none) => (s, false)
      else (s, true)
    let s := s.modPub alm p (fun _ => { x' with change := none })
    if ok then
      let s := if alm then s.showPub p x' else s
      s.sendMirrored (MirrorPub.mk (if alm then .alm else .cyc) p x'.stNum x'.sqNum x'.spdu x'.tSince x'.elems) x.cfg.dest (lcQueue x.cfg.lc)
        (pubLen x.cfg (!alm) (2 * x.spacing / 1000000) x'.stNum x'.sqNum) (pubBody alm x' (2 * x.spacing / 1000000))
    else s
  | none => s

/-- A change of a publication: stNum + 1, sqNum 0, t, and spacing T_min (R272). -/
def State.changePub (s : State) (alm : Bool) (p t : Nat) (elems : List (Word × Half)) : State :=
  if !s.drives then s
  else (s.modPub alm p (fun x => { x with
    stNum := nextNum x.stNum, sqNum := 0, elems := elems, spacing := x.cfg.tMin * 1000000, tSince := t })).sendPub alm p

/-- `PUB_RETRANSMIT`: sqNum + 1 and the spacing doubles up to T_max (R272). -/
def execPubRetransmit (alm : Bool) (p : Nat) (s : State) : Host.Outcome State Fault Refusal := answer <|
  match s.pub alm p with
  | some x =>
    match x.nextAt with
    | some t =>
      if s.drives && t ≤ s.elapsed then
        (s.modPub alm p (fun x => { x with sqNum := nextNum x.sqNum, spacing := min (x.cfg.tMax * 1000000) (2 * x.spacing) })).sendPub alm p
      else s
    | none => s
  | none => s

/-! ### Alarm states and outputs (R288, R289, R292) -/

/-- An alarm. -/
def State.alarm (s : State) (a : Nat) : Option AlarmState := kvGet s.alm.alarms a

/-- Changes an alarm. -/
def State.modAlarm (s : State) (a : Nat) (f : AlarmState → AlarmState) : State :=
  { s with alm := { s.alm with alarms := kvMod s.alm.alarms a f } }

/-- Unacknowledged: ACTIVE_UNACK or RTN_UNACK. -/
def AlarmState.unacked (x : AlarmState) : Bool := x.state == 1 || x.state == 3

/-- The output is asserted (R289). -/
def AlarmState.output (x : AlarmState) : Bool := x.cond || (x.cfg.latch && x.unacked)

/-- The state after the condition changes (Table 12-1). -/
def condState (ackReq : Bool) (st : Nat) (active : Bool) : Nat :=
  if active then (if ackReq then 1 else 2) else if st = 1 then 3 else 0

/-- The state after an accepted acknowledgement (Table 12-1). -/
def ackState (st : Nat) : Nat := if st = 1 then 2 else if st = 3 then 0 else st

/-- Shows the alarm that ALM_INDEX selects. -/
def State.showAlarm (s : State) : State :=
  match s.alarm (s.field Reg.ALM_INDEX 11 0) with
  | some x =>
    let d := x.cfg
    let s := s.setReg Reg.ALM_DEF (Word.ofNat (d.sev % 4 + bit d.latch * 4 + bit d.ackReq * 8 + bit d.record * 16 + bit d.queue * 32
      + d.pins.toNat * 256 + (match d.pub with
        | some (p, e) => e % 64 * 65536 + p % 64 * 2 ^ 24 + 2 ^ 31
        | none => 0)))
    let s := s.setReg Reg.ALM_STATE (Word.ofNat (x.state + bit x.output * 4 + bit x.cond * 8 + x.chg.toNat * 65536))
    s.setPair Reg.ALM_LAST_LO Reg.ALM_LAST_HI x.lastGts
  | none => ((s.setReg Reg.ALM_DEF 0).setReg Reg.ALM_STATE 0).setPair Reg.ALM_LAST_LO Reg.ALM_LAST_HI 0

/-- Shows the counts of ALM_STATUS and the selected alarm. -/
def State.showAlarms (s : State) : State :=
  let n := fun (f : AlarmState → Bool) => (s.alm.alarms.filter (fun x => f x.2)).length
  (s.setReg Reg.ALM_STATUS (Word.ofNat (n AlarmState.output % 8192 + n AlarmState.unacked % 8192 * 65536))).showAlarm

/-- A pin that ALM owns follows the outputs of its alarms, no sooner inactive than HOLD allows (R292). -/
def State.followPin (s : State) (n : Nat) : State :=
  let p := s.alm.pins.getD n {}
  if !p.byAlm then s
  else
    let want := s.alm.alarms.any (fun x => x.2.cfg.pins.getLsbD n && x.2.output)
    let hold := fun (s : State) (h : Bool) => ({ s with alm := { s.alm with pins := listMod s.alm.pins n (fun p => { p with holding := h }) } }).showPins
    if want then
      let s := hold s false
      if p.active then s else s.drivePin n true
    else if !p.active then s
    else if s.elapsed < p.since + s.field (Reg.ALM_PIN_CTRL n) 25 16 * 1000000 then hold s true
    else (hold s false).drivePin n false

/-- `PIN_HOLD_EXPIRE`: the HOLD of a released pin ends (R292). -/
def execPinHoldExpire (pin : Nat) (s : State) : Host.Outcome State Fault Refusal := answer <|
  if (s.alm.pins.getD pin {}).holding then s.followPin pin else s

/-- The elements of an alarm publication (R293). -/
def State.alarmElems (s : State) (x : PubState) : List (Word × Half) :=
  (List.range x.cfg.elements).map (fun e =>
    (Word.ofNat (bit (s.alm.alarms.any (fun a => a.2.cfg.pub == some (x.cfg.id, e) && a.2.output))), Q.valid))

/-- A publication has a change to send, with the closure that led to it (R293). -/
def State.notePub (s : State) (p a : Nat) (closure : Option Nat) : State :=
  let t := s.now
  s.modPub true p (fun x => match x.change with
    | some c => { x with change := some (min c (closure.getD t)) }
    | none => { x with change := some (closure.getD t), alarm := a })

/-- `ALARM_PUB_SEND`: a publication with a change is built from the elements as they now stand (R293). -/
def execAlarmPubSend (p : Nat) (s : State) : Host.Outcome State Fault Refusal := answer <|
  match s.pub true p with
  | some x => if x.change.isSome then s.changePub true p s.now (s.alarmElems x) else s
  | none => s

/-- A queue entry (Table 12-2). -/
def State.alarmEntry (s : State) (a : Nat) (cause gts : Nat) : List Byte :=
  match s.alarm a with
  | some x =>
    leBytes 8 gts ++ leBytes 2 a ++ leBytes 1 x.state ++ leBytes 1 (x.cfg.sev % 4 + bit x.output * 4 + cause * 16) ++ leBytes 2 x.chg.toNat
      ++ leBytes 2 x.last.2.2.toNat ++ leBytes 4 x.last.1.toNat ++ leBytes 4 x.last.2.1.toNat ++ leBytes 4 (satNat 32 x.lag) ++ leBytes 4 0
  | none => []

/-- Writes a queue entry, or counts its loss (R294). -/
def State.alarmQueue (s : State) (b : List Byte) : State :=
  match s.qOffer (s.field Reg.ALM_QUEUE 6 0) 0x12 (toWords 8 b) with
  | some s => { s with alm := { s.alm with queueLostRun := false } }
  | none =>
    let n := s.alm.queueLost + 1
    let was := s.alm.queueLostRun
    let s := { s with alm := { s.alm with queueLost := n, queueLostRun := true } }.bump Reg.ALM_CNT_QUEUE_LOST
    if was then s else s.log 0x0C03 1 (leBytes 4 n)

/-- What follows a state change of an alarm, in the order of R291: pins, publication, queue entry, event record. -/
def State.alarmChanged (s : State) (a : Nat) (outWas : Bool) (cause gts : Nat) (closure : Option Nat) : State :=
  match s.alarm a with
  | some x =>
    let s := s.bump Reg.ALM_CNT_CHANGES
    let moved := x.output != outWas
    let s := if moved then ((List.range 8).filter (fun n => x.cfg.pins.getLsbD n)).foldl (fun (s : State) n => s.followPin n) s else s
    let s := match moved, x.cfg.pub with
      | true, some (p, _) => s.notePub p a closure
      | _, _ => s
    let b := s.alarmEntry a cause gts
    let s := if x.cfg.queue && s.flag Reg.ALM_QUEUE 7 then s.alarmQueue b else s
    let s := if x.cfg.record then s.submit (s.eventAt gts 0x0C01 x.cfg.sev a (b.drop 8)) else s
    let s := if moved then s.capHandoff 5 a x.output gts else s
    s.showAlarms
  | none => s

/-- ALM takes a handoff (R287, R288). -/
def State.takeHandoff (s : State) (h : Handoff) : State :=
  match s.alarm h.alarm with
  | some x =>
    let stale := match x.lastKey with
      | some k => decide (h.key < k)
      | none => false
    if stale then s.bump Reg.ALM_CNT_STALE
    else
      let s := s.modAlarm h.alarm (fun x => { x with lastKey := some h.key })
      if x.cond = h.active then s
      else
        let lag := (s.now - h.key) / 1000
        let s := s.modAlarm h.alarm (fun x => { x with
          state := condState x.cfg.ackReq x.state h.active, cond := h.active, chg := x.chg + 1
          lastGts := h.key, last := (h.a, h.b, h.q), lag := lag })
        s.alarmChanged h.alarm x.output 0 h.key h.closure
  | none => s

/-- The cyclic engine sees a detector result (R269). -/
def DetState.take (d : DetState) (h : Handoff) : DetState :=
  if h.key < d.gts || d.active = h.active then d
  else { d with
    active := h.active, gts := h.key, changes := d.changes.map (fun n => satNat 32 (n + 1))
    rose := if h.active then [true, true, true, true] else d.rose
    fell := if h.active then d.fell else [true, true, true, true] }

/-- A detector's first result, and every later one (R269, R270). -/
def State.cycDetector (s : State) (h : Handoff) : State :=
  if s.cyc.dets.any (fun d => d.alarm == h.alarm) then
    { s with cyc := { s.cyc with dets := s.cyc.dets.map (fun (d : DetState) => if d.alarm = h.alarm then d.take h else d) } }
  else
    let one := if h.active then 1 else 0
    let d : DetState := { alarm := h.alarm, active := h.active, gts := h.key, changes := [one, one, one, one]
                          rose := [h.active, h.active, h.active, h.active] }
    { s with cyc := { s.cyc with dets := s.cyc.dets ++ [d] } }

/-- `ALARM_HANDOFF`: the oldest ALM_RAISE handoff reaches ALM and CYC (R269, R287). -/
def execAlarmHandoff (s : State) : Host.Outcome State Fault Refusal := answer <|
  match s.alm.handoffs with
  | [] => s
  | h :: r =>
    let s := { s with alm := { s.alm with handoffs := r } }.cycDetector h
    if s.flag Reg.ALM_CTRL 0 then s.takeHandoff h else s

/-! ### Acknowledgements (R290) -/

/-- An accepted acknowledgement: cause of the queue entry and source of event 0x0C02. -/
def State.acceptAck (s : State) (a cause source : Nat) : State :=
  match s.alarm a with
  | some x =>
    let t := s.now
    let s := s.modAlarm a (fun x => { x with state := ackState x.state, chg := x.chg + 1, lastGts := t })
    let s := s.alarmChanged a x.output cause t none
    let s := s.log 0x0C02 0 (leBytes 2 a ++ leBytes 1 source ++ leBytes 1 0 ++ leBytes 2 (x.chg + 1).toNat)
    if s.mirrored then s.mirror (.alarmAck a source) else s
  | none => s

/-- An acknowledgement that names an alarm and a CHG: whether it is accepted (R290). -/
def State.ackAlarm (s : State) (a : Nat) (chg : Half) (source : Nat) : State × Bool :=
  match s.alarm a with
  | some x => if x.chg = chg && x.unacked then (s.acceptAck a 1 source, true) else (s.bump Reg.ALM_CNT_ACK_REFUSED, false)
  | none => (s.bump Reg.ALM_CNT_ACK_REFUSED, false)

/-- `ALM_ACK`: a write of ALM_ACK (R290). -/
def execAlmAck (value : Word) (s : State) : Host.Outcome State Fault Refusal :=
  answer (s.ackAlarm (bitsOf value 11 0) (BitVec.ofNat 16 (bitsOf value 31 16)) 1).1

/-- `ALM_ACK_ALL`: every unacknowledged alarm of the severities in the mask, without a CHG check (R290). -/
def execAlmAckAll (value : Word) (s : State) : Host.Outcome State Fault Refusal := answer <|
  (s.alm.alarms.filter (fun x => x.2.unacked && value.getLsbD (x.2.cfg.sev % 4))).foldl (fun (s : State) x => s.acceptAck x.1 1 1) s

/-! ### Commits (R304) -/

/-- An alarm's staged definition takes effect (R304). -/
def State.commitAlarm (s : State) (a : Nat) : State :=
  match s.alarm a with
  | some x =>
    match x.stage with
    | some d =>
      let out := x.output
      let s := s.modAlarm a (fun x => { x with cfg := { x.cfg with sev := d.sev, latch := d.latch, ackReq := d.ackReq }, stage := none })
      let now := ((s.alarm a).map (fun y => y.output)).getD out
      let s := if now != out then
          let s := ((List.range 8).filter (fun n => x.cfg.pins.getLsbD n)).foldl (fun (s : State) n => s.followPin n) s
          match x.cfg.pub with
          | some (p, _) => s.notePub p a none
          | none => s
        else s
      if x.cfg.ackReq && !d.ackReq && x.unacked then s.acceptAck a 2 3 else s
    | none => s
  | none => s

/-- `ALM_COMMIT`: staged ALM settings commit, or the commit is refused whole; which alarm is named for a pin's HOLD is open (R304). -/
def execAlmCommit (s : State) : Host.Outcome State Fault Refusal := answer <|
  if (List.range 8).any (fun n => decide (1000 < bitsOf (s.staged (Reg.ALM_PIN_CTRL n)) 25 16)) then
    let a := s.freshWord.toNat % 4096
    let s := ((s.useFree 1).setFlag Reg.ALM_COMMIT_STAT 0 true).setField Reg.ALM_COMMIT_STAT 27 16 a
    s.log 0x0C04 1 (leBytes 2 a)
  else
    let s := s.commitRange (Reg.ALM_PIN_CTRL 0) 32
    (s.alm.alarms.foldl (fun (s : State) x => s.commitAlarm x.1) s).showAlarms

end Sys2Proof.Machine
end

