-- ==== Sys2Proof/Machine/Blocks.lean ====
section
/-!
DEFINITION. The block library of cyclic programs (R264, R268, R279, Table 11-2, Table 11-8), and how a call list runs.
-/
namespace Sys2Proof.Machine

/-- A block's result: its outputs by port, and its new state. -/
abbrev BlockOut := List Slot × List Word

/-- A value is TRUE: its A is not 0. -/
def truth (x : Slot) : Bool := x.a != 0

/-- Quality of a block's outputs: the union of SYNC_LOST, TIME_SUSPECT and TEST, and VALID when every input is VALID. -/
def blockQ (ins : List Slot) : Half :=
  let u := ins.foldl (fun q x => q ||| (x.q &&& (Q.syncLost ||| Q.timeSuspect ||| Q.test))) 0
  if ins.all (fun x => hasQ x.q Q.valid) then u ||| Q.valid else u

/-- A word as a block's output. -/
def outWord (q : Half) (w : Word) : Slot := { a := w, b := 0, q := q, off := 0, src := 0xFFFF, tq := 0 }

/-- A Boolean as a block's output: 1 or 0. -/
def outBool (q : Half) (b : Bool) : Slot := outWord q (Word.ofNat (bit b))

/-- A Boolean in a state word. -/
def boolWord (b : Bool) : Word := Word.ofNat (bit b)

/-- Every neighbouring pair is in a relation. -/
def chain (r : Word → Word → Bool) : List Slot → Bool
  | x :: y :: l => r x.a y.a && chain r (y :: l)
  | _ => true

/-- TON on state (ET, Q, previous IN) in µs. -/
def ton (pt : Nat) (dt : Nat) (in_ : Bool) (st : List Word) : List Word :=
  if !in_ then [0, 0, 0]
  else
    let et := if st.getD 2 0 != 0 then min pt ((st.getD 0 0).toNat + dt) else 0
    [Word.ofNat et, boolWord (decide (pt ≤ et)), 1]

/-- TOF on state (ET, Q, previous IN). -/
def tof (pt : Nat) (dt : Nat) (in_ : Bool) (st : List Word) : List Word :=
  if in_ then [0, 1, 1]
  else if st.getD 2 0 != 0 then [0, boolWord (decide (0 < pt)), 0]
  else if st.getD 1 0 != 0 then
    let et := min pt ((st.getD 0 0).toNat + dt)
    [Word.ofNat et, boolWord (decide (et < pt)), 0]
  else [st.getD 0 0, 0, 0]

/-- TP on state (ET, Q, previous IN). -/
def tp (pt : Nat) (dt : Nat) (in_ : Bool) (st : List Word) : List Word :=
  let p := boolWord in_
  if st.getD 1 0 != 0 then
    let et := min pt ((st.getD 0 0).toNat + dt)
    [Word.ofNat et, boolWord (decide (et < pt)), p]
  else if in_ && st.getD 2 0 == 0 then [0, boolWord (decide (0 < pt)), p]
  else if in_ then [st.getD 0 0, 0, p]
  else [0, 0, p]

/-- A supervision timer on state (timer, active, previous condition): the condition holds for the pickup time, or fails for the dropout time. -/
def superv (pickup dropout dt : Nat) (cond : Bool) (st : List Word) : List Word :=
  let active := st.getD 1 0 != 0
  let was := st.getD 2 0 != 0
  let timer := if cond = was then satNat 32 ((st.getD 0 0).toNat + dt) else 0
  let due := cond != active && decide ((if active then dropout else pickup) ≤ timer)
  [Word.ofNat timer, boolWord (if due then cond else active), boolWord cond]

/-- A counter's rising input. -/
def risen (st : List Word) (i : Nat) (x : Bool) : Bool := x && st.getD i 0 == 0

/-- A counter value in its s32 range. -/
def cvWord (i : Int) : Word := BitVec.ofInt 32 (max (-(2 ^ 31)) (min (2 ^ 31 - 1) i))

/-- Seconds of DT as binary32. -/
def dtSeconds (dt : Nat) : Word := F32.ofRat dt 1000000

/-- Place of a block type in the library, by which Config gives what is not stated bit by bit. -/
def blockKind : BlockType → Nat
  | .and => 0 | .or => 1 | .xor => 2 | .not => 3 | .eq => 4 | .ne => 5 | .lt => 6 | .le => 7 | .gt => 8 | .ge => 9
  | .ton => 10 | .tof => 11 | .tp => 12 | .rs => 13 | .sr => 14 | .rTrig => 15 | .fTrig => 16 | .ctu => 17 | .ctd => 18 | .ctud => 19
  | .sel => 20 | .mux => 21 | .max => 22 | .min => 23 | .limit => 24 | .rateLim => 25 | .pid => 26
  | .angSup => 27 | .rocofSup => 28 | .islMemb => 29 | .dampSup => 30 | .runback => 31

/-- State of an instance before its first cycle (Table 11-8): everything 0. -/
def initialState (_t : BlockType) : List Word := []

/-- One step towards a target by at most a rate × DT. -/
def stepToward (x target up down : Word) : Word :=
  let d := F32.sub target x
  if F32.lt up d then F32.add x up else if F32.lt d (F32.neg down) then F32.sub x down else target

/-- A block call's effect: type, parameters, state, inputs, DT, and whether it is the instance's first cycle. -/
def evalBlock (t : BlockType) (ps st : List Word) (ins : List Slot) (dt : Nat) (fresh : Bool) : BlockOut :=
  let q := blockQ ins
  let x := ins.getD 0 missingSlot
  let y := ins.getD 1 missingSlot
  let z := ins.getD 2 missingSlot
  let w := ins.getD 3 missingSlot
  let p := fun (i : Nat) => ps.getD i 0
  let pn := fun (i : Nat) => (ps.getD i 0).toNat
  let bool := fun (b : Bool) => (([outBool q b], []) : BlockOut)
  let timer := fun (l : List Word) => (([outBool q (l.getD 1 0 != 0), outWord q (l.getD 0 0)], l) : BlockOut)
  let idle := fun (b : Bool) => (([0, 0, boolWord b] : List Word))
  match t with
  | .and => bool (ins.all truth)
  | .or => bool (ins.any truth)
  | .xor => bool ((ins.filter truth).length % 2 == 1)
  | .not => bool (!truth x)
  | .eq => bool (chain F32.eq ins)
  | .ne => bool (!F32.eq x.a y.a)
  | .lt => bool (chain F32.lt ins)
  | .le => bool (chain F32.le ins)
  | .gt => bool (chain (fun a b => F32.lt b a) ins)
  | .ge => bool (chain (fun a b => F32.le b a) ins)
  | .ton => timer (if fresh then idle (truth x) else ton (pn 0) dt (truth x) st)
  | .tof => timer (if fresh then idle (truth x) else tof (pn 0) dt (truth x) st)
  | .tp => timer (if fresh then idle (truth x) else tp (pn 0) dt (truth x) st)
  | .rs =>
    let q1 := !truth y && (truth x || st.getD 0 0 != 0)
    ([outBool q q1], [boolWord q1])
  | .sr =>
    let q1 := truth x || (!truth y && st.getD 0 0 != 0)
    ([outBool q q1], [boolWord q1])
  | .rTrig => ([outBool q (!fresh && truth x && st.getD 0 0 == 0)], [boolWord (truth x)])
  | .fTrig => ([outBool q (!fresh && !truth x && st.getD 0 0 != 0)], [boolWord (truth x)])
  | .ctu =>
    let cv : Int := if fresh then 0 else (st.getD 0 0).toInt
    let up := !fresh && risen st 1 (truth x)
    let cv := cvWord (if truth y then 0 else if up then cv + 1 else cv)
    ([outBool q (decide ((p 0).toInt ≤ cv.toInt)), outWord q cv], [cv, boolWord (truth x)])
  | .ctd =>
    let cv : Int := if fresh then 0 else (st.getD 0 0).toInt
    let down := !fresh && risen st 1 (truth x)
    let cv := cvWord (if truth y then (p 0).toInt else if down then cv - 1 else cv)
    ([outBool q (decide (cv.toInt ≤ 0)), outWord q cv], [cv, boolWord (truth x)])
  | .ctud =>
    let cv : Int := if fresh then 0 else (st.getD 0 0).toInt
    let up := !fresh && risen st 1 (truth x)
    let down := !fresh && risen st 2 (truth y)
    let cv := cvWord (if truth z then 0 else if truth w then (p 0).toInt else if up && !down then cv + 1 else if down && !up then cv - 1 else cv)
    ([outBool q (decide ((p 0).toInt ≤ cv.toInt)), outBool q (decide (cv.toInt ≤ 0)), outWord q cv], [cv, boolWord (truth x), boolWord (truth y)])
  | .sel => ([if truth x then z else y], [])
  | .mux =>
    if x.a.toNat + 1 < ins.length then ([ins.getD (x.a.toNat + 1) missingSlot], [])
    else ([outWord q ((Config.block 21 ps st (ins.map (fun i => i.a)) dt).2.getD 0 0)], [])
  | .max => ([outWord q (ins.foldl (fun m i => F32.max m i.a) x.a)], [])
  | .min => ([outWord q (ins.foldl (fun m i => F32.min m i.a) x.a)], [])
  | .limit => ([outWord q (F32.min (F32.max y.a x.a) z.a)], [])
  | .rateLim =>
    let s := dtSeconds dt
    let o := if fresh then x.a else stepToward (st.getD 0 0) x.a (F32.mul (p 0) s) (F32.mul (p 1) s)
    ([outWord q o], [o])
  | .pid =>
    if fresh then ([outWord q x.a], [0, 0, x.a])
    else
      let r := Config.block 26 ps st (ins.map (fun i => i.a)) dt
      ([outWord q (r.2.getD 0 0)], r.1)
  | .angSup =>
    let st := if fresh then [] else st
    if hasQ x.q Q.valid && hasQ y.q Q.valid then
      let v := F32.cmul x.a x.b y.a (F32.neg y.b)
      let c := F32.lt (p 0) (F32.abs (Config.argDegrees v.1 v.2))
      let l := superv (pn 1) (pn 2) dt c (if fresh then idle c else st)
      ([outBool q (l.getD 1 0 != 0), outBool q false], l)
    else ([outBool q (st.getD 1 0 != 0), outBool q true], st)
  | .rocofSup =>
    let st := if fresh then [] else st
    if hasQ x.q Q.valid then
      let n := max 1 (min 64 (pn 1))
      let ring := (x.b :: st.drop 3).take n
      let avg := F32.div (ring.foldl (fun a b => F32.add a b) 0) (F32.ofInt (ring.length : Int))
      let c := F32.lt (p 0) (F32.abs avg)
      let l := superv (pn 2) (pn 3) dt c (if fresh then idle c else st)
      ([outBool q (l.getD 1 0 != 0), outBool q false], l ++ ring)
    else ([outBool q (st.getD 1 0 != 0), outBool q true], st)
  | .islMemb =>
    let label := bitsOf x.a 15 0
    if hasQ x.q Q.valid && hasQ y.q Q.valid then
      let on := x.a.getLsbD 16
      let here := on && y.a.getLsbD 16 && label == bitsOf y.a 15 0
      let changed := !fresh && st.getD 0 0 != Word.ofNat label
      ([outBool q on, outBool q here, outBool q changed, outBool q false], [Word.ofNat label, boolWord on, boolWord here])
    else ([outBool q (st.getD 1 0 != 0), outBool q (st.getD 2 0 != 0), outBool q false, outBool q true], st)
  | .dampSup =>
    let st := if fresh then [] else st
    if hasQ x.q Q.valid then
      let c := F32.lt x.b (p 0) && F32.le (p 2) x.a && F32.le x.a (p 3)
      let l := superv (pn 1) 0 dt c (if fresh then idle c else st)
      ([outBool q (l.getD 1 0 != 0), outBool q false], l)
    else ([outBool q (st.getD 1 0 != 0), outBool q true], st)
  | .runback =>
    let r := F32.mul (p 1) (dtSeconds dt)
    let o := if fresh then p 0
      else if truth w then y.a
      else if truth z || !truth x then st.getD 0 0
      else stepToward (st.getD 0 0) (p 0) r r
    ([outWord q o], [o, boolWord (!fresh && truth x && !truth z && !truth w)])

/-- What a run of a call list has given so far: outputs by instance and port, and output entries written. -/
structure RunState where
  area : ProgArea
  outs : List ((Nat × Nat) × Slot) := []
  writes : List (Nat × Slot) := []
  deriving DecidableEq, Repr

/-- A call's input. -/
def callInput (inputs : List InEntry) (r : RunState) : CallSrc → Slot
  | .const w => outWord Q.valid w
  | .input e => ((inputs[e]?).map (fun x => x.val)).getD missingSlot
  | .call i p => ((r.outs.find? (fun o => o.1 == (i, p))).map (fun o => o.2)).getD missingSlot

/-- Runs one call. -/
def runCall (inputs : List InEntry) (dt : Nat) (r : RunState) (c : BlockCall) : RunState :=
  match r.area.prog.insts[c.inst]? with
  | some k =>
    let ins := c.ins.map (fun i => callInput inputs r i)
    let fresh := r.area.fresh.getD c.inst false
    let (outs, st) := evalBlock k.typ (r.area.params.getD c.inst []) (r.area.inst.getD c.inst []) ins dt fresh
    { area := { r.area with inst := r.area.inst.set c.inst st, fresh := r.area.fresh.set c.inst false }
      outs := outs.mapIdx (fun i x => ((c.inst, i), x)) ++ r.outs
      writes := r.writes ++ c.outs.map (fun o =>
        let x := outs.getD o.1 missingSlot
        (o.2.1, match o.2.2 with
          | some q => { x with q := q }
          | none => x)) }
  | none => r

/-- Runs a task's call list in program order. -/
def runCalls (area : ProgArea) (inputs : List InEntry) (dt t : Nat) : RunState :=
  ((area.prog.tasks[t]?).map (fun k => k.calls)).getD [] |>.foldl (fun r c => runCall inputs dt r c) { area := area }

end Sys2Proof.Machine
end

