-- ==== Sys2Proof/Machine/Engines.lean ====
section
/-!
DEFINITION. The Porac engines, the Harrow and the Sower (10_porac_engines.md).
-/
namespace Sys2Proof.Machine

/-! ### Graphs, nodes and their worst-case times (R241, R244, Table 10-1) -/

/-- A graph. -/
def State.graph (s : State) (g : Nat) : Option GraphState := kvGet s.dfs.graphs g

/-- Changes a graph. -/
def State.modGraph (s : State) (g : Nat) (f : GraphState → GraphState) : State :=
  { s with dfs := { s.dfs with graphs := kvMod s.dfs.graphs g f } }

/-- A graph instance. -/
def State.inst (s : State) (id : Nat) : Option GraphInst := s.dfs.insts.find? (fun i => i.id == id)

/-- Changes a graph instance. -/
def State.modInst (s : State) (id : Nat) (f : GraphInst → GraphInst) : State :=
  { s with dfs := { s.dfs with insts := s.dfs.insts.map (fun i => if i.id = id then f i else i) } }

/-- Operators of fixed units: their work is commanded by the unit's own rows, or shed as its own chapter states (R244, R255). -/
def fixedUnit : Operator → Bool
  | .mtrAcc _ => true
  | .oscBand _ => true
  | .oscDef => true
  | .oscPub _ => true
  | .oscRefresh _ => true
  | .seSolve => true
  | .isl => true
  | _ => false

/-- Operators that no engine runs: they complete in the tick of readiness, and their unit works by its own commands. -/
def offEngine : Operator → Bool
  | .mtrAcc _ => true
  | .oscRefresh _ => true
  | .seSolve => true
  | .isl => true
  | _ => false

/-- Place of an operator among the kinds of the catalogue, by which Config gives its catalogue number. -/
def opKind : Operator → Nat
  | .slotRead _ => 0
  | .slotWrite _ => 1
  | .arith op _ => 2 + op
  | .angdiff => 10
  | .fdiff => 11
  | .rocofW _ => 12
  | .thresh _ _ _ _ => 13
  | .trend _ => 14
  | .guard _ => 15
  | .select => 16
  | .delay _ => 17
  | .almRaise _ => 18
  | .capTrig _ => 19
  | .mtrAcc _ => 20
  | .oscBand _ => 21
  | .oscDef => 22
  | .oscPub _ => 23
  | .oscRefresh _ => 24
  | .seSolve => 25
  | .isl => 26

/-- Worst-case time of an operator by its place in the catalogue, and for each of its items, in ns (Table 10-1). -/
def tableTime (kind : Nat) : Nat × Nat :=
  if kind = 0 then (400, 150)
  else if kind = 1 then (300, 100)
  else if kind ≤ 9 then (200, 0)
  else [(300, 0), (200, 0), (500, 20), (300, 0), (500, 30), (200, 0), (200, 0), (200, 0), (400, 0), (500, 0), (12000, 0), (600, 900), (0, 1500),
    (0, 300)].getD (kind - 10) (0, 0)

/-- The PEM image that the device runs (R426). -/
def State.pemImage (s : State) : Option FwImage :=
  let c := s.boot.comps.getD 1 {}
  match (if c.slotB then c.imgB else c.imgA) with
  | .fw f => some f
  | _ => none

/-- The times that the running PEM image carries, else those of Table 10-1 (R131, R244). -/
def State.catalogueTime (s : State) (kind : Nat) : Nat × Nat :=
  ((s.pemImage.bind (fun f => kvGet f.times kind))).getD (tableTime kind)

/-- Channels of an ambient-analysis group's results (R199). -/
def State.oscChanCount (s : State) (g : Nat) : Nat :=
  let m := s.field (Reg.OSC_G_MODES g) 4 0
  1 + 2 * m + (if s.flag (Reg.OSC_G_CTRL g) 16 then m * (s.oscSignals g).length else 0)

/-- Items that the time of an operator counts: slots, rows, bands, branches or channels. -/
def State.opItems (s : State) : Operator → Nat
  | .slotRead c => c.length
  | .slotWrite c => c.length
  | .rocofW n => n
  | .trend n => n
  | .oscBand m => ((s.monitor m).map (fun x => (monOn x.cfg).length)).getD 0
  | .oscDef => s.osc.branches.length
  | .oscPub g => s.oscChanCount g
  | _ => 0

/-- t_i of Table 09-5, in ns. -/
def State.islandTime (s : State) : Nat := 2000 + 2 * (s.top.nodes.length + s.top.branches.length + s.top.cohs.length)

/-- t_s of Table 09-5 at NNZ_MAX nonzeros, in ns. -/
def State.solveTime (s : State) : Nat := 5000 + (8 * (s.reg Reg.TOP_NNZ_MAX).toNat + 9) / 10

/-- Worst-case time of an operator, in ns (R244): the catalogue's, or for a fixed unit of another chapter the bound given there. -/
def State.opTime (s : State) (op : Operator) : Nat :=
  match op with
  | .oscRefresh g => (s.reg (Reg.OSC_G_DURATION g)).toNat * 1000
  | .seSolve => s.solveTime
  | .isl => s.islandTime
  | _ => let t := s.catalogueTime (opKind op); t.1 + t.2 * s.opItems op

/-- Worst-case engine time of a graph. -/
def State.graphTime (s : State) (c : GraphRec) : Nat := (c.nodes.map (fun n => s.opTime n.op)).foldl (· + ·) 0

/-- One pass of longest-path times over the arcs. -/
def relax (arcs : List DfsArc) (t : List Nat) (d : List Nat) : List Nat :=
  arcs.foldl (fun d a => listMod d a.dst (fun x => max x (d.getD a.src 0 + t.getD a.dst 0))) d

/-- Longest chain of a graph from the times of its nodes. -/
def longest (arcs : List DfsArc) (t : List Nat) : Nat → List Nat → Nat
  | 0, d => d.foldl max 0
  | n + 1, d => longest arcs t n (relax arcs t d)

/-- A graph takes an output of the island engine that runs in LC0 (R231): it reads one, or one triggers it, and the engine is no node of it. -/
def State.takesIslands (s : State) (c : GraphRec) : Bool :=
  let outs := [s.top.islSummary] ++ s.top.nodes.filterMap (fun n => n.islOut) ++ s.top.cohs.map (fun x => x.out)
  s.flag Reg.TOP_CTRL 0 && s.flag Reg.TOP_CTRL 2 && s.field Reg.TOP_CTRL 13 12 == 0 && !c.nodes.any (fun n => n.op == .isl)
    && (c.nodes.any (fun n => match n.op with
        | .slotRead l => l.any (fun x => outs.contains x)
        | _ => false)
      || (match c.trigger with
        | .derived x => outs.contains x
        | _ => false))

/-- Longest worst-case chain of a graph, its part of P_c (Table 05-5), with the time of the island engine where it counts (R231). -/
def State.chainTime (s : State) (c : GraphRec) : Nat :=
  let t := c.nodes.map (fun n => s.opTime n.op)
  longest c.arcs t c.nodes.length t + (if s.takesIslands c then s.islandTime else 0)

/-- State bytes of a graph. -/
def graphBytes (c : GraphRec) : Nat := (c.nodes.map (fun n => n.stateBytes)).foldl (· + ·) 0

/-- An operator instance before any token. -/
def freshOp (n : Nat) (d : DfsNode) : OpInst where
  node := n
  phase := .gathering
  inputs := d.required.map (fun _ => none)
  entry := false
  reserve := false
  readyTick := 0
  cancelRun := false

/-- A node of a graph. -/
def gnode (c : GraphRec) (n : Nat) : DfsNode := c.nodes.getD n ⟨.isl, [], 0, 0⟩

/-- A node that the trigger alone makes ready. -/
def sourceNode (c : GraphRec) (n : Nat) : Bool := (gnode c n).required.isEmpty

/-! ### Engines and clusters (R239, R256) -/

/-- Cluster of an engine. -/
def clusterOf (e : Nat) : Nat := e / 8

/-- Graph engines of a cluster, fenced ones among them. -/
def clusterPes (c : Nat) : List Nat := (List.range (if c = 7 then 4 else 8)).map (fun i => 8 * c + i)

/-- An engine is not fenced. -/
def State.peUp (s : State) (e : Nat) : Bool := !s.flag (Reg.DFS_PE_STATUS e) 5

/-- E_c: graph engines of a cluster that are not fenced. -/
def State.engineCount (s : State) (c : Nat) : Nat := ((clusterPes c).filter (fun e => s.peUp e)).length

/-- An engine. -/
def State.engine (s : State) (e : Nat) : EngineState := s.dfs.engines.getD e {}

/-- Changes an engine. -/
def State.modEngine (s : State) (e : Nat) (f : EngineState → EngineState) : State :=
  { s with dfs := { s.dfs with engines := listMod s.dfs.engines e f } }

/-- Latency class of an instance's graph. -/
def State.instLc (s : State) (i : GraphInst) : Nat := ((s.graph i.graph).map (fun x => x.cfg.lc)).getD 3

/-! ### Resources (R245, Table 10-2) -/

/-- Matching-store entries of a cluster in use: of the LC0 reserve, and shared. -/
def State.msUsed (s : State) (c : Nat) : Nat × Nat :=
  s.dfs.insts.foldl (fun (p : Nat × Nat) i =>
    if i.cluster = c then
      i.ops.foldl (fun (p : Nat × Nat) o => if !o.entry then p else if o.reserve then (p.1 + 1, p.2) else (p.1, p.2 + 1)) p
    else p) (0, 0)

/-- Matching-store entries held by LC0 instances of a cluster. -/
def State.msLc0 (s : State) (c : Nat) : Nat :=
  s.dfs.insts.foldl (fun n i => if i.cluster = c && s.instLc i == 0 then n + (i.ops.filter (fun o => o.entry)).length else n) 0

/-- Ready instances of a cluster and class. -/
def State.readyCount (s : State) (c k : Nat) : Nat :=
  s.dfs.insts.foldl (fun n i =>
    if i.cluster = c && s.instLc i == k then n + (i.ops.filter (fun o => o.phase == .ready)).length else n) 0

/-- A class has room in its ready list: the reserve of 256 for LC0, then the shared 768. -/
def State.readyRoom (s : State) (c k : Nat) : Bool :=
  let r0 := s.readyCount c 0
  let shared := (r0 - 256) + s.readyCount c 1 + s.readyCount c 2 + s.readyCount c 3
  (k == 0 && decide (r0 < 256)) || decide (shared < 768)

/-- Delay entries of a cluster by class, with one for each DELAY operator that runs: LC0, others. -/
def State.delayUsed (s : State) (c : Nat) : Nat × Nat :=
  let lc := fun (g : Nat) => ((s.graph g).map (fun x => x.cfg.lc)).getD 3
  let add := fun (p : Nat × Nat) (k : Nat) => if k = 0 then (p.1 + 1, p.2) else (p.1, p.2 + 1)
  let l := (s.dfs.delays.getD c []).foldl (fun p d => add p (lc d.graph)) (0, 0)
  s.dfs.insts.foldl (fun (p : Nat × Nat) i =>
    if i.cluster = c then
      i.ops.foldl (fun (p : Nat × Nat) o =>
        match o.phase, ((s.graph i.graph).map (fun x => (gnode x.cfg o.node).op)) with
        | .running _, some (.delay _) => add p (s.instLc i)
        | .suspended _, some (.delay _) => add p (s.instLc i)
        | _, _ => p) p
    else p) l

/-- A class has room in the delay list: the reserve of 64 for LC0, then the shared 448. -/
def State.delayRoom (s : State) (c k : Nat) : Bool :=
  let (r0, rest) := s.delayUsed c
  (k == 0 && decide (r0 < 64)) || decide ((r0 - 64) + rest < 448)

/-- Shows a cluster's depths and their peaks (R257). -/
def State.showCluster (s : State) (c : Nat) : State :=
  let (a, b) := s.msUsed c
  let l := s.msLc0 c
  let s := s.setReg (Reg.DFS_CL_MS c) (Word.ofNat (a + b + l * 2 ^ 16))
  let s := s.setField (Reg.DFS_CL_MS_PEAK c) 12 0 (max (s.field (Reg.DFS_CL_MS_PEAK c) 12 0) (a + b))
  let s := s.setField (Reg.DFS_CL_MS_PEAK c) 26 16 (max (s.field (Reg.DFS_CL_MS_PEAK c) 26 16) l)
  let s := s.setReg (Reg.DFS_CL_READY01 c) (Word.ofNat (s.readyCount c 0 + s.readyCount c 1 * 2 ^ 16))
  let s := s.setReg (Reg.DFS_CL_READY23 c) (Word.ofNat (s.readyCount c 2 + s.readyCount c 3 * 2 ^ 16))
  let d := (s.dfs.delays.getD c []).length
  let s := s.setField (Reg.DFS_CL_DELAY c) 9 0 d
  s.setField (Reg.DFS_CL_DELAY c) 25 16 (max (s.field (Reg.DFS_CL_DELAY c) 25 16) d)

/-- An LC0 resource of a cluster is exhausted: event 0x0A03 once, and the error that it marks (R260). -/
def State.lc0Exhausted (s : State) (c res : Nat) : State :=
  if s.dfs.reserveOut.contains (c, res) then s
  else
    let s := { s with dfs := { s.dfs with reserveOut := s.dfs.reserveOut ++ [(c, res)] } }
    (s.log 0x0A03 3 (leBytes 1 c ++ leBytes 1 res)).blockError 3 0x0A 0x0A03

/-! ### Tokens (R242, R246, R250) -/

/-- The arcs that leave a node, each with the token of its source port. -/
def gemit (c : GraphRec) (n : Nat) (tok : Nat → Token) : List (DfsArc × Token) :=
  (c.arcs.filter (fun a => a.src == n)).map (fun a => (a, tok a.srcPort))

/-- Changes an operator instance. -/
def GraphInst.modOp (i : GraphInst) (n : Nat) (f : OpInst → OpInst) : GraphInst :=
  { i with ops := i.ops.map (fun o => if o.node = n then f o else o) }

/-- An operator instance. -/
def GraphInst.op (i : GraphInst) (n : Nat) : Option OpInst := i.ops.find? (fun o => o.node == n)

/-- Puts a token on an input port: a null on an OPTIONAL arc is a MISSING value (Table 10-3). -/
def OpInst.receive (o : OpInst) (a : DfsArc) (t : Token) : OpInst :=
  let t := if t = .null && a.optional_ then Token.value missingSlot else t
  { o with inputs := o.inputs.set a.dstPort (some t) }

/-- A null completed the inputs of a required port. -/
def OpInst.nulled (o : OpInst) (d : DfsNode) : Bool := (o.inputs.zip d.required).any (fun x => x.1 == some .null && x.2)

/-- Delivers tokens: a consumer whose ports are all filled becomes ready, or is cancelled for a null and emits nulls; answers the NULL cancellations. -/
def feed (c : GraphRec) : Nat → List (DfsArc × Token) → GraphInst → Nat → GraphInst × Nat
  | 0, _, i, n => (i, n)
  | _ + 1, [], i, n => (i, n)
  | k + 1, (a, t) :: r, i, n =>
    match i.op a.dst with
    | some o =>
      if o.phase ≠ .gathering then feed c k r i n
      else
        let o := o.receive a t
        if !o.inputs.all (fun x => x.isSome) then feed c k r (i.modOp a.dst (fun _ => o)) n
        else if o.nulled (gnode c a.dst) then
          feed c k (r ++ gemit c a.dst (fun _ => .null)) (i.modOp a.dst (fun _ => { o with phase := .cancelled, entry := false })) (n + 1)
        else if offEngine (gnode c a.dst).op then
          feed c k (r ++ gemit c a.dst (fun _ => .value missingSlot)) (i.modOp a.dst (fun _ => { o with phase := .done, entry := false })) n
        else feed c k r (i.modOp a.dst (fun _ => { o with phase := .readyPending })) n
    | none => feed c k r i n

/-- Order of ready instances: order key, tick of readiness, graph, node (R246). -/
structure ReadyRef where
  lc : Nat
  key : Nat
  tick : Nat
  graph : Nat
  node : Nat
  inst : Nat
  deriving DecidableEq, Repr

/-- The order of a ready list, after the order of the classes. -/
def ReadyRef.before (a b : ReadyRef) : Bool :=
  let x := [a.lc, a.key, a.tick, a.graph, a.node]
  let y := [b.lc, b.key, b.tick, b.graph, b.node]
  match (x.zip y).find? (fun p => p.1 != p.2) with
  | some p => decide (p.1 < p.2)
  | none => decide (a.inst < b.inst)

/-- Inserts in order. -/
def insertRef (a : ReadyRef) : List ReadyRef → List ReadyRef
  | [] => [a]
  | b :: r => if a.before b then a :: b :: r else b :: insertRef a r

/-- The instances of a cluster in a phase, in the order of the lists. -/
def State.refs (s : State) (c : Nat) (p : GraphInst → OpInst → Bool) : List ReadyRef :=
  let l := (s.dfs.insts.filter (fun i => i.cluster == c)).map (fun i =>
    (i.ops.filter (fun o => p i o)).map (fun o => ReadyRef.mk (s.instLc i) i.key o.readyTick i.graph o.node i.id))
  l.flatten.foldl (fun a r => insertRef r a) []

/-- An instance's operator is a source node. -/
def State.isSource (s : State) (i : GraphInst) (o : OpInst) : Bool := ((s.graph i.graph).map (fun x => sourceNode x.cfg o.node)).getD false

/-- Ready-pending instances join their lists where there is room (R248); source nodes only when release tokens are admitted. -/
def State.promote (s : State) (c : Nat) (sources : Bool) : State :=
  (s.refs c (fun i o => o.phase == .readyPending && !i.copying && (sources || !s.isSource i o))).foldl (fun (s : State) r =>
    if s.readyRoom c r.lc then
      let t := s.elapsed
      s.modInst r.inst (fun i => i.modOp r.node (fun o => { o with phase := .ready, readyTick := t }))
    else if r.lc = 0 then s.lc0Exhausted c 2 else s) s

/-- Tokens go to the consumers of an instance, and the ready ones join their lists. -/
def State.deliverTokens (s : State) (id : Nat) (toks : List (DfsArc × Token)) : State :=
  match s.inst id with
  | some i =>
    match s.graph i.graph with
    | some x =>
      let (i', n) := feed x.cfg (x.cfg.arcs.length + toks.length + 1) toks i 0
      let s := (s.modInst id (fun _ => i')).bumpBy Reg.DFS_CNT_CANCEL_PRE n
      (s.promote i.cluster false).showCluster i.cluster
    | none => s
  | none => s

/-- Nothing of an instance is unfinished. -/
def GraphInst.finished (i : GraphInst) : Bool := i.ops.all (fun o => o.phase == .done || o.phase == .cancelled)

/-- Finished instances leave. -/
def State.sweep (s : State) : State := { s with dfs := { s.dfs with insts := s.dfs.insts.filter (fun i => !i.finished) } }

/-! ### Load (R253, R257) -/

/-- Accounts an engine's busy time up to now: to the class that runs, to the class of a suspended operator, and to the graph. -/
def State.accountEngine (s : State) (e : Nat) : State :=
  let x := s.engine e
  let d := s.elapsed - x.since
  let lc := fun (r : Option (Nat × Nat)) => (r.bind (fun p => s.inst p.1)).map (fun i => s.instLc i)
  let a := lc x.running
  let b := if lc x.suspended = a then none else lc x.suspended
  let t := s.elapsed
  let s := s.modEngine e (fun x =>
    let l := match a with
      | some k => listMod x.busy k (· + d)
      | none => x.busy
    let l := match b with
      | some k => listMod l k (· + d)
      | none => l
    { x with since := t, busy := if a.isSome || b.isSome then listMod l 4 (· + d) else l })
  match x.running.bind (fun p => s.inst p.1) with
  | some i => s.modGraph i.graph (fun y => { y with busy := y.busy + d })
  | none => s

/-- A busy fraction in units of 2^−16. -/
def fraction (busy win : Nat) : Word := Word.ofNat (busy * 65536 / max 1 win)

/-- The load window has passed: the fractions of R257 are shown and a new window begins. -/
def State.loadDue (s : State) : State :=
  let win := s.elapsed - s.dfs.winStart
  if win < max 1 (s.field Reg.DFS_LOAD_WIN 9 0) * 1000000 then s
  else
    let s := (List.range 64).foldl (fun (s : State) e => s.accountEngine e) s
    let s := (List.range 64).foldl (fun (s : State) e =>
      let b := (s.engine e).busy
      let s := s.setReg (Reg.DFS_PE_LOAD e) (fraction (b.getD 4 0) win)
      (List.range 4).foldl (fun (s : State) k => s.setReg (Reg.DFS_PE_LOAD_LC e k) (fraction (b.getD k 0) win)) s) s
    let s := (List.range 8).foldl (fun (s : State) c =>
      (List.range 4).foldl (fun (s : State) k =>
        let b := ((clusterPes c).map (fun e => (s.engine e).busy.getD k 0)).foldl (· + ·) 0
        s.setReg (Reg.DFS_CL_LOAD c k) (fraction b (win * s.engineCount c))) s) s
    let t := s.elapsed
    { s with dfs := { s.dfs with winStart := t, engines := s.dfs.engines.map (fun x => { x with busy := [0, 0, 0, 0, 0] }) } }

/-- Shows what an engine runs (Table 10-9). -/
def State.showEngine (s : State) (e : Nat) : State :=
  let x := s.engine e
  let s := s.setFlag (Reg.DFS_PE_STATUS e) 4 x.suspended.isSome
  match x.running.bind (fun p => (s.inst p.1).map (fun i => (i, p.2))) with
  | some (i, n) =>
    let k := ((s.graph i.graph).map (fun y => opKind (gnode y.cfg n).op)).getD 0
    let s := (s.setFlag (Reg.DFS_PE_STATUS e) 1 true).setField (Reg.DFS_PE_STATUS e) 3 2 (s.instLc i)
    s.setReg (Reg.DFS_PE_OP e) (Word.ofNat ((Config.catalogueNumber k) % 65536 + i.graph * 65536))
  | none => ((s.setFlag (Reg.DFS_PE_STATUS e) 1 false).setField (Reg.DFS_PE_STATUS e) 3 2 0).setReg (Reg.DFS_PE_OP e) 0xFFFFFFFF#32

/-- An engine takes up, suspends or ends work, with its time accounted. -/
def State.setEngine (s : State) (e : Nat) (running suspended : Option (Nat × Nat)) : State :=
  ((s.accountEngine e).modEngine e (fun x => { x with running := running, suspended := suspended })).showEngine e

/-! ### Dispatch (R246, R248) -/

/-- Consumers of a node that have no entry yet. -/
def GraphInst.needEntry (i : GraphInst) (c : GraphRec) (n : Nat) : List Nat :=
  (((c.arcs.filter (fun a => a.src == n)).map (fun a => a.dst)).eraseDups).filter (fun d =>
    match i.op d with
    | some o => o.phase == .gathering && !o.entry
    | none => false)

/-- The reservations of a dispatch (R248): entries for the consumers, with the entry of the operator itself freed, and a delay entry. -/
def State.reserveFor (s : State) (r : ReadyRef) : Option State :=
  match s.inst r.inst, s.graph r.graph with
  | some i, some x =>
    let own := i.op r.node
    let s := s.modInst r.inst (fun i => i.modOp r.node (fun o => { o with entry := false }))
    let (a, b) := s.msUsed i.cluster
    let need := i.needEntry x.cfg r.node
    let n := need.length
    let fromReserve := if r.lc = 0 then min n (1024 - a) else 0
    let isDelay := match (gnode x.cfg r.node).op with
      | .delay _ => true
      | _ => false
    if n - fromReserve ≤ 3072 - b && own.isSome && (!isDelay || s.delayRoom i.cluster r.lc) then
      some (s.modInst r.inst (fun i =>
        ((need.take fromReserve).foldl (fun (i : GraphInst) d => i.modOp d (fun o => { o with entry := true, reserve := true }))
          ((need.drop fromReserve).foldl (fun (i : GraphInst) d => i.modOp d (fun o => { o with entry := true, reserve := false })) i))))
    else none
  | _, _ => none

/-- The resource that a refused LC0 dispatch found exhausted: 3 for a DELAY whose entries could be had, else 1. -/
def State.refusedFor (s : State) (c : Nat) (r : ReadyRef) : State :=
  let s := s.bump Reg.DFS_CNT_BP_STALL
  if r.lc ≠ 0 then s
  else
    let isDelay := match (s.graph r.graph).map (fun x => (gnode x.cfg r.node).op) with
      | some (.delay _) => true
      | _ => false
    s.lc0Exhausted c (if isDelay && !s.delayRoom c 0 then 3 else 1)

/-- The first instance of a list whose reservations can all be made, with the state after the refusals before it. -/
def State.firstReservable (s : State) (c : Nat) : List ReadyRef → State × Option (ReadyRef × State)
  | [] => (s, none)
  | r :: l =>
    match s.reserveFor r with
    | some t => (s, some (r, t))
    | none => (s.refusedFor c r).firstReservable c l

/-- Engines that may take an instance of a class: idle, and those that hold a suspended operator for LC0 only (R247). -/
def State.idleFor (s : State) (c lc : Nat) : List Nat :=
  (clusterPes c).filter (fun (e : Nat) => s.peUp e && (s.engine e).running.isNone && ((s.engine e).suspended.isNone || lc == 0))

/-- The engine an instance goes to: its affinity engine if idle, else the lowest-numbered idle engine (R246). -/
def State.targetOf (s : State) (c : Nat) (r : ReadyRef) : Option Nat :=
  let l := s.idleFor c r.lc
  let aff := ((s.graph r.graph).map (fun x => x.affinity.getD r.node 64)).getD 64
  if l.contains aff then some aff else l.head?

/-- Bin of a wait in ns (R257). -/
def waitBin (w : Nat) : Nat := if w < 500 then 0 else if w < 1000 then 1 else min 15 (2 + Nat.log2 (w / 1000))

/-- Dispatches an instance, its reservations made, to an engine. -/
def State.dispatchTo (s : State) (e c : Nat) (r : ReadyRef) : State :=
  let t := s.elapsed
  let miss := ((s.graph r.graph).map (fun x => x.affinity.getD r.node 64 != e)).getD true
  let wait := t - r.tick
  let s := s.modInst r.inst (fun i => i.modOp r.node (fun o => { o with phase := .running e, entry := false }))
  let s := s.modGraph r.graph (fun x => { x with affinity := x.affinity.set r.node e })
  let s := s.setEngine e (some (r.inst, r.node)) (s.engine e).suspended
  let s := s.bump Reg.DFS_CNT_DISPATCH
  let s := if miss then s.bump Reg.DFS_CNT_AFFINITY_MISS else s
  let s := if s.field Reg.DFS_HIST_SEL 2 0 = c && s.field Reg.DFS_HIST_SEL 5 4 = r.lc then s.bump (Reg.DFS_HIST_BIN (waitBin wait)) else s
  (s.promote c false).showCluster c

/-- OPERATOR_DISPATCH (R246 to R248): engine `pe` takes what the lists of its cluster give it, or resumes its suspended operator once the LC0 list is empty. -/
def execOperatorDispatch (pe : Nat) (s : State) : Host.Outcome State Fault Refusal := answer <|
  let c := clusterOf pe
  let x := s.engine pe
  if !s.flag Reg.DFS_CTRL 0 || !(clusterPes c).contains pe || !s.peUp pe || x.running.isSome then s
  else
    match x.suspended with
    | some p =>
      if s.readyCount c 0 = 0 then
        (s.modInst p.1 (fun i => i.modOp p.2 (fun o => { o with phase := .running pe }))).setEngine pe (some p) none
      else
        match s.firstReservable c (s.refs c (fun i o => o.phase == .ready && s.instLc i == 0)) with
        | (_, some (r, t)) => if t.targetOf c r == some pe then t.dispatchTo pe c r else s
        | (s', none) => s'
    | none =>
      let (s', a) := s.firstReservable c (s.refs c (fun _ o => o.phase == .ready))
      match a with
      | some (r, t) =>
        if t.targetOf c r = some pe then t.dispatchTo pe c r
        else s
      | none => s'

/-! ### Cancellation (R250, R251) -/

/-- The counter of a cancellation by its timing (Table 10-4). -/
def cancelCounter (now : Nat) (o : OpInst) : Option Nat :=
  match o.phase with
  | .gathering => some Reg.DFS_CNT_CANCEL_PRE
  | .readyPending => some Reg.DFS_CNT_CANCEL_PRE
  | .ready => some (if o.readyTick = now then Reg.DFS_CNT_CANCEL_PRE else Reg.DFS_CNT_CANCEL_READY)
  | .running _ => some Reg.DFS_CNT_CANCEL_RUN
  | .suspended _ => some Reg.DFS_CNT_CANCEL_RUN
  | .delayed => some Reg.DFS_CNT_CANCEL_RUN
  | .done => none
  | .cancelled => none

/-- An operator instance after its cancellation: one that runs stops at its next yield point or at completion. -/
def OpInst.cancel (o : OpInst) : OpInst :=
  match o.phase with
  | .running _ => { o with cancelRun := true }
  | .done => o
  | _ => { o with phase := .cancelled, entry := false }

/-- Engines let go of a suspended operator that was cancelled. -/
def State.dropSuspended (s : State) (id n : Nat) : State :=
  (List.range 64).foldl (fun (s : State) e =>
    if (s.engine e).suspended = some (id, n) then s.setEngine e (s.engine e).running none else s) s

/-- Cancels one operator instance of an instance; its nulls go to the consumers unless the instance is cancelled as a whole. -/
def State.cancelOp (s : State) (id n : Nat) (whole : Bool) : State :=
  match s.inst id with
  | some i =>
    match i.op n with
    | some o =>
      let s := match cancelCounter s.elapsed o with
        | some a => s.bump a
        | none => s
      let s := s.dropSuspended id n
      let s := { s with dfs := { s.dfs with
        delays := s.dfs.delays.map (fun (l : List DelayEntry) => l.filter (fun d => !(d.inst == some id && d.node == n))) } }
      let s := s.modInst id (fun i => i.modOp n (fun o => o.cancel))
      let ends := match o.phase with
        | .running _ => false
        | .done => false
        | .cancelled => false
        | _ => true
      match s.graph i.graph with
      | some x => if ends && !whole then s.deliverTokens id (gemit x.cfg n (fun _ => .null)) else s
      | none => s
    | none => s
  | none => s

/-- Cancels every unfinished operator of an instance. -/
def State.cancelInst (s : State) (id : Nat) : State :=
  match s.inst id with
  | some i =>
    let s := i.ops.foldl (fun (s : State) o => s.cancelOp id o.node true) s
    ((s.modInst id (fun i => { i with dead := true })).promote i.cluster false).sweep.showCluster i.cluster
  | none => s

/-- A running operator that was cancelled stops: the engine is free, and nulls go out unless the instance is cancelled as a whole. -/
def State.stopRun (s : State) (pe id n : Nat) : State :=
  match s.inst id with
  | some i =>
    let s := (s.setEngine pe none (s.engine pe).suspended).pmcEngine pe 0x0B (s.instLc i) 1
    let s := s.modInst id (fun i => i.modOp n (fun o => { o with phase := .cancelled, entry := false }))
    match s.graph i.graph with
    | some x => (if i.dead then s else s.deliverTokens id (gemit x.cfg n (fun _ => .null))).sweep
    | none => s
  | none => s

/-- OPERATOR_YIELD (R247, R251): a cancelled operator stops; an LC1 to LC3 operator is suspended for waiting LC0 work when no engine is idle. -/
def execOperatorYield (pe : Nat) (s : State) : Host.Outcome State Fault Refusal := answer <|
  let c := clusterOf pe
  let x := s.engine pe
  match x.running with
  | some (id, n) =>
    match (s.inst id).bind (fun i => (i.op n).map (fun o => (i, o))) with
    | some (i, o) =>
      if o.cancelRun then s.stopRun pe id n
      else if s.instLc i ≠ 0 && x.suspended.isNone && 0 < s.readyCount c 0 && (s.idleFor c 0).isEmpty then
        let s := s.pmcEngine pe 0x06 (s.instLc i) 1
        ((s.modInst id (fun i => i.modOp n (fun o => { o with phase := .suspended pe }))).setEngine pe none (some (id, n))).bump
          Reg.DFS_CNT_SUSPEND
      else s
    | none => s
  | none => s

/-! ### What operators compute (R243, Table 10-1) -/

/-- The value of a token. -/
def tokenSlot : Option Token → Slot
  | some (.value x) => x
  | _ => missingSlot

/-- Quality of an operator's value outputs (R243). -/
def opQuality (required : List Bool) (ins : List Slot) : Half :=
  let u := ins.foldl (fun q x => q ||| (x.q &&& (Q.syncLost ||| Q.timeSuspect ||| Q.test))) 0
  let v := (ins.zip required).all (fun x => !x.2 || hasQ x.1.q Q.valid)
  Q.derived ||| u ||| (if v then Q.valid else 0)

/-- A value that an operator computes. -/
def State.opSlot (s : State) (a b : Word) (q : Half) : Slot :=
  { a := a, b := b, q := q, off := 0, src := 0xFFFF, tq := BitVec.ofNat 8 s.timeQuality }

/-- Real and complex arithmetic: 0 ADD, 1 SUB, 2 MUL, 3 DIV, 4 CMUL, 5 CONJ, 6 ABS, 7 ARG (log entry 9 for what the spec does not state). -/
def arithmetic (op : Nat) (x y : Word × Word) : Word × Word :=
  match op with
  | 0 => (F32.add x.1 y.1, F32.add x.2 y.2)
  | 1 => (F32.sub x.1 y.1, F32.sub x.2 y.2)
  | 2 => (F32.mul x.1 y.1, (Config.arith 2 x y).2)
  | 3 => (F32.div x.1 y.1, (Config.arith 3 x y).2)
  | 4 => F32.cmul x.1 x.2 y.1 y.2
  | 5 => (x.1, F32.neg x.2)
  | 6 => (F32.mag x.1 x.2, 0)
  | n => Config.arith n x y

/-- The order keys and values of a state block. -/
def windowOf : List Word → List (Nat × Word)
  | a :: b :: v :: r => (a.toNat + b.toNat * 2 ^ 32, v) :: windowOf r
  | _ => []

/-- The state block of a window. -/
def windowWords (l : List (Nat × Word)) : List Word := (l.map (fun x => [Word.ofNat x.1, Word.ofNat (x.1 / 2 ^ 32), x.2])).flatten

/-- The least-squares slope of values over the times before the newest, in ns: per second, 0 over one time, rounded once. -/
def leastSlope (l : List (Nat × Word)) : Word :=
  if l.any (fun p => F32.notFinite p.2) then F32.nan 0 0
  else
    let n : Int := l.length
    let sa : Nat := l.foldl (fun (t : Nat) p => t + p.1) 0
    let saa : Nat := l.foldl (fun (t : Nat) p => t + p.1 * p.1) 0
    let sx := l.foldl (fun t p => F32.dyAdd t (F32.val p.2)) (F32.dyInt 0)
    let sax := l.foldl (fun t p => F32.dyAdd t (F32.dyMul (F32.dyInt p.1) (F32.val p.2))) (F32.dyInt 0)
    let num := F32.dyMul (F32.dyInt 1000000000) (F32.dySub (F32.dyMul (F32.dyInt sa) sx) (F32.dyMul (F32.dyInt n) sax))
    let den := l.length * saa - sa * sa
    if den = 0 then 0 else let q := F32.quot num.m den; F32.ofDy ⟨q.m, q.e + num.e⟩

/-- ROCOF_W and TREND: the window, oldest first, after a value of whatever quality, the slope over it (of TREND in the unit of Config.trendUnit,
since Table 10-1 does not say whether it is per row or per second), and whether it holds n rows. -/
def slopeStep (rocof : Bool) (n key : Nat) (blk : List Word) (x : Slot) : List Word × Word × Bool :=
  let l := windowOf blk ++ [(key, x.a)]
  let l := l.drop (l.length - n)
  let v := leastSlope (l.map (fun p => (key - p.1, p.2)))
  (windowWords l, if rocof then v else F32.mul v Config.trendUnit, decide (n ≤ l.length))

/-- THRESH: state (active, rows beyond the level) after a value: hysteresis and pickup; a value that is not VALID changes nothing. -/
def threshStep (level hyst : Word) (above : Bool) (pickup : Nat) (blk : List Word) (x : Slot) : List Word :=
  let active := blk.getD 0 0 != 0
  let count := (blk.getD 1 0).toNat
  if !hasQ x.q Q.valid then [Word.ofNat (bit active), Word.ofNat count]
  else
    let beyond := if above then F32.lt level x.a else F32.lt x.a level
    let back := if above then F32.le x.a (F32.sub level hyst) else F32.le (F32.add level hyst) x.a
    if active then (if back then [0, 0] else [1, 0])
    else if beyond then (if pickup ≤ count then [1, 0] else [0, Word.ofNat (count + 1)])
    else [0, 0]

/-- A GUARD's condition: every input VALID, or its last input VALID and not 0. -/
def guardHolds (nonzero : Bool) (ins : List Slot) : Bool :=
  if nonzero then
    match ins.getLast? with
    | some x => hasQ x.q Q.valid && !F32.eq x.a 0
    | none => false
  else ins.all (fun x => hasQ x.q Q.valid)

/-- The detector's input (R286): what the THRESH behind an ALM_RAISE compared, through GUARD and DELAY, else the ALM_RAISE's own input. -/
def detectorInput (c : GraphRec) (i : GraphInst) : Nat → Nat → Option Slot
  | 0, _ => none
  | k + 1, n =>
    match c.arcs.find? (fun a => a.dst == n && a.dstPort == 0) with
    | some a =>
      match (gnode c a.src).op with
      | .thresh _ _ _ _ => (i.op a.src).map (fun o => tokenSlot (o.inputs.getD 0 none))
      | .guard _ => detectorInput c i k a.src
      | .delay _ => detectorInput c i k a.src
      | _ => none
    | none => none

/-- A graph's SLOT_WRITE: here, or for a guest graph back to the owner in the graph's class (R119, R361). -/
def State.writeOut (s : State) (lc g tag chan : Nat) (a b : Word) (q : Half) (closure : Option Nat) : State :=
  if 4 ≤ g then s.hgwSend (g / 4 - 1) (hgwClass lc) (.slotWrite (g % 4) tag chan a b q)
  else s.writeOwn g tag chan a b q closure

/-- What an operator's completion gives: its output tokens by port, its state block, and the state with its effects. -/
structure OpResult where
  tok : Nat → Token
  blk : List Word
  st : State

/-- Any input is VALID and not 0. -/
def anyTrue (ins : List Slot) : Bool := ins.any (fun x => hasQ x.q Q.valid && !F32.eq x.a 0)

/-- An operator computes (Table 10-1). -/
def State.runOperator (s : State) (i : GraphInst) (c : GraphRec) (o : OpInst) (blk : List Word) : OpResult :=
  let d := gnode c o.node
  let ins := o.inputs.map tokenSlot
  let q := opQuality d.required ins
  let x := ins.getD 0 missingSlot
  let y := ins.getD 1 missingSlot
  let one := fun (a b : Word) (q : Half) (blk : List Word) => OpResult.mk (fun p => if p = 0 then .value (s.opSlot a b q) else .null) blk s
  let none_ := fun (s : State) => OpResult.mk (fun _ => Token.null) blk s
  match d.op with
  | .slotRead chans =>
    OpResult.mk (fun p =>
      match i.row with
      | some (g, _) => if p < chans.length then .value (s.readSlot g i.key (chans.getD p 0)) else .null
      | none => .value missingSlot) blk s
  | .slotWrite chans =>
    match i.row with
    | some (g, _) =>
      let l := (chans.zip ins).map (fun v => (v.1, s.opSlot v.2.a v.2.b (opQuality [true] [v.2])))
      let s := l.foldl (fun (s : State) (v : Nat × Slot) => s.writeOut c.lc g i.key v.1 v.2.a v.2.b v.2.q i.closure) s
      none_ (s.modGraph i.graph (fun z => { z with lastOut := l.foldl (fun m (v : Nat × Slot) => kvPut m v.1 v.2) z.lastOut }))
    | none => none_ s
  | .arith op k =>
    let v := arithmetic op (x.a, x.b) (if d.required.length < 2 then (k, 0) else (y.a, y.b))
    one v.1 v.2 q blk
  | .angdiff =>
    let z := F32.cmul x.a x.b y.a (F32.neg y.b)
    one (Config.argDegrees z.1 z.2) 0 q blk
  | .fdiff => one (F32.sub x.a y.a) 0 q blk
  | .rocofW n =>
    let r := slopeStep true n i.key blk x
    one r.2.1 0 (if r.2.2 then q else q &&& ~~~Q.valid) r.1
  | .trend n =>
    let r := slopeStep false n i.key blk x
    one r.2.1 0 (if r.2.2 then q else q &&& ~~~Q.valid) r.1
  | .thresh level hyst above pickup =>
    let b := threshStep level hyst above pickup blk x
    one (if b.getD 0 0 = 1 then F32.ofInt 1 else 0) 0 q b
  | .guard nz =>
    let h := guardHolds nz ins
    OpResult.mk (fun p => if (p == 0) = h && p < 2 then .value x else .null) blk s
  | .select =>
    let z := ins.getD 2 missingSlot
    let v := if F32.eq z.a 0 then x else y
    one v.a v.b q blk
  | .delay _ => OpResult.mk (fun p => if p = 0 then .value x else .null) blk s
  | .almRaise a =>
    let v := (detectorInput c i c.nodes.length o.node).getD x
    let h : Handoff := { alarm := a, active := !F32.eq x.a 0, a := v.a, b := v.b, q := v.q, key := i.key, closure := i.closure }
    none_ { s with alm := { s.alm with handoffs := s.alm.handoffs ++ [h] } }
  | .capTrig t => none_ (s.capHandoff 4 t (anyTrue ins) i.key)
  | .oscBand m =>
    match i.row with
    | some (g, n) => none_ (s.oscBand m g n i.key c.lc i.closure)
    | none => none_ s
  | .oscDef =>
    match i.row with
    | some (_, n) => none_ (s.oscDef n i.key i.closure)
    | none => none_ s
  | .oscPub g => none_ (s.oscPubNode g i.key i.closure)
  | .mtrAcc _ => none_ s
  | .oscRefresh _ => none_ s
  | .seSolve => none_ s
  | .isl => none_ s

/-- Inserts a delay entry by due tick, after those of the same tick. -/
def insertDelay (d : DelayEntry) : List DelayEntry → List DelayEntry
  | [] => [d]
  | e :: r => if d.due < e.due then d :: e :: r else e :: insertDelay d r

/-- Puts an entry in a cluster's delay list. -/
def State.addDelay (s : State) (c : Nat) (d : DelayEntry) : State :=
  let d := { d with serial := s.dfs.delaySerial }
  { s with dfs := { s.dfs with delaySerial := s.dfs.delaySerial + 1, delays := listMod s.dfs.delays c (insertDelay d) } }

/-- OPERATOR_COMPLETE (R246, R249, R251): state block and tokens are written, successors become ready, and the engine is free. -/
def execOperatorComplete (pe : Nat) (s : State) : Host.Outcome State Fault Refusal := answer <|
  match (s.engine pe).running with
  | some (id, n) =>
    match s.inst id with
    | some i =>
      match i.op n, s.graph i.graph with
      | some o, some x =>
        if o.cancelRun then (s.stopRun pe id n).bump (Reg.DFS_PE_CNT_OPS pe)
        else
          let r := s.runOperator i x.cfg o (x.blocks.getD n [])
          let s := r.st.oscDue.setEngine pe none (r.st.engine pe).suspended
          let s := (s.bump (Reg.DFS_PE_CNT_OPS pe)).pmcEngine pe 0x05 x.cfg.lc 1
          let s := s.modGraph i.graph (fun y => { y with blocks := y.blocks.set n r.blk })
          match (gnode x.cfg n).op with
          | .delay t =>
            let s := s.modInst id (fun i => i.modOp n (fun o => { o with phase := .delayed }))
            (s.addDelay i.cluster ⟨s.dfs.delayTick + t, 0, some id, i.graph, n, r.tok 0⟩).showCluster i.cluster
          | _ =>
            let s := s.modInst id (fun i => i.modOp n (fun o => { o with phase := .done }))
            ((s.deliverTokens id (gemit x.cfg n r.tok)).sweep).showCluster i.cluster
      | _, _ => s
    | none => s
  | none => s

/-! ### Delay ticks (R249) -/

/-- A due entry leaves the delay list: a DELAY's token goes to its consumers, a TIMER triggers its graph and is inserted again. -/
def State.delayFires (s : State) (c : Nat) (d : DelayEntry) : State :=
  match d.inst with
  | some id =>
    match s.graph d.graph with
    | some x =>
      let s := s.modInst id (fun i => i.modOp d.node (fun o => { o with phase := .done }))
      (s.deliverTokens id (gemit x.cfg d.node (fun p => if p = 0 then d.token else .null))).sweep
    | none => s
  | none =>
    match s.graph d.graph with
    | some x =>
      match x.cfg.trigger with
      | .timer t =>
        let now := s.now
        let s := if s.flag Reg.DFS_CTRL 0 && x.cfg.en && !x.halted && (4096 ≤ d.graph || s.graphHost d.graph now == s.ownId) then
            s.modGraph d.graph (fun y => { y with waiting := y.waiting ++ [HeldTrigger.mk now none none false] })
          else s
        s.addDelay c { d with due := d.due + t }
      | _ => s
    | none => s

/-- DELAY_TICK (R249): a delay tick of 10 µs passes. -/
def execDelayTick (s : State) : Host.Outcome State Fault Refusal := answer <|
  let t := s.dfs.delayTick + 1
  if s.elapsed < t * 10000 then s
  else
    let s := { s with dfs := { s.dfs with delayTick := t } }
    (List.range 8).foldl (fun (s : State) c =>
      let l := s.dfs.delays.getD c []
      let due := l.filter (fun d => decide (d.due ≤ t))
      let s := { s with dfs := { s.dfs with delays := s.dfs.delays.set c (l.filter (fun d => !decide (d.due ≤ t))) } }
      (due.foldl (fun (s : State) d => s.delayFires c d) s).showCluster c) s

/-! ### Placement (R240, R252, Table 05-5) -/

/-- Local state bytes of each engine, from the graphs' homes. -/
def State.localBytes (s : State) (e : Nat) : Nat :=
  s.dfs.graphs.foldl (fun n x =>
    (List.range x.2.cfg.nodes.length).foldl (fun n k =>
      if x.2.homes.getD k 64 = e && !x.2.shared.getD k false then n + (gnode x.2.cfg k).stateBytes else n) n) 0

/-- Homes of the nodes of a graph in a cluster: the engine with the fewest state bytes, then the lower number; a block that does not fit is shared (R252). -/
def placeNodes (pes : List Nat) : List DfsNode → List (Nat × Nat) → List (Nat × Bool)
  | [], _ => []
  | d :: r, used =>
    let least := pes.foldl (fun (best : Option (Nat × Nat)) e =>
      let u := (kvGet used e).getD 0
      match best with
      | some b => if u < b.2 then some (e, u) else best
      | none => some (e, u)) none
    let (e, u) := least.getD (0, 0)
    if u + d.stateBytes ≤ 176 * 1024 then (e, false) :: placeNodes pes r (kvPut used e (u + d.stateBytes))
    else (e, true) :: placeNodes pes r used

/-- The homes that a graph would take in a cluster; a pinned home engine takes all its nodes. -/
def State.homesIn (s : State) (x : GraphRec) (c : Nat) : List (Nat × Bool) :=
  let pes := match x.pinEngine with
    | some e => if clusterOf e = c then [e] else (clusterPes c).filter (fun e => s.peUp e)
    | none => (clusterPes c).filter (fun e => s.peUp e)
  placeNodes pes x.nodes (pes.map (fun e => (e, s.localBytes e)))

/-- Cluster in which a graph's next instances run: the target of its move, or its home. -/
def GraphState.clusterNow (x : GraphState) : Nat :=
  match x.move with
  | some (c, _) => c
  | none => x.cluster

/-- LC0 graphs placed in a cluster. -/
def State.lc0Graphs (s : State) (c : Nat) : List GraphRec :=
  (s.dfs.graphs.filter (fun x => x.2.cfg.lc == 0 && x.2.clusterNow == c && !x.2.homes.isEmpty)).map (fun x => x.2.cfg)

/-- W_c + P_c × E_c of a list of LC0 graphs, and E_c. -/
def State.makespanOf (s : State) (c : Nat) (l : List GraphRec) : Nat × Nat :=
  let e := s.engineCount c
  ((l.map (fun g => s.graphTime g)).foldl (· + ·) 0 + (l.map (fun g => s.chainTime g)).foldl max 0 * e, e)

/-- The makespan condition of Table 05-5: at most 180 µs. -/
def State.makespanOk (s : State) (c : Nat) (l : List GraphRec) : Bool :=
  let (m, e) := s.makespanOf c l
  l.isEmpty || (e ≠ 0 && decide (m ≤ 180000 * e))

/-- The scheduler-entry condition of Table 05-5: LC0 operand tokens that can be in flight, one on each arc of each graph's instance, within the reserve of 1,024 (log entry 19). -/
def entriesOk (l : List GraphRec) : Bool :=
  decide ((l.map (fun g => max g.arcs.length (g.nodes.filter (fun d => !d.required.isEmpty)).length)).foldl (· + ·) 0 ≤ 1024)

/-- A graph may be placed in a cluster under Table 05-5. -/
def State.admissible (s : State) (g : GraphRec) (c : Nat) : Bool :=
  s.engineCount c ≠ 0 && (g.lc ≠ 0 ||
    (let l := g :: (s.lc0Graphs c).filter (fun x => x.id != g.id)
     s.makespanOk c l && entriesOk l))

/-- Shows a cluster's makespan and whether it is admitted. -/
def State.showMakespan (s : State) (c : Nat) : State :=
  let l := s.lc0Graphs c
  let (m, e) := s.makespanOf c l
  (s.setReg (Reg.DFS_CL_MAKESPAN c) (satWord (m / max 1 e))).setFlag (Reg.DFS_CL_STATUS c) 8 (s.makespanOk c l && entriesOk l)

/-- Shows the state bytes in each engine's local memory, in KiB. -/
def State.showLocal (s : State) : State :=
  (List.range 60).foldl (fun (s : State) e => s.setReg (Reg.DFS_PE_LM_USED e) (Word.ofNat ((s.localBytes e + 1023) / 1024))) s

/-- Shows the graph that DFS_PLACE_INDEX selects (Table 10-9). -/
def State.showPlace (s : State) : State :=
  match s.graph (s.field Reg.DFS_PLACE_INDEX 11 0) with
  | some x =>
    let c := x.clusterNow
    let e := if x.move.isSome then (((s.homesIn x.cfg c).head?).map (fun p => p.1)).getD 0 else x.engine
    let sh := if x.move.isSome then (s.homesIn x.cfg c).any (fun p => p.2) else x.shared.any (fun b => b)
    let w := c + e * 2 ^ 8 + bit (x.cfg.pinCluster.isSome || x.cfg.pinEngine.isSome) * 2 ^ 16 + x.cfg.lc * 2 ^ 17 + bit x.deferred * 2 ^ 19
      + bit sh * 2 ^ 20 + bit x.halted * 2 ^ 21
    (s.setReg Reg.DFS_PLACE_INFO (Word.ofNat w)).setReg Reg.DFS_PLACE_LOAD (satWord x.load)
  | none => (s.setReg Reg.DFS_PLACE_INFO 0).setReg Reg.DFS_PLACE_LOAD 0

/-- A graph takes a cluster as its home, with homes and affinity of its nodes (R246, R252). -/
def State.settle (s : State) (g c : Nat) : State :=
  match s.graph g with
  | some x =>
    let h := s.homesIn x.cfg c
    s.modGraph g (fun y => { y with
      cluster := c, homes := h.map (fun p => p.1), affinity := h.map (fun p => p.1), shared := h.map (fun p => p.2)
      engine := ((h.head?).map (fun p => p.1)).getD 0, move := none, deferred := false })
  | none => s

/-- Worst-case engine time per second of a graph, in 10^-6 ns: time × trigger rate (R252); a GOOSE trigger has no stated rate and counts 0. -/
def State.projected (s : State) (c : GraphRec) : Nat :=
  let t := s.graphTime c
  match c.trigger with
  | .section_ rg _ => if rg < 4 then t * s.rate rg * 1000000 else 0
  | .derived ch => t * s.rate (((kvGet s.aln.chans ch).map (fun r => r.rg)).getD 0) * 1000000
  | .event _ => 0
  | .timer n => t * 100000 * 1000000 / max 1 n

/-- Projected utilisation of a cluster, in 1/840 of 10^-6 ns/s. -/
def State.utilOf (s : State) (c : Nat) : Nat :=
  ((s.dfs.graphs.filter (fun x => x.2.clusterNow == c && !x.2.homes.isEmpty)).map (fun x => s.projected x.2.cfg)).foldl (· + ·) 0
    * 840 / max 1 (s.engineCount c)

/-- The cluster with the lowest figure among some, the lower number first. -/
def lowest (u : Nat → Nat) (l : List Nat) : Option Nat :=
  l.foldl (fun (b : Option Nat) c =>
    match b with
    | some d => if u c < u d then some c else b
    | none => some c) none

/-- The Sower places a graph at load (R252): none where no cluster will do. -/
def State.sow (s : State) (g : Nat) : Option State :=
  match s.graph g with
  | some x =>
    if g < 4096 && s.graphHost g s.now != s.ownId then some s else
    let pin := match x.cfg.pinEngine with
      | some e => some (clusterOf e)
      | none => x.cfg.pinCluster
    match pin with
    | some c => if s.admissible x.cfg c then some (s.settle g c) else none
    | none =>
      match lowest (fun c => s.utilOf c) ((List.range 8).filter (fun c => s.admissible x.cfg c)) with
      | some c => some (s.settle g c)
      | none => none
  | none => some s

/-! ### Instances (R242, R254, R255) -/

/-- A graph's instances that are unfinished and not cancelled as a whole. -/
def State.liveInsts (s : State) (g : Nat) : List GraphInst := s.dfs.insts.filter (fun i => i.graph == g && !i.dead)

/-- The level at which a graph is shed holds (R255): fixed-unit work is shed as its own chapter states. -/
def State.graphShed (s : State) (c : GraphRec) : Bool := s.halved c.lc && !c.nodes.any (fun d => fixedUnit d.op)

/-- An instance is cancelled at its creation: it counts as cancelled before readiness. -/
def State.cancelAtBirth (s : State) (c : GraphRec) : State := s.bumpBy Reg.DFS_CNT_CANCEL_PRE c.nodes.length

/-- A trigger is shed (R255): HALVE writes copies of the last outputs with HELD; SKIP writes nothing. -/
def State.shedTrigger (s : State) (g : Nat) (x : GraphState) (t : HeldTrigger) : State :=
  let s := (s.bump Reg.DFS_CNT_SHED).cancelAtBirth x.cfg
  let s := { s with dfs := { s.dfs with shedTotal := s.dfs.shedTotal + 1 } }
  let s := s.modGraph g (fun y => { y with shedFlip := false })
  if x.cfg.skip then s
  else
    match t.row with
    | some (rg, _) => x.lastOut.foldl (fun (s : State) (v : Nat × Slot) => s.writeOut x.cfg.lc rg t.key v.1 v.2.a v.2.b (v.2.q ||| Q.held) t.closure) s
    | none => s

/-- A move applies to the first instance at or after its boundary, when every older instance has finished (R254); answers whether state is being copied. -/
def State.applyMove (s : State) (g key : Nat) : State × Bool :=
  match s.graph g with
  | some x =>
    match x.move with
    | some (c, b) =>
      if key < b * 1000000000 || x.deferred then (s, false)
      else if (s.liveInsts g).isEmpty then
        let s := (s.settle g c).bump Reg.DFS_CNT_MOVES
        ((s.showMakespan c).showLocal.showPlace, true)
      else
        let s := (s.modGraph g (fun y => { y with deferred := true })).bump Reg.DFS_CNT_MOVE_DEFER
        ((s.log 0x0A02 1 (leBytes 2 g ++ leBytes 2 0 ++ leBytes 4 b)).showPlace, false)
    | none => (s, false)
  | none => (s, false)

/-- Sources of an instance become ready, if they find room (R246, R248). -/
def State.readySources (s : State) (id c : Nat) : State :=
  let s := s.modInst id (fun i => { i with copying := false })
  match s.inst id with
  | some i =>
    match s.graph i.graph with
    | some x =>
      let s := s.modInst id (fun i => { i with ops := i.ops.map (fun o =>
        if sourceNode x.cfg o.node && o.phase == .gathering then
          (if offEngine (gnode x.cfg o.node).op then { o with phase := .done } else { o with phase := .readyPending })
        else o) })
      let off := (List.range x.cfg.nodes.length).filter (fun n => sourceNode x.cfg n && offEngine (gnode x.cfg n).op)
      let s := s.deliverTokens id ((off.map (fun n => gemit x.cfg n (fun _ => .value missingSlot))).flatten)
      let waiting := s.refs c (fun i o => o.phase == .readyPending && i.id == id)
      let s := waiting.foldl (fun (s : State) r =>
        if s.readyRoom c r.lc then
          let t := s.elapsed
          s.modInst r.inst (fun i => i.modOp r.node (fun o => { o with phase := .ready, readyTick := t }))
        else if r.lc = 0 then s.lc0Exhausted c 2 else s) s
      s.sweep.showCluster c
    | none => s
  | none => s

/-- Creates an instance of a graph for a trigger. -/
def State.createInst (s : State) (g : Nat) (t : HeldTrigger) : State :=
  let (s, copying) := s.applyMove g t.key
  match s.graph g with
  | some x =>
    let copying := copying || (s.liveInsts g).any (fun i => i.copying)
    let id := s.dfs.nextId
    let i : GraphInst :=
      { id := id, graph := g, key := t.key, row := t.row, cluster := x.cluster, closure := t.closure, copying := copying, dead := false
        ops := x.cfg.nodes.mapIdx (fun n d => freshOp n d) }
    let s := { s with dfs := { s.dfs with nextId := id + 1, insts := s.dfs.insts ++ [i] } }
    if copying then s else s.readySources id x.cluster
  | none => s

/-- GRAPH_INSTANCE_CREATE (R242, R254 to R256): the oldest trigger of a graph creates an instance, or is shed, cancelled, or held. -/
def execGraphInstanceCreate (graph : Nat) (s : State) : Host.Outcome State Fault Refusal := answer <|
  match s.graph graph with
  | some x =>
    match x.waiting with
    | t :: rest =>
      if x.awaits then s else
      let take := fun (s : State) => s.modGraph graph (fun y => { y with waiting := rest })
      if !s.flag Reg.DFS_CTRL 0 || x.halted then take s
      else if x.lost then (take s).cancelAtBirth x.cfg
      else
        let odd := match t.row with
          | some (_, n) => n % 2 == 1
          | none => x.shedFlip
        let shed := s.graphShed x.cfg
        if shed && (x.cfg.skip || odd) then (take s).shedTrigger graph x t
        else
          let s := if shed && t.row.isNone then s.modGraph graph (fun y => { y with shedFlip := true }) else s
          let live := s.liveInsts graph
          if live.length < 16 then (take s).createInst graph t
          else if x.cfg.supersede then
            match live.head? with
            | some i => ((take s).cancelInst i.id).createInst graph t
            | none => s
          else
            (s.modGraph graph (fun y => { y with waiting := y.waiting.map (fun w => { w with counted := true }) })).bumpBy Reg.DFS_CNT_INST_WAIT
              (x.waiting.filter (fun w => !w.counted)).length
    | [] => s
  | none => s

/-- STATE_COPY_DONE (R254): the state of a moved graph has been copied, and its waiting instances become ready in the new cluster. -/
def execStateCopyDone (graph : Nat) (s : State) : Host.Outcome State Fault Refusal := answer <|
  ((s.liveInsts graph).filter (fun i => i.copying)).foldl (fun (s : State) i => s.readySources i.id i.cluster) s

/-- RELEASE_TOKEN_ADMIT (R248): release tokens that found a ready list full enter it in their order where space has been freed. -/
def execReleaseTokenAdmit (s : State) : Host.Outcome State Fault Refusal := answer <|
  (List.range 8).foldl (fun (s : State) c => (s.promote c true).showCluster c) s

/-- GRAPH_HALT (R250): a write of DFS_GRAPH_CTRL.HALT cancels every unfinished operator of the graph. -/
def execGraphHalt (graph : Nat) (s : State) : Host.Outcome State Fault Refusal := answer <|
  let s := s.setField Reg.DFS_GRAPH_CTRL 11 0 graph
  match s.graph graph with
  | some _ =>
    let s := s.modGraph graph (fun x => { x with halted := true, waiting := [] })
    ((s.liveInsts graph).foldl (fun (s : State) i => s.cancelInst i.id) s).showPlace
  | none => s

/-- GRAPH_RESUME (R250): a write of DFS_GRAPH_CTRL.RESUME lets a halted graph run again. -/
def execGraphResume (graph : Nat) (s : State) : Host.Outcome State Fault Refusal := answer <|
  ((s.setField Reg.DFS_GRAPH_CTRL 11 0 graph).modGraph graph (fun x => { x with halted := false })).showPlace

/-- DFS_COMMIT (R259): staged DFS fields are requested for the next epoch boundary. -/
def execDfsCommit (s : State) : Host.Outcome State Fault Refusal := answer (s.setFlag Reg.DFS_COMMIT 0 true)

/-! ### Shedding and faults (R255, R256) -/

/-- Shows the shedding level in TOP_STATUS, OSC_STATUS and DFS_STATUS, with event 0x0A06 at a change. -/
def State.showShed (s : State) : State :=
  let l := min 2 s.shedLevel
  let s := (s.setField Reg.TOP_STATUS 5 4 l).setField Reg.OSC_STATUS 13 12 l
  if s.field Reg.DFS_STATUS 9 8 = l then s
  else (s.setField Reg.DFS_STATUS 9 8 l).log 0x0A06 2 (leBytes 1 l ++ leBytes 4 s.dfs.shedTotal)

/-- A graph keeps a state block in an engine's local memory. -/
def GraphState.homedAt (x : GraphState) (e : Nat) : Bool :=
  (List.range x.cfg.nodes.length).any (fun n => decide (0 < (gnode x.cfg n).stateBytes) && x.homes.getD n 64 == e && !x.shared.getD n false)

/-- An operator instance runs on an engine, is suspended on it, or holds state there. -/
def State.touches (s : State) (i : GraphInst) (o : OpInst) (e : Nat) : Bool :=
  match o.phase with
  | .running p => p == e
  | .suspended p => p == e
  | .done => false
  | .cancelled => false
  | _ => ((s.graph i.graph).map (fun x =>
      decide (0 < (gnode x.cfg o.node).stateBytes) && x.homes.getD o.node 64 == e && !x.shared.getD o.node false)).getD false

/-- A graph engine is fenced (R256). -/
def State.fenceEngine (s : State) (e : Nat) : State :=
  let c := clusterOf e
  let hit := (s.dfs.insts.map (fun i => (i.ops.filter (fun o => s.touches i o e)).map (fun o => (i.id, o.node)))).flatten
  let s := hit.foldl (fun (s : State) p => s.cancelOp p.1 p.2 false) s
  let s := match (s.engine e).running with
    | some p => s.stopRun e p.1 p.2
    | none => s
  let s := { s with dfs := { s.dfs with graphs := s.dfs.graphs.map (fun (x : Nat × GraphState) => if x.2.homedAt e then (x.1, { x.2 with lost := true }) else x) } }
  let s := (s.setFlag (Reg.DFS_PE_STATUS e) 5 true).setFlag (Reg.DFS_PE_STATUS e) 0 false
  let s := s.setFlag (Reg.DFS_CL_STATUS c) (e % 8) false
  let s := s.sweep.showCluster c
  let s := (s.log 0x0A04 3 (leBytes 1 e ++ leBytes 2 hit.length)).blockError 3 0x0A 0x0A04
  let s := s.showMakespan c
  let l := s.lc0Graphs c
  if s.makespanOk c l then s
  else s.log 0x0A05 3 (leBytes 1 c ++ leBytes 3 0 ++ leBytes 4 (s.reg (Reg.DFS_CL_MAKESPAN c)).toNat)

/-! ### Epoch boundaries (R253, R254, R256, R259) -/

/-- Measured engine time of a cluster's graphs over the epoch, in 1/840 ns per engine. -/
def State.measured (s : State) (c : Nat) : Nat :=
  ((s.dfs.graphs.filter (fun x => x.2.clusterNow == c)).map (fun x => x.2.busy)).foldl (· + ·) 0 * 840 / max 1 (s.engineCount c)

/-- The graphs of a cluster that may be moved, by load descending, then number. -/
def State.movable (s : State) (c : Nat) : List (Nat × GraphState) :=
  let l := s.dfs.graphs.filter (fun x => x.2.clusterNow == c && !x.2.homes.isEmpty && x.2.cfg.pinCluster.isNone && x.2.cfg.pinEngine.isNone
    && !(x.2.cfg.lc == 0 && decide (16384 < graphBytes x.2.cfg)))
  let ins := fun (a : Nat × GraphState) (l : List (Nat × GraphState)) =>
    l.takeWhile (fun b => decide (a.2.busy ≤ b.2.busy)) ++ [a] ++ l.dropWhile (fun b => decide (a.2.busy ≤ b.2.busy))
  l.foldl (fun acc a => ins a acc) []

/-- One move of the rebalancing procedure of R253, where a graph qualifies. -/
def State.oneMove (s : State) (u : List Nat) (sec : Nat) : Option (State × List Nat × Nat) :=
  let live := (List.range 8).filter (fun c => s.engineCount c ≠ 0)
  let at_ := fun (c : Nat) => u.getD c 0
  let hi := live.foldl (fun (b : Option Nat) c =>
    match b with
    | some d => if at_ d < at_ c then some c else b
    | none => some c) none
  match hi with
  | none => none
  | some h =>
    match lowest at_ (live.filter (fun c => c != h)) with
    | none => none
    | some t =>
      let eh := s.engineCount h
      let et := s.engineCount t
      let span := 840 * s.field Reg.DFS_SOWER_EPOCH 11 0 * 1000000000
      let ok := fun (x : Nat × GraphState) =>
        let dh := x.2.busy * 840 / eh
        let dt := x.2.busy * 840 / et
        let before : Int := max (at_ h) (at_ t)
        let after : Int := max ((at_ h : Int) - dh) ((at_ t : Int) + dt)
        decide (((s.field Reg.DFS_SOWER_CTRL 15 8 : Nat) : Int) * span ≤ (before - after) * 10000) && s.admissible x.2.cfg t
      match (s.movable h).find? ok with
      | none => none
      | some x =>
        let s := s.modGraph x.1 (fun y => { y with move := some (t, sec), deferred := false })
        some (s, (u.set h (at_ h - x.2.busy * 840 / eh)).set t (at_ t + x.2.busy * 840 / et), x.1)

/-- The rebalancing procedure: at most `n` moves (R253). -/
def State.rebalance (sec : Nat) : Nat → State → List Nat → List Nat → State × List Nat
  | 0, s, _, moved => (s, moved)
  | n + 1, s, u, moved =>
    match s.oneMove u sec with
    | some (s, u, g) => State.rebalance sec n s u (if moved.contains g then moved else moved ++ [g])
    | none => (s, moved)

/-- The measured loads of an epoch become visible, in µs per s (R259). -/
def State.takeLoads (s : State) : State :=
  let s := (List.range 60).foldl (fun (s : State) e => s.accountEngine e) s
  let epoch := max 1 (s.field Reg.DFS_SOWER_EPOCH 11 0)
  { s with dfs := { s.dfs with graphs := s.dfs.graphs.map (fun (x : Nat × GraphState) => (x.1, { x.2 with load := x.2.busy / 1000 / epoch })) } }

/-- Graphs whose state was lost are placed again in their cluster and start from initial state (R256). -/
def State.replaceLost (s : State) : State :=
  (s.dfs.graphs.filter (fun x => x.2.lost)).foldl (fun (s : State) x =>
    let s := s.modGraph x.1 (fun y => { y with lost := false, homes := [], blocks := y.cfg.nodes.map (fun _ => []) })
    let dest := if s.admissible x.2.cfg x.2.cluster then some x.2.cluster
      else lowest (fun c => s.utilOf c) ((List.range 8).filter (fun c => s.admissible x.2.cfg c))
    match dest with
    | some c => s.settle x.1 c
    | none => s.modGraph x.1 (fun y => { y with lost := true })) s

/-- An epoch boundary of the Sower (R253, R254, R256, R259). -/
def State.dfsEpoch (s : State) (sec : Nat) : State :=
  let s := if s.flag Reg.DFS_COMMIT 0 then (s.commitReg Reg.DFS_SOWER_CTRL).setFlag Reg.DFS_COMMIT 0 false else s
  let s := s.replaceLost.takeLoads
  let wanted := !s.dfs.rebalance.isEmpty
  let s := { s with dfs := { s.dfs with graphs := s.dfs.graphs.map (fun (x : Nat × GraphState) =>
    if x.2.move.isSome then (x.1, { x.2 with move := x.2.move.map (fun m => (m.1, sec)), deferred := false }) else x) } }
  let (s, moved) := if s.flag Reg.DFS_SOWER_CTRL 0 || wanted then
      State.rebalance sec (s.field Reg.DFS_SOWER_CTRL 23 16) s ((List.range 8).map (fun c => s.measured c)) []
    else (s, [])
  let s := if moved.isEmpty then s
    else
      let s := s.setReg Reg.DFS_PLACE_VER (s.reg Reg.DFS_PLACE_VER + 1)
      s.log 0x0A01 0 (leBytes 4 (s.reg Reg.DFS_PLACE_VER).toNat ++ leBytes 2 moved.length ++ leBytes 2 0)
  let s := s.dfs.rebalance.foldl (fun (s : State) h =>
    (s.log 0x0A07 0 (leBytes 4 (s.reg Reg.DFS_PLACE_VER).toNat ++ leBytes 2 moved.length)).finishOp h 0 moved.length) s
  let s := { s with dfs := { s.dfs with rebalance := [], epochStart := sec, graphs := s.dfs.graphs.map (fun (x : Nat × GraphState) => (x.1, { x.2 with busy := 0 })) } }
  let s := s.setFlag Reg.DFS_STATUS 16 false
  ((List.range 8).foldl (fun (s : State) c => s.showMakespan c) s).showLocal.showPlace

/-- Device Time has reached an epoch boundary that has not been taken. -/
def State.epochDue (s : State) : Bool :=
  let e := s.field Reg.DFS_SOWER_EPOCH 11 0
  e ≠ 0 && s.second % e == 0 && decide (s.dfs.epochStart < s.second)

end Sys2Proof.Machine
end

