-- ==== Sys2Proof/Machine/Dests.lean ====
section
/-!
DEFINITION. Destinations of cyclic outputs: their liveness, and the held peer values that its return releases (R276, R277).
-/
namespace Sys2Proof.Machine

/-- TimeAllowedtoLive of a message has expired at an instant (R85). -/
def GooseLast.expired (x : GooseLast) (t : Nat) : Bool := decide (x.stamp + x.tal * 1000000 < t)

/-- A destination is LIVE at an instant (R276). -/
def State.destLive (s : State) (t : Nat) (c : DestRec) : Bool :=
  match c with
  | .station none => true
  | .station (some i) =>
    match kvGet s.dec.streams i with
    | some e => e.state == .valid && (match e.goose with
      | some x => !x.expired t
      | none => false)
    | none => false
  | .peer d => s.routeUp d

/-- Kind and number of a destination (Table 11-15). -/
def destKind : DestRec → Nat × Nat
  | .station none => (0, 0xFFFF)
  | .station (some i) => (0, i)
  | .peer d => (1, d)

/-- The running program. -/
def State.program (s : State) : Option CycProgram := s.cyc.run.map (fun a => a.prog)

/-- Record of an output entry of the running program. -/
def State.outRec (s : State) (e : Nat) : Option OutputRec := s.program.bind (fun p => p.outputs[e]?)

/-- Sends a peer value (R273, R363). -/
def State.sendPeer (s : State) (output dest : Nat) (o : OutEntry) (w : Nat) : State :=
  match (s.cyc.dests[dest]?).map (fun (d : DestState) => d.cfg) with
  | some (DestRec.peer d) => s.hgwSend d .lc1 (.peer s.ownId output o.a o.b o.q s.cyc.progStart o.cycle w)
  | _ => s

/-- Sets status bits of an output entry (Table 11-6). -/
def State.outStatus (s : State) (e : Nat) (bits : Half) : State :=
  { s with cyc := { s.cyc with outputs := listMod s.cyc.outputs e (fun o => { o with status := o.status ||| bits }) } }

/-- The destination of a PEER output entry. -/
def State.peerDest (s : State) (e : Nat) : Option (Nat × Nat) :=
  match (s.outRec e).map (fun (r : OutputRec) => r.kind) with
  | some (OutputKind.peer output dest) => some (output, dest)
  | _ => none

/-- The held values of a destination are sent, and their entries gain SENT (R277). -/
def State.releaseHeld (s : State) (d : Nat) : State :=
  let mine := s.cyc.heldPeer.filter (fun h => (s.peerDest h.1).map (fun x => x.2) == some d)
  let rest := s.cyc.heldPeer.filter (fun h => (s.peerDest h.1).map (fun x => x.2) != some d)
  let s := { s with cyc := { s.cyc with heldPeer := rest } }
  mine.foldl (fun (s : State) h =>
    match s.peerDest h.1 with
    | some (output, dest) => (s.sendPeer output dest h.2.1 h.2.2).outStatus h.1 4
    | none => s) s

/-- Shows a destination (Table 11-13). -/
def State.showDest (s : State) (d : Nat) : State :=
  match s.cyc.dests[d]? with
  | some x => s.setReg (Reg.CYC_DST_STATUS d) (Word.ofNat (bit x.live + (destKind x.cfg).1 * 2 + (destKind x.cfg).2 % 65536 * 65536))
  | none => s

/-- LIVE of a destination as it stands now, with events 0x0B03 and 0x0B04 at its changes. -/
def State.updateDest (s : State) (d : Nat) : State :=
  match s.cyc.dests[d]? with
  | some x =>
    let live := s.destLive s.now x.cfg
    if live = x.live then s
    else
      let t := s.now
      let s := { s with cyc := { s.cyc with dests := listMod s.cyc.dests d (fun y =>
        { y with live := live, since := t, losses := if live then y.losses else satNat 32 (y.losses + 1) }) } }
      let s := s.showDest d
      let body := leBytes 1 d ++ leBytes 1 (destKind x.cfg).1 ++ leBytes 2 (destKind x.cfg).2
      if live then (s.log 0x0B04 0 body).releaseHeld d else (s.bump (Reg.CYC_DST_CNT_LOST d)).log 0x0B03 2 body
  | none => s

/-- LIVE of every destination. -/
def State.updateDests (s : State) : State :=
  if s.flag Reg.CYC_CTRL 0 then (List.range s.cyc.dests.length).foldl (fun (s : State) d => s.updateDest d) s else s

end Sys2Proof.Machine
end

