-- ==== Sys2Proof/Machine/Meter.lean ====
section
/-!
DEFINITION. Energy metering (07_metering.md): accumulation, steeps and their records, pulse outputs, saves and commits.
-/
namespace Sys2Proof.Machine

/-! ### Meter points -/

/-- A meter point. -/
def State.meter (s : State) (m : Nat) : Option MeterPoint := kvGet s.mtr.points m

/-- Changes a meter point. -/
def State.modMeter (s : State) (m : Nat) (f : MeterPoint → MeterPoint) : State :=
  { s with mtr := { s.mtr with points := kvMod s.mtr.points m f } }

/-- Changes a pulse output. -/
def State.modPulse (s : State) (k : Nat) (f : PulseState → PulseState) : State :=
  { s with mtr := { s.mtr with pulses := listMod s.mtr.pulses k f } }

/-- A pulse output. -/
def State.pulse (s : State) (k : Nat) : PulseState := s.mtr.pulses.getD k {}

/-- A meter point runs. -/
def State.meterOn (s : State) (m : Nat) : Bool := s.flag Reg.MTR_CTRL 0 && s.flag (Reg.MTR_MP_CTRL m) 0

/-- Elements that a wiring uses (Table 07-1). -/
def wiringElements (w : Nat) : List Nat := match w with
  | 0 => [0]
  | 1 => [0, 1, 2]
  | _ => [0, 2]

/-- Elements of a meter point with their voltage and current channels. -/
def State.elements (s : State) (m : Nat) (x : MeterPoint) : List (Nat × Nat × Nat) :=
  (wiringElements (s.field (Reg.MTR_MP_CTRL m) 2 1)).filterMap (fun e =>
    match x.cfg.chans.getD (2 * e) none, x.cfg.chans.getD (2 * e + 1) none with
    | some v, some i => some (e, v, i)
    | _, _ => none)

/-- Channels of a meter point. -/
def State.meterChans (s : State) (m : Nat) (x : MeterPoint) : List Nat := ((s.elements m x).map (fun e => [e.2.1, e.2.2])).flatten

/-! ### Steeps (R176) -/

/-- The first boundary of length L after a TAI second (R176). -/
def State.nextBoundary (s : State) (l : Nat) (utc : Bool) (t : Nat) : Nat :=
  if l = 0 then t + 1
  else if utc then
    let (c, o) := s.utcChanges
    let u := ((t : Int) - offsetTai c o (t : Int)) / (l : Int) * (l : Int) + (l : Int)
    (u + offsetUtc c o u).toNat
  else (t / l + 1) * l

/-- End of the current steep in ns. -/
def State.steepEnd (s : State) (m : Nat) (x : MeterPoint) : Nat :=
  s.nextBoundary (s.field (Reg.MTR_MP_STEEP m) 11 0) (s.flag (Reg.MTR_MP_CTRL m) 5) (x.start / 1000000000) * 1000000000

/-- Shows the current steep. -/
def State.showSteep (s : State) (m : Nat) : State :=
  match s.meter m with
  | some x =>
    let s := s.setPair (Reg.MTR_MP_START_LO m) (Reg.MTR_MP_START_HI m) x.start
    let s := s.setReg (Reg.MTR_MP_SAMPLES m) (Word.ofNat x.samples)
    (s.setFlag (Reg.MTR_MP_STATUS m) 1 (x.flagged != 0)).setFlag (Reg.MTR_MP_STATUS m) 2 (x.missed != 0)
  | none => s

/-! ### Samples (R171, R172, R175, R180, R181) -/

/-- Linear interpolation of a temperature table; outside it the end point holds (R181). -/
def tempFactor : List TempPoint → Word → Word × Word
  | [], _ => (0x3F800000, 0)
  | [p], _ => (p.r, p.theta)
  | p :: q :: l, t =>
    if F32.le t p.temp then (p.r, p.theta)
    else if F32.lt t q.temp then
      let f := F32.div (F32.sub t p.temp) (F32.sub q.temp p.temp)
      (F32.add p.r (F32.mul f (F32.sub q.r p.r)), F32.add p.theta (F32.mul f (F32.sub q.theta p.theta)))
    else tempFactor (q :: l) t

/-- The correction of channel j of a meter point: r and θ, 1 and 0 without one. -/
def State.correction (s : State) (m : Nat) (x : MeterPoint) (j : Nat) : Word × Word :=
  if !s.flag (Reg.MTR_MP_CTRL m) 4 then (0x3F800000, 0)
  else match x.temp, (x.cfg.tables.getD j none).bind (fun k => s.mtr.tables[k]?) with
    | some t, some tab => tempFactor tab t
    | _, _ => (0x3F800000, 0)

/-- The 481 outputs in the filter span of sample n of a channel: the filter reaches 240 samples to either side (R171, R175). -/
def State.meterSpan (s : State) (c n : Nat) : List (Option WSample) := (s.wch c).span ((n : Int) - 240) 481

/-- H of R171 on 481 samples: odd about its centre, so that its phase is an exact quadrature; the older sample of each pair counts positive. -/
def hilbertOf (l : List Word) : Word :=
  (List.range 240).foldl (fun (a : Word) d =>
    F32.add a (F32.mul (Config.hilbertTap (d + 1)) (F32.sub (l.getD (239 - d) 0) (l.getD (241 + d) 0)))) 0

/-- The analytic signal of a channel for sample n (R171), corrected (R181). -/
def State.analytic (s : State) (m : Nat) (x : MeterPoint) (j c n : Nat) : Word × Word :=
  let w := s.meterSpan c n
  let v := ((w.getD 240 none).map (fun y => y.v)).getD 0
  let a := (v, hilbertOf (spanVals w))
  match s.correction m x j with
  | (0x3F800000, 0) => a
  | (r, th) => let k := Config.cosSinRad th; F32.cmul a.1 a.2 (F32.mul r k.1) (F32.mul r k.2)

/-- Half of a number. -/
def dyHalf (x : Dy) : Dy := ⟨x.m, x.e - 1⟩

/-- p and q of an element for sample n (R172). -/
def State.elementPower (s : State) (m : Nat) (x : MeterPoint) (e : Nat × Nat × Nat) (n : Nat) : Dy × Dy :=
  let v := s.analytic m x (2 * e.1) e.2.1 n
  let i := s.analytic m x (2 * e.1 + 1) e.2.2 n
  let k : Int := if s.flag (Reg.MTR_MP_CTRL m) 3 then -1 else 1
  let mul := fun (a b : Word) => F32.dyMul ⟨k, 0⟩ (F32.dyMul (F32.val a) (F32.val b))
  if [v.1, v.2, i.1, i.2].any F32.notFinite then
    let w := Config.powerOf [v.1, v.2, i.1, i.2]
    (⟨w.1.1, w.1.2⟩, ⟨w.2.1, w.2.2⟩)
  else (dyHalf (F32.round64 (F32.dyAdd (mul v.1 i.1) (mul v.2 i.2))), dyHalf (F32.round64 (F32.dySub (mul v.2 i.1) (mul v.1 i.2))))

/-- √(p² + q²) in f64 (R172). -/
def apparent (p q : Dy) : Dy := F32.sqrt64 (F32.round64 (F32.dyAdd (F32.round64 (F32.dyMul p p)) (F32.round64 (F32.dyMul q q))))

/-- Both channels of an element produced sample n. -/
def State.elementExists (s : State) (e : Nat × Nat × Nat) (n : Nat) : Bool :=
  ((s.wch e.2.1).at_ n).isSome && ((s.wch e.2.2).at_ n).isSome

/-- A sample of an element is flagged (R175). -/
def State.elementFlagged (s : State) (e : Nat × Nat × Nat) (n : Nat) : Bool :=
  let bad := fun (c : Nat) => (s.meterSpan c n).any (fun y => match y with
    | some y => !hasQ y.q Q.valid
    | none => true)
  bad e.2.1 || bad e.2.2

/-! ### Accumulation (R173, R174, R179, R182) -/

/-- Adds an increment of 2^-32 units to an accumulator (R174). -/
def Acc.add (a : Acc) (inc : Nat) : Acc :=
  let f := a.frac.toNat + inc % 2 ^ 32
  let v := a.val + BitVec.ofNat 64 (inc / 2 ^ 32 + f / 2 ^ 32)
  { val := v, frac := Word.ofNat f, wraps := if v < a.val then a.wraps + 1 else a.wraps }

/-- A pulse output's divider takes an increment: pulses are queued, or lost beyond 65,535 pending (R182, R183). -/
def State.feedPulse (s : State) (k inc : Nat) : State :=
  let x := s.pulse k
  let thr := (s.reg (Reg.MTR_PULSE_K k)).toNat * 1000 * 2 ^ 32
  if thr = 0 then s
  else
    let rem := x.rem + inc
    let new := rem / thr
    let pend := x.total - x.issued
    let take := min new (65535 - pend)
    let lost := new - take
    let s := s.modPulse k (fun y => { y with rem := rem % thr, total := y.total + take, lost := y.lost + lost })
    let s := s.setReg (Reg.MTR_PULSE_PENDING k) (Word.ofNat (pend + take))
    if lost = 0 then s
    else
      let s := s.bumpBy Reg.MTR_CNT_PULSE_LOST lost
      if x.lostRun then s
      else (s.modPulse k (fun y => { y with lostRun := true })).log 0x0702 2
        (leBytes 1 k ++ leBytes 3 0 ++ leBytes 4 (satNat 32 (x.lost + lost)))

/-- An accumulator takes an increment, and so do the pulse outputs that name it. -/
def State.addEnergy (s : State) (m e idx inc : Nat) : State :=
  match s.meter m with
  | some x =>
    let a := 10 * e + idx
    let old := x.accs.getD a {}
    let new := old.add inc
    let s := s.modMeter m (fun x => { x with accs := x.accs.set a new })
    let s := if new.wraps = old.wraps then s
      else s.log 0x0701 1 (leBytes 1 m ++ leBytes 1 e ++ leBytes 1 idx ++ leBytes 1 0 ++ leBytes 2 new.wraps.toNat)
    (List.range 8).foldl (fun (s : State) k =>
      let c := s.reg (Reg.MTR_PULSE_CTRL k)
      if c.getLsbD 0 && bitsOf c 7 2 = m && bitsOf c 9 8 = e && bitsOf c 13 10 = idx then s.feedPulse k inc else s) s
  | none => s

/-- K of R174: µWh per W for one sample, 1.0e6 / (3600.0 * 4800.0) in f64. -/
def energyK : Dy := F32.round64 (F32.quot 1000000 17280000)

/-- The increment of a quantity's magnitude in 2^-32 units (R174), in f64 step by step; one beyond 64 bits is open. -/
def energyOf (x : Dy) : Nat :=
  let y := F32.round64 (F32.dyMul (F32.dyAbs x) energyK)
  let z := F32.round64 (F32.dyAdd ⟨y.m, y.e + 32⟩ ⟨1, -1⟩)
  let n := if 0 ≤ z.e then z.m.natAbs * 2 ^ z.e.toNat else z.m.natAbs / 2 ^ (-z.e).toNat
  if n < 2 ^ 64 then n else Config.energyOver x.m x.e

/-- The accumulators that a sample adds to, with their increments (Table 07-2). -/
def contributions (p q : Dy) : List (Nat × Nat) :=
  let ip := energyOf p
  let iq := energyOf q
  let is_ := energyOf (apparent p q)
  let pos := decide (0 ≤ p.m)
  let lag := decide (0 ≤ q.m)
  [(if pos then 0 else 1, ip), (if lag then 2 else 3, iq),
   (if pos then (if lag then 4 else 7) else if lag then 5 else 6, iq), (if pos then 8 else 9, is_)]

/-- An element takes a sample. -/
def State.accumulate (s : State) (m e : Nat) (p q : Dy) : State :=
  (contributions p q).foldl (fun (s : State) c => s.addEnergy m e c.1 c.2) s

/-- Takes metering sample n of a meter point (R171 to R175). -/
def State.meterSample (s : State) (m n : Nat) : State :=
  match s.meter m with
  | some x =>
    let all := s.elements m x
    let l := all.filter (fun e => s.elementExists e n)
    let pw := l.map (fun e => (e.1, s.elementPower m x e n))
    let sum := fun (f : Dy × Dy → Dy) => pw.foldl (fun a (y : Nat × Dy × Dy) => F32.round64 (F32.dyAdd a (f y.2))) ⟨0, 0⟩
    let s1 := pw.foldl (fun (s : State) (y : Nat × Dy × Dy) => s.accumulate m y.1 y.2.1 y.2.2) s
    let s1 := if l.isEmpty then s1 else s1.accumulate m 3 (sum (fun y => y.1)) (sum (fun y => y.2))
    s1.modMeter m (fun x => { x with
      nextN := n + 1
      samples := x.samples + bit (!l.isEmpty)
      flagged := x.flagged + bit (l.any (fun e => s.elementFlagged e n))
      missed := x.missed + bit (l.length != all.length)
      staleSteep := x.staleSteep || s.flag (Reg.MTR_MP_STATUS m) 0 })
  | none => s

/-- Takes n samples one after another. -/
def State.meterSamples (m : Nat) : Nat → State → State
  | 0, s => s
  | k + 1, s => match s.meter m with
    | some x => meterSamples m k (s.meterSample m x.nextN)
    | none => s

/-- The index up to which every channel of a meter point has produced, or will never produce, the span of its samples. -/
def State.meterReady (s : State) (m : Nat) (x : MeterPoint) : Nat :=
  let l := (s.meterChans m x).map (fun c => (s.wch c).nextG.getD 0)
  match l with
  | [] => 0
  | a :: r => r.foldl min a - 240

/-- The index from the next sample on below which no element exists. -/
def State.meterFloor (s : State) (m : Nat) (x : MeterPoint) : Nat :=
  match (s.elements m x).map (fun e => max ((s.wch e.2.1).firstFrom x.nextN) ((s.wch e.2.2).firstFrom x.nextN)) with
  | [] => 0
  | a :: r => r.foldl min a

/-- A meter point takes every sample of its steep that is there. -/
def State.runMeter (s : State) (m : Nat) : State :=
  match s.meter m with
  | some x =>
    if !s.meterOn m then s
    else
      let top := min (s.meterReady m x) (gridFrom (s.steepEnd m x))
      let low := min top (s.meterFloor m x)
      let gone := low - x.nextN
      let stale := decide (0 < gone) && s.flag (Reg.MTR_MP_STATUS m) 0
      let s := s.modMeter m (fun x => { x with nextN := x.nextN + gone, missed := x.missed + gone, staleSteep := x.staleSteep || stale })
      (State.meterSamples m (top - (x.nextN + gone)) s).showSteep m
  | none => s

/-- The meter points that use a waveform channel take their samples. -/
def State.runMeters (s : State) (c : Nat) : State :=
  (s.mtr.points.filter (fun p => (s.meterChans p.1 p.2).contains c)).foldl (fun (s : State) p => s.runMeter p.1) s

/-! ### Temperature (R181) -/

/-- A row's temperature value reaches the meter points that name its channel. -/
def State.meterTemp (s : State) (g tag : Nat) : State :=
  s.mtr.points.foldl (fun (s : State) (p : Nat × MeterPoint) =>
    let m := p.1
    let c := s.field (Reg.MTR_MP_TEMP_CH m) 17 0
    if s.meterOn m && s.flag (Reg.MTR_MP_CTRL m) 4 && ((kvGet s.aln.chans c).map (fun r => r.rg)) == some g then
      let v := s.readSlot g tag c
      if hasQ v.q Q.valid then
        (s.modMeter m (fun x => { x with temp := some v.a, stale := false })).setFlag (Reg.MTR_MP_STATUS m) 0 false
      else
        let s1 := (s.modMeter m (fun x => { x with stale := true })).setFlag (Reg.MTR_MP_STATUS m) 0 true
        if p.2.stale then s1 else s1.log 0x0703 1 (leBytes 1 m ++ leBytes 1 0 ++ leBytes 4 c)
    else s) s

/-! ### Commits (R187) -/

/-- Pulse outputs that name a meter point. -/
def State.pulsesOf (s : State) (m : Nat) : List Nat := (List.range 8).filter (fun k => s.field (Reg.MTR_PULSE_CTRL k) 7 2 == m)

/-- The cause for which a meter point's commit is refused: 1 length, 2 pulse value. -/
def State.meterCause (s : State) (m : Nat) : Option Nat :=
  let l := bitsOf (s.staged (Reg.MTR_MP_STEEP m)) 11 0
  if l = 0 || 3600 < l || 86400 % l ≠ 0 then some 1
  else if (s.pulsesOf m).any (fun k =>
      let c := s.staged (Reg.MTR_PULSE_CTRL k)
      9 < bitsOf c 13 10 || bitsOf c 25 16 = 0 || 1000 < bitsOf c 25 16) then some 2
  else none

/-- The level of a pulse pin. -/
def State.pulseLevel (s : State) (k : Nat) (active : Bool) : Bool := active != s.flag (Reg.MTR_PULSE_CTRL k) 1

/-- A pulse pin stands at the level that its pulse or its idle state gives under POL. -/
def State.settlePulse (s : State) (k : Nat) : State :=
  s.modPulse k (fun x => { x with pin := s.pulseLevel k x.activeEnd.isSome })

/-- Commits a pulse output: a change of what it counts, or of K, clears its remainder (R182). -/
def State.commitPulse (s : State) (k : Nat) : State :=
  let key := fun (s : State) => (s.field (Reg.MTR_PULSE_CTRL k) 13 2, s.reg (Reg.MTR_PULSE_K k))
  let old := key s
  let s := ((s.commitReg (Reg.MTR_PULSE_CTRL k)).commitReg (Reg.MTR_PULSE_K k)).settlePulse k
  if key s = old then s else s.modPulse k (fun x => { x with rem := 0 })

/-- A meter point's COMMIT bit: register and bit. -/
def mtrBit (m : Nat) : Nat × Nat := (if m < 32 then Reg.MTR_COMMIT_LO else Reg.MTR_COMMIT_HI, m % 32)

/-- A meter point's staged settings commit at its steep boundary, or are refused whole (R187). -/
def State.commitMeter (s : State) (m : Nat) : State :=
  let b := mtrBit m
  if !s.flag b.1 b.2 then s
  else
    let s := s.setFlag b.1 b.2 false
    match s.meterCause m with
    | some c =>
      let s := ((s.setFlag Reg.MTR_COMMIT_STAT 0 true).setField Reg.MTR_COMMIT_STAT 10 8 c).setField Reg.MTR_COMMIT_STAT 21 16 m
      s.log 0x0705 1 (leBytes 1 m ++ leBytes 1 c)
    | none =>
      let l := s.pulsesOf m
      let s := (s.commitReg (Reg.MTR_MP_CTRL m)).commitReg (Reg.MTR_MP_STEEP m)
      (l.foldl (fun (s : State) k => s.commitPulse k) s).modMeter m (fun x => { x with changed := true })

/-! ### Records (R177, R178) -/

/-- Flags of a steep record (Table 07-3, byte 13). -/
def State.steepFlags (s : State) (m : Nat) (x : MeterPoint) : Nat :=
  bit (s.flag (Reg.MTR_MP_CTRL m) 5) + 2 * bit (x.flagged != 0) + 4 * bit (x.missed != 0) + 8 * bit x.staleSteep
    + 16 * bit x.restored + 32 * bit x.changed + 64 * bit x.held

/-- The 512 bytes of a steep record (Table 07-3). -/
def State.steepRecord (s : State) (m : Nat) (x : MeterPoint) (stop : Nat) : List Byte :=
  let accs := (List.range 40).map (fun a => x.accs.getD a {})
  let b := padTo 508 (leBytes 8 x.start ++ leBytes 4 ((stop - x.start) / 1000000000) ++ leBytes 1 m ++ leBytes 1 (s.steepFlags m x)
    ++ leBytes 2 0 ++ leBytes 4 x.samples ++ leBytes 4 x.flagged ++ leBytes 4 x.missed ++ leBytes 4 x.seq.toNat
    ++ (accs.map (fun a => leBytes 8 a.val.toNat)).flatten ++ (accs.map (fun a => leBytes 2 a.wraps.toNat)).flatten)
  b ++ leBytes 4 (crc32c b).toNat

/-- Writes a record to the ring, then WRIDX, then the notice (R178). -/
def State.writeRecord (s : State) (m flags : Nat) (b : List Byte) : State :=
  let i := s.pair Reg.MTR_REC_WRIDX_LO Reg.MTR_REC_WRIDX_HI
  let base := s.pair Reg.MTR_REC_BASE_LO Reg.MTR_REC_BASE_HI
  let s := s.writeDram (base + i % max 1 (s.reg Reg.MTR_REC_DEPTH).toNat * 512) b
  let s := (s.setPair Reg.MTR_REC_WRIDX_LO Reg.MTR_REC_WRIDX_HI (i + 1)).bump Reg.MTR_CNT_STEEPS
  if s.flag Reg.MTR_REC_QUEUE 7 then
    match s.qOffer (s.field Reg.MTR_REC_QUEUE 6 0) 0x11 (toWords 4 (leBytes 8 i ++ leBytes 1 m ++ leBytes 1 flags)) with
    | some s => s
    | none =>
      let n := s.mtr.lost + 1
      let s := { s with mtr := { s.mtr with lost := n } }.bump Reg.MTR_CNT_NOTICE_LOST
      s.log 0x0708 1 (leBytes 1 m ++ leBytes 3 0 ++ leBytes 4 n)
  else s

/-- A steep closes: its record, its event, the commit at the boundary, and the next steep (R177, R187). -/
def State.closeSteep (s : State) (m : Nat) : State :=
  match s.meter m with
  | some x =>
    let stop := s.steepEnd m x
    let s := s.writeRecord m (s.steepFlags m x) (s.steepRecord m x stop)
    let s := if x.missed = 0 then s else s.log 0x0704 1 (leBytes 1 m ++ leBytes 3 0 ++ leBytes 4 (satNat 32 x.missed))
    let s := s.modMeter m (fun x => { x with
      start := stop, samples := 0, flagged := 0, missed := 0, seq := x.seq + 1
      restored := false, changed := false, held := false, staleSteep := false })
    let s := s.commitMeter m
    let s := match s.meter m with
      | some y => let e := s.steepEnd m y; s.modMeter m (fun z => { z with stop := e })
      | none => s
    s.runMeter m
  | none => s

/-! ### Saves (R185) -/

/-- Every accumulator and sequence number: those of the meter points that run, and those kept of points that the image does not hold (R179, R185, R186). -/
def State.meterBank (s : State) : List (Nat × List Acc × Word) :=
  s.mtr.points.foldl (fun (l : List (Nat × List Acc × Word)) (p : Nat × MeterPoint) => kvPut l p.1 (p.2.accs, p.2.seq)) ((s.mtr.kept.map (fun k => k.1)).getD [])

/-- Bytes of a save: the header, the remainders, and 564 B for each meter point (R185). -/
def saveBytes (n : Nat) : Nat := 64 + 64 + 564 * n

/-- Sectors of a metering partition that the write front enters on its way from a byte over a number of bytes. -/
def sectorsEntered (front n : Nat) : List Nat :=
  (List.range (n / 65536 + 2)).filterMap (fun i =>
    let a := (front + 65535) / 65536 + i
    if a * 65536 < front + n then some (a % 64) else none)

/-- A save lies in a sector. -/
def MeterSave.inSector (v : MeterSave) (k : Nat) : Bool :=
  (List.range (saveBytes v.points.length / 65536 + 2)).any (fun i =>
    decide ((v.addr / 65536 + i) * 65536 < v.addr + saveBytes v.points.length) && (v.addr / 65536 + i) % 64 == k)

/-- Starts a save: the sectors that the front of its NOR device enters are erased, with the saves in them (R185). -/
def State.startSave (s : State) : State :=
  let c := s.mtr.nextCopy
  let t := s.now
  let front := s.mtr.fronts.getD c 0
  let bank := s.meterBank
  let n := saveBytes bank.length
  let save := MeterSave.mk c t true bank (s.mtr.pulses.map (fun p => p.rem)) front
  let gone := sectorsEntered front n
  { s with mtr := { s.mtr with
      saving := some save, nextCopy := 1 - c
      fronts := s.mtr.fronts.set c ((front + n) % 4194304)
      saves := s.mtr.saves.filter (fun (v : MeterSave) => v.copy != c || !gone.any (fun k => v.inSector k)) } }.setFlag Reg.MTR_STATUS 8 true

/-! ### The commands -/

/-- The last sample of the steep has been accumulated or counted. -/
def State.steepDone (s : State) (m : Nat) (x : MeterPoint) : Bool := decide (s.steepEnd m x ≤ gridInstant x.nextN)

/-- `STEEP_CLOSE`: a steep closes after its last sample (R177). -/
def execSteepClose (mp : Nat) (s : State) : Host.Outcome State Fault Refusal := answer <|
  match s.meter mp with
  | some x => if s.meterOn mp && s.steepDone mp x then s.closeSteep mp else s
  | none => s

/-- `STEEP_CLOSE_TIMEOUT`: 1 s after the steep end the outstanding samples count as not produced (R177). -/
def execSteepCloseTimeout (mp : Nat) (s : State) : Host.Outcome State Fault Refusal := answer <|
  match s.meter mp with
  | some x =>
    let stop := s.steepEnd mp x
    if s.meterOn mp && !s.steepDone mp x && stop + 1000000000 ≤ s.now then
      let n := gridFrom stop
      let stale := s.flag (Reg.MTR_MP_STATUS mp) 0
      (s.modMeter mp (fun x => { x with missed := x.missed + (n - x.nextN), nextN := n, staleSteep := x.staleSteep || stale })).closeSteep mp
    else s
  | none => s

/-- Mirrors a pulse output (R386). -/
def State.mirrorPulse (s : State) (k : Nat) (start : Option Nat) : State :=
  if s.mirrored then s.mirror (.pulse k (s.pulse k).issued start) else s

/-- `PULSE_START`: a queued pulse drives its pin active (R183). -/
def execPulseStart (k : Nat) (s : State) : Host.Outcome State Fault Refusal := answer <|
  let x := s.pulse k
  if k < 8 && x.issued < x.total && x.activeEnd.isNone && x.gapEnd ≤ s.elapsed && s.drives then
    let t := s.elapsed + s.field (Reg.MTR_PULSE_CTRL k) 25 16 * 1000000
    let lvl := s.pulseLevel k true
    let s := s.modPulse k (fun x => { x with issued := x.issued + 1, activeEnd := some t, lostRun := false, pin := lvl })
    let s := (s.setReg (Reg.MTR_PULSE_PENDING k) (Word.ofNat (x.total - x.issued - 1))).bump (Reg.MTR_PULSE_CNT k)
    s.mirrorPulse k (some s.now)
  else s

/-- `PULSE_END`: the pin goes inactive and the gap starts (R183). -/
def execPulseEnd (k : Nat) (s : State) : Host.Outcome State Fault Refusal := answer <|
  match (s.pulse k).activeEnd with
  | some t =>
    if t ≤ s.elapsed then
      let g := s.elapsed + s.field (Reg.MTR_PULSE_CTRL k) 25 16 * 1000000
      let lvl := s.pulseLevel k false
      (s.modPulse k (fun x => { x with activeEnd := none, gapEnd := g, pin := lvl })).mirrorPulse k none
    else s
  | none => s

/-- `METER_SAVE_PERIOD`: the save period elapses (R185). -/
def execMeterSavePeriod (s : State) : Host.Outcome State Fault Refusal := answer <|
  let t := s.elapsed
  if s.mtr.lastSave + (s.reg Reg.MTR_SAVE_PERIOD).toNat * 1000000000 ≤ t && s.mtr.saving.isNone then
    { s with mtr := { s.mtr with lastSave := t } }.startSave
  else s

/-- `METER_SAVE_NOW`: a save starts, after the one in progress if there is one (R185). -/
def execMeterSaveNow (s : State) : Host.Outcome State Fault Refusal :=
  answer (if s.mtr.saving.isSome then s.setFlag Reg.MTR_SAVE 0 true else s.startSave)

/-- `METER_SAVE_DONE`: the save is in NOR, or has failed with event 0x0707 (R185). -/
def execMeterSaveDone (ok : Bool) (s : State) : Host.Outcome State Fault Refusal := answer <|
  match s.mtr.saving with
  | some v =>
    let s := { s with mtr := { s.mtr with saving := none, saves := MeterSave.mk v.copy v.time ok v.points v.rems v.addr :: s.mtr.saves } }
    let s := s.setFlag Reg.MTR_STATUS 8 false
    let s := if ok then s.bump Reg.MTR_CNT_SAVES else s.log 0x0707 2 (leBytes 1 v.copy)
    if s.flag Reg.MTR_SAVE 0 then (s.setFlag Reg.MTR_SAVE 0 false).startSave else s
  | none => s

/-- `METER_SNAPSHOT`: a write of GO copies a meter point's accumulators and wrap counts (R189). -/
def execMeterSnapshot (value : Word) (s : State) : Host.Outcome State Fault Refusal := answer <|
  let m := bitsOf value 5 0
  let accs := ((s.meter m).map (fun x => x.accs)).getD []
  let s := s.setReg Reg.MTR_SNAP (Word.ofNat (m + 0x200))
  (List.range 40).foldl (fun (s : State) a =>
    let x := accs.getD a {}
    (s.setPair (Reg.MTR_SNAP_ACC_LO a) (Reg.MTR_SNAP_ACC_HI a) x.val.toNat).setReg (Reg.MTR_SNAP_WRAP a) (x.wraps.setWidth 32)) s

/-- `MTR_COMMIT`: the named meter points commit at their next steep boundary; one that does not run commits at once (R187). -/
def execMtrCommit (hi : Bool) (mask : Word) (s : State) : Host.Outcome State Fault Refusal := answer <|
  (List.range 32).foldl (fun (s : State) i =>
    if mask.getLsbD i then
      let m := i + 32 * bit hi
      let s := s.setFlag (mtrBit m).1 (mtrBit m).2 true
      if s.meterOn m && (s.meter m).isSome then s else s.commitMeter m
    else s) s

end Sys2Proof.Machine
end

