-- ==== Sys2Proof/Machine/Estimate.lean ====
section
/-!
DEFINITION. The sparse factor of the state estimator and its solves (R217, R221 to R223): G = L D L^H in binary64, stored and used in binary32.
-/
namespace Sys2Proof.Machine

/-! ### Complex arithmetic over a number format -/

/-- The operations of a number format. -/
structure Arith (α : Type) where
  zero : α
  add : α → α → α
  sub : α → α → α
  mul : α → α → α
  div : α → α → α
  lt : α → α → Bool

/-- Quotient of binary64 numbers; 0 where the divisor is 0. -/
def div64 (x y : Dy) : Dy :=
  if y.m = 0 then F32.dyInt 0
  else
    let q := F32.quot (if y.m < 0 then -x.m else x.m) y.m.natAbs
    F32.round64 ⟨q.m, q.e + x.e - y.e⟩

/-- binary32. -/
def arith32 : Arith Word := { zero := 0, add := F32.add, sub := F32.sub, mul := F32.mul, div := F32.div, lt := F32.lt }

/-- binary64, as numbers of 53 significant bits. -/
def arith64 : Arith Dy :=
  { zero := F32.dyInt 0, add := fun x y => F32.round64 (F32.dyAdd x y), sub := fun x y => F32.round64 (F32.dySub x y)
    mul := fun x y => F32.round64 (F32.dyMul x y), div := div64, lt := F32.dyLt }

namespace Arith
variable {α : Type}

/-- Complex sum, difference and product, and a complex number over a real one. -/
def cadd (o : Arith α) (a b : α × α) : α × α := (o.add a.1 b.1, o.add a.2 b.2)
def csub (o : Arith α) (a b : α × α) : α × α := (o.sub a.1 b.1, o.sub a.2 b.2)
def cmul (o : Arith α) (a b : α × α) : α × α := (o.sub (o.mul a.1 b.1) (o.mul a.2 b.2), o.add (o.mul a.1 b.2) (o.mul a.2 b.1))
def cdivr (o : Arith α) (a : α × α) (d : α) : α × α := (o.div a.1 d, o.div a.2 d)
/-- Complex conjugate. -/
def conj (o : Arith α) (a : α × α) : α × α := (a.1, o.sub o.zero a.2)

end Arith

/-- An entry of a sparse vector, 0 where it lists none. -/
def entry {α : Type} (o : Arith α) (v : List (Nat × (α × α))) (k : Nat) : α × α := (kvGet v k).getD (o.zero, o.zero)

/-- A column of L D L^H: its key, its pivot, and the entries of L below the diagonal by key. -/
abbrev Col (α : Type) := Nat × α × List (Nat × (α × α))

/-- L D L^H of a Hermitian matrix of keyed rows, its first key first. A key whose pivot `ok` refuses is left out with its row and column. -/
def ldl {α : Type} (o : Arith α) (ok : Nat → α → Bool) : Nat → List (Nat × List (α × α)) → List (Col α)
  | 0, _ => []
  | _, [] => []
  | n + 1, (k, row) :: below =>
    let d := (row.headD (o.zero, o.zero)).1
    if ok k d then
      let low := below.map (fun r => (r.1, o.cdivr (r.2.headD (o.zero, o.zero)) d))
      let next := below.map (fun r => (r.1, List.zipWith (fun x y => o.csub x (o.cmul (o.cdivr (r.2.headD (o.zero, o.zero)) d) y)) r.2.tail row.tail))
      (k, d, low) :: ldl o ok n next
    else ldl o ok n (below.map (fun r => (r.1, r.2.tail)))

/-- The columns over the keys that were kept, without entries that are 0. -/
def keepCols {α : Type} (isZero : α × α → Bool) (l : List (Col α)) : List (Col α) :=
  l.map (fun c => (c.1, c.2.1, c.2.2.filter (fun e => (l.map (fun c => c.1)).contains e.1 && !isZero e.2)))

/-- x with L D L^H x = b: forward, by the pivots, and back, each sum in the order of the columns. -/
def ldlSolve {α : Type} (o : Arith α) (l : List (Col α)) (b : List (Nat × (α × α))) : List (Nat × (α × α)) :=
  let y := l.foldl (fun v c => c.2.2.foldl (fun v e => kvPut v e.1 (o.csub (entry o v e.1) (o.cmul e.2 (entry o v c.1)))) v) b
  let z := l.map (fun c => (c.1, o.cdivr (entry o y c.1) c.2.1))
  l.foldr (fun c v => kvPut v c.1 (c.2.2.foldl (fun t e => o.csub t (o.cmul (o.conj e.2) (entry o v e.1))) (entry o v c.1))) z

/-! ### The measurement matrix (R217, R221) -/

/-- binary32 one. -/
def one32 : Word := 0x3F800000

/-- A complex number with both signs changed. -/
def cneg (a : Word × Word) : Word × Word := (F32.neg a.1, F32.neg a.2)

/-- The coefficients of V_f and V_t in I_f and in I_t of an impedance branch (R217). -/
def branchCoefs (r : BranchRec) : ((Word × Word) × (Word × Word)) × ((Word × Word) × (Word × Word)) :=
  let y := F32.cdiv (one32, 0) (r.r, r.x)
  let yb := (y.1, F32.add y.2 (F32.mul r.b 0x3F000000))
  let k := Config.cosSinRad r.phi
  let tc := (F32.mul r.tap k.1, F32.mul r.tap k.2)
  let a2 := F32.mul r.tap r.tap
  (((F32.div yb.1 a2, F32.div yb.2 a2), cneg (F32.cdiv y (tc.1, F32.neg tc.2))), (cneg (F32.cdiv y tc), yb))

/-- h_i by node: a voltage, or the current into a branch at its f or t end (R221). -/
def hNodes (branches : List BranchRec) (m : MeasRec) : List (Nat × (Word × Word)) :=
  if m.kind = 0 then [(m.at_, (one32, 0))]
  else match branches[m.at_]? with
    | some r =>
      let c := if m.kind = 1 then (branchCoefs r).1 else (branchCoefs r).2
      [(r.nodeF, c.1), (r.nodeT, c.2)]
    | none => []

/-- h_i by bus; empty where a branch has both ends in one bus (R221). -/
def hBuses (branches : List BranchRec) (bus : List Nat) (m : MeasRec) : List (Nat × (Word × Word)) :=
  match (hNodes branches m).map (fun x => (bus.getD x.1 x.1, x.2)) with
  | [a, b] => if a.1 = b.1 then [] else [a, b]
  | l => l

/-- h x of a row and a vector. -/
def hDot {α : Type} (o : Arith α) (h : List (Nat × (α × α))) (x : List (Nat × (α × α))) : α × α :=
  h.foldl (fun t c => o.cadd t (o.cmul c.2 (entry o x c.1))) (o.zero, o.zero)

/-- The Hermitian transpose of a row. -/
def hConj {α : Type} (o : Arith α) (h : List (Nat × (α × α))) : List (Nat × (α × α)) := h.map (fun c => (c.1, o.conj c.2))

/-! ### Factorisation (R222) -/

/-- Elimination order: at each step the bus of least approximate degree, ties to the lower node number (R222, step 1). -/
def amdOrder (edges : List (Nat × Nat)) : Nat → List Nat → List Nat → List Nat
  | 0, _, _ => []
  | n + 1, done, rest =>
    match rest.foldl (fun (b : Option Nat) k => match b with
        | none => some k
        | some j => if Config.amdDegree edges done k < Config.amdDegree edges done j then some k else some j) none with
    | some k => k :: amdOrder edges n (done ++ [k]) (rest.filter (fun x => x != k))
    | none => []

/-- A row in binary64. -/
def h64 (h : List (Nat × (Word × Word))) : List (Nat × (Dy × Dy)) := h.map (fun c => (c.1, (F32.val c.2.1, F32.val c.2.2)))

/-- σ² in binary64. -/
def sigma64 (m : MeasRec) : Dy := F32.round64 (F32.dyMul (F32.val m.sigma) (F32.val m.sigma))

/-- One entry of G = H^H W H, the measurements in rising order. -/
def gainEntry (rows : List (Dy × List (Nat × (Dy × Dy)))) (j k : Nat) : Dy × Dy :=
  rows.foldl (fun t r =>
    match kvGet r.2 j, kvGet r.2 k with
    | some a, some b =>
      let p := arith64.cmul (arith64.conj a) b
      arith64.cadd t (arith64.mul r.1 p.1, arith64.mul r.1 p.2)
    | _, _ => t) (arith64.zero, arith64.zero)

/-- What a factorisation gives: the columns of L and D in binary32, the unobservable buses, and Ω (R222). -/
structure Factored where
  cols : List FacCol
  unobs : List Nat
  omega : List Word
  deriving DecidableEq, Repr

/-- The nonzeros of L below its diagonal. -/
def Factored.nnz (f : Factored) : Nat := (f.cols.map (fun c => c.low.length)).foldl (· + ·) 0

/-- A factorisation of one topology and one measurement set (R222): `bus` is the bus of each node, `used` the set without null measurements. -/
def factorise (branches : List BranchRec) (meas : List MeasRec) (bus : List Nat) (used : List Bool) : Factored :=
  let all := meas.map (fun m => h64 (hBuses branches bus m))
  let rows := ((meas.zip all).mapIdx (fun i x => (i, x))).filterMap (fun x =>
    if used.getD x.1 false then some (div64 (F32.dyInt 1) (sigma64 x.2.1), x.2.2) else none)
  let buses := bus.eraseDups
  let edges := (rows.map (fun r => (r.2.map (fun a => (r.2.filter (fun b => b.1 != a.1)).map (fun b => (a.1, b.1)))).flatten)).flatten.eraseDups
  let order := amdOrder edges buses.length [] buses
  let gain := order.map (fun j => (j, order.map (fun k => gainEntry rows j k)))
  let top := order.foldl (fun t j => let g := (gainEntry rows j j).1; if F32.dyLt t g then g else t) (F32.dyInt 0)
  let thr := div64 top (F32.dyInt 100000000)
  let cols := keepCols (fun z => z.1.m == 0 && z.2.m == 0) (ldl arith64 (fun _ d => !F32.dyLt d thr && 0 < d.m) order.length gain)
  let kept := cols.map (fun c => c.1)
  { cols := cols.map (fun c => { bus := c.1, d := F32.ofDy c.2.1, low := c.2.2.map (fun e => (e.1, (F32.ofDy e.2.1, F32.ofDy e.2.2))) })
    unobs := order.filter (fun k => !kept.contains k)
    omega := (meas.zip all).map (fun x =>
      let h := x.2.filter (fun c => kept.contains c.1)
      F32.ofDy (arith64.sub (sigma64 x.1) (hDot arith64 h (ldlSolve arith64 cols (hConj arith64 h))).1)) }

/-! ### Solves (R223) -/

/-- The columns of a stored factor. -/
def Factor.columns (f : Factor) : List (Col Word) := f.cols.map (fun c => (c.bus, c.d, c.low))

/-- h_i over the observable buses of a factor. -/
def Factor.row (f : Factor) (branches : List BranchRec) (bus : List Nat) (m : MeasRec) : List (Nat × (Word × Word)) :=
  (hBuses branches bus m).filter (fun c => !f.unobs.contains c.1)

/-- A matrix entry of a rank-k correction: W_A^−1 − H_A G^−1 H_A^H, from the rows and the solved columns. -/
def corrMatrix (rows : List (Nat × Word × List (Nat × (Word × Word)) × List (Nat × (Word × Word)))) : List (Nat × List (Word × Word)) :=
  rows.map (fun a => (a.1, rows.map (fun b =>
    let q := hDot arith32 a.2.2.1 b.2.2.2
    if a.1 = b.1 then (F32.sub a.2.1 q.1, F32.neg q.2) else cneg q)))

/-- The bus voltages of a row by a factor with a set of measurements removed by a rank-k correction; none where a pivot of the correction
is at most 10^−6 times its diagonal (R223). -/
def Factor.solve (f : Factor) (branches : List BranchRec) (meas : List MeasRec) (bus : List Nat) (absent : List Nat) (z : List (Word × Word)) :
    Option (List (Nat × (Word × Word))) :=
  let cols := f.columns
  let rhs := ((meas.zip z).mapIdx (fun i x => (i, x))).foldl (fun v x =>
    if f.usable.getD x.1 false && !absent.contains x.1 then
      let w := F32.div one32 (F32.mul x.2.1.sigma x.2.1.sigma)
      (f.row branches bus x.2.1).foldl (fun v c =>
        kvPut v c.1 (F32.cadd (entry arith32 v c.1) (F32.cscale w (arith32.cmul (arith32.conj c.2) x.2.2)))) v
    else v) []
  let x0 := ldlSolve arith32 cols rhs
  let gone := absent.filterMap (fun i => (meas[i]?).map (fun m =>
    let h := f.row branches bus m
    (i, F32.mul m.sigma m.sigma, h, ldlSolve arith32 cols (hConj arith32 h))))
  let c := corrMatrix gone
  let diag := c.mapIdx (fun n r => (r.1, (r.2.getD n (0, 0)).1))
  let ok := fun (k : Nat) (d : Word) => F32.lt (F32.mul (F32.ofRat 1 1000000) ((kvGet diag k).getD 0)) d
  let cc := ldl arith32 ok c.length c
  if cc.length < c.length then none
  else
    let t := ldlSolve arith32 cc (gone.map (fun a => (a.1, hDot arith32 a.2.2.1 x0)))
    some (gone.foldl (fun x a => a.2.2.2.foldl (fun x e => kvPut x e.1 (F32.cadd (entry arith32 x e.1) (arith32.cmul e.2 (entry arith32 t a.1)))) x) x0)

/-- The voltage of every node; 0 at the nodes of a bus that has none. -/
def nodeVolts (bus : List Nat) (x : List (Nat × (Word × Word))) : List (Word × Word) := bus.map (fun b => entry arith32 x b)

end Sys2Proof.Machine
end

