-- ==== Sys2Proof/Machine/Topology.lean ====
section
/-!
DEFINITION. Topology, state estimation and islands (09_topology_state_islands.md).
-/
namespace Sys2Proof.Machine

/-! ### Switching states (R218 to R220) -/

/-- The rate group of the model. -/
def State.topRg (s : State) : Nat := s.field Reg.TOP_CTRL 5 4

/-- Switching branches with their numbers. -/
def State.switches (s : State) : List (Nat × BranchRec) :=
  (s.top.branches.mapIdx (fun i b => (i, b))).filter (fun x => x.2.switching)

/-- A switching branch's state; before start-up, DEFAULT. -/
def State.sw (s : State) (b : Nat) : SwitchState := (kvGet s.top.sw b).getD {}

/-- The state that messages and the status slot resolve, without the override, and SUSPECT (Table 09-1). -/
def resolveMsg (r : BranchRec) (x : SwitchState) : Bool × Bool :=
  if !x.seen then (r.dflt, true)
  else if x.badSlot then (x.prev, true)
  else match x.dbpos with
    | 2 => (true, false)
    | 1 => (false, false)
    | 3 => (x.prev, true)
    | _ =>
      if x.interDone then ((match r.interRule with
        | 0 => false
        | 1 => true
        | _ => x.prev), true)
      else (x.prev, false)

/-- A switching branch resolved anew (Table 09-1). -/
def resolve (r : BranchRec) (x : SwitchState) : SwitchState :=
  let (c, su) := resolveMsg r x
  match x.override with
  | some v => { x with prev := c, closed := v, suspect := false }
  | none => { x with prev := c, closed := c, suspect := su }

/-- Cause of event 0x0903; Table 09-12 lists none for an intermediate state that has timed out, where `w` is a free value. -/
def suspectCause (w : Word) (x : SwitchState) : Nat := if !x.seen then 1 else if x.badSlot then 2 else if x.dbpos = 0 then w.toNat % 256 else 3

/-- Shows the branch that TOP_SW_INDEX selects. -/
def State.showSwitch (s : State) : State :=
  let i := s.field Reg.TOP_SW_INDEX 15 0
  match kvGet s.top.sw i with
  | some x => s.setReg Reg.TOP_SW_STATE (Word.ofNat (bit x.closed + 2 * bit x.suspect + 4 * x.dbpos
      + 16 * bit (x.interAt.isSome && !x.interDone) + 32 * bit x.override.isSome + 64 * bit (!x.seen)))
  | none => s.setReg Reg.TOP_SW_STATE 0

/-- Several branches take new conditions with one stamp: states, versions, events, and the coalescing window (R218, R220, R227). -/
def State.applySwitches (s : State) (stamp : Nat) (l : List (Nat × SwitchState)) : State :=
  let l := l.filterMap (fun x => (s.top.branches[x.1]?).map (fun r => (x.1, resolve r x.2)))
  let changed := l.filter (fun x => (s.sw x.1).closed != x.2.closed)
  let rising := l.filter (fun x => x.2.suspect && !(s.sw x.1).suspect)
  let same := s.top.changes.any (fun c => c.1 == stamp)
  let s := { s with top := { s.top with
      sw := l.foldl (fun m (x : Nat × SwitchState) => kvPut m x.1 x.2) s.top.sw
      changes := s.top.changes ++ changed.map (fun x => (stamp, x.1, x.2.closed)) } }
  let s := rising.foldl (fun (s : State) x =>
    ((s.bump Reg.TOP_CNT_SUSPECT).log 0x0903 1 (leBytes 2 x.1 ++ leBytes 1 (suspectCause s.freshWord x.2))).useFree 1) s
  let s :=
    if changed.isEmpty then s
    else
      let s := if same then s
        else
          let s := s.setReg Reg.TOP_TOPO_VER (s.reg Reg.TOP_TOPO_VER + 1)
          s.log 0x0901 1 (leBytes 4 (s.reg Reg.TOP_TOPO_VER).toNat ++ leBytes 2 changed.length ++ leBytes 2 0)
      if s.top.coalesceAt.isSome then s
      else
        let t := stamp + s.field Reg.TOP_COALESCE 6 0 * 1000000
        { s with top := { s.top with coalesceAt := some t } }
  s.showSwitch

/-- A message of the event path reaches the topology processor (R85, R218): elements as (channel, value A). -/
def State.topGoose (s : State) (stamp : Nat) (vals : List (Nat × Word)) : State :=
  if !s.flag Reg.TOP_CTRL 0 then s
  else
    let hit := s.switches.filterMap (fun b => (b.2.chan.bind (kvGet vals)).map (fun w => (b.1, bitsOf w 1 0)))
    if hit.isEmpty then s
    else s.applySwitches stamp (hit.map (fun h =>
      let x := s.sw h.1
      let again := x.seen && x.dbpos == 0
      (h.1, { x with
        seen := true, dbpos := h.2
        interAt := if h.2 = 0 then (if again then x.interAt else some stamp) else none
        interDone := h.2 == 0 && again && x.interDone })))

/-- The topology processor reads the status slots of a row (R218). -/
def State.topSlots (s : State) (g tag : Nat) : State :=
  if !s.flag Reg.TOP_CTRL 0 || s.topRg ≠ g then s
  else match s.furrow g tag with
    | some f =>
      let new := s.switches.filterMap (fun b => b.2.chan.bind (fun c =>
        let x := s.sw b.1
        let bad := !hasQ ((kvGet f.slots c).getD missingSlot).q Q.valid
        if bad = x.badSlot then none else some (b.1, { x with badSlot := bad })))
      if new.isEmpty then s else s.applySwitches tag new
    | none => s

/-- `INTERMEDIATE_TIMEOUT`: Dbpos 0b00 has lasted TOP_INTERMEDIATE ms (R218). -/
def execIntermediateTimeout (branch : Nat) (s : State) : Host.Outcome State Fault Refusal := answer <|
  let x := s.sw branch
  match x.interAt, s.top.branches[branch]? with
  | some t, some r =>
    let e := t + s.field Reg.TOP_INTERMEDIATE 15 0 * 1000000
    if s.flag Reg.TOP_CTRL 0 && r.switching && !x.interDone && e ≤ s.now then
      let s := (s.bump Reg.TOP_CNT_INTER_TIMEOUT).log 0x0904 2 (leBytes 2 branch ++ leBytes 1 r.interRule)
      s.applySwitches e [(branch, { x with interDone := true })]
    else s
  | _, _ => s

/-- `SW_OVERRIDE`: a write of TOP_SW_OVERRIDE (R219). -/
def execSwOverride (value : Word) (s : State) : Host.Outcome State Fault Refusal := answer <|
  let b := s.field Reg.TOP_SW_INDEX 15 0
  match s.top.branches[b]? with
  | some r =>
    if r.switching then
      let s := s.setReg Reg.TOP_SW_OVERRIDE (value &&& 3)
      s.applySwitches s.now [(b, { s.sw b with override := if value.getLsbD 0 then some (value.getLsbD 1) else none })]
    else s
  | none => s

/-! ### Buses and components -/

/-- Component labels of n nodes under edges: each node has the lowest node number of its component. -/
def components (n : Nat) (edges : List (Nat × Nat)) : List Nat :=
  edges.foldl (fun l e =>
    let a := l.getD e.1 0
    let b := l.getD e.2 0
    l.map (fun x => if x = max a b then min a b else x)) (List.range n)

/-- A switching branch is closed in a topology. -/
def closedIn (t : List (Nat × Bool)) (b : Nat) : Bool := (kvGet t b).getD false

/-- Electrical buses of a topology (R217). -/
def State.buses (s : State) (t : List (Nat × Bool)) : List Nat :=
  components s.top.nodes.length ((s.switches.filter (fun b => closedIn t b.1)).map (fun b => (b.2.nodeF, b.2.nodeT)))

/-- Connected components of a topology over all branches (R230). -/
def State.islands (s : State) (t : List (Nat × Bool)) : List Nat :=
  components s.top.nodes.length (((s.top.branches.mapIdx (fun i b => (i, b))).filter (fun b => !b.2.switching || closedIn t b.1)).map
    (fun b => (b.2.nodeF, b.2.nodeT)))

/-- The topology of a row: the states by every change stamped at or before its tag (R220); older changes enter the baseline. -/
def State.takeTopology (s : State) (tag : Nat) : State × List (Nat × Bool) :=
  let old := s.top.changes.filter (fun c => decide (c.1 ≤ tag))
  let base := old.foldl (fun m (c : Nat × Nat × Bool) => kvPut m c.2.1 c.2.2) s.top.baseline
  ({ s with top := { s.top with baseline := base, changes := s.top.changes.filter (fun c => decide (tag < c.1)) } }, base)

/-! ### Measurements (R217, R221) -/

/-- I_f of an impedance branch from its terminal voltages (R217). -/
def currentF (r : BranchRec) (vf vt : Word × Word) : Word × Word :=
  let c := (branchCoefs r).1
  F32.cadd (arith32.cmul c.1 vf) (arith32.cmul c.2 vt)

/-- h_i x of a measurement from the node voltages (R221). -/
def State.predict (s : State) (m : MeasRec) (v : List (Word × Word)) : Word × Word :=
  (hNodes s.top.branches m).foldl (fun t c => F32.cadd t (arith32.cmul c.2 (v.getD c.1 (0, 0)))) (0, 0)

/-- z_i of a measurement's slot (R221). -/
def measValue (m : MeasRec) (x : Slot) : Word × Word := (F32.mul m.k x.a, F32.mul m.k x.b)

/-- |a − b|² of complex values. -/
def errSq (a b : Word × Word) : Word := sq (F32.sub a.1 b.1, F32.sub a.2 b.2)

/-! ### Refactorisation (R222, R227 to R229) -/

/-- The factor that the present states and measurement set give (R222, R224). -/
def State.buildFactor (s : State) : Factor :=
  let states := s.switches.map (fun b => (b.1, (s.sw b.1).closed))
  let closed := s.top.branches.mapIdx (fun i _ => closedIn states i)
  let bus := s.buses states
  let null := s.top.meas.map (fun m => (hBuses s.top.branches bus m).isEmpty)
  let usable := s.top.want.mapIdx (fun i w => w && !null.getD i true)
  let x := factorise s.top.branches s.top.meas bus usable
  let crit := s.top.meas.mapIdx (fun i m =>
    null.getD i true || F32.le (x.omega.getD i 0) (F32.mul (F32.mul m.sigma m.sigma) (F32.ofRat 1 10000)))
  { ver := (s.reg Reg.TOP_TOPO_VER).toNat, closed := closed, inSet := s.top.want, usable := usable, nnz := x.nnz, unobs := x.unobs
    omega := x.omega, cols := x.cols, critical := crit }

/-- A refactorisation starts with a new handle (R227). -/
def State.startRefac (s : State) : State :=
  let gen := if 0xFFFF ≤ s.top.handleGen then 1 else s.top.handleGen + 1
  let f := s.buildFactor
  let t := s.elapsed
  let s := { s with top := { s.top with
      building := some (f, t), pending := false, coalesceAt := none, handleGen := gen
      waiters := s.top.waiters.map (fun (w : Nat × Bool) => (w.1, true)) } }
  (s.setReg Reg.TOP_REFAC_HANDLE (Word.ofNat (s.top.handleIdx + gen * 65536))).setFlag Reg.TOP_STATUS 1 true

/-- A cause of refactorisation: one starts, or is held while one runs (R227). -/
def State.wantRefac (s : State) : State :=
  if !s.flag Reg.TOP_CTRL 1 then s
  else if s.top.building.isSome then { s with top := { s.top with pending := true } } else s.startRefac

/-- `COALESCE_EXPIRE`: TOP_COALESCE ms after the first topology change (R227). -/
def execCoalesceExpire (s : State) : Host.Outcome State Fault Refusal := answer <|
  match s.top.coalesceAt with
  | some t => if t ≤ s.now then { s with top := { s.top with coalesceAt := none } }.wantRefac else s
  | none => s

/-- `REFAC_DONE`: the factor is in use from the next solve, or fails with NO_RESOURCE (R228, R229). -/
def execRefacDone (s : State) : Host.Outcome State Fault Refusal := answer <|
  match s.top.building with
  | some (f, t) =>
    let us := (s.elapsed - t) / 1000
    let fail := decide ((s.reg Reg.TOP_NNZ_MAX).toNat < f.nnz)
    let s := (s.setReg Reg.TOP_REFAC_TIME (satWord us)).setFlag Reg.TOP_STATUS 1 false
    let s := { s with top := { s.top with building := none } }
    let s :=
      if fail then (s.bump Reg.TOP_CNT_REFAC_FAIL).log 0x090C 3 (leBytes 4 f.nnz ++ leBytes 4 f.ver)
      else
        let s := { s with top := { s.top with factor := some f } }
        let s := (s.setReg Reg.TOP_FACTOR_VER (Word.ofNat f.ver)).setReg Reg.TOP_FACTOR_NNZ (Word.ofNat f.nnz)
        let s := (s.setReg Reg.TOP_FACTOR_UNOBS (Word.ofNat f.unobs.length)).setFlag Reg.TOP_STATUS 0 true
        let s := (s.bump Reg.TOP_CNT_REFAC).bumpBy Reg.TOP_CNT_UNTESTABLE (f.critical.filter id).length
        let s := s.log 0x0902 0 (leBytes 4 (satNat 32 us) ++ leBytes 4 f.nnz)
        if f.unobs.isEmpty then s else s.log 0x0909 2 (leBytes 4 f.unobs.length ++ leBytes 4 f.ver)
    let done := s.top.waiters.filter (fun w => w.2)
    let s := { s with top := { s.top with waiters := s.top.waiters.filter (fun w => !w.2) } }
    let s := done.foldl (fun (s : State) w => s.finishOp w.1 (if fail then 0x05 else 0x00) 0) s
    if s.top.pending then s.startRefac else s
  | none => s

/-! ### Rows (R220, R223 to R226, R235) -/

/-- Sections that hold an input channel of the estimator or the island engine. -/
def State.topSections (s : State) : List Nat :=
  ((s.top.meas.map (fun m => m.chan) ++ (s.top.cohs.map (fun c => [c.freq, c.phasor])).flatten).filterMap (fun c =>
    (kvGet s.aln.chans c).bind (fun r => if r.derived then none else some r.sec))).eraseDups

/-- `SE_ROW_START`: the estimator and the island engine begin a row (R220). -/
def execSeRowStart (idx : Nat) (s : State) : Host.Outcome State Fault Refusal := answer <|
  let g := s.topRg
  match (s.group g).bind (fun x => x.furrows.find? (fun f => f.idx == idx)) with
  | some f =>
    let fresh := match s.top.lastRow with
      | some n => decide (n < idx)
      | none => true
    if s.flag Reg.TOP_CTRL 0 && fresh && f.tag + 20000 ≤ s.now && s.topSections.all (fun i => f.isClosed i) then
      let (s, topo) := s.takeTopology f.tag
      let read := fun (c : Nat) => s.readSlot g f.tag c
      let row : TopRow := { idx := idx, tag := f.tag, start := s.elapsed, topo := topo, factor := s.top.factor
                            meas := s.top.meas.map (fun m => read m.chan)
                            cohs := s.top.cohs.map (fun c => (read c.freq, read c.phasor))
                            seDone := !s.flag Reg.TOP_CTRL 1, islDone := !s.flag Reg.TOP_CTRL 2 }
      { s with top := { s.top with rows := s.top.rows ++ [row], lastRow := some idx } }
    else s
  | none => s

/-- A row is finished with by one of its two users. -/
def State.finishTopRow (s : State) (idx : Nat) (se : Bool) : State :=
  let mark : TopRow → TopRow := fun r =>
    if r.idx = idx then (if se then { r with seDone := true } else { r with islDone := true }) else r
  let rows := (s.top.rows.map mark).filter (fun (r : TopRow) => !r.seDone || !r.islDone)
  { s with top := { s.top with rows := rows } }

/-- The rows before it in tag order have been finished by the same user. -/
def State.topNext (s : State) (se : Bool) : Option TopRow :=
  s.top.rows.find? (fun r => if se then !r.seDone else !r.islDone)

/-- The solve of the next row begun starts when the one before it is done, with the factor in use then (R226, R228). -/
def State.nextSolve (s : State) : State :=
  match s.topNext true with
  | some r =>
    let f := s.top.factor
    let swap : TopRow → TopRow := fun x => if x.idx = r.idx then { x with factor := f } else x
    { s with top := { s.top with rows := s.top.rows.map swap } }
  | none => s

/-- What a solve gives. -/
structure Solved where
  v : List (Word × Word)         -- voltages
  removed : List (Nat × Word)    -- removals in order, with r_N
  absent : List Nat              -- absent set at the end
  j : Word                       -- J
  best : Word                    -- largest r_N remaining
  deriving DecidableEq, Repr

/-- r_N of a measurement. -/
def State.residual (s : State) (f : Factor) (z v : List (Word × Word)) (i : Nat) (m : MeasRec) : Word :=
  F32.div (F32.sqrt (errSq (z.getD i (0, 0)) (s.predict m v))) (F32.sqrt (f.omega.getD i 0))

/-- A measurement of a factor's set that an absent set leaves; one whose branch lies in one bus is never used (R221). -/
def usedIn (f : Factor) (absent : List Nat) (i : Nat) : Bool := f.usable.getD i false && !absent.contains i

/-- The largest normalised residual over testable used measurements; ties keep the lower index. -/
def State.worstResidual (s : State) (f : Factor) (absent : List Nat) (z v : List (Word × Word)) : Word × Option Nat :=
  (s.top.meas.mapIdx (fun i m => (i, m))).foldl (fun (b : Word × Option Nat) x =>
    if usedIn f absent x.1 && !f.critical.getD x.1 true then
      let r := s.residual f z v x.1 x.2
      if F32.lt b.1 r then (r, some x.1) else b
    else b) (0, none)

/-- The buses of the topology a factor was built for. -/
def State.factorBuses (s : State) (f : Factor) : List Nat := s.buses (f.closed.mapIdx (fun i c => (i, c)))

/-- The voltages of every node by a factor with a set of measurements removed; none where the correction is singular (R223). -/
def State.seSolve (s : State) (f : Factor) (absent : List Nat) (z : List (Word × Word)) : Option (List (Word × Word)) :=
  let bus := s.factorBuses f
  (f.solve s.top.branches s.top.meas bus absent z).map (nodeVolts bus)

/-- The removal loop of R224, at most n more removals. -/
def State.removeBad (s : State) (f : Factor) (z : List (Word × Word)) : Nat → List Nat → List (Word × Word) → List (Nat × Word) →
    List (Word × Word) × List Nat × List (Nat × Word)
  | 0, ab, v, out => (v, ab, out)
  | n + 1, ab, v, out =>
    match s.worstResidual f ab z v with
    | (r, some i) =>
      if F32.le r (s.reg Reg.TOP_SE_LNR) then (v, ab, out)
      else match s.seSolve f (ab ++ [i]) z with
        | some v' => removeBad s f z n (ab ++ [i]) v' (out ++ [(i, r)])
        | none => (v, ab, out)
    | (_, none) => (v, ab, out)

/-- Solves a row: none where the correction for the absent set is singular (R223, R224). -/
def State.solveRow (s : State) (f : Factor) (absent : List Nat) (z : List (Word × Word)) : Option Solved :=
  match s.seSolve f absent z with
  | some v0 =>
    let (v, ab, out) := s.removeBad f z 4 absent v0 []
    let j := (s.top.meas.mapIdx (fun i m => (i, m))).foldl (fun t x =>
      if usedIn f ab x.1 then F32.add t (F32.div (errSq (z.getD x.1 (0, 0)) (s.predict x.2 v)) (F32.mul x.2.sigma x.2.sigma)) else t) (0 : Word)
    some { v := v, removed := out, absent := ab, j := j, best := (s.worstResidual f ab z v).1 }
  | none => none

/-- Persistent changes of the measurement set (R223). -/
def State.persist (s : State) (r : TopRow) (f : Factor) : State :=
  let ok := r.meas.map (fun x => hasQ x.q Q.valid)
  let ab := ok.mapIdx (fun i v => if f.inSet.getD i false && !v then s.top.absentRun.getD i 0 + 1 else 0)
  let pr := ok.mapIdx (fun i v => if !f.inSet.getD i false && v then s.top.presentRun.getD i 0 + 1 else 0)
  let lim := s.field Reg.TOP_SE_PERSIST 7 0
  let want := s.top.want.mapIdx (fun i w => if ab.getD i 0 = lim then false else if pr.getD i 0 = lim then true else w)
  let s1 := { s with top := { s.top with absentRun := ab, presentRun := pr, want := want } }
  if want = s.top.want then s1 else s1.wantRefac

/-- Writes the estimates and the status channels of a row (R225). -/
def State.writeEstimates (s : State) (r : TopRow) (vals : List (Nat × Slot)) : State :=
  let g := s.topRg
  let s := vals.foldl (fun (s : State) (v : Nat × Slot) => s.writeWithTq g r.tag v.1 v.2.a v.2.b v.2.q v.2.tq.toNat none) s
  { s with top := { s.top with lastOut := vals } }

/-- The channels of a row: node voltages, branch currents, and Table 09-2. -/
def State.estimates (s : State) (f : Option Factor) (o : Option Solved) (flags : Half) (tq word : Nat) : List (Nat × Slot) :=
  let topo := (f.map (fun f => f.closed.mapIdx (fun i c => (i, c)))).getD []
  let bus := s.buses topo
  let lost := fun (n : Nat) => o.isNone || ((f.map (fun f => f.unobs)).getD []).contains (bus.getD n n)
  let v := (o.map (fun o => o.v)).getD []
  let mk := fun (c : Nat) (gone : Bool) (x : Word × Word) =>
    (c, if gone then Slot.mk 0 0 (Q.estimated ||| Q.missing) 0 0xFFFF 0
      else Slot.mk x.1 x.2 (Q.estimated ||| Q.valid ||| flags) 0 0xFFFF (BitVec.ofNat 8 tq))
  let nodes := (s.top.nodes.mapIdx (fun i n => (i, n))).filterMap (fun n => n.2.vOut.map (fun c =>
    let x := v.getD n.1 (0, 0)
    mk c (lost n.1) (F32.mul x.1 n.2.vBase, F32.mul x.2 n.2.vBase)))
  let brs := (s.top.branches.filter (fun b => !b.switching)).filterMap (fun b => b.chan.map (fun c =>
    let i := currentF b (v.getD b.nodeF (0, 0)) (v.getD b.nodeT (0, 0))
    let vb := ((s.top.nodes[b.nodeF]?).map (fun n => n.vBase)).getD one32
    let base := F32.div (F32.mul s.top.sBase (F32.ofInt 1000000)) (F32.mul (F32.ofInt 3) vb)
    mk c (lost b.nodeF || lost b.nodeT) (F32.mul i.1 base, F32.mul i.2 base)))
  let st := fun (k : Nat) (a b : Word) => (s.top.seBase + k, Slot.mk a b (Q.estimated ||| Q.valid) 0 0xFFFF (BitVec.ofNat 8 tq))
  let rem := (o.map (fun o => o.removed)).getD []
  nodes ++ brs ++ [st 0 ((o.map (fun o => o.j)).getD 0) ((o.map (fun o => o.best)).getD 0), st 1 (Word.ofNat word) 0]
    ++ (List.range 4).map (fun n => match rem[n]? with
      | some x => st (2 + n) (Word.ofNat x.1) x.2
      | none => st (2 + n) 0xFFFFFFFF 0)

/-- Logs new removals, and forgets those whose measurement was used again (R224). -/
def State.logRemovals (s : State) (f : Factor) (o : Solved) : State :=
  let rem := o.removed.map (fun x => x.1)
  let s := s.bumpBy Reg.TOP_CNT_REMOVED rem.length
  let s := o.removed.foldl (fun (s : State) x =>
    if s.top.removedRun.contains x.1 then s else s.log 0x0905 1 (leBytes 4 x.1 ++ leBytes 4 x.2.toNat)) s
  { s with top := { s.top with removedRun := (s.top.removedRun.filter (fun i => !usedIn f o.absent i || rem.contains i)
      ++ rem.filter (fun i => !s.top.removedRun.contains i)) } }

/-- The estimator is halved at the present shedding level (R235). -/
def State.seHalved (s : State) : Bool := s.halved (s.field Reg.TOP_CTRL 9 8)

/-- Solves and writes one row (R223 to R225). -/
def State.solveAndWrite (s : State) (r : TopRow) : State :=
  let z := (s.top.meas.zip r.meas).map (fun x => measValue x.1 x.2)
  let ok := fun (i : Nat) => hasQ (r.meas.getD i missingSlot).q Q.valid
  let ids := List.range s.top.meas.length
  match r.factor with
  | some f =>
    let absent := ids.filter (fun i => f.usable.getD i false && !ok i)
    let k := absent.length
    let over_ := decide (s.field Reg.TOP_SE_KMAX 4 0 < k)
    let o := if over_ then none else s.solveRow f absent z
    let used := match o with
      | some o => ids.filter (usedIn f o.absent)
      | none => []
    let flags := used.foldl (fun q i => q ||| ((r.meas.getD i missingSlot).q &&& (Q.syncLost ||| Q.timeSuspect ||| Q.test))) 0
    let tq := used.foldl (fun m i => max m (r.meas.getD i missingSlot).tq.toNat) 0
    let mis := o.isSome && r.topo.any (fun x => f.closed.getD x.1 false != x.2)
    let word := ((o.map (fun o => o.removed.length)).getD 0) + 8 * bit mis + 16 * bit o.isNone + 32 * bit (!f.unobs.isEmpty)
      + 64 * bit (s.flag Reg.TOP_STATUS 1) + 256 * min k 255 + f.ver % 65536 * 65536
    let s1 := match o with
      | some o =>
        let s := (s.bump Reg.TOP_CNT_ROWS).logRemovals f o
        { s with top := { s.top with notEst := false } }
      | none =>
        let s1 := s.bump Reg.TOP_CNT_NOT_EST
        let s1 := if s.top.notEst then s1
          else s1.log 0x0906 2 (leBytes 1 (if over_ then 1 else 2) ++ leBytes 1 0 ++ leBytes 2 k ++ leBytes 4 (r.idx % 2 ^ 32))
        { s1 with top := { s1.top with notEst := true } }
    let s1 := if mis then (s1.setRowFlag s.topRg r.idx r.tag 0).bump Reg.TOP_CNT_MISMATCH else s1
    let s1 := if o.isSome then s1.setFlag Reg.TOP_STATUS 2 mis else s1
    ((s1.setFlag Reg.TOP_STATUS 3 o.isNone).writeEstimates r (s.estimates (some f) o flags tq word)).persist r f
  | none =>
    let word := 16 + 64 * bit (s.flag Reg.TOP_STATUS 1)
    ((s.bump Reg.TOP_CNT_NOT_EST).setFlag Reg.TOP_STATUS 3 true).writeEstimates r (s.estimates none none 0 0 word)

/-- `SE_SOLVE_DONE`: the estimates of the oldest row begun are written (R224, R225), or copied under shedding (R235). -/
def execSeSolveDone (idx : Nat) (s : State) : Host.Outcome State Fault Refusal := answer <|
  match s.topNext true with
  | some r =>
    if r.idx ≠ idx then s
    else
      let s :=
        if s.seHalved && idx % 2 == 1 then
          let s := (s.bump Reg.TOP_CNT_SHED).writeEstimates r (s.top.lastOut.map (fun v => (v.1, { v.2 with q := v.2.q ||| Q.held })))
          match r.factor with
          | some f => s.persist r f
          | none => s
        else s.solveAndWrite r
      ((s.finishTopRow idx true).nextSolve).oscDue
  | none => s

/-! ### Islands (R230, R231, R233) -/

/-- Nodes that a VALID voltage measurement energises. -/
def State.liveNodes (s : State) (r : TopRow) : List Nat :=
  (s.top.meas.zip r.meas).filterMap (fun x =>
    let z := measValue x.1 x.2
    let e := s.reg Reg.TOP_ENERG_PU
    if x.1.kind = 0 && hasQ x.2.q Q.valid && !F32.dyLt (F32.magSq z.1 z.2) (F32.dyMul (F32.val e) (F32.val e)) then some x.1.at_ else none)

/-- Distinct values of a list. -/
def distinct (l : List (Option Nat)) : List (Option Nat) := l.eraseDups

/-- Previous energised components whose nodes now lie apart, with the labels they now have (R231). -/
def splits (old now : List (Option Nat)) : List (Nat × List (Option Nat)) :=
  (old.filterMap id).eraseDups.filterMap (fun l =>
    let parts := distinct (((old.zip now).filter (fun x => x.1 == some l)).map (fun x => x.2))
    if 2 ≤ parts.length && parts.any (fun p => p.isSome) then some (l, parts) else none)

/-- Present components that hold nodes of two or more previous ones (R231). -/
def merges (old now : List (Option Nat)) : List Nat :=
  (now.filterMap id).eraseDups.filter (fun l =>
    2 ≤ ((((old.zip now).filter (fun x => x.2 == some l)).filterMap (fun x => x.1)).eraseDups).length)

/-! ### Coherency (R232) -/

/-- A usable coherency signal of a row: frequency, angle and island. -/
structure CohSig where
  f : Word
  th : Word
  island : Nat
  deriving DecidableEq, Repr

/-- |wrap(a − b)| of two angles in (−π, π]. -/
def wrapAbs (a b : Word) : Dy :=
  let d := fdist a b
  if F32.dyLe d (F32.val pi32) then d else F32.dyAbs (F32.dySub (F32.val twoPi32) d)

/-- wrap(a − b) as binary32. -/
def wrapSub (a b : Word) : Word :=
  let d := F32.sub a b
  if F32.lt pi32 d then F32.sub d twoPi32 else if F32.le d (F32.neg pi32) then F32.add d twoPi32 else d

/-- Two signals match with tolerance factor h / 16 (R232). -/
def State.cohMatch (s : State) (h : Nat) (a b : CohSig) : Bool :=
  a.island == b.island
    && F32.dyLe (F32.dyMul ⟨16, 0⟩ (fdist a.f b.f)) (F32.dyMul ⟨h, 0⟩ (F32.val (s.reg Reg.TOP_COH_FTOL)))
    && F32.dyLe (F32.dyMul ⟨16, 0⟩ (wrapAbs a.th b.th)) (F32.dyMul ⟨h, 0⟩ (F32.val (s.reg Reg.TOP_COH_ATOL)))

/-- Groups after steps 1 and 2 of R232. -/
def State.cohDissolve (s : State) (sig : Nat → Option CohSig) : List (Nat × CohGroup) :=
  let live := s.top.cohGroups.filter (fun g => (sig g.2.ref).isSome)
  live.foldl (fun (kept : List (Nat × CohGroup)) g =>
    let runs := kept.filterMap (fun l => match sig l.2.ref, sig g.2.ref with
      | some a, some b => if s.cohMatch 16 a b then some (l.1, ((kvGet g.2.mergeRows l.1).getD 0) + 1) else none
      | _, _ => none)
    if runs.any (fun x => decide (s.field Reg.TOP_COH_CTRL 15 8 ≤ x.2)) then kept else kept ++ [(g.1, { g.2 with mergeRows := runs })]) []

/-- Step 3 of R232 for one signal: its group, and the groups after it; `old` are the groups that have not dissolved. -/
def State.cohPlace (s : State) (sig : Nat → Option CohSig) (groups : List (Nat × CohGroup)) (old : List Nat) (i prev : Nat) : Nat × List (Nat × CohGroup) :=
  match sig i with
  | none => (0xFF, groups)
  | some a =>
    match groups.find? (fun g => g.2.ref == i) with
    | some g => (g.1, groups)
    | none =>
      let m := fun (h : Nat) (g : Nat × CohGroup) => match sig g.2.ref with
        | some b => s.cohMatch h a b
        | none => false
      let keep := match kvGet groups prev with
        | some g => old.contains prev && m (s.field Reg.TOP_COH_CTRL 5 0) (prev, g)
        | none => false
      if keep then (prev, groups)
      else match groups.find? (m 16) with
        | some g => (g.1, groups)
        | none => match (List.range 64).find? (fun n => (kvGet groups n).isNone) with
          | some n => (n, kvPut groups n (CohGroup.mk i []))
          | none => (0xFF, groups)

/-- The coherency groups of a row: the group of each signal, the groups, and the signals left without one (R232). -/
def State.coherency (s : State) (sig : Nat → Option CohSig) : List Nat × List (Nat × CohGroup) × List Nat :=
  let kept := s.cohDissolve sig
  let (of_, gs) := (List.range s.top.cohs.length).foldl (fun (x : List Nat × List (Nat × CohGroup)) i =>
    let (n, gs) := s.cohPlace sig x.2 (kept.map (fun g => g.1)) i (s.top.cohOf.getD i 0xFF)
    (x.1 ++ [n], gs)) ([], kept)
  (of_, gs, (List.range s.top.cohs.length).filter (fun i => (sig i).isSome && of_.getD i 0 == 0xFF))

/-- `ISLAND_ROW`: the island engine writes the islands and coherency groups of the oldest row begun (R230 to R233). -/
def execIslandRow (idx : Nat) (s : State) : Host.Outcome State Fault Refusal := answer <|
  match s.topNext false with
  | some r =>
    if r.idx ≠ idx then s
    else
      let g := s.topRg
      let lab := s.islands r.topo
      let live := ((s.liveNodes r).map (fun n => lab.getD n 0)).eraseDups
      let now := lab.map (fun l => if live.contains l then some l else none)
      let old := s.top.energised
      let sp := splits old now
      let mg := merges old now
      let count := live.length
      let sig := fun (i : Nat) => match s.top.cohs[i]?, r.cohs[i]? with
        | some c, some (f, p) =>
          if hasQ f.q Q.valid && hasQ p.q Q.valid && (now.getD c.node none).isSome then
            some (CohSig.mk f.a (F32.arg p.a p.b) (lab.getD c.node 0))
          else none
        | _, _ => none
      let (of_, gs, without) := s.coherency sig
      let s1 := match sp with
        | (l, parts) :: _ =>
          let new := (((old.zip lab).filter (fun (x : Option Nat × Nat) => x.1 == some l)).map (fun (x : Option Nat × Nat) => x.2)).filter (fun (x : Nat) => x != l)
          s.log 0x0907 3 (leBytes 2 count ++ leBytes 2 (new.foldl min (new.headD ((parts.filterMap id).headD 0))) ++ leBytes 4 (idx % 2 ^ 32))
        | [] => s
      let s1 := match mg with
        | l :: _ => s1.log 0x0908 2 (leBytes 2 count ++ leBytes 2 l ++ leBytes 4 (idx % 2 ^ 32))
        | [] => s1
      let s1 := if sp.isEmpty && mg.isEmpty then s1 else s1.bump Reg.TOP_CNT_ISL_CHANGE
      let s1 := s1.bumpBy Reg.TOP_CNT_COH_OVERFLOW without.length
      let s1 := match without with
        | i :: _ => if s.top.cohOver then s1 else s1.log 0x090A 1 (leBytes 2 i)
        | [] => s1
      let put := fun (s : State) (c : Nat) (a b : Word) (q : Half) => s.writeDerived g r.tag c a b (Q.derived ||| q) none
      let s1 := put s1 s.top.islSummary
        (Word.ofNat (count + gs.length * 2 ^ 16 + bit (!sp.isEmpty) * 2 ^ 24 + bit (!mg.isEmpty) * 2 ^ 25)) 0 Q.valid
      let s1 := (s.top.nodes.mapIdx (fun i n => (i, n))).foldl (fun (s1 : State) n => match n.2.islOut with
        | some c =>
          let l := lab.getD n.1 0
          let e := (now.getD n.1 none).isSome
          let ch := match s.top.labels[n.1]? with
            | some l0 => l0 != l || (old.getD n.1 none).isSome != e
            | none => false
          put s1 c (Word.ofNat (l + bit e * 2 ^ 16 + bit ch * 2 ^ 17)) 0 Q.valid
        | none => s1) s1
      let s1 := (s.top.cohs.mapIdx (fun i c => (i, c))).foldl (fun (s1 : State) c =>
        let n := of_.getD c.1 0xFF
        let ch := bit (n != s.top.cohOf.getD c.1 0xFF) * 256
        match sig c.1, (kvGet gs n).bind (fun y => sig y.ref) with
        | some a, some b => put s1 c.2.out (Word.ofNat (n + ch)) (wrapSub a.th b.th) Q.valid
        | _, _ => put s1 c.2.out (Word.ofNat (0xFF + ch)) 0 Q.missing) s1
      let s1 := { s1 with top := { s1.top with
          energised := now, labels := lab, cohGroups := gs, cohOf := of_, cohOver := !without.isEmpty } }
      ((s1.setField Reg.TOP_STATUS 31 16 count).finishTopRow idx false).oscDue
  | none => s

/-! ### Commits (R234, R236) -/

/-- The check of R234: (KMAX + 6) x t_s ≤ 0.5 / r with t_s = 5 µs + 0.8 ns x NNZ_MAX. -/
def solveCheck (kmax nnz r : Nat) : Bool := (kmax + 6) * (50000 + 8 * nnz) * r ≤ 5000000000

/-- A binary32 value lies between two quotients of 1,000. -/
def f32Between (w : Word) (lo hi : Nat) : Bool :=
  !F32.notFinite w && F32.dyLe ⟨(lo : Int), 0⟩ (F32.dyMul ⟨1000, 0⟩ (F32.val w)) && F32.dyLe (F32.dyMul ⟨1000, 0⟩ (F32.val w)) ⟨(hi : Int), 0⟩

/-- A value of a STAGED TOP register lies in its range (Table 09-10). -/
def topRange (a : Nat) (v : Word) : Bool :=
  if a = Reg.TOP_COALESCE then v.toNat ≤ 100
  else if a = Reg.TOP_INTERMEDIATE then 10 ≤ v.toNat && v.toNat ≤ 60000
  else if a = Reg.TOP_SE_KMAX then v.toNat ≤ 24
  else if a = Reg.TOP_SE_PERSIST then 1 ≤ v.toNat && v.toNat ≤ 255
  else if a = Reg.TOP_SE_LNR then f32Between v 2000 100000
  else if a = Reg.TOP_ENERG_PU then f32Between v 50 900
  else if a = Reg.TOP_COH_FTOL then f32Between v 1 1000
  else if a = Reg.TOP_COH_ATOL then f32Between v 10 3000
  else if a = Reg.TOP_COH_CTRL then 16 ≤ bitsOf v 5 0 && bitsOf v 5 0 ≤ 32 && 1 ≤ bitsOf v 15 8
  else true

/-- The STAGED TOP registers. -/
def topStaged : List Nat :=
  [Reg.TOP_COALESCE, Reg.TOP_INTERMEDIATE, Reg.TOP_SE_KMAX, Reg.TOP_SE_PERSIST, Reg.TOP_SE_LNR, Reg.TOP_ENERG_PU, Reg.TOP_COH_FTOL,
   Reg.TOP_COH_ATOL, Reg.TOP_COH_CTRL]

/-- The staged TOP settings commit at a row boundary of its group, or are refused whole (R236). -/
def State.commitTop (s : State) (g : Nat) : State :=
  if !s.flag Reg.TOP_COMMIT 0 || s.topRg ≠ g then s
  else
    let s := s.setFlag Reg.TOP_COMMIT 0 false
    let cause := if topStaged.any (fun a => !topRange a (s.staged a)) then 1
      else if solveCheck (bitsOf (s.staged Reg.TOP_SE_KMAX) 4 0) (s.reg Reg.TOP_NNZ_MAX).toNat (s.rate g) then 0 else 2
    if cause = 0 then topStaged.foldl (fun (s : State) a => s.commitReg a) s
    else ((s.setFlag Reg.TOP_COMMIT_STAT 0 true).setField Reg.TOP_COMMIT_STAT 10 8 cause).log 0x090B 1 (leBytes 1 cause)

/-- `TOP_COMMIT`: the staged settings commit at the next row boundary of TOP_CTRL.RG; a group that does not run has none (R236). -/
def execTopCommit (s : State) : Host.Outcome State Fault Refusal := answer <|
  let s := s.setFlag Reg.TOP_COMMIT 0 true
  if (s.group s.topRg).isSome then s else s.commitTop s.topRg

/-- `REFACTOR`: the command 0x0030 completes when a refactorisation started after it ends (R227). -/
def execRefactor (h : CmdHdr) (s : State) : Host.Outcome State Fault Refusal := answer <|
  if !s.flag Reg.TOP_CTRL 1 then s.completeShort h 0x0030 0x04 0
  else
    let full := decide (16 ≤ s.hif.ops.length)
    let s := s.startLong h 0x0030 .refactor true 0 []
    if full then s
    else
      let k := s.lastHandle
      { s with top := { s.top with waiters := s.top.waiters ++ [(k, false)] } }.wantRefac

end Sys2Proof.Machine
end

