-- ==== Sys2Proof/Machine/Frames.lean ====
section
/-!
DEFINITION. Sampled values, GOOSE messages and their session PDUs (R77 to R85), and local analog samples (R147, R164).
-/
namespace Sys2Proof.Machine

/-- A waveform channel has a new input sample: the Strainer, the meters, the recorders and the analysers follow it. -/
def State.sampleIn (s : State) (c : Nat) (w : WSample) (isGap : Bool) : State :=
  (((s.wavIn c w isGap).runMeters c).captureWave c).oscDue

/-- `AFE_SAMPLE`: a sample of a local analog input (R147, R148, R164, R165). -/
def execAfeSample (a : AfeSample) (s : State) : Host.Outcome State Fault Refusal :=
  answer (((s.afeIn a).runMeters (8192 + a.input)).captureWave (8192 + a.input)).oscDue

/-! ### confRev (R78, R84) -/

/-- A message whose confRev differs is discarded; event 0x0305 at the first after an accepted one. -/
def State.confRevFail (s : State) (i : Nat) (e : StreamEntry) (rev : Word) : State :=
  let s := s.bump Reg.DEC_CNT_CONFREV
  if e.revFailed then s
  else (s.modStream i (fun e => { e with revFailed := true })).log 0x0305 1 (leBytes 2 i ++ leBytes 4 rev.toNat)

/-- The low 16 bits of a confRev are those of the entry. -/
def revMatches (e : StreamEntry) (rev : Word) : Bool := rev.toNat % 65536 == e.cfg.frameSize % 65536

/-! ### Sampled values (R77 to R79) -/

/-- The instant of a sample: the second boundary that R78 chooses, plus smpCnt / rate. -/
def sampleTime (rate stamp smpCnt : Nat) : Nat :=
  let b := stamp / 1000000000
  let expected := stamp % 1000000000 * rate / 1000000000
  let b := if expected + rate / 2 < smpCnt then b - 1 else b
  b * 1000000000 + (2 * smpCnt * 1000000000 + rate) / (2 * max 1 rate)

/-- Flags of a sampled value, whether VALID is cleared, and its time-quality code (Table 03-5, R82).  DESIGN CHOICE (log entry 23): smpSynch 3, 4 and 255 and validity 10, which Table 03-5 does not list, set no flag, and those smpSynch values give code 0. -/
def State.svQuality (s : State) (q : Word) (sim : Bool) (synch : Nat) (auth : Bool) : Half × Bool × Nat :=
  let v := bitsOf q 1 0
  let test := q.getLsbD 11 || sim
  let f : Half := (if v = 1 || v = 3 then Q.alarm else 0) ||| (if q.getLsbD 2 || q.getLsbD 3 then Q.range else 0)
    ||| (if test then Q.test else 0) ||| (if synch = 0 then Q.syncLost else if synch = 1 then Q.timeSuspect else 0)
    ||| (if auth then Q.authFail else 0)
  (f, v == 1 || (test && !s.flag Reg.DEC_CTRL 8) || auth, if synch = 0 then 0xF else if synch = 1 then 0xB else 0)

/-- Samples missing between two counts (R79).  DESIGN CHOICE (log entry 24): a repeated smpCnt counts none. -/
def missingSamples (rate : Nat) (last : Option Nat) (cnt : Nat) : Nat :=
  match last with
  | some l => if l = cnt then 0 else (cnt + rate - l % max 1 rate - 1) % max 1 rate
  | none => 0

/-- The samples of one ASDU go to their waveform channels (R77, R78, R146). -/
def State.takeAsdu (s : State) (i : Nat) (e : StreamEntry) (f : SvFrame) (auth : Bool) (a : Asdu) : State :=
  let last := ((kvGet s.dec.streams i).map (fun e => e.smpCnt)).getD none
  let gap := missingSamples e.cfg.rate last a.smpCnt
  let s := (s.bumpBy Reg.DEC_CNT_SV_GAP gap).modStream i (fun e => { e with
    smpCnt := some a.smpCnt, cnts := listMod e.cnts 6 (fun w => satWord (w.toNat + gap)) })
  let t := sampleTime e.cfg.rate f.stamp a.smpCnt
  (s.streamMap e).foldl (fun (s : State) c =>
    match a.data[c.2.pos]? with
    | some d =>
      let (flags, clear, tq) := s.svQuality d.2 f.simulation a.smpSynch auth
      let (x, bad) := slotFor c.2 (some (F32.add (F32.mul (F32.ofInt d.1.toInt) c.2.scale) c.2.offset, 0)) flags clear 0 0 tq
      (s.bumpBy Reg.DEC_CNT_RANGE (bit bad)).sampleIn c.1 { t := t, v := x.a, q := x.q, tq := tq, stamp := f.stamp } (bitsOf d.2 1 0 == 1)
    | none => s) s

/-- A sampled-values frame of an entry, after any authentication (R77, R78).  DEDUCED (log entry 35): one whose seqData holds more than the 32 pairs of R77 is a structure mismatch too. -/
def State.takeSv (s : State) (i : Nat) (e : StreamEntry) (f : SvFrame) (auth : Bool) : State :=
  if f.asdus.length ≠ e.cfg.units || f.asdus.any (fun a => decide (32 < a.data.length)) then (s.bump Reg.DEC_CNT_STRUCT).bumpStream i 2
  else
    match f.asdus.find? (fun a => !revMatches e a.confRev) with
    | some a => s.confRevFail i e a.confRev
    | none =>
      let s := (s.bump Reg.DEC_CNT_FRAMES).bumpStream i 0
      let s := s.modStream i (fun e => { e with lastStamp := f.stamp, revFailed := false })
      f.asdus.foldl (fun (s : State) a => s.takeAsdu i e f auth a) s

/-- `SV_FRAME`: an IEC 61850-9-2 or 61869-9 frame (R77). -/
def execSvFrame (f : SvFrame) (s : State) : Host.Outcome State Fault Refusal := answer <|
  let s := s.takeDec f.port f.stamp
  match s.entryOf (.sv f.appid f.svIdLen f.svIdCrc f.dmac) (fun t => t == .sv92 || t == .sv61869) with
  | none => s.bump Reg.DEC_CNT_UNKNOWN
  | some (i, e) =>
    if e.state = .disabled then s
    else if e.state ≠ .valid then (s.bump Reg.DEC_CNT_INVALID).bumpStream i 7
    else s.takeSv i e f false

/-! ### GOOSE (R84, R85) -/

/-- Logs the expiry of a stream's TimeAllowedtoLive, once (R85). -/
def State.gooseExpire (s : State) (i t : Nat) : State :=
  match kvGet s.dec.streams i with
  | some e =>
    match e.goose with
    | some x =>
      if x.expired t && !e.talLogged then
        (s.modStream i (fun e => { e with talLogged := true })).log 0x0309 2 (leBytes 2 i ++ leBytes 4 x.stNum.toNat)
      else s
    | none => s
  | none => s

/-- The value of an element: analog for FLOAT32, INTEGER and UNSIGNED, else a digital word (R84). -/
def elemVal (m : MapEntry) (ty : GooseType) (w : Word) : RawVal :=
  let num := fun (x : Word) => some (F32.add (F32.mul x m.scale) m.offset, (0 : Word))
  match ty with
  | .float32 => if F32.isNaN w then none else num w
  | .integer => num (F32.ofInt w.toInt)
  | .unsigned => num (F32.ofInt (w.toNat : Int))
  | .boolean | .bitString => some (w, 0)

/-- The slot of an element as it stands at an instant, and whether its result was not finite (R70, R85). -/
def State.elemSlot (s : State) (i : Nat) (e : StreamEntry) (t : Nat) (m : MapEntry) : Slot × Bool :=
  let x := match e.goose with
    | some x => if x.stamp ≤ t then some x else match e.goosePrev with
      | some y => if y.stamp ≤ t then some y else none
      | none => none
    | none => none
  let ty := e.cfg.elems.getD m.pos .bitString
  let m' := { m with kind := if ty == .boolean || ty == .bitString then .digital else .analog }
  match x with
  | none => ({ missingSlot with src := BitVec.ofNat 16 i }, false)
  | some x =>
    let tq := if x.timeBad then 0xF else 0
    let base : Half := (if x.test then Q.test else 0) ||| (if x.ndsCom then Q.alarm else 0) ||| (if x.auth then Q.authFail else 0)
    let gone := x.expired t
    let flags := if gone then base ||| Q.held ||| Q.alarm else base
    let clear := (x.test && !s.flag Reg.DEC_CTRL 8) || x.ndsCom || x.auth || gone
    slotFor m' ((x.vals[m.pos]?).bind (elemVal m ty)) flags clear 0 (BitVec.ofNat 16 i) tq

/-- At a row tag of its group each VALID subscription writes its state (R85). -/
def State.gooseTag (s : State) (g : Nat) (p : Nat × Nat) : State :=
  let tag := gridTag (s.rate g) p.1 p.2
  (s.dec.streams.filter (fun e => e.2.cfg.rg == g && e.2.state == .valid && (e.2.cfg.typ == .goose || e.2.cfg.typ == .rgoose))).foldl
    (fun (s : State) (x : Nat × StreamEntry) =>
      let s := s.gooseExpire x.1 tag
      let l := (s.streamMap x.2).map (fun c => (c.1, s.elemSlot x.1 x.2 tag c.2))
      let s := s.bumpBy Reg.DEC_CNT_RANGE (l.filter (fun c => c.2.2)).length
      s.deliver g x.1 tag p (l.map (fun c => (c.1, c.2.1)))) s

/-- A GOOSE message of an entry, after any authentication (R84, R85). -/
def State.takeGoose (s : State) (i : Nat) (e : StreamEntry) (f : GooseFrame) (auth : Bool) : State :=
  if !revMatches e f.confRev then s.confRevFail i e f.confRev
  else if f.elems.map (fun x => x.1) ≠ e.cfg.elems then (s.bump Reg.DEC_CNT_STRUCT).bumpStream i 2
  else
    let s := s.gooseExpire i f.stamp
    let s := if ((kvGet s.dec.streams i).map (fun e => e.talLogged)).getD false then s.log 0x030A 0 (leBytes 2 i ++ leBytes 4 f.stNum.toNat) else s
    let x : GooseLast :=
      { stamp := f.stamp, tal := f.tal.toNat, stNum := f.stNum, test := f.test || f.simulation, ndsCom := f.ndsCom, timeBad := f.timeBad
        vals := f.elems.map (fun v => v.2), auth := auth }
    let isNew := match e.goose with
      | some y => y.stNum != f.stNum
      | none => true
    let s := (s.bump Reg.DEC_CNT_FRAMES).bumpStream i 0
    let s := s.modStream i (fun e => { e with
      stNum := f.stNum, sqNum := f.sqNum, tal := f.tal, lastStamp := f.stamp, revFailed := false, talLogged := false
      goosePrev := e.goose, goose := some x })
    if isNew then
      let e' := { e with goosePrev := e.goose, goose := some x }
      let vals := (s.streamMap e').map (fun c => (c.1, (s.elemSlot i e' f.stamp c.2).1.a))
      ((s.topGoose f.stamp vals).triggerGraphs (.event i) f.stamp none none).updateDests
    else s.updateDests

/-- `GOOSE_FRAME`: a GOOSE message (R84). -/
def execGooseFrame (f : GooseFrame) (s : State) : Host.Outcome State Fault Refusal := answer <|
  let s := s.takeDec f.port f.stamp
  match s.entryOf (.goose f.appid f.refLen f.refCrc f.dmac) (· == .goose) with
  | none => s.bump Reg.DEC_CNT_UNKNOWN
  | some (i, e) =>
    if e.state = .disabled then s
    else if e.state ≠ .valid then (s.bump Reg.DEC_CNT_INVALID).bumpStream i 7
    else s.takeGoose i e f false

/-! ### Session PDUs (R80 to R82) -/

/-- Decodes the payload of a PDU. -/
def State.takePayload (s : State) (i : Nat) (e : StreamEntry) (p : SessionPayload) (auth : Bool) : State :=
  match p with
  | .sv f => s.takeSv i e f auth
  | .goose f => s.takeGoose i e f auth
  | .tunnelled _ _ => s

/-- AUTH_POLICY decides about a PDU that is not authentic (R82). -/
def State.authPolicy (s : State) (i : Nat) (e : StreamEntry) (p : SessionPayload) : State :=
  if e.cfg.authMark then s.takePayload i e p true else s

/-- An authentication failure (R82). -/
def State.authFail (s : State) (i : Nat) (e : StreamEntry) (p : SessionPdu) : State :=
  let s := (s.bump Reg.DEC_CNT_AUTH_FAIL).bumpStream i 3
  let s := if e.authFailed then s
    else (s.modStream i (fun e => { e with authFailed := true })).log 0x0306 2 (leBytes 2 i ++ leBytes 4 p.keyId.toNat)
  s.authPolicy i e p.payload

/-- The replay check, and acceptance of an authentic PDU (R81).  DESIGN CHOICE (log entry 25): before the first accepted PDU of a stream every SPDU number passes. -/
def State.acceptPdu (s : State) (i : Nat) (e : StreamEntry) (p : SessionPdu) (useNext : Bool) : State :=
  let ahead := (p.spdu - e.lastSpdu).toNat
  if e.anySpdu && (ahead = 0 || 2 ^ 31 ≤ ahead) then (s.bump Reg.DEC_CNT_REPLAY).bumpStream i 4
  else
    let s := s.modStream i (fun e => { e with
      lastSpdu := p.spdu, anySpdu := true, authFailed := false, keyStale := false
      cfg := if useNext then
          { e.cfg with curSlot := e.cfg.nextSlot, curKeyId := e.cfg.nextKeyId, nextSlot := 0xFFFF, nextKeyId := 0 }
        else e.cfg })
    let s := if useNext then s.log 0x0307 0 (leBytes 2 i ++ leBytes 4 p.keyId.toNat) else s
    s.takePayload i e p.payload false

/-- The checks of R81 in order; without a current slot only algorithm 0 is accepted (R83).  DESIGN CHOICE (log entry 26): an unsigned PDU for an entry that holds a current slot is an authentication failure, so that MARK can still write it. -/
def State.checkPdu (s : State) (i : Nat) (e : StreamEntry) (p : SessionPdu) : State :=
  if p.sigAlg = 0 then
    if e.cfg.curSlot = 0xFFFF then s.acceptPdu i e p false else s.authFail i e p
  else if e.cfg.curSlot = 0xFFFF then s.authFail i e p
  else
    let cur := p.keyId == e.cfg.curKeyId
    let next := e.cfg.nextSlot != 0xFFFF && p.keyId == e.cfg.nextKeyId
    if !cur && !next then s.authFail i e p
    else
      let slot := if cur then e.cfg.curSlot else e.cfg.nextSlot
      match s.caddyUse .decAuth slot.toNat .macVerify with
      | (s, .ok key) =>
        if leNat (Config.mac p.sigAlg key p.signed) = p.tag then s.acceptPdu i e p (!cur) else s.authFail i e p
      | (s, .error .keyStale) =>
        let s := (s.bump Reg.DEC_CNT_KEY_STALE).bumpStream i 3
        let s := if e.keyStale then s
          else (s.modStream i (fun e => { e with keyStale := true })).log 0x0308 2 (leBytes 2 i ++ leBytes 2 slot.toNat)
        s.authPolicy i e p.payload
      | (s, .error _) => s.authFail i e p

/-- The PDU is tunnelled. -/
def isTunnel : SessionPayload → Bool
  | .tunnelled _ _ => true
  | _ => false

/-- `SESSION_PDU`: a session PDU over UDP port 102 (R80, R81).  DESIGN CHOICE (log entry 27): an unsupported PDU is counted before its stream is looked up, also where the entry is DISABLED or unknown. -/
def execSessionPdu (p : SessionPdu) (s : State) : Host.Outcome State Fault Refusal := answer <|
  let s := match p.payload with
    | .sv f => s.takeDec f.port f.stamp
    | .goose f => s.takeDec f.port f.stamp
    | .tunnelled port stamp => s.takeDec port stamp
  let hit : Option (Nat × StreamEntry) := match p.payload with
    | .sv f => s.entryOf (.sv f.appid f.svIdLen f.svIdCrc f.dmac) (fun ty => ty == StreamType.rsv)
    | .goose f => s.entryOf (.goose f.appid f.refLen f.refCrc f.dmac) (fun ty => ty == StreamType.rgoose)
    | .tunnelled _ _ => none
  if isTunnel p.payload || p.encAlg ≠ 0 || !([0, 1, 2, 4, 5].contains p.sigAlg) then s.bump Reg.DEC_CNT_UNSUPPORTED
  else
    match hit with
    | none => s.bump Reg.DEC_CNT_UNKNOWN
    | some (i, e) =>
      if e.state = .disabled then s
      else if e.state ≠ .valid then (s.bump Reg.DEC_CNT_INVALID).bumpStream i 7
      else s.checkPdu i e p

end Sys2Proof.Machine
end

