-- ==== Sys2Proof/Machine/Cyclic.lean ====
section
/-!
DEFINITION. Cyclic control (11_cyclic_control.md): cycles, input and output images, peers, exchange and commits.
-/
namespace Sys2Proof.Machine

/-! ### Tasks -/

/-- A task. -/
def State.task (s : State) (t : Nat) : TaskState := s.cyc.tasks.getD t {}

/-- Changes a task. -/
def State.modTask (s : State) (t : Nat) (f : TaskState → TaskState) : State :=
  { s with cyc := { s.cyc with tasks := listMod s.cyc.tasks t f } }

/-- A task is enabled. -/
def State.taskOn (s : State) (t : Nat) : Bool := s.flag Reg.CYC_CTRL 0 && s.flag Reg.CYC_CTRL (4 + t) && s.cyc.run.isSome

/-- Period of a task in ns. -/
def State.period (s : State) (t : Nat) : Nat := (s.reg (Reg.CYC_T_PERIOD t)).toNat * 1000

/-- BUDGET of a task in ns. -/
def State.budget (s : State) (t : Nat) : Nat := (s.reg (Reg.CYC_T_BUDGET t)).toNat * 1000

/-- Outputs are suppressed: the device is Fallow (R275). -/
def State.suppressed (s : State) : Bool := s.role == 4

/-- Shows CYC_STATUS (Table 11-14). -/
def State.showCyc (s : State) : State :=
  let run := (List.range 4).foldl (fun n t => n + bit (s.taskOn t && !(s.task t).stopped) * 2 ^ t) 0
  let stop := (List.range 4).foldl (fun n t => n + bit (s.task t).stopped * 2 ^ t) 0
  let s := (s.setField Reg.CYC_STATUS 3 0 run).setFlag Reg.CYC_STATUS 5 s.cyc.standby.isSome
  let s := (s.setFlag Reg.CYC_STATUS 6 s.cyc.exch.isSome).setField Reg.CYC_STATUS 11 8 stop
  let s := s.setFlag Reg.CYC_STATUS 7 ((List.range 4).all (fun t => (s.task t).offset == 0))
  s.setFlag Reg.CYC_STATUS 12 s.suppressed

/-- The 32 bytes of an input image entry (Table 11-4). -/
def InEntry.bytes (e : InEntry) : List Byte := slotBytes e.val ++ leBytes 8 e.time ++ leBytes 4 e.aux.toNat ++ leBytes 4 e.flags.toNat

/-- The 16 bytes of an output image entry (Table 11-6). -/
def OutEntry.bytes (e : OutEntry) : List Byte :=
  leBytes 4 e.a.toNat ++ leBytes 4 e.b.toNat ++ leBytes 2 e.q.toNat ++ leBytes 2 e.status.toNat ++ leBytes 4 e.cycle.toNat

/-- Shows the image entry that CYC_IMG_SEL selects. -/
def State.showImage (s : State) : State :=
  let i := s.field Reg.CYC_IMG_SEL 13 0
  let b := if s.flag Reg.CYC_IMG_SEL 16 then ((s.cyc.outputs[i]?).map OutEntry.bytes).getD [] else ((s.cyc.inputs[i]?).map InEntry.bytes).getD []
  (List.range 8).foldl (fun (s : State) k => s.setReg (Reg.CYC_IMG_ENTRY k) (Word.ofNat (natAt b (4 * k) 4))) s

/-- Shows the instance parameter that CYC_PARAM_INST and CYC_PARAM_OFF select. -/
def State.showParam (s : State) : State :=
  let v := match s.cyc.run with
    | some a => ((a.params.getD (s.field Reg.CYC_PARAM_INST 12 0) []).getD (s.field Reg.CYC_PARAM_OFF 15 0 / 4) 0)
    | none => 0
  s.setReg Reg.CYC_PARAM_VAL v

/-! ### The freeze (R269, R270) -/

/-- An input whose source has produced nothing. -/
def noInput : InEntry := { val := missingSlot }

/-- A CHANNEL input: the newest row whose section was released, or whose derived channel was written. -/
def State.channelInput (s : State) (c : Nat) : InEntry :=
  match kvGet s.aln.chans c with
  | none => noInput
  | some r =>
    let seen := fun (f : Furrow) => if r.derived then (kvGet f.slots c).isSome else f.isClosed r.sec
    match (((s.group r.rg).map (fun x => x.furrows)).getD []).reverse.find? seen with
    | some f => { val := (kvGet f.slots c).getD missingSlot, time := f.tag, aux := f.rev.setWidth 32 }
    | none =>
      match s.cyc.latest.find? (fun x => x.1 == c) with
      | some x => { val := x.2.2.1, time := x.2.1, aux := x.2.2.2.setWidth 32 }
      | none => noInput

/-- A value of A alone, VALID. -/
def plainSlot (a : Word) (q : Half) : Slot := { a := a, b := 0, q := q, off := 0, src := 0, tq := 0 }

/-- An input entry as of instant `at_` (Table 11-3). -/
def State.freezeInput (s : State) (t at_ e : Nat) (k : InputKind) : InEntry :=
  match k with
  | .channel c => s.channelInput c
  | .detector a =>
    match s.cyc.dets.find? (fun d => d.alarm == a) with
    | some d =>
      { val := plainSlot (boolWord d.active) Q.valid, time := d.gts, aux := satWord (d.changes.getD t 0)
        flags := Word.ofNat (bit (d.rose.getD t false) + 2 * bit (d.fell.getD t false)) }
    | none => noInput
  | .goose i el =>
    match kvGet s.dec.streams i with
    | some x =>
      match x.goose with
      | some m =>
        let map := (((s.streamMap x).map (fun c => c.2)).find? (fun c => c.pos == el)).getD
          { block := 0, pos := el, kind := .digital, scale := 0x3F800000#32, offset := 0, rotCos := 0, rotSin := 0
            min := 0, max := 0, polar := false, float := true }
        { val := (s.elemSlot i x at_ map).1, time := m.stamp, aux := m.stNum
          flags := Word.ofNat (4 * bit ((kvGet s.cyc.gooseSeen e) != some m.stNum)) }
      | none => noInput
    | none => noInput
  | .peer w o age =>
    match s.cyc.peers.find? (fun p => p.writer == w && p.output == o) with
    | some p =>
      let us := (at_ - p.gts) / 1000
      { val := { a := p.a, b := p.b, q := p.q, off := 0, src := 0, tq := 0 }, time := p.gts, aux := satWord us
        flags := Word.ofNat (8 * bit (s.routeUp w) + 16 * bit (decide (age < us))) }
    | none => { noInput with flags := Word.ofNat (8 * bit (s.routeUp w)) }
  | .outStatus o =>
    { val := plainSlot 0 0, time := (s.task t).prevW, aux := ((s.cyc.outputs[o]?).map (fun x => x.status.setWidth 32)).getD 0 }
  | .dest d =>
    match s.cyc.dests[d]? with
    | some x => { val := plainSlot 0 0, time := x.since, aux := satWord x.losses, flags := Word.ofNat (8 * bit x.live) }
    | none => noInput
  | .system =>
    let q : Half := Q.valid ||| (if s.syncState < 2 then Q.syncLost else if s.syncState = 3 then Q.timeSuspect else 0)
    { val := plainSlot (Word.ofNat (s.task t).cycles) q, time := at_, aux := Word.ofNat (s.syncState + 16 * bit (s.role == 2)) }

/-- Builds a task's input image as of its start, and begins the next interval of its detectors and messages. -/
def State.freeze (s : State) (t at_ : Nat) : State :=
  match s.program with
  | some p =>
    let es := (p.inputs.mapIdx (fun i r => (i, r))).filter (fun x => x.2.task == t)
    let vals := es.map (fun x => (x.1, s.freezeInput t at_ x.1 x.2.kind))
    let seen := es.filterMap (fun x => match x.2.kind with
      | .goose i _ => ((kvGet s.dec.streams i).bind (fun e => e.goose)).map (fun m => (x.1, m.stNum))
      | _ => none)
    let own := es.filterMap (fun x => match x.2.kind with
      | .detector a => some a
      | _ => none)
    { s with cyc := { s.cyc with
      inputs := vals.foldl (fun (l : List InEntry) (v : Nat × InEntry) => l.set v.1 v.2) s.cyc.inputs
      gooseSeen := seen.foldl (fun (l : List (Nat × Word)) (v : Nat × Word) => kvPut l v.1 v.2) s.cyc.gooseSeen
      dets := s.cyc.dets.map (fun (d : DetState) =>
        if own.contains d.alarm then { d with changes := d.changes.set t 0, rose := d.rose.set t false, fell := d.fell.set t false } else d) } }.showImage
  | none => s

/-- A row retires: the newest slots of the channels that are inputs are kept for later freezes. -/
def State.keepLatest (s : State) (f : Furrow) (g : Nat) : State :=
  let wanted := ((s.program.map (fun p => p.inputs)).getD []).filterMap (fun r => match r.kind with
    | .channel c => some c
    | _ => none)
  let here := wanted.eraseDups.filterMap (fun c => match kvGet s.aln.chans c, kvGet f.slots c with
    | some r, some x => if r.rg = g && !(r.derived && x == missingSlot) then some (c, f.tag, x, f.rev) else none
    | _, _ => none)
  { s with cyc := { s.cyc with latest := here ++ s.cyc.latest.filter (fun x => !here.any (fun y => y.1 == x.1)) } }

/-! ### Commits at a task's cycle start (R282, R283) -/

/-- BUDGET lies in its range and holds the WCET (R262). -/
def budgetOk (period budget wcet : Nat) : Bool := decide (20 ≤ budget) && decide (budget + 10 ≤ period) && decide (wcet ≤ budget)

/-- A staged parameter lies within the parameters of its instance. -/
def paramOk (a : ProgArea) (inst off : Nat) : Bool := decide (off / 4 < (a.params.getD inst []).length) && off % 4 == 0

/-- The commit of a task, or its refusal with event 0x0B09. -/
def State.commitTask (s : State) (t : Nat) : State :=
  if !s.flag Reg.CYC_COMMIT t then s
  else
    let s := s.setFlag Reg.CYC_COMMIT t false
    match s.cyc.run with
    | some a =>
      let mine := s.cyc.parStage.filter (fun x => x.1 == t)
      let b := (s.staged (Reg.CYC_T_BUDGET t)).toNat
      let cause := if !budgetOk (s.reg (Reg.CYC_T_PERIOD t)).toNat b (s.reg (Reg.CYC_T_WCET t)).toNat then 1
        else if mine.any (fun x => !paramOk a x.2.1 x.2.2.1) then 2 else 0
      if cause ≠ 0 then
        let s := (s.setFlag Reg.CYC_COMMIT_STAT t true).setField Reg.CYC_COMMIT_STAT 10 8 cause
        s.log 0x0B09 1 (leBytes 1 t ++ leBytes 1 cause)
      else
        let s := s.commitReg (Reg.CYC_T_BUDGET t)
        let params := mine.foldl (fun (l : List (List Word)) x => listMod l x.2.1 (fun ps => ps.set (x.2.2.1 / 4) x.2.2.2)) a.params
        ({ s with cyc := { s.cyc with
          run := some { a with params := params }, parStage := s.cyc.parStage.filter (fun x => x.1 != t) } }).showParam
    | none => s

/-- CYC_COMMIT: each named task commits at its next cycle start (R282). -/
def execCycCommit (mask : Word) (s : State) : Host.Outcome State Fault Refusal := answer <|
  (List.range 4).foldl (fun (s : State) t => if mask.getLsbD t then s.setFlag Reg.CYC_COMMIT t true else s) s

/-! ### Cycle start (R261 to R265) -/

/-- O_t moves toward 0 by at most 1 / 100 of the period, and the next start with it (R265). -/
def State.align (s : State) (t : Nat) : State :=
  let x := s.task t
  let p := s.period t
  let m : Int := (min x.offset.natAbs (p / 100) : Nat)
  let o := if x.offset < 0 then x.offset + m else x.offset - m
  let s := s.modTask t (fun y => { y with offset := o, nextStart := ((x.nextStart : Int) + p + (o - x.offset)).toNat })
  (s.setReg (Reg.CYC_T_OFFSET t) (satS32 o)).showCyc

/-- CYCLE_START (R262 to R265): the start is skipped where the logic still runs; else staged fields commit and the input image is frozen. -/
def execCycleStart (task : Nat) (s : State) : Host.Outcome State Fault Refusal := answer <|
  let x := s.task task
  if !s.taskOn task || x.stopped || s.now < x.nextStart || x.waitingW then s
  else if x.running then
    let s := (s.align task).modTask task (fun y => { y with skips := y.skips + 1 })
    (s.bump (Reg.CYC_T_CNT_SKIP task)).log 0x0B02 2 (leBytes 1 task ++ leBytes 1 0 ++ leBytes 2 (x.skips + 1) ++ leBytes 4 (x.cycles % 2 ^ 32))
  else
    let at_ := x.nextStart
    let s := if s.cyc.progStart = 0 then { s with cyc := { s.cyc with progStart := at_ } } else s
    let s := s.commitTask task
    let s := (s.updateDests).modTask task (fun y => { y with start := at_, prevStart := y.start })
    let s := s.freeze task at_
    let w := at_ + s.budget task
    let now := s.now
    let el := s.elapsed
    let dt := s.period task / 1000 * (1 + x.skips)
    let s := s.modTask task (fun y => { y with
      running := true, late := false, skips := 0, dt := dt, began := el, wAt := el - (now - at_) + s.budget task, prevW := w, written := [] })
    s.align task

/-! ### The write point (R271 to R277) -/

/-- Elements of a publication as the output image holds them. -/
def State.cycElems (s : State) (p : Nat) (n : Nat) : List (Word × Half) :=
  let l := ((s.program.map (fun q => q.outputs)).getD []).mapIdx (fun i r => (i, r.kind))
  (List.range n).map (fun k =>
    match l.find? (fun x => match x.2 with
      | .pub p' e _ => p' == p && e == k
      | _ => false) with
    | some x => ((s.cyc.outputs[x.1]?).map (fun o => (o.a, o.q))).getD (0, 0)
    | none => (0, 0))

/-- The publication of a number in the running program. -/
def State.cycPub (s : State) (p : Nat) : Option PubState := s.pub false p

/-- Held values of a task that are still unsent at its W are dropped (R277). -/
def State.dropHeld (s : State) (t : Nat) : State :=
  let mine := s.cyc.heldPeer.filter (fun h => (s.outRec h.1).map (fun r => r.task) == some t)
  let s := { s with cyc := { s.cyc with heldPeer := s.cyc.heldPeer.filter (fun h => (s.outRec h.1).map (fun r => r.task) != some t) } }
  mine.foldl (fun (s : State) h =>
    match s.peerDest h.1 with
    | some (_, d) =>
      let dev := ((s.cyc.dests[d]?).map (fun x => (destKind x.cfg).2)).getD 0
      ((s.outStatus h.1 0x20).bump (Reg.CYC_T_CNT_PEER_DROP t)).log 0x0B08 1 (leBytes 1 t ++ leBytes 1 0 ++ leBytes 2 h.1 ++ leBytes 4 dev)
    | none => s) s

/-- LIVE of a destination by number. -/
def State.liveDest (s : State) (d : Nat) : Bool := ((s.cyc.dests[d]?).map (fun x => x.live)).getD false

/-- The effect of one written output entry at W; answers its status bits beyond WRITTEN, CHANGED and LATE (Table 11-5, R277). -/
def State.cycOutput (s : State) (t e w : Nat) (o : OutEntry) (sent : List Nat) : State × Half :=
  match s.outRec e with
  | none => (s, 0)
  | some r =>
    match r.kind with
    | .pub p _ d =>
      let lost := !s.liveDest d
      let s := if lost then s.bump (Reg.CYC_T_CNT_DEST_LOST t) else s
      (s, (if sent.contains p then 4 else 0) ||| (if lost then 8 else 0))
    | .pin n => (if s.suppressed || !(s.alm.pins.getD n {}).byCyc then s else s.drivePin n (o.a != 0), 0)
    | .peer output d =>
      if s.suppressed then (s, 0)
      else if s.liveDest d then (s.sendPeer output d o w, 4)
      else ({ s with cyc := { s.cyc with heldPeer := s.cyc.heldPeer ++ [(e, o, w)] } }, 16)
    | .channel c =>
      if s.suppressed then (s, 0)
      else
        let x := s.task t
        let g := s.chanRg c
        let r := s.rate g
        let sec := x.start / 1000000000
        let k0 := (x.start % 1000000000) * r / 1000000000
        let k := if gridTag r sec (k0 + 1) ≤ x.start then k0 + 1 else if gridTag r sec k0 ≤ x.start then k0 else k0 - 1
        let tag := gridTag r sec k
        if x.prevStart < tag && r ≠ 0 then
          (s.writeDerived g tag c o.a o.b (Q.derived ||| (o.q &&& (Q.valid ||| Q.test ||| Q.syncLost ||| Q.timeSuspect))) none, 0)
        else (s, 0)

/-- The outputs written in a cycle take effect at W (R271). -/
def State.applyOutputs (s : State) (t w : Nat) (late : Bool) : State :=
  let s := (s.updateDests).dropHeld t
  let old := s.cyc.outputs
  let l := (s.task t).written
  let s := { s with cyc := { s.cyc with outputs := l.foldl (fun (m : List OutEntry) (v : Nat × OutEntry) => m.set v.1 v.2) s.cyc.outputs } }
  let s := s.cyc.releasePins.foldl (fun (s : State) n => if s.suppressed then s else s.drivePin n false) s
  let s := { s with cyc := { s.cyc with releasePins := [] } }
  let ps := (l.filterMap (fun v => match (s.outRec v.1).map (fun (r : OutputRec) => r.kind) with
    | some (OutputKind.pub p _ _) => some p
    | _ => none)).eraseDups
  let due := ps.filter (fun p => match s.cycPub p with
    | some x => s.drives && !s.suppressed && s.cycElems p x.cfg.elements != x.elems
    | none => false)
  let changed := fun (s : State) (e : Nat) (o : OutEntry) =>
    match (s.outRec e).map (fun (r : OutputRec) => r.kind) with
    | some (OutputKind.pub p k _) => ((s.cycPub p).map (fun (x : PubState) => x.elems.getD k (0, 0) != (o.a, o.q))).getD false
    | _ => match old[e]? with
      | some y => (y.a, y.b, y.q) != (o.a, o.b, o.q)
      | none => true
  let marks := l.map (fun v => (v.1, v.2, changed s v.1 v.2))
  let s := due.foldl (fun (s : State) p => s.changePub false p w (s.cycElems p (((s.cycPub p).map (fun x => x.cfg.elements)).getD 0))) s
  let s := marks.foldl (fun (s : State) v =>
    let (s, st) := s.cycOutput t v.1 w v.2.1 due
    let st : Half := 1 ||| (if v.2.2 then 2 else 0) ||| st ||| (if late then 64 else 0)
    { s with cyc := { s.cyc with outputs := listMod s.cyc.outputs v.1 (fun o => { o with status := st }) } }) s
  let sup : Half := if s.suppressed then 128 else 0
  let s := { s with cyc := { s.cyc with outputs := s.cyc.outputs.map (fun (o : OutEntry) => { o with status := (o.status &&& 0xFF7F) ||| sup }) } }
  s.oscDue.showCyc.showImage

/-- WRITE_POINT (R263, R271): at W the outputs take effect, or an overrun begins. -/
def execWritePoint (task : Nat) (s : State) : Host.Outcome State Fault Refusal := answer <|
  let x := s.task task
  if s.elapsed < x.wAt then s
  else if x.running then s.modTask task (fun y => { y with late := true })
  else if x.waitingW then (s.applyOutputs task x.prevW false).modTask task (fun y => { y with waitingW := false })
  else s

/-- LOGIC_COMPLETE (R263): the calls have run; after W the outputs are written at once with LATE. -/
def execLogicComplete (task : Nat) (s : State) : Host.Outcome State Fault Refusal := answer <|
  let x := s.task task
  match x.running, s.cyc.run with
  | true, some a =>
    let r := runCalls a s.cyc.inputs x.dt task
    let ns := s.elapsed - x.began
    let cycle := Word.ofNat x.cycles
    let w := r.writes.map (fun v => (v.1, ({ a := v.2.a, b := v.2.b, q := v.2.q, status := 0, cycle := cycle } : OutEntry)))
    let late := x.late || decide (x.wAt < s.elapsed)
    let s := { s with cyc := { s.cyc with run := some r.area } }
    let s := (s.setReg (Reg.CYC_T_EXEC_LAST task) (satWord ns)).maxReg (Reg.CYC_T_EXEC_MAX task) ns
    let s := s.modTask task (fun y => { y with running := false, waitingW := !late, cycles := y.cycles + 1, written := w })
    let s := (s.setReg (Reg.CYC_T_CYCLE task) (Word.ofNat (x.cycles + 1))).showParam
    if late then
      let s := s.bump (Reg.CYC_T_CNT_OVERRUN task)
      let s := if x.overrun then s else s.log 0x0B01 2 (leBytes 1 task ++ leBytes 3 0 ++ leBytes 4 (satNat 32 ns))
      (s.applyOutputs task s.now true).modTask task (fun y => { y with overrun := true, late := false })
    else s.modTask task (fun y => { y with overrun := false })
  | _, _ => s

/-! ### Peer values (R273) -/

/-- Cycle count b is newer than a, modulo 2^32 and within 2^31. -/
def newerCycle (a b : Word) : Bool := 0 < (b - a).toNat && (b - a).toNat < 2 ^ 31

/-- A peer value is accepted or discarded by its program start GTS and cycle count. -/
def State.acceptPeer (s : State) (v : PeerRx) : State :=
  let mine := s.cyc.peers.filter (fun p => p.writer == v.writer)
  let newest := (mine.map (fun p => p.startGts)).foldl max 0
  let same := mine.find? (fun p => p.output == v.output)
  let ok := !decide (v.startGts < newest) && (match same with
    | some p => p.startGts != v.startGts || newerCycle p.cycle v.cycle
    | none => true)
  if ok then
    let p : PeerVal := { writer := v.writer, output := v.output, a := v.a, b := v.b, q := v.q, startGts := v.startGts, cycle := v.cycle, gts := v.gts }
    { s with cyc := { s.cyc with peers := s.cyc.peers.filter (fun x => !(x.writer == v.writer && x.output == v.output)) ++ [p] } }
  else s

/-- PEER_VALUE_RX (R273): a peer value arrives. -/
def execPeerValueRx (v : PeerRx) (s : State) : Host.Outcome State Fault Refusal := answer (s.acceptPeer v)

/-! ### Programs (R261, R262, R266, R278, R284) -/

/-- Bytes of a call (R284). -/
def callBytes (c : BlockCall) : Nat :=
  let n := 8 + (c.ins.map (fun i => match i with
    | CallSrc.const _ => 8
    | CallSrc.input _ => 4
    | CallSrc.call _ _ => 4)).foldl (· + ·) 0 + 4 * c.outs.length
  (n + 7) / 8 * 8

/-- Instance data of a program in bytes. -/
def progBytes (p : CycProgram) : Nat := (p.insts.map (fun i => i.stateBytes + 4 * i.params.length)).foldl (· + ·) 0

/-- A task record keeps R261 and R262, and its call list its size. -/
def taskRecOk (p : CycProgram) (t : Nat) : Bool :=
  match p.tasks[t]? with
  | some k =>
    !p.taskEn.getD t false ||
      (decide (250 ≤ k.period) && decide (k.period ≤ 1000000) && 1000000 % k.period == 0 && budgetOk k.period k.budget k.wcet
        && decide ((k.calls.map callBytes).foldl (· + ·) 0 ≤ 65536)
        && k.calls.all (fun c => (p.insts[c.inst]?).map (fun i => i.task) == some t))
  | none => !p.taskEn.getD t false

/-- Limits of R266 and the checks of R262. -/
def programOk (p : CycProgram) : Bool :=
  decide (p.insts.length ≤ 8192) && decide (progBytes p ≤ 2 * 1024 * 1024) && decide (p.inputs.length ≤ 16384)
    && decide (p.outputs.length ≤ 8192) && decide (p.pubs.length ≤ 64) && decide (p.dests.length ≤ 128)
    && p.insts.all (fun i => decide (1 ≤ i.path.length) && decide (i.path.length ≤ 127))
    && ((p.insts.map (fun i => i.path)).eraseDups.length == p.insts.length)
    && (List.range 4).all (fun t => taskRecOk p t)

/-- A program area before its first cycle. -/
def freshArea (p : CycProgram) : ProgArea :=
  { prog := p, inst := p.insts.map (fun i => initialState i.typ), params := p.insts.map (fun i => i.params), fresh := p.insts.map (fun _ => true) }

/-- The running instance that an instance matches by path, and whether its type hash is equal (R279). -/
def matchInst (old : CycProgram) (i : InstRec) : Option (Nat × Bool) :=
  (old.insts.mapIdx (fun k r => (k, r))).find? (fun x => x.2.path == i.path) |>.map (fun x => (x.1, x.2.hash == i.hash))

/-- Carried state of a running task in bytes (R280). -/
def carried (old new : CycProgram) (t : Nat) : Nat :=
  (new.insts.map (fun i => match matchInst old i with
    | some (k, true) => match old.insts[k]? with
      | some r => if r.task = t then r.stateBytes else 0
      | none => 0
    | _ => 0)).foldl (· + ·) 0

/-- The copy check of R280: carried KiB × 0.125 µs within period − BUDGET, for each running task. -/
def State.copyOk (s : State) (new : CycProgram) : Bool :=
  match s.program with
  | some old => (List.range 4).all (fun t => !s.taskOn t ||
      decide (carried old new t ≤ ((s.reg (Reg.CYC_T_PERIOD t)).toNat - (s.reg (Reg.CYC_T_BUDGET t)).toNat) * 8192))
  | none => true

/-! ### Starting and exchanging programs (R273, R279 to R281) -/

/-- Sets the registers of a program's tasks, whose cycles count from 0 and whose offsets are 0. -/
def State.setTasks (s : State) (p : CycProgram) : State :=
  let s := (List.range 4).foldl (fun (s : State) t => (s.setReg (Reg.CYC_T_CYCLE t) 0).setReg (Reg.CYC_T_OFFSET t) 0) s
  let s := s.setField Reg.CYC_CTRL 7 4 ((List.range 4).foldl (fun n t => n + bit (p.taskEn.getD t false) * 2 ^ t) 0)
  let s := (List.range 4).foldl (fun (s : State) t =>
    match p.tasks[t]? with
    | some k => ((s.setReg (Reg.CYC_T_PERIOD t) (Word.ofNat k.period)).setReg (Reg.CYC_T_BUDGET t) (Word.ofNat k.budget)).setReg
        (Reg.CYC_T_WCET t) (Word.ofNat k.wcet)
    | none => s) s
  let s := s.setReg Reg.CYC_PROG_ID p.id
  s.setReg Reg.CYC_INST_USED (Word.ofNat (p.insts.length + (progBytes p + 1023) / 1024 * 65536))

/-- A destination record as it stands at its start: LIVE without an event. -/
def State.newDest (s : State) (c : DestRec) : DestState := { cfg := c, live := s.destLive s.now c, since := s.now }

/-- The first start instant of a period at or after an instant, for O = 0. -/
def firstStart (period t : Nat) : Nat := (t + period - 1) / max 1 period * period

/-- A program starts at the configuration commit (R261, R273), with event 0x0B0A. -/
def State.startProgram (s : State) (p : CycProgram) : State :=
  let s := s.setTasks p
  let s := { s with cyc := { s.cyc with
    run := some (freshArea p), standby := none, inputs := p.inputs.map (fun _ => noInput), outputs := p.outputs.map (fun _ => ({} : OutEntry))
    pubs := p.pubs.map (fun c => ({ cfg := c, elems := List.replicate c.elements (0, 0), spacing := c.tMin * 1000000 } : PubState))
    dests := p.dests.map (fun c => s.newDest c), progStart := 0, heldPeer := [], gooseSeen := []
    tasks := (List.range 4).map (fun t => ({ nextStart := firstStart (s.period t) s.now } : TaskState)) } }
  let s := (List.range p.dests.length).foldl (fun (s : State) d => s.showDest d) s
  let s := p.pubs.foldl (fun (s : State) c =>
    let t := s.now
    (s.modPub false c.id (fun x => { x with tSince := t })).sendPub false c.id) s
  (s.log 0x0B0A 0 (leBytes 4 p.id.toNat)).showCyc

/-- The new area at X: state carried over for matched instances, parameters from the new program (R279). -/
def carryOver (old : ProgArea) (new : ProgArea) : ProgArea :=
  let m := new.prog.insts.map (fun i => matchInst old.prog i)
  { new with
    inst := m.mapIdx (fun i x => match x with
      | some (k, true) => old.inst.getD k []
      | _ => initialState ((new.prog.insts.map (fun r => r.typ)).getD i .and))
    fresh := m.map (fun x => match x with
      | some (k, true) => old.fresh.getD k true
      | _ => true) }

/-- A publication that continues a running one (R281). -/
def continues (pubs : List PubState) (c : PubRec) : Option PubState :=
  pubs.find? (fun x => x.cfg.appid == c.appid && x.cfg.gocbRef == c.gocbRef && x.cfg.datSet == c.datSet)

/-- The output image of a new program: entries of continued publications and of pins keep what they stand at. -/
def State.carryOutputs (s : State) (p : CycProgram) (pubs : List PubState) : List OutEntry :=
  p.outputs.map (fun r => match r.kind with
    | .pub n e _ =>
      match (pubs.find? (fun x => x.cfg.id == n)).bind (fun x => x.elems[e]?) with
      | some v => { a := v.1, q := v.2 }
      | none => {}
    | .pin n => { a := boolWord ((s.alm.pins.getD n {}).active) }
    | _ => {})

/-- Counts of a matching: matched, retyped, new, discarded. -/
def matching (old new : CycProgram) : Nat × Nat × Nat × Nat :=
  let m := new.insts.map (fun i => matchInst old i)
  let matched := (m.filter (fun x => (x.map (fun y => y.2)) == some true)).length
  let retyped := (m.filter (fun x => (x.map (fun y => y.2)) == some false)).length
  (matched, retyped, (m.filter (fun x => x.isNone)).length, old.insts.length - matched - retyped)

/-- Pins that a program drives. -/
def drivenPins (p : CycProgram) : List Nat := p.outputs.filterMap (fun r => match r.kind with
  | .pin n => some n
  | _ => none)

/-- The exchange at X (R279 to R281). -/
def State.exchange (s : State) (old new : ProgArea) : State :=
  let p := new.prog
  let (matched, retyped, fresh, gone) := matching old.prog p
  let s := s.cyc.heldPeer.foldl (fun (s : State) h => s.dropHeld (((s.outRec h.1).map (fun r => r.task)).getD 0)) s
  let x := s.now / 1000000000 * 1000000000
  let area := carryOver old new
  let pubs := p.pubs.map (fun c => match continues s.cyc.pubs c with
    | some y => { y with cfg := c }
    | none => ({ cfg := c, elems := List.replicate c.elements (0, 0), spacing := c.tMin * 1000000, tSince := x } : PubState))
  let isNew := p.pubs.filter (fun c => (continues s.cyc.pubs c).isNone)
  let release := ((List.range 8).filter (fun n => (s.alm.pins.getD n {}).byCyc && !(drivenPins p).contains n))
  let outs := s.carryOutputs p pubs
  let s := s.setTasks p
  let s := { s with cyc := { s.cyc with
    run := some area, standby := some old, standbyRan := true, inputs := p.inputs.map (fun _ => noInput), outputs := outs, pubs := pubs
    dests := p.dests.map (fun c => s.newDest c), progStart := x, heldPeer := [], gooseSeen := [], releasePins := release, exch := none, parStage := []
    tasks := (List.range 4).map (fun t => ({ nextStart := x, stopped := (s.task t).stopped } : TaskState)) } }
  let s := (List.range p.dests.length).foldl (fun (s : State) d => s.showDest d) s
  let s := isNew.foldl (fun (s : State) c => s.sendPub false c.id) s
  let s := (s.setPair Reg.CYC_EXCH_TIME_LO Reg.CYC_EXCH_TIME_HI x).setReg Reg.CYC_EXCH_MATCHED (Word.ofNat matched)
  let s := (s.setReg Reg.CYC_EXCH_NEW (Word.ofNat (fresh + retyped * 65536))).setReg Reg.CYC_EXCH_REMOVED (Word.ofNat gone)
  let s := (s.setReg Reg.CYC_STANDBY_ID old.prog.id).setFlag Reg.CYC_STATUS 4 (!s.flag Reg.CYC_STATUS 4)
  let s := s.log 0x0B05 1 (leBytes 4 p.id.toNat ++ leBytes 2 matched ++ leBytes 2 (fresh + retyped))
  let s := (p.insts.mapIdx (fun i r => (i, r))).foldl (fun (s : State) v =>
    match matchInst old.prog v.2 with
    | some (_, false) => s.log 0x0B06 1 (leBytes 2 v.1 ++ leBytes 1 v.2.task ++ leBytes 1 0 ++ leBytes 4 v.2.hash.toNat)
    | _ => s) s
  s.showCyc.showParam

/-- EXCHANGE_INSTANT (R280): a second boundary at which every condition holds. -/
def execExchangeInstant (s : State) : Host.Outcome State Fault Refusal := answer <|
  match s.cyc.exch, s.cyc.run, s.cyc.standby with
  | some (h, acc), some old, some new =>
    if s.now % 1000000000 < 1000 && acc + 100000000 ≤ s.elapsed
        && (List.range 4).all (fun t => (s.task t).offset == 0 && !(s.task t).running && !(s.task t).waitingW) then
      (s.exchange old new).finishOp h 0 0
    else s
  | _, _, _ => s

/-- EXCHANGE_TIMEOUT (R280): no boundary has qualified within 60 s. -/
def execExchangeTimeout (s : State) : Host.Outcome State Fault Refusal := answer <|
  match s.cyc.exch with
  | some (h, acc) =>
    if acc + 60000000000 ≤ s.elapsed then
      let s := { s with cyc := { s.cyc with exch := none } }.showCyc
      (s.log 0x0B07 1 (leBytes 1 9 ++ leBytes 3 0 ++ leBytes 4 (s.reg Reg.CYC_STANDBY_ID).toNat)).finishOp h 9 0
    else s
  | none => s

/-! ### Fenced engines (R256, R275) -/

/-- ENGINE_FENCE (R256, R275): a graph engine is fenced, or a cyclic task's engine, whose task stops with event 0x0B0B. -/
def execEngineFence (pe : Nat) (s : State) : Host.Outcome State Fault Refusal := answer <|
  if !s.peUp pe then s
  else if pe < 60 then s.fenceEngine pe
  else
    let t := pe - 60
    let s := (s.setFlag (Reg.DFS_PE_STATUS pe) 5 true).setFlag (Reg.DFS_PE_STATUS pe) 0 false
    let s := (s.log 0x0A04 3 (leBytes 1 pe ++ leBytes 2 0)).modTask t (fun x => { x with stopped := true, running := false, waitingW := false })
    ((s.log 0x0B0B 3 (leBytes 1 t ++ leBytes 1 pe)).blockError 3 0x0B 0x0B0B).showCyc

end Sys2Proof.Machine
end

