-- ==== Sys2Proof/Machine/Admission.lean ====
section
/-!
DEFINITION. The port wire-time condition of LC0 admission (R131, R484), which loads, program loads and settings share.
-/
namespace Sys2Proof.Machine

/-- LC0 publications and output streams, with the worst-case length of their frames (R484). -/
def State.lc0Pubs (s : State) (cyc : List PubRec) : List (TxDest × Nat) :=
  let lc0 := fun (l : List PubRec) => l.filter (fun p => p.lc == 0)
  (lc0 cyc).map (fun p => (p.dest, pubWorst p true))
    ++ (lc0 (s.alm.pubs.map (fun (p : PubState) => p.cfg))).map (fun p => (p.dest, pubWorst p false))
    ++ (s.dec.outs.filter (fun x => s.field (Reg.DEC_OUT_CTRL x.cfg.id) 5 4 == 0)).map (fun x => (x.cfg.dest, outLen x.cfg))
    ++ (s.dec.rsvs.filter (fun x => x.cfg.lc == 0)).map (fun x => (x.cfg.dest, rsvLen x.cfg (s.field (Reg.DEC_RSV_CTRL x.cfg.id) 10 8)))

/-- Line rate of a port's mode, in 0.1 Gb/s. -/
def lineRate (mode : Nat) : Nat := if mode = 1 then 250 else if mode = 2 then 100 else 10

/-- The wire time of the LC0 publications of every port, Σ (length + 20 B) × 8 / line rate, is at most 180 µs (Table 05-5, R484). -/
def State.wireOk (s : State) (cyc : List PubRec) : Bool :=
  let l := s.lc0Pubs cyc
  (List.range 6).all (fun p =>
    let n := sumNat ((l.filter (fun x => (destPorts x.1).contains p)).map (fun x => wireBytes x.1 x.2))
    decide (n * 8 * 10 ≤ 180000 * lineRate (s.portMode p)))

end Sys2Proof.Machine
end

