-- ==== Sys2Proof/Machine/Routes.lean ====
section
/-!
DEFINITION. The torus and the route table of a joined system (R352, R353, R358, R359).
-/
namespace Sys2Proof.Machine

/-! ### The torus (R352, R353) -/

/-- Positions of the torus in each dimension. -/
def State.torusDims (s : State) : Nat × Nat × Nat :=
  (max 1 (s.field Reg.HGW_TORUS 3 0), max 1 (s.field Reg.HGW_TORUS 7 4), max 1 (s.field Reg.HGW_TORUS 11 8))

/-- Devices of the torus. -/
def State.torusSize (s : State) : Nat := s.torusDims.1 * s.torusDims.2.1 * s.torusDims.2.2

/-- Neighbour of a device over a link (R353). -/
def State.torusNeighbour (s : State) (d l : Nat) : Nat :=
  let (dx, dy, dz) := s.torusDims
  let x := d % dx
  let y := d / dx % dy
  let z := d / dx / dy % dz
  let at_ := fun (x y z : Nat) => x + dx * (y + dy * z)
  match l with
  | 0 => at_ ((x + 1) % dx) y z
  | 1 => at_ ((x + dx - 1) % dx) y z
  | 2 => at_ x ((y + 1) % dy) z
  | 3 => at_ x ((y + dy - 1) % dy) z
  | 4 => at_ x y ((z + 1) % dz)
  | _ => at_ x y ((z + dz - 1) % dz)

/-- Hops around a ring of n positions, the shorter way. -/
def ringHops (n a b : Nat) : Nat := min ((a + n - b) % n) ((b + n - a) % n)

/-- Hops between two devices with every link up (R358). -/
def State.torusHops (s : State) (a b : Nat) : Nat :=
  let (dx, dy, dz) := s.torusDims
  ringHops dx (a % dx) (b % dx) + ringHops dy (a / dx % dy) (b / dx % dy) + ringHops dz (a / dx / dy % dz) (b / dx / dy % dz)

/-- The devices of the torus by hops from one, then by ID (R369). -/
def State.devicesByHops (s : State) (d : Nat) : List Nat :=
  ((List.range 13).map (fun h => (List.range s.torusSize).filter (fun e => s.torusHops d e == h))).flatten

/-! ### The graph of links that are up (R358) -/

/-- A link is up. -/
def State.linkUp (s : State) (l : Nat) : Bool := s.flag (Reg.HGW_L_STATUS l) 0

/-- A link is up and not MISMATCH: routes may use it. -/
def State.linkUsable (s : State) (l : Nat) : Bool := s.linkUp l && !s.flag (Reg.HGW_L_STATUS l) 6

/-- This device's usable links and their neighbours; in a twin pair the partner's too while T0 is up (R376). -/
def State.ownLinks (s : State) : List (Nat × Nat) :=
  (List.range 6).filterMap (fun l =>
    if s.linkUsable l then some (l, s.field (Reg.HGW_L_STATUS l) 24 16)
    else if s.t0Up && !s.terminates l then s.hgw.partnerLinks.find? (fun x => x.1 == l)
    else none)

/-- Links of a device as its newest link-state message gave them. -/
def State.linksOf (s : State) (d : Nat) : List (Nat × Nat) :=
  if d = s.ownId then s.ownLinks else ((kvGet s.hgw.devices d).map (fun (x : DeviceInfo) => x.links)).getD []

/-- Distances from a set of devices by breadth: at most `fuel` hops. -/
def spread (nb : Nat → List Nat) : Nat → Nat → List Nat → List (Nat × Nat) → List (Nat × Nat)
  | 0, _, _, seen => seen
  | fuel + 1, h, front, seen =>
    let next := ((front.map nb).flatten.eraseDups).filter (fun d => (kvGet seen d).isNone)
    if next.isEmpty then seen else spread nb fuel (h + 1) next (next.foldl (fun l d => kvPut l d (h + 1)) seen)

/-- Hops from a device to every device it reaches. -/
def State.hopsFrom (s : State) (d : Nat) : List (Nat × Nat) :=
  spread (fun e => (s.linksOf e).map (fun x => x.2)) 512 0 [d] [(d, 0)]

/-- First link and hops of a shortest path to a device, the lowest link among equals (R358); `t` holds the distances from the neighbour of each usable link. -/
def bestRoute (t : List (Nat × List (Nat × Nat))) (d : Nat) : Option (Nat × Nat) :=
  t.foldl (fun (b : Option (Nat × Nat)) (x : Nat × List (Nat × Nat)) =>
    match kvGet x.2 d, b with
    | some h, some c => if h + 1 < c.2 then some (x.1, h + 1) else b
    | some h, none => some (x.1, h + 1)
    | none, _ => b) none

/-- Links that the route from one device to another crosses: the device and its link at each hop (R358). -/
def State.pathLinks (s : State) (dst : Nat) : Nat → Nat → List (Nat × Nat)
  | 0, _ => []
  | fuel + 1, d =>
    if d = dst then []
    else
      match bestRoute ((s.linksOf d).map (fun x => (x.1, s.hopsFrom x.2))) dst with
      | some (l, _) => (d, l) :: s.pathLinks dst fuel (((s.linksOf d).find? (fun x => x.1 == l)).elim d (fun x => x.2))
      | none => []

/-! ### What the registers show -/

/-- Devices that are reachable, this one among them. -/
def State.reachable (s : State) : List Nat := s.ownId :: (s.hgw.devices.filter (fun x => x.2.up && x.1 != s.ownId)).map (fun x => x.1)

/-- The coordinator: the lowest ID among the reachable devices (R370). -/
def State.coordinator (s : State) : Nat := s.reachable.foldl min s.ownId

/-- Shows REACHABLE and COORDINATOR. -/
def State.showReach (s : State) : State :=
  (s.setField Reg.HGW_STATUS 29 20 s.reachable.length).setFlag Reg.HGW_STATUS 16 (s.coordinator == s.ownId)

/-- Shows the links that are up and those at step 0. -/
def State.showLinks (s : State) : State :=
  let up := (List.range 6).filter (fun l => s.linkUp l)
  let s := s.setField Reg.HGW_STATUS 5 0 ((up.map (fun l => 2 ^ l)).foldl (· + ·) 0)
  s.setField Reg.HGW_STATUS 13 8 (((up.filter (fun l => s.field (Reg.HGW_L_STATUS l) 2 1 == 0)).map (fun l => 2 ^ l)).foldl (· + ·) 0)

/-- Shows the route that HGW_ROUTE_INDEX selects, and the time offset along it (R365): beyond a neighbour the offsets of other devices' links are open. -/
def State.showRoute (s : State) : State :=
  let d := s.field Reg.HGW_ROUTE_INDEX 8 0
  if d = s.ownId then (s.setReg Reg.HGW_ROUTE (Word.ofNat (7 + 256))).setReg Reg.HGW_TIME_OFS 0
  else
    match kvGet s.hgw.devices d with
    | some x =>
      let age := satNat 8 ((s.elapsed - x.lastMsg) / 1000000)
      let first := if x.up then x.first.getD 7 else 7
      let s := s.setReg Reg.HGW_ROUTE (Word.ofNat (first + (if x.up then x.hops % 16 * 16 else 0) + bit x.up * 256 + age * 65536))
      if !x.up then s.setReg Reg.HGW_TIME_OFS 0
      else if x.hops ≤ 1 then s.setReg Reg.HGW_TIME_OFS (s.reg (Reg.HGW_L_OFFSET first))
      else (s.setReg Reg.HGW_TIME_OFS (s.reg (Reg.HGW_L_OFFSET first) + s.freshWord)).useFree 1
    | none => (s.setReg Reg.HGW_ROUTE 7).setReg Reg.HGW_TIME_OFS 0

end Sys2Proof.Machine
end

