-- ==== Sys2Proof/Machine/Sections.lean ====
section
/-!
DEFINITION. The bytes of a configuration image's sections (R91, R144, R168, R188, R214, R237, R258, R284, R305, R326, R350, R373,
R390, R421, R431): what the records and register fields of each section are, and what makes a section's bytes wrong. What a table
leaves without an encoding (an output stream record, a publication record, a graph's nodes, a call list) stands as a record of the
image (log entry 10), and the bytes give its count.
-/
namespace Sys2Proof.Machine

/-- Section identifiers of the configuration image, in the order in which they load (R432). -/
def sectionIds : List Nat :=
  [0x20535953, 0x544F4F42, 0x204D4954, 0x20444B42, 0x20545053, 0x20434544, 0x204E4C41, 0x20564157, 0x2052544D, 0x2043534F,
   0x20504F54, 0x20534644, 0x20435943, 0x204D4C41, 0x20504143, 0x20464948, 0x20574748, 0x204E5754]

/-- The n-th section of that order. -/
def secId (n : Nat) : Nat := sectionIds.getD n 0

/-- A section as its bytes give it: the image with its records, and the index of the record at which the bytes are wrong. -/
abbrev SectionRead := CfgImage × Option Nat

/-- A 32-bit word at a byte of a section. -/
def word32 (b : List Byte) (o : Nat) : Word := Word.ofNat (natAt b o 4)

/-- A byte's bit. -/
def bitAt (b : List Byte) (o k : Nat) : Bool := (natAt b o 1).testBit k

/-- The records of an array: offset, size and count. -/
def arrayAt (b : List Byte) (off size n : Nat) : List (List Byte) := (List.range n).map (fun k => bytesAt b (off + size * k) size)

/-- An array lies in its section, after the header. -/
def arrayOk (b : List Byte) (hdr off size n : Nat) : Bool := n == 0 || (decide (hdr ≤ off) && decide (off + size * n ≤ b.length))

/-- A section is long enough for its header, which carries its identifier and format 0x0001. -/
def headOk (n len : Nat) (b : List Byte) : Bool := decide (len ≤ b.length) && natAt b 0 4 == secId n && natAt b 4 2 == 1

/-- Register fields that a section gives take the place of those of the record form. -/
def withRegs (i : CfgImage) (l : List (Nat × Word)) : CfgImage :=
  { i with settings := i.settings.filter (fun (p : Nat × Word) => !l.any (fun q => q.1 == p.1)) ++ l }

/-- The value that the image gives a register before a section's bytes are read. -/
def oldReg (i : CfgImage) (a : Nat) : Word := ((i.settings.filter (fun (p : Nat × Word) => p.1 == a)).getLast?.map (fun p => p.2)).getD 0

/-- Reads a section whose header and arrays must hold before its records are looked at; else record 0 is wrong. -/
def readIf (ok : Bool) (i : CfgImage) (r : SectionRead) : SectionRead := if ok then r else (i, some 0)

/-- The first wrong record of a list. -/
def wrongAt (l : List (List Byte)) (ok : List Byte → Bool) : Option Nat := l.findIdx? (fun r => !ok r)

/-- The first wrong record of several lists. -/
def wrongIn (l : List (Option Nat)) : Option Nat := (l.filterMap id).head?

/-- A channel field: none where it holds 0xFFFF_FFFF (R237). -/
def chan32 (b : List Byte) (o : Nat) : Option Nat := if natAt b o 4 = 0xFFFFFFFF then none else some (natAt b o 4)

/-- A 16-bit field: none where it holds 0xFFFF. -/
def opt16 (b : List Byte) (o : Nat) : Option Nat := if natAt b o 2 = 0xFFFF then none else some (natAt b o 2)

/-! ### SYS, BOOT, BKD, TWN (R431, R421, R390) -/

/-- The SYS section: the device ID. -/
def readSys (b : List Byte) (i : CfgImage) : SectionRead :=
  readIf (headOk 0 16 b) i (withRegs i [(Reg.SYS_DEVICE_ID, Word.ofNat (natAt b 6 2))], none)

/-- The BOOT section: the confirmation window. -/
def readBoot (b : List Byte) (i : CfgImage) : SectionRead :=
  readIf (headOk 1 16 b) i (withRegs i [(Reg.FWU_CONFIRM_WIN, Word.ofNat (natAt b 6 2))], none)

/-- The BKD section (R421). -/
def readBkd (b : List Byte) (i : CfgImage) : SectionRead :=
  readIf (headOk 3 16 b) i (withRegs i [(Reg.BKD_CTRL, word32 b 8), (Reg.BKD_TAMP_CTRL, word32 b 12)], none)

/-- The TWN section (Table 16-7). -/
def readTwn (b : List Byte) (i : CfgImage) : SectionRead :=
  readIf (headOk 17 64 b) i (withRegs i [(Reg.TWN_CTRL, Word.ofNat (natAt b 6 2)), (Reg.TWN_CMP_LIMIT, word32 b 8)], none)

/-! ### DEC (R91, Tables 03-1 to 03-3) -/

/-- The match key of a stream record (Table 03-2); addresses stand in network order. -/
def keyAt (t : StreamType) (b : List Byte) : MatchKey :=
  let rev := fun (o n : Nat) => leNat (bytesAt b o n).reverse
  match t with
  | .c37 => .c37 (BitVec.ofNat 16 (natAt b 16 2)) (BitVec.ofNat 16 (natAt b 18 2)) (BitVec.ofNat 96 (rev 20 12))
  | .sv92 | .sv61869 | .rsv => .sv (BitVec.ofNat 16 (natAt b 16 2)) (BitVec.ofNat 16 (natAt b 18 2)) (word32 b 20) (BitVec.ofNat 48 (rev 24 6))
  | .goose | .rgoose => .goose (BitVec.ofNat 16 (natAt b 16 2)) (BitVec.ofNat 16 (natAt b 18 2)) (word32 b 20) (BitVec.ofNat 48 (rev 24 6))
  | .internal | .unused => .internal (BitVec.ofNat 16 (natAt b 16 2))

/-- TYPE of a stream record. -/
def typeAt (b : List Byte) : StreamType :=
  [StreamType.unused, .c37, .sv92, .sv61869, .rsv, .goose, .rgoose, .internal].getD (natAt b 0 1) .unused

/-- STATE of a stream record. -/
def stateAt (b : List Byte) : StreamState := [StreamState.disabled, .valid, .invalid, .rejected].getD (natAt b 1 1) .disabled

/-- A stream record's codes exist. -/
def streamBytesOk (b : List Byte) : Bool := decide (natAt b 0 1 < 8) && decide (natAt b 1 1 < 4) && decide (natAt b 2 1 < 4)

/-- Bytes 0 to 95 of a stream table entry (Table 03-1), over what they do not hold: the reporting rate, the command port and the element types. -/
def streamAt (b : List Byte) (old : StreamRec) : StreamRec :=
  { old with
    typ := typeAt b, state := stateAt b, rg := natAt b 2 1
    ingestClass := natAt b 3 1 % 4, authMark := bitAt b 3 2, cfg3 := bitAt b 3 3
    chanBase := natAt b 4 4, chanCount := natAt b 8 2, units := natAt b 10 2, mapBase := natAt b 12 4
    key := keyAt (typeAt b) b, rate := natAt b 32 4, frameSize := natAt b 36 2
    fnomCode := natAt b 38 2 / 2 ^ 14, cfgCnt := natAt b 38 2 % 2 ^ 14
    curSlot := BitVec.ofNat 16 (natAt b 40 2), nextSlot := BitVec.ofNat 16 (natAt b 42 2)
    curKeyId := word32 b 44, nextKeyId := word32 b 48 }

/-- A stream record of which nothing but bytes is known. -/
def plainStream : StreamRec :=
  { typ := .unused, state := .disabled, rg := 0, ingestClass := 0, authMark := false, cfg3 := false, chanBase := 0, chanCount := 0, units := 0,
    mapBase := 0, key := .internal 0, rate := 0, frameSize := 0, fnomCode := 0, cfgCnt := 0, reportRate := 0, curSlot := 0, nextSlot := 0,
    curKeyId := 0, nextKeyId := 0, cmdPort := 0, elems := [] }

/-- A channel map entry (Table 03-3), over the PMU block number, which the table does not hold (log entry 12). -/
def mapAt (b : List Byte) (block : Nat) : MapEntry :=
  { block := block, scale := word32 b 0, offset := word32 b 4, rotCos := word32 b 8, rotSin := word32 b 12, min := word32 b 16, max := word32 b 20
    pos := natAt b 24 2
    kind := [MapKind.phasor, .freq, .analog, .digital, .svValue, .gooseElem].getD (natAt b 26 1) .phasor
    polar := bitAt b 27 0, float := bitAt b 27 1 }

/-- The DEC section (Table 03-6). -/
def readDec (b : List Byte) (i : CfgImage) : SectionRead :=
  let n := natAt b 8 4
  let m := natAt b 12 4
  let o := natAt b 16 2
  let v := natAt b 18 2
  let st := arrayAt b (natAt b 20 4) 96 n
  let mp := arrayAt b (natAt b 24 4) 32 m
  let ok := headOk 5 64 b && decide (n ≤ 16384) && decide (m ≤ 270336) && decide (o ≤ 64) && decide (v ≤ 32)
    && o == i.outs.length && v == i.rsvs.length
    && arrayOk b 64 (natAt b 20 4) 96 n && arrayOk b 64 (natAt b 24 4) 32 m && arrayOk b 64 (natAt b 28 4) 1024 o && arrayOk b 64 (natAt b 32 4) 256 v
  let old := fun (k : Nat) => ((i.streams.find? (fun (e : Nat × StreamRec) => e.1 == k)).map (fun e => e.2)).getD plainStream
  let block := fun (k : Nat) => ((i.map.find? (fun (e : Nat × MapEntry) => e.1 == k)).map (fun e => e.2.block)).getD 0
  readIf ok i ({ i with
    streams := st.mapIdx (fun k r => (k, streamAt r (old k)))
    map := mp.mapIdx (fun k r => (k, mapAt r (block k))) },
    wrongIn [wrongAt st streamBytesOk, wrongAt mp (fun r => decide (natAt r 26 1 < 6))])

/-! ### ALN (R144, Tables 05-10 to 05-13) -/

/-- A group record (Table 05-11). -/
def groupAt (b : List Byte) : GroupRec :=
  { rg := natAt b 0 1, rate := natAt b 1 1, sections := natAt b 2 1
    histEn := bitAt b 3 0, retain := bitAt b 3 1, revOsc := bitAt b 3 4, revCap := bitAt b 3 5, revHost := bitAt b 3 6
    derive := natAt b 4 4, horizon := natAt b 8 4, depth := natAt b 12 4, ringBase := natAt b 16 8 }

/-- A section record (Table 05-12). -/
def alnSectionAt (b : List Byte) : SectionRec :=
  { rg := natAt b 0 1, sec := natAt b 1 1, lc := natAt b 2 1 % 4, adaptive := bitAt b 2 4
    hmax := natAt b 4 4, margin := natAt b 8 2, hyst := natAt b 10 2 }

/-- A channel record (Table 05-13), none where the channel is not assigned. -/
def chanAt (k : Nat) (b : List Byte) : Option ChanRec :=
  let w := word32 b 0
  if w.getLsbD 0 then
    some { chan := k, rg := bitsOf w 2 1, sec := bitsOf w 8 3, derived := w.getLsbD 9, holdEn := w.getLsbD 10, holdMax := bitsOf w 18 11 }
  else none

/-- The ALN section (Table 05-10). -/
def readAln (b : List Byte) (i : CfgImage) : SectionRead :=
  let g := natAt b 8 1
  let c := natAt b 12 4
  let n := natAt b 16 4
  let ok := headOk 6 64 b && decide (1 ≤ g) && decide (g ≤ 4) && decide (c ≤ 262144) && decide (n ≤ 256)
    && arrayOk b 64 (natAt b 20 4) 64 g && arrayOk b 64 (natAt b 24 4) 16 n && arrayOk b 64 (natAt b 28 4) 4 c
  readIf ok i ({ i with
    groups := (arrayAt b (natAt b 20 4) 64 g).map groupAt
    sections := (arrayAt b (natAt b 24 4) 16 n).map alnSectionAt
    chans := ((arrayAt b (natAt b 28 4) 4 c).mapIdx chanAt).filterMap id }, none)

/-! ### WAV (R168, Tables 06-10 to 06-12) -/

/-- A signed 32-bit field. -/
def s32At (b : List Byte) (o : Nat) : Int := (word32 b o).toInt

/-- A channel record's fields lie in their ranges (Table 06-11, R165). -/
def wavChanOk (b : List Byte) : Bool :=
  let c := natAt b 0 2
  let gain := natAt b 22 1 % 4
  decide (c ≤ 8207) && decide (natAt b 3 1 ≤ 8) && decide (1 ≤ natAt b 4 2) && decide (natAt b 4 2 ≤ 4096) && decide (natAt b 6 1 ≤ 15)
    && decide (1 ≤ natAt b 7 1) && decide (natAt b 7 1 ≤ 240) && 4800 % max 1 (natAt b 7 1) == 0
    && decide (-65536 ≤ s32At b 8) && decide (s32At b 8 ≤ 65536) && decide (1 ≤ natAt b 20 2) && decide (natAt b 20 2 ≤ 10000)
    && (decide (c < 8192) || (gain != 3 && (!bitAt b 22 4 || (decide (8200 ≤ c) && (gain == 1 || gain == 2)))))

/-- The registers of a channel record (Table 06-11); SCALE, OFFSET, GAIN and AUTO are of local channels only. -/
def wavChanRegs (b : List Byte) : List (Nat × Word) :=
  let c := natAt b 0 2
  let f := natAt b 2 1
  [(Reg.WAV_CH_CTRL c, Word.ofNat (f % 8 + f / 8 % 2 * 16 + natAt b 3 1 % 16 * 256 + natAt b 7 1 * 65536)),
   (Reg.WAV_CH_DECIM c, Word.ofNat (natAt b 4 2 % 8192 + natAt b 6 1 % 16 * 65536)), (Reg.WAV_CH_DELAY c, word32 b 8 &&& 0x3FFFF),
   (Reg.WAV_CH_ENV_TC c, Word.ofNat (natAt b 20 2))]
  ++ (if c < 8192 then [] else
    [(Reg.WAV_CH_SCALE c, word32 b 12), (Reg.WAV_CH_OFFSET c, word32 b 16),
     (Reg.WAV_AFE_CTRL (c - 8192), Word.ofNat (natAt b 22 1 % 4 + natAt b 22 1 / 16 % 2 * 16))])

/-- An item (Table 06-12). -/
def itemAt (b : List Byte) : ItemRec := { chan := natAt b 0 2, kind := natAt b 2 1, div := natAt b 4 2 }

/-- Coefficient sets, one after another: M, two reserved bytes, and h[0] to h[16M]. -/
def coefsAt (b : List Byte) : Nat → Nat → List CoefSet
  | 0, _ => []
  | n + 1, o =>
    let m := natAt b o 2
    { m := m, taps := (List.range (16 * m + 1)).map (fun k => word32 b (o + 4 + 4 * k)) } :: coefsAt b n (o + 4 + 4 * (16 * m + 1))

/-- Bytes that coefficient sets take. -/
def coefBytes (b : List Byte) : Nat → Nat → Nat
  | 0, o => o
  | n + 1, o => coefBytes b n (o + 4 + 4 * (16 * natAt b o 2 + 1))

/-- Slots of an output at a row rate: one for each item, or the samples of an array item (Table 06-6). -/
def rowItemSlots (r : Nat) (l : List ItemRec) : Nat := (l.map (fun x => if x.kind = 8 then 4800 / max 1 (x.div * max 1 r) else 1)).foldl (· + ·) 0

/-- The row rate that the image's ALN section gives a group. -/
def groupRate (i : CfgImage) (g : Nat) : Nat := ((i.groups.find? (fun x => x.rg == g)).map (fun x => x.rate)).getD 0

/-- The WAV section (Table 06-10). -/
def readWav (b : List Byte) (i : CfgImage) : SectionRead :=
  let c := natAt b 8 4
  let n := natAt b 12 4
  let k := natAt b 16 2
  let chans := arrayAt b (natAt b 24 4) 32 c
  let outs := arrayAt b (natAt b 28 4) 16 n
  let items := natAt b 32 4
  let outOk := fun (r : List Byte) => decide (natAt r 0 2 ≤ 4095) && decide (1 ≤ natAt r 2 2) && decide (natAt r 2 2 ≤ 256) && decide (natAt r 4 1 < 4)
    && arrayOk b 64 items 8 (natAt r 8 4 + natAt r 2 2)
    && natAt r 12 4 == rowItemSlots (groupRate i (natAt r 4 1)) ((arrayAt b (items + 8 * natAt r 8 4) 8 (natAt r 2 2)).map itemAt)
  let ok := headOk 7 64 b && decide (c ≤ 8208) && decide (n ≤ 4096) && decide (k ≤ 16) && decide (natAt b 18 1 % 4 ≤ 1)
    && arrayOk b 64 (natAt b 24 4) 32 c && arrayOk b 64 (natAt b 28 4) 16 n && decide (coefBytes b k (natAt b 36 4) ≤ b.length)
  readIf ok i
    ({ withRegs i ([(Reg.WAV_SYNC, Word.ofNat (natAt b 18 1 % 8)), (Reg.WAV_AFE_HOLD, word32 b 20)] ++ (chans.map wavChanRegs).flatten) with
        wavOuts := outs.map (fun r =>
          { id := natAt r 0 2, rg := natAt r 4 1, items := (arrayAt b (items + 8 * natAt r 8 4) 8 (natAt r 2 2)).map itemAt })
        coefs := coefsAt b k (natAt b 36 4) },
     wrongIn [wrongAt chans wavChanOk, wrongAt outs outOk])

/-! ### MTR (R188, Table 07-6) -/

/-- A meter point record's registers. -/
def meterRegs (b : List Byte) : List (Nat × Word) :=
  let m := natAt b 0 1
  [(Reg.MTR_MP_CTRL m, Word.ofNat (natAt b 1 1)), (Reg.MTR_MP_STEEP m, Word.ofNat (natAt b 2 2)), (Reg.MTR_MP_TEMP_CH m, word32 b 16)]

/-- A meter point record's channels and tables. -/
def meterAt (b : List Byte) : MeterRec :=
  { mp := natAt b 0 1, chans := (List.range 6).map (fun k => opt16 b (4 + 2 * k)), tables := (List.range 6).map (fun k => opt16 b (20 + 2 * k)) }

/-- A temperature table of 192 B: 16 points of temperature, r and θ. -/
def tableAt (b : List Byte) : List TempPoint :=
  (List.range 16).map (fun k => { temp := word32 b (12 * k), r := word32 b (12 * k + 4), theta := word32 b (12 * k + 8) })

/-- The MTR section. The tables are as many as the meter point records name. -/
def readMtr (b : List Byte) (i : CfgImage) : SectionRead :=
  let n := natAt b 6 1
  let k := natAt b 7 1
  let ms := arrayAt b (natAt b 12 4) 64 n
  let ps := arrayAt b (natAt b 16 4) 16 k
  let ring := natAt b 24 4
  let tabs := ((ms.map meterAt).map (fun m => (m.tables.filterMap id).foldl (fun a t => max a (t + 1)) 0)).foldl max 0
  let ok := headOk 8 64 b && decide (n ≤ 64) && decide (k ≤ 8) && arrayOk b 64 (natAt b 12 4) 64 n && arrayOk b 64 (natAt b 16 4) 16 k
    && arrayOk b 64 ring 13 1
  readIf (ok && arrayOk b 64 (natAt b 20 4) 192 tabs) i
    ({ withRegs i ([(Reg.MTR_SAVE_PERIOD, word32 b 8), (Reg.MTR_REC_BASE_LO, word32 b ring), (Reg.MTR_REC_BASE_HI, word32 b (ring + 4)),
          (Reg.MTR_REC_DEPTH, word32 b (ring + 8)), (Reg.MTR_REC_QUEUE, Word.ofNat (natAt b (ring + 12) 1))]
        ++ (ms.map meterRegs).flatten
        ++ (ps.mapIdx (fun j r => [(Reg.MTR_PULSE_CTRL j, word32 r 0), (Reg.MTR_PULSE_K j, word32 r 4)])).flatten) with
        meters := ms.map meterAt, tables := (arrayAt b (natAt b 20 4) 192 tabs).map tableAt },
     wrongAt ms (fun r => decide (natAt r 0 1 < 64)))

/-! ### OSC (R214, Tables 08-4 and 08-5) -/

/-- A group record's registers. -/
def oscGroupRegs (b : List Byte) : List (Nat × Word) :=
  let g := natAt b 0 1
  let f := natAt b 1 1
  [(Reg.OSC_G_CTRL g, Word.ofNat (f % 8 + natAt b 2 1 % 128 * 16 + f / 8 % 2 * 65536)), (Reg.OSC_G_BAND g, word32 b 4),
   (Reg.OSC_G_WINDOW g, Word.ofNat (natAt b 8 2)), (Reg.OSC_G_REFRESH g, Word.ofNat (natAt b 10 2)),
   (Reg.OSC_G_MODES g, Word.ofNat (natAt b 3 1 % 32 + natAt b 12 1 % 32 * 256 + natAt b 13 1 * 65536)), (Reg.OSC_G_CH_BASE g, word32 b 16)]

/-- A group record: its number and counts exist, and its signal records name it. -/
def oscGroupBytesOk (sig : List (List Byte)) (b : List Byte) : Bool :=
  decide (natAt b 0 1 < 32) && decide (1 ≤ natAt b 2 1) && decide (natAt b 2 1 ≤ 64) && decide (natAt b 20 4 + natAt b 2 1 ≤ sig.length)
    && ((sig.drop (natAt b 20 4)).take (natAt b 2 1)).all (fun r => natAt r 9 1 == natAt b 0 1)

/-- A signal record. -/
def signalAt (b : List Byte) : SignalRec :=
  { group := natAt b 9 1, pos := natAt b 10 1, chan := natAt b 0 4, ref := natAt b 4 4, sel := natAt b 8 1, scale := word32 b 12 }

/-- A monitor record; its number is its place in the array. -/
def monitorAt (k : Nat) (b : List Byte) : MonitorRec :=
  { id := k, chan := natAt b 0 4, ref := natAt b 4 4, sel := natAt b 8 1, bands := (List.range 6).map (fun j => bitAt b 9 j)
    tSus := natAt b 10 2, outBase := natAt b 12 4, tAvg := natAt b 16 4, zetaF := natAt b 20 2
    edges := (List.range 6).map (fun j => (word32 b (24 + 12 * j), word32 b (28 + 12 * j), word32 b (32 + 12 * j))) }

/-- A branch record. -/
def locAt (b : List Byte) : LocBranch := { vChan := natAt b 0 4, iChan := natAt b 4 4, ks := word32 b 8, reverse := bitAt b 12 0 }

/-- The OSC section. -/
def readOsc (b : List Byte) (i : CfgImage) : SectionRead :=
  let n := natAt b 6 1
  let sn := natAt b 8 4
  let mn := natAt b 12 4
  let bn := natAt b 16 2
  let gs := arrayAt b (natAt b 32 4) 64 n
  let sig := arrayAt b (natAt b 36 4) 16 sn
  let mon := arrayAt b (natAt b 40 4) 96 mn
  let loc := bytesAt b (natAt b 44 4) 32
  let ok := headOk 9 64 b && decide (n ≤ 32) && decide (sn ≤ 2048) && decide (mn ≤ 16384) && decide (bn ≤ 512)
    && arrayOk b 64 (natAt b 32 4) 64 n && arrayOk b 64 (natAt b 36 4) 16 sn && arrayOk b 64 (natAt b 40 4) 96 mn
    && arrayOk b 64 (natAt b 44 4) 32 1 && arrayOk b 64 (natAt b 48 4) 16 bn
  readIf ok i
    ({ withRegs i ([(Reg.OSC_CTRL, Word.ofNat ((oldReg i Reg.OSC_CTRL).toNat % 2 + bit (bitAt b 7 0) * 2)), (Reg.OSC_DRAM_BASE_LO, word32 b 20),
          (Reg.OSC_DRAM_BASE_HI, word32 b 24), (Reg.OSC_DRAM_SIZE, word32 b 28), (Reg.OSC_LOC_CTRL, word32 loc 0), (Reg.OSC_LOC_SRC, word32 loc 4),
          (Reg.OSC_LOC_FLO, word32 loc 8), (Reg.OSC_LOC_FHI, word32 loc 12), (Reg.OSC_LOC_WIN, word32 loc 16)]
        ++ (gs.map oscGroupRegs).flatten) with
        signals := sig.map signalAt, monitors := mon.mapIdx monitorAt, locs := (arrayAt b (natAt b 48 4) 16 bn).map locAt
        locBase := natAt loc 20 4 },
     wrongIn [wrongAt gs (oscGroupBytesOk sig), wrongAt sig (fun r => decide (natAt r 8 1 < 4)), wrongAt mon (fun r => decide (natAt r 8 1 < 4))])

/-! ### TOP (R237, Tables 09-8 and 09-9) -/

/-- A node record. -/
def nodeAt (b : List Byte) : NodeRec := { vBase := word32 b 0, vOut := chan32 b 4, islOut := chan32 b 8 }

/-- A branch record. -/
def branchAt (b : List Byte) : BranchRec :=
  { nodeF := natAt b 0 2, nodeT := natAt b 2 2, switching := natAt b 4 1 == 1, interRule := natAt b 5 1 % 4, dflt := bitAt b 5 2, chan := chan32 b 8
    r := word32 b 12, x := word32 b 16, b := word32 b 20, tap := word32 b 24, phi := word32 b 28 }

/-- A measurement record. -/
def measAt (b : List Byte) : MeasRec := { chan := natAt b 0 4, kind := natAt b 4 1, at_ := natAt b 6 2, k := word32 b 8, sigma := word32 b 12 }

/-- A coherency record. -/
def cohAt (b : List Byte) : CohRec := { freq := natAt b 0 4, phasor := natAt b 4 4, out := natAt b 8 4, node := natAt b 12 2 }

/-- The TOP section. -/
def readTop (b : List Byte) (i : CfgImage) : SectionRead :=
  let n := natAt b 8 4
  let bn := natAt b 12 4
  let mn := natAt b 16 4
  let cn := natAt b 20 2
  let brs := arrayAt b (natAt b 40 4) 32 bn
  let ms := arrayAt b (natAt b 44 4) 16 mn
  let ok := headOk 10 64 b && decide (n ≤ 20480) && decide (bn ≤ 40960) && decide (mn ≤ 81920) && decide (cn ≤ 4096)
    && arrayOk b 64 (natAt b 36 4) 16 n && arrayOk b 64 (natAt b 40 4) 32 bn && arrayOk b 64 (natAt b 44 4) 16 mn && arrayOk b 64 (natAt b 48 4) 16 cn
    && decide (1000 ≤ natAt b 52 4) && decide (natAt b 52 4 ≤ 320000)
  readIf ok i
    ({ i with
        nodes := (arrayAt b (natAt b 36 4) 16 n).map nodeAt, branches := brs.map branchAt, meas := ms.map measAt
        cohs := (arrayAt b (natAt b 48 4) 16 cn).map cohAt
        sBase := word32 b 24, seBase := natAt b 28 4, islSummary := natAt b 32 4, nnzMax := natAt b 52 4 },
     wrongIn [wrongAt brs (fun r => decide (natAt r 4 1 < 2)), wrongAt ms (fun r => decide (natAt r 4 1 < 3))])

/-! ### DFS (R258, Tables 10-6 and 10-7) -/

/-- A graph record's trigger. -/
def triggerAt (b : List Byte) : Trigger :=
  let v := natAt b 4 4
  match natAt b 3 1 with
  | 0 => .section_ (v % 4) (v / 4 % 64)
  | 1 => .derived v
  | 2 => .event v
  | _ => .timer v

/-- A pin of a graph record: none where it holds 0xFF. -/
def pinAt (b : List Byte) (o : Nat) : Option Nat := if natAt b o 1 = 0xFF then none else some (natAt b o 1)

/-- A graph record over the nodes and arcs of the image's record: their operators' parameters, and the graph of an arc, have no stated encoding. -/
def graphAt (b : List Byte) (old : GraphRec) : GraphRec :=
  let f := natAt b 2 1
  { old with
    id := natAt b 0 2, lc := f % 4, supersede := f.testBit 2, skip := f.testBit 3, en := f.testBit 4
    trigger := triggerAt b, pinCluster := pinAt b 14, pinEngine := pinAt b 15 }

/-- The DFS section. -/
def readDfs (b : List Byte) (i : CfgImage) : SectionRead :=
  let n := natAt b 6 2
  let gs := arrayAt b (natAt b 32 4) 16 n
  let nodes := (i.graphs.map (fun g => g.nodes.length)).foldl (· + ·) 0
  let arcs := (i.graphs.map (fun g => g.arcs.length)).foldl (· + ·) 0
  let ok := headOk 11 64 b && decide (n ≤ 4096) && n == i.graphs.length && natAt b 8 4 == nodes && natAt b 12 4 == arcs
    && arrayOk b 64 (natAt b 32 4) 16 n && arrayOk b 64 (natAt b 36 4) 16 nodes && arrayOk b 64 (natAt b 40 4) 8 arcs
    && arrayOk b 64 (natAt b 44 4) (natAt b 20 4) 1
  readIf ok i
    ({ withRegs i [(Reg.DFS_SOWER_EPOCH, word32 b 24), (Reg.DFS_SOWER_CTRL, word32 b 28)] with
        graphs := (gs.zip i.graphs).map (fun x => graphAt x.1 x.2), dfsCatalogue := word32 b 16 },
     wrongIn [wrongAt gs (fun r => decide (natAt r 3 1 < 4)), (gs.zip i.graphs).findIdx? (fun x => natAt x.1 12 2 != x.2.nodes.length)])

/-! ### CYC (R284, Tables 11-11 and 11-12) -/

/-- An input entry. -/
def inputAt (b : List Byte) : InputRec :=
  let e := natAt b 2 2
  let v := natAt b 4 4
  { task := natAt b 1 1
    kind := match natAt b 0 1 with
      | 0 => .channel v
      | 1 => .detector v
      | 2 => .goose v e
      | 3 => .peer e v (natAt b 8 4)
      | 4 => .outStatus v
      | 5 => .dest v
      | _ => .system }

/-- An output entry. -/
def outputAt (b : List Byte) : OutputRec :=
  let e := natAt b 2 2
  let v := natAt b 4 4
  { task := natAt b 1 1
    kind := match natAt b 0 1 with
      | 0 => .pub (e / 256) (e % 256) v
      | 1 => .pin e
      | 2 => .peer e v
      | _ => .channel v }

/-- A destination record. -/
def destAt (b : List Byte) : DestRec := if natAt b 0 1 = 0 then .station (opt16 b 2) else .peer (natAt b 2 2)

/-- An instance record over the block type of the image's record, with the parameters that start at a byte. -/
def instAt (b : List Byte) (paths params : Nat) (r : List Byte) (old : InstRec) : InstRec :=
  { old with
    hash := BitVec.ofNat 64 (natAt r 0 8), path := bytesAt b (paths + natAt r 8 4) (natAt r 13 1), task := natAt r 12 1
    stateBytes := natAt r 16 4, params := (List.range (natAt r 20 4 / 4)).map (fun k => word32 b (params + 4 * k)) }

/-- Instance records with their initial parameters, which follow the array in record order. -/
def instsAt (b : List Byte) (paths : Nat) : Nat → List (List Byte) → List InstRec → List InstRec
  | o, r :: l, x :: old => instAt b paths o r x :: instsAt b paths (o + natAt r 20 4) l old
  | _, _, _ => []

/-- Task records, each followed by its call list padded to 64 B, over the call lists of the image's records. -/
def tasksAt (b : List Byte) : Nat → List TaskRec → List TaskRec
  | _, [] => []
  | o, x :: l => { x with period := natAt b o 4, budget := natAt b (o + 4) 4, wcet := natAt b (o + 8) 4 } ::
      tasksAt b (o + 16 + (natAt b (o + 12) 4 + 63) / 64 * 64) l

/-- Call lists within 65,536 B. -/
def callsOk (b : List Byte) : Nat → List TaskRec → Bool
  | _, [] => true
  | o, _ :: l => decide (natAt b (o + 12) 4 ≤ 65536) && callsOk b (o + 16 + (natAt b (o + 12) 4 + 63) / 64 * 64) l

/-- The CYC section over the block types, call lists and publications of the image's program, which have no stated encoding. -/
def readCyc (b : List Byte) (i : CfgImage) : SectionRead :=
  match i.program with
  | some p =>
    let n := natAt b 12 4
    let ni := natAt b 16 4
    let no := natAt b 20 4
    let nd := natAt b 26 2
    let insts := arrayAt b (natAt b 36 4) 24 n
    let ins := arrayAt b (natAt b 44 4) 12 ni
    let outs := arrayAt b (natAt b 48 4) 8 no
    let ds := arrayAt b (natAt b 56 4) 4 nd
    let ok := headOk 12 64 b && decide (n ≤ 8192) && n == p.insts.length && decide (ni ≤ 16384) && decide (no ≤ 8192) && decide (nd ≤ 128)
      && natAt b 24 2 == p.pubs.length && arrayOk b 64 (natAt b 36 4) 24 n && arrayOk b 64 (natAt b 44 4) 12 ni && arrayOk b 64 (natAt b 48 4) 8 no
      && arrayOk b 64 (natAt b 52 4) 128 (natAt b 24 2) && arrayOk b 64 (natAt b 56 4) 4 nd && callsOk b (natAt b 32 4) p.tasks
    readIf ok i ({ i with program := some { p with
        id := word32 b 8, taskEn := (List.range 4).map (fun k => bitAt b 6 k), pinMask := (List.range 8).map (fun k => bitAt b 7 k)
        pemVersion := natAt b 28 4, tasks := tasksAt b (natAt b 32 4) p.tasks
        insts := instsAt b (natAt b 40 4) (natAt b 36 4 + 24 * n) insts p.insts
        inputs := ins.map inputAt, outputs := outs.map outputAt, dests := ds.map destAt } },
      wrongIn [wrongAt insts (fun r => decide (natAt r 12 1 < 4) && decide (1 ≤ natAt r 13 1) && decide (natAt r 13 1 ≤ 127)),
        wrongAt ins (fun r => decide (natAt r 0 1 < 7) && decide (natAt r 1 1 < 4)),
        wrongAt outs (fun r => decide (natAt r 0 1 < 4) && decide (natAt r 1 1 < 4)), wrongAt ds (fun r => decide (natAt r 0 1 < 2))])
  | none => (i, some 0)

/-! ### ALM (R305, Table 12-5) -/

/-- An alarm record. -/
def alarmAt (b : List Byte) : AlarmRec :=
  { id := natAt b 0 2, sev := natAt b 2 1 % 4, latch := bitAt b 2 2, ackReq := bitAt b 2 3, record := bitAt b 2 4, queue := bitAt b 2 5
    pins := BitVec.ofNat 8 (natAt b 3 1), pub := if natAt b 4 1 = 0xFF then none else some (natAt b 4 1, natAt b 5 1) }

/-- The ALM section. -/
def readAlm (b : List Byte) (i : CfgImage) : SectionRead :=
  let n := natAt b 6 2
  let p := natAt b 8 1
  let al := arrayAt b (natAt b 12 4) 8 n
  let ok := headOk 13 64 b && decide (n ≤ 4096) && decide (p ≤ 64) && p == i.almPubs.length
    && arrayOk b 64 (natAt b 12 4) 8 n && arrayOk b 64 (natAt b 16 4) 4 8 && arrayOk b 64 (natAt b 20 4) 128 p
  readIf ok i
    ({ withRegs i ([(Reg.ALM_QUEUE, Word.ofNat (natAt b 10 1)), (Reg.EVR_QUEUE, Word.ofNat (natAt b 11 1))]
        ++ (List.range 8).map (fun k => (Reg.ALM_PIN_CTRL k, word32 b (natAt b 16 4 + 4 * k)))) with
        alarms := al.map alarmAt, almPins := BitVec.ofNat 8 (natAt b 9 1) },
     wrongAt al (fun r => decide (natAt r 0 2 < 4096) && (natAt r 4 1 == 0xFF || (decide (natAt r 4 1 < 64) && decide (natAt r 5 1 < 64)))))

/-! ### CAP (R326, Table 13-6) -/

/-- Channels of a recorder record: CHANNELS + 1, twelve bits of it for a ROW recorder. -/
def recChannels (b : List Byte) : Nat := 1 + (if bitAt b 0 1 then bitsOf (word32 b 0) 24 16 else bitsOf (word32 b 0) 27 16)

/-- A recorder record's registers; EV_SEV has no place in the table and keeps its value. -/
def recorderRegs (i : CfgImage) (r : Nat) (b : List Byte) : List (Nat × Word) :=
  let sev := ((i.settings.find? (fun (p : Nat × Word) => p.1 == Reg.CAP_R_EVCFG r)).map (fun p => p.2.toNat % 4)).getD 1
  [(Reg.CAP_R_CTRL r, word32 b 0), (Reg.CAP_R_PRE r, word32 b 4), (Reg.CAP_R_POST r, word32 b 8), (Reg.CAP_R_MAXPOST r, word32 b 12),
   (Reg.CAP_R_GATHER r, word32 b 16), (Reg.CAP_R_LIVE_DEPTH r, word32 b 20), (Reg.CAP_R_STORE r, word32 b 24), (Reg.CAP_R_EVMASK r, word32 b 32),
   (Reg.CAP_R_EVCFG r, Word.ofNat (sev + natAt b 36 2 * 65536)), (Reg.CAP_R_TIMEOUT r, Word.ofNat (natAt b 40 2))]

/-- Condition records follow one another up to the channel array. -/
def condRegs (b : List Byte) : List (Nat × Word) :=
  let r := natAt b 0 1
  let c := natAt b 1 1
  [(Reg.CAP_C_CTRL r c, Word.ofNat (natAt b 2 2)), (Reg.CAP_C_TH1 r c, word32 b 4), (Reg.CAP_C_TH2 r c, word32 b 8), (Reg.CAP_C_SRC r c, word32 b 12)]

/-- The CAP section. The condition array reaches to the channel array. -/
def readCap (b : List Byte) (i : CfgImage) : SectionRead :=
  let n := natAt b 6 1
  let rs := arrayAt b (natAt b 20 4) 64 n
  let conds := arrayAt b (natAt b 24 4) 16 ((natAt b 28 4 - natAt b 24 4) / 16)
  let chans := fun (r : List Byte) => (arrayAt b (natAt b 28 4 + 4 * natAt r 28 4) 4 (recChannels r)).map (fun c => natAt c 0 4)
  let ok := headOk 14 64 b && decide (n ≤ 16) && arrayOk b 64 (natAt b 20 4) 64 n && decide (64 ≤ natAt b 24 4) && decide (natAt b 28 4 ≤ b.length)
  readIf ok i
    ({ withRegs i ([(Reg.CAP_CTRL, Word.ofNat ((oldReg i Reg.CAP_CTRL).toNat % 2 + bit (bitAt b 7 0) * 2)), (Reg.CAP_DRAM_BASE_LO, word32 b 8),
          (Reg.CAP_DRAM_BASE_HI, word32 b 12), (Reg.CAP_DRAM_SIZE, word32 b 16)]
        ++ (rs.mapIdx (recorderRegs i)).flatten ++ (conds.map condRegs).flatten) with
        recorders := rs.mapIdx (fun k r => { id := k, chans := chans r, signSlot := natAt r 38 2, div := natAt r 42 2 }) },
     wrongIn [wrongAt rs (fun r => decide (natAt b 28 4 + 4 * (natAt r 28 4 + recChannels r) ≤ b.length)),
       wrongAt conds (fun r => decide (natAt r 0 1 < 16) && decide (natAt r 1 1 < 8))])

/-! ### HIF and HGW (R350, R373) -/

/-- A queue record (Table 14-10). -/
def queueAt (b : List Byte) : QueueRec :=
  { q := natAt b 0 1, log2depth := natAt b 1 1, producer := natAt b 2 1 % 16, consumer := natAt b 2 1 / 16
    vector := natAt b 3 1 % 64, irqEn := bitAt b 3 7, thresh := natAt b 4 1, itr := natAt b 5 2 }

/-- The HIF section. -/
def readHif (b : List Byte) (i : CfgImage) : SectionRead :=
  let n := natAt b 6 1
  readIf (headOk 15 64 b && decide (n ≤ 126) && arrayOk b 64 64 8 n) i
    ({ withRegs i [(Reg.HIF_CTRL, Word.ofNat ((oldReg i Reg.HIF_CTRL).toNat % 2 + natAt b 7 1 % 64 * 256)),
          (Reg.HIF_APER_BASE_LO, word32 b 8), (Reg.HIF_APER_BASE_HI, word32 b 12), (Reg.HIF_JRNL_BASE_LO, word32 b 16),
          (Reg.HIF_JRNL_BASE_HI, word32 b 20), (Reg.HIF_QSTALL, word32 b 24)] with
        queues := (arrayAt b 64 8 n).map queueAt }, none)

/-- The HGW section (Table 15-4). -/
def readHgw (b : List Byte) (i : CfgImage) : SectionRead :=
  let n := natAt b 32 2
  readIf (headOk 16 64 b && decide (n ≤ 4096) && arrayOk b 64 (natAt b 36 4) 8 n) i
    ({ withRegs i [(Reg.HGW_TORUS, Word.ofNat (natAt b 6 2)),
          (Reg.HGW_CTRL, Word.ofNat ((oldReg i Reg.HGW_CTRL).toNat % 2 + natAt b 8 1 % 64 * 256)), (Reg.HGW_SYSTEM_ID, word32 b 12),
          (Reg.HGW_TIME_LIMIT, word32 b 16), (Reg.HGW_EVT_FWD, word32 b 20), (Reg.HGW_SOWER_CTRL, word32 b 24), (Reg.HGW_LP_CTRL, word32 b 28)] with
        pins := (arrayAt b (natAt b 36 4) 8 n).map (fun r => (natAt r 0 2, natAt r 2 2, natAt r 4 2)) }, none)

/-! ### The image -/

/-- A section's bytes read into the image, by the section's place in the load order; TIM and SPT have no table of their own. -/
def readSection (n : Nat) (b : List Byte) (i : CfgImage) : SectionRead :=
  match n with
  | 0 => readSys b i
  | 1 => readBoot b i
  | 3 => readBkd b i
  | 5 => readDec b i
  | 6 => readAln b i
  | 7 => readWav b i
  | 8 => readMtr b i
  | 9 => readOsc b i
  | 10 => readTop b i
  | 11 => readDfs b i
  | 12 => readCyc b i
  | 13 => readAlm b i
  | 14 => readCap b i
  | 15 => readHif b i
  | 16 => readHgw b i
  | 17 => readTwn b i
  | _ => (i, none)

/-- The bytes that the image holds of a section; none where the image's records stand for them (log entry 10). -/
def sectionData (i : CfgImage) (n : Nat) : Option (List Byte) :=
  (i.dir.find? (fun d => d.ident.toNat == secId n && !d.data.isEmpty)).map (fun d => d.data)

/-- The image with the sections whose bytes it holds read into its records, in the load order. -/
def readImage (i : CfgImage) : CfgImage :=
  (List.range 18).foldl (fun (j : CfgImage) n => match sectionData i n with
    | some b => (readSection n b j).1
    | none => j) i

/-- The record at which a section's bytes are wrong. -/
def bytesBad (i : CfgImage) (n : Nat) : Option Nat := (sectionData i n).bind (fun b => (readSection n b i).2)

end Sys2Proof.Machine
end

