-- ==== Sys2Proof/Machine/Load.lean ====
section
/-!
DEFINITION. Loading a configuration image into the blocks: its records, the load checks of every chapter (R432), and what the commit starts (R434).
-/
namespace Sys2Proof.Machine

/-- Why an image is refused: section identifier, cause of BOOT_REFUSE_INFO and record index. -/
structure LoadError where
  section_ : Nat
  cause : Nat
  index : Nat
  deriving DecidableEq, Repr

/-! ### Ranges of fields (register tables of the chapters) -/

/-- A range that a written field must lie in, else the field keeps its value: the register (the first of its array), bits, least, most. -/
structure FieldRange where
  key : Nat
  hi : Nat
  lo : Nat
  least : Nat
  most : Nat
  deriving DecidableEq, Repr

/-- Fields whose writes outside a range are ignored. -/
def fieldRanges : List FieldRange :=
  [⟨Reg.SPT_PRP_TIMEOUT 0, 31, 0, 10, 60000⟩, ⟨Reg.SPT_MAXLEN 0, 13, 0, 1518, 9600⟩, ⟨Reg.DEC_OUT_CFG_DELAY, 31, 0, 0, 60⟩, ⟨Reg.DEC_OUT_WAIT 0, 31, 0, 0, 1000000⟩,
   ⟨Reg.DEC_OUT_CTRL 0, 15, 8, 1, 240⟩, ⟨Reg.WAV_AFE_HOLD, 9, 0, 1, 1000⟩, ⟨Reg.WAV_CH_CTRL 0, 11, 8, 0, 8⟩,
   ⟨Reg.WAV_CH_CTRL 8192, 11, 8, 0, 8⟩, ⟨Reg.WAV_CH_ENV_TC 0, 13, 0, 1, 10000⟩, ⟨Reg.MTR_SAVE_PERIOD, 31, 0, 60, 3600⟩,
   ⟨Reg.MTR_PULSE_K 0, 31, 0, 1, 4294967295⟩]
  ++ [⟨Reg.TIM_CTRL, 1, 0, 0, 1⟩, ⟨Reg.TIM_CTRL, 11, 8, 1, 15⟩, ⟨Reg.TIM_LOCK_THRESH, 31, 0, 10, 100000⟩, ⟨Reg.TIM_STEP_THRESH, 31, 0, 1000, 1000000000⟩,
   ⟨Reg.TIM_HOLD_DRIFT, 31, 0, 1, 10000⟩, ⟨Reg.TIM_HOLD_LIMIT, 31, 0, 100, 100000000⟩, ⟨Reg.TIM_PPS_OUT, 31, 4, 1, 500000⟩,
   ⟨Reg.TIM_PTP_CTRL, 1, 0, 0, 1⟩]
  ++ [⟨Reg.OSC_MON_PARAM, 15, 0, 10, 6000⟩, ⟨Reg.OSC_MON_PARAM, 23, 16, 1, 255⟩, ⟨Reg.OSC_MON_PARAM, 31, 24, 1, 255⟩,
   ⟨Reg.OSC_LOC_WIN, 6, 0, 5, 120⟩, ⟨Reg.OSC_LOC_SRC, 22, 20, 0, 5⟩, ⟨Reg.OSC_G_BAND 0, 15, 0, 1, 500⟩,
   ⟨Reg.OSC_G_BAND 0, 31, 16, 1, 500⟩, ⟨Reg.OSC_G_WINDOW 0, 10, 0, 30, 1200⟩, ⟨Reg.OSC_G_REFRESH 0, 13, 0, 250, 10000⟩,
   ⟨Reg.OSC_G_MODES 0, 4, 0, 1, 16⟩, ⟨Reg.OSC_G_MODES 0, 12, 8, 0, 25⟩]
  ++ [⟨Reg.DFS_SOWER_CTRL, 15, 8, 1, 50⟩, ⟨Reg.DFS_SOWER_CTRL, 23, 16, 1, 255⟩, ⟨Reg.DFS_LOAD_WIN, 9, 0, 1, 1000⟩,
   ⟨Reg.CAP_R_PRE 0, 31, 0, 0, 1048575⟩, ⟨Reg.CAP_R_POST 0, 31, 0, 1, 1048575⟩, ⟨Reg.CAP_R_MAXPOST 0, 31, 0, 1, 4194303⟩,
   ⟨Reg.CAP_R_TIMEOUT 0, 11, 0, 1, 3600⟩, ⟨Reg.CAP_R_GATHER 0, 16, 0, 0, 100000⟩, ⟨Reg.CAP_R_EVCFG 0, 28, 16, 0, 4096⟩,
   ⟨Reg.CAP_C_CTRL 0 0, 15, 8, 1, 255⟩]
  ++ [⟨Reg.HIF_QSTALL, 31, 0, 1, 5000⟩, ⟨Reg.HGW_LP_CTRL, 14, 8, 1, 100⟩, ⟨Reg.HGW_TIME_LIMIT, 31, 0, 10, 100000⟩,
   ⟨Reg.HGW_SOWER_CTRL, 7, 4, 1, 12⟩, ⟨Reg.HGW_SOWER_CTRL, 15, 8, 1, 50⟩, ⟨Reg.HGW_SOWER_CTRL, 23, 16, 1, 255⟩,
   ⟨Reg.TWN_CMP_LIMIT, 31, 0, 1, 65535⟩, ⟨Reg.HLT_CTRL, 15, 8, 1, 255⟩, ⟨Reg.HLT_TEMP_INDEX, 4, 0, 0, 23⟩,
   ⟨Reg.PMC_SAMPLE_DEPTH, 31, 0, 64, 1048576⟩, ⟨Reg.MEM_SCRUB, 7, 0, 1, 168⟩]

/-- A written value with every field that is out of range replaced by that field of the old value; ACTION of SPT_PORT_DEFAULT takes 0 and 2 only. -/
def ranged (key : Nat) (old v : Word) : Word :=
  let v := if key = Reg.SPT_PORT_DEFAULT 0 && v.getLsbD 0 then withBits v 1 0 (bitsOf old 1 0) else v
  (fieldRanges.filter (fun r => r.key == key)).foldl (fun (w : Word) r =>
    if r.least ≤ bitsOf v r.hi r.lo && bitsOf v r.hi r.lo ≤ r.most then w else withBits w r.hi r.lo (bitsOf old r.hi r.lo)) v

/-- Every ranged field of a value lies in its range. -/
def rangeOk (key : Nat) (v : Word) : Bool := ranged key (~~~v) v == v

/-- The first register of the array that a register belongs to. -/
def rangeKey (a : Nat) : Nat := match regDesc a with
  | some d => a / 0x100000 * 0x100000 + d.off
  | none => a

/-- A Caddy slot number that a key field accepts (R83). -/
def slotOk (n : Nat) : Bool := decide (n < 512) || n == 0xFFFF

/-- A write of OSC_MON_PARAM: each field of it that lies in its range (R203). -/
def monParam (v : Word) (c : MonitorRec) : MonitorRec :=
  let old := Word.ofNat (c.tAvg / 10 % 2 ^ 16 + c.tSus % 256 * 2 ^ 16 + c.zetaF % 256 * 2 ^ 24)
  let w := ranged Reg.OSC_MON_PARAM old v
  { c with tAvg := bitsOf w 15 0 * 10, tSus := bitsOf w 23 16, zetaF := bitsOf w 31 24 }

/-- A band's edge register of the selected monitor: 0 f_lo, 1 f_hi, 2 A_th. -/
def monBand (b k : Nat) (v : Word) (c : MonitorRec) : MonitorRec :=
  let l := (List.range 6).map (fun i => monEdge c i)
  let (x, y, z) := monEdge c b
  { c with edges := l.set b (if k = 0 then (v, y, z) else if k = 1 then (x, v, z) else (x, y, v)) }

/-! ### Sections (R431, R432) -/

/-- The place in the load order of the section that holds a block's register fields (Table 01-5); none for a block without a section. -/
def blockSection (offset : Nat) : Option Nat :=
  match offset / 0x100000 with
  | 0x00 => some 0
  | 0x13 => some 1
  | 0x03 => some 2
  | 0x12 => some 3
  | 0x01 => some 4
  | 0x02 => some 5
  | 0x04 => some 6
  | 0x05 => some 7
  | 0x06 => some 8
  | 0x07 => some 9
  | 0x08 => some 10
  | 0x09 => some 11
  | 0x0A => some 12
  | 0x0B => some 13
  | 0x0C => some 13
  | 0x0D => some 14
  | 0x0E => some 15
  | 0x0F => some 16
  | 0x10 => some 17
  | _ => none

/-- The image holds the n-th section. -/
def hasSection (i : CfgImage) (n : Nat) : Bool := i.dir.any (fun d => d.ident.toNat == secId n)

/-- Records of a section that the image holds. -/
def recs {α : Type} (i : CfgImage) (n : Nat) (l : List α) : List α := if hasSection i n then l else []

/-- A register takes the fields of a value that the image may set. -/
def State.imageReg (s : State) (a : Nat) (v : Word) : State :=
  match regDesc a with
  | some d =>
    let m := d.live ||| d.staged ||| d.locked
    s.setReg a ((s.reg a &&& ~~~m) ||| (v &&& m))
  | none => s

/-- The register fields of the sections that the image holds. -/
def State.fillRegs (s : State) (i : CfgImage) : State :=
  i.settings.foldl (fun (s : State) (p : Nat × Word) =>
    match blockSection p.1 with
    | some n => if hasSection i n then s.imageReg p.1 p.2 else s
    | none => s) s

/-! ### Records into blocks -/

/-- Device Time's second follows the RTC through TIM_TAI_UTC (R98); while RTC_VALID is clear it is that of tick 0 (R407). -/
def State.timeFromRtc (s : State) (phase : Nat) : State :=
  let utc := (if s.bkd.rtcValid then s.bkd.count.toNat / 32768 else 0) + 946684800
  let tai := ((utc : Int) + (BitVec.ofNat 16 (s.field Reg.TIM_TAI_UTC 15 0)).toInt).toNat
  let t := tai * 1000000000 + phase % 1000000000
  let k := s.tim.ticks
  { s with tim := { s.tim with ns := BitVec.ofNat 32 t, hi := BitVec.ofNat 32 (t / 2 ^ 32), checkDt := t, checkTicks := k, lastSec := tai } }

/-- Streams, channel map, output streams and R-SV publications (R91). -/
def State.fillDec (s : State) (i : CfgImage) : State :=
  let streams := (recs i 5 i.streams).foldl (fun (l : List (Nat × StreamEntry)) (e : Nat × StreamRec) =>
    kvPut l e.1 { cfg := e.2, state := e.2.state }) []
  let map := (recs i 5 i.map).foldl (fun (l : List (Nat × MapEntry)) (e : Nat × MapEntry) => kvPut l e.1 e.2) []
  { s with dec := { s.dec with
      streams := streams, map := map
      outs := (recs i 5 i.outs).map (fun (c : OutRec) => ({ cfg := c } : OutState))
      rsvs := (recs i 5 i.rsvs).map (fun (c : RsvRec) => ({ cfg := c } : RsvState)) } }

/-- A group record's registers (Table 05-11). -/
def State.fillGroup (s : State) (r : GroupRec) : State :=
  let g := r.rg
  let s := s.setReg (Reg.ALN_RG_CFG g) (Word.ofNat (r.rate % 256 + r.sections % 128 * 256))
  let s := (s.setReg (Reg.ALN_RG_DERIVE g) (Word.ofNat r.derive)).setReg (Reg.ALN_RG_HORIZON g) (Word.ofNat r.horizon)
  let s := s.setReg (Reg.ALN_RG_HIST_CTRL g)
    (Word.ofNat (bit r.histEn + 2 * bit r.retain + 16 * bit r.revOsc + 32 * bit r.revCap + 64 * bit r.revHost))
  let s := (s.setPair (Reg.ALN_RG_HIST_BASE_LO g) (Reg.ALN_RG_HIST_BASE_HI g) r.ringBase).setReg (Reg.ALN_RG_HIST_DEPTH g) (Word.ofNat r.depth)
  s.setFlag Reg.ALN_CTRL g true

/-- A section record's registers (Table 05-12). -/
def State.fillSection (s : State) (r : SectionRec) : State :=
  let s := s.setReg (Reg.ALN_SEC_CTRL r.rg r.sec) (Word.ofNat (r.lc % 4 + 16 * bit r.adaptive))
  let s := s.setReg (Reg.ALN_SEC_HMAX r.rg r.sec) (Word.ofNat r.hmax)
  let s := s.setReg (Reg.ALN_SEC_MARGIN r.rg r.sec) (Word.ofNat (r.margin % 65536 + r.hyst % 65536 * 65536))
  s.setField (Reg.ALN_SEC_DEADLINE r.rg r.sec) 18 0 r.hmax

/-- LC0 channels (Table 05-5). -/
def State.lc0Chans (s : State) : Nat := (s.aln.chans.filter (fun c => !c.2.derived && s.secLc c.2.rg c.2.sec == 0)).length

/-- Groups, sections and channels (R144). -/
def State.fillAln (s : State) (i : CfgImage) : State :=
  let s := (recs i 6 i.groups).foldl State.fillGroup s
  let s := (recs i 6 i.sections).foldl State.fillSection s
  let chans := (recs i 6 i.chans).foldl (fun (l : List (Nat × ChanRec)) (c : ChanRec) => kvPut l c.chan c) []
  let s := { s with aln := { s.aln with chans := chans } }
  let s := (List.range 4).foldl (fun (s : State) g =>
    if !s.groupOn g then s
    else
      let s := s.setReg (Reg.ALN_RG_HEADLAND g) (Word.ofNat (headlandOf s.reg g (s.sectionCount g)))
      (s.setReg (Reg.ALN_RG_CHANNELS g) (Word.ofNat (s.rowChans g))).setReg (Reg.ALN_RG_STRIDE g) (Word.ofNat (s.stride g))) s
  (s.setReg Reg.ALN_LC0_CHANNELS (Word.ofNat s.lc0Chans)).setReg Reg.ALN_HOLD_CHANNELS
    (Word.ofNat ((s.aln.chans.filter (fun c => c.2.holdEn)).length))

/-- Outputs, coefficient sets and enabled channels (R168). -/
def State.fillWav (s : State) (i : CfgImage) : State :=
  let on := ((i.settings.map (fun (p : Nat × Word) => p.1)).filter (fun a => 0x510000 ≤ a && a < 0x510000 + 8208 * 0x40 && a % 0x40 == 0)).map
    (fun a => (a - 0x510000) / 0x40)
  let on := on.filter (fun c => s.flag (Reg.WAV_CH_CTRL c) 0)
  let chans := on.foldl (fun (l : List (Nat × WavChan)) c => kvPut l c ({ lastArr := s.elapsed } : WavChan)) []
  { s with wav := { s.wav with
      chans := chans, coefs := recs i 7 i.coefs, outs := (recs i 7 i.wavOuts).map (fun (o : WavOutRec) => (o, 0)) } }

/-- Meter points and tables (R188). -/
def State.fillMtr (s : State) (i : CfgImage) : State :=
  let points := (recs i 8 i.meters).foldl (fun (l : List (Nat × MeterPoint)) (m : MeterRec) =>
    if s.flag Reg.MTR_CTRL 0 && s.flag (Reg.MTR_MP_CTRL m.mp) 0 then kvPut l m.mp { cfg := m, accs := List.replicate 40 {} } else l) []
  { s with mtr := { s.mtr with points := points, pulses := List.replicate 8 {}, tables := recs i 8 i.tables } }

/-- Signals, monitors and location (R214). -/
def State.fillOsc (s : State) (i : CfgImage) : State :=
  let groups := ((List.range 32).filter (fun g => s.oscOn g)).map (fun g => (g, ({} : OscGroup)))
  let mons := (recs i 9 i.monitors).foldl (fun (l : List (Nat × MonitorState)) (m : MonitorRec) =>
    kvPut l m.id { cfg := m, bands := List.replicate 6 {} }) []
  let s := s.setField Reg.OSC_STATUS 5 0 groups.length
  { s with osc := { s.osc with
      groups := groups, signals := recs i 9 i.signals, monitors := mons
      branches := (recs i 9 i.locs).map (fun (b : LocBranch) => ({ cfg := b } : LocState)), locBase := i.locBase } }

/-- The network model (R237). -/
def State.fillTop (s : State) (i : CfgImage) : State :=
  let brs := recs i 10 i.branches
  let sw := (brs.mapIdx (fun k (b : BranchRec) => (k, b))).filter (fun x => x.2.switching)
  let meas := recs i 10 i.meas
  let s := if hasSection i 10 then s.setReg Reg.TOP_NNZ_MAX (Word.ofNat i.nnzMax) else s
  { s with top := { s.top with
      nodes := recs i 10 i.nodes, branches := brs, meas := meas, cohs := recs i 10 i.cohs, sBase := i.sBase, seBase := i.seBase
      islSummary := i.islSummary
      sw := sw.map (fun x => (x.1, ({ closed := x.2.dflt, prev := x.2.dflt } : SwitchState)))
      baseline := sw.map (fun x => (x.1, x.2.dflt))
      want := meas.map (fun _ => true), absentRun := meas.map (fun _ => 0), presentRun := meas.map (fun _ => 0)
      energised := (recs i 10 i.nodes).map (fun _ => (none : Option Nat)), cohOf := (recs i 10 i.cohs).map (fun _ => 0xFF) } }

/-- The class of a graph: that of the section that triggers it, else that of its record (R30). -/
def State.triggerLc (s : State) (g : GraphRec) : Nat :=
  match g.trigger with
  | .section_ rg sec => s.secLc rg sec
  | _ => g.lc

/-- Graphs, engines and clusters (R258), before the Sower places them. -/
def State.fillDfs (s : State) (i : CfgImage) : State :=
  if !s.flag Reg.DFS_CTRL 0 then s
  else
    let graphs := (recs i 11 i.graphs).foldl (fun (l : List (Nat × GraphState)) (g : GraphRec) =>
      kvPut l g.id { cfg := { g with lc := s.triggerLc g }, blocks := g.nodes.map (fun _ => []) }) []
    let s := { s with dfs := { s.dfs with graphs := graphs, engines := List.replicate 64 {} } }
    let s := (List.range 64).foldl (fun (s : State) e => (s.setFlag (Reg.DFS_PE_STATUS e) 0 true).setFlag (Reg.DFS_PE_STATUS e) 6 (60 ≤ e)) s
    let s := (List.range 8).foldl (fun (s : State) c => s.setField (Reg.DFS_CL_STATUS c) 7 0 (if c = 7 then 0x0F else 0xFF)) s
    s.setField Reg.DFS_STATUS 7 0 0xFF

/-- A graph that its owner's clusters cannot hold goes to the nearest device that can (R369). -/
def State.sowAbroad (s : State) (g : Nat) : Option State :=
  match s.graph g with
  | some x =>
    let own := s.ownId
    let near := (s.devicesByHops own).filter (fun d => d != own && (x.cfg.lc != 0 || decide (s.torusHops own d ≤ 2)))
    let d := if s.flag Reg.HGW_CTRL 0 then near.find? (fun d => Config.remoteFits s.free d own g) else none
    d.map (fun (d : Nat) => ({ s with hgw := { s.hgw with
      away := (g, 0, d) :: s.hgw.away, unsent := s.hgw.unsent ++ [(own, g, 0, d)] } } : State).useFree 1)
  | none => none

/-- Places every graph in rising number (R252, R369): the first that cannot be placed refuses the image. -/
def State.sowAll (s : State) : List Nat → Except Nat State
  | [] => .ok s
  | g :: r =>
    match s.sow g with
    | some s' => s'.sowAll r
    | none =>
      match s.sowAbroad g with
      | some s' => s'.sowAll r
      | none => .error g

/-- Alarms and alarm publications (R305), and the pins that ALM and CYC own (R271). -/
def State.fillAlm (s : State) (i : CfgImage) : State :=
  let alarms := (recs i 13 i.alarms).foldl (fun (l : List (Nat × AlarmState)) (a : AlarmRec) => kvPut l a.id { cfg := a }) []
  let mask := ((if hasSection i 12 then i.program else none).map (fun p => p.pinMask)).getD []
  { s with alm := { s.alm with
      alarms := alarms
      pubs := (recs i 13 i.almPubs).map (fun (c : PubRec) =>
        ({ cfg := c, elems := List.replicate c.elements (0, 0), spacing := c.tMin * 1000000 } : PubState))
      pins := s.alm.pins.mapIdx (fun k (p : PinState) => { p with byCyc := mask.getD k false, byAlm := hasSection i 13 && i.almPins.getLsbD k }) } }.showPins

/-- Recorders; those kept by RETAIN keep their captures (R325, R326). -/
def State.fillCap (s : State) (i : CfgImage) : State :=
  let old := s.cap.recs
  let l := (recs i 14 i.recorders).map (fun (r : RecorderRec) =>
    let base : RecorderState := { cfg := r, conds := List.replicate 8 {} }
    match kvGet old r.id with
    | some o => if o.cfg = r then (r.id, { base with stored := o.stored.map (fun (c : Capture) => { c with exporting := false }) }) else (r.id, base)
    | none => (r.id, base))
  let s := { s with cap := { s.cap with recs := l } }
  l.foldl (fun (s : State) x => s.showStore x.1) s

/-- A queue record's registers (Table 14-10). -/
def State.fillQueue (s : State) (r : QueueRec) : State :=
  let s := s.setReg (Reg.HIF_Q_CTRL r.q) (Word.ofNat (1 + r.log2depth % 16 * 2 + r.producer % 16 * 2 ^ 8 + r.consumer % 16 * 2 ^ 12
    + r.vector % 64 * 2 ^ 16 + bit r.irqEn * 2 ^ 22))
  s.setReg (Reg.HIF_Q_IRQ r.q) (Word.ofNat (r.thresh % 256 + r.itr % 65536 * 256))

/-- Pins, forwarded sections and the position of the device (R352, R373). -/
def State.fillHgw (s : State) (i : CfgImage) : State :=
  let dx := max 1 (s.field Reg.HGW_TORUS 3 0)
  let dy := max 1 (s.field Reg.HGW_TORUS 7 4)
  let d := s.ownId
  let s := s.setReg Reg.HGW_POS (Word.ofNat (d % dx % 8 + d / dx % dy % 8 * 16 + d / dx / dy % 8 * 256))
  { s with hgw := { s.hgw with
      pins := recs i 16 i.pins
      away := ((recs i 16 i.pins).filter (fun (p : Nat × Nat × Nat) => p.1 == d && p.2.2 != d)).map (fun (p : Nat × Nat × Nat) => (p.2.1, 0, p.2.2))
      unsent := ((recs i 16 i.pins).filter (fun (p : Nat × Nat × Nat) => p.1 == d && p.2.2 != d)).map (fun (p : Nat × Nat × Nat) => (d, p.2.1, 0, p.2.2)) } }

/-- Every section's registers and records, in place but not running. -/
def State.fill (s : State) (i : CfgImage) : State :=
  let s := s.fillRegs i
  let s := if hasSection i 2 then s.timeFromRtc s.now else s
  let s := ((((s.fillDec i).fillAln i).fillWav i).fillMtr i).fillOsc i
  let s := ((s.fillTop i).fillDfs i).fillAlm i
  (((recs i 15 i.queues).foldl State.fillQueue (s.fillCap i))).fillHgw i

/-! ### The limits of each section -/

/-- The index of the first record that breaks a limit. -/
def firstBad {α : Type} (l : List α) (ok : α → Bool) : Option Nat := l.findIdx? (fun x => !ok x)

/-- A limit on the whole section is broken. -/
def broken (ok : Bool) : Option Nat := if ok then none else some 0

/-- The first of several limits that is broken. -/
def firstOf (l : List (Option Nat)) : Option Nat := (l.filterMap id).head?

/-- A stream type that carries samples of waveform channels. -/
def svType : StreamType → Bool
  | .sv92 => true
  | .sv61869 => true
  | .rsv => true
  | _ => false

/-- A rate of sampled values is supported (R77). -/
def svRateOk (n : Nat) : Bool := (4000 ≤ n && n ≤ 4800) || (8000 ≤ n && n ≤ 9600) || (12000 ≤ n && n ≤ 14400)

/-- The modes that a port allows (Table 02-1). -/
def modeOk (p m : Nat) : Bool := if p < 4 then m ≤ 2 else m = 0 || m = 3 || m = 4

/-- The FEC options of a port's mode (Table 02-1). -/
def fecOk (m fec : Nat) : Bool := if m = 1 then fec ≤ 2 else if m = 2 then fec ≤ 1 else fec = 0

/-- The rules of a port that steer to the decoder: 256 rules on a station port, 64 on a management port (R52). -/
def State.decRules (s : State) (p : Nat) : List Nat :=
  (List.range (if p < 4 then 256 else 64)).filter (fun k => s.flag (Reg.SPT_RULE_CTRL p k) 0 && s.field (Reg.SPT_RULE_CTRL p k) 9 8 == 1)

/-- SPT limits (R43, R46, R48, R50, R64). -/
def State.limitSpt (s : State) : Option Nat :=
  let maxlen := fun (p : Nat) => s.field (Reg.SPT_MAXLEN p) 13 0
  let silent := fun (q : Nat) => (s.reg (Reg.SPT_PRP_TIMEOUT (2 * q))).toNat
  firstOf [firstBad (List.range 6) (fun p => modeOk p (s.portMode p) && fecOk (s.portMode p) (s.field (Reg.SPT_PORT_CTRL p) 5 4)),
    firstBad (List.range 6) (fun p => 1518 ≤ maxlen p && maxlen p ≤ 9600),
    firstBad (List.range 2) (fun q => 10 ≤ silent q && silent q ≤ 60000),
    firstBad (List.range 2) (fun q => !s.flag (Reg.SPT_PRP_CTRL q) 0 || s.portMode (2 * q) == s.portMode (2 * q + 1)),
    firstBad [4, 5] (fun p => (s.decRules p).isEmpty),
    firstBad (List.range 6) (fun p => s.portMode p != 0 || (s.decRules p).isEmpty)]

/-- Whether two channel ranges share a channel. -/
def overlap (a b : StreamRec) : Bool :=
  decide (a.chanBase < b.chanBase + b.chanCount) && decide (b.chanBase < a.chanBase + a.chanCount)

/-- Streams whose channels collide: row channels with row channels, waveform channels with waveform channels (R69, R146). -/
def collide (a b : StreamRec) : Bool := a.typ != .unused && b.typ != .unused && svType a.typ == svType b.typ && overlap a b

/-- No earlier element of a list is related to a later one. -/
def pairwise {α : Type} (r : α → α → Bool) : List α → Bool
  | [] => true
  | x :: l => l.all (fun y => !r x y) && pairwise r l

/-- What one stream record may hold: PMU blocks, ASDUs and their values, or data-set elements, waveform channels, and no TCP data transport (R72, R77, R84, R146). -/
def streamRecOk (e : StreamRec) : Bool :=
  match e.typ with
  | .c37 => !e.tcp && decide (1 ≤ e.units) && decide (e.units ≤ 256)
  | .sv92 | .sv61869 | .rsv =>
    decide (1 ≤ e.units) && decide (e.units ≤ 8) && decide (e.chanCount ≤ 32) && decide (e.chanBase + e.chanCount ≤ 8192) && svRateOk e.rate
  | .goose | .rgoose => decide (e.elems.length ≤ 64) && e.elems.length == e.units
  | _ => true

/-- A value position that a stream's frames can hold: 32 values of an ASDU, 64 elements of a data set (R77, R84). -/
def mapPosOk (i : CfgImage) (e : StreamRec) : Bool :=
  let top := if svType e.typ then 32 else if e.typ == .goose || e.typ == .rgoose then e.units else 65536
  (i.map.filter (fun m => decide (e.mapBase ≤ m.1) && decide (m.1 < e.mapBase + e.chanCount))).all (fun m => decide (m.2.pos < top))

/-- DEC limits (R67, R69, R72, R77, R84, R86, R90, R91, R146). -/
def State.limitDec (s : State) (i : CfgImage) : Option Nat :=
  let st := recs i 5 i.streams
  firstOf [firstBad st (fun e => decide (e.1 < 16384)), broken (decide ((st.map (fun e => e.1)).Nodup)),
    firstBad (recs i 5 i.map) (fun e => decide (e.1 < 270336)),
    broken (decide ((recs i 5 i.outs).length ≤ 64) && decide ((recs i 5 i.rsvs).length ≤ 32)),
    firstBad (recs i 5 i.outs) (fun o => decide (1 ≤ o.blocks.length) && decide (o.blocks.length ≤ 256)),
    firstBad (recs i 5 i.rsvs) (fun r => decide (r.channels.length ≤ 64)),
    broken (pairwise (fun (a b : Nat × StreamRec) => a.2.typ != .unused && a.2.typ == b.2.typ && a.2.key == b.2.key) st),
    broken (pairwise (fun (a b : Nat × StreamRec) => collide a.2 b.2) st),
    firstBad st (fun e => streamRecOk e.2 && mapPosOk i e.2),
    firstBad (recs i 5 i.outs) (fun o => decide (o.id < 64) && decimOk (s.rate o.rg) (s.field (Reg.DEC_OUT_CTRL o.id) 15 8)),
    firstBad (recs i 5 i.rsvs) (fun r => decide (r.id < 32))]

/-- ALN limits (Tables 05-10 to 05-13, R123). -/
def limitAln (i : CfgImage) : Option Nat :=
  let gs := recs i 6 i.groups
  let secs := recs i 6 i.sections
  let cs := recs i 6 i.chans
  firstOf [broken (decide (gs.length ≤ 4) && decide ((gs.map (fun g => g.rg)).Nodup) && (gs.isEmpty == !hasSection i 6)),
    firstBad gs (fun g => g.rg < 4 && 1 ≤ g.rate && g.rate ≤ 240 && 1 ≤ g.sections && g.sections ≤ 64 && 500 ≤ g.derive && g.derive ≤ 100000
      && g.horizon ≤ 60000 && g.ringBase % 4096 == 0),
    broken (decide (secs.length ≤ 256)),
    firstBad secs (fun x => gs.any (fun g => g.rg == x.rg && decide (x.sec < g.sections)) && decide (x.lc < 4) && 2000 ≤ x.hmax && x.hmax ≤ 500000
      && x.hyst ≤ 10000),
    broken (decide (cs.length ≤ 262144)),
    firstBad cs (fun c => decide (c.chan < 262144) && decide (c.rg < 4)
      && (c.derived || gs.all (fun g => g.rg != c.rg || decide (c.sec < g.sections)))
      && !(c.derived && c.holdEn) && (!c.holdEn || (1 ≤ c.holdMax && c.holdMax ≤ 255))),
    broken (decide ((cs.filter (fun c => c.holdEn)).length ≤ 16384))]

/-- Waveform channels that the image's WAV section gives a record, enabled or not. -/
def wavNamed (i : CfgImage) : List Nat :=
  (((i.settings.map (fun (p : Nat × Word) => p.1)).filter (fun a => decide (0x510000 ≤ a) && decide (a < 0x510000 + 8208 * 0x40))).map
    (fun a => (a - 0x510000) / 0x40)).eraseDups

/-- A channel record's fields lie in their ranges (Tables 06-11 and 06-14, R149, R150, R160, R168). -/
def State.wavFieldsOk (s : State) (c : Nat) : Bool :=
  let ctrl := s.reg (Reg.WAV_CH_CTRL c)
  let dec := s.reg (Reg.WAV_CH_DECIM c)
  let mr := bitsOf ctrl 23 16
  let d := (BitVec.ofNat 18 (bitsOf (s.reg (Reg.WAV_CH_DELAY c)) 17 0)).toInt
  bitsOf ctrl 11 8 ≤ 8 && 1 ≤ bitsOf dec 12 0 && bitsOf dec 12 0 ≤ 4096 && 1 ≤ mr && mr ≤ 240 && 4800 % max 1 mr == 0
    && decide (-65536 ≤ d) && decide (d ≤ 65536) && 1 ≤ bitsOf (s.reg (Reg.WAV_CH_ENV_TC c)) 13 0 && bitsOf (s.reg (Reg.WAV_CH_ENV_TC c)) 13 0 ≤ 10000

/-- GAIN of a local input is 0 to 2, and AUTO stands only on inputs 8 to 15 with GAIN 1 or 2 (R165, Table 06-13). -/
def State.afeOk (s : State) (l : Nat) : Bool :=
  let c := s.reg (Reg.WAV_AFE_CTRL l)
  bitsOf c 1 0 != 3 && (!c.getLsbD 4 || (decide (8 ≤ l) && (bitsOf c 1 0 == 1 || bitsOf c 1 0 == 2)))

/-- WAV limits, of the records of disabled channels too (R149, R159, R160, R165, R168). -/
def State.limitWav (s : State) (i : CfgImage) : Option Nat :=
  let outs := recs i 7 i.wavOuts
  let on := s.wav.chans.map (fun c => c.1)
  let named := wavNamed i
  firstOf [broken (decide (named.length ≤ 8208) && decide (outs.length ≤ 4096) && decide (s.wav.coefs.length ≤ 16) && s.field Reg.WAV_SYNC 1 0 ≤ 1
      && 1 ≤ s.field Reg.WAV_AFE_HOLD 9 0 && s.field Reg.WAV_AFE_HOLD 9 0 ≤ 1000),
    firstBad s.wav.coefs (fun k => k.taps.length == 16 * k.m + 1 || k.taps.length == 32 * k.m + 1),
    firstBad named (fun c => s.wavFieldsOk c && (decide (c < 8192) || s.afeOk (c - 8192))),
    firstBad on (fun c => (c < 8192 && (s.svOf c).isNone) || (s.wavCause c).isNone),
    firstBad (List.range 16) (fun l => s.afeOk l),
    broken (decide ((outs.map (fun o => o.id)).Nodup)),
    firstBad outs (fun o => let r := s.rate o.rg
      o.id ≤ 4095 && o.rg < 4 && r != 0 && 4800 % r == 0 && 1 ≤ o.items.length && o.items.length ≤ 256 && rowItemSlots r o.items ≤ 4096),
    firstBad outs (fun o => o.items.all (fun x => on.contains x.chan && x.kind ≤ 8)),
    firstBad outs (fun o => let r := s.rate o.rg
      o.items.all (fun x => if x.kind = 8 then x.div != 0 && 4800 % x.div == 0 && (4800 / x.div) % max 1 r == 0
        && 1 ≤ 4800 / x.div / max 1 r && 4800 / x.div / max 1 r ≤ 256 else x.div == 0))]

/-- Temperatures rise from point to point (R181). -/
def risingTable : List TempPoint → Bool
  | a :: b :: r => F32.lt a.temp b.temp && risingTable (b :: r)
  | _ => true

/-- Waveform channels that a meter record names. -/
def meterNames (m : MeterRec) : List Nat := m.chans.filterMap id

/-- A meter record under TEMP has no delay on its channels and a table for each of them (R180). -/
def State.tempOk (s : State) (i : CfgImage) (m : MeterRec) : Bool :=
  !s.flag (Reg.MTR_MP_CTRL m.mp) 4
    || ((meterNames m).all (fun c => s.reg (Reg.WAV_CH_DELAY c) == 0)
      && (List.range 6).all (fun j => (m.chans.getD j none).isNone || (match m.tables.getD j none with
        | some k => decide (k < (recs i 8 i.tables).length)
        | none => false)))

/-- MTR limits, of disabled meter points too (R170, R176, R178, R180, R181, R188). -/
def State.limitMtr (s : State) (i : CfgImage) : Option Nat :=
  let ms := recs i 8 i.meters
  let d := (s.reg Reg.MTR_REC_DEPTH).toNat
  firstOf [broken (decide (ms.length ≤ 64) && decide ((ms.map (fun m => m.mp)).Nodup)),
    firstBad ms (fun m => decide (m.mp < 64) && s.field (Reg.MTR_MP_CTRL m.mp) 2 1 != 3),
    firstBad ms (fun m => (wiringElements (s.field (Reg.MTR_MP_CTRL m.mp) 2 1)).all (fun e =>
      (m.chans.getD (2 * e) none).isSome && (m.chans.getD (2 * e + 1) none).isSome)),
    firstBad ms (fun m => (meterNames m).all (fun c => decide (c ≤ 8207))),
    firstBad ms (fun m => ((meterNames m).map (fun c => s.wavF0 c)).eraseDups.length ≤ 1),
    firstBad ms (fun m => (s.meterCause m.mp).isNone),
    firstBad ms (fun m => s.tempOk i m),
    firstBad (recs i 8 i.tables) (fun t => t.length == 16 && risingTable t),
    broken ((ms.isEmpty && d == 0) || (64 ≤ d && d ≤ 1048576)), broken ((s.reg Reg.MTR_REC_BASE_LO).toNat % 4096 == 0)]

/-- Bytes of DRAM that an ambient-analysis group needs, its 64 KiB among them (R211). -/
def State.oscBytes (s : State) (g : Nat) : Nat :=
  let m := (s.oscSignals g).length
  let r := s.rate (s.oscRg g)
  let q := decimation r (bitsOf (s.reg (Reg.OSC_G_BAND g)) 31 16)
  let rg := 60 * r + 8 * q + 1
  4 * (64 * m * m + 8 * m * 36 + m * (rg + ((rg + q - 1) / max 1 q + 16))) + 65536

/-- OSC limits (R190, R191, R203, R207 to R211, R214). -/
def State.limitOsc (s : State) (i : CfgImage) : Option Nat :=
  let gs := s.osc.groups.map (fun x => x.1)
  let lw := s.field Reg.OSC_LOC_WIN 6 0
  firstOf [broken (decide (s.osc.signals.length ≤ 2048) && decide ((recs i 9 i.monitors).length ≤ 16384) && decide (s.osc.branches.length ≤ 512)),
    firstBad s.osc.signals (fun x => decide (x.group < 32) && decide (x.pos < 64) && decide (x.sel < 4)),
    broken (decide ((s.osc.signals.map (fun x => (x.group, x.pos))).Nodup)),
    firstBad gs (fun g => 1 ≤ (s.oscSignals g).length && (s.oscSignals g).length == s.field (Reg.OSC_G_CTRL g) 10 4
      && ((s.oscSignals g).mapIdx (fun k x => x.pos == k)).all id && 25 ≤ s.rate (s.oscRg g)),
    broken (!(s.flag Reg.OSC_CTRL 1 && s.flag Reg.OSC_LOC_CTRL 0) || s.field Reg.OSC_LOC_CTRL 5 4 != 0),
    firstBad gs (fun g => oscGroupOk (s.reg (Reg.OSC_G_BAND g)) (s.reg (Reg.OSC_G_WINDOW g)) (s.reg (Reg.OSC_G_REFRESH g)) (s.reg (Reg.OSC_G_MODES g))),
    firstBad s.osc.monitors (fun x => decide (x.1 < 16384) && ((kvGet s.aln.chans x.2.cfg.chan).isNone || monitorOk x.2.cfg (s.rate (s.chanRg x.2.cfg.chan)))),
    broken (!s.flag Reg.OSC_CTRL 1 || (5 ≤ lw && lw ≤ 120)),
    broken (decide ((gs.map (fun g => s.oscBytes g)).foldl (· + ·) 0 ≤ (s.reg Reg.OSC_DRAM_SIZE).toNat * 2 ^ 20))]

/-- Channels that the network model names. -/
def State.topChans (s : State) : List Nat :=
  let t := s.top
  (t.nodes.map (fun n => n.vOut.toList ++ n.islOut.toList)).flatten ++ (t.branches.map (fun b => b.chan.toList)).flatten
    ++ t.meas.map (fun m => m.chan) ++ (t.cohs.map (fun c => [c.freq, c.phasor, c.out])).flatten

/-- TOP limits (R216, R234, R236). -/
def State.limitTop (s : State) : Option Nat :=
  let t := s.top
  let r := s.rate s.topRg
  if !s.flag Reg.TOP_CTRL 0 then none
  else
    firstOf [broken (decide (t.nodes.length ≤ 20480) && decide (t.branches.length ≤ 40960) && decide (t.meas.length ≤ 81920)
        && decide (t.cohs.length ≤ 4096)),
      firstBad t.branches (fun b => b.nodeF != b.nodeT && decide (b.nodeF < t.nodes.length) && decide (b.nodeT < t.nodes.length)),
      broken (r ≤ 240 && (t.nodes.length ≤ 5120 || r ≤ 60)),
      broken (s.field Reg.TOP_CTRL 9 8 != 0),
      broken (1000 ≤ (s.reg Reg.TOP_NNZ_MAX).toNat && decide ((s.reg Reg.TOP_NNZ_MAX).toNat ≤ 320000)),
      firstBad topStaged (fun a => topRange a (s.reg a)),
      broken (!s.flag Reg.TOP_CTRL 1 || solveCheck (s.reg Reg.TOP_SE_KMAX).toNat (s.reg Reg.TOP_NNZ_MAX).toNat r)]

/-- The arcs of a graph close no cycle: nodes can be taken away one by one, each without an arc from those left. -/
def acyclic (arcs : List (Nat × Nat)) : Nat → List Nat → Bool
  | 0, l => l.isEmpty
  | n + 1, l =>
    match l.find? (fun v => arcs.all (fun a => a.2 != v || !l.contains a.1)) with
    | some v => acyclic arcs n (l.filter (fun x => x != v))
    | none => l.isEmpty

/-- A graph's trigger source exists (R241). -/
def State.triggerOk (s : State) (g : GraphRec) : Bool :=
  match g.trigger with
  | .section_ rg sec => s.groupOn rg && decide (sec < s.sectionCount rg)
  | .derived c => ((kvGet s.aln.chans c).map (fun x => x.derived)).getD false
  | .event i => match kvGet s.dec.streams i with
    | some e => e.cfg.typ == .goose || e.cfg.typ == .rgoose
    | none => false
  | .timer _ => true

/-- DFS limits (R241, R258). -/
def limitDfs (i : CfgImage) : Option Nat :=
  let gs := recs i 11 i.graphs
  firstOf [broken (decide (gs.length ≤ 4096) && decide ((gs.map (fun g => g.nodes.length)).foldl (· + ·) 0 ≤ 65536)
      && decide ((gs.map (fun g => g.arcs.length)).foldl (· + ·) 0 ≤ 262144)),
    firstBad gs (fun g => decide (g.id < 4096) && decide (g.lc < 4) && decide (g.nodes.length ≤ 256)),
    firstBad gs (fun g => g.nodes.all (fun n => decide (n.required.length ≤ 8) && decide (n.outs ≤ 8))),
    firstBad gs (fun g => g.arcs.all (fun a => decide (a.src < g.nodes.length) && decide (a.dst < g.nodes.length) && decide (a.srcPort < 8)
      && decide (a.dstPort < 8))),
    firstBad gs (fun g => match g.trigger with
      | .timer n => decide (1 ≤ n) && decide (n ≤ 100000)
      | _ => true),
    firstBad gs (fun g => acyclic (g.arcs.map (fun a => (a.src, a.dst))) g.nodes.length (List.range g.nodes.length))]

/-- Catalogue version of the PEM image in use (R258). -/
def State.pemCatalogue (s : State) : Nat := (s.pemImage.map (fun f => f.catalogue.toNat)).getD 0

/-- The section whose graphs or blocks need a later PEM catalogue than a version, if one does (R258, Table 11-11). -/
def catalogueBad (i : CfgImage) (pem : Nat) : Option Nat :=
  if hasSection i 11 && decide (pem < i.dfsCatalogue.toNat) then some 11
  else
    match (if hasSection i 12 then i.program else none) with
    | some p => if pem < p.pemVersion then some 12 else none
    | none => none

/-- A publication's elements and retransmission times, and an R-GOOSE publication's algorithm (R272). -/
def pubOk (p : PubRec) : Bool :=
  decide (p.id < 64) && decide (1 ≤ p.elements) && decide (p.elements ≤ 64) && decide (p.lc < 4) && decide (1 ≤ p.tMin) && decide (p.tMin ≤ 1000)
    && decide (100 ≤ p.tMax) && decide (p.tMax ≤ 60000) && decide (p.tMin ≤ p.tMax) && (!p.rgoose || [1, 2, 4, 5].contains p.alg)

/-- CYC limits (R261, R262, R266, R272). -/
def limitCyc (i : CfgImage) : Option Nat :=
  match (if hasSection i 12 then i.program else none) with
  | some p => firstOf [broken (programOk p), firstBad p.pubs pubOk]
  | none => none

/-- ALM limits (R286, R293, R305). -/
def State.limitAlm (s : State) (i : CfgImage) : Option Nat :=
  let al := recs i 13 i.alarms
  firstOf [broken (decide (al.length ≤ 4096) && decide ((al.map (fun a => a.id)).Nodup) && decide ((recs i 13 i.almPubs).length ≤ 64)),
    firstBad al (fun a => decide (a.id < 4096) && decide (a.sev < 4)),
    firstBad (recs i 13 i.almPubs) pubOk,
    firstBad (List.range 8) (fun n => s.field (Reg.ALM_PIN_CTRL n) 25 16 ≤ 1000)]

/-- Bytes of DRAM that a recorder's live ring and store take. -/
def State.recBytes (s : State) (r : Nat) (x : RecorderState) : Nat := s.liveDepth r * s.recStride r x + (s.reg (Reg.CAP_R_STORE r)).toNat * 1024

/-- CAP limits (R308, R310, R325, R326). -/
def State.limitCap (s : State) : Option Nat :=
  let l := s.cap.recs
  let size := (s.reg Reg.CAP_DRAM_SIZE).toNat
  firstOf [broken (decide (l.length ≤ 16) && size ≤ 8192 && (s.reg Reg.CAP_DRAM_BASE_LO).toNat % 4096 == 0),
    firstBad l (fun x => decide (x.1 < 16) && 1 ≤ x.2.cfg.chans.length && (if s.recWave x.1
      then decide (x.2.cfg.chans.length ≤ 256) && x.2.cfg.chans.all (fun c => decide (c ≤ 8207)) && x.2.cfg.div != 0 && 4800 % x.2.cfg.div == 0
      else decide (x.2.cfg.chans.length ≤ 4096))),
    firstBad l (fun x => (s.capCause x.1 x.2).isNone),
    broken (decide ((l.map (fun x => s.recBytes x.1 x.2)).foldl (· + ·) 0 ≤ size * 2 ^ 20))]

/-- The largest packet that a producer writes, its length word among it (R338). -/
def State.largestPacket (s : State) (producer : Nat) : Nat :=
  match producer with
  | 1 => 9
  | 2 => 5
  | 3 => 5
  | 4 => 9
  | 5 => 17
  | 6 => 65
  | 7 => ((s.dfs.graphs.map (fun g => 1 + 4 * (g.2.cfg.nodes.map (fun n => n.outs)).foldl max 0)).foldl max 0)
  | _ => 0

/-- A block register that names a host queue names one whose producer is the block and whose consumer is HOST (R333). -/
def State.queueNamed (s : State) (a producer : Nat) : Bool :=
  !s.flag a 7 || (let q := s.field a 6 0
    2 ≤ q && s.qEn q && s.qProducer q == producer && s.qConsumer q == 0)

/-- HIF limits (R333, R338, R350, R351). -/
def State.limitHif (s : State) (i : CfgImage) : Option Nat :=
  let l := recs i 15 i.queues
  firstOf [broken (decide (l.length ≤ 126) && decide ((l.map (fun r => r.q)).Nodup)),
    firstBad l (fun r => 2 ≤ r.q && r.q ≤ 127 && 6 ≤ r.log2depth && r.log2depth ≤ 15 && r.producer ≤ 8 && r.consumer ≤ 8 && 1 ≤ r.thresh && r.thresh ≤ 255),
    broken (decide ((l.map (fun r => 2 ^ r.log2depth)).foldl (· + ·) 8192 ≤ 262144)),
    broken (1 ≤ s.field Reg.HIF_QSTALL 15 0 && s.field Reg.HIF_QSTALL 15 0 ≤ 5000),
    broken (s.pair Reg.HIF_APER_BASE_LO Reg.HIF_APER_BASE_HI % 2 ^ 30 == 0 && s.pair Reg.HIF_JRNL_BASE_LO Reg.HIF_JRNL_BASE_HI % 4096 == 0)]

/-- HGW limits (R352, R353, R373). -/
def State.limitHgw (s : State) : Option Nat :=
  let d := [s.field Reg.HGW_TORUS 3 0, s.field Reg.HGW_TORUS 7 4, s.field Reg.HGW_TORUS 11 8]
  firstOf [broken (d.all (fun n => 1 ≤ n && n ≤ 8)), broken (decide (s.ownId < d.foldl (· * ·) 1)),
    firstBad (List.range 6) (fun l => !s.flag Reg.HGW_CTRL (8 + l) || d.getD (l / 2) 1 != 1),
    broken (decide (s.hgw.pins.length ≤ 4096)),
    firstBad s.hgw.pins (fun p => decide (p.2.2 < d.foldl (· * ·) 1))]

/-- TWN limits. -/
def State.limitTwn (s : State) : Option Nat :=
  broken (!s.flag Reg.TWN_CTRL 0 || (1 ≤ (s.reg Reg.TWN_CMP_LIMIT).toNat && (s.reg Reg.TWN_CMP_LIMIT).toNat ≤ 65535))

/-- The first register setting of a section whose value lies outside the range that its chapter gives the field. -/
def rangesBad (i : CfgImage) (n : Nat) : Option Nat :=
  firstBad (i.settings.filter (fun p => blockSection p.1 == some n)) (fun p => rangeOk (rangeKey p.1) p.2)

/-- The first limit that a section breaks, by its place in the load order. -/
def State.limitOf (s : State) (i : CfgImage) (n : Nat) : Option Nat :=
  if !hasSection i n then none
  else firstOf [bytesBad i n, rangesBad i n,
    match n with
    | 1 => broken (60 ≤ (s.reg Reg.FWU_CONFIRM_WIN).toNat && (s.reg Reg.FWU_CONFIRM_WIN).toNat ≤ 3600)
    | 2 => broken (timCtrlOk (s.reg Reg.TIM_CTRL) && ptpCtrlOk (s.reg Reg.TIM_PTP_CTRL))
    | 4 => s.limitSpt
    | 5 => s.limitDec i
    | 6 => limitAln i
    | 7 => s.limitWav i
    | 8 => s.limitMtr i
    | 9 => s.limitOsc i
    | 10 => s.limitTop
    | 11 => limitDfs i
    | 12 => limitCyc i
    | 13 => s.limitAlm i
    | 14 => s.limitCap
    | 15 => s.limitHif i
    | 16 => s.limitHgw
    | 17 => s.limitTwn
    | _ => none]

/-! ### Checks that span blocks (R432) -/

/-- Every destination names a port that is on (R64). -/
def State.destOn (s : State) (d : TxDest) : Bool := (destPorts d).all (fun p => s.portMode p != 0)

/-- Destinations of output streams and publications. -/
def State.allDests (s : State) (i : CfgImage) : List TxDest :=
  s.dec.outs.map (fun o => o.cfg.dest) ++ s.dec.rsvs.map (fun r => r.cfg.dest) ++ (recs i 13 i.almPubs).map (fun p => p.dest)
    ++ (((if hasSection i 12 then i.program else none).map (fun p => p.pubs)).getD []).map (fun p => p.dest)

/-- Channels that hold a group's results (R199). -/
def State.oscOutputs (s : State) (g : Nat) : List Nat :=
  (List.range (s.oscChanCount g)).map (fun k => (s.reg (Reg.OSC_G_CH_BASE g)).toNat + k)

/-- Channels that each producer writes (R26). -/
def State.producedChans (s : State) (i : CfgImage) : List Nat :=
  let graphs := ((recs i 11 i.graphs).map (fun g => (g.nodes.map (fun n => match n.op with
    | .slotWrite cs => cs
    | _ => [])).flatten)).flatten
  let cyc := (((if hasSection i 12 then i.program else none).map (fun p => p.outputs)).getD []).filterMap (fun o => match o.kind with
    | .channel c => some c
    | _ => none)
  let t := s.top
  let top := if s.flag Reg.TOP_CTRL 0 then
      (t.nodes.map (fun n => n.vOut.toList ++ n.islOut.toList)).flatten ++ ((t.branches.filter (fun b => !b.switching)).map (fun b => b.chan.toList)).flatten
        ++ t.cohs.map (fun c => c.out) ++ (if s.flag Reg.TOP_CTRL 1 then (List.range 6).map (fun k => t.seBase + k) else [])
        ++ (if s.flag Reg.TOP_CTRL 2 then [t.islSummary] else [])
    else []
  let osc := (s.osc.groups.map (fun x => s.oscOutputs x.1)).flatten
  let mon := (s.osc.monitors.map (fun x => x.2.cfg.outBase :: (monOn x.2.cfg).map (fun b => x.2.cfg.outBase + 1 + b))).flatten
  let loc := if s.flag Reg.OSC_CTRL 1 then (List.range (s.osc.branches.length + 1)).map (fun k => s.osc.locBase + k) else []
  graphs ++ cyc ++ top ++ osc ++ mon ++ loc

/-- Each channel is assigned once, to an enabled group (R23). -/
def State.chansBad (s : State) (i : CfgImage) : Option Nat :=
  let cs := recs i 6 i.chans
  firstOf [firstBad cs (fun c => s.groupOn c.rg), broken (decide ((cs.map (fun c => c.chan)).Nodup))]

/-- Furrow space of the enabled groups (R37). -/
def State.furrowsOk (s : State) : Bool :=
  decide (((List.range 4).filter (fun g => s.groupOn g)).foldl (fun n g => n + s.furrowSpace g (s.reg (Reg.ALN_RG_HEADLAND g)).toNat) 0 ≤ 41943040)

/-- Rings are deep enough and fit the aperture and the DRAM (R140). -/
def State.ringsOk (s : State) : Bool :=
  let gs := (List.range 4).filter (fun g => s.groupOn g && s.histOn g)
  let total := gs.foldl (fun n g => n + 4096 + s.ringDepth g * (s.stride g + 4)) 0
  gs.all (fun g => decide (ceilRows ((s.reg (Reg.ALN_RG_HORIZON g)).toNat * 1000) (s.rate g)
      + ceilRows (s.reg (Reg.ALN_RG_HEADLAND g)).toNat (s.rate g) + 1 ≤ s.ringDepth g))
    && decide (total ≤ 2 ^ 36) && decide (total ≤ Config.dramMiB * 2 ^ 20)

/-- DRAM regions that the image places: base and bytes. -/
def State.dramRegions (s : State) : List (Nat × Nat) :=
  ((List.range 4).filter (fun g => s.groupOn g && s.histOn g)).map (fun g => (s.ringBase g, 4096 + s.ringDepth g * (s.stride g + 4)))
    ++ [(s.pair Reg.CAP_DRAM_BASE_LO Reg.CAP_DRAM_BASE_HI, (s.reg Reg.CAP_DRAM_SIZE).toNat * 2 ^ 20),
      (s.pair Reg.OSC_DRAM_BASE_LO Reg.OSC_DRAM_BASE_HI, (s.reg Reg.OSC_DRAM_SIZE).toNat * 2 ^ 20),
      (s.pair Reg.MTR_REC_BASE_LO Reg.MTR_REC_BASE_HI, (s.reg Reg.MTR_REC_DEPTH).toNat * 512),
      (s.pair Reg.HIF_JRNL_BASE_LO Reg.HIF_JRNL_BASE_HI, if s.flag Reg.HIF_CTRL 0 then 262144 else 0)]

/-- No region reaches the error area, the last 64 KiB of DRAM (R451). -/
def State.regionsOk (s : State) : Bool := s.dramRegions.all (fun r => r.2 == 0 || decide (r.1 + r.2 + 65536 ≤ Config.dramMiB * 2 ^ 20))

/-- EtherTypes of a stream's frames (Table 03-2). -/
def streamEtypes : StreamType → List Nat
  | .sv92 => [0x88BA]
  | .sv61869 => [0x88BA]
  | .goose => [0x88B8]
  | .unused => []
  | .internal => []
  | _ => [0x0800, 0x86DD]

/-- UDP destination port of a stream's frames: the key's, 102 for session PDUs, none for frames without UDP. -/
def streamUdp (e : StreamRec) : Option Nat :=
  match e.typ, e.key with
  | .c37, .c37 _ dport _ => some dport.toNat
  | .rsv, _ => some 102
  | .rgoose, _ => some 102
  | _, _ => none

/-- Destination MAC of a stream's frames, where its key gives one. -/
def streamDmac (e : StreamRec) : Option Nat :=
  match e.key with
  | .sv _ _ _ d => some d.toNat
  | .goose _ _ _ d => some d.toNat
  | _ => none

/-- A rule of a port may take frames of a stream: no enabled match of EtherType, destination MAC or UDP port shuts them out. -/
def State.ruleAdmits (s : State) (p k : Nat) (e : StreamRec) : Bool :=
  let c := s.reg (Reg.SPT_RULE_CTRL p k)
  let t := s.reg (Reg.SPT_RULE_ETYPE p k)
  let addr := (s.reg (Reg.SPT_RULE_DMAC0 p k)).toNat + (s.reg (Reg.SPT_RULE_DMAC1 p k)).toNat * 2 ^ 32
  let mask := (s.reg (Reg.SPT_RULE_MASK0 p k)).toNat + (s.reg (Reg.SPT_RULE_MASK1 p k)).toNat * 2 ^ 32
  (!c.getLsbD 3 || (streamEtypes e.typ).contains (bitsOf t 15 0))
    && (!c.getLsbD 4 || (match streamDmac e with
      | some d => Nat.land d mask == Nat.land addr mask
      | none => true))
    && (!c.getLsbD 5 || streamUdp e == some (bitsOf t 31 16))

/-- A channel of a stream lies in an LC0 section. -/
def State.lc0Stream (s : State) (e : StreamRec) : Bool :=
  e.typ != .unused && e.typ != .internal && !svType e.typ
    && s.aln.chans.any (fun c => !c.2.derived && s.secLc c.2.rg c.2.sec == 0 && inStream e c.1)

/-- A stream has, on every station port whose DEC rules take it, one of class 0 or with LC_BY_PCP, and it has such a port (R29, Ingress marking of Table 05-5). -/
def State.streamMarked (s : State) (e : StreamRec) : Bool :=
  let on := (List.range 4).filter (fun p => s.portMode p != 0)
  let takes := fun (p : Nat) => (s.decRules p).filter (fun k => s.ruleAdmits p k e)
  let arrives := on.filter (fun p => !(takes p).isEmpty)
  !arrives.isEmpty && arrives.all (fun p => (takes p).any (fun k =>
    s.field (Reg.SPT_RULE_CTRL p k) 13 12 == 0 || s.flag (Reg.SPT_RULE_CTRL p k) 14))

/-- The first LC0 stream that is not marked (R131). -/
def State.markingBad (s : State) : Option Nat := firstBad s.dec.streams (fun e => !s.lc0Stream e.2.cfg || s.streamMarked e.2.cfg)

/-- A stream's rate is an integer multiple of its group's (R24, R77). -/
def State.streamRateOk (s : State) (e : StreamRec) : Bool :=
  match e.typ with
  | .c37 => s.rate e.rg != 0 && e.reportRate % max 1 (s.rate e.rg) == 0
  | .sv92 => s.rate e.rg == 0 || e.rate % max 1 (s.rate e.rg) == 0
  | .sv61869 => s.rate e.rg == 0 || e.rate % max 1 (s.rate e.rg) == 0
  | .rsv => s.rate e.rg == 0 || e.rate % max 1 (s.rate e.rg) == 0
  | _ => true

/-- Pins that the image gives to a block: ALM's mask, CYC's mask (R271). -/
def pinsOf (i : CfgImage) : List Bool × List Bool :=
  ((List.range 8).map (fun n => hasSection i 13 && i.almPins.getLsbD n),
    (List.range 8).map (fun n => (((if hasSection i 12 then i.program else none).map (fun p => p.pinMask)).getD []).getD n false))

/-- An image does not give one pin to both ALM and CYC (R271); the shared pins of a pair are active low (R375). -/
def State.pinsBad (s : State) (i : CfgImage) : Option (Nat × Nat) :=
  let (a, c) := pinsOf i
  let at_ := fun (n : Nat) (o : Option Nat) => o.map (fun k => (n, k))
  ([at_ 13 (firstBad (List.range 8) (fun n => !(a.getD n false && c.getD n false)))]
    ++ (if s.flag Reg.TWN_CTRL 0 then
      [at_ 17 (firstBad (List.range 8) (fun n => !(a.getD n false || c.getD n false) || s.flag (Reg.ALM_PIN_CTRL n) 0)),
        at_ 17 (firstBad (List.range 8) (fun k => !s.flag (Reg.MTR_PULSE_CTRL k) 0 || s.flag (Reg.MTR_PULSE_CTRL k) 1))]
    else [])).filterMap id |>.head?

/-- A row channel is assigned, to this rate group. -/
def State.inGroup (s : State) (g c : Nat) : Bool :=
  match kvGet s.aln.chans c with
  | some x => x.rg == g
  | none => false

/-- A derived channel of a rate group. -/
def State.derivedOf (s : State) (g c : Nat) : Bool :=
  match kvGet s.aln.chans c with
  | some x => x.derived && x.rg == g
  | none => false

/-- A derived channel is produced by an LC0 graph (R207). -/
def State.lc0Made (s : State) (c : Nat) : Bool :=
  s.dfs.graphs.any (fun g => g.2.cfg.lc == 0 && g.2.cfg.nodes.any (fun n => match n.op with
    | .slotWrite l => l.contains c
    | _ => false))

/-- A graph that holds an operator of the oscillation analyser has the trigger and class with which that operator runs (R200, R207, R210). -/
def State.oscNodeOk (s : State) (g : GraphRec) (op : Operator) : Bool :=
  match op with
  | .oscBand m => match (s.monitor m).bind (fun x => (kvGet s.aln.chans x.cfg.chan).map (fun c => (x.cfg.chan, c))) with
    | some (c, r) => if r.derived then g.trigger == .derived c || g.nodes.any (fun n => match n.op with
          | .slotWrite l => l.contains c
          | _ => false)
        else g.trigger == .section_ r.rg r.sec
    | none => false
  | .oscDef => s.field Reg.OSC_LOC_CTRL 5 4 == g.lc
  | .oscPub k => (s.oscSections k).any (fun sec => g.trigger == .section_ (s.oscRg k) sec) && g.lc == 3
  | _ => true

/-- References of one block's records into another block: waveform channels, row channels, triggers, alarms, graphs (R432). -/
def State.refsBad (s : State) (i : CfgImage) : Option (Nat × Nat) :=
  let at_ := fun (n : Nat) (o : Option Nat) => if hasSection i n then o.map (fun k => (n, k)) else none
  let on := s.wav.chans.map (fun c => c.1)
  let al := recs i 13 i.alarms
  let raised := ((recs i 11 i.graphs).map (fun g => g.nodes.filterMap (fun n => match n.op with
    | .almRaise a => some a
    | _ => none))).flatten
  ([at_ 7 (firstBad on (fun c => 8192 ≤ c || (s.svOf c).isSome)),
    at_ 8 (firstBad (recs i 8 i.meters) (fun m => (meterNames m).all (fun c => on.contains c))),
    at_ 9 (firstBad (s.osc.groups.map (fun x => x.1)) (fun g => (s.oscSignals g).all (fun x => s.inGroup (s.oscRg g) x.chan
      && (x.sel != 3 || s.inGroup (s.oscRg g) x.ref)))),
    at_ 9 (firstBad (s.osc.groups.map (fun x => x.1)) (fun g => (s.oscOutputs g).all (fun c => s.derivedOf (s.oscRg g) c))),
    at_ 9 (firstBad s.osc.monitors (fun x => (List.range 6).all (fun b => x.2.cfg.bands.getD b false
      || (kvGet s.aln.chans (x.2.cfg.outBase + 1 + b)).isNone))),
    at_ 9 (firstBad s.osc.branches (fun b => !(s.flag Reg.OSC_CTRL 1 && s.flag Reg.OSC_LOC_CTRL 0)
      || (s.inGroup (s.field Reg.OSC_LOC_CTRL 2 1) b.cfg.vChan && s.inGroup (s.field Reg.OSC_LOC_CTRL 2 1) b.cfg.iChan))),
    at_ 9 (firstBad s.osc.monitors (fun x => (match kvGet s.aln.chans x.2.cfg.chan with
      | some c => if c.derived then !s.lc0Made x.2.cfg.chan else s.secLc c.rg c.sec != 0
      | none => false) && (x.2.cfg.sel != 3 || s.inGroup (s.chanRg x.2.cfg.chan) x.2.cfg.ref))),
    at_ 10 (firstBad (if s.flag Reg.TOP_CTRL 0 then s.topChans else []) (fun c => s.inGroup s.topRg c)),
    at_ 11 (firstBad (recs i 11 i.graphs) (fun g => s.triggerOk g)),
    at_ 11 (firstBad s.dfs.graphs (fun g => g.2.cfg.nodes.all (fun n => s.oscNodeOk g.2.cfg n.op))),
    at_ 13 (firstBad al (fun a => (raised.filter (fun n => n == a.id)).length == 1)),
    at_ 14 (firstBad s.cap.recs (fun x => s.recWave x.1 || x.2.cfg.chans.all (fun c => s.inGroup (s.recRg x.1) c))),
    at_ 16 (firstBad s.hgw.pins (fun p => p.1 != s.ownId || (match s.graph p.2.1 with
      | some g => g.cfg.lc != 0 || decide (s.torusHops p.1 p.2.2 ≤ 2)
      | none => false)))].filterMap id).head?

/-- The first cross-block check that fails, with its section and index. -/
def State.crossBad (s : State) (i : CfgImage) : Option (Nat × Nat) :=
  let at_ := fun (n : Nat) (o : Option Nat) => o.map (fun k => (n, k))
  let cyc := ((if hasSection i 12 then i.program else none).map (fun p => p.pubs)).getD []
  ([at_ 6 (s.chansBad i), s.refsBad i, s.pinsBad i, at_ 6 (broken s.furrowsOk), at_ 6 (broken (decide (s.lc0Chans ≤ 16384))), at_ 6 (broken s.ringsOk),
    at_ 6 (broken (decide ((s.producedChans i).Nodup))), at_ 5 (firstBad s.dec.streams (fun e => s.streamRateOk e.2.cfg)),
    at_ 5 s.markingBad, at_ 4 (firstBad (List.range 6) (fun p => !s.flag Reg.TIM_PTP_CTRL (16 + p) || s.portMode p != 0)),
    at_ 5 (firstBad (s.allDests i) (fun d => s.destOn d)), at_ 4 (broken (s.wireOk cyc)),
    at_ 15 (broken (s.queueNamed Reg.ALN_REV_QUEUE 2 && s.queueNamed Reg.MTR_REC_QUEUE 3 && s.queueNamed Reg.ALM_QUEUE 4
      && s.queueNamed Reg.EVR_QUEUE 5)),
    at_ 15 (firstBad (recs i 15 i.queues) (fun r => decide (2 * s.largestPacket r.producer ≤ 2 ^ r.log2depth))),
    at_ 14 (broken s.regionsOk)].filterMap id).head?

/-- Loads the sections into the blocks, or finds the first failure (R432). -/
def State.loadImage (s0 : State) (i : CfgImage) : Except LoadError State :=
  let s := s0.fill i
  let old := (List.range 18).find? (fun n => i.dir.any (fun d => d.ident.toNat == secId n && d.format != 1))
  match old with
  | some n =>
    let f := ((i.dir.find? (fun d => d.ident.toNat == secId n)).map (fun d => d.format)).getD 0
    .error ⟨secId n, if 1 < f then 2 else 3, 0⟩
  | none =>
    match ((List.range 18).filterMap (fun n => (s.limitOf i n).map (fun k => (n, k)))).head? with
    | some (n, k) => .error ⟨secId n, 3, k⟩
    | none =>
      match catalogueBad i s.pemCatalogue, s.crossBad i with
      | some n, _ => .error ⟨secId n, 2, 0⟩
      | none, some (n, k) => .error ⟨secId n, 4, k⟩
      | none, none =>
        match s.sowAll (s.dfs.graphs.map (fun g => g.1)) with
        | .ok s => .ok (s.setFlag Reg.ALN_STATUS 16 true)
        | .error g => .error ⟨secId 11, 4, g⟩

/-! ### What the commit starts (R116, R141, R186, R227, R272, R434) -/

/-- Why a ring marked RETAIN cannot be used: 1 its descriptor's CRC fails, 2 its layout is not that of the configuration (R141). -/
def State.ringCause (s : State) (g : Nat) : Option Nat :=
  let b := s.readDram (s.ringBase g) 64
  if natAt b 60 4 ≠ (crc32c (b.take 60)).toNat then some 1
  else if natAt b 6 1 == g && natAt b 7 1 == s.rate g && natAt b 16 4 == s.ringDepth g && natAt b 20 4 == s.stride g && natAt b 24 4 == s.rowChans g then none
  else some 2

/-- Wipes a ring. -/
def State.wipeRing (s : State) (g : Nat) : State :=
  let lo := s.ringBase g
  let hi := lo + 4096 + s.ringDepth g * (s.stride g + 4)
  { s with dram := s.dram.filter (fun c => c.1 < lo || hi ≤ c.1) }

/-- A group resumes a retained ring at the next grid tag, in no case before the row that WRIDX names: failing entries lose their tag, and WRIDX passes the tags gone by (R141). -/
def State.resumeGroup (s : State) (g : Nat) : State :=
  let r := s.rate g
  let b := s.readDram (s.ringBase g) 64
  let w := natAt b 8 8
  let t0 := (gridNear r (natAt b 32 8)).getD (0, 0)
  let x : GroupState := { tag0S := t0.1, tag0K := t0.2 }
  let n := max w ((rowIndex x r (firstRow r s.now)).getD 0)
  let bad := ((List.range (min w (s.ringDepth g))).map (fun k => w - 1 - k)).filter (fun n =>
    natAt (s.readDram (s.crcAddr g n) 4) 0 4 != (crc32c (s.readDram (s.entryAddr g n) (s.rowBytes g))).toNat)
  let s := bad.foldl (fun (s : State) n => s.writeDram (s.entryAddr g n) (List.replicate 8 0)) s
  let y : GroupState := { x with nextS := x.tag0S + (x.tag0K + n) / r, nextK := (x.tag0K + n) % r, nextIdx := n }
  let s := { s with aln := { s.aln with groups := kvPut s.aln.groups g y } }
  let s := s.setPair (Reg.ALN_RG_TAG0_LO g) (Reg.ALN_RG_TAG0_HI g) (gridTag r x.tag0S x.tag0K)
  let s := (s.setFlag Reg.ALN_STATUS g true).setWridx g n
  let s := if bad.isEmpty then s else s.log 0x0506 2 (leBytes 1 g ++ leBytes 3 0 ++ leBytes 4 bad.length)
  if w < n then (s.bumpBy (Reg.ALN_RG_CNT_STEP_SKIP g) (n - w)).log 0x0505 2 (leBytes 1 g ++ leBytes 3 0 ++ leBytes 4 (n - w)) else s

/-- A rate group starts: on its retained ring where the check of that ring passes, else afresh (R116, R141). -/
def State.startGroup (s : State) (g : Nat) : State :=
  if s.histOn g && s.flag (Reg.ALN_RG_HIST_CTRL g) 1 then
    match s.ringCause g with
    | none => s.resumeGroup g
    | some c =>
      let s := (s.wipeRing g).enableGroup g
      (s.setWridx g 0).log 0x0507 2 (leBytes 1 g ++ leBytes 1 c)
  else
    let s := s.enableGroup g
    if s.histOn g then s.writeDescriptor g else s

/-- The last steep boundary at or before an instant (R176). -/
def State.lastBoundary (s : State) (l : Nat) (utc : Bool) (t : Nat) : Nat :=
  if l = 0 then t
  else if utc then
    let (c, o) := s.utcChanges
    let u := ((t : Int) - offsetTai c o (t : Int)) / (l : Int) * (l : Int)
    (u + offsetUtc c o u).toNat
  else t / l * l

/-- A meter point starts with its restored accumulators (R186). -/
def State.startMeter (s : State) (m : Nat) (kept : Option (List Acc × Word)) (restored : Bool) : State :=
  let t := s.lastBoundary (s.field (Reg.MTR_MP_STEEP m) 11 0) (s.flag (Reg.MTR_MP_CTRL m) 5) s.second * 1000000000
  let n := gridFrom t
  let s := s.modMeter m (fun x =>
    { x with start := t, nextN := n, accs := (kept.map (fun k => k.1)).getD x.accs, seq := (kept.map (fun k => k.2)).getD 0, restored := restored })
  let s := s.modMeter m (fun x => { x with stop := s.steepEnd m x })
  let s := s.showSteep m
  if s.flag (Reg.MTR_MP_CTRL m) 4 then
    ((s.modMeter m (fun x => { x with stale := true })).setFlag (Reg.MTR_MP_STATUS m) 0 true).log 0x0703 1
      (leBytes 1 m ++ leBytes 1 0 ++ leBytes 4 (s.field (Reg.MTR_MP_TEMP_CH m) 17 0))
  else s

/-- The newest save whose CRC holds, on either NOR device (R186). -/
def State.newestSave (s : State) : Option MeterSave :=
  (s.mtr.saves.filter (fun v => v.ok)).foldl (fun (b : Option MeterSave) v =>
    match b with
    | some w => if w.time ≤ v.time then some v else b
    | none => some v) none

/-- Meter points start with what DRAM kept where its CRC holds, or the newest good save of NOR, or zero; what belongs to no point of the image stays kept (R179, R186). -/
def State.startMeters (s0 : State) : State :=
  let s := (List.range 8).foldl (fun (s : State) k => s.settlePulse k) s0
  if s.mtr.points.isEmpty then s
  else
  let (points, rems, nor) := match (if s.mtr.keptBad then none else s.mtr.kept), s.newestSave with
    | some k, _ => (k.1, k.2, none)
    | none, some v => (v.points, v.rems, some v.time)
    | none, none => ([], [], (none : Option Nat))
  let s := { s with mtr := { s.mtr with
    kept := some (points, rems), keptBad := false, lastSave := s.elapsed
    pulses := s.mtr.pulses.mapIdx (fun k (p : PulseState) => { p with rem := rems.getD k 0 }) } }
  let s := (s.mtr.points.map (fun x => x.1)).foldl (fun (s : State) m =>
    s.startMeter m ((points.find? (fun p => p.1 == m)).map (fun p => p.2)) nor.isSome) s
  let s := s.setField Reg.MTR_STATUS 6 0 s.mtr.points.length
  match nor with
  | some t => (s.setFlag Reg.MTR_STATUS 9 true).log 0x0706 2 (leBytes 1 1 ++ leBytes 3 0 ++ leBytes 4 (t / 1000000000 % 2 ^ 32))
  | none => s

/-- The first tag of each Strainer output is its group's first row. -/
def State.startOutputs (s : State) : State :=
  { s with wav := { s.wav with outs := s.wav.outs.map (fun (o : WavOutRec × Nat) =>
      match s.group o.1.rg with
      | some x => (o.1, x.nextS * s.rate o.1.rg + x.nextK)
      | none => o) } }

/-- TIMER graphs wait for their first period (R241). -/
def State.startTimers (s : State) : State :=
  s.dfs.graphs.foldl (fun (s : State) (g : Nat × GraphState) =>
    match g.2.cfg.trigger with
    | .timer n => if g.2.cfg.en && s.graphHost g.1 s.now == s.ownId then s.addDelay ((s.graph g.1).elim 0 (fun x => x.cluster)) ⟨s.dfs.delayTick + n, 0, none, g.1, 0, .null⟩ else s
    | _ => s) s

/-- Alarm publications send their first message: stNum 1, sqNum 0 (R272, R293). -/
def State.startAlarmPubs (s : State) : State :=
  if !s.flag Reg.ALM_CTRL 0 then s
  else
    (s.alm.pubs.map (fun (p : PubState) => p.cfg.id)).foldl (fun (s : State) p =>
      let t := s.now
      let s := s.setFlag (Reg.ALM_PUB_STATUS p) 0 true
      (s.modPub true p (fun x => { x with tSince := t })).sendPub true p) s

/-- Runtime settings of the cyclic program take effect as initial values: task budgets and instance parameters (R436). -/
def State.takeCycSettings (s : State) : State :=
  (s.boot.cycSet.foldl (fun (s : State) (r : SettingRec) =>
    if r.offset = Reg.CYC_PARAM_VAL then
      let set := fun (a : ProgArea) => { a with params := listMod a.params (r.window.toNat / 65536) (fun ps => ps.set (r.window.toNat % 65536 / 4) r.value) }
      { s with cyc := { s.cyc with run := s.cyc.run.map set } }
    else s.setReg r.offset r.value) s).showParam

/-- Every window onto indexed state shows what its index register selects. -/
def State.showWindows (s : State) : State := s.showChannel.showAlarms.showMonitor.showSwitch.showPlace.showImage.showLearning

/-- What the commit of a loaded image starts in the blocks (R434). -/
def State.startBlocks (s : State) (i : CfgImage) : State :=
  let s := (List.range 6).foldl (fun (s : State) p =>
    let m := s.field (Reg.SPT_MAXLEN p) 13 0
    s.modPort p (fun x => { x with txMaxlen := m })) s
  let s := ((List.range 4).filter (fun g => s.groupOn g)).foldl (fun (s : State) g => s.startGroup g) s
  let s := (s.wav.chans.map (fun c => c.1)).foldl (fun (s : State) c => s.showChain c) s.startOutputs
  let s := if s.flag Reg.HGW_CTRL 0 then s.showReach else s
  let s := s.startMeters
  let s := (s.osc.groups.map (fun x => x.1)).foldl (fun (s : State) g => s.oscReset g) s
  let s := if s.flag Reg.OSC_CTRL 1 && s.flag Reg.OSC_LOC_CTRL 0 && !s.flag Reg.OSC_LOC_SRC 0 then s.setActive true else s
  let s := if s.flag Reg.TOP_CTRL 0 && s.flag Reg.TOP_CTRL 1 then s.startRefac else s
  let s := s.startTimers
  let s := match (if hasSection i 12 then i.program else none) with
    | some p => if s.flag Reg.CYC_CTRL 0 then (s.startProgram p).takeCycSettings else s
    | none => s
  let s := s.startAlarmPubs
  let s := (s.dec.outs.map (fun (o : OutState) => o.cfg.id)).foldl (fun (s : State) o =>
    if s.flag (Reg.DEC_OUT_CTRL o) 0 then s.turnOut o true else s) s
  ((s.cap.recs.map (fun x => x.1)).foldl (fun (s : State) r =>
    if s.capOn r && s.flag (Reg.CAP_R_CTRL r) 8 then s.armRec r else s) s.showStreams).showWindows

end Sys2Proof.Machine
end

