-- ==== Sys2Proof/Machine/Boot.lean ====
section
/-!
DEFINITION. Resets, start-up, images, updates and fallback (R405, R422 to R444, R467 to R470).
-/
namespace Sys2Proof.Machine

/-! ### What a reset keeps (Table 17-8, R422) -/

/-- The start of the error area: the last 64 KiB of attached DRAM (R451). -/
def errorArea : Nat := Config.dramMiB * 2 ^ 20 - 65536

/-- A DRAM address lies in a region with the retention tag: history rings with RETAIN, the journal, the capture region with RETAIN, the error area (R38, R141, R325, R347, R451). -/
def State.retained (s : State) (a : Nat) : Bool :=
  let inside (base size : Nat) : Bool := decide (base ≤ a) && decide (a < base + size)
  (List.range 4).any (fun g => s.flag (Reg.ALN_RG_HIST_CTRL g) 1 &&
      inside (s.pair (Reg.ALN_RG_HIST_BASE_LO g) (Reg.ALN_RG_HIST_BASE_HI g))
        (4096 + (s.reg (Reg.ALN_RG_HIST_DEPTH g)).toNat * ((s.reg (Reg.ALN_RG_STRIDE g)).toNat + 4)))
    || inside (s.pair Reg.HIF_JRNL_BASE_LO Reg.HIF_JRNL_BASE_HI) 262144
    || (s.flag Reg.CAP_CTRL 1 && inside (s.pair Reg.CAP_DRAM_BASE_LO Reg.CAP_DRAM_BASE_HI) ((s.reg Reg.CAP_DRAM_SIZE).toNat * 2 ^ 20))
    || inside errorArea 65536

/-- Keeps a register's value through a reset. -/
def State.keepReg (s old : State) (a : Nat) : State := s.setReg a (old.reg a)

/-- Events that name the cause of a reset or of a fallback: the start that follows logs them from its staging queue (R422, R437, R442). -/
def resetCodes : List Half := [0x1201, 0x1202, 0x1402, 0x1404, 0x1408, 0x140A]

/-- How a reset begins: everything at its reset value but what Table 17-8 and the block's own rules keep. -/
inductive ResetKind where
  | cold | warm | lifeCycle
  deriving DecidableEq, Repr

/-- The machine after a reset of a kind, before its start. -/
def State.restart (o : State) (k : ResetKind) : State :=
  let warm := k == .warm
  let n := State.reset
  let s : State := { n with
    dram := if warm then o.dram.filter (fun c => o.retained c.1) else []
    hostMem := o.hostMem
    tim := { n.tim with ticks := o.tim.ticks, lockedAt := o.elapsed }
    mtr := { n.mtr with saves := if k = .lifeCycle then [] else o.mtr.saves, nextCopy := o.mtr.nextCopy, fronts := o.mtr.fronts,
                          keptBad := warm && o.mtr.keptBad,
                          kept := if warm && (o.mtr.kept.isSome || !o.mtr.points.isEmpty) then
                              some (o.meterBank, if o.mtr.pulses.isEmpty then (o.mtr.kept.map (fun k => k.2)).getD [] else o.mtr.pulses.map (fun p => p.rem))
                            else none }
    evr := { n.evr with
      staging := o.evr.staging.filter (fun (e : Event) => resetCodes.contains e.code)
      sectors := o.evr.sectors, front := o.evr.front, nextSeq := o.evr.nextSeq
      optimeBase := o.evr.optimeBase, startNs := o.evr.startNs, pwrcyc := o.evr.pwrcyc, lastBeat := o.evr.lastBeat }
    cap := if warm && o.flag Reg.CAP_CTRL 1 then o.cap else n.cap
    aln := n.aln
    hif := if warm then
        { n.hif with journal := o.hif.journal, mirror := o.hif.mirror, slots := o.hif.slots, nextSlot := o.hif.nextSlot, nextSerial := o.hif.nextSerial, cutShort := o.hif.cutShort }
      else n.hif
    sec := { o.sec with
      slots := [], ops := [], queue := [], results := [], denied := []
      share := if k = .lifeCycle then none else o.sec.share
      store := if k = .lifeCycle then [] else o.sec.store }
    bkd := o.bkd
    boot := { o.boot with
      copies := if k = .lifeCycle then [] else o.boot.copies
      image := none, outputsOff := true, resetAt := o.elapsed, halted := false
      activate := if warm then o.boot.activate else none }
    hlt := { n.hlt with area := if warm then o.hlt.area else [] }
    free := o.free
    readData := o.readData
    pending := o.pending }
  let s := if warm then ((s.keepReg o Reg.BOOT_CNT_WARM).keepReg o Reg.FWU_CNT_FALLBACK).keepReg o (Reg.HLT_CNT_E 3) else s
  (if o.flag Reg.SEC_STATUS 0 then s.setFlag Reg.SEC_STATUS 0 true else s).showStaging

/-! ### Images (R425 to R431, R440) -/

/-- A component of the boot record. -/
def State.comp (s : State) (c : Nat) : CompRec := s.boot.comps.getD c {}

/-- Changes a component; every change writes the other copy of the boot record (R426). -/
def State.modComp (s : State) (c : Nat) (f : CompRec → CompRec) : State :=
  { s with boot := { s.boot with comps := listMod s.boot.comps c f, recSeq := s.boot.recSeq + 1 } }

/-- The image in the active slot. -/
def CompRec.active (c : CompRec) : SlotImage := if c.slotB then c.imgB else c.imgA
/-- The image in the other slot. -/
def CompRec.other (c : CompRec) : SlotImage := if c.slotB then c.imgA else c.imgB
/-- Puts an image into the other slot. -/
def CompRec.setOther (c : CompRec) (i : SlotImage) : CompRec := if c.slotB then { c with imgA := i } else { c with imgB := i }
/-- The image in a slot. -/
def CompRec.slotImage (c : CompRec) (b : Bool) : SlotImage := if b then c.imgB else c.imgA

/-- The version of an image; 0 when there is none. -/
def imageVersion : SlotImage → Word
  | .empty => 0
  | .fw i => i.version
  | .cfg i => i.version

/-- The header fields of a firmware image match its component, and a CAL image is of this device (R428). -/
def State.fwHeaderOk (s : State) (c : Nat) (i : FwImage) : Bool :=
  i.ident == 0x474D4954#32 && i.format == 1#16 && i.component == c && decide (i.keyIndex < 2) && decide (i.manifest.length ≤ 8)
    && (c != 3 || decide (leBytes 16 i.uid.toNat = s.uidBytes))

/-- A firmware image's key and signature hold (R428). -/
def fwSigned (i : FwImage) : Bool :=
  Config.sha384 i.pubKey == Config.romKeyHash i.keyIndex && Config.ecdsaVerify i.pubKey (Config.fwBytes i) i.signature

/-- The container's identifier, length, sections and CRCs (R431). -/
def containerOk (i : CfgImage) : Bool :=
  i.headerOk && decide (1 ≤ i.dir.length) && decide (i.dir.length ≤ 32) && i.dir.all (fun d => d.crcOk && sectionIds.contains d.ident.toNat)
    && decide ((i.dir.map (fun d => d.ident)).Nodup)

/-- The container's signer and signature; in BLANK any signer is accepted (R431). -/
def State.cfgSigned (s : State) (i : CfgImage) : Bool :=
  (s.sec.lc == 0 || Config.sha384 i.signerKey == s.sec.ownerHash) && Config.ecdsaVerify i.signerKey (Config.cfgBytes i) i.signature

/-- The verification of an image for a component: a status, 0 for success (R428, R431, R437). -/
def State.verifyImage (s : State) (c : Nat) (i : SlotImage) : Nat :=
  match i with
  | .empty => 0x03
  | .fw i => if !s.fwHeaderOk c i then 0x03 else if !fwSigned i then 0x06 else if i.secVer < (s.comp c).fuses then 0x0B else 0x00
  | .cfg i => if c ≠ 4 || !containerOk i then 0x03 else if s.cfgSigned i then 0x00 else 0x06

/-- A manifest accepts a component's version; one without an entry for it accepts every version (R429). -/
def accepts (i : FwImage) (c : Nat) (v : Word) : Bool :=
  match i.manifest.find? (fun e => e.1 == c) with
  | some (_, lo, hi) => lo ≤ v && v ≤ hi
  | none => true

/-- A component's image is compatible with the active images, both ways, and the PEM catalogue with the configuration (R429, R439). -/
def State.compatible (s : State) (c : Nat) (i : SlotImage) : Bool :=
  match i with
  | .empty => false
  | .cfg i => i.minSup ≤ imageVersion (s.comp 0).active && (catalogueBad (readImage i) s.pemCatalogue).isNone
  | .fw i =>
    [0, 1, 2, 3].all (fun d => d == c || (match (s.comp d).active with
      | .fw j => accepts i d j.version && accepts j c i.version
      | _ => true))
    && (match (s.comp 4).active with
      | .cfg g => c != 1 || (catalogueBad (readImage g) i.catalogue.toNat).isNone
      | _ => true)

/-! ### Start (R422 to R424, R432 to R436) -/

/-- Falls back to the previous slot: state NONE, event 0x140A and FWU_CNT_FALLBACK (R442). -/
def State.fallback (s : State) (c cause : Nat) : State :=
  let s := s.modComp c (fun r => { r with slotB := !r.slotB, state := .none, deadline := none, lastFallback := cause })
  (s.log 0x140A 3 (leBytes 1 c ++ leBytes 1 cause ++ leBytes 2 0 ++ leBytes 4 (imageVersion (s.comp c).active).toNat)).bump Reg.FWU_CNT_FALLBACK

/-- The component in TRIAL, if one is. -/
def State.trialComp (s : State) : Option Nat := (List.range 5).find? (fun c => (s.comp c).state == .trial)

/-- The firmware component whose trial image fails verification at a start (R442). -/
def State.trialFails (s : State) : Option Nat := (s.trialComp).filter (fun c => decide (c < 4) && s.verifyImage c (s.comp c).active != 0)

/-- A component whose active image fails uses the other slot, with event 0x1402 (R428); none when both fail. -/
def State.chooseSlot (s : State) (c : Nat) : Option State :=
  let r := s.comp c
  let st := s.verifyImage c r.active
  if st = 0 then some s
  else
    let s := s.log 0x1402 2 (leBytes 1 c ++ leBytes 1 (bit r.slotB) ++ leBytes 1 st)
    if s.verifyImage c r.other = 0 then some (s.modComp c (fun r => { r with slotB := !r.slotB }))
    else none

/-- The ROM enters recovery with every output undriven and event 0x140B (R430). -/
def State.recover (s : State) : State := (s.setField Reg.BOOT_STATUS 2 0 5).log 0x140B 3 []

/-- Registers whose value a runtime setting may record, beside RWS fields (R435). -/
def extraSettings : List Nat :=
  [Reg.TIM_LOCK_THRESH, Reg.TIM_STEP_THRESH, Reg.TIM_HOLD_DRIFT, Reg.TIM_HOLD_LIMIT, Reg.TIM_PPS_OUT, Reg.TIM_TAI_UTC,
   Reg.SPT_PRP_TIMEOUT 0, Reg.SPT_PRP_TIMEOUT 2, Reg.MTR_SAVE_PERIOD, Reg.HIF_QSTALL, Reg.HGW_LP_CTRL, Reg.HGW_TIME_LIMIT,
   Reg.TWN_CMP_LIMIT, Reg.DFS_LOAD_WIN]

/-- Registers that show one field of many, which a selection register chooses: their records carry a window index (R435). -/
def windowed (a : Nat) : Bool :=
  [Reg.DEC_ST_KEYS, Reg.DEC_ST_KEYID_CUR, Reg.DEC_ST_KEYID_NEXT, Reg.OSC_MON_PARAM, Reg.CYC_PARAM_VAL, Reg.ALM_DEF].contains a
    || (decide (Reg.OSC_BAND_FLO 0 ≤ a) && decide (a < Reg.OSC_BAND_FLO 6))

/-- The bits of a register that are runtime settings of no window (R435). -/
def State.settingBits (s : State) (a : Nat) : Word :=
  match regDesc a with
  | some d =>
    if windowed a then 0
    else d.staged ||| (if extraSettings.contains a && (a != Reg.TIM_TAI_UTC || !s.flag Reg.TIM_TAI_UTC 16) then d.live else 0)
  | none => 0

/-- Records of a stream's keys, a monitor's settings, an alarm's definition, and an instance's parameters, as they stand (R435). -/
def keyRecs (i : Nat) (c : StreamRec) : List SettingRec :=
  [⟨Reg.DEC_ST_KEYS, Word.ofNat i, Word.ofNat (c.curSlot.toNat + c.nextSlot.toNat * 65536)⟩, ⟨Reg.DEC_ST_KEYID_CUR, Word.ofNat i, c.curKeyId⟩,
    ⟨Reg.DEC_ST_KEYID_NEXT, Word.ofNat i, c.nextKeyId⟩]
/-- A monitor's records. -/
def monRecs (i : Nat) (c : MonitorRec) : List SettingRec :=
  ⟨Reg.OSC_MON_PARAM, Word.ofNat i, Word.ofNat (c.tAvg / 10 % 2 ^ 16 + c.tSus % 256 * 2 ^ 16 + c.zetaF % 256 * 2 ^ 24)⟩ ::
    ((List.range 6).map (fun b => [SettingRec.mk (Reg.OSC_BAND_FLO b) (Word.ofNat i) (monEdge c b).1,
      SettingRec.mk (Reg.OSC_BAND_FHI b) (Word.ofNat i) (monEdge c b).2.1, SettingRec.mk (Reg.OSC_BAND_ATH b) (Word.ofNat i) (monEdge c b).2.2])).flatten
/-- An alarm's record: severity, latch and acknowledgement. -/
def defRecs (i : Nat) (c : AlarmRec) : List SettingRec :=
  [⟨Reg.ALM_DEF, Word.ofNat i, Word.ofNat (c.sev % 4 + bit c.latch * 4 + bit c.ackReq * 8)⟩]
/-- The parameters' records, with the window (instance << 16) | offset. -/
def paramRecs (params : List (List Word)) : List SettingRec :=
  (params.mapIdx (fun i (l : List Word) => l.mapIdx (fun k (w : Word) => SettingRec.mk Reg.CYC_PARAM_VAL (Word.ofNat (i * 65536 + 4 * k)) w))).flatten

/-- Every windowed setting as it stands. -/
def State.windowRecs (s : State) (params : List (List Word)) : List SettingRec :=
  (s.dec.streams.map (fun (e : Nat × StreamEntry) => keyRecs e.1 e.2.cfg)).flatten
    ++ (s.osc.monitors.map (fun (x : Nat × MonitorState) => monRecs x.1 x.2.cfg)).flatten
    ++ (s.alm.alarms.map (fun (x : Nat × AlarmState) => defRecs x.1 x.2.cfg)).flatten ++ paramRecs params

/-- The program of an image's CYC section. -/
def imageProgram (i : CfgImage) : Option CycProgram := if hasSection i 12 then i.program else none

/-- The settings as a configuration image gives them. -/
def imageState (i : CfgImage) : State :=
  let s := State.reset.fill i
  match imageProgram i with
  | some p => s.setTasks p
  | none => s

/-- The records of a save: every setting whose value in effect differs from the image's (R435). -/
def State.settingRecords (s : State) (i : CfgImage) : List SettingRec :=
  let b := imageState i
  let offs := s.regs.map (fun p => p.1) ++ (b.regs.map (fun p => p.1)).filter (fun a => !(s.regs.map (fun p => p.1)).contains a)
  let plain := (offs.filter (fun a => (s.reg a ^^^ b.reg a) &&& s.settingBits a != 0)).map (fun a => SettingRec.mk a 0xFFFFFFFF (s.reg a))
  let old := b.windowRecs (((imageProgram i).map (fun p => p.insts.map (fun x => x.params))).getD [])
  plain ++ (s.windowRecs ((s.cyc.run.map (fun (a : ProgArea) => a.params)).getD [])).filter (fun r => !old.contains r)

/-- A record names a runtime setting, and its value lies in the field's range (R436). -/
def State.recordOk (s : State) (i : CfgImage) (r : SettingRec) : Bool :=
  let n := r.window.toNat
  let v := r.value
  if r.offset = Reg.DEC_ST_KEYS then (kvGet s.dec.streams n).isSome && slotOk (bitsOf v 15 0) && slotOk (bitsOf v 31 16)
  else if r.offset = Reg.DEC_ST_KEYID_CUR || r.offset = Reg.DEC_ST_KEYID_NEXT then (kvGet s.dec.streams n).isSome
  else if r.offset = Reg.ALM_DEF then (s.alarm n).isSome
  else if r.offset = Reg.OSC_MON_PARAM then (s.monitor n).isSome && rangeOk Reg.OSC_MON_PARAM v
  else if windowed r.offset && r.offset != Reg.CYC_PARAM_VAL then (s.monitor n).isSome && decide ((r.offset - Reg.OSC_BAND_FLO 0) % 16 < 12)
  else
    match imageProgram i, (List.range 4).find? (fun t => Reg.CYC_T_BUDGET t == r.offset) with
    | some p, some t => ((p.tasks[t]?).map (fun k => budgetOk k.period v.toNat k.wcet)).getD false
    | some p, none =>
      if r.offset = Reg.CYC_PARAM_VAL then paramOk (freshArea p) (n / 65536) (n % 65536)
      else s.settingBits r.offset != 0 && rangeOk (rangeKey r.offset) v && s.decimFits r.offset v
    | none, some _ => false
    | none, none => r.offset != Reg.CYC_PARAM_VAL && s.settingBits r.offset != 0 && rangeOk (rangeKey r.offset) v && s.decimFits r.offset v

/-- A record's value takes effect as an initial value; the cyclic program takes its own when it starts (R436). -/
def State.putSetting (s : State) (r : SettingRec) : State :=
  let n := r.window.toNat
  let v := r.value
  if r.offset = Reg.DEC_ST_KEYS then
    s.modStream n (fun e => { e with cfg := { e.cfg with curSlot := BitVec.ofNat 16 (bitsOf v 15 0), nextSlot := BitVec.ofNat 16 (bitsOf v 31 16) } })
  else if r.offset = Reg.DEC_ST_KEYID_CUR then s.modStream n (fun e => { e with cfg := { e.cfg with curKeyId := v } })
  else if r.offset = Reg.DEC_ST_KEYID_NEXT then s.modStream n (fun e => { e with cfg := { e.cfg with nextKeyId := v } })
  else if r.offset = Reg.ALM_DEF then
    s.modAlarm n (fun x => { x with cfg := { x.cfg with sev := bitsOf v 1 0, latch := v.getLsbD 2, ackReq := v.getLsbD 3 } })
  else if r.offset = Reg.OSC_MON_PARAM then s.modMonitor n (fun x => { x with cfg := monParam v x.cfg })
  else if r.offset = Reg.CYC_PARAM_VAL then s
  else if r.offset = Reg.TIM_TAI_UTC then s.setUtcOffset (v.setWidth 16).toInt 0
  else if windowed r.offset then
    s.modMonitor n (fun x => { x with cfg := monBand ((r.offset - Reg.OSC_BAND_FLO 0) / 16) ((r.offset - Reg.OSC_BAND_FLO 0) % 16 / 4) v x.cfg })
  else
    let m := s.settingBits r.offset
    s.setReg r.offset ((s.reg r.offset &&& ~~~m) ||| (v &&& m))

/-- The largest headland and the deadlines follow the section settings of the groups (R116, R125). -/
def State.showHeadlands (s : State) : State :=
  ((List.range 4).filter (fun g => s.groupOn g)).foldl (fun (s : State) g =>
    let n := s.sectionCount g
    let s := s.setReg (Reg.ALN_RG_HEADLAND g) (Word.ofNat (headlandOf s.reg g n))
    (List.range n).foldl (fun (s : State) k =>
      (s.setField (Reg.ALN_SEC_DEADLINE g k) 18 0 (s.reg (Reg.ALN_SEC_HMAX g k)).toNat).setFlag (Reg.ALN_SEC_DEADLINE g k) 31 (s.flag (Reg.ALN_SEC_CTRL g k) 4)) s) s

/-- A block's commit checks fail over the settings as they stand (R436). -/
def State.settingsBad (s : State) (i : CfgImage) (n : Nat) : Bool :=
  (s.limitOf i n).isSome || (n == 6 && (List.range 4).any (fun g => s.groupOn g && (s.commitCause g).isSome))

/-- Applies records in order: those whose values fail their block's checks, made once over the result, are skipped.  With the records applied (R436). -/
def State.takeRecords (s : State) (i : CfgImage) (l : List SettingRec) : State × List SettingRec :=
  let put := fun (l : List SettingRec) => (l.foldl State.putSetting s).showHeadlands
  let ok := l.filter (fun r => s.recordOk i r)
  let t := put ok
  let good := ok.filter (fun r => ((blockSection r.offset).map (fun n => !t.settingsBad i n)).getD true)
  let t := put good
  let cyc := good.filter (fun r => r.offset == Reg.CYC_PARAM_VAL || (List.range 4).any (fun k => Reg.CYC_T_BUDGET k == r.offset))
  ({ t with boot := { t.boot with cycSet := cyc } }, good)

/-- The settings formats that the running SUP writes and accepts at the oldest. -/
def State.supFormats (s : State) : Nat × Nat :=
  match (s.comp 0).active with
  | .fw i => (i.setFormat, i.setOldest)
  | _ => (0, 0)

/-- Applies or resets the runtime settings before the commit (R436). -/
def State.applySettings (s : State) (i : CfgImage) : State :=
  let reset (s : State) (cause fmt : Nat) : State :=
    (s.setFlag Reg.FWU_SET_STATUS 17 true).log 0x1406 1 (leBytes 1 cause ++ leBytes 1 0 ++ leBytes 2 fmt)
  match s.boot.copies.find? (fun c => c.ok) with
  | none => reset s 3 0
  | some c =>
    if c.digest ≠ Config.cfgDigest i then reset s 2 c.format
    else if c.format < (s.supFormats).2 then reset s 1 c.format
    else
      let (s, good) := s.takeRecords i c.records
      let a := good.length
      let k := c.records.length - a
      let s := s.setReg Reg.FWU_SET_STATUS (Word.ofNat (c.format % 65536 + 65536))
      let s := s.setReg Reg.FWU_SET_RECORDS (Word.ofNat (a % 65536 + k % 65536 * 65536))
      let s := (s.setReg Reg.FWU_SET_SEQ (Word.ofNat c.seq)).setFlag Reg.BOOT_STATUS 9 true
      s.log 0x1405 0 (leBytes 2 a ++ leBytes 2 k ++ leBytes 2 c.format)

/-- Event 0x1401 ends a start (R422); the ms to commit are the model's free value, or all ones when the start ends UNCONFIGURED. -/
def State.startDone (s : State) (committed : Bool) : State :=
  let ms := if committed then (s.freshWord).toNat else 0xFFFFFFFF
  let s := if committed then (s.setReg Reg.BOOT_COMMIT_MS s.freshWord).useFree 1 else s
  let s := s.log 0x1401 0 (leBytes 1 (s.field Reg.BOOT_RESET_CAUSE 3 0) ++ leBytes 1 0 ++ leBytes 2 0 ++ leBytes 4 ms)
  let (n, r) := s.hif.cutShort
  if n = 0 then s
  else ({ s with hif := { s.hif with cutShort := (0, 0) } }).log 0x0F07 1 (leBytes 2 n ++ leBytes 2 r)

/-- The IMAGE_ACTIVATE whose own reset this start follows posts its final completion: OK in TRIAL, ABORTED at the commit that follows a fallback (R348). -/
def State.finishActivate (s : State) (status : Nat) : State :=
  match s.boot.activate with
  | some h =>
    match s.journalOf h with
    | some e =>
      let s := s.putJournal { e with status := status, disp := .complete, gts := s.now }
      let s := s.post (completionWords h e.tag e.opcode status true false e.step e.total e.units 0)
      ({ s with boot := { s.boot with activate := none } }).freeHandle h
    | none => { s with boot := { s.boot with activate := none } }
  | none => s

/-- The image is refused: registers, event 0x1404, and UNCONFIGURED (R432, R433). -/
def State.refuseImage (s : State) (e : LoadError) : State :=
  let s := s.setReg Reg.BOOT_REFUSE_SECTION (Word.ofNat e.section_)
  let s := s.setReg Reg.BOOT_REFUSE_INFO (Word.ofNat (e.cause % 256 + e.index % 2 ^ 24 * 256))
  let s := s.setField Reg.BOOT_STATUS 2 0 4
  s.log 0x1404 3 (leBytes 4 e.section_ ++ leBytes 1 e.cause ++ leBytes 3 e.index)

/-- The configuration commit: RWL fields lock, the trial deadline starts, event 0x1403, and the blocks start (R434, R437, R377). -/
def State.commitConfig (s : State) (i : CfgImage) : State :=
  let d := Config.cfgDigest i
  let s := { s with committed := true, boot := { s.boot with image := some i, outputsOff := false } }
  let s := s.setField Reg.BOOT_STATUS 2 0 3
  let s := s.setReg Reg.BOOT_CFG_VERSION i.version
  let s := (s.setReg Reg.BOOT_CFG_DIGEST (d.setWidth 32)).setReg Reg.TWN_CFG_DIGEST (d.setWidth 32)
  let s := match s.trialComp with
    | some c =>
      (s.modComp c (fun r => { r with deadline := some (s.elapsed + s.field Reg.FWU_CONFIRM_WIN 31 0 * 1000000000) })).setFlag Reg.BOOT_STATUS 8 true
    | none => s
  let s := { s with twn := { s.twn with commitAt := s.elapsed } }
  let s := if hasSection i 3 then s.modBkd (fun b => { b with tampCtrl := s.reg Reg.BKD_TAMP_CTRL &&& 0x77777 }) else s
  let s := if s.flag Reg.TWN_CTRL 0 then s.setField Reg.TWN_STATUS 2 0 3 else s
  let on := s.drives
  let s := { s with alm := { s.alm with pins := s.alm.pins.map (fun (p : PinState) => { p with driven := on }) } }
  let s := s.log 0x1403 0 (leBytes 4 i.version.toNat ++ leBytes 4 (d.toNat % 2 ^ 32))
  let locked := s.flag Reg.SEC_STATUS 0 && !s.flag Reg.BKD_CTRL 1
  let s := if locked then { s with boot := { s.boot with outputsOff := true } } else s.startBlocks i
  (s.finishActivate (if s.trialComp.isSome then 0x00 else 0x0C)).startDone true

/-- The configuration stage of a start: container, sections, settings, commit; a refusal in TRIAL is left to the caller (R432 to R436). -/
def State.configure (s : State) : Except LoadError State :=
  match (s.comp 4).active with
  | .cfg raw =>
    let i := readImage raw
    if !containerOk raw || !s.cfgSigned raw then .error ⟨0x474D4943, 1, 0⟩
    else if imageVersion (s.comp 0).active < i.minSup then .error ⟨0x474D4943, 2, 0⟩
    else
      match s.loadImage i with
      | .ok s => .ok ((s.applySettings i).commitConfig i)
      | .error e => .error e
  | _ => .error ⟨0x474D4943, 1, 0⟩

/-- Logs the records of the error area whose event has not yet been committed, with their original GTS (R451). -/
def State.logArea (s : State) : State :=
  let s := s.hlt.area.foldr (fun r s =>
    if r.logged then s
    else
      let e := s.eventAt r.gts (0x1500 + r.err.grade) 3 0 (leBytes 4 r.err.source.toNat ++ leBytes 2 r.err.code.toNat
        ++ leBytes 1 (if r.err.grade = 4 then r.err.cause else 0))
      s.submit { e with validity := r.val }) s
  { s with hlt := { s.hlt with area := s.hlt.area.map (fun r => { r with logged := true }) } }

/-- What the boot ROM and firmware log of the backup domain: a tamper latch, a firing while off, lost contents (R407, R415, Table 18-2). -/
def State.checkDomain (s : State) : State :=
  let b := s.bkd
  let s := if b.tampCause = 0 then s
    else (s.setFlag Reg.SEC_STATUS 0 true).log 0x1303 3 (leBytes 1 b.tampCause.toNat ++ leBytes 1 0 ++ countBytes b.tampTick)
  let s := match b.offAlarm with
    | some (c, sk) => s.log 0x1301 1 (leBytes 1 (bit sk + 2) ++ leBytes 1 0 ++ countBytes c)
    | none => s
  let s := if b.lost then s.log 0x1305 2 [] else s
  s.modBkd (fun b => { b with offAlarm := none, lost := false, lastSync := none, mainOn := true })

/-- Event 0x1207 of a wipe; its duration is a free value (R405). -/
def State.logWipe (s : State) (cause : Nat) : State :=
  (s.log 0x1207 0 (leBytes 1 cause ++ leBytes 1 0 ++ leBytes 2 0 ++ leBytes 4 (s.freshWord).toNat)).useFree 1

/-- The wipe cause of event 0x1207. -/
def ResetKind.wipeCause : ResetKind → Nat
  | .cold => 1
  | .warm => 2
  | .lifeCycle => 3

/-- The calibration data of the active CAL image come into use; their identifier is not 0, which means none (R166, R169). -/
def State.useCal (s : State) : State :=
  match (s.comp 3).active with
  | .fw i =>
    let s := (s.setFlag Reg.WAV_STATUS 16 true).setReg Reg.WAV_CAL_ID (if i.calId = 0 then 1 else i.calId)
    { s with wav := { s.wav with cal := i.cal } }
  | _ => s

/-- A start from a reset of a kind with a cause of Table 19-1: slots, recorder, keys, image, commit; a fallback restarts as a warm reset of cause 7, at most `fuel` times. -/
def State.start : Nat → ResetKind → Nat → State → State
  | 0, k, cause, o => (o.restart k).setField Reg.BOOT_RESET_CAUSE 3 0 cause
  | fuel + 1, k, cause, o =>
    match o.pendTarget with
    | some m => (State.start fuel .lifeCycle 3 (o.fuse m)).adopt m o.storedSlots
    | none =>
    let s := (o.restart k).setField Reg.BOOT_RESET_CAUSE 3 0 cause
    let s := (s.timeFromRtc s.freshWord.toNat).useFree 1
    let s := if k = .warm then s.bump Reg.BOOT_CNT_WARM else s
    let s := if cause = 1 then { s with evr := { s.evr with pwrcyc := s.evr.pwrcyc + 1 } } else s
    match (if cause = 6 then none else s.trialComp) with
    | some c => State.start fuel .warm 7 (s.fallback c 2)
    | none =>
    match s.trialFails with
    | some c => State.start fuel .warm 7 ((s.log 0x1402 2 (leBytes 1 c ++ leBytes 1 (bit (s.comp c).slotB) ++ leBytes 1 (s.verifyImage c (s.comp c).active))).fallback c 4)
    | none =>
      let s := (s.setReg Reg.SYS_CLK_STATUS (7 ||| (s.freshWord &&& 8))).useFree 1
      let s := (s.setField Reg.MEM_STATUS 1 0 3).setReg Reg.MEM_SIZE (Word.ofNat Config.dramMiB)
      let s := (s.setFlag (Reg.MEM_CH_STATUS 0) 0 true).setFlag (Reg.MEM_CH_STATUS 1) 0 true
      match s.chooseSlot 0 with
      | none => s.recover
      | some s =>
        match s.chooseSlot 1 with
        | none => s.recover
        | some s =>
          let s := (s.chooseSlot 2).getD s
          let s := match s.chooseSlot 3 with
            | some s => s.useCal
            | none => s
          let s := s.startRecorder
          let s := s.checkDomain
          let s := s.startCaddy
          let s := s.logWipe k.wipeCause
          let s := s.logArea
          match s.configure with
          | .ok s => s
          | .error e =>
            match s.trialComp with
            | some c => if c = 0 || c = 4 then State.start fuel .warm 7 ((s.refuseImage e).fallback c 3)
                        else (s.refuseImage e).startDone false
            | none => (s.refuseImage e).startDone false

/-- The disposition of an operation that a reset ends (R348): RESUMABLE for copies and staging whose source is kept. -/
def State.cutDisposition (s : State) (w : OpWork) : Disposition :=
  match w with
  | .export_ _ _ _ => if s.flag Reg.CAP_CTRL 1 then .resumable else .redo
  | .archiveRead src _ _ => if src = 4 || (src < 4 && s.flag (Reg.ALN_RG_HIST_CTRL src) 1) then .resumable else .redo
  | .imageStage _ _ => .resumable
  | _ => .redo

/-- Ends every running long operation but one (R348). -/
def State.cutOps (s : State) (keep : Option Nat) : State :=
  let l := s.hif.ops.filter (fun o => some o.handle != keep)
  let r := (l.filter (fun o => s.cutDisposition o.work == .resumable)).length
  let s := l.foldl (fun s o => s.cutOp o (s.cutDisposition o.work)) s
  { s with hif := { s.hif with cutShort := (l.length, r) } }

/-- A warm reset of a cause of Table 19-1 (R424), which hands the error records still on the stack to the error area (R450). -/
def State.warm (s : State) (cause : Nat) : State :=
  let entries : List StackEntry := (match s.hlt.handling with
    | some (e, _) => [e]
    | none => []) ++ s.hlt.stack
  let keep := entries.filter (fun e => 3 ≤ e.err.grade)
  let s := { s with hlt := { s.hlt with area := (keep.map (fun (e : StackEntry) => AreaRec.mk e.err e.gts e.val false) ++ s.hlt.area).take 16 } }
  (s.cutOps s.boot.activate).start 3 .warm cause

/-! ### The commands -/

/-- `COLD_START`: PORST_N is released, the straps are sampled, and the device starts, halts or enters recovery (R423, R469, R470). -/
def execColdStart (straps : BitVec 4) (s : State) : Host.Outcome State Fault Refusal :=
  let c := s.boot.coldCause
  let s := { s with boot := { s.boot with straps := straps, porst := false, coldCause := 1 } }
  answer <|
    if straps.getLsbD 2 || straps.getLsbD 3 then
      let s := s.restart .cold
      { s with boot := { s.boot with halted := true } }
    else if straps.getLsbD 1 then ((s.restart .cold).setField Reg.BOOT_RESET_CAUSE 3 0 c).recover
    else s.start 3 .cold c

/-- `WARM_RESET`: images are verified again, the configuration image is reloaded and committed (R424). -/
def execWarmReset (cause : Nat) (s : State) : Host.Outcome State Fault Refusal := answer (s.warm cause)

/-- The device is held in reset until PORST_N is released. -/
def State.hold (s : State) (cause : Nat) : State :=
  let n := s.restart .cold
  { n with boot := { n.boot with porst := true, coldCause := cause } }

/-- `PORST_ASSERT`: a low pulse of at least 10 µs resets, one shorter than 1 µs is ignored, and the spec leaves one between them open (R469). -/
def execPorstAssert (ns : Nat) (s : State) : Host.Outcome State Fault Refusal :=
  answer <|
    if ns < 1000 then s
    else if 10000 ≤ ns then s.hold 2
    else if (s.freshWord).getLsbD 0 then (s.useFree 1).hold 2
    else s.useFree 1

/-- `RAIL_UNDERVOLTAGE`: a rail below its minimum for 2 µs or more resets the device, and the next start records cause 1 (R467). -/
def execRailUndervoltage (_rail ns : Nat) (s : State) : Host.Outcome State Fault Refusal :=
  answer (if 2000 ≤ ns then s.hold 1 else s)

/-- `BOOT_RESET`: a write of 0x0000_5257 requests a warm reset of cause 5; any other value is ignored (R422). -/
def execBootReset (value : Word) (s : State) : Host.Outcome State Fault Refusal :=
  answer (if value = 0x5257#32 then s.warm 5 else s)

/-- `SUP_WATCHDOG_EXPIRE`: the watchdog causes a warm reset of cause 8 (R422). -/
def execSupWatchdogExpire (s : State) : Host.Outcome State Fault Refusal := answer (s.warm 8)

/-- `BOOT_RCV_GO`: in recovery, the ROM verifies the SUP image in the window, writes it to the inactive slot and restarts with cause 6 (R430). -/
def execBootRcvGo (value : Word) (image : SlotImage) (s : State) : Host.Outcome State Fault Refusal :=
  answer <|
    if value.getLsbD 0 && s.field Reg.BOOT_STATUS 2 0 == 5 && s.verifyImage 0 image == 0 then
      (s.modComp 0 (fun r => r.setOther image)).warm 6
    else s

/-- `TRIAL_DEADLINE`: a component still in TRIAL at its deadline falls back, with a warm reset of cause 7 (R442). -/
def execTrialDeadline (component : Nat) (s : State) : Host.Outcome State Fault Refusal :=
  let r := s.comp component
  answer <|
    if r.state = .trial && (match r.deadline with
        | some t => decide (t ≤ s.elapsed)
        | none => false) then (s.fallback component 1).warm 7
    else s

/-- Makes the other slot of a component active in TRIAL, with event 0x1408 (R437). -/
def State.activateSlot (s : State) (c : Nat) : State :=
  let s := s.modComp c (fun r => { r with slotB := !r.slotB, state := .trial, deadline := none })
  let r := s.comp c
  s.log 0x1408 1 (leBytes 1 c ++ leBytes 1 (bit r.slotB) ++ leBytes 2 0 ++ leBytes 4 (imageVersion r.active).toNat)

/-- `TWIN_CFG_ACTIVATE`: both devices activate the forwarded image at the agreed second boundary (R443). -/
def execTwinCfgActivate (s : State) : Host.Outcome State Fault Refusal :=
  match s.twn.cfgActivate with
  | some (t, _) =>
    answer <|
      if t ≤ s.now && (s.comp 4).state = .staged then (({ s with twn := { s.twn with cfgActivate := none } }).activateSlot 4).warm 6 else s
  | none => answer (if s.role = 4 && (s.comp 4).state = .staged then (s.activateSlot 4).warm 6 else s)

/-- Bytes of an image as IMAGE_STAGE writes it (R427, R431, R437). -/
def imageSize : SlotImage → Nat
  | .empty => 0
  | .fw i => 256 + i.payload.length + 96
  | .cfg i => (Config.cfgBytes i).length + 96

/-- The image that a command's buffer holds. -/
def bufImage : BufContent → SlotImage
  | .image i => i
  | _ => .empty

/-- The sizes of write steps of at most 65,536 B. -/
def stepSizes (n : Nat) : List Nat := (List.range ((n + 65535) / 65536)).map (fun k => min 65536 (n - k * 65536))

/-- `IMAGE_STAGE`: the inactive slot goes to STAGING and the image is written and verified in steps (R437). -/
def execImageStage (h : CmdHdr) (component : Nat) (content : BufContent) (s : State) : Host.Outcome State Fault Refusal :=
  let i := bufImage content
  let busy := s.opRunning (fun w => match w with
    | .imageStage _ _ => true
    | .imageActivate _ => true
    | _ => false)
  answer <|
    if 5 ≤ component || i = .empty || !bufOk h then s.completeShort h 0x0050 0x03 0
    else if (s.comp component).state = .trial || busy then s.completeShort h 0x0050 0x02 0
    else
      let z := stepSizes (imageSize i)
      s.startLong h 0x0050 (.imageStage component i) false (z.length + 1) z

/-- The next step of IMAGE_STAGE: the first clears OTHER_VALID, the last verifies (R437). -/
def State.stageStep (s : State) (o : LongOp) (c : Nat) (i : SlotImage) : State :=
  if o.step + 1 < o.total then
    let s := if o.step = 0 then s.modComp c (fun r => { r.setOther .empty with state := .staging }) else s
    s.commitStep o.handle (o.sizes.getD o.step 0) false
  else
    let st := s.verifyImage c i
    let s := s.commitStep o.handle 0 true
    if st = 0 then
      let s := s.modComp c (fun r => { r.setOther i with state := .staged })
      let s := s.log 0x1407 0 (leBytes 1 c ++ leBytes 1 (bit (!(s.comp c).slotB)) ++ leBytes 2 0 ++ leBytes 4 (imageVersion i).toNat)
      s.finishOp o.handle 0x00 0
    else (s.modComp c (fun r => { r with state := .none })).finishOp o.handle st 0

/-- `IMAGE_ACTIVATE`: a staged, or other, slot becomes active in TRIAL and a warm reset of cause 6 starts; CFG on the Tilled device of a pair waits for the agreed boundary (R437, R439, R443). -/
def execImageActivate (h : CmdHdr) (component : Nat) (other : Bool) (s : State) : Host.Outcome State Fault Refusal :=
  let r := s.comp component
  let paired := component == 4 && s.field Reg.TWN_STATUS 2 0 == 2
  answer <|
    if 5 ≤ component then s.completeShort h 0x0051 0x03 0
    else if s.trialComp.isSome || (!other && r.state != .staged) || s.verifyImage component r.other != 0 then s.completeShort h 0x0051 0x04 0
    else if !s.compatible component r.other then s.completeShort h 0x0051 0x0B 0
    else if paired && (s.freshWord).getLsbD 0 then (s.useFree 1).completeShort h 0x0051 0x04 0
    else
      let s := if paired then s.useFree 1 else s
      let n := s.hif.ops.length
      let s := s.startLong h 0x0051 (.imageActivate component) true 0 []
      if s.hif.ops.length = n then s
      else
        let s := { s with boot := { s.boot with activate := some s.lastHandle } }
        if paired then { s with twn := { s.twn with cfgActivate := some ((s.now + 1999999999) / 1000000000 * 1000000000, s.lastHandle) } }
        else (s.activateSlot component).warm 6

/-- A settings copy comes into use: its format and sequence are shown (R435). -/
def State.useCopy (s : State) (c : SettingsCopy) : State :=
  ((s.setField Reg.FWU_SET_STATUS 15 0 c.format).setFlag Reg.FWU_SET_STATUS 16 true).setReg Reg.FWU_SET_SEQ (Word.ofNat c.seq)

/-- `CONFIRM`: a component in TRIAL before its deadline is confirmed and its fuse count raised; any other case completes with BAD_STATE (R438). -/
def execConfirm (h : CmdHdr) (component : Nat) (s : State) : Host.Outcome State Fault Refusal :=
  let r := s.comp component
  let ok := s.committed && r.state == .trial && (match r.deadline with
    | some t => decide (s.elapsed ≤ t)
    | none => false)
  answer <|
    if 5 ≤ component then s.completeShort h 0x0052 0x03 0
    else if !ok then s.completeShort h 0x0052 0x04 0
    else
      let sv := match r.active with
        | .fw i => i.secVer
        | _ => 0
      let s := s.modComp component (fun r => { r with state := .none, deadline := none, fuses := max r.fuses (min 63 sv) })
      let (fmt, old) := s.supFormats
      let s := if component = 0 then
          match s.boot.copies with
          | c :: _ =>
            let d : SettingsCopy := { c with format := fmt, seq := c.seq + 1 }
            if old ≤ c.format then ({ s with boot := { s.boot with copies := [d, c] } } : State).useCopy d else s
          | [] => s
        else s
      let s := s.setFlag Reg.BOOT_STATUS 8 false
      let s := s.log 0x1409 1 (leBytes 1 component ++ leBytes 1 (s.comp component).fuses ++ leBytes 2 0 ++ leBytes 4 (imageVersion (s.comp component).active).toNat)
      s.completeShort h 0x0052 0x00 0

/-- `SETTINGS_SAVE`: the runtime settings are collected, programmed and switched to in 3 steps; refused in TRIAL (R435). -/
def execSettingsSave (h : CmdHdr) (s : State) : Host.Outcome State Fault Refusal :=
  match s.boot.image with
  | none => answer (s.completeShort h 0x0053 0x04 0)
  | some i =>
    answer <|
      if s.trialComp.isSome then s.completeShort h 0x0053 0x04 0
      else if s.opRunning (fun w => match w with
          | .settingsSave _ => true
          | _ => false) then s.completeShort h 0x0053 0x02 0
      else if 65535 < (s.settingRecords i).length then s.completeShort h 0x0053 0x05 0
      else s.startLong h 0x0053 (.settingsSave (s.settingRecords i)) true 3 []

/-- The next step of SETTINGS_SAVE; the last switches the copy in use (R435). -/
def State.saveStep (s : State) (o : LongOp) (recs : List SettingRec) : State :=
  let s := s.commitStep o.handle (if o.step = 0 then recs.length else 0) (o.step + 1 == o.total)
  if o.step + 1 < o.total then s
  else
    let seq := ((s.boot.copies.head?).map (fun c => c.seq)).getD 0 + 1
    let d := match s.boot.image with
      | some i => Config.cfgDigest i
      | none => 0
    let c : SettingsCopy := { format := (s.supFormats).1, seq := seq, digest := d, records := recs, ok := true }
    let s := { s with boot := { s.boot with copies := c :: s.boot.copies.take 1 } }
    (s.useCopy c).finishOp o.handle 0x00 0

/-! ### Key updates: the steps that may restart the device (R393, R400, R420) -/

/-- A life-cycle transition: return fuse, state, OWNER_HASH from BLANK, wipe, event 0x1201 and a restart as after a cold reset; the message's operations apply in the new state (R393, R395). -/
def State.transition (s : State) (m : List Byte) (l : Slots) : State :=
  ((s.fuse m).start 3 .lifeCycle 3).adopt m l

/-- The next step of KEY_UPDATE (Table 17-7). -/
def State.keyStep (s : State) (o : LongOp) (m : List Byte) : State :=
  let refuse (s : State) (status : Nat) : State :=
    ((s.kuRefuse m status (o.step + 1)).setFlag Reg.SEC_STATUS 4 false).finishOp o.handle status 0
  match o.step with
  | 0 => if s.kuStep1 m = 0 then s.commitStep o.handle 1 false else refuse s (s.kuStep1 m)
  | 1 => if s.kuStep2 m = 0 then s.commitStep o.handle 1 false else refuse s (s.kuStep2 m)
  | 2 =>
    match s.kuStep3 m with
    | .ok _ => s.commitStep o.handle 1 false
    | .error e => refuse s e
  | 3 =>
    match s.kuStep3 m with
    | .ok l => (s.kuStep4 m l).commitStep o.handle 1 false
    | .error e => refuse s e
  | _ =>
    let l := s.storedSlots
    let wasTamper := s.flag Reg.SEC_STATUS 0
    let s := s.commitStep o.handle 1 true
    let s := s.setFlag Reg.SEC_STATUS 4 false
    if msgTarget m = 0xFF then
      let s := (s.kuActivate m l).finishOp o.handle 0x00 0
      if wasTamper && !s.flag Reg.SEC_STATUS 0 then s.warm 9 else s
    else (s.finishOp o.handle 0x00 0).transition m l

/-- The bytes that a command's buffer holds. -/
def bufBytes : BufContent → List Byte
  | .bytes b => b
  | _ => []

/-- `KEY_UPDATE`: checks, commits and activates an update message in the steps of Table 17-7 (R399, R400). -/
def execKeyUpdate (h : CmdHdr) (content : BufContent) (s : State) : Host.Outcome State Fault Refusal :=
  answer <|
    if !bufOk h then s.completeShort h 0x0060 0x03 0
    else if s.opRunning (fun w => match w with
        | .keyUpdate _ => true
        | _ => false) then s.completeShort h 0x0060 0x02 0
    else if !s.flag Reg.SEC_CTRL 0 then s.completeShort h 0x0060 0x04 0
    else
      let n := s.hif.ops.length
      let s := s.startLong h 0x0060 (.keyUpdate (bufBytes content)) true 5 []
      if s.hif.ops.length = n then s else s.setFlag Reg.SEC_STATUS 4 true

end Sys2Proof.Machine
end

