-- ==== Sys2Proof/Machine/Hif.lean ====
section
/-!
DEFINITION. The host interface, its queue windows and its commands (R328 to R349).
-/
namespace Sys2Proof.Machine

/-! ### The endpoint (R328 to R332) -/

/-- Queues that a loss of the host empties: Q0, Q1 and every queue whose producer or consumer is HOST (R332). -/
def State.hostQueues (s : State) : List Nat :=
  (List.range 128).filter (fun q => s.qEn q && (q < 2 || s.qProducer q == 0 || s.qConsumer q == 0))

/-- Empties a queue, counting its packets and the one being pushed as lost (R332). -/
def State.qEmpty (s : State) (q : Nat) : State :=
  let x := s.queue q
  let lost := x.held
  let s := s.setQueue q { x with
    packets := [], taken := none, open_ := none, rdPtr := x.wrPtr, rdCopy := x.wrCopy
    discarding := false, pushWait := [], endWait := none, waits := [] }
  (s.bumpBy (Reg.HIF_Q_CNT_LOST q) lost).showOpen q

/-- The host interface alone is reset: queues emptied, descriptor rings disabled, bus mastering off (R332). -/
def State.hostLost (s : State) : State :=
  let s := s.hostQueues.foldl (fun (s : State) q => s.qEmpty q) s
  let s := (List.range 6).foldl (fun (s : State) p =>
    let s := (List.range 32).foldl (fun (s : State) r => s.setFlag (Reg.SPT_RXR_CTRL p r) 0 false) s
    (List.range 8).foldl (fun (s : State) r => s.setFlag (Reg.SPT_TXR_CTRL p r) 0 false) s) s
  let s := { s with hif := { s.hif with busMaster := false } }.setFlag Reg.HIF_STATUS 1 false
  s.flushQ1 s.hif.q1Wait.length

/-- Packets that the host's queues hold. -/
def State.hostHeld (s : State) : Nat := (s.hostQueues.map (fun q => (s.queue q).held)).foldl (· + ·) 0

/-- The link's speed code and width. -/
def State.linkShape (s : State) : List Byte := leBytes 1 (s.field Reg.HIF_STATUS 4 2) ++ leBytes 1 (s.field Reg.HIF_STATUS 11 8)

/-- The PCIe link is lost (R332). -/
def State.hostLinkLost (s : State) : State :=
  if !s.flag Reg.HIF_STATUS 0 then s
  else
    let s := (s.log 0x0F01 1 s.linkShape).bump Reg.HIF_CNT_LINK_DOWN
    let s := s.hostLost
    ((s.setFlag Reg.HIF_STATUS 0 false).setField Reg.HIF_STATUS 4 2 0).setField Reg.HIF_STATUS 11 8 0

/-- `PCIE_LINK_DOWN` (R332). -/
def execPcieLinkDown (s : State) : Host.Outcome State Fault Refusal := answer s.hostLinkLost

/-- `PCIE_LINK_UP`: the link trains at a speed and width that its partner decides, a free value; bus mastering is on from here (R332). -/
def execPcieLinkUp (s : State) : Host.Outcome State Fault Refusal := answer <|
  let s := { s with hif := { s.hif with busMaster := true } }.setFlag Reg.HIF_STATUS 1 true
  if s.flag Reg.HIF_STATUS 0 then s
  else
    let w := s.freshWord
    let s := ((s.useFree 1).setFlag Reg.HIF_STATUS 0 true).setFlag Reg.SYS_CLK_STATUS 3 true
    let s := (s.setField Reg.HIF_STATUS 4 2 (1 + bitsOf w 1 0)).setField Reg.HIF_STATUS 11 8 (2 ^ bitsOf w 3 2)
    s.log 0x0F02 0 s.linkShape

/-- `HOST_RESET`: an FLR, a hot reset or PCIE_PERST_N, all handled as an FLR (R328, R332). -/
def execHostReset (_kind : HostResetKind) (s : State) : Host.Outcome State Fault Refusal := answer <|
  let lost := s.hostHeld
  let s := (s.hostLost).bump Reg.HIF_CNT_FLR
  { s with hif := { s.hif with flrs := lost } }.log 0x0F06 1 (leBytes 4 lost)

/-- Bytes of a read, as the words that the host receives. -/
def readWords (b : List Byte) : List Word := toWords ((b.length + 3) / 4) b

/-- An address lies in the region of the oscillation analyser's buffers, which carries neither tag (R211). -/
def State.inOsc (s : State) (a : Nat) : Bool :=
  let base := s.pair Reg.OSC_DRAM_BASE_LO Reg.OSC_DRAM_BASE_HI
  decide (base ≤ a) && decide (a < base + (s.reg Reg.OSC_DRAM_SIZE).toNat * 2 ^ 20)

/-- An address carries the secret tag (R38). -/
def State.secretAt (s : State) (a : Nat) : Bool := Config.secretDram a && !s.inOsc a

/-- Bytes of DRAM that a reader sees: those of the analyser's region, whose layout the spec does not give, are free values (R211). -/
def State.seeDram (s : State) (a len : Nat) : State × List Byte :=
  let l := (s.readDram a len).mapIdx (fun i b => if s.inOsc (a + i) then (Config.freeWord (s.free + i)).setWidth 8 else b)
  (if (List.range len).any (fun i => s.inOsc (a + i)) then s.useFree len else s, l)

/-- `APERTURE_READ`: a read of BAR4 (R331). -/
def execApertureRead (offset len : Nat) (s : State) : Host.Outcome State Fault Refusal := answer <|
  let a := s.pair Reg.HIF_APER_BASE_LO Reg.HIF_APER_BASE_HI + offset
  let hidden := decide (Config.dramMiB * 2 ^ 20 < a + len) || (List.range len).any (fun i => s.secretAt (a + i))
  let poisoned := s.hif.aperHeld.any (fun r => decide (r.1 < a + len) && decide (a < r.1 + r.2.1))
  if hidden then ({ s with readData := readWords (List.replicate len 0) }).bump Reg.HIF_CNT_APER_ZERO
  else if poisoned then
    (({ s with readData := readWords (List.replicate len 0xFF) }).bump Reg.HIF_CNT_APER_POISON).log 0x0F05 2 (leBytes 8 offset)
  else { (s.seeDram a len).1 with readData := readWords (s.seeDram a len).2 }

/-- `APERTURE_WRITE`: a write to BAR4 is discarded and counted (R331). -/
def execApertureWrite (_offset : Nat) (s : State) : Host.Outcome State Fault Refusal := answer (s.bump Reg.HIF_CNT_APER_WRITE)

/-- `PCIE_COMPLETION_TIMEOUT`: reported under AER with its requester (R328). -/
def execPcieCompletionTimeout (requester : Nat) (s : State) : Host.Outcome State Fault Refusal :=
  answer { s with hif := { s.hif with aer := s.hif.aer ++ [requester] } }

/-! ### Queue windows (R335 to R341) -/

/-- `QUEUE_POP`: a host read of a POP window (R336). -/
def execQueuePop (q words : Nat) (s : State) : Host.Outcome State Fault Refusal := answer ((s.pop q words).pushWake q)

/-- `QUEUE_POP_TIMEOUT` (R336). -/
def execQueuePopTimeout (q : Nat) (s : State) : Host.Outcome State Fault Refusal := answer ((s.popExpire q).pushWake q)

/-- A queue takes host pushes: its producer is HOST and it is in use (R335). -/
def State.hostPushes (s : State) (q : Nat) : Bool := s.qEn q && s.qProducer q == 0

/-- `QUEUE_PUSH`: a host write to a PUSH window (R335). -/
def execQueuePush (q : Nat) (words : List Word) (s : State) : Host.Outcome State Fault Refusal := answer <|
  if !s.hostPushes q then s.bump Reg.HIF_CNT_BAD_ACCESS
  else
    let s := s.qCheck q
    if (s.queue q).discarding then s else s.pushWords q words

/-- `QUEUE_PUSH_END`: the packet ends, or waits behind words that wait for credits (R335, R337). -/
def execQueuePushEnd (q : Nat) (value : Word) (s : State) : Host.Outcome State Fault Refusal := answer <|
  if !s.hostPushes q then s.bump Reg.HIF_CNT_BAD_ACCESS
  else
    let s := s.qCheck q
    let x := s.queue q
    if x.discarding then s.setQueue q { x with discarding := false }
    else if !x.pushWait.isEmpty then s.setQueue q { x with endWait := some value }
    else s.pushClose q value

/-- `PUSH_STALL_TIMEOUT`: the words do not fit within HIF_QSTALL (R337). -/
def execPushStallTimeout (q : Nat) (s : State) : Host.Outcome State Fault Refusal := answer <|
  let x := s.queue q
  match x.pushWait with
  | (_, t) :: _ => if t ≤ s.elapsed then s.pushDrop q 1 x.endWait.isNone else s
  | [] => s

/-- `QUEUE_IRQ_ITR_EXPIRE` (R341). -/
def execQueueIrqItrExpire (q : Nat) (s : State) : Host.Outcome State Fault Refusal := answer <|
  let x := s.queue q
  match x.irqAfter with
  | some t => if t ≤ s.elapsed then (s.setQueue q { x with irqArmed := true, irqAfter := none }).qIrq q else s
  | none => s

/-! ### Host buffers and data copies (R342, R347) -/

/-- The device writes the host buffer while bus mastering is on (R332). -/
def State.dma (s : State) (a : Nat) (b : List Byte) : State := if s.hif.busMaster then s.writeHost a b else s

/-- Sizes of the steps of a copy; an empty copy has one step. -/
def copySteps (n : Nat) : List Nat := if n = 0 then [0] else stepSizes n

/-- A long command that copies data, with its step sizes. -/
def State.startCopy (s : State) (h : CmdHdr) (op : Nat) (w : OpWork) (sizes : List Nat) : State :=
  s.startLong h op w false sizes.length sizes

/-! ### Short commands -/

/-- `NOP` (R343). -/
def execNop (h : CmdHdr) (s : State) : Host.Outcome State Fault Refusal := answer (s.completeShort h 0x0001 0x00 0)

/-- The entry that JOURNAL names: by handle, or the newest with a tag; the device's own entries, or the mirrored ones (R345, R349). -/
def findEntry (l : List (Nat × JournalEntry)) (key : Word) (byTag : Bool) : Option JournalEntry :=
  if byTag then
    (l.map (fun x => x.2)).foldl (fun (m : Option JournalEntry) e =>
      if e.tag ≠ key then m
      else match m with
        | some b => if b.serial < e.serial then some e else m
        | none => some e) none
  else
    match kvGet l (key.toNat % 2 ^ 16) with
    | some e => if e.handle = key.toNat then some e else none
    | none => none

/-- `JOURNAL` (R349). -/
def execJournal (h : CmdHdr) (key : Word) (byTag twin : Bool) (s : State) : Host.Outcome State Fault Refusal := answer <|
  if !bufOk h || h.len < 64 then s.completeShort h 0x0002 0x03 0
  else if twin && !s.flag Reg.TWN_CTRL 0 then s.completeShort h 0x0002 0x04 0
  else
    match findEntry (if twin then s.hif.mirror else s.hif.journal) key byTag with
    | some e => (s.dma h.buf e.bytes).completeShort h 0x0002 0x00 e.disp.code
    | none => s.completeShort h 0x0002 0x03 0

/-- `CANCEL` (R346). -/
def execCancel (h : CmdHdr) (target : Word) (s : State) : Host.Outcome State Fault Refusal := answer <|
  match s.journalOf target.toNat with
  | none => s.completeShort h 0x0003 0x03 0
  | some _ =>
    match s.longOp target.toNat with
    | some o =>
      if o.total = 0 || o.total ≤ o.step + 1 then s.completeShort h 0x0003 0x04 0
      else (s.modOp o.handle (fun x => { x with cancelled := true })).completeShort h 0x0003 0x00 0
    | none => s.completeShort h 0x0003 0x04 0

/-- `ACK`: a refused acknowledgement completes with BAD_STATE (R290). -/
def execAck (h : CmdHdr) (alarm chg : Half) (s : State) : Host.Outcome State Fault Refusal := answer <|
  if 4096 ≤ alarm.toNat then s.completeShort h 0x0010 0x03 0
  else
    let (s, ok) := s.ackAlarm alarm.toNat chg 2
    s.completeShort h 0x0010 (if ok then 0x00 else 0x04) 0

/-- `ARM`: an IDLE recorder goes to ARMED; any other state completes with BAD_STATE (R315). -/
def execArm (h : CmdHdr) (recorder : Nat) (s : State) : Host.Outcome State Fault Refusal := answer <|
  if 16 ≤ recorder then s.completeShort h 0x0020 0x03 0
  else if s.capOn recorder && s.recState recorder = 0 then (s.armRec recorder).completeShort h 0x0020 0x00 0
  else s.completeShort h 0x0020 0x04 0

/-- `RELEASE` (R317). -/
def execRelease (h : CmdHdr) (recorder capture : Nat) (s : State) : Host.Outcome State Fault Refusal := answer <|
  let (s, st) := s.releaseCapture recorder capture
  s.completeShort h 0x0023 st 0

/-! ### Copies -/

/-- A stored capture of a recorder that has not been released. -/
def State.storedCapture (s : State) (r n : Nat) : Option (RecorderState × Capture) :=
  match s.recorder r with
  | some x => (x.stored.find? (fun c => c.num == n && !c.free)).map (fun c => (x, c))
  | none => none

/-- Marks a capture as being exported, or no longer. -/
def State.setExporting (s : State) (r n : Nat) (on : Bool) : State :=
  s.modRec r (fun x => { x with stored := x.stored.map (fun (c : Capture) => if c.num = n then { c with exporting := on } else c) })

/-- The signature of a capture image under a slot: nothing without one, 100 bytes, or the status of the Caddy (R324). -/
def State.signImage (s : State) (slot : Nat) (image : List Byte) : State × Except Nat (List Byte) :=
  if slot = 0xFFFF then (s, .ok [])
  else
    match s.caddyUse .capSign slot .sign with
    | (s, .ok key) => (s, .ok (padTo 100 (leBytes 2 slot ++ leBytes 2 0 ++ Config.ecdsaSign key image s.sec.nDraws)))
    | (s, .error e) => (s, .error e.status)

/-- `EXPORT`: the image of a stored capture goes to the host buffer: header and channel table, frames, events, signature (R323, R324, R347). -/
def execExport (h : CmdHdr) (recorder capture : Nat) (s : State) : Host.Outcome State Fault Refusal := answer <|
  match s.storedCapture recorder capture with
  | none => s.completeShort h 0x0021 0x03 0
  | some (x, c) =>
    if c.exporting then s.completeShort h 0x0021 0x02 0
    else if !bufOk h then s.completeShort h 0x0021 0x03 0
    else
      let signed := x.cfg.signSlot != 0xFFFF
      let img := s.captureBytes recorder x c signed
      let size := img.length + (if signed then 100 else 0)
      if h.len < size then s.completeShort h 0x0021 0x05 size
      else if 16 ≤ s.hif.ops.length then s.completeShort h 0x0021 0x05 0
      else
        let s := s.useFree (3 * c.events.length)
        match s.signImage x.cfg.signSlot img with
        | (s, .error st) => s.completeShort h 0x0021 st 0
        | (s, .ok sig) =>
          let head := 256 + 8 * x.cfg.chans.length
          let frames := s.recStride recorder x * c.frames.length
          let sizes := head :: stepSizes frames ++ copySteps (64 * c.events.length) ++ (if sig.isEmpty then [] else [sig.length])
          (s.setExporting recorder capture true).startCopy h 0x0021 (.export_ recorder capture (img ++ sig)) sizes

/-- The next step of EXPORT. -/
def State.exportStep (s : State) (o : LongOp) (r n : Nat) (image : List Byte) : State :=
  let k := o.sizes.getD o.step 0
  let last := decide (o.total ≤ o.step + 1)
  let s := (s.dma (o.buf + o.units) ((image.drop o.units).take k)).commitStep o.handle k last
  if last then (s.setExporting r n false).finishOp o.handle 0x00 image.length else s

/-- `EXPORT_FRAMES`: frames of a live ring from a mark to the WIDX read now (R322). -/
def execExportFrames (h : CmdHdr) (recorder mark : Nat) (s : State) : Host.Outcome State Fault Refusal := answer <|
  match s.recorder recorder with
  | none => s.completeShort h 0x0022 0x03 0
  | some x =>
    let first := x.marks.getD mark 0
    let size := (x.widx - first) * s.recStride recorder x
    if 4 ≤ mark || !bufOk h then s.completeShort h 0x0022 0x03 0
    else if s.opRunning (fun w => match w with
        | .exportFrames r m _ _ => r == recorder && m == mark
        | _ => false) then s.completeShort h 0x0022 0x02 0
    else if h.len < size then s.completeShort h 0x0022 0x05 size
    else
      let per := max 1 (65536 / max 1 (s.recStride recorder x))
      let n := x.widx - first
      let sizes := if n = 0 then [0] else (List.range ((n + per - 1) / per)).map (fun k => min per (n - k * per) * s.recStride recorder x)
      s.startCopy h 0x0022 (.exportFrames recorder mark first x.widx) sizes

/-- The next step of EXPORT_FRAMES: an overtaken mark ends it with PARTIAL (R322). -/
def State.framesStep (s : State) (o : LongOp) (r m first last : Nat) : State :=
  match s.recorder r with
  | none => s.finishOp o.handle 0x0D 0
  | some x =>
    let stride := max 1 (s.recStride r x)
    let done := o.units / stride
    if first < x.marks.getD m 0 then s.finishOp o.handle 0x01 done
    else
      let n := o.sizes.getD o.step 0 / stride
      let b := ((x.frames.filter (fun f => decide (first + done ≤ f.num) && decide (f.num < first + done + n))).map (frameBytes (s.recWave r))).flatten
      let end_ := decide (o.total ≤ o.step + 1)
      let s := (s.dma (o.buf + o.units) b).commitStep o.handle (n * stride) end_
      if end_ then
        let s := s.modRec r (fun x => { x with marks := listMod x.marks m (fun _ => last) })
        let s := s.setPair (Reg.CAP_R_MARK_LO r m) (Reg.CAP_R_MARK_HI r m) last
        s.finishOp o.handle 0x00 (done + n)
      else s

/-- Bytes of one entry of a source of ARCHIVE_READ. -/
def State.archiveSize (s : State) (source : Nat) : Nat :=
  if source < 4 then s.rowBytes source else if source = 4 then 64 else 512

/-- A row of a history ring by index, where it is in the window, its tag is right and its CRC holds (R138, R139). -/
def State.archiveRow (s : State) (g n : Nat) : Option (List Byte) :=
  match s.group g with
  | some x =>
    let b := s.readDram (s.entryAddr g n) (s.rowBytes g)
    if s.histOn g && n < s.wridx g && s.wridx g < n + s.ringDepth g && natAt b 0 8 == rowTag x (s.rate g) n
        && natAt (s.readDram (s.crcAddr g n) 4) 0 4 == (crc32c b).toNat then some b else none
  | none => none

/-- A steep record by index, where it is in the window and its CRC holds (R178). -/
def State.archiveSteep (s : State) (i : Nat) : Option (List Byte) :=
  let w := s.pair Reg.MTR_REC_WRIDX_LO Reg.MTR_REC_WRIDX_HI
  let d := (s.reg Reg.MTR_REC_DEPTH).toNat
  let b := s.readDram (s.pair Reg.MTR_REC_BASE_LO Reg.MTR_REC_BASE_HI + i % max 1 d * 512) 512
  if i < w && w ≤ i + d && natAt b 508 4 == (crc32c (b.take 508)).toNat then some b else none

/-- A valid entry of a source (R347): a row, the event record of a sequence number, or a steep record. -/
def State.archiveEntry (s : State) (source i : Nat) : Option (List Byte) :=
  if source < 4 then s.archiveRow source i
  else if source = 4 then (s.logRecords.find? (fun r => r.seq.toNat == i)).map (fun r => r.bytes)
  else s.archiveSteep i

/-- `ARCHIVE_READ`: entries in index order; checked before anything is copied (Table 14-7). -/
def execArchiveRead (h : CmdHdr) (source first count : Nat) (s : State) : Host.Outcome State Fault Refusal := answer <|
  if 6 ≤ source || count = 0 || !bufOk h then s.completeShort h 0x0070 0x03 0
  else if (source < 4 && !(s.histOn source && (s.group source).isSome))
      || (source = 5 && (!s.flag Reg.MTR_CTRL 0 || s.reg Reg.MTR_REC_DEPTH = 0)) then s.completeShort h 0x0070 0x04 0
  else if h.len < count * s.archiveSize source then s.completeShort h 0x0070 0x05 (count * s.archiveSize source)
  else s.startCopy h 0x0070 (.archiveRead source first count) (copySteps (count * s.archiveSize source))

/-- The next step of ARCHIVE_READ: an entry counts, or is zeros whole, as it stands when its last byte is copied. -/
def State.archiveStep (s : State) (o : LongOp) (source first count : Nat) : State :=
  let z := max 1 (s.archiveSize source)
  let k := o.sizes.getD o.step 0
  let lo := o.units
  let hi := o.units + k
  let touched := (List.range ((hi + z - 1) / z - lo / z)).map (fun j => lo / z + j)
  let (s, ok) := touched.foldl (fun (a : State × Nat) j =>
    let e := a.1.archiveEntry source (first + j)
    let b := e.getD (List.replicate z 0)
    let complete := decide ((j + 1) * z ≤ hi)
    (a.1.dma (o.buf + j * z) (if complete then b else b.take (hi - j * z)), a.2 + bit (complete && e.isSome))) (s, 0)
  let last := decide (o.total ≤ o.step + 1)
  let s := (s.modOp o.handle (fun x => { x with result := x.result + ok })).commitStep o.handle k last
  if last || decide (count * z ≤ hi) then s.finishOp o.handle 0x00 (o.result + ok) else s

/-! ### The other long commands -/

/-- `REBALANCE`: the Sower rebalances at the next epoch boundary (R253). -/
def execRebalance (h : CmdHdr) (s : State) : Host.Outcome State Fault Refusal := answer <|
  if !s.flag Reg.DFS_CTRL 0 then s.completeShort h 0x0031 0x04 0
  else
    let n := s.hif.ops.length
    let s := s.startLong h 0x0031 .rebalance true 0 []
    if s.hif.ops.length = n then s
    else { s with dfs := { s.dfs with rebalance := s.dfs.rebalance ++ [s.lastHandle] } }.setFlag Reg.DFS_STATUS 16 true

/-- Some program load runs. -/
def State.loadingProgram (s : State) : Bool := s.opRunning (fun w => match w with
  | .progLoad _ => true
  | _ => false)

/-- `PROG_LOAD`: a program image goes to the standby area (R278). -/
def execProgLoad (h : CmdHdr) (content : BufContent) (s : State) : Host.Outcome State Fault Refusal := answer <|
  if !bufOk h then s.completeShort h 0x0040 0x03 0
  else if s.loadingProgram then s.completeShort h 0x0040 0x02 0
  else if !s.flag Reg.CYC_CTRL 0 || s.cyc.exch.isSome then s.completeShort h 0x0040 0x04 0
  else s.startLong h 0x0040 (.progLoad (bufImage content)) false 1 []

/-- The checks of R278 on a program image: a status, 0 for success. -/
def State.programStatus (s : State) (i : SlotImage) : Nat :=
  match i with
  | .cfg c =>
    if !containerOk c then 0x03
    else if !s.cfgSigned c then 0x06
    else
      match (readImage c).program with
      | none => 0x03
      | some p =>
        if (bytesBad c 12).isSome || !programOk p then 0x03
        else if s.pemCatalogue < p.pemVersion then 0x0B
        else if !s.wireOk p.pubs || !s.copyOk p then 0x05
        else 0x00
  | _ => 0x03

/-- The step of PROG_LOAD: the checks, and the program in the standby area. -/
def State.loadStep (s : State) (o : LongOp) (i : SlotImage) : State :=
  let st := s.programStatus i
  let p := match i with
    | .cfg c => (readImage c).program
    | _ => none
  match s.cyc.exch, st, p with
  | some _, _, _ => (s.commitStep o.handle 0 true).finishOp o.handle 0x04 0
  | none, 0, some p =>
    let s := { s with cyc := { s.cyc with standby := some (freshArea p), standbyRan := false } }
    let s := (s.setReg Reg.CYC_STANDBY_ID p.id).showCyc
    (s.commitStep o.handle (imageSize i) true).finishOp o.handle 0x00 0
  | none, _, _ => (s.commitStep o.handle 0 true).finishOp o.handle st 0

/-- An exchange to the standby program is accepted (R280). -/
def State.acceptExchange (s : State) (h : CmdHdr) (op : Nat) (revert : Bool) : State :=
  if s.cyc.exch.isSome then s.completeShort h op 0x02 0
  else if s.cyc.standby.isNone || s.cyc.run.isNone || (revert && !s.cyc.standbyRan) then s.completeShort h op 0x04 0
  else
    let n := s.hif.ops.length
    let s := s.startLong h op (.progExchange revert) true 0 []
    if s.hif.ops.length = n then s
    else { s with cyc := { s.cyc with exch := some (s.lastHandle, s.elapsed) } }.showCyc

/-- `PROG_EXCHANGE` (R280). -/
def execProgExchange (h : CmdHdr) (s : State) : Host.Outcome State Fault Refusal := answer (s.acceptExchange h 0x0041 false)

/-- `PROG_REVERT`: back to the program that ran before the last exchange (R281). -/
def execProgRevert (h : CmdHdr) (s : State) : Host.Outcome State Fault Refusal := answer (s.acceptExchange h 0x0042 true)

/-- The source of a cut operation is still there. -/
def State.sourceStands (s : State) (w : OpWork) : Bool :=
  match w with
  | .export_ r n _ => (s.storedCapture r n).isSome
  | .archiveRead src _ _ => decide (4 ≤ src) || s.histOn src
  | .imageStage _ _ => true
  | _ => false

/-- `RESUME`: a RESUMABLE entry goes on from the units it has committed, under a new handle (R349). -/
def execResume (h : CmdHdr) (target : Word) (s : State) : Host.Outcome State Fault Refusal := answer <|
  match s.journalOf target.toNat with
  | none => s.completeShort h 0x0004 0x03 0
  | some e =>
    match e.disp, e.ctx with
    | .resumable, some c =>
      let need := match c.work with
        | .imageStage _ _ => 0
        | _ => (c.sizes.foldl (· + ·) 0)
      if !s.sourceStands c.work then s.completeShort h 0x0004 0x04 0
      else if !bufOk h then s.completeShort h 0x0004 0x03 0
      else if h.len < need then s.completeShort h 0x0004 0x05 need
      else
        let n := s.hif.ops.length
        let s := s.startLong h 0x0004 c.work c.items c.total c.sizes
        if s.hif.ops.length = n then s
        else
          let k := s.lastHandle
          let s := s.modOp k (fun o => { o with step := c.step, units := c.units, result := c.result })
          let s := match s.longOp k with
            | some o => s.putJournal (o.entry s.now 0x02 .running)
            | none => s
          let s := s.putJournal { e with disp := .resumed, resumedBy := k }
          match c.work with
          | .export_ r m _ => s.setExporting r m true
          | _ => s
    | _, _ => s.completeShort h 0x0004 0x04 0

end Sys2Proof.Machine
end

