-- ==== Sys2Proof/Machine/Joined.lean ====
section
/-!
DEFINITION. Joined systems and placement across devices (R352 to R374).
-/
namespace Sys2Proof.Machine

/-! ### Links and the flood of their state (R354, R355, R359) -/

/-- State of a link. -/
def State.hlink (s : State) (l : Nat) : LinkState := s.hgw.links.getD l {}

/-- Changes a link. -/
def State.modLink (s : State) (l : Nat) (f : LinkState → LinkState) : State :=
  { s with hgw := { s.hgw with links := listMod s.hgw.links l f } }

/-- Puts a link-state message on every link that is up but one. -/
def State.floodBody (s : State) (b : HgwBody) (except_ : Option Nat) : State :=
  ((List.range 6).filter (fun l => s.linkUp l && some l != except_)).foldl (fun (s : State) l =>
    s.linkQueue l { src := s.ownId, dst := s.field (Reg.HGW_L_STATUS l) 24 16, cls := .bulk, size := packetBytes .bulk b, body := b }) s

/-- A link-state message for the partner over T0 (R376). -/
def State.floodT0 (s : State) (b : HgwBody) : State :=
  s.relayT0 { src := s.ownId, dst := s.ownId, cls := .bulk, size := packetBytes .bulk b, body := b }

/-- Floods this device's link-state message (R359); a silent device of a twin pair tells its partner only (R376). -/
def State.flood (s : State) : State :=
  let t := s.elapsed
  let n := s.hgw.floodSeq + 1
  let s := { s with hgw := { s.hgw with lastFlood := t, floodSeq := n } }
  let b := HgwBody.linkState s.ownId n s.ownLinks
  let s := if s.originates then s.floodBody b none else s
  s.floodT0 b

/-- A link is declared down (R355): its queue waits for the next route table, and a packet on the wire is lost. -/
def State.hgwDown (s : State) (l cause : Nat) : State :=
  let n := s.field (Reg.HGW_L_STATUS l) 24 16
  let wire := decide (s.elapsed < (s.hlink l).busyUntil)
  let s := s.setField (Reg.HGW_L_STATUS l) 7 0 0
  let s := (s.modLink l (fun x => { x with retries := 0, busyUntil := 0, above := 0, below := 0 })).bump (Reg.HGW_L_CNT_DOWN l)
  let s := if wire then s.bump Reg.HGW_CNT_LOST else s
  let s := (s.setReg (Reg.HGW_L_UTIL l) 0).showLinks
  (s.log 0x1002 2 (leBytes 1 l ++ leBytes 1 cause ++ leBytes 2 n)).flood

/-- HGW_LINK_DOWN (R355): a link has been without block lock for 10 µs. -/
def execHgwLinkDown (link : Nat) (s : State) : Host.Outcome State Fault Refusal := answer <|
  if s.linkUp link then s.hgwDown link 1 else s

/-- The neighbour's HGL version is accepted by the manifest of the running one (R354, R429). -/
def State.hglAccepts (s : State) (v : Word) : Bool :=
  match (s.comp 2).active with
  | .fw i => accepts i 2 v
  | _ => true

/-- HGW_LINK_TRAINED (R354, R355). -/
def execHgwLinkTrained (link : Nat) (m : HgwHello) (s : State) : Host.Outcome State Fault Refusal := answer <|
  if !s.flag Reg.HGW_CTRL 0 || !s.flag Reg.HGW_CTRL (8 + link) || !s.terminates link || s.linkUp link then s
  else if m.device ≠ s.torusNeighbour s.ownId link then s.log 0x1002 2 (leBytes 1 link ++ leBytes 1 3 ++ leBytes 2 m.device)
  else
    let cause := if m.systemId ≠ s.reg Reg.HGW_SYSTEM_ID then 1
      else if m.epoch ≠ s.field Reg.DFS_SOWER_EPOCH 11 0 then 2
      else if !s.hglAccepts m.hgl then 3 else 0
    let s := (s.pllBack (8 + link)).setReg (Reg.HGW_L_STATUS link) (Word.ofNat (1 + bit (cause != 0) * 64 + m.device % 512 * 65536))
    let s := (s.modLink link (fun x => { x with retries := 0, busyUntil := 0, above := 0, below := 0 })).showLinks
    let s := s.log 0x1001 0 (leBytes 1 link ++ leBytes 2 m.device)
    let s := if cause = 0 then s else s.log 0x100B 2 (leBytes 1 link ++ leBytes 1 cause)
    s.flood

/-- LINK_STATE_FLOOD (R359): 10 ms after the last flood. -/
def execLinkStateFlood (s : State) : Host.Outcome State Fault Refusal := answer <|
  if s.flag Reg.HGW_CTRL 0 && s.hgw.lastFlood + 10000000 ≤ s.elapsed then s.flood else s

/-! ### Graphs that come from and go to other devices (R369, R371) -/

/-- A graph's record as a guest: its trigger names the owner's section. -/
def guestRec (owner : Nat) (r : GraphRec) : GraphRec :=
  { r with
    id := guestGraph owner r.id
    trigger := match r.trigger with
      | .section_ rg sec => .section_ (guestGroup owner rg) sec
      | t => t }

/-- A guest's record as its owner has it. -/
def homeRec (owner : Nat) (r : GraphRec) : GraphRec :=
  { r with
    id := r.id - guestGraph owner 0
    trigger := match r.trigger with
      | .section_ rg sec => .section_ (rg - guestGroup owner 0) sec
      | t => t }

/-- Maximum headland in ns of the section that triggers a graph (R361). -/
def State.triggerHmax (s : State) (r : GraphRec) : Nat :=
  match r.trigger with
  | .section_ rg sec =>
    if rg < 4 then (s.reg (Reg.ALN_SEC_HMAX rg sec)).toNat * 1000
    else ((s.hgw.fwd.find? (fun x => guestGroup x.owner x.rg == rg && x.sec == sec)).map (fun (x : FwdSection) => x.hmax)).getD 0
  | _ => 0

/-- Maximum headland in ns of the rate group whose section triggers a graph (R117). -/
def State.triggerHg (s : State) (r : GraphRec) : Nat :=
  match r.trigger with
  | .section_ rg sec =>
    if rg < 4 then (s.reg (Reg.ALN_RG_HEADLAND rg)).toNat * 1000
    else ((s.hgw.fwd.find? (fun x => guestGroup x.owner x.rg == rg && x.sec == sec)).map (fun (x : FwdSection) => x.hg)).getD 0
  | _ => 0

/-- Local number of a graph. -/
def State.localGraph (s : State) (owner g : Nat) : Nat := if owner = s.ownId then g else guestGraph owner g

/-- Sends the state of graphs that go to another device, where its route is up (R371). -/
def State.sendMoves (s : State) : State :=
  let ready := s.hgw.unsent.filter (fun (x : Nat × Nat × Nat × Nat) => s.routeUp x.2.2.2)
  let s := { s with hgw := { s.hgw with unsent := s.hgw.unsent.filter (fun (x : Nat × Nat × Nat × Nat) => !s.routeUp x.2.2.2) } }
  ready.foldl (fun (s : State) (x : Nat × Nat × Nat × Nat) =>
    match s.graph (s.localGraph x.1 x.2.1) with
    | some g =>
      let r := if x.1 = s.ownId then g.cfg else homeRec x.1 g.cfg
      s.hgwSend x.2.2.2 .bulk (.stateMove x.1 x.2.1 x.2.2.1 (s.triggerHmax g.cfg) (s.triggerHg g.cfg) r g.blocks)
    | none => s) s

/-- The Sower places a graph that arrived where its clusters allow; one that no cluster admits does not run (R132, log entry 18). -/
def State.sowHere (s : State) (g : Nat) : State := (s.sow g).getD ((s.settle g 0).modGraph g (fun x => { x with halted := true }))

/-- Rows of a forwarded section that were released before their graph arrived trigger it now. -/
def State.triggerHeld (s : State) (key : Nat) (start : Nat) (x : FwdSection) : State :=
  let t := s.now
  let tags := x.released.reverse.filter (fun (r : Nat) => start ≤ r)
  s.modGraph key (fun g => { g with waiting := g.waiting ++ tags.map (fun (r : Nat) => HeldTrigger.mk r (some (guestGroup x.owner x.rg, 0)) (some t) false) })

/-- Changes a forwarded section. -/
def State.modFwd (s : State) (owner rg sec : Nat) (f : FwdSection → FwdSection) : State :=
  { s with hgw := { s.hgw with fwd := s.hgw.fwd.map (fun (x : FwdSection) => if x.owner == owner && x.rg == rg && x.sec == sec then f x else x) } }

/-- A section is forwarded here before the graph that it triggers: its slots and tags are held until the graph's state arrives (R371). -/
def State.fwdHold (s : State) (owner rg sec : Nat) : State :=
  let rows := ((s.hgw.fwd.find? (fun x => x.owner == owner && x.rg == rg)).map (fun (x : FwdSection) => x.rows)).getD []
  if s.hgw.fwd.any (fun x => x.owner == owner && x.rg == rg && (sec == 64 || x.sec == sec)) then s
  else { s with hgw := { s.hgw with fwd := s.hgw.fwd ++ [{ owner := owner, rg := rg, sec := sec, hmax := 0, hg := 0, rows := rows }] } }

/-- The tags of a section gain one that is released; with a graph to trigger here it keeps the newest 64. -/
def FwdSection.release (x : FwdSection) (tag : Nat) : FwdSection :=
  { x with released := if x.hmax = 0 then tag :: x.released else (tag :: x.released).take 64 }

/-- The state of a graph arrives (R371): the graph runs here from now on. -/
def State.installGraph (s : State) (owner g start hmax hg : Nat) (r : GraphRec) (blocks : List (List Word)) : State :=
  let key := s.localGraph owner g
  if owner = s.ownId then
    (s.modGraph key (fun x => { x with blocks := blocks, awaits := false })).sowHere key
  else
    let cfg := guestRec owner r
    let s := { s with
      dfs := { s.dfs with graphs := kvPut s.dfs.graphs key ({ cfg := cfg, blocks := blocks } : GraphState) }
      hgw := { s.hgw with guests := if s.hgw.guests.contains (owner, g) then s.hgw.guests else s.hgw.guests ++ [(owner, g)] } }
    let s := s.sowHere key
    match r.trigger with
    | .section_ rg sec =>
      let s := (s.fwdHold owner rg sec).modFwd owner rg sec (fun x => { x with hmax := hmax, hg := hg })
      let s := { s with hgw := { s.hgw with fwd := s.hgw.fwd.filter (fun x => !(x.owner == owner && x.rg == rg && x.sec == 64)) } }
      match s.hgw.fwd.find? (fun x => x.owner == owner && x.rg == rg && x.sec == sec) with
      | some x => s.triggerHeld key start x
      | none => s
    | .timer n => s.addDelay ((s.graph key).elim 0 (fun x => x.cluster)) ⟨s.dfs.delayTick + n, 0, none, key, 0, .null⟩
    | _ => s

/-! ### Forwarded sections (R360, R361) -/

/-- Forwarded slots arrive; those of a section that has been released are dropped (R361). -/
def State.fwdArrive (s0 : State) (owner rg tag : Nat) (vals : List (Nat × Slot)) : State :=
  let s := s0.fwdHold owner rg 64
  { s with hgw := { s.hgw with fwd := s.hgw.fwd.map (fun (x : FwdSection) =>
      if x.owner == owner && x.rg == rg && !x.released.contains tag then
        let old := ((x.rows.find? (fun r => r.1 == tag)).map (fun (r : Nat × List (Nat × Slot)) => r.2)).getD []
        let l := vals.foldl (fun (l : List (Nat × Slot)) (v : Nat × Slot) => kvPut l v.1 v.2) old
        let rows := kvPut x.rows tag l
        { x with rows := if x.hmax = 0 then rows else rows.drop (rows.length - 64) }
      else x) } }

/-- A forwarded section is released to the Harrow (R360). -/
def State.fwdRelease (s : State) (owner rg sec tag idx : Nat) : State :=
  match s.hgw.fwd.find? (fun x => x.owner == owner && x.rg == rg && x.sec == sec) with
  | some x =>
    if x.released.contains tag then s
    else
      let s := s.modFwd owner rg sec (fun x => x.release tag)
      let t := s.now
      s.triggerGraphs (.section_ (guestGroup owner rg) sec) tag (some (guestGroup owner rg, idx)) (some t)
  | none => s

/-- CLOSURE_TOKEN_RX (R360): every forwarded slot has arrived before it (R356). -/
def execClosureTokenRx (owner rg sec tag : Nat) (_flags : Byte) (seq : Word) (_onDl : Bool) (s : State) : Host.Outcome State Fault Refusal :=
  answer ((s.fwdHold owner rg sec).fwdRelease owner rg sec tag seq.toNat)

/-- FWD_SECTION_TIMEOUT (R361): no token by T + ALN_SEC_HMAX + 28 µs; the row's sequence number is not known. -/
def execFwdSectionTimeout (owner rg sec tag : Nat) (s : State) : Host.Outcome State Fault Refusal := answer <|
  match s.hgw.fwd.find? (fun x => x.owner == owner && x.rg == rg && x.sec == sec) with
  | some x =>
    if x.released.contains tag || x.hmax = 0 || s.now < tag + x.hmax + 28000 then s
    else ((s.fwdRelease owner rg sec tag s.freshWord.toNat).useFree 1).bump Reg.HGW_CNT_FWD_TIMEOUT
  | none => s

/-! ### Placement across devices (R370) -/

/-- A common multiple of every count of graph engines a device may have. -/
def engineUnit : Nat := 9690712164777231700912800

/-- A device as the coordinator judges it: ID, engine time of its graphs, graph engines, and its movable graphs. -/
abbrev DevLoad := Nat × Nat × Nat × List GraphLoad

/-- Utilisation in ns over the epoch, times engineUnit. -/
def devUtil (d : DevLoad) : Nat := d.2.1 * engineUnit / max 1 d.2.2.1

/-- The graphs of a device by load descending, then owner, then number. -/
def byLoad (l : List GraphLoad) : List GraphLoad :=
  let before := fun (a b : GraphLoad) => decide (b.time < a.time) || (a.time == b.time && (decide (a.owner < b.owner) || (a.owner == b.owner && decide (a.graph < b.graph))))
  l.foldl (fun acc a => acc.takeWhile (fun b => before b a) ++ [a] ++ acc.dropWhile (fun b => before b a)) []

/-- A graph may go to a device: admission here of a graph whose record is here is known, else it is open (R132, R370). -/
def State.fits (s : State) (t owner g : Nat) : Bool :=
  match (if t = s.ownId then s.graph (s.localGraph owner g) else none) with
  | some x => (List.range 8).any (fun c => s.admissible x.cfg c)
  | none => Config.remoteFits s.free t owner g

/-- Moves a graph between two devices of the coordinator's list. -/
def shiftLoad (l : List DevLoad) (h t : Nat) (g : GraphLoad) : List DevLoad :=
  l.map (fun (d : DevLoad) =>
    if d.1 = h then (d.1, d.2.1 - g.time, d.2.2.1, d.2.2.2.filter (fun x => x != g))
    else if d.1 = t then (d.1, d.2.1 + g.time, d.2.2.1, d.2.2.2 ++ [g])
    else d)

/-- An LC0 graph whose owner has come to lie beyond 2 hops goes to the nearest device within 2 (R362). -/
def State.rescueLc0 (s : State) (l : List DevLoad) : List (Nat × GraphLoad × Nat) :=
  (l.map (fun (d : DevLoad) => (d.2.2.2.filter (fun g => g.lc == 0)).filterMap (fun (g : GraphLoad) =>
    let hops := s.hopsFrom g.owner
    let far := match kvGet hops d.1 with
      | some n => decide (2 < n)
      | none => true
    let near := ((List.range 3).map (fun n => (hops.filter (fun x => x.2 == n)).map (fun x => x.1))).flatten
    if far then (near.find? (fun t => s.fits t g.owner g.graph)).map (fun (t : Nat) => (d.1, g, t)) else none))).flatten

/-- One move of R370, where a graph qualifies: from, graph, to. -/
def State.xMove (s : State) (l : List DevLoad) : Option (Nat × GraphLoad × Nat) :=
  let hi := l.foldl (fun (b : Option DevLoad) (d : DevLoad) =>
    match b with
    | some x => if devUtil x < devUtil d || (devUtil x == devUtil d && decide (d.1 < x.1)) then some d else b
    | none => some d) none
  match hi with
  | none => none
  | some h =>
    let hops := s.hopsFrom h.1
    let radius := s.field Reg.HGW_SOWER_CTRL 7 4
    let cand := l.filter (fun d => d.1 != h.1 && (match kvGet hops d.1 with
      | some n => decide (n ≤ radius)
      | none => false))
    let hop := fun (d : DevLoad) => (kvGet hops d.1).getD 0
    let lo := cand.foldl (fun (b : Option DevLoad) (d : DevLoad) =>
      match b with
      | some x =>
        if devUtil d < devUtil x || (devUtil d == devUtil x && (decide (hop d < hop x) || (hop d == hop x && decide (d.1 < x.1)))) then some d else b
      | none => some d) none
    match lo with
    | none => none
    | some t =>
      let span := s.field Reg.DFS_SOWER_EPOCH 11 0 * 1000000000 * engineUnit
      let ok := fun (g : GraphLoad) =>
        let before : Int := max (devUtil h) (devUtil t)
        let after : Int := max ((devUtil h : Int) - (g.time * engineUnit / max 1 h.2.2.1 : Nat)) ((devUtil t : Int) + (g.time * engineUnit / max 1 t.2.2.1 : Nat))
        g.lc != 0 && decide (((s.field Reg.HGW_SOWER_CTRL 15 8 * span : Nat) : Int) ≤ (before - after) * 100) && s.fits t.1 g.owner g.graph
      ((byLoad h.2.2.2).find? ok).map (fun (g : GraphLoad) => (h.1, g, t.1))

/-- At most `n` moves of R370. -/
def State.xMoves (s : State) : Nat → List DevLoad → List (Nat × Nat × Nat) → List (Nat × Nat × Nat)
  | 0, _, acc => acc
  | n + 1, l, acc =>
    match s.xMove l with
    | some (h, g, t) =>
      State.xMoves s n (shiftLoad l h t g) (acc.filter (fun (m : Nat × Nat × Nat) => !(m.1 == g.owner && m.2.1 == g.graph)) ++ [(g.owner, g.graph, t)])
    | none => acc

/-- Sends a body to every reachable device but this one. -/
def State.sendAll (s : State) (b : HgwBody) : State :=
  (s.reachable.filter (fun d => d != s.ownId)).foldl (fun (s : State) d => s.hgwSend d .bulk b) s

/-- The coordinator decides once every reachable device has told its utilisation (R370); with XAUTO clear it only rescues the LC0 graphs
of a device that tells of one beyond 2 hops (R362). -/
def State.coordinate (s : State) : State :=
  let have_ := s.hgw.utils.map (fun (u : DevLoad) => u.1)
  let auto := s.flag Reg.HGW_SOWER_CTRL 0
  if s.coordinator ≠ s.ownId || s.hgw.pending.isSome || (auto && !s.reachable.all (fun d => have_.contains d)) then s
  else
    let l := s.hgw.utils.filter (fun (u : DevLoad) => s.reachable.contains u.1 && u.2.2.1 != 0)
    let lost := s.rescueLc0 l
    let l := lost.foldl (fun (l : List DevLoad) (m : Nat × GraphLoad × Nat) => shiftLoad l m.1 m.2.2 m.2.1) l
    let first : List (Nat × Nat × Nat) := lost.map (fun (m : Nat × GraphLoad × Nat) => (m.2.1.owner, m.2.1.graph, m.2.2))
    let moves := if auto then s.xMoves (s.field Reg.HGW_SOWER_CTRL 23 16 - first.length) l first else first
    let s := { s with hgw := { s.hgw with utils := [] } }.useFree 1
    if moves.isEmpty then s
    else
      let ver := (s.reg Reg.HGW_PLACE_VER).toNat + 1
      let b := s.dfs.epochStart + s.field Reg.DFS_SOWER_EPOCH 11 0
      let s := { s with hgw := { s.hgw with pending := some { ver := ver, boundary := b, moves := moves, acks := [s.ownId] } } }
      s.sendAll (.placement ver moves b)

/-- A device's utilisation reaches the coordinator. -/
def State.takeUtil (s : State) (u : DevLoad) : State :=
  let l := s.hgw.utils.filter (fun (x : DevLoad) => x.1 != u.1) ++ [u]
  { s with hgw := { s.hgw with utils := l } }.coordinate

/-- XPLACEMENT_ACK_DEADLINE (R370): 100 ms before the boundary the coordinator withdraws a placement that a device has not acknowledged. -/
def execXplacementAckDeadline (s : State) : Host.Outcome State Fault Refusal := answer <|
  match s.hgw.pending with
  | some p =>
    let missing := s.hgw.devices.find? (fun d => d.1 != s.ownId && !p.acks.contains d.1)
    if s.coordinator ≠ s.ownId || s.now + 100000000 < p.boundary * 1000000000 then s
    else
      match missing with
      | some d =>
        let s := { s with hgw := { s.hgw with pending := none } }
        (s.sendAll (.withdraw p.ver)).log 0x1008 1 (leBytes 4 p.ver ++ leBytes 2 d.1)
      | none => s
  | none => s

/-- A graph leaves this device at a boundary unless an older instance is unfinished (R371).  Its first row elsewhere is that of the
boundary; but for a guest, whose owner forwards to the new device from the placement's own boundary, `start` stays that boundary. -/
def State.leave (s : State) (owner g start d : Nat) : State :=
  let key := s.localGraph owner g
  if (s.graph key).isNone then s
  else if !(s.liveInsts key).isEmpty then
    ({ s with hgw := { s.hgw with deferred := s.hgw.deferred ++ [(owner, g, start, d)] } } : State).bump Reg.HGW_CNT_XMOVE_DEFER
  else
    let s := { s with hgw := { s.hgw with
      unsent := s.hgw.unsent ++ [(owner, g, start, d)]
      guests := s.hgw.guests.filter (fun (x : Nat × Nat) => x != (owner, g))
      away := if owner = s.ownId then (g, start, d) :: s.hgw.away else s.hgw.away } }
    s

/-- A move applies at a boundary, as far as this device has a part in it (R371). -/
def State.applyXMove (s : State) (sec : Nat) (m : Nat × Nat × Nat) : State :=
  let own := s.ownId
  let start := sec * 1000000000
  if m.1 = own then
    let from_ := s.graphHost m.2.1 start
    if from_ = m.2.2 then s
    else if from_ = own then s.leave own m.2.1 start m.2.2
    else
      let s := { s with hgw := { s.hgw with away := (m.2.1, start, m.2.2) :: s.hgw.away } }
      if m.2.2 = own then s.modGraph m.2.1 (fun x => { x with awaits := true }) else s
  else if s.hgw.guests.contains (m.1, m.2.1) && m.2.2 ≠ own then s.leave m.1 m.2.1 start m.2.2
  else s

/-- Graphs that left at an earlier boundary give up their place here. -/
def State.dropLeft (s : State) (sec : Nat) : State :=
  let start := sec * 1000000000
  { s with dfs := { s.dfs with graphs := s.dfs.graphs.filterMap (fun (x : Nat × GraphState) =>
      let busy := s.dfs.insts.any (fun i => i.graph == x.1)
      if x.1 < 4096 then
        (if s.graphHost x.1 start != s.ownId && !busy && s.hgw.away.any (fun a => a.1 == x.1 && decide (a.2.1 < start)) then
          some (x.1, { x.2 with homes := [], affinity := [] }) else some x)
      else if busy || s.hgw.unsent.any (fun u => s.localGraph u.1 u.2.1 == x.1) || s.hgw.guests.any (fun p => guestGraph p.1 p.2 == x.1) then some x
      else none) } }

/-- The placement under way applies at its boundary, with the moves that were deferred (R370, R371). -/
def State.xPlace (s : State) (sec : Nat) : State :=
  let s := s.dropLeft sec
  let later := s.hgw.deferred
  let s := { s with hgw := { s.hgw with deferred := [] } }
  let s := later.foldl (fun (s : State) m => s.leave m.1 m.2.1 (if m.1 = s.ownId then sec * 1000000000 else m.2.2.1) m.2.2.2) s
  match s.hgw.pending with
  | some p =>
    if sec < p.boundary then s
    else
      let s := ({ s with hgw := { s.hgw with pending := none } } : State).setReg Reg.HGW_PLACE_VER (Word.ofNat p.ver)
      let s := p.moves.foldl (fun (s : State) m => s.applyXMove sec m) s
      (s.bumpBy Reg.HGW_CNT_XMOVES p.moves.length).log 0x1007 0 (leBytes 4 p.ver ++ leBytes 2 p.moves.length)
  | none => s

/-- Loads of the unpinned graphs that run here (R370). -/
def State.ownLoads (s : State) (busy : Nat → Nat) : List GraphLoad :=
  let own := s.ownId
  let pinned := fun (o g : Nat) => s.hgw.pins.any (fun (p : Nat × Nat × Nat) => p.1 == o && p.2.1 == g)
  s.dfs.graphs.filterMap (fun (x : Nat × GraphState) =>
    let o := if x.1 < 4096 then own else x.1 / 4096 - 1
    let g := x.1 % 4096
    let here := if x.1 < 4096 then s.graphHost g s.now == own else s.hgw.guests.contains (o, g)
    if here && !pinned o g then some (GraphLoad.mk o g x.2.cfg.lc (busy x.1)) else none)

/-- Every device tells the coordinator its utilisation at an epoch boundary (R370), and with XAUTO clear one that runs an LC0 graph beyond
2 hops of its owner does (R362). -/
def State.tellUtil (s : State) (busy : Nat → Nat) : State :=
  if !s.flag Reg.HGW_CTRL 0 || (!s.flag Reg.HGW_SOWER_CTRL 0 && s.hgw.distLost.isEmpty) then s
  else
    let total := (s.dfs.graphs.map (fun x => busy x.1)).foldl (· + ·) 0
    let engines := ((List.range 8).map (fun c => s.engineCount c)).foldl (· + ·) 0
    let l := s.ownLoads busy
    let s := { s with hgw := { s.hgw with utils := [] } }
    if s.coordinator = s.ownId then s.takeUtil (s.ownId, total, engines, l)
    else s.hgwSend s.coordinator .bulk (.utilisation s.ownId total engines l)

/-- Staged HGW fields commit, or are refused with event 0x100A (R374). -/
def State.commitHgw (s : State) : State :=
  if !s.flag Reg.HGW_COMMIT 0 then s
  else
    let w := s.staged Reg.HGW_SOWER_CTRL
    let ok := 1 ≤ bitsOf w 7 4 && bitsOf w 7 4 ≤ 12 && 1 ≤ bitsOf w 15 8 && bitsOf w 15 8 ≤ 50 && 1 ≤ bitsOf w 23 16
    let s := s.setFlag Reg.HGW_COMMIT 0 false
    if ok then s.commitReg Reg.HGW_SOWER_CTRL else (s.dropShadow Reg.HGW_SOWER_CTRL).log 0x100A 1 []

/-- HGW_COMMIT (R374): requested for the next epoch boundary. -/
def execHgwCommit (s : State) : Host.Outcome State Fault Refusal := answer (s.setFlag Reg.HGW_COMMIT 0 true)

/-- EPOCH_BOUNDARY (R253, R254, R370, R371, R374). -/
def execEpochBoundary (s : State) : Host.Outcome State Fault Refusal := answer <|
  if !s.epochDue then s
  else
    let sec := s.second
    let s := s.commitHgw
    let t := s.takeLoads
    let busy := fun (g : Nat) => ((t.graph g).map (fun (x : GraphState) => x.busy)).getD 0
    let s := s.dfsEpoch sec
    let s := (s.xPlace sec).sendMoves
    s.tellUtil busy

/-! ### Routes (R358, R359, R362) -/

/-- Shows LC0_LINK: links that the routes of this device's forwarded LC0 sections cross, and links that LC0 packets of other devices
cross, which a device at the end of or along such a route knows by its traffic (R132, R368, log entry 38). -/
def State.showLc0 (s : State) : State :=
  let tag := s.now
  let far := s.dfs.graphs.filterMap (fun (x : Nat × GraphState) =>
    let h := s.graphHost x.1 tag
    match x.2.cfg.trigger with
    | .section_ g sec => if x.1 < 4096 && h != s.ownId && s.secLc g sec == 0 then some h else none
    | _ => none)
  let first := far.eraseDups.filterMap (fun d => (kvGet s.hgw.devices d).bind (fun (x : DeviceInfo) => if x.up then x.first else none))
  (List.range 6).foldl (fun (s : State) l => s.setFlag (Reg.HGW_L_STATUS l) 5 (s.linkUp l && (first.contains l || s.hgw.lc0Links.contains l))) s

/-- An LC0 packet of another device arrives on a link, for this device or to go on by its route (R132, R368). -/
def State.lc0Crosses (s : State) (link dst : Nat) : State :=
  let on := if dst = s.ownId then none else (kvGet s.hgw.devices dst).bind (fun (x : DeviceInfo) => if x.up then x.first else none)
  let new := (link :: on.toList).filter (fun l => !s.hgw.lc0Links.contains l)
  if new.isEmpty then s else ({ s with hgw := { s.hgw with lc0Links := s.hgw.lc0Links ++ new } } : State).showLc0

/-- A link that LC0 packets of other devices cross stays at step 0: their windows are not known here (log entry 38). -/
def State.lc0Pinned (s : State) (l : Nat) : Bool := s.hgw.lc0Links.contains l

/-- The first link of the route to a device that is reached over one. -/
def State.firstLink (s : State) (d : Nat) : Option Nat :=
  (kvGet s.hgw.devices d).bind (fun (x : DeviceInfo) => if x.up then x.first else none)

/-- An LC0 window of this device's sections forwarded over a link is open, or opens within an interval in ns (R368); H0 is the largest
maximum headland among all the LC0 sections of the rate group. -/
def State.lc0Window (s : State) (l ahead : Nat) : Bool :=
  let t := s.now
  (List.range 4).any (fun g =>
    let lc0 := (List.range (s.sectionCount g)).filter (fun sec => s.secLc g sec == 0)
    let secs := lc0.filter (fun sec => s.dfs.graphs.any (fun x =>
      decide (x.1 < 4096) && x.2.cfg.trigger == .section_ g sec && s.firstLink (s.graphHost x.1 t) == some l))
    let h0 := (lc0.map (fun sec => (s.reg (Reg.ALN_SEC_HMAX g sec)).toNat)).foldl max 0 * 1000
    match s.group g with
    | some x =>
      let r := s.rate g
      let next := gridTag r x.nextS x.nextK
      let p := gridPrev r (x.nextS, x.nextK)
      !secs.isEmpty && (decide (next ≤ t + ahead) || decide (t ≤ gridTag r p.1 p.2 + h0 + 500000))
    | none => false)

/-- A link's transmit step changes (R367, R368): transmission is suspended for at most 20 µs. -/
def State.setStep (s : State) (l n : Nat) : State :=
  if s.field (Reg.HGW_L_STATUS l) 2 1 = n then s
  else
    let t := s.elapsed + 20000
    (((s.setField (Reg.HGW_L_STATUS l) 2 1 n).bump (Reg.HGW_L_CNT_STEP l)).modLink l (fun x => { x with busyUntil := max x.busyUntil t })).showLinks

/-- LINK_STEP_CHANGE (R367, R368): the neighbour changes the step of the receive direction, or the transmit direction is judged by its utilisation. -/
def execLinkStepChange (link : Nat) (rx : Option Nat) (util : Nat) (s : State) : Host.Outcome State Fault Refusal := answer <|
  if !s.linkUp link then s
  else
    match rx with
    | some n => if s.field (Reg.HGW_L_STATUS link) 4 3 = n then s else (s.setField (Reg.HGW_L_STATUS link) 4 3 n).bump (Reg.HGW_L_CNT_STEP link)
    | none =>
      let s := s.setReg (Reg.HGW_L_UTIL link) (Word.ofNat (min util 65536))
      let step := s.field (Reg.HGW_L_STATUS link) 2 1
      let lc0 := s.flag (Reg.HGW_L_STATUS link) 5
      let queued := ((s.hlink link).queue.map (fun (p : HgwPacket) => p.size)).foldl (· + ·) 0
      if !s.flag Reg.HGW_LP_CTRL 0 then s.setStep link 0
      else if s.lc0Pinned link || (lc0 && s.lc0Window link 20000) then s.setStep link 0
      else if 0 < step && (8192 < queued || 80 * 65536 < util * 100) then s.setStep link (step - 1)
      else if step < 3 && util * 100 < 20 * 65536 && !(lc0 && s.lc0Window link 40000) then s.setStep link (step + 1)
      else s

/-- A device's route as the links that are known give it (R358, R359). -/
def State.routeOf (s : State) (t : List (Nat × List (Nat × Nat))) (d : Nat) (x : DeviceInfo) : DeviceInfo :=
  match bestRoute t d with
  | some (l, h) => { x with up := decide (s.elapsed ≤ x.lastMsg + 30000000), first := some l, hops := h }
  | none => { x with up := false, first := none, hops := 0 }

/-- Packets queued for links that are down are routed again (R359). -/
def State.reroute (s : State) : State :=
  let down := (List.range 6).filter (fun l => !s.linkUp l)
  let waiting := (down.map (fun l => (s.hlink l).queue)).flatten
  let s := down.foldl (fun (s : State) l => s.modLink l (fun x => { x with queue := [] })) s
  waiting.foldl (fun (s : State) p => match p.body with
    | .linkState _ _ _ => s
    | _ => s.routePacket p) s

/-- LC0 guests whose owner has come to lie beyond 2 hops (R362); a relay over T0 counts as one (R376). -/
def State.checkDistance (s : State) : State :=
  let far := s.hgw.guests.filter (fun (p : Nat × Nat) =>
    ((s.graph (guestGraph p.1 p.2)).map (fun (x : GraphState) => x.cfg.lc == 0)).getD false
      && ((kvGet s.hgw.devices p.1).map (fun (x : DeviceInfo) => x.up && decide (2 < x.hops + bit ((x.first.map (fun l => !s.terminates l)).getD false)))).getD false)
  let new := far.filter (fun p => !s.hgw.distLost.contains p)
  let s := { s with hgw := { s.hgw with distLost := far } }
  new.foldl (fun (s : State) p =>
    s.log 0x1006 3 (leBytes 2 p.1 ++ leBytes 2 p.2 ++ leBytes 1 (((kvGet s.hgw.devices p.1).map (fun (x : DeviceInfo) => x.hops)).getD 0))) s

/-- What follows a change of routes: packets, destinations, LC0 distances and links, and waiting state moves. -/
def State.routesChanged (s : State) : State :=
  let open_ := (List.range 6).filter (fun l => s.flag (Reg.HGW_L_STATUS l) 5)
  let s := { s with hgw := { s.hgw with lc0Links := [] } }
  let s := (((s.reroute).updateDests).checkDistance).showLc0
  let s := ((List.range 6).filter (fun l => s.flag (Reg.HGW_L_STATUS l) 5 && !open_.contains l)).foldl (fun (s : State) l =>
    if s.flag Reg.HGW_LP_CTRL 0 && s.lc0Window l 0 then s.setStep l 0 else s) s
  s.sendMoves.showReach.showRoute

/-- ROUTE_RECOMPUTE (R358, R359, R362). -/
def execRouteRecompute (s : State) : Host.Outcome State Fault Refusal := answer <|
  if !s.flag Reg.HGW_CTRL 0 then s
  else
    let t := s.ownLinks.map (fun x => (x.1, s.hopsFrom x.2))
    let old := s.hgw.devices
    let new := old.map (fun (x : Nat × DeviceInfo) => if x.1 = s.ownId then x else (x.1, s.routeOf t x.1 x.2))
    if new = old then s.reroute
    else
      let s := { s with hgw := { s.hgw with devices := new } }
      let lost := old.filter (fun (x : Nat × DeviceInfo) => x.2.up && !((kvGet new x.1).map (fun (y : DeviceInfo) => y.up)).getD false)
      let s := s.log 0x1003 1 (leBytes 1 ((List.range 6).filter (fun l => s.linkUp l)).length ++ leBytes 1 0 ++ leBytes 2 s.reachable.length)
      let s := lost.foldl (fun (s : State) (x : Nat × DeviceInfo) => s.log 0x1004 2 (leBytes 2 x.1)) s
      s.routesChanged

/-- ROUTE_TIMEOUT (R359): no link-state message from a device for 30 ms. -/
def execRouteTimeout (device : Nat) (s : State) : Host.Outcome State Fault Refusal := answer <|
  match kvGet s.hgw.devices device with
  | some x =>
    if x.up && x.lastMsg + 30000000 < s.elapsed then
      let s := { s with hgw := { s.hgw with devices := kvMod s.hgw.devices device (fun y => { y with up := false, first := none, hops := 0, links := [] }) } }
      (s.log 0x1004 2 (leBytes 2 device)).routesChanged
    else s
  | none => s

/-! ### Packets (R355 to R357) -/

/-- A link-state message: a newer one is kept and passed on (R359). In a twin pair the partner's own tells of its links, and what it asks to be sent goes out here (R376). -/
def State.takeLinkState (s : State) (link d seq : Nat) (l : List (Nat × Nat)) : State :=
  if d = s.ownId then
    if link ≠ 6 then s
    else
      let s := { s with hgw := { s.hgw with partnerLinks := l.filter (fun x => !s.terminates x.1) } }
      if s.originates then s else s.floodBody (.linkState d seq l) none
  else
    let t := s.elapsed
    let old := (kvGet s.hgw.devices d).getD {}
    let fresh := (kvGet s.hgw.devices d).isNone || decide (old.seq < seq) || decide (old.lastMsg + 30000000 < t)
    if !fresh then s
    else
      let s := { s with hgw := { s.hgw with devices := kvPut s.hgw.devices d { old with seq := seq, links := l, lastMsg := t } } }
      let s := s.floodBody (.linkState d seq l) (some link)
      (if link = 6 then s else s.floodT0 (.linkState d seq l)).showRoute

/-- A packet for this device takes effect. A placement is acknowledged where the graphs it brings here can be admitted (R132, R370, log entry 38). -/
def State.takePacket (s : State) (p : HgwPacket) : State :=
  match p.body with
  | .linkState _ _ _ => s
  | .closure owner rg sec tag _ seq _ => (s.fwdHold owner rg sec).fwdRelease owner rg sec tag seq.toNat
  | .slots owner rg tag vals => s.fwdArrive owner rg tag vals
  | .slotWrite rg tag chan a b q => if rg < 4 then (s.writeOwn rg tag chan a b q none).oscDue else s
  | .peer writer output a b q startGts cycle gts =>
    s.acceptPeer { writer := writer, output := output, a := a, b := b, q := q, startGts := startGts, cycle := cycle, gts := gts }
  | .event gts source code sev validity payload =>
    s.submitHere { gts := gts, source := source, code := code, sev := sev, synthetic := false, remote := true, validity := validity, payload := padTo 32 payload }
  | .utilisation d busy engines loads => if s.coordinator = s.ownId then s.takeUtil (d, busy, engines, loads) else s
  | .placement ver moves b =>
    let ok := moves.all (fun (m : Nat × Nat × Nat) => m.2.2 != s.ownId || s.fits m.2.2 m.1 m.2.1)
    let s := { s with hgw := { s.hgw with pending := some { ver := ver, boundary := b, moves := moves, acks := [] } } }.useFree 1
    if ok then s.hgwSend p.src .bulk (.placementAck s.ownId ver) else s
  | .placementAck d ver =>
    { s with hgw := { s.hgw with pending := s.hgw.pending.map (fun (x : XPlacement) =>
        if x.ver = ver && !x.acks.contains d then { x with acks := x.acks ++ [d] } else x) } }
  | .withdraw ver =>
    { s with hgw := { s.hgw with pending := s.hgw.pending.filter (fun (x : XPlacement) => x.ver != ver) } }
  | .stateMove owner g start hmax hg r blocks => s.installGraph owner g start hmax hg r blocks

/-- A packet that the partner gives over T0: for this device delivered, and for another sent on its route's first link where that is of this side (R376). -/
def State.takeT0 (s : State) (p : HgwPacket) : State :=
  match p.body with
  | .linkState d seq l => s.takeLinkState 6 d seq l
  | _ =>
    if p.dst = s.ownId then s.takePacket p
    else
      match kvGet s.hgw.devices p.dst with
      | some d =>
        match d.up, d.first with
        | true, some l => if s.terminates l then s.linkQueue l p else s.bump Reg.HGW_CNT_LOST
        | _, _ => s.bump Reg.HGW_CNT_LOST
      | none => s.bump Reg.HGW_CNT_LOST

/-- HGW_PACKET_RX (R355 to R357, R376): a packet is rejected for retry, delivered, or relayed; link 6 is T0.  A packet's n-th rejection
is the failure of its retry n − 1, so the ninth takes the link down. -/
def execHgwPacketRx (link : Nat) (crcOk : Bool) (p : HgwPacket) (s : State) : Host.Outcome State Fault Refusal := answer <|
  if link = 6 then (if s.t0Up && crcOk then s.takeT0 p else s)
  else if !s.linkUp link then s
  else if !crcOk then
    let n := (s.hlink link).retries + 1
    if 8 < n then s.hgwDown link 2
    else
      let s := (s.bump (Reg.HGW_L_CNT_RETRY link)).modLink link (fun x => { x with retries := n })
      if p.cls = .lc0 && n = 3 then s.bump (Reg.HGW_L_CNT_LC0_RETRY3 link) else s
  else
    let s := s.modLink link (fun x => { x with retries := 0 })
    match p.body with
    | .linkState d seq l => s.takeLinkState link d seq l
    | _ =>
      if !s.linkUsable link then s
      else
        let s := if p.cls = .lc0 then s.lc0Crosses link p.dst else s
        if p.dst = s.ownId then (s.relayT0 p).takePacket p else s.routePacket p

/-! ### Time transfer (R365, R366) -/

/-- HGW_TIME_EXCHANGE (R365, R366): this device's send and receive stamps t1 and t4, the neighbour's t2 and t3, and whether the neighbour is LOCKED. -/
def execHgwTimeExchange (link : Nat) (t1 t2 t3 t4 : Nat) (locked : Bool) (s : State) : Host.Outcome State Fault Refusal := answer <|
  if !s.linkUp link then s
  else
    let d : Int := (((t4 : Int) - t1) - ((t3 : Int) - t2)) / 2
    let o : Int := (((t2 : Int) - t1) + ((t3 : Int) - t4)) / 2
    let s := (s.setReg (Reg.HGW_L_DELAY link) (satS32 d)).setReg (Reg.HGW_L_OFFSET link) (satS32 o)
    let far := decide ((s.reg Reg.HGW_TIME_LIMIT).toNat < o.natAbs)
    let both := locked && s.syncState == 2
    let s := s.modLink link (fun x => { x with above := if far && both then x.above + 1 else 0, below := if far then 0 else x.below + 1 })
    let was := s.flag (Reg.HGW_L_STATUS link) 7
    let s := if !was && 3 ≤ (s.hlink link).above then
        (s.setFlag (Reg.HGW_L_STATUS link) 7 true).log 0x1005 2 (leBytes 1 link ++ leBytes 1 0 ++ leBytes 2 0 ++ leBytes 4 (satS32 o).toNat)
      else if was && 3 ≤ (s.hlink link).below then s.setFlag (Reg.HGW_L_STATUS link) 7 false
      else s
    s.showRoute

/-! ### The links' queues drain (R355, R356, R367) -/

/-- Rank of a class (R356). -/
def classRank : HgwClass → Nat
  | .lc0 => 0
  | .time => 1
  | .lc1 => 2
  | .lc2 => 3
  | .lc3 => 4
  | .bulk => 5

/-- The next packet of a queue: the oldest of its highest class. -/
def nextPacket (q : List HgwPacket) : Option HgwPacket :=
  q.foldl (fun (b : Option HgwPacket) (p : HgwPacket) =>
    match b with
    | some x => if classRank p.cls < classRank x.cls then some p else b
    | none => some p) none

/-- A link that is up and idle starts its next packet. -/
def State.drainLink (s : State) (l : Nat) : State :=
  let x := s.hlink l
  if x.queue.isEmpty || !s.linkUp l || s.elapsed < x.busyUntil then s
  else
    match nextPacket x.queue with
    | some p =>
      let ns := p.size * 8 * 2 ^ s.field (Reg.HGW_L_STATUS l) 2 1 / 100
      let t := s.elapsed + ns
      s.modLink l (fun y => { y with queue := y.queue.erase p, busyUntil := t })
    | none => s

/-- T0 sends its oldest packet; one that waits while T0 is down is lost (R376). -/
def State.drainT0 (s : State) : State :=
  match s.hgw.t0 with
  | [] => s
  | _ :: rest =>
    let s := { s with hgw := { s.hgw with t0 := rest } }
    if s.t0Up then s else s.bump Reg.HGW_CNT_LOST

end Sys2Proof.Machine
end

