-- ==== Sys2Proof/Machine/Twin.lean ====
section
/-!
DEFINITION. Twin operation (R375 to R391): roles, pairing, comparison, health reports, the mirror and switch-over.
Roles of Table 16-1: 0 OFF, 1 SOLO, 2 TILLED, 3 PAIRING, 4 FALLOW, 5 DETACHED, 6 FAULTY.
-/
namespace Sys2Proof.Machine

/-! ### Roles (R377) -/

/-- TWN_CTRL.EN. -/
def State.twinOn (s : State) : Bool := s.flag Reg.TWN_CTRL 0

/-- TWN_CTRL.SIDE: true for side B. -/
def State.twinSide (s : State) : Bool := s.flag Reg.TWN_CTRL 1

/-- PARTNER_READY. -/
def State.ready (s : State) : Bool := s.flag Reg.TWN_STATUS 8

/-- A device takes a role: its pins are driven or not, and a device that comes to TILLED or SOLO from another role has a new role GTS (R389). -/
def State.setRole (s : State) (r : Nat) : State :=
  let old := s.role
  let t := s.now
  let s := s.setField Reg.TWN_STATUS 2 0 r
  let on := s.drives
  let s := { s with alm := { s.alm with pins := s.alm.pins.map (fun (p : PinState) => { p with driven := on }) } }
  if (r = 1 && old ≠ 1) || (r = 2 && old ≠ 2) then { s with twn := { s.twn with roleGts := t } } else s

/-- Every publication sends a message as it stands. -/
def State.sendAllPubs (s : State) : State :=
  let s := (s.cyc.pubs.map (fun (p : PubState) => p.cfg.id)).foldl (fun (s : State) p => s.sendPub false p) s
  (s.alm.pubs.map (fun (p : PubState) => p.cfg.id)).foldl (fun (s : State) p => s.sendPub true p) s

/-- The partner is not, or no longer, FALLOW (R386, R388, R389). -/
def State.noFallow (s : State) : State := { s with twn := { s.twn with fallow := false } }

/-- A device becomes SOLO; one that was not driving its outputs starts to (R377, R388). -/
def State.becomeSolo (s : State) : State :=
  let drove := s.drives
  let s := (s.stopMirror.noFallow.setRole 1).setFlag Reg.TWN_STATUS 8 false
  if drove then s else s.sendAllPubs

/-- A device stops driving its outputs: what waits for the mirror is dropped. -/
def State.release (s : State) (r : Nat) : State :=
  { s with twn := { s.twn with unacked := [], held := [] } }.setRole r

/-! ### Training of T0 (R377, R379, R380, R389) -/

/-- The component of event 0x1107 that breaks R379, with the partner's version: none where all agree. -/
def State.versionBreak (s : State) (h : TwinHello) : Option (Nat × Nat) :=
  let near := fun (a b : Word) => bitsOf a 31 24 == bitsOf b 31 24 && decide (dist (bitsOf a 23 16) (bitsOf b 23 16) ≤ 1)
  let mine := fun (c : Nat) => imageVersion (s.comp c).active
  let digest := match s.boot.image with
    | some i => Config.cfgDigest i == h.digest
    | none => false
  if !near (mine 0) h.sup then some (1, h.sup.toNat)
  else if !near (mine 1) h.pem then some (2, h.pem.toNat)
  else if !near (mine 2) h.hgl then some (3, h.hgl.toNat)
  else if !digest then some (4, h.digest.toNat % 2 ^ 32)
  else none

/-- The UID as one unsigned value, SYS_UID_0 its low word. -/
def State.uidValue (s : State) : Nat := leNat s.uidBytes

/-- Both devices hold the same SIDE (R380): the one that becomes FAULTY takes its Hedgerow links down. -/
def State.sideConflict (s : State) (h : TwinHello) : State :=
  let old := s.role
  let keep := old == 1 || old == 2 || (!(h.role == 1 || h.role == 2) && decide (s.uidValue < h.uid.toNat))
  let s := { s with twn := { s.twn with conflict := true } }
  let s := if keep then (if old = 1 then s else s.becomeSolo)
    else ((List.range 6).filter (fun l => s.linkUp l)).foldl (fun (s : State) l => s.hgwDown l 1) (s.release 6)
  s.log 0x1109 3 (leBytes 1 (bit s.twinSide) ++ leBytes 1 s.role)

/-- Both devices drive outputs when T0 returns: the earlier role GTS keeps the role, side A on a tie (R389). -/
def State.dualTilled (s : State) (h : TwinHello) : State :=
  let keep := decide (s.twn.roleGts < h.roleGts) || (s.twn.roleGts == h.roleGts && !s.twinSide)
  let side := if keep then s.twinSide else h.side
  let t := s.elapsed
  let gap := dist s.twn.roleGts h.roleGts / 1000000
  let s := if keep then s else { (s.release 3) with twn := { (s.release 3).twn with pairStart := t } }
  s.log 0x1106 3 (leBytes 1 (bit side) ++ leBytes 1 0 ++ leBytes 2 0 ++ leBytes 4 (satNat 32 gap))

/-- A device that starts or returns pairs with its partner (R377, R388). -/
def State.startPairing (s : State) : State :=
  let t := s.elapsed
  let s := s.release 3
  { s with twn := { s.twn with pairStart := t, pins := List.replicate 8 false } }

/-- T0_TRAINED (R377, R379, R380, R389); a running partner toggles the liveness line, so ALIVE_IN sets (log entry 31). -/
def execT0Trained (h : TwinHello) (s : State) : Host.Outcome State Fault Refusal := answer <|
  if !s.twinOn || !s.committed || s.role = 6 then s
  else
    let s := (((s.pllBack 16).setFlag Reg.TWN_STATUS 9 true).setFlag Reg.TWN_STATUS 10 true).setReg Reg.TWN_PARTNER_SUP h.sup
    let s := { s with twn := { s.twn with partner := some h, heard := true, t0Lost := false, fallow := s.twn.fallow && h.role == 4 } }
    let r := s.role
    let drive := fun (n : Nat) => n == 1 || n == 2
    if h.side = s.twinSide then s.sideConflict h
    else
      let s := { s with twn := { s.twn with conflict := false } }
      match s.versionBreak h with
      | some (c, v) =>
        let s := (s.setFlag Reg.TWN_STATUS 12 true).log 0x1107 2 (leBytes 1 c ++ leBytes 4 v)
        if drive r then s
        else if r = 3 && !drive h.role && !s.twinSide then s.becomeSolo
        else s.release 6
      | none =>
        let s := s.setFlag Reg.TWN_STATUS 12 false
        if drive r && drive h.role then s.dualTilled h
        else if drive r then s
        else if r = 3 || r = 5 || (r = 4 && h.role = 1) then s.startPairing
        else s

/-- PARTNER_WAIT_EXPIRE (R377): no partner heard 2 s after the commit. -/
def execPartnerWaitExpire (s : State) : Host.Outcome State Fault Refusal := answer <|
  if s.twinOn && s.committed && s.role = 3 && !s.twn.heard && s.twn.commitAt + 2000000000 ≤ s.elapsed then s.becomeSolo else s

/-! ### Synchronisation (R378) -/

/-- Cyclic state of Table 16-2. -/
def State.syncCyc (s : State) (x : TwinSnapshot) : State :=
  { s with cyc := { s.cyc with
      run := s.cyc.run.map (fun (a : ProgArea) => { a with inst := x.insts })
      progStart := x.progStart
      tasks := s.cyc.tasks.mapIdx (fun i (t : TaskState) => match x.taskCycles[i]? with
        | some c => { t with cycles := c.1.toNat, offset := c.2 }
        | none => t) } }

/-- Alarm states, CHG values and pin HOLD timers of Table 16-2. -/
def State.syncAlm (s : State) (x : TwinSnapshot) : State :=
  let t := s.elapsed
  let alarms := x.alarms.foldl (fun (l : List (Nat × AlarmState)) (a : Nat × Nat × Half) =>
    kvMod l a.1 (fun y => { y with state := a.2.1, cond := a.2.1 == 1 || a.2.1 == 2, chg := a.2.2 })) s.alm.alarms
  let s := { s with alm := { s.alm with
    alarms := alarms
    pins := s.alm.pins.mapIdx (fun i (p : PinState) => match (x.pinHolds[i]?).bind id with
      | some d => { p with since := t - d }
      | none => p) } }
  ((List.range 8).foldl (fun (s : State) n => s.followPin n) s).showAlarms

/-- Meter points and pulse outputs of Table 16-2: each pulse output has a remainder, pulses pending and pulses issued. -/
def State.syncMtr (s : State) (x : TwinSnapshot) : State :=
  let points := x.meters.foldl (fun (l : List (Nat × MeterPoint)) (m : Nat × List (BitVec 64 × Word × Half) × Word) =>
    kvMod l m.1 (fun y => { y with accs := m.2.1.map (fun a => Acc.mk a.1 a.2.1 a.2.2), seq := m.2.2 })) s.mtr.points
  let s := { s with mtr := { s.mtr with points := points } }
  (List.range 8).foldl (fun (s : State) k => match x.pulses[k]? with
    | some v => (s.modPulse k (fun (p : PulseState) => { p with rem := v.1, total := v.2.1 + v.2.2, issued := v.2.2 })).setReg
        (Reg.MTR_PULSE_PENDING k) (Word.ofNat v.2.1)
    | none => s) s

/-- Topology of Table 16-2: resolved states, overrides and intermediate timers; the factor is rebuilt here. -/
def State.syncTop (s : State) (x : TwinSnapshot) : State :=
  let sw := x.switches.foldl (fun (l : List (Nat × SwitchState)) (v : Nat × Bool × Option Bool × Option Nat) =>
    kvMod l v.1 (fun y => { y with closed := v.2.1, prev := v.2.1, override := v.2.2.1, interAt := v.2.2.2 })) s.top.sw
  let s := { s with top := { s.top with sw := sw } }.showSwitch
  if s.flag Reg.TOP_CTRL 0 && s.flag Reg.TOP_CTRL 1 then s.startRefac else s

/-- The mirror and the journal of Table 16-2. -/
def State.syncMirror (s : State) (x : TwinSnapshot) : State :=
  let l := (x.journal.mapIdx (fun (i : Nat) (r : JournalRec) => (r.handle % 2 ^ 16, entryOfRec r i))).foldl
    (fun (l : List (Nat × JournalEntry)) (e : Nat × JournalEntry) => kvPut l e.1 e.2) []
  { s with
    twn := { s.twn with pubs := x.pubs, outTags := x.outTags }
    hif := { s.hif with mirror := l } }

/-- PAIRING_SYNC_DONE (R377, R378): the synchronising device becomes FALLOW; its partner becomes, or is again, TILLED. -/
def execPairingSyncDone (snap : TwinSnapshot) (s : State) : Host.Outcome State Fault Refusal := answer <|
  if !s.twinOn || !s.flag Reg.TWN_STATUS 9 then s
  else
    let lead := s.role = 1 || s.role = 2 || (s.role = 3 && !s.twinSide && ((s.twn.partner.map (fun h => h.role == 3)).getD false))
    if lead then
      let drove := s.drives
      let s := ({ s with twn := { s.twn with fallow := true } } : State).setRole 2
      let s := if drove then s else s.sendAllPubs
      s.log 0x1101 0 (leBytes 1 2 ++ leBytes 1 (bit s.twinSide))
    else if s.role = 3 then
      let s := ((((s.syncCyc snap).syncAlm snap).syncMtr snap).syncTop snap).syncMirror snap
      (s.setRole 4).log 0x1101 0 (leBytes 1 4 ++ leBytes 1 (bit (!s.twinSide)))
    else s

/-- PAIRING_TIMEOUT (R378): synchronisation has not completed within 120 s and restarts. -/
def execPairingTimeout (s : State) : Host.Outcome State Fault Refusal := answer <|
  if s.role = 3 && s.twn.heard && s.twn.pairStart + 120000000000 ≤ s.elapsed then
    let t := s.elapsed
    ({ s with twn := { s.twn with pairStart := t } } : State).log 0x1108 2 (leBytes 1 4)
  else s

/-! ### Row digests (R382) -/

/-- The digest of a retired row. -/
def State.rowDigest (s : State) (g : Nat) (f : Furrow) : Word :=
  let h := headerBytes g f
  let slots := (s.groupChans g).map (fun c => (kvGet f.slots c.1).getD missingSlot)
  let one := fun (x : Slot) =>
    let b := slotBytes { x with q := x.q &&& ~~~(Q.late ||| Q.revised) }
    bytesAt b 0 10 ++ bytesAt b 12 3
  crc32c (bytesAt h 0 10 ++ bytesAt h 16 24 ++ ((slots.filter (fun x => x.src != 0xFFFF)).map one).flatten)

/-- A comparison of two digests of a row. -/
def State.compareDigest (s : State) (g : Nat) (a b : Word) : State :=
  let s := s.bump Reg.TWN_CNT_CMP_ROWS
  if a = b then s
  else
    let s := s.bump Reg.TWN_CNT_CMP_MISMATCH
    let n := s.twn.winMis + 1
    let first := if s.twn.winMis = 0 then g else s.twn.winRg
    let s := { s with twn := { s.twn with winMis := n, winRg := first } }
    if (s.reg Reg.TWN_CMP_LIMIT).toNat < n && !s.flag Reg.TWN_STATUS 11 then
      (s.setFlag Reg.TWN_STATUS 11 true).log 0x1104 2 (leBytes 1 first ++ leBytes 1 0 ++ leBytes 2 0 ++ leBytes 4 n)
    else s

/-- The digest of a row that retires here: kept, and compared if the partner's has come. -/
def State.digestRow (s : State) (g : Nat) (f : Furrow) : State :=
  if !s.twinOn then s
  else
    let d := s.rowDigest g f
    match s.twn.early.find? (fun x => x.1 == g && x.2.1 == f.tag) with
    | some x =>
      ({ s with twn := { s.twn with early := s.twn.early.filter (fun y => !(y.1 == g && y.2.1 == f.tag)) } } : State).compareDigest g d x.2.2
    | none => { s with twn := { s.twn with digests := ((g, f.tag, d) :: s.twn.digests).take 256 } }

/-- ROW_DIGEST_RX (R382). -/
def execRowDigestRx (rg tag : Nat) (digest : Word) (s : State) : Host.Outcome State Fault Refusal := answer <|
  if s.role ≠ 4 then s
  else
    match s.twn.digests.find? (fun x => x.1 == rg && x.2.1 == tag) with
    | some x =>
      ({ s with twn := { s.twn with digests := s.twn.digests.filter (fun y => !(y.1 == rg && y.2.1 == tag)) } } : State).compareDigest rg x.2.2 digest
    | none => { s with twn := { s.twn with early := ((rg, tag, digest) :: s.twn.early).take 256 } }

/-- COMPARE_WINDOW_END (R382): the windows of 10 s are aligned to Device Time; one without mismatches ends the episode. -/
def execCompareWindowEnd (s : State) : Host.Outcome State Fault Refusal := answer <|
  let w := s.now / 10000000000 * 10000000000
  if s.twinOn && s.twn.winStart < w then
    let n := s.twn.winMis
    let s := if n = 0 then s.setFlag Reg.TWN_STATUS 11 false else s
    { s with twn := { s.twn with winStart := w, winMis := 0, lastMis := n } }
  else s

/-! ### Health reports (R383) -/

/-- The status bits of Table 16-3 that make a device not READY, in a report. -/
def reportFit (blocks : Bool) (r : HealthReport) : Bool :=
  r.sync == 2 && (List.range 5).all (fun i => !r.status.getLsbD i) && !r.status.getLsbD 8 && !(blocks && r.status.getLsbD 9)

/-- A FAULT bit of the self-test, or VERSION: the sender is FAULTY. -/
def reportFaulty (r : HealthReport) : Bool := (List.range 4).any (fun i => r.status.getLsbD i) || r.status.getLsbD 8

/-- This device's report. -/
def State.healthReport (s : State) : HealthReport :=
  let st := s.twn.selfTest.toNat + bit (s.hlt.active != 0) * 16 + bit (s.flag Reg.TWN_STATUS 12) * 256 + bit (s.flag Reg.TWN_STATUS 11) * 512
  { seq := s.twn.reportSeq
    status := BitVec.ofNat 16 st
    sync := BitVec.ofNat 8 s.syncState
    tq := BitVec.ofNat 8 s.timeQuality
    digestLow := s.reg Reg.TWN_CFG_DIGEST
    sup := imageVersion (s.comp 0).active
    pem := imageVersion (s.comp 1).active
    hgl := imageVersion (s.comp 2).active
    mismatches := Word.ofNat s.twn.lastMis
    temp := s.hlt.temps.foldl max (s.hlt.temps.headD 0)
    links := BitVec.ofNat 16 ((((List.range 4).filter (fun p => s.linkIsUp p)).map (fun p => 2 ^ p)).foldl (· + ·) 0) }

/-- HEALTH_REPORT_TX (R379, R383): every 100 ms. -/
def execHealthReportTx (s : State) : Host.Outcome State Fault Refusal := answer <|
  if s.twinOn && (s.role = 4 || s.role = 6) && !s.twn.conflict && s.flag Reg.TWN_STATUS 9
      && (s.twn.lastReport.isNone || s.twn.reportSent + 100000000 ≤ s.elapsed) then
    let t := s.elapsed
    let r := s.healthReport
    let s := { s with twn := { s.twn with lastReport := some r, reportSent := t, reportSeq := s.twn.reportSeq + 1 } }
    s.setFlag Reg.TWN_STATUS 8 (s.role == 4 && reportFit (s.flag Reg.TWN_CTRL 3) r)
  else s

/-- The Fallow partner is lost (R388). -/
def State.partnerLost (s : State) (cause : Nat) : State := s.becomeSolo.log 0x1103 2 (leBytes 1 cause)

/-- HEALTH_REPORT_RX (R383, R388): the Tilled device shows the report; one of a FAULTY partner makes it SOLO. -/
def execHealthReportRx (r : HealthReport) (s : State) : Host.Outcome State Fault Refusal := answer <|
  if !s.twinOn || !(s.role = 1 || s.role = 2) then s
  else
    let t := s.elapsed
    let s := { s with twn := { s.twn with report := some r, reportAt := t } }
    let s := s.setReg Reg.TWN_PARTNER_HEALTH (Word.ofNat (r.status.toNat + r.sync.toNat * 2 ^ 16 + r.tq.toNat * 2 ^ 24))
    let s := (s.setReg Reg.TWN_PARTNER_AGE 0).setReg Reg.TWN_PARTNER_SUP r.sup
    let s := s.setFlag Reg.TWN_STATUS 8 (s.role == 2 && reportFit (s.flag Reg.TWN_CTRL 3) r)
    if s.role = 2 && reportFaulty r then s.partnerLost 2 else s

/-- Shows the age of the last report. -/
def State.showAge (s : State) : State :=
  match s.twn.report with
  | some _ => s.setReg Reg.TWN_PARTNER_AGE (satWord ((s.elapsed - s.twn.reportAt) / 1000000))
  | none => s

/-- The Fallow device stops being READY when Device Time leaves LOCKED, or COMPARE_FAIL blocks (R383). -/
def State.showReady (s : State) : State :=
  if s.role = 4 && s.ready && (s.syncState != 2 || (s.flag Reg.TWN_STATUS 11 && s.flag Reg.TWN_CTRL 3)) then s.setFlag Reg.TWN_STATUS 8 false else s

/-- PARTNER_REPORT_TIMEOUT (R383): no report for 300 ms. -/
def execPartnerReportTimeout (s : State) : Host.Outcome State Fault Refusal := answer <|
  if s.role = 2 && s.twn.reportAt + 300000000 < s.elapsed then s.showAge.setFlag Reg.TWN_STATUS 8 false else s

/-- SELF_TEST_FAIL (R383): FAULT bit 0 to 3; the Fallow device becomes FAULTY. -/
def execSelfTestFail (bit : Nat) (s : State) : Host.Outcome State Fault Refusal := answer <|
  if s.role = 4 then
    let s := ({ s with twn := { s.twn with selfTest := s.twn.selfTest ||| (1 <<< bit) } } : State).release 6
    (s.setFlag Reg.TWN_STATUS 8 false).log 0x1108 2 (leBytes 1 1)
  else s

/-! ### The mirror (R386) -/

/-- A mirrored publication takes the place of the one of its class and number. -/
def putMirror (l : List MirrorPub) (p : MirrorPub) : List MirrorPub := l.filter (fun x => !(x.cls == p.cls && x.id == p.id)) ++ [p]

/-- MIRROR_MESSAGE_RX (R386): the Fallow device applies and acknowledges a mirror message. -/
def execMirrorMessageRx (m : MirrorMsg) (s : State) : Host.Outcome State Fault Refusal := answer <|
  if s.role ≠ 4 then s
  else
    let s := { s with twn := { s.twn with acked := (m.num :: s.twn.acked).take 64 } }
    match m.body with
    | .pin n active => { s with twn := { s.twn with pins := listMod s.twn.pins n (fun _ => active) } }
    | .pub p => { s with twn := { s.twn with pubs := putMirror s.twn.pubs p } }
    | .outTag o tag => { s with twn := { s.twn with outTags := kvPut s.twn.outTags o tag } }
    | .pulse k issued start =>
      let s := { s with twn := { s.twn with pulses := (kvPut s.twn.pulses k (issued, start)) } }
      let s := s.modPulse k (fun (x : PulseState) => { x with issued := issued })
      s.setReg (Reg.MTR_PULSE_PENDING k) (Word.ofNat ((s.pulse k).total - issued))
    | .alarmAck a source => s.acceptAck a 1 source
    | .journal r =>
      let n := s.hif.nextSerial
      { s with hif := { s.hif with nextSerial := n + 1, mirror := kvPut s.hif.mirror (r.handle % 2 ^ 16) (entryOfRec r n) } }

/-- MIRROR_ACK_RX (R386): what waited for the acknowledgement takes effect. -/
def execMirrorAckRx (num : Nat) (s : State) : Host.Outcome State Fault Refusal := answer (if s.role = 2 then s.acknowledge num else s)

/-- T0_DETACH (R389): T0 is down for 500 µs while the liveness line toggles. -/
def execT0Detach (s : State) : Host.Outcome State Fault Refusal := answer <|
  if !s.twinOn || !(s.flag Reg.TWN_STATUS 9 || s.twn.t0Lost) then s
  else
    let r := s.role
    let s := { s with twn := { s.twn with t0Lost := false } }
    let s := (((if r = 2 then s.stopMirror else s).noFallow.setFlag Reg.TWN_STATUS 9 false).setFlag Reg.TWN_STATUS 10 true).setFlag Reg.TWN_STATUS 8 false
    if r = 4 then
      let s := { s with twn := { s.twn with pins := List.replicate 8 false } }
      (s.setRole 5).log 0x1105 2 (leBytes 1 4)
    else if r = 2 then s.log 0x1105 2 (leBytes 1 2)
    else s

/-! ### Switch-over (R384, R385, R387) -/

/-- ROLE_SWITCH (R384): the switch takes place at the first RG0 row boundary at least 10 ms later. -/
def execRoleSwitch (h : CmdHdr) (s : State) : Host.Outcome State Fault Refusal := answer <|
  if !(s.role = 2 || s.role = 4) || s.twn.pendSwitch.isSome then s.completeShort h 0x0090 0x04 0
  else if !s.ready then (s.log 0x1108 2 (leBytes 1 1)).completeShort h 0x0090 0x04 0
  else
    let n := s.hif.ops.length
    let s := s.startLong h 0x0090 .roleSwitch true 0 []
    if s.hif.ops.length = n then s
    else
      let t := s.now + 10000000
      let r := s.rate 0
      let p := (t * r + 999999999) / 1000000000
      let at_ := if r = 0 then t else gridTag r (p / r) (p % r)
      let hd := s.lastHandle
      { s with twn := { s.twn with pendSwitch := some (hd, at_) } }

/-- The Tilled device hands its outputs over and becomes FALLOW; its operations end under R348 (R385, R387). -/
def State.handOver (s : State) : State :=
  let pins := s.alm.pins.map (fun (p : PinState) => p.active)
  let s := s.release 4
  let s := { s with twn := { s.twn with pins := pins, lastReport := none } }
  s.cutOps none

/-- The Fallow device starts to take over: from the instant t_s at which outputs stopped (R385). -/
def State.takeOver (s : State) (ts cause : Nat) : State := { s with twn := { s.twn with ts := some (ts, cause) } }

/-- SWITCH_INSTANT (R384): cause 1, on either device of the pair. -/
def execSwitchInstant (s : State) : Host.Outcome State Fault Refusal := answer <|
  let due := match s.twn.pendSwitch with
    | some (_, t) => decide (t ≤ s.now)
    | none => true
  if !due || !(s.role = 2 || s.role = 4) then s
  else
    let finish := fun (s : State) (st : Nat) =>
      match s.twn.pendSwitch with
      | some (h, _) => ({ s with twn := { s.twn with pendSwitch := none } } : State).finishOp h st 0
      | none => s
    if !s.ready then finish (s.log 0x1108 2 (leBytes 1 1)) 0x04
    else if s.role = 2 then (finish s 0x00).handOver
    else (finish s 0x00).takeOver s.elapsed 1

/-- PARTNER_LOSS_DETECT (R384, R388, R389): the partner is lost. -/
def execPartnerLossDetect (s : State) : Host.Outcome State Fault Refusal := answer <|
  if !s.twinOn then s
  else
    let missed := s.freshWord.toNat
    let was := s.flag Reg.TWN_STATUS 9
    let fit := s.ready
    let s := (s.setFlag Reg.TWN_STATUS 9 false).setFlag Reg.TWN_STATUS 10 false
    let s := if was then (s.bumpBy Reg.TWN_CNT_HB_MISS missed).useFree 1 else s
    match s.role with
    | 2 => s.partnerLost 1
    | 4 => if fit then s.takeOver (s.elapsed - 500000) 2 else s.log 0x1108 2 (leBytes 1 2)
    | 5 => s.takeOver (s.elapsed - 500000) 2
    | _ => s

/-- RELEASE_REQUEST_RX (R384): cause 3. -/
def execReleaseRequestRx (s : State) : Host.Outcome State Fault Refusal := answer <|
  if s.role ≠ 4 then s
  else if s.ready then s.takeOver s.elapsed 3 else s.log 0x1108 2 (leBytes 1 3)

/-- Some enabled PRP pair has no link here and one on the partner (R384). -/
def State.inputLost (s : State) (r : HealthReport) : Bool :=
  [0, 1].any (fun p =>
    let ports := [2 * p, 2 * p + 1]
    s.paired (2 * p) && ports.all (fun q => !s.linkIsUp q) && ports.any (fun q => r.links.getLsbD q))

/-- Watches the condition of cause 4 on the Tilled device: since when it has held (R384). -/
def State.watchInput (s : State) : State :=
  let lost := s.role == 2 && s.flag Reg.TWN_CTRL 2 && (s.twn.report.elim false (fun r => s.inputLost r))
  if lost then (if s.twn.inputLoss.isSome then s else { s with twn := { s.twn with inputLoss := some s.elapsed } })
  else if s.twn.inputLoss.isSome then { s with twn := { s.twn with inputLoss := none } } else s

/-- INPUT_TRIGGER_EXPIRE (R384): cause 4, once its condition has held for 50 ms; on the Fallow device, its Tilled partner's expiry. -/
def execInputTriggerExpire (s : State) : Host.Outcome State Fault Refusal := answer <|
  if !s.flag Reg.TWN_CTRL 2 then s
  else if s.role = 4 then (if s.ready then s.takeOver s.elapsed 4 else s)
  else
    let lost := match s.twn.inputLoss with
      | some t => decide (t + 50000000 ≤ s.elapsed)
      | none => false
    if s.role = 2 && lost then (if s.ready then s.handOver else s.log 0x1108 2 (leBytes 1 4)) else s

/-- The mirrored publication of a class and number. -/
def State.mirrorOf (s : State) (c : PubClass) (p : Nat) : Option MirrorPub := s.twn.pubs.find? (fun x => x.cls == c && x.id == p)

/-- A publication continues from the mirror with its own elements (R387, R389). -/
def State.takePub (s : State) (alm detached : Bool) (ts : Nat) (x : PubState) : State :=
  let p := x.cfg.id
  let own := if alm then s.alarmElems x else s.cycElems p x.cfg.elements
  let t := s.now
  let late := alm && x.cfg.lc == 0 && (match x.change with
    | some c => decide (ts ≤ c)
    | none => false)
  let s := if late then s.bump Reg.TWN_CNT_GAP_PUB else s
  let fresh := fun (n : Word) (spdu : Word) => s.modPub alm p (fun y => { y with
    stNum := n, sqNum := 0, spdu := spdu, elems := own, spacing := y.cfg.tMin * 1000000, tSince := t, change := none })
  let s := match s.mirrorOf (if alm then .alm else .cyc) p with
    | some m =>
      if detached || m.elems != own then fresh (nextNum m.stNum) m.spdu
      else s.modPub alm p (fun y => { y with stNum := m.stNum, sqNum := nextNum m.sqNum, spdu := m.spdu, elems := own, tSince := m.t, change := none })
    | none => fresh x.stNum x.spdu
  s.sendPub alm p

/-- An output stream sends the rows newer than the mirrored tag whose build instant has passed, with HELD; answers how many (R387). -/
def State.takeOutput (s : State) (o : OutState) : State × Nat :=
  let o' : OutState := { o with lastTag := match kvGet s.twn.outTags o.cfg.id with
    | some t => some t
    | none => o.lastTag }
  let s := s.modOut o.cfg.id (fun y => { y with lastTag := o'.lastTag })
  let rows : List Furrow := match s.group o.cfg.rg with
    | some x => x.furrows.filter (fun (f : Furrow) => decide (f.tag ≤ s.now) && s.outSends o' f.tag && s.outReady o' f.tag)
    | none => []
  (rows.foldl (fun (s : State) (f : Furrow) => (s.setRowFlag o.cfg.rg f.idx f.tag 3).sendOut o' f.tag 8) s, rows.length)

/-- A pulse output continues from the mirror (R387). -/
def State.takePulse (s : State) (k : Nat) : State :=
  match kvGet s.twn.pulses k with
  | some (issued, start) =>
    let width := s.field (Reg.MTR_PULSE_CTRL k) 25 16 * 1000000
    let e := s.elapsed
    let t := s.now
    let on := s.pulseLevel k true
    let s := s.modPulse k (fun (x : PulseState) => { x with
      issued := issued
      activeEnd := start.map (fun (b : Nat) => e + (b + width - t))
      pin := if start.isSome then on else x.pin })
    s.setReg (Reg.MTR_PULSE_PENDING k) (Word.ofNat ((s.pulse k).total - issued))
  | none => s

/-- Operations of the device that was Tilled end under R348, in the mirrored journal. -/
def State.endMirrored (s : State) : State :=
  { s with hif := { s.hif with mirror := s.hif.mirror.map (fun (x : Nat × JournalEntry) =>
      if x.2.disp == .running then (x.1, { x.2 with status := 0x0C, disp := if [0x0021, 0x0050, 0x0070].contains x.2.opcode then .resumable else .redo })
      else x) } }

/-- TAKEOVER_COMPLETE (R385, R387, R389): the role change of the new Tilled device. -/
def execTakeoverComplete (s : State) : Host.Outcome State Fault Refusal := answer <|
  match s.twn.ts with
  | none => s
  | some (ts, cause) =>
    let detached := s.role = 5
    let gapNs := s.elapsed - ts
    let gap := satNat 16 (gapNs / 1000)
    let since := s.now - gapNs
    let s := { s with twn := { s.twn with ts := none, fallow := cause == 1 || cause == 4, pins := List.replicate 8 false } }
    let s := (s.setRole 2).setFlag Reg.TWN_STATUS 8 false
    let s := if detached then s else (List.range 8).foldl (fun (s : State) k => s.takePulse k) s
    let s := s.cyc.pubs.foldl (fun (s : State) x => s.takePub false detached since x) s
    let s := s.alm.pubs.foldl (fun (s : State) x => s.takePub true detached since x) s
    let s := (s.twn.pubs.filter (fun m => m.cls == .rsv)).foldl (fun (s : State) m => s.setReg (Reg.DEC_RSV_SPDU m.id) m.spdu) s
    let (s, held) := s.dec.outs.foldl (fun (a : State × Nat) o => ((a.1.takeOutput o).1, a.2 + (a.1.takeOutput o).2)) (s, 0)
    let s := { s with mtr := { s.mtr with points := s.mtr.points.map (fun (m : Nat × MeterPoint) => (m.1, { m.2 with held := true })) } }.endMirrored
    let s := ((s.setPair Reg.TWN_LAST_SW_LO Reg.TWN_LAST_SW_HI s.now).setReg Reg.TWN_LAST_CAUSE (Word.ofNat (cause + gap * 65536))).maxReg Reg.TWN_GAP_MAX (gapNs / 1000)
    (s.bump Reg.TWN_CNT_SWITCH).log 0x1102 3 (leBytes 1 cause ++ leBytes 1 0 ++ leBytes 2 gap ++ leBytes 4 held)

end Sys2Proof.Machine
end

