-- ==== Sys2Proof/Machine/Commands.lean ====
section
/-!
DEFINITION. Supervisor firmware takes commands from Q0, and commits the steps of long operations (R342, R343, R346, R347).
-/
namespace Sys2Proof.Machine

/-- The state that a meaning leads to. -/
def Outcome.stateOr (s : State) : Host.Outcome State Fault Refusal → State
  | .next t => t
  | _ => s

/-- Bytes lo to hi − 1 of a descriptor are 0. -/
def zeroFrom (d : List Byte) (lo hi : Nat) : Bool := (bytesAt d lo (hi - lo)).all (fun b => b == 0)

/-- The command of a descriptor (Tables 14-5 and 14-7), with what its host buffer holds: none where the opcode is unknown or a byte that must be 0 is not. -/
def parseCommand (d : List Byte) (content : BufContent) : Option Instr :=
  let h : CmdHdr := { tag := Word.ofNat (natAt d 4 4), progress := natAt d 2 1 % 2 == 1, buf := natAt d 16 8, len := natAt d 24 4 }
  let fixed := decide (natAt d 2 2 < 2) && zeroFrom d 8 16
  let noBuf := h.buf == 0
  let at_ := fun (i n : Nat) => natAt d i n
  let rest := fun (i : Nat) => zeroFrom d i 64
  let chk := fun (b : Bool) (i : Instr) => if fixed && b then some i else none
  match natAt d 0 2 with
  | 0x0001 => chk (noBuf && rest 28) (.nop h)
  | 0x0002 => chk (decide (at_ 32 1 < 4) && rest 33) (.journal h (Word.ofNat (at_ 28 4)) (at_ 32 1 % 2 == 1) (at_ 32 1 / 2 == 1))
  | 0x0003 => chk (noBuf && rest 32) (.cancel h (Word.ofNat (at_ 28 4)))
  | 0x0004 => chk (rest 32) (.resume h (Word.ofNat (at_ 28 4)))
  | 0x0010 => chk (noBuf && rest 32) (.ack h (BitVec.ofNat 16 (at_ 28 2)) (BitVec.ofNat 16 (at_ 30 2)))
  | 0x0020 => chk (noBuf && rest 29) (.arm h (at_ 28 1))
  | 0x0021 => chk (zeroFrom d 29 32 && rest 36) (.export_ h (at_ 28 1) (at_ 32 4))
  | 0x0022 => chk (rest 30) (.exportFrames h (at_ 28 1) (at_ 29 1))
  | 0x0023 => chk (noBuf && zeroFrom d 29 32 && rest 36) (.release h (at_ 28 1) (at_ 32 4))
  | 0x0030 => chk (noBuf && rest 28) (.refactor h)
  | 0x0031 => chk (noBuf && rest 28) (.rebalance h)
  | 0x0040 => chk (rest 28) (.progLoad h content)
  | 0x0041 => chk (noBuf && rest 28) (.progExchange h)
  | 0x0042 => chk (noBuf && rest 28) (.progRevert h)
  | 0x0050 => chk (rest 29) (.imageStage h (at_ 28 1) content)
  | 0x0051 => chk (noBuf && decide (at_ 29 1 < 2) && rest 30) (.imageActivate h (at_ 28 1) (at_ 29 1 == 1))
  | 0x0052 => chk (noBuf && rest 29) (.confirm h (at_ 28 1))
  | 0x0053 => chk (noBuf && rest 28) (.settingsSave h)
  | 0x0060 => chk (rest 28) (.keyUpdate h content)
  | 0x0070 => chk (zeroFrom d 29 32 && rest 44) (.archiveRead h (at_ 28 1) (at_ 32 8) (at_ 40 4))
  | 0x0080 => chk (noBuf && rest 35) (.dateSet h (at_ 28 2) (at_ 30 1) (at_ 31 1) (at_ 32 1) (at_ 33 1) (at_ 34 1))
  | 0x0090 => chk (noBuf && rest 28) (.roleSwitch h)
  | _ => none

/-- The effect of a command that supervisor firmware has taken (Table 14-7). -/
def State.runCommand (s : State) (c : Instr) : State :=
  Outcome.stateOr s (match c with
    | .nop h => execNop h s
    | .journal h k t w => execJournal h k t w s
    | .cancel h k => execCancel h k s
    | .resume h k => execResume h k s
    | .ack h a c => execAck h a c s
    | .arm h r => execArm h r s
    | .export_ h r c => execExport h r c s
    | .exportFrames h r m => execExportFrames h r m s
    | .release h r c => execRelease h r c s
    | .refactor h => execRefactor h s
    | .rebalance h => execRebalance h s
    | .progLoad h b => execProgLoad h b s
    | .progExchange h => execProgExchange h s
    | .progRevert h => execProgRevert h s
    | .imageStage h c b => execImageStage h c b s
    | .imageActivate h c o => execImageActivate h c o s
    | .confirm h c => execConfirm h c s
    | .settingsSave h => execSettingsSave h s
    | .keyUpdate h b => execKeyUpdate h b s
    | .archiveRead h a f n => execArchiveRead h a f n s
    | .dateSet h y m d hh mm ss => execDateSet h y m d hh mm ss s
    | .roleSwitch h => execRoleSwitch h s
    | _ => answer s)

/-- COMMAND_TAKE (R342, R343): the oldest packet of Q0, once Q1 has space for its first completion; `content` is what its host buffer holds. -/
def execCommandTake (content : BufContent) (s : State) : Host.Outcome State Fault Refusal := answer <|
  let s := s.qCheck 0
  let x := s.queue 0
  match x.packets with
  | [] => s
  | p :: _ =>
    if !s.hif.q1Wait.isEmpty || s.qFree 1 < 9 then s
    else
      let s := s.setQueue 0 (QueueState.take (s.qDepth 0) (p.words.length + 1) x)
      let s :=
        if p.kind ≠ 1 || p.words.length ≠ 16 then s.bump Reg.HIF_CNT_CMD_BAD
        else
          let s := s.bump Reg.HIF_CNT_CMD
          let d := (p.words.map (fun w => leBytes 4 w.toNat)).flatten
          match parseCommand d content with
          | some c => s.runCommand c
          | none => s.completeShort { tag := Word.ofNat (natAt d 4 4), progress := false, buf := 0, len := 0 } (natAt d 0 2) 0x03 0
      s.pushWake 0

/-- The step of an operation's work; works that finish at events of their own have no step here. -/
def State.workStep (s : State) (o : LongOp) : State :=
  match o.work with
  | .export_ r n image => if s.hif.busMaster then s.exportStep o r n image else s
  | .exportFrames r m first last => if s.hif.busMaster then s.framesStep o r m first last else s
  | .archiveRead source first count => if s.hif.busMaster then s.archiveStep o source first count else s
  | .progLoad image => s.loadStep o image
  | .imageStage c image => s.stageStep o c image
  | .settingsSave records => s.saveStep o records
  | .keyUpdate m => s.keyStep o m
  | .refactor => s
  | .rebalance => s
  | .progExchange _ => s
  | .imageActivate _ => s
  | .roleSwitch => s

/-- An operation that CANCEL stopped ends with ABORTED at a step boundary (R346). -/
def State.endCancelled (s : State) (h : Nat) : State :=
  match s.longOp h with
  | some o =>
    if o.cancelled then
      let s := match o.work with
        | .export_ r n _ => s.setExporting r n false
        | _ => s
      s.finishOp h 0x0C 0
    else s
  | none => s

/-- LONG_OP_STEP_COMMIT (R346, R347): a running operation commits its next step. -/
def execLongOpStepCommit (handle : Nat) (s : State) : Host.Outcome State Fault Refusal := answer <|
  match s.longOp handle with
  | some o => (s.workStep o).endCancelled handle
  | none => s

end Sys2Proof.Machine
end

