-- ==== Sys2Proof/Machine/Health.lean ====
section
/-!
DEFINITION. Health, faults and operating limits (R445 to R463): error detection and handling, thermal and current limits,
DRAM temperature, and the performance counters.
-/
namespace Sys2Proof.Machine

/-! ### Detection (R445, R446, R463) -/

/-- Counts and logs of the memory controllers, and the poisoning of a range in the aperture (R331, R463). -/
def State.memError (s : State) (e : ErrorRec) : State :=
  let c := e.channel
  let last := fun (s : State) => s.setPair (Reg.MEM_CH_LAST_LO c) (Reg.MEM_CH_LAST_HI c) e.addr
  if e.code = 0x16E0#16 then s.bump Reg.MEM_SRAM_CNT_CE
  else if e.code = 0x16E1#16 then last (s.bump (Reg.MEM_CH_CNT_CE c))
  else if e.code = 0x1603#16 then (s.bump Reg.MEM_SRAM_CNT_UE).log 0x1603 3 (leBytes 1 c)
  else if e.code = 0x1601#16 then
    let s := if Config.meterDram e.addr then { s with mtr := { s.mtr with keptBad := true } } else s
    let s := (last (s.bump (Reg.MEM_CH_CNT_UE c))).log 0x1601 3 (leBytes 1 c ++ leBytes 1 0 ++ leBytes 2 0 ++ leBytes 4 (e.addr % 2 ^ 32))
    if e.grade = 3 then { s with hif := { s.hif with aperHeld := s.hif.aperHeld ++ [(e.addr / 64 * 64, 64, blockOf e.source)] } } else s
  else s

/-- ERROR_DETECT (R445 to R448). -/
def execErrorDetect (e : ErrorRec) (s : State) : Host.Outcome State Fault Refusal := answer
  ((s.memError e).raiseError e)

/-! ### Handling (R448 to R451) -/

/-- A record enters the error area, newest first, 16 at most (R451). -/
def State.keepRecord (s : State) (x : StackEntry) : State :=
  { s with hlt := { s.hlt with area := (AreaRec.mk x.err x.gts x.val true :: s.hlt.area).take 16 } }

/-- Blocks that firmware may restart after an E3: DEC, WAV, OSC, CAP and HGW (R451). -/
def restartable (b : Nat) : Bool := [0x03, 0x06, 0x08, 0x0E, 0x10].contains b

/-- The next entry of the stack: highest grade, then first detected (R448). -/
def nextEntry (l : List StackEntry) : Option StackEntry :=
  l.foldl (fun (b : Option StackEntry) (e : StackEntry) =>
    match b with
    | some x => if x.err.grade < e.err.grade || (x.err.grade == e.err.grade && decide (e.order < x.order)) then some e else b
    | none => some e) none

/-- The handler takes the next entry. -/
def State.handleNext (s : State) : State :=
  let t := s.elapsed
  match nextEntry s.hlt.stack with
  | some e => { s with hlt := { s.hlt with handling := some ({ e with resumed := false }, t), stack := s.hlt.stack.filter (fun x => x.order != e.order) } }
  | none => { s with hlt := { s.hlt with handling := none } }

/-- Firmware records a handled error and may restart its block; whether the restart succeeds is open (R445, R451). -/
def State.recordHandled (s : State) (x : StackEntry) : State :=
  let e := x.err
  let body := leBytes 4 e.source.toNat ++ leBytes 2 e.code.toNat
  match e.grade with
  | 1 =>
    let sec := s.second
    if s.hlt.e1At.contains (e.source, sec) then s
    else ({ s with hlt := { s.hlt with e1At := (e.source, sec) :: s.hlt.e1At.filter (fun y => y.1 != e.source) } } : State).log 0x1501 0 (body ++ leBytes 2 0)
  | 2 => s.log 0x1502 2 (body ++ leBytes 2 0)
  | 3 =>
    let b := blockOf e.source
    let s := (s.keepRecord x).log 0x1503 3 (body ++ leBytes 2 0)
    if s.flag Reg.HLT_CTRL 0 && restartable b then
      let ok := s.freshWord.getLsbD 0
      let s := s.useFree 1
      if ok then
        ({ s with hlt := { s.hlt with active := s.hlt.active &&& ~~~((1 : Word) <<< b) } } : State).log 0x150A 1 (leBytes 1 b)
      else s
    else s
  | _ => (s.keepRecord x).log 0x1504 3 (body ++ leBytes 1 e.cause)

/-- ERROR_HANDLING_DONE (R448). -/
def execErrorHandlingDone (s : State) : Host.Outcome State Fault Refusal := answer <|
  match s.hlt.handling with
  | some (x, _) =>
    let t := s.recordHandled x
    let t := { t with hlt := { t.hlt with lostRun := false } }
    (s.noticeHealth t.handleNext.showStack)
  | none => s

/-- HANDLER_TIMEOUT (R449): one handling has lasted 10 ms. -/
def execHandlerTimeout (s : State) : Host.Outcome State Fault Refusal := answer <|
  match s.hlt.handling with
  | some (x, t0) =>
    if s.elapsed < t0 + 10000000 then s
    else
      let s := s.log 0x1507 3 (leBytes 1 x.err.grade)
      (s.raiseError { grade := 4, source := s.sourceOf 0x15 0, code := 0x1507, cause := 3, channel := 0, addr := 0 })
  | none => s

/-- The E4 of the sequence in progress has been handled. -/
def State.e4Handled (s : State) : Bool :=
  let busy := match s.hlt.handling with
    | some (x, _) => decide (4 ≤ x.err.grade)
    | none => false
  !busy && !s.hlt.stack.any (fun x => decide (4 ≤ x.err.grade))

/-- E4_WARM_RESET (R450): at t_e + 20 ms, or once the E4 has been handled. -/
def execE4WarmReset (s : State) : Host.Outcome State Fault Refusal := answer <|
  match s.hlt.e4 with
  | some t => if t + 20000000 ≤ s.elapsed || s.e4Handled then s.warm 4 else s
  | none => s

/-! ### Thermal and current limits (R453 to R457) -/

/-- The highest reading of the 24 sensors, in 0.1 °C. -/
def State.junction (s : State) : Int := s.hlt.temps.foldl max (s.hlt.temps.headD 0)

/-- A signed reading as 16 bits. -/
def half16 (t : Int) : Nat := (BitVec.ofInt 16 t).toNat

/-- A sensor has a new reading. -/
def State.readTemp (s : State) (i : Nat) (t : Int) : State :=
  let l := if s.hlt.temps.isEmpty then List.replicate 24 t else s.hlt.temps
  let s := { s with hlt := { s.hlt with temps := l.set i t } }
  let j := s.junction
  let s := (s.setField Reg.HLT_THERM 31 16 (half16 j)).setFlag Reg.HLT_THERM 2 (decide (1250 ≤ j))
  let peak := (BitVec.ofNat 16 (s.field Reg.HLT_TEMP_PEAK 15 0)).toInt
  let s := if peak < j then s.setField Reg.HLT_TEMP_PEAK 15 0 (half16 j) else s
  if s.field Reg.HLT_TEMP_INDEX 4 0 = i then s.setField Reg.HLT_TEMP 15 0 (half16 t) else s

/-- Shows the sensor that HLT_TEMP_INDEX selects. -/
def State.showTemp (s : State) : State :=
  s.setField Reg.HLT_TEMP 15 0 (half16 (s.hlt.temps.getD (s.field Reg.HLT_TEMP_INDEX 4 0) 0))

/-- What follows a change of the shedding level: event 0x1508, the count of rises, and the shedding of DFS (R255, R453). -/
def State.levelChanged (old s : State) : State :=
  if s.shedLevel = old.shedLevel then s
  else
    let s := if old.shedLevel < s.shedLevel then s.bump Reg.HLT_CNT_SHED_ENTRY else s
    let s := (s.log 0x1508 2 (leBytes 1 s.shedLevel ++ leBytes 1 0 ++ leBytes 2 (half16 s.junction))).showShed
    old.noticeHealth s

/-- THERMAL_LEVEL_CHANGE (R453): a level is entered at its threshold, and left one at a time 3 °C below it. -/
def execThermalLevelChange (sensor : Nat) (temp : Int) (s : State) : Host.Outcome State Fault Refusal := answer <|
  let t := s.readTemp sensor temp
  let j := t.junction
  let want := if 1200 ≤ j then 2 else if 1150 ≤ j then 1 else 0
  let old := s.hlt.thermLevel
  let leave := decide (j < (if old = 2 then 1200 else 1150) - 30)
  let new := if old < want then want else if 0 < old && leave then old - 1 else old
  (s.levelChanged { t with hlt := { t.hlt with thermLevel := new } })

/-- OVERTEMP (R454): T_j at or above 125 °C for 10 ms. -/
def execOvertemp (sensor : Nat) (temp : Int) (s : State) : Host.Outcome State Fault Refusal := answer <|
  let s := s.readTemp sensor temp
  if s.junction < 1250 then s
  else
    let s := s.log 0x1509 3 (leBytes 1 sensor ++ leBytes 1 0 ++ leBytes 2 (half16 s.junction))
    (s.raiseError { grade := 4, source := s.sourceOf 0x15 0, code := 0x1509, cause := 4, channel := 0, addr := 0 })

/-- A measurement of the core current, in 10 mA. -/
def State.readCurrent (s : State) (i : Nat) : State := (s.setReg Reg.HLT_VCORE_I (satWord i)).maxReg Reg.HLT_VCORE_PEAK i

/-- CURRENT_LIMIT (R456): above 68 A for 1 ms, or above 72 A. -/
def execCurrentLimit (tenMa : Nat) (s : State) : Host.Outcome State Fault Refusal := answer <|
  let t := s.readCurrent tenMa
  if tenMa ≤ 6800 then t
  else
    let t := if s.hlt.currentLevel then t
      else s.levelChanged (({ t with hlt := { t.hlt with currentLevel := true } } : State).log 0x150B 2 (leBytes 4 tenMa))
    let t := if 7200 < tenMa then
        t.raiseError { grade := 4, source := t.sourceOf 0x15 0, code := 0x150B, cause := 5, channel := 0, addr := 0 }
      else t
    t

/-- CURRENT_LIMIT_CLEAR (R456): 1 s below 64 A. -/
def execCurrentLimitClear (tenMa : Nat) (s : State) : Host.Outcome State Fault Refusal := answer <|
  let t := s.readCurrent tenMa
  if tenMa < 6400 && s.hlt.currentLevel then (s.levelChanged { t with hlt := { t.hlt with currentLevel := false } }) else t

/-- DRAM_TEMP_CHECK (R457): a reading every 16 ms. -/
def execDramTempCheck (channel : Nat) (temp : Int) (s : State) : Host.Outcome State Fault Refusal := answer <|
  let now := s.elapsed
  let since := fun (l : List (Option Nat)) (c : Bool) => l.set channel (if c then some (((l[channel]?).bind id).getD now) else none)
  let passed := fun (l : List (Option Nat)) => match (l[channel]?).bind id with
    | some t => decide (t + 1000000000 ≤ now)
    | none => false
  let s := s.setField (Reg.MEM_CH_STATUS channel) 31 16 (half16 temp)
  let s := { s with hlt := { s.hlt with
    hotSince := since s.hlt.hotSince (decide (950 < temp)), coolSince := since s.hlt.coolSince (decide (temp < 820)) } }
  let hot := s.hlt.chanHot.getD channel false
  let set := fun (s : State) (b : Bool) =>
    ({ s with hlt := { s.hlt with chanHot := s.hlt.chanHot.set channel b } } : State).setFlag (Reg.MEM_CH_STATUS channel) 1 b
  let s := if 850 < temp && !hot then (set s true).log 0x1602 1 (leBytes 1 channel ++ leBytes 1 0 ++ leBytes 2 (half16 temp))
    else if hot && passed s.hlt.coolSince then set s false
    else s
  let s := if 950 < temp && passed s.hlt.hotSince && s.hlt.e4.isNone then
      s.raiseError { grade := 4, source := s.sourceOf 0x16 0, code := 0x16E2, cause := 6, channel := channel, addr := 0 }
    else s
  s.showHealth

/-- DRAM_LOCK_LOST (R41). -/
def execDramLockLost (s : State) : Host.Outcome State Fault Refusal := answer <|
  ((({ s with hlt := { s.hlt with dramLost := true } } : State).setFlag Reg.SYS_CLK_STATUS 2 false)).setFlag Reg.SYS_CLK_EVENTS 2 true

/-! ### Performance counters (R458 to R461) -/

/-- PMC_RUN (R458). -/
def execPmcRun (run : Bool) (s : State) : Host.Outcome State Fault Refusal := answer (s.setFlag Reg.PMC_CTRL 0 run)

/-- A counter's LO or HI register. -/
def pmcCounter (a : Nat) : Bool :=
  (decide (0x1408100 ≤ a) && decide (a < 0x1408300) || decide (0x1410000 ≤ a) && decide (a < 0x1414000)) && decide (8 ≤ a % 16)

/-- PMC_CLEAR (R458): every counter is 0. -/
def execPmcClear (s : State) : Host.Outcome State Fault Refusal := answer
  { s with regs := s.regs.filter (fun x => !pmcCounter x.1) }

/-- The 32 bytes of a sample record (Table 20-6). -/
def sampleBytes (gts : Nat) (r : SampleRec) : List Byte :=
  padTo 32 (leBytes 8 gts ++ leBytes 1 r.engine ++ leBytes 1 r.counter ++ leBytes 1 r.skid ++ leBytes 1 (r.cls % 4 + bit r.idle * 4)
    ++ leBytes 2 r.catalogue ++ leBytes 2 r.graph ++ leBytes 2 r.node)

/-- PMC_SAMPLE (R461): a record is written into the sample ring. -/
def execPmcSample (r : SampleRec) (s : State) : Host.Outcome State Fault Refusal := answer <|
  if s.flag Reg.PMC_SAMPLE_CTRL 0 then
    let i := s.pair Reg.PMC_SAMPLE_WRIDX_LO Reg.PMC_SAMPLE_WRIDX_HI
    let d := max 1 (s.reg Reg.PMC_SAMPLE_DEPTH).toNat
    let b := s.pair Reg.PMC_SAMPLE_BASE_LO Reg.PMC_SAMPLE_BASE_HI
    (s.writeDram (b + i % d * 32) (sampleBytes s.now r)).setPair Reg.PMC_SAMPLE_WRIDX_LO Reg.PMC_SAMPLE_WRIDX_HI (i + 1)
  else s

/-- Occupancy of a threshold counter's source (R460): the matching store, ready list or delay list of an engine's cluster, the Gleaner intake, or the DRAM request queue, which is open. -/
def State.occupancy (s : State) (c src lc : Nat) : Nat :=
  match src with
  | 0 => if lc = 0 then s.msLc0 c else (s.msUsed c).1 + (s.msUsed c).2 - s.msLc0 c
  | 1 => s.readyCount c lc
  | 2 => (s.delayUsed c).1 + (s.delayUsed c).2
  | 3 => s.aln.intake.length
  | 4 => Config.dramQueue s.tim.ticks
  | _ => 0

/-- Issue slots of an engine in n cycles, by event code 1 RETIRED, 2 WASTED, 3 FRONT_STARVED, 4 BACK_STARVED (R459): every slot of an idle engine is FRONT_STARVED, and how those of a running one divide is open. -/
def State.issued (s : State) (e n code : Nat) : Nat :=
  let w := Config.issueSlots s.tim.ticks e
  let all := 4 * n
  let r := if (s.engine e).running.isSome then min w.1 all else 0
  let d := if (s.engine e).running.isSome then min w.2.1 (all - r) else 0
  let b := if (s.engine e).running.isSome then min w.2.2 (all - r - d) else 0
  match code with
  | 1 => r
  | 2 => d
  | 3 => all - r - d - b
  | _ => b

/-- What a counter counts in n cycles of CLK_CORE beyond the events that commands bring (Table 20-5): cycles, slots, thresholds, busy units; memory traffic and stalls are open. -/
def State.pmcEvents (s : State) (n a code : Nat) : Nat :=
  let w := s.reg a
  let engine := decide (0x1410000 ≤ a)
  let e := (a - 0x1410000) / 0x100
  let open_ := Config.trafficEvents s.tim.ticks code a
  if code = 0x10 then
    let src := bitsOf w 18 16
    let ok := if engine then decide (src < 3) else decide (src < 5)
    if ok && (s.reg (a + 4)).toNat % 65536 < s.occupancy (if engine then clusterOf e else 0) src (bitsOf w 11 10) then n else 0
  else if engine then
    (if code = 0 then n
     else if code ≤ 4 then s.issued e n code
     else if 7 ≤ code && code ≤ 9 && (s.engine e).running.isSome then open_
     else if code = 0x0A && (s.engine e).running.isSome then min open_ n
     else 0)
  else if 0x20 ≤ code && code ≤ 0x22 then open_
  else if code = 0x25 then (if s.flag Reg.OSC_STATUS 8 then n / 2 else 0)
  else if code = 0x26 then (if s.top.building.isSome || (s.flag Reg.TOP_CTRL 1 && s.top.rows.any (fun r => !r.seDone)) then n / 2 else 0)
  else 0

/-- One counter over n cycles of CLK_CORE; with LC_FILTER an engine's counts only while it runs work of class LC (R458). -/
def State.pmcCycles (s : State) (n a : Nat) : State :=
  let w := s.reg a
  let engine := decide (0x1410000 ≤ a)
  let lcOn := !w.getLsbD 12 || !engine || (match (s.engine ((a - 0x1410000) / 0x100)).running with
    | some (id, _) => ((s.inst id).map (fun i => s.instLc i == bitsOf w 11 10)).getD false
    | none => false)
  let k := s.pmcEvents n a (bitsOf w 7 0)
  if !w.getLsbD 8 || !lcOn || k = 0 then s else s.pmcAdd a k

/-- The counters over a CLK_PORT tick, 4 cycles of CLK_CORE. -/
def State.pmcTick (s : State) : State :=
  if !s.flag Reg.PMC_CTRL 0 then s
  else
    let sels := (s.regs.map (fun (x : Nat × Word) => x.1)).filter (fun a =>
      (decide (0x1408100 ≤ a) && decide (a < 0x1408300) || decide (0x1410000 ≤ a) && decide (a < 0x1414000)) && a % 16 == 0)
    sels.foldl (fun (s : State) a => s.pmcCycles 4 a) s

end Sys2Proof.Machine
end

