-- ==== Sys2Proof/Machine/Regs.lean ====
section
/-!
DEFINITION. What a read of a BAR0 register returns and does (R3, R5, R39): register windows that show structures of the state, latched pairs, counters that a read clears.
No command of the table is a read of an ordinary register (log entry 4); the read is given as an operation.
-/
namespace Sys2Proof.Machine

/-! ### Windows on structures -/

/-- TYPE of a stream table entry (Table 03-1). -/
def streamCode : StreamType → Nat
  | .unused => 0
  | .c37 => 1
  | .sv92 => 2
  | .sv61869 => 3
  | .rsv => 4
  | .goose => 5
  | .rgoose => 6
  | .internal => 7

/-- STATE of a stream table entry (Table 03-1). -/
def stateCode : StreamState → Nat
  | .disabled => 0
  | .valid => 1
  | .invalid => 2
  | .rejected => 3

/-- Bytes 16 to 31 of an entry (Table 03-2); addresses stand in network order. -/
def keyBytes : MatchKey → List Byte
  | .c37 i d ip => leBytes 2 i.toNat ++ leBytes 2 d.toNat ++ (leBytes 12 ip.toNat).reverse
  | .sv a n c m => leBytes 2 a.toNat ++ leBytes 2 n.toNat ++ leBytes 4 c.toNat ++ (leBytes 6 m.toNat).reverse ++ leBytes 2 0
  | .goose a n c m => leBytes 2 a.toNat ++ leBytes 2 n.toNat ++ leBytes 4 c.toNat ++ (leBytes 6 m.toNat).reverse ++ leBytes 2 0
  | .internal o => padTo 16 (leBytes 2 o.toNat)

/-- The 256 bytes of a stream table entry (Table 03-1, Table 05-2). -/
def entryBytes (e : StreamEntry) : List Byte :=
  let c := e.cfg
  let a := e.stats
  let id := leBytes 1 (streamCode c.typ) ++ leBytes 1 (stateCode e.state) ++ leBytes 1 c.rg
    ++ leBytes 1 (c.ingestClass % 4 + bit c.authMark * 4 + bit c.cfg3 * 8) ++ leBytes 4 c.chanBase ++ leBytes 2 c.chanCount
    ++ leBytes 2 c.units ++ leBytes 4 c.mapBase ++ keyBytes c.key ++ leBytes 4 c.rate ++ leBytes 2 c.frameSize
    ++ leBytes 2 (c.fnomCode * 2 ^ 14 + c.cfgCnt % 2 ^ 14)
  let keys := leBytes 2 c.curSlot.toNat ++ leBytes 2 c.nextSlot.toNat ++ leBytes 4 c.curKeyId.toNat ++ leBytes 4 c.nextKeyId.toNat
  let last := leBytes 4 e.lastSpdu.toNat ++ leBytes 4 e.stNum.toNat ++ leBytes 4 e.sqNum.toNat ++ leBytes 4 e.tal.toNat
    ++ leBytes 8 (e.newest.getD 0) ++ leBytes 32 e.dup.toNat ++ leBytes 8 e.lastStamp
  let stats := leBytes 2 a.top1 ++ leBytes 2 a.top2 ++ leBytes 4 a.n ++ leBytes 2 a.q ++ leBytes 2 a.p ++ leBytes 2 a.last
    ++ leBytes 1 (bit a.learning) ++ leBytes 1 0 ++ leBytes 4 a.windows ++ leBytes 4 a.late
  padTo 96 (id ++ keys) ++ last ++ padTo 32 stats ++ padTo 64 ((e.cnts.map (fun w => leBytes 4 w.toNat)).flatten)

/-- Word k of a byte string. -/
def wordAt (l : List Byte) (k : Nat) : Word := Word.ofNat (natAt l (4 * k) 4)

/-- The entry that DEC_ST_INDEX selects: its words, and 0 where it is unused. -/
def State.streamView (s : State) (k : Nat) : Word :=
  match kvGet s.dec.streams (s.field Reg.DEC_ST_INDEX 13 0) with
  | some e => wordAt (entryBytes e) k
  | none => 0

/-- SEC_SLOT_ATTR to SEC_SLOT_PUBKEY of the slot that SEC_SLOT_INDEX selects (Table 17-10, Table 17-11). -/
def State.slotView (s : State) (a : Nat) : Word :=
  let n := s.field Reg.SEC_SLOT_INDEX 8 0
  let x := s.slot n
  if a = Reg.SEC_SLOT_ATTR then
    Word.ofNat (x.typ.code + x.masters.toNat * 2 ^ 3 + bit x.secure * 2 ^ 8 + x.lcMask.toNat * 2 ^ 9 + x.uses.toNat * 2 ^ 14
      + bit x.rederive * 2 ^ 20 + x.depth % 8 * 2 ^ 21 + bit (staleIn s.sec.slots 5 n) * 2 ^ 24)
  else if a = Reg.SEC_SLOT_GEN then Word.ofNat (x.gen.toNat + x.pgen.toNat * 2 ^ 16)
  else if a = Reg.SEC_SLOT_KEYID then x.keyId
  else if a = Reg.SEC_SLOT_PARENT then x.parent.setWidth 32
  else wordAt (padTo 100 x.pubKey) ((a - Reg.SEC_SLOT_PUBKEY 0) / 4)

/-- Registers of the backup domain (Table 18-4, Table 18-5) outside its read group. -/
def State.bkdView (s : State) (a : Nat) : Word :=
  let b := s.bkd
  match a % 0x100000 with
  | 0x04 => Word.ofNat (bit b.rtcValid + 2 * bit b.onVbat + 4 * bit b.vbatLow + 8 * bit b.alarmPast + 16 * bit b.freezeTo)
  | 0x08 => Word.ofNat b.count.toNat
  | 0x0C => Word.ofNat (((b.hostFreeze.map (fun f => f.count)).getD b.count).toNat / 2 ^ 32)
  | 0x10 => (b.hostFreeze.map (fun f => f.prescale)).getD b.prescale
  | 0x14 => Word.ofNat ((b.hostFreeze.map (fun f => f.weekday)).getD b.weekday).toNat
  | 0x18 => Word.ofNat b.alarm.toNat
  | 0x1C => Word.ofNat (b.alarm.toNat / 2 ^ 32)
  | 0x20 => Word.ofNat (bit b.armed + 2 * bit b.fired + 4 * bit b.skipped)
  | 0x24 => Word.ofNat b.alarmAt.toNat
  | 0x28 => Word.ofNat (b.alarmAt.toNat / 2 ^ 32)
  | 0x2C => Word.ofNat (bit b.sqwEn + b.sqwDiv.toNat * 16)
  | 0x30 => Word.ofNat (bit b.wakeAlarm + 2 * bit b.wakeIn + 4 * bit b.wakeTamper + 8 * bit b.wakePol + 65536 * bit b.latch)
  | 0x34 => b.tampCtrl
  | 0x38 => b.tampState.setWidth 32
  | 0x3C => b.tampCause.setWidth 32
  | 0x40 => Word.ofNat b.tampTick.toNat
  | 0x44 => Word.ofNat (b.tampTick.toNat / 2 ^ 32)
  | 0x48 => b.tampers.setWidth 32
  | _ => s.reg a

/-- Life-cycle registers of the SEC block (Table 17-10); the keys read 0 in BLANK, and the state key in DECOMMISSIONED, where it is not
derived (R394). -/
def State.secView (s : State) (a : Nat) : Word :=
  if a = Reg.SEC_LC_STATE then Word.ofNat s.sec.lc
  else if a = Reg.SEC_RETURNS then Word.ofNat s.sec.returns
  else if a = Reg.SEC_UPD_COUNTER_LO then Word.ofNat s.sec.counter.toNat
  else if a = Reg.SEC_UPD_COUNTER_HI then Word.ofNat (s.sec.counter.toNat / 2 ^ 32)
  else if a = Reg.SEC_SLOTS_USED then Word.ofNat (s.sec.slots.filter (fun x => x.2.typ != .empty)).length
  else if Reg.SEC_STATE_PK 0 ≤ a ∧ a < Reg.SEC_STATE_PK 25 then
    if s.sec.lc = 0 || s.sec.lc = 4 then 0 else wordAt (padTo 100 (Config.ecdsaPublic s.statePriv)) ((a - Reg.SEC_STATE_PK 0) / 4)
  else if Reg.SEC_OWNER_HASH 0 ≤ a ∧ a < Reg.SEC_OWNER_HASH 12 then
    if s.sec.lc = 0 then 0 else wordAt (padTo 48 s.sec.ownerHash) ((a - Reg.SEC_OWNER_HASH 0) / 4)
  else s.reg a

/-- Security version of an image; 0 for none and for CFG. -/
def imageSecVer : SlotImage → Nat
  | .fw i => i.secVer
  | _ => 0

/-- STATE of FWU_C_STATUS (Table 19-8). -/
def compStateCode : CompState → Nat
  | .none => 0
  | .staging => 1
  | .staged => 2
  | .trial => 3

/-- FWU_C_STATUS to FWU_C_TRIAL_LEFT of component c (Tables 19-7, 19-8). -/
def State.fwuView (s : State) (c k : Nat) : Word :=
  let r := s.comp c
  match k with
  | 0 => Word.ofNat (bit r.slotB + compStateCode r.state * 2 + bit (s.verifyImage c r.other == 0) * 2 ^ 4 + r.lastFallback * 2 ^ 8)
  | 1 => imageVersion r.active
  | 2 => if s.verifyImage c r.other = 0 then imageVersion r.other else 0
  | 3 => if c = 4 then 0 else Word.ofNat (r.fuses + imageSecVer r.active * 2 ^ 8 + imageSecVer r.other * 2 ^ 16)
  | _ => match r.state, r.deadline with
    | .trial, some d => Word.ofNat ((d - s.elapsed) / 1000000000)
    | _, _ => 0

/-- HGW_ROUTE with the present age of the selected device's last link-state message (Table 15-5). -/
def State.routeView (s : State) : Word :=
  match kvGet s.hgw.devices (s.field Reg.HGW_ROUTE_INDEX 8 0) with
  | some x =>
    if s.field Reg.HGW_ROUTE_INDEX 8 0 = s.ownId then s.reg Reg.HGW_ROUTE
    else (s.reg Reg.HGW_ROUTE &&& 0xFF00FFFF#32) ||| Word.ofNat (satNat 8 ((s.elapsed - x.lastMsg) / 1000000) * 65536)
  | none => s.reg Reg.HGW_ROUTE

/-- What a BAR0 register shows. -/
def State.view (s : State) (a : Nat) : Word :=
  if Reg.DEC_ST_WINDOW 0 ≤ a ∧ a < Reg.DEC_ST_WINDOW 64 then s.streamView ((a - Reg.DEC_ST_WINDOW 0) / 4)
  else if a = Reg.DEC_ST_STATE then s.streamView 0 >>> 8 &&& 3
  else if a = Reg.DEC_ST_KEYS then s.streamView 10
  else if a = Reg.DEC_ST_KEYID_CUR then s.streamView 11
  else if a = Reg.DEC_ST_KEYID_NEXT then s.streamView 12
  else if Reg.SEC_SLOT_ATTR ≤ a ∧ a < Reg.SEC_SLOT_PUBKEY 25 ∧ a ≠ Reg.SEC_REDERIVE then s.slotView a
  else if a = Reg.HGW_ROUTE then s.routeView
  else if a = Reg.MEM_STATUS then s.reg a ||| (Config.freeWord s.free &&& 4)
  else if a / 0x100000 = 17 then s.secView a
  else if a / 0x100000 = 18 then s.bkdView a
  else if Reg.FWU_C_STATUS 0 ≤ a ∧ a < Reg.FWU_C_STATUS 5 then s.fwuView ((a - Reg.FWU_C_STATUS 0) / 32) (a % 32 / 4)
  else if Reg.HIF_Q_COUNT 0 ≤ a ∧ a < Reg.HIF_Q_COUNT 128 ∧ a % 32 = 4 then s.qCountReg ((a - Reg.HIF_Q_COUNT 0) / 32)
  else s.reg a

/-- A 32-bit read of a BAR0 register without a row of its own: a reserved offset returns 0, RC clears, _LO latches _HI and _HI returns what was latched (R3, R5, R39). -/
def State.readReg (s : State) (a : Nat) : Word × State :=
  match regDesc a with
  | none => (0, s)
  | some d =>
    if d.rc then (s.reg a, s.setReg a 0)
    else if (List.range 8).any (fun c => Reg.DFS_CL_DELAY c == a) then (s.reg a, s.setField a 25 16 (s.field a 9 0))
    else if a = Reg.HLT_STACK then (s.reg a, s.setField a 20 16 0)
    else match d.pair with
      | .lo => (s.view a, { s with hiLatch := kvPut s.hiLatch (a + 4) (s.view (a + 4)) })
      | .hi => ((kvGet s.hiLatch a).getD (s.view a), s)
      | .none => (s.view a, s)

end Sys2Proof.Machine
end

