-- ==== Sys2Proof/Machine/RegWrite.lean ====
section
/-!
DEFINITION. REGISTER_WRITE (R3, R6 to R9, R39): a 32-bit write to BAR0 and what each block makes of it.  A register whose write is a command of its own takes that command's effect.
-/
namespace Sys2Proof.Machine

/-! ### The write of one register (R3, R6 to R9) -/

/-- A locked write is counted and logged with the code 0xnnF0 of the block (R9). -/
def State.lockedWrite (s : State) (a : Nat) (v : Word) : State :=
  (s.bump Reg.SYS_CNT_LOCKED_WR).log ((a / 0x100000 + 1) * 256 + 0xF0) 1 (leBytes 4 a ++ leBytes 4 v.toNat)

/-- A write to a register with the fields of its descriptor: LOCKED, LIVE, W1C and STAGED fields each under their own rule. -/
def State.writeFields (s : State) (d : RegDesc) (a : Nat) (raw : Word) : State :=
  let live := d.live ||| (if s.committed then 0 else d.locked)
  let v := ranged (a / 0x100000 * 0x100000 + d.off) (s.staged a) raw
  let kept := s.reg a
  let t := if s.committed && (raw ^^^ kept) &&& d.locked != 0 then s.lockedWrite a raw else s
  let t := if live = 0 && d.w1c = 0 then t else t.setReg a (((kept &&& ~~~live) ||| (v &&& live)) &&& ~~~(raw &&& d.w1c))
  if d.staged = 0 then t else t.stageReg a (v &&& d.staged)

/-- A write of _HI: the 64-bit value takes effect, with the _LO held or in effect (R3); a pair of LOCKED registers is judged whole (R9). -/
def State.writeHigh (s : State) (d : RegDesc) (a : Nat) (v : Word) : State :=
  let lo := (kvGet s.loHold (a - 4)).getD (s.reg (a - 4))
  let t := { s with loHold := kvDel s.loHold (a - 4) }
  let set := fun (t : State) (m : Word) => (t.setReg (a - 4) lo).setReg a (v &&& m)
  if d.live != 0 then set t d.live
  else if d.locked = 0 then s
  else if !s.committed then set t d.locked
  else if lo != s.reg (a - 4) || (v ^^^ s.reg a) &&& d.locked != 0 then t.lockedWrite a v
  else t

/-- A write to a register as its access codes say; a reserved offset ignores it (R4, R39). -/
def State.plainWrite (s : State) (a : Nat) (v : Word) : State :=
  match regDesc a with
  | none => s
  | some d => match d.pair with
    | .none => s.writeFields d a v
    | .lo => if d.live = 0 && d.locked = 0 then s else { s with loHold := kvPut s.loHold a v }
    | .hi => s.writeHigh d a v

/-! ### Blocks -/

/-- Which of n registers of an array an offset is. -/
def indexOf (f : Nat → Nat) (n a : Nat) : Option Nat := (List.range n).find? (fun i => f i == a)

/-- A write to a ring's registers: CTRL as R56 states, the base only while the ring is off. -/
def State.writeRingReg (s : State) (ctrl a : Nat) (v : Word) : State :=
  if a = ctrl then s.writeRing ctrl (ctrl + 0x10) v
  else if (a = ctrl + 4 || a = ctrl + 8) && s.flag ctrl 0 then s
  else s.plainWrite a v

/-- A write in the SPT block. -/
def State.writeSpt (s : State) (a : Nat) (v : Word) : Host.Outcome State Fault Refusal :=
  let p := (a - 0x100000) / 0x10000
  let o := a % 0x10000
  if a = Reg.SPT_COMMIT then execSptCommit v s
  else if 6 ≤ p then answer (s.plainWrite a v)
  else if a = Reg.SPT_MAXLEN p then execMaxlenWrite p v s
  else if a = Reg.SPT_TXTS_STAT p then (if v.getLsbD 8 then execTxtsStatClear p s else answer s)
  else if 0x1000 ≤ o ∧ o < 0x1A00 then answer (s.writeRingReg (a / 0x40 * 0x40) a v)
  else answer (s.plainWrite a v)

/-- Stages one key field of the stream that DEC_ST_INDEX selects (R83). -/
def State.stageKeys (s : State) (f : KeyShadow → KeyShadow) : State :=
  match kvGet s.dec.streams s.selStream with
  | some _ => { s with dec := { s.dec with keys := kvPut s.dec.keys s.selStream (f ((kvGet s.dec.keys s.selStream).getD {})) } }
  | none => s

/-- A write in the DEC block.  A decimation that does not divide the group's rate leaves the field as it is, as one outside 1 to 240 does (DESIGN CHOICE, log entry 33). -/
def State.writeDec (s : State) (a : Nat) (v : Word) : Host.Outcome State Fault Refusal :=
  if a = Reg.DEC_COMMIT then (if v.getLsbD 0 then execDecCommit s else answer s)
  else if a = Reg.DEC_ST_STATE then
    (match bitsOf v 1 0 with
      | 0 => execStDisable s
      | 1 => execStEnable s
      | _ => answer s)
  else if a = Reg.DEC_ST_REPARSE then (if v.getLsbD 0 then execStReparse s else answer s)
  else if a = Reg.DEC_ST_KEYS then answer (s.stageKeys (fun k =>
    { k with
      curSlot := if slotOk (bitsOf v 15 0) then some (v.setWidth 16) else k.curSlot
      nextSlot := if slotOk (bitsOf v 31 16) then some (BitVec.ofNat 16 (bitsOf v 31 16)) else k.nextSlot }))
  else if a = Reg.DEC_ST_KEYID_CUR then answer (s.stageKeys (fun k => { k with curKeyId := some v }))
  else if a = Reg.DEC_ST_KEYID_NEXT then answer (s.stageKeys (fun k => { k with nextKeyId := some v }))
  else answer (s.plainWrite a (if s.decimFits a v then v else withBits v 15 8 (bitsOf (s.staged a) 15 8)))

/-- The TIM registers whose writes chapter 04 rules. -/
def timOwn : List Nat :=
  [Reg.TIM_INC_LO, Reg.TIM_ADJ_LO, Reg.TIM_HOST_ERR, Reg.TIM_LOCK_THRESH, Reg.TIM_STEP_THRESH, Reg.TIM_HOLD_DRIFT, Reg.TIM_HOLD_LIMIT,
   Reg.TIM_TAI_UTC, Reg.TIM_LEAP, Reg.TIM_PPS_OUT]

/-- A write of TIM_CTRL or TIM_PTP_CTRL: one outside the table's ranges is ignored with event 0x040A cause 3, and mode HOST stops the servo (R96, R112). -/
def State.writeTimCtrl (s : State) (a : Nat) (v : Word) : State :=
  if !s.committed && !(if a = Reg.TIM_CTRL then timCtrlOk v else ptpCtrlOk v) then s.refuseTim a 3 else (s.plainWrite a v).stopServo

/-- A write in the TIM block. -/
def State.writeTimBlock (s : State) (a : Nat) (v : Word) : Host.Outcome State Fault Refusal :=
  if a = Reg.TIM_INC_HI then execIncWrite v s
  else if a = Reg.TIM_ADJ_HI then execTimeStep v s
  else if a = Reg.TIM_HOST_SYNC then execHostSyncWrite v s
  else if timOwn.contains a then answer (s.writeTim a v)
  else if a = Reg.TIM_CTRL || a = Reg.TIM_PTP_CTRL then answer (s.writeTimCtrl a v)
  else answer (s.plainWrite a v)

/-- A write in the ALN, WAV or MTR block. -/
def State.writeAlnWavMtr (s : State) (a : Nat) (v : Word) : Host.Outcome State Fault Refusal :=
  if a = Reg.ALN_COMMIT then execAlnCommit v s
  else if a = Reg.ALN_CH_INDEX then answer (s.plainWrite a v).showChannel
  else if a = Reg.WAV_COMMIT then execWavCommit v s
  else if a = Reg.WAV_SYNC then execSyncArm v s
  else if a = Reg.MTR_COMMIT_LO then execMtrCommit false v s
  else if a = Reg.MTR_COMMIT_HI then execMtrCommit true v s
  else if a = Reg.MTR_SAVE then (if v.getLsbD 0 then execMeterSaveNow s else answer s)
  else if a = Reg.MTR_SNAP && v.getLsbD 8 then execMeterSnapshot v s
  else answer (s.plainWrite a v)

/-- Stages settings of the monitor that OSC_MON_INDEX selects (R213). -/
def State.stageMonitor (s : State) (f : MonitorRec → MonitorRec) : State :=
  s.modMonitor (s.field Reg.OSC_MON_INDEX 13 0) (fun x => { x with stage := some (f (x.stage.getD x.cfg)) })

/-- OSC_MON_CFG before the configuration commit: the selected monitor takes the fields, or is taken away where EN is 0 (R5). -/
def State.setMonitor (s : State) (v : Word) : State :=
  let i := s.field Reg.OSC_MON_INDEX 13 0
  let old : MonitorState := (s.monitor i).getD
    { cfg := { id := i, chan := 0, ref := 0, sel := 0, bands := [], tSus := 30, outBase := 0, tAvg := 10000, zetaF := 10, edges := [] }
      bands := List.replicate 6 {} }
  let cfg : MonitorRec := { old.cfg with
    chan := bitsOf v 17 0, sel := bitsOf v 19 18, bands := (List.range 6).map (fun b => v.getLsbD (24 + b)) }
  let put := if v.getLsbD 31 then kvPut s.osc.monitors i { old with cfg := cfg } else kvDel s.osc.monitors i
  { s with osc := { s.osc with monitors := put } }.showMonitor

/-- A write in the OSC block. -/
def State.writeOsc (s : State) (a : Nat) (v : Word) : Host.Outcome State Fault Refusal :=
  if a = Reg.OSC_COMMIT then execOscCommit v s
  else if a = Reg.OSC_MON_INDEX then answer (s.plainWrite a v).showMonitor
  else if a = Reg.OSC_MON_CFG && !s.committed then answer (s.setMonitor v)
  else if a = Reg.OSC_MON_PARAM then answer (s.stageMonitor (monParam v))
  else if Reg.OSC_BAND_FLO 0 ≤ a ∧ a < Reg.OSC_BAND_FLO 6 ∧ (a - Reg.OSC_BAND_FLO 0) % 16 < 12 then
    answer (s.stageMonitor (monBand ((a - Reg.OSC_BAND_FLO 0) / 16) ((a - Reg.OSC_BAND_FLO 0) % 16 / 4) v))
  else answer (s.plainWrite a v)

/-- A write in the TOP or DFS block. -/
def State.writeTopDfs (s : State) (a : Nat) (v : Word) : Host.Outcome State Fault Refusal :=
  if a = Reg.TOP_COMMIT then (if v.getLsbD 0 then execTopCommit s else answer s)
  else if a = Reg.TOP_SW_INDEX then answer (s.plainWrite a v).showSwitch
  else if a = Reg.TOP_SW_OVERRIDE then execSwOverride v s
  else if a = Reg.DFS_COMMIT then (if v.getLsbD 0 then execDfsCommit s else answer s)
  else if a = Reg.DFS_PLACE_INDEX then answer (s.plainWrite a v).showPlace
  else if a = Reg.DFS_GRAPH_CTRL then
    (if v.getLsbD 16 then execGraphHalt (bitsOf v 11 0) s
     else if v.getLsbD 17 then execGraphResume (bitsOf v 11 0) s
     else answer (s.plainWrite a v))
  else answer (s.plainWrite a v)

/-- A parameter word is staged for the task of its instance (R282). -/
def State.stageParam (s : State) (v : Word) : State :=
  let i := s.field Reg.CYC_PARAM_INST 12 0
  match s.cyc.run.bind (fun a => a.prog.insts[i]?) with
  | some x =>
    let w : Nat × Nat × Nat × Word := (x.task, i, s.field Reg.CYC_PARAM_OFF 15 0, v)
    { s with cyc := { s.cyc with parStage := s.cyc.parStage.filter (fun y => !(y.2.1 == w.2.1 && y.2.2.1 == w.2.2.1)) ++ [w] } }
  | none => s

/-- The RWL fields of ALM_DEF before the configuration commit: the definition of the selected alarm takes them (R5). -/
def State.setDef (s : State) (v : Word) : State :=
  let i := s.field Reg.ALM_INDEX 11 0
  let old : AlarmState := (s.alarm i).getD
    { cfg := { id := i, sev := 0, latch := false, ackReq := false, record := false, queue := false, pins := 0, pub := none } }
  let cfg : AlarmRec := { old.cfg with
    record := v.getLsbD 4, queue := v.getLsbD 5, pins := BitVec.ofNat 8 (bitsOf v 15 8)
    pub := if v.getLsbD 31 then some (bitsOf v 29 24, bitsOf v 21 16) else none }
  { s with alm := { s.alm with alarms := kvPut s.alm.alarms i { old with cfg := cfg } } }.showAlarm

/-- A write of ALM_DEF: its LOCKED fields until the commit, and under R9 after it; its STAGED fields into the shadow of the alarm that ALM_INDEX selects (R304). -/
def State.writeDef (s : State) (v : Word) : State :=
  let t := if !s.committed then s.setDef v
    else if (v ^^^ s.reg Reg.ALM_DEF) &&& 0xBF3FFF30 != 0 then s.lockedWrite Reg.ALM_DEF v else s
  t.modAlarm (s.field Reg.ALM_INDEX 11 0) (fun x =>
    { x with stage := some { x.cfg with sev := bitsOf v 1 0, latch := v.getLsbD 2, ackReq := v.getLsbD 3 } })

/-- A write in the CYC, ALM or EVR block. -/
def State.writeCycAlmEvr (s : State) (a : Nat) (v : Word) : Host.Outcome State Fault Refusal :=
  if a = Reg.CYC_COMMIT then execCycCommit v s
  else if a = Reg.CYC_PARAM_VAL then answer (s.stageParam v)
  else if a = Reg.CYC_PARAM_INST || a = Reg.CYC_PARAM_OFF then answer (s.plainWrite a v).showParam
  else if a = Reg.CYC_IMG_SEL then answer (s.plainWrite a v).showImage
  else if a = Reg.ALM_COMMIT then (if v.getLsbD 0 then execAlmCommit s else answer s)
  else if a = Reg.ALM_ACK then execAlmAck v s
  else if a = Reg.ALM_ACK_ALL then execAlmAckAll v s
  else if a = Reg.ALM_INDEX then answer (s.plainWrite a v).showAlarm
  else if a = Reg.ALM_DEF then answer (s.writeDef v)
  else if a = Reg.EVR_RD_SEQ then execEvrRdSeq v s
  else answer (s.plainWrite a v)

/-- A write in the CAP block; CAP_R_CMD takes ARM before DISARM before FORCE. -/
def State.writeCap (s : State) (a : Nat) (v : Word) : Host.Outcome State Fault Refusal :=
  let r := (a - Reg.CAP_R_CTRL 0) / 0x200
  let m := (a - Reg.CAP_R_MARK_LO r 0) / 0x10
  if a = Reg.CAP_COMMIT then execCapCommit v s
  else if a < Reg.CAP_R_CTRL 0 || 16 ≤ r then answer (s.plainWrite a v)
  else if a = Reg.CAP_R_CMD r then
    (if v.getLsbD 0 then execCapRArm r s
     else if v.getLsbD 1 then execCapRDisarm r s
     else if v.getLsbD 2 then execCapRForce r s
     else answer s)
  else if a = Reg.CAP_R_RELEASE r then execCapRRelease r v s
  else if m < 4 && a = Reg.CAP_R_MARK_HI r m then execCapRMarkSet r m v s
  else answer (s.plainWrite a v)

/-- A write in the HIF block: HIF_Q_IRQ with THRESH 0 is ignored whole, and a lower THRESH may raise the interrupt (R341). -/
def State.writeHif (s : State) (a : Nat) (v : Word) : State :=
  match indexOf Reg.HIF_Q_IRQ 128 a with
  | some q => if bitsOf v 7 0 = 0 then s else (s.plainWrite a v).qIrq q
  | none => s.plainWrite a v

/-- With HGW_LP_CTRL.EN clear every link stays at step 0 (R368). -/
def State.fullSpeed (s : State) : State :=
  if s.flag Reg.HGW_LP_CTRL 0 then s
  else ((List.range 6).filter (fun l => s.linkUp l)).foldl (fun (s : State) l => s.setStep l 0) s

/-- A write in the HGW or TWN block. -/
def State.writeHgwTwn (s : State) (a : Nat) (v : Word) : Host.Outcome State Fault Refusal :=
  if a = Reg.HGW_COMMIT then (if v.getLsbD 0 then execHgwCommit s else answer s)
  else if a = Reg.HGW_ROUTE_INDEX then answer (s.plainWrite a v).showRoute
  else if a = Reg.HGW_LP_CTRL then answer (s.plainWrite a v).fullSpeed
  else answer (s.plainWrite a v)

/-- A write in the BKD block crosses into the domain (R408); its LOCKED registers stay as they are after the commit (R9). -/
def State.writeBkd (s : State) (a : Nat) (v : Word) : State :=
  let ask : State := { s with bkd := { s.bkd with writes := s.bkd.writes ++ [(a % 0x100000, v)] } }
  let fixed := fun (old m : Word) => if s.committed then (if (v ^^^ old) &&& m != 0 then s.lockedWrite a v else s) else ask
  if a = Reg.BKD_CTRL then fixed (s.reg a) 3
  else if a = Reg.BKD_TAMP_CTRL then fixed s.bkd.tampCtrl 0x77777
  else if (regDesc a).isSome then ask
  else s

/-- The sample ring would reach into the error area (R451). -/
def inErrorArea (base depth : Nat) : Bool := decide (errorArea < base + 32 * depth) && decide (base < errorArea + 65536)

/-- A write in the HLT block: PMC fields other than PMC_CTRL only while RUN is 0, and the sample ring not into the error area (R451, R458, R462). -/
def State.writeHlt (s : State) (a : Nat) (v : Word) : Host.Outcome State Fault Refusal :=
  if a = Reg.PMC_CTRL then
    (if v.getLsbD 1 then
      (match execPmcClear s with
        | .next t => execPmcRun (v.getLsbD 0) t
        | o => o)
     else execPmcRun (v.getLsbD 0) s)
  else if Reg.PMC_CTRL ≤ a && s.flag Reg.PMC_CTRL 0 then answer s
  else if a = Reg.PMC_SAMPLE_BASE_HI
      && inErrorArea (v.toNat * 2 ^ 32 + ((kvGet s.loHold Reg.PMC_SAMPLE_BASE_LO).getD (s.reg Reg.PMC_SAMPLE_BASE_LO)).toNat)
        (s.reg Reg.PMC_SAMPLE_DEPTH).toNat then
    answer { s with loHold := kvDel s.loHold Reg.PMC_SAMPLE_BASE_LO }
  else if a = Reg.HLT_TEMP_INDEX then answer (s.plainWrite a v).showTemp
  else answer (s.plainWrite a v)

/-- REGISTER_WRITE: a 32-bit write to BAR0; one that is not aligned is discarded and counted (R330). -/
def execRegisterWrite (offset : Nat) (value : Word) (s : State) : Host.Outcome State Fault Refusal :=
  if offset % 4 ≠ 0 then answer (s.bump Reg.HIF_CNT_BAD_ACCESS)
  else match offset / 0x100000 with
    | 1 => s.writeSpt offset value
    | 2 => s.writeDec offset value
    | 3 => s.writeTimBlock offset value
    | 4 => s.writeAlnWavMtr offset value
    | 5 => s.writeAlnWavMtr offset value
    | 6 => s.writeAlnWavMtr offset value
    | 7 => s.writeOsc offset value
    | 8 => s.writeTopDfs offset value
    | 9 => s.writeTopDfs offset value
    | 10 => s.writeCycAlmEvr offset value
    | 11 => s.writeCycAlmEvr offset value
    | 12 => s.writeCycAlmEvr offset value
    | 13 => s.writeCap offset value
    | 14 => answer (s.writeHif offset value)
    | 15 => s.writeHgwTwn offset value
    | 17 => if offset = Reg.SEC_REDERIVE then execSecRederive .host value s else answer (s.plainWrite offset value)
    | 18 => answer (s.writeBkd offset value)
    | 19 => if offset = Reg.BOOT_RESET then execBootReset value s else answer (s.plainWrite offset value)
    | 20 => s.writeHlt offset value
    | _ => answer (s.plainWrite offset value)

end Sys2Proof.Machine
end

