-- ==== Sys2Proof/Machine/Rows.lean ====
section
/-!
DEFINITION. The row's life at its boundaries (05_alignment.md): ROW_BOUNDARY, SECOND_BOUNDARY, ROW_RETIRE and GLEANER_WRITE, with what every block does there.
-/
namespace Sys2Proof.Machine

/-- STAGED settings of ALN, WAV, OSC, TOP and DEC take effect together at a group's row boundary (R7, R142, R167, R213, R236). -/
def State.commitAtRow (s : State) (g t : Nat) : State :=
  (((((s.commitAln g).commitWav g t).commitOsc g).commitTop g).commitDec g).applyPends g

/-- Per-tag work of a row whose tag Device Time has reached: flags, sections without members, GOOSE states, switch positions (R15, R85, R120, R218). -/
def State.atTag (s : State) (g : Nat) (p : Nat × Nat) : State :=
  let tag := gridTag (s.rate g) p.1 p.2
  (((s.reachTag g tag).gooseTag g p).topSlots g tag)

/-- ROW_BOUNDARY: Device Time reaches a grid tag of a running group, at which the next row's furrow opens (R115, R142). -/
def execRowBoundary (rg : Nat) (s : State) : Host.Outcome State Fault Refusal := answer <|
  match s.group rg with
  | some x =>
    if opensAt x (s.rate rg) ≤ s.now then
      let p := gridPrev (s.rate rg) (x.nextS, x.nextK)
      ((((s.commitAtRow rg (opensAt x (s.rate rg))).atTag rg p).openRow rg).oscDue).updateDests
    else s
  | none => s

/-- SECOND_BOUNDARY: Device Time reaches a second boundary not yet evaluated (R101, R127, R128, R161). -/
def execSecondBoundary (s : State) : Host.Outcome State Fault Refusal := answer <|
  if s.tim.lastSec < s.second then
    ((s.timeSecond.adaptSecond).waveSecond)
  else s

/-- `SECTION_DEADLINE`: Device Time reaches T + d with the section open (R120). -/
def execSectionDeadline (rg tag sec : Nat) (s : State) : Host.Outcome State Fault Refusal := answer (s.deadlineDue rg tag sec).oscDue

/-- ROW_RETIRE: a group's oldest row reaches T + Hg; its final form goes to those that read it whole, and to history (R117, R309, R382). -/
def execRowRetire (rg : Nat) (s : State) : Host.Outcome State Fault Refusal := answer <|
  match (s.group rg).bind (fun x => x.furrows.head?) with
  | some f =>
    if f.tag + f.hg ≤ s.now then
      let s := ((s.fillRow rg).oscDue).meterTemp rg f.tag
      let h := (s.furrow rg f.tag).getD f
      ((((s.digestRow rg h).captureRow rg h).keepLatest h rg).retireRow rg)
    else s
  | none => s

/-- The Gleaner's subscribers are told of a revision of a row in the ring (R136). -/
def State.tellRevision (s : State) (v : Revision) : State :=
  let lost := s.aln.noticeLost
  ((s.hostNotice v).oscNotice v lost).captureRevision v.entry.rg v.entry.tag

/-- GLEANER_WRITE: the head of the Gleaner intake is written (R134, R135). -/
def execGleanerWrite (s : State) : Host.Outcome State Fault Refusal := answer <|
  let (s, r) := s.oscDue.gleanHead
  match r with
  | some v => s.tellRevision v
  | none => s

end Sys2Proof.Machine
end

