-- ==== Sys2Proof/Machine/System.lean ====
section
/-!
DEFINITION. Clock losses (R35, R41) and Low Power Idle of the ports (R61 to R63).
-/
namespace Sys2Proof.Machine

/-! ### Clock losses -/

/-- A lock or presence bit of SYS_CLK_STATUS falls, and its event bit sets (R41). -/
def State.clockFell (s : State) (k : Nat) : State := (s.setFlag Reg.SYS_CLK_STATUS k false).setFlag Reg.SYS_CLK_EVENTS k true

/-- CLK_REF_LOST: the root PLL loses REFCLK for a time in ns; beyond 10 µs of a running device it is an E4 (R35). -/
def execClkRefLost (durationNs : Nat) (s : State) : Host.Outcome State Fault Refusal := answer <|
  if !s.flag Reg.SYS_CLK_STATUS 0 then s
  else if durationNs ≤ 10000 then (s.clockFell 0).setFlag Reg.SYS_CLK_STATUS 0 true
  else ((s.clockFell 0).log 0x0101 3 (leBytes 4 (satNat 32 durationNs))).blockError 4 0x01 0x0101

/-- The port or link of a Table 01-10 number goes down with its PLL (R35). -/
def State.pllDown (s : State) (n : Nat) : State :=
  let s := s.log 0x0102 2 (leBytes 1 n)
  if n < 6 then (if s.flag (Reg.SPT_PORT_STATUS n) 0 then s.portDown n 2 else s)
  else if 8 ≤ n && n < 14 then (if s.linkUp (n - 8) then s.hgwDown (n - 8) 1 else s)
  else
    let up := s.flag Reg.TWN_STATUS 9
    { s with twn := { s.twn with t0Lost := up } }.setFlag Reg.TWN_STATUS 9 false

/-- CLK_SERDES_LOST: a SerDes PLL loses lock, which takes down only what runs on it (R35). -/
def execClkSerdesLost (links : List Nat) (s : State) : Host.Outcome State Fault Refusal := answer <|
  let s := s.clockFell 1
  let s := { s with hlt := { s.hlt with pllLost := (s.hlt.pllLost ++ links).eraseDups } }
  links.foldl (fun (s : State) n => s.pllDown n) s

/-- CLK_PCIE_REF_LOST: the host link goes down; measurement goes on (R35). -/
def execClkPcieRefLost (s : State) : Host.Outcome State Fault Refusal := answer <|
  ((s.clockFell 3).log 0x0103 1 []).hostLinkLost

/-! ### LC0 windows and scheduled LC0 transmissions (R62) -/

/-- A destination sends on a port. -/
def State.onPort (s : State) (d : TxDest) (p : Nat) : Bool :=
  match d with
  | .port n => n == p || (s.paired n && s.paired p && n / 2 == p / 2)
  | .pair q => p / 2 == q && decide (p < 4)

/-- A graph's trigger comes from a row of a group: one of its sections, or a derived channel of it. -/
def State.rowTrigger (s : State) (g : Nat) (c : GraphRec) : Bool :=
  match c.trigger with
  | .section_ rg _ => rg == g
  | .derived ch => ((kvGet s.aln.chans ch).map (fun r => r.rg)) == some g
  | _ => false

/-- A row of a group may change an element of an alarm publication: an LC0 graph that it triggers raises an alarm which names the publication. -/
def State.rowRaises (s : State) (g p : Nat) : Bool :=
  s.dfs.graphs.any (fun x => x.2.cfg.lc == 0 && s.rowTrigger g x.2.cfg && x.2.cfg.nodes.any (fun n => match n.op with
    | .almRaise a => ((s.alarm a).bind (fun y => y.cfg.pub)).map (fun y => y.1) == some p
    | _ => false))

/-- A row of a group can produce an LC0 publication on a port: an alarm publication, an output stream or an R-SV publication of class 0. -/
def State.lc0Rows (s : State) (p g : Nat) : Bool :=
  (List.range (s.sectionCount g)).any (fun sec => s.secLc g sec == 0) &&
    (s.alm.pubs.any (fun x => x.cfg.lc == 0 && s.onPort x.cfg.dest p && s.rowRaises g x.cfg.id)
      || s.dec.outs.any (fun x => x.cfg.rg == g && x.on && s.field (Reg.DEC_OUT_CTRL x.cfg.id) 5 4 == 0 && s.onPort x.cfg.dest p)
      || s.dec.rsvs.any (fun x => x.cfg.rg == g && x.cfg.lc == 0 && s.flag (Reg.DEC_RSV_CTRL x.cfg.id) 0 && s.onPort x.cfg.dest p))

/-- Running groups whose rows can produce an LC0 publication on a port. -/
def State.lc0Groups (s : State) (p : Nat) : List Nat := (List.range 4).filter (fun g => (s.group g).isSome && s.lc0Rows p g)

/-- The newest grid tag of a rate that a time has reached. -/
def tagUpTo (r t : Nat) : Nat :=
  let x := (t / 1000000000, (t % 1000000000) * r / 1000000000)
  let y := gridNext r x
  if gridTag r y.1 y.2 ≤ t then gridTag r y.1 y.2
  else if gridTag r x.1 x.2 ≤ t then gridTag r x.1 x.2
  else
    let z := gridPrev r x
    gridTag r z.1 z.2

/-- An LC0 window of the port is open: T to T + H0 + 500 µs. -/
def State.lc0Open (s : State) (p : Nat) : Bool :=
  (s.lc0Groups p).any (fun g =>
    let h0 := (((List.range (s.sectionCount g)).filter (fun sec => s.secLc g sec == 0)).map (fun sec =>
      (s.reg (Reg.ALN_SEC_HMAX g sec)).toNat)).foldl max 0
    decide (s.now < tagUpTo (s.rate g) s.now + h0 * 1000 + 500000))

/-- A task that runs cycles writes an element of one of some publications. -/
def State.taskPublishes (s : State) (t : Nat) (pubs : List Nat) : Bool :=
  match s.cyc.run with
  | some a => s.taskOn t && a.prog.outputs.any (fun o => o.task == t && (match o.kind with
    | .pub p _ _ => pubs.contains p
    | _ => false))
  | none => false

/-- Time in ns to each coming window opening and scheduled LC0 transmission of a port. -/
def State.lc0Ahead (s : State) (p : Nat) : List Nat :=
  let t := s.elapsed
  let rows := (s.lc0Groups p).map (fun g => tagFrom (s.rate g) (s.now + 1) - s.now)
  let cyc := s.cyc.pubs.filter (fun x => x.cfg.lc == 0 && s.onPort x.cfg.dest p)
  let used := (List.range s.cyc.tasks.length).filter (fun i => s.taskPublishes i (cyc.map (fun x => x.cfg.id)))
  let ends := used.map (fun i =>
    let x := s.cyc.tasks.getD i {}
    if x.running || x.waitingW then x.wAt - t else x.nextStart - s.now + s.budget i)
  let again := ((s.alm.pubs.filter (fun x => x.cfg.lc == 0 && s.onPort x.cfg.dest p)) ++ cyc).filterMap (fun x => x.nextAt.map (fun (n : Nat) => n - t))
  rows ++ ends ++ again

/-- The next of them lies more than Tw + 2 µs ahead and no window is open: the port may sleep. -/
def State.lc0Clear (s : State) (p : Nat) : Bool :=
  !s.lc0Open p && (s.lc0Ahead p).all (fun n => decide ((s.reg (Reg.SPT_EEE_TW p)).toNat + 2000 < n))

/-! ### Low Power Idle -/

/-- A port leaves LPI: it may send once its wake time has passed. -/
def State.lpiLeave (s : State) (p : Nat) : State :=
  let w := s.elapsed + (s.reg (Reg.SPT_EEE_TW p)).toNat
  (s.modPort p (fun x => { x with wakeAt := some w })).setFlag (Reg.SPT_PORT_STATUS p) 1 false

/-- EEE_TW_UPDATE: a wake time learnt from LLDP takes effect; the wake instant is computed again (R63). -/
def execEeeTwUpdate (port tw : Nat) (s : State) : Host.Outcome State Fault Refusal := answer <|
  let s := s.setReg (Reg.SPT_EEE_TW port) (Word.ofNat tw)
  if s.flag (Reg.SPT_PORT_STATUS port) 1 && port < 4 && !s.lc0Clear port then s.lpiLeave port else s

/-- A port may enter transmit LPI (R61, R62). -/
def State.maySleep (s : State) (p : Nat) : Bool :=
  s.linkIsUp p && s.flag (Reg.SPT_PORT_CTRL p) 12 && s.reg (Reg.SPT_EEE_TW p) != 0 && !s.flag (Reg.SPT_PORT_STATUS p) 1
    && (s.port p).txq.isEmpty && (decide (4 ≤ p) || s.lc0Clear p)

/-- LPI_ENTER (R62). -/
def execLpiEnter (port : Nat) (s : State) : Host.Outcome State Fault Refusal := answer <|
  if s.maySleep port then (s.setFlag (Reg.SPT_PORT_STATUS port) 1 true).bump (Reg.SPT_CNT_LPI_ENTRY port) else s

/-- LPI_WAKE: a station port leaves LPI Tw + 2 µs before an LC0 window or transmission (R62). -/
def execLpiWake (port : Nat) (s : State) : Host.Outcome State Fault Refusal := answer <|
  if s.flag (Reg.SPT_PORT_STATUS port) 1 && port < 4 && !s.lc0Clear port then s.lpiLeave port else s

/-- LPI_FRAME_WAKE: a frame is queued at a port in LPI; LC0 frames count (R62, R63). -/
def execLpiFrameWake (port : Nat) (s : State) : Host.Outcome State Fault Refusal := answer <|
  if s.flag (Reg.SPT_PORT_STATUS port) 1 && !(s.port port).txq.isEmpty then
    (s.bumpBy (Reg.SPT_CNT_LPI_LC0_WAKE port) ((s.port port).txq.filter (fun f => f.cls == 0)).length).lpiLeave port
  else s

end Sys2Proof.Machine
end

