-- ==== Sys2Proof/Machine/Dispatch.lean ====
section
/-!
DEFINITION. The one arm of each command: a direct call of its meaning.
-/
namespace Sys2Proof.Machine

/-- The effect of a command on everything but the queue. -/
def exec (i : Instr) (s : State) : Host.Outcome State Fault Refusal :=
  match i with
  | .registerWrite offset value => Sys2Proof.Machine.execRegisterWrite offset value s
  | .clkRefLost durationNs => Sys2Proof.Machine.execClkRefLost durationNs s
  | .clkSerdesLost links => Sys2Proof.Machine.execClkSerdesLost links s
  | .clkPcieRefLost => Sys2Proof.Machine.execClkPcieRefLost s
  | .rxFrame port f => Sys2Proof.Machine.execRxFrame port f s
  | .prpEntryExpire pair mac => Sys2Proof.Machine.execPrpEntryExpire pair mac s
  | .prpLanSilent pair lanB => Sys2Proof.Machine.execPrpLanSilent pair lanB s
  | .prpSupervisionTx pair => Sys2Proof.Machine.execPrpSupervisionTx pair s
  | .linkUp port => Sys2Proof.Machine.execLinkUp port s
  | .linkDown port cause => Sys2Proof.Machine.execLinkDown port cause s
  | .maxlenWrite port value => Sys2Proof.Machine.execMaxlenWrite port value s
  | .sptCommit mask => Sys2Proof.Machine.execSptCommit mask s
  | .sptCommitPoint port tx => Sys2Proof.Machine.execSptCommitPoint port tx s
  | .supPoolDrain port => Sys2Proof.Machine.execSupPoolDrain port s
  | .rxrEnable port ring value => Sys2Proof.Machine.execRxrEnable port ring value s
  | .rxrDisable port ring value => Sys2Proof.Machine.execRxrDisable port ring value s
  | .hostTxDescriptor port ring d => Sys2Proof.Machine.execHostTxDescriptor port ring d s
  | .txFrame port => Sys2Proof.Machine.execTxFrame port s
  | .txtsPop port => Sys2Proof.Machine.execTxtsPop port s
  | .txtsStatClear port => Sys2Proof.Machine.execTxtsStatClear port s
  | .eeeTwUpdate port tw => Sys2Proof.Machine.execEeeTwUpdate port tw s
  | .lpiEnter port => Sys2Proof.Machine.execLpiEnter port s
  | .lpiWake port => Sys2Proof.Machine.execLpiWake port s
  | .lpiFrameWake port => Sys2Proof.Machine.execLpiFrameWake port s
  | .c37DataFrame f => Sys2Proof.Machine.execC37DataFrame f s
  | .reparseAttempt stream => Sys2Proof.Machine.execReparseAttempt stream s
  | .cfgFrameRx stream f => Sys2Proof.Machine.execCfgFrameRx stream f s
  | .reparseRetry stream => Sys2Proof.Machine.execReparseRetry stream s
  | .stReparse => Sys2Proof.Machine.execStReparse s
  | .stDisable => Sys2Proof.Machine.execStDisable s
  | .stEnable => Sys2Proof.Machine.execStEnable s
  | .decCommit => Sys2Proof.Machine.execDecCommit s
  | .svFrame f => Sys2Proof.Machine.execSvFrame f s
  | .sessionPdu p => Sys2Proof.Machine.execSessionPdu p s
  | .gooseFrame f => Sys2Proof.Machine.execGooseFrame f s
  | .rowBoundary rg => Sys2Proof.Machine.execRowBoundary rg s
  | .outputStreamFrame o tag => Sys2Proof.Machine.execOutputStreamFrame o tag s
  | .outCmdOff o => Sys2Proof.Machine.execOutCmdOff o s
  | .outCmdOn o => Sys2Proof.Machine.execOutCmdOn o s
  | .outCmdSendHdr o => Sys2Proof.Machine.execOutCmdSendHdr o s
  | .outCmdSendCfg1 o => Sys2Proof.Machine.execOutCmdSendCfg1 o s
  | .outCmdSendCfg2 o => Sys2Proof.Machine.execOutCmdSendCfg2 o s
  | .outCmdSendCfg3 o => Sys2Proof.Machine.execOutCmdSendCfg3 o s
  | .outChangeApply o => Sys2Proof.Machine.execOutChangeApply o s
  | .rsvPublish p tag => Sys2Proof.Machine.execRsvPublish p tag s
  | .timeRollover => Sys2Proof.Machine.execTimeRollover s
  | .extensionCheck => Sys2Proof.Machine.execExtensionCheck s
  | .incWrite hi => Sys2Proof.Machine.execIncWrite hi s
  | .timeStep hi => Sys2Proof.Machine.execTimeStep hi s
  | .hostSyncWrite value => Sys2Proof.Machine.execHostSyncWrite value s
  | .ptpMessage m => Sys2Proof.Machine.execPtpMessage m s
  | .announceTimeout => Sys2Proof.Machine.execAnnounceTimeout s
  | .irigFrame f => Sys2Proof.Machine.execIrigFrame f s
  | .ppsInEdge => Sys2Proof.Machine.execPpsInEdge s
  | .ppsMiss => Sys2Proof.Machine.execPpsMiss s
  | .sourceTimeout => Sys2Proof.Machine.execSourceTimeout s
  | .sourceFaultExpire src => Sys2Proof.Machine.execSourceFaultExpire src s
  | .secondBoundary => Sys2Proof.Machine.execSecondBoundary s
  | .ppsOutEnd => Sys2Proof.Machine.execPpsOutEnd s
  | .sectionDeadline rg tag sec => Sys2Proof.Machine.execSectionDeadline rg tag sec s
  | .releaseTokenAdmit => Sys2Proof.Machine.execReleaseTokenAdmit s
  | .rowRetire rg => Sys2Proof.Machine.execRowRetire rg s
  | .gleanerWrite => Sys2Proof.Machine.execGleanerWrite s
  | .alnCommit mask => Sys2Proof.Machine.execAlnCommit mask s
  | .afeSample a => Sys2Proof.Machine.execAfeSample a s
  | .afeOverloadEnd input => Sys2Proof.Machine.execAfeOverloadEnd input s
  | .channelStall chan => Sys2Proof.Machine.execChannelStall chan s
  | .syncArm value => Sys2Proof.Machine.execSyncArm value s
  | .wavCommit mask => Sys2Proof.Machine.execWavCommit mask s
  | .steepClose mp => Sys2Proof.Machine.execSteepClose mp s
  | .steepCloseTimeout mp => Sys2Proof.Machine.execSteepCloseTimeout mp s
  | .pulseStart k => Sys2Proof.Machine.execPulseStart k s
  | .pulseEnd k => Sys2Proof.Machine.execPulseEnd k s
  | .meterSavePeriod => Sys2Proof.Machine.execMeterSavePeriod s
  | .meterSaveNow => Sys2Proof.Machine.execMeterSaveNow s
  | .meterSaveDone ok => Sys2Proof.Machine.execMeterSaveDone ok s
  | .meterSnapshot value => Sys2Proof.Machine.execMeterSnapshot value s
  | .mtrCommit hi mask => Sys2Proof.Machine.execMtrCommit hi mask s
  | .oscRefreshInstant group => Sys2Proof.Machine.execOscRefreshInstant group s
  | .oscRefreshDone group => Sys2Proof.Machine.execOscRefreshDone group s
  | .oscCommit mask => Sys2Proof.Machine.execOscCommit mask s
  | .intermediateTimeout branch => Sys2Proof.Machine.execIntermediateTimeout branch s
  | .swOverride value => Sys2Proof.Machine.execSwOverride value s
  | .seRowStart idx => Sys2Proof.Machine.execSeRowStart idx s
  | .seSolveDone idx => Sys2Proof.Machine.execSeSolveDone idx s
  | .islandRow idx => Sys2Proof.Machine.execIslandRow idx s
  | .coalesceExpire => Sys2Proof.Machine.execCoalesceExpire s
  | .refacDone => Sys2Proof.Machine.execRefacDone s
  | .topCommit => Sys2Proof.Machine.execTopCommit s
  | .graphInstanceCreate graph => Sys2Proof.Machine.execGraphInstanceCreate graph s
  | .operatorDispatch pe => Sys2Proof.Machine.execOperatorDispatch pe s
  | .operatorYield pe => Sys2Proof.Machine.execOperatorYield pe s
  | .operatorComplete pe => Sys2Proof.Machine.execOperatorComplete pe s
  | .delayTick => Sys2Proof.Machine.execDelayTick s
  | .epochBoundary => Sys2Proof.Machine.execEpochBoundary s
  | .stateCopyDone graph => Sys2Proof.Machine.execStateCopyDone graph s
  | .engineFence pe => Sys2Proof.Machine.execEngineFence pe s
  | .graphHalt graph => Sys2Proof.Machine.execGraphHalt graph s
  | .graphResume graph => Sys2Proof.Machine.execGraphResume graph s
  | .dfsCommit => Sys2Proof.Machine.execDfsCommit s
  | .cycleStart task => Sys2Proof.Machine.execCycleStart task s
  | .logicComplete task => Sys2Proof.Machine.execLogicComplete task s
  | .writePoint task => Sys2Proof.Machine.execWritePoint task s
  | .pubRetransmit alm p => Sys2Proof.Machine.execPubRetransmit alm p s
  | .peerValueRx v => Sys2Proof.Machine.execPeerValueRx v s
  | .exchangeInstant => Sys2Proof.Machine.execExchangeInstant s
  | .exchangeTimeout => Sys2Proof.Machine.execExchangeTimeout s
  | .cycCommit mask => Sys2Proof.Machine.execCycCommit mask s
  | .alarmHandoff => Sys2Proof.Machine.execAlarmHandoff s
  | .almAck value => Sys2Proof.Machine.execAlmAck value s
  | .almAckAll value => Sys2Proof.Machine.execAlmAckAll value s
  | .pinHoldExpire pin => Sys2Proof.Machine.execPinHoldExpire pin s
  | .alarmPubSend p => Sys2Proof.Machine.execAlarmPubSend p s
  | .almCommit => Sys2Proof.Machine.execAlmCommit s
  | .eventCommit => Sys2Proof.Machine.execEventCommit s
  | .heartbeat => Sys2Proof.Machine.execHeartbeat s
  | .evrRdSeq value => Sys2Proof.Machine.execEvrRdSeq value s
  | .gatherEnd recorder => Sys2Proof.Machine.execGatherEnd recorder s
  | .capAutoTimeout recorder => Sys2Proof.Machine.execCapAutoTimeout recorder s
  | .captureClose recorder => Sys2Proof.Machine.execCaptureClose recorder s
  | .capRArm recorder => Sys2Proof.Machine.execCapRArm recorder s
  | .capRDisarm recorder => Sys2Proof.Machine.execCapRDisarm recorder s
  | .capRForce recorder => Sys2Proof.Machine.execCapRForce recorder s
  | .capRRelease recorder value => Sys2Proof.Machine.execCapRRelease recorder value s
  | .capRMarkSet recorder mark hi => Sys2Proof.Machine.execCapRMarkSet recorder mark hi s
  | .capCommit mask => Sys2Proof.Machine.execCapCommit mask s
  | .pcieLinkDown => Sys2Proof.Machine.execPcieLinkDown s
  | .pcieLinkUp => Sys2Proof.Machine.execPcieLinkUp s
  | .hostReset kind => Sys2Proof.Machine.execHostReset kind s
  | .apertureRead offset len => Sys2Proof.Machine.execApertureRead offset len s
  | .apertureWrite offset => Sys2Proof.Machine.execApertureWrite offset s
  | .queuePop q words => Sys2Proof.Machine.execQueuePop q words s
  | .queuePopTimeout q => Sys2Proof.Machine.execQueuePopTimeout q s
  | .queuePush q words => Sys2Proof.Machine.execQueuePush q words s
  | .queuePushEnd q value => Sys2Proof.Machine.execQueuePushEnd q value s
  | .pushStallTimeout q => Sys2Proof.Machine.execPushStallTimeout q s
  | .queueIrqItrExpire q => Sys2Proof.Machine.execQueueIrqItrExpire q s
  | .commandTake content => Sys2Proof.Machine.execCommandTake content s
  | .longOpStepCommit handle => Sys2Proof.Machine.execLongOpStepCommit handle s
  | .nop h => Sys2Proof.Machine.execNop h s
  | .journal h key byTag twin => Sys2Proof.Machine.execJournal h key byTag twin s
  | .cancel h target => Sys2Proof.Machine.execCancel h target s
  | .resume h target => Sys2Proof.Machine.execResume h target s
  | .ack h alarm chg => Sys2Proof.Machine.execAck h alarm chg s
  | .arm h recorder => Sys2Proof.Machine.execArm h recorder s
  | .export_ h recorder capture => Sys2Proof.Machine.execExport h recorder capture s
  | .exportFrames h recorder mark => Sys2Proof.Machine.execExportFrames h recorder mark s
  | .release h recorder capture => Sys2Proof.Machine.execRelease h recorder capture s
  | .refactor h => Sys2Proof.Machine.execRefactor h s
  | .rebalance h => Sys2Proof.Machine.execRebalance h s
  | .progLoad h content => Sys2Proof.Machine.execProgLoad h content s
  | .progExchange h => Sys2Proof.Machine.execProgExchange h s
  | .progRevert h => Sys2Proof.Machine.execProgRevert h s
  | .imageStage h component content => Sys2Proof.Machine.execImageStage h component content s
  | .imageActivate h component other => Sys2Proof.Machine.execImageActivate h component other s
  | .confirm h component => Sys2Proof.Machine.execConfirm h component s
  | .settingsSave h => Sys2Proof.Machine.execSettingsSave h s
  | .keyUpdate h content => Sys2Proof.Machine.execKeyUpdate h content s
  | .archiveRead h source first count => Sys2Proof.Machine.execArchiveRead h source first count s
  | .dateSet h year month day hour minute second => Sys2Proof.Machine.execDateSet h year month day hour minute second s
  | .roleSwitch h => Sys2Proof.Machine.execRoleSwitch h s
  | .hgwLinkTrained link m => Sys2Proof.Machine.execHgwLinkTrained link m s
  | .hgwLinkDown link => Sys2Proof.Machine.execHgwLinkDown link s
  | .hgwPacketRx link crcOk p => Sys2Proof.Machine.execHgwPacketRx link crcOk p s
  | .linkStateFlood => Sys2Proof.Machine.execLinkStateFlood s
  | .routeRecompute => Sys2Proof.Machine.execRouteRecompute s
  | .routeTimeout device => Sys2Proof.Machine.execRouteTimeout device s
  | .closureTokenRx owner rg sec tag flags seq onDl => Sys2Proof.Machine.execClosureTokenRx owner rg sec tag flags seq onDl s
  | .fwdSectionTimeout owner rg sec tag => Sys2Proof.Machine.execFwdSectionTimeout owner rg sec tag s
  | .hgwTimeExchange link t1 t2 t3 t4 locked => Sys2Proof.Machine.execHgwTimeExchange link t1 t2 t3 t4 locked s
  | .linkStepChange link rx util => Sys2Proof.Machine.execLinkStepChange link rx util s
  | .xplacementAckDeadline => Sys2Proof.Machine.execXplacementAckDeadline s
  | .hgwCommit => Sys2Proof.Machine.execHgwCommit s
  | .t0Trained h => Sys2Proof.Machine.execT0Trained h s
  | .partnerWaitExpire => Sys2Proof.Machine.execPartnerWaitExpire s
  | .pairingSyncDone snap => Sys2Proof.Machine.execPairingSyncDone snap s
  | .pairingTimeout => Sys2Proof.Machine.execPairingTimeout s
  | .rowDigestRx rg tag digest => Sys2Proof.Machine.execRowDigestRx rg tag digest s
  | .compareWindowEnd => Sys2Proof.Machine.execCompareWindowEnd s
  | .healthReportTx => Sys2Proof.Machine.execHealthReportTx s
  | .healthReportRx r => Sys2Proof.Machine.execHealthReportRx r s
  | .partnerReportTimeout => Sys2Proof.Machine.execPartnerReportTimeout s
  | .selfTestFail bit => Sys2Proof.Machine.execSelfTestFail bit s
  | .switchInstant => Sys2Proof.Machine.execSwitchInstant s
  | .partnerLossDetect => Sys2Proof.Machine.execPartnerLossDetect s
  | .releaseRequestRx => Sys2Proof.Machine.execReleaseRequestRx s
  | .inputTriggerExpire => Sys2Proof.Machine.execInputTriggerExpire s
  | .takeoverComplete => Sys2Proof.Machine.execTakeoverComplete s
  | .mirrorMessageRx m => Sys2Proof.Machine.execMirrorMessageRx m s
  | .t0Detach => Sys2Proof.Machine.execT0Detach s
  | .caddyRequest r => Sys2Proof.Machine.execCaddyRequest r s
  | .caddyOpDone id => Sys2Proof.Machine.execCaddyOpDone id s
  | .secRederive writer value => Sys2Proof.Machine.execSecRederive writer value s
  | .bkdWriteApply => Sys2Proof.Machine.execBkdWriteApply s
  | .bkdTickRead sup => Sys2Proof.Machine.execBkdTickRead sup s
  | .bkdWeekdayRead sup => Sys2Proof.Machine.execBkdWeekdayRead sup s
  | .freezeTimeout sup => Sys2Proof.Machine.execFreezeTimeout sup s
  | .weekdayAdvance => Sys2Proof.Machine.execWeekdayAdvance s
  | .alarmArm => Sys2Proof.Machine.execAlarmArm s
  | .rtcAlarm => Sys2Proof.Machine.execRtcAlarm s
  | .pwrOff => Sys2Proof.Machine.execPwrOff s
  | .wakeInEdge => Sys2Proof.Machine.execWakeInEdge s
  | .tamperInput src => Sys2Proof.Machine.execTamperInput src s
  | .domainPowerOn => Sys2Proof.Machine.execDomainPowerOn s
  | .rtcSyncCheck => Sys2Proof.Machine.execRtcSyncCheck s
  | .coldStart straps => Sys2Proof.Machine.execColdStart straps s
  | .warmReset cause => Sys2Proof.Machine.execWarmReset cause s
  | .porstAssert ns => Sys2Proof.Machine.execPorstAssert ns s
  | .railUndervoltage rail ns => Sys2Proof.Machine.execRailUndervoltage rail ns s
  | .bootReset value => Sys2Proof.Machine.execBootReset value s
  | .supWatchdogExpire => Sys2Proof.Machine.execSupWatchdogExpire s
  | .bootRcvGo value image => Sys2Proof.Machine.execBootRcvGo value image s
  | .trialDeadline component => Sys2Proof.Machine.execTrialDeadline component s
  | .twinCfgActivate => Sys2Proof.Machine.execTwinCfgActivate s
  | .errorDetect e => Sys2Proof.Machine.execErrorDetect e s
  | .errorHandlingDone => Sys2Proof.Machine.execErrorHandlingDone s
  | .handlerTimeout => Sys2Proof.Machine.execHandlerTimeout s
  | .e4WarmReset => Sys2Proof.Machine.execE4WarmReset s
  | .thermalLevelChange sensor temp => Sys2Proof.Machine.execThermalLevelChange sensor temp s
  | .overtemp sensor temp => Sys2Proof.Machine.execOvertemp sensor temp s
  | .currentLimit tenMa => Sys2Proof.Machine.execCurrentLimit tenMa s
  | .dramTempCheck channel temp => Sys2Proof.Machine.execDramTempCheck channel temp s
  | .pmcRun run => Sys2Proof.Machine.execPmcRun run s
  | .pmcClear => Sys2Proof.Machine.execPmcClear s
  | .pmcSample r => Sys2Proof.Machine.execPmcSample r s
  | .dramLockLost => Sys2Proof.Machine.execDramLockLost s
  | .domainSupplyChange inRange => Sys2Proof.Machine.execDomainSupplyChange inRange s
  | .vbatLow low => Sys2Proof.Machine.execVbatLow low s
  | .currentLimitClear tenMa => Sys2Proof.Machine.execCurrentLimitClear tenMa s
  | .mirrorAckRx num => Sys2Proof.Machine.execMirrorAckRx num s
  | .pcieCompletionTimeout requester => Sys2Proof.Machine.execPcieCompletionTimeout requester s

end Sys2Proof.Machine
end

