-- ==== Sys2Proof/Machine/Tick.lean ====
section
/-!
DEFINITION. One CLK_PORT tick of 2.56 ns, the step of an empty queue: Device Time and what follows the clock alone (log entry 7).
-/
namespace Sys2Proof.Machine

/-- Edges of the 32.768 kHz clock up to a CLK_PORT tick (R34, R408). -/
def rtcEdges (ticks : Nat) : Nat := ticks * 32768 / 390625000

/-- The main domain over a tick: Device Time, slews, the unlocked time, delayed ring interrupts, load windows, links and T0, ages, READY of the Fallow device and performance counters. -/
def State.tickMain (s : State) : State :=
  let s := s.watchInput.tickTime.slewDue.showUnlock
  let s := (List.range 6).foldl (fun (s : State) p => (s.ringDue p).partnerLpi p) s
  let s := (List.range 6).foldl (fun (s : State) l => s.drainLink l) s.loadDue
  s.drainT0.showOptime.showAge.showReady.pmcTick

/-- A tick passes; while the main supply is off only the backup domain's clock and the model's elapsed clock go on (R34, R418). -/
def tick (s : State) : State :=
  let edge := rtcEdges s.tim.ticks < rtcEdges (s.tim.ticks + 1)
  let s := if s.bkd.mainOn then s.tickMain else { s with tim := { s.tim with ticks := s.tim.ticks + 1 } }
  (if edge then s.bkdEdge else s).showHealth

end Sys2Proof.Machine
end

