-- ==== Sys2Proof/Safety.lean ====
section
/-!
DEFINITION. What claims are stated in: what the health registers must show, the registers that reporting may change, and runs.
-/
namespace Sys2Proof.Machine

/-- The health registers show the present health of the device (R451, R452): HLT_SUMMARY, HLT_E3_ACTIVE and THERM_LEVEL. -/
def HealthShown (s : State) : Prop :=
  s.reg Reg.HLT_SUMMARY = s.summary ∧ s.reg Reg.HLT_E3_ACTIVE = s.hlt.active ∧ s.field Reg.HLT_THERM 1 0 = s.shedLevel % 4

/-- Registers in which the health of the device is shown after every command. -/
def healthRegs : List Nat := [Reg.HLT_SUMMARY, Reg.HLT_E3_ACTIVE, Reg.HLT_THERM]

/-- Registers that the logging of an event may change: the recorder's status and loss counters, and the counters of the recorders of CAP and of Hedgerow that the same event may raise (R296, R320, R359, R364). -/
def logRegs : List Nat :=
  [Reg.EVR_STATUS, Reg.EVR_CNT_QDROP 0, Reg.EVR_CNT_QDROP 1, Reg.EVR_CNT_QDROP 2, Reg.EVR_CNT_QDROP 3, Reg.EVR_CNT_QDROP 4,
   Reg.EVR_CNT_DISPLACED, Reg.CAP_CNT_EV_LOST, Reg.HGW_CNT_LOST, Reg.HGW_CNT_EVT_FWD_LOST]

/-- Both memories are in canonical form. -/
def State.memWf (s : State) : Bool := Memory.wf s.dram && Memory.wf s.hostMem

/-- No byte of either memory differs between two states. -/
def SameMemory (s t : State) : Prop := (∀ a, t.dramByte a = s.dramByte a) ∧ ∀ a, t.hostByte a = s.hostByte a

/-- A host command has ended with its first completion: the journal shows it complete under the handle that was next (R343, R347). -/
def Completed (s t : State) (tag : Word) (op status : Nat) : Prop :=
  ∃ e, kvGet t.hif.journal (s.newHandle.1 % 2 ^ 16) = some e ∧ e.handle = s.newHandle.1 ∧ e.tag = tag ∧ e.opcode = op ∧ e.status = status
    ∧ e.disp = .complete ∧ e.gts = s.now

/-- A long host command has started: the newest operation does its work under the handle that was next, and the journal shows it running (R343, R347). -/
def Started (s t : State) (h : CmdHdr) (op : Nat) (w : OpWork) (total : Nat) : Prop :=
  (∃ o, t.hif.ops = s.hif.ops ++ [o] ∧ o.handle = s.newHandle.1 ∧ o.tag = h.tag ∧ o.opcode = op ∧ o.total = total ∧ o.step = 0 ∧ o.work = w)
    ∧ ∃ e, kvGet t.hif.journal (s.newHandle.1 % 2 ^ 16) = some e ∧ e.handle = s.newHandle.1 ∧ e.tag = h.tag ∧ e.opcode = op ∧ e.status = 0x02
      ∧ e.disp = .running

/-- No slot of component 0 holds an image and no component is in TRIAL, so that a start of the device ends in recovery (R443, R450). -/
def NoImages (s : State) : Prop := (∀ c, (s.comp c).state ≠ .trial) ∧ (s.comp 0).imgA = .empty ∧ (s.comp 0).imgB = .empty

/-- A warm reset of a cause has ended in recovery: mode and cause shown, outputs off, host memory as before, the reset counted (R422, R423, R450). -/
def WarmToRecovery (s t : State) (cause : Nat) : Prop :=
  t.field Reg.BOOT_STATUS 2 0 = 5 ∧ t.field Reg.BOOT_RESET_CAUSE 3 0 = cause ∧ t.boot.outputsOff = true ∧ t.hostMem = s.hostMem
    ∧ t.reg Reg.BOOT_CNT_WARM = satWord ((s.reg Reg.BOOT_CNT_WARM).toNat + 1)

/-- A command ends in a next state. -/
def Completes (c : Instr) (s : State) : Prop := ∃ t, exec c s = .next t

end Sys2Proof.Machine
end

