-- ==== Sys2Proof/Certificates/Slice0/Obligations.lean ====
section
/-!
DEFINITION. The statements for the provers, by chapter of the specification.
-/
open Sys2Proof Sys2Proof.Machine

/-- For every command c, queue rest and state s, the step of s with c at the front of its queue is exec of c on s with the rest; with an empty queue the step is a tick of CLK_PORT (the model's choice, log entry 7). -/
def Obligations.FrontCommandRuns : Prop :=
  (∀ (c : Instr) (rest : List Instr) (s : State), step { s with pending := c :: rest } = exec c { s with pending := rest })
  ∧ (∀ (s : State), s.pending = [] → step s = .next (tick s))

/-- State.reset has an empty queue, no configuration committed, the outputs off, both memories in canonical form with nothing listed, the health registers showing its health, and SYS_ID.STEPPING at 0x21 (its other values that no rule gives are the model's, log entries 2 and 5). Rests on R1, R423, R434. -/
def Obligations.ResetState : Prop :=
  State.reset.pending = [] ∧ State.reset.committed = false ∧ State.reset.boot.outputsOff = true ∧ State.reset.memWf = true ∧ State.reset.dram = []
  ∧ State.reset.hostMem = [] ∧ HealthShown State.reset ∧ State.reset.field Reg.SYS_ID 7 0 = 0x21

/-- Every command completes in every state: exec of it answers a next state, no fault and no refusal, in which HLT_SUMMARY, HLT_E3_ACTIVE and THERM_LEVEL show the present health (that they are refreshed by every command is the model's choice, log entry 15); so does a step from every state, reachable or not, whatever command is in front or none. Rests on R451, R452. -/
def Obligations.EveryStepAnswers : Prop :=
  (∀ (c : Instr) (s : State), ∃ t, exec c s = .next t ∧ HealthShown t) ∧ (∀ s : State, ∃ t, step s = .next t ∧ HealthShown t)

/-- BKD_TICK_READ, BKD_WEEKDAY_READ, FREEZE_TIMEOUT, WEEKDAY_ADVANCE, ALARM_ARM, PWR_OFF, WAKE_IN_EDGE, DOMAIN_POWER_ON, DOMAIN_SUPPLY_CHANGE and VBAT_LOW leave everything as it was but the domain's registers, the key RAM and the data read; the health registers are refreshed. Rests on R407, R410, R414, R415, R417. -/
def Obligations.BackupFrame : Prop :=
  ∀ (c : Instr) (s : State), (c = .weekdayAdvance ∨ c = .alarmArm ∨ c = .pwrOff ∨ c = .wakeInEdge ∨ c = .domainPowerOn
      ∨ (∃ sup, c = .bkdTickRead sup ∨ c = .bkdWeekdayRead sup ∨ c = .freezeTimeout sup) ∨ (∃ b, c = .domainSupplyChange b ∨ c = .vbatLow b)) →
    ∃ (b : BkdState) (r : List Word) (k : SecState), exec c s = .next ({ s with bkd := b, readData := r, sec := k }).showHealth
      ∧ k = { s.sec with share := k.share, bkCounter := k.bkCounter } ∧ (c ≠ .domainPowerOn → k = s.sec)

/-- LPI_ENTER, LPI_WAKE, LPI_FRAME_WAKE, EEE_TW_UPDATE, RXR_ENABLE, RXR_DISABLE, TXTS_POP, TXTS_STAT_CLEAR, SUP_POOL_DRAIN, SPT_COMMIT and SPT_COMMIT_POINT leave every register outside the SPT block as it was, but for the refresh of the health registers, both memories, and everything else but ports, shadow and the data read. Rests on R47, R56, R60, R62, R63. -/
def Obligations.PortFrame : Prop :=
  ∀ (c : Instr) (s : State), (∃ mask, c = .sptCommit mask) ∨ (∃ port, port < 6 ∧ (c = .lpiEnter port ∨ c = .lpiWake port ∨ c = .lpiFrameWake port
      ∨ c = .txtsPop port ∨ c = .txtsStatClear port ∨ c = .supPoolDrain port ∨ (∃ tw, c = .eeeTwUpdate port tw) ∨ (∃ tx, c = .sptCommitPoint port tx)
      ∨ (∃ ring v, ring < 32 ∧ (c = .rxrEnable port ring v ∨ c = .rxrDisable port ring v)))) →
    ∃ t, exec c s = .next t ∧ t = { s with regs := t.regs, ports := t.ports, shadow := t.shadow, readData := t.readData }
      ∧ ∀ a, a / 0x100000 ≠ 1 → a ∉ healthRegs → t.reg a = s.reg a

/-- The commands of ports, pairs, clocks, backup domain, twin reports and health named here, which may send frames and log events, leave every byte of both memories as it was; so do TX_FRAME and LINK_DOWN of a port that has no frame of a host ring in its queue (the descriptor of one is written back, R58). Rests on R47, R49, R50, R51, R57, R379, R382, R408, R446. -/
def Obligations.MemoryFrame : Prop :=
  ∀ (c : Instr) (s : State), (∃ port, c = .linkUp port ∨ c = .supPoolDrain port ∨ c = .txtsPop port ∨ c = .lpiEnter port ∨ c = .lpiFrameWake port
        ∨ (∃ v, c = .maxlenWrite port v)
        ∨ ((∀ f, f ∈ (s.port port).txq → ∀ d p r a, f.body ≠ .host d p r a) ∧ (c = .txFrame port ∨ ∃ n, c = .linkDown port n))) ∨ (∃ mask, c = .sptCommit mask)
      ∨ (∃ pair, c = .prpSupervisionTx pair ∨ (∃ m, c = .prpEntryExpire pair m) ∨ (∃ b, c = .prpLanSilent pair b))
      ∨ (∃ ns, c = .clkRefLost ns) ∨ c = .dramLockLost ∨ c = .bkdWriteApply ∨ c = .rtcAlarm ∨ c = .rtcSyncCheck
      ∨ (∃ rg tag d, c = .rowDigestRx rg tag d) ∨ c = .compareWindowEnd ∨ c = .healthReportTx ∨ c = .partnerReportTimeout ∨ (∃ n, c = .selfTestFail n)
      ∨ c = .releaseRequestRx ∨ (∃ e, c = .errorDetect e) ∨ c = .errorHandlingDone ∨ c = .handlerTimeout ∨ (∃ i x, c = .thermalLevelChange i x ∨ c = .overtemp i x)
      ∨ (∃ n, c = .currentLimit n ∨ c = .currentLimitClear n) ∨ (∃ i x, c = .dramTempCheck i x) ∨ (∃ b, c = .pmcRun b) ∨ c = .pmcClear →
    ∃ t, exec c s = .next t ∧ SameMemory s t

/-- The output of an alarm is asserted exactly while its condition is active, or while LATCH is 1 and the alarm is not acknowledged; a non-latching alarm in RTN_UNACK (state 3, its condition inactive) has its output released, a latching one keeps it asserted until an acknowledgement, after which it is released. Rests on R289. -/
def Obligations.AlarmOutput : Prop :=
  (∀ x : AlarmState, x.output = true ↔ x.cond = true ∨ (x.cfg.latch = true ∧ (x.state = 1 ∨ x.state = 3)))
  ∧ (∀ x : AlarmState, x.state = 3 → x.cond = false → x.output = x.cfg.latch)
  ∧ (∀ x : AlarmState, x.state = 3 → x.cond = false → ({ x with state := ackState x.state } : AlarmState).output = false)

/-- REGISTER_WRITE of the LIVE register SYS_SCRATCH sets it and no other register; of the LOCKED SYS_DEVICE_ID it sets the 9 bits before the configuration commit, and after it a write that would change them leaves the register and is counted in SYS_CNT_LOCKED_WR; a write that is not aligned is counted as a bad access and changes no other register; a write to a reserved offset of the SYS block changes nothing; a write to a register that is a command of its own is that command. Rests on R4, R6, R9, R39, R330. -/
def Obligations.RegisterWrites : Prop :=
  (∀ (s : State) (v : Word), ∃ t, exec (.registerWrite Reg.SYS_SCRATCH v) s = .next t ∧ t.reg Reg.SYS_SCRATCH = v ∧ t.shadow = s.shadow
      ∧ ∀ a, a ≠ Reg.SYS_SCRATCH → a ∉ healthRegs → t.reg a = s.reg a)
  ∧ (∀ (s : State) (v : Word), s.committed = false →
    ∃ t, exec (.registerWrite Reg.SYS_DEVICE_ID v) s = .next t ∧ t.reg Reg.SYS_DEVICE_ID = ((s.reg Reg.SYS_DEVICE_ID &&& ~~~0x1FF) ||| (v &&& 0x1FF)))
  ∧ (∀ (s : State) (v : Word), s.committed = true → (v ^^^ s.reg Reg.SYS_DEVICE_ID) &&& 0x1FF ≠ 0 →
    ∃ t, exec (.registerWrite Reg.SYS_DEVICE_ID v) s = .next t ∧ t.reg Reg.SYS_DEVICE_ID = s.reg Reg.SYS_DEVICE_ID
      ∧ t.reg Reg.SYS_CNT_LOCKED_WR = satWord ((s.reg Reg.SYS_CNT_LOCKED_WR).toNat + 1))
  ∧ (∀ (s : State) (v : Word), s.committed = true → (v ^^^ s.reg Reg.SYS_DEVICE_ID) &&& 0x1FF = 0 →
    exec (.registerWrite Reg.SYS_DEVICE_ID v) s = .next s.showHealth)
  ∧ (∀ (s : State) (offset : Nat) (v : Word), offset % 4 ≠ 0 →
    ∃ t, exec (.registerWrite offset v) s = .next t ∧ t.reg Reg.HIF_CNT_BAD_ACCESS = satWord ((s.reg Reg.HIF_CNT_BAD_ACCESS).toNat + 1)
      ∧ ∀ a, a ≠ Reg.HIF_CNT_BAD_ACCESS → a ∉ healthRegs → t.reg a = s.reg a)
  ∧ (∀ (s : State) (offset : Nat) (v : Word), offset % 4 = 0 → Reg.SYS_SCRATCH < offset → offset < 0x100000 → regDesc offset = none →
    exec (.registerWrite offset v) s = .next s.showHealth)
  ∧ (∀ (s : State) (v : Word), exec (.registerWrite Reg.BOOT_RESET v) s = exec (.bootReset v) s ∧ exec (.registerWrite Reg.ALM_ACK v) s = exec (.almAck v) s
      ∧ exec (.registerWrite Reg.ALM_ACK_ALL v) s = exec (.almAckAll v) s ∧ exec (.registerWrite Reg.EVR_RD_SEQ v) s = exec (.evrRdSeq v) s
      ∧ exec (.registerWrite Reg.CAP_COMMIT v) s = exec (.capCommit v) s ∧ exec (.registerWrite Reg.CYC_COMMIT v) s = exec (.cycCommit v) s
      ∧ exec (.registerWrite Reg.SEC_REDERIVE v) s = exec (.secRederive .host v) s)

/-- CLK_REF_LOST for at most 10 us sets the event bit and changes no other register but the health registers; for longer it clears the status bit and begins the E4, with the outputs off; with the root PLL not locked it does nothing. CLK_SERDES_LOST clears SERDES_LOCK, sets its event bit, keeps the links lost, takes down every station port among them and leaves the status of every other. CLK_PCIE_REF_LOST clears the presence bit, sets its event bit and takes the host link and bus mastering down, and leaves Device Time, rows and streams as they are. DRAM_LOCK_LOST clears the DDR5 lock, sets its event bit and leaves every byte of DRAM. Rests on R34, R35, R41. -/
def Obligations.ClockLosses : Prop :=
  (∀ (s : State) (ns : Nat), s.flag Reg.SYS_CLK_STATUS 0 = true → ns ≤ 10000 →
    ∃ t, exec (.clkRefLost ns) s = .next t ∧ t.flag Reg.SYS_CLK_STATUS 0 = true ∧ t.flag Reg.SYS_CLK_EVENTS 0 = true ∧ t.hlt = s.hlt
      ∧ ∀ a, a ≠ Reg.SYS_CLK_STATUS → a ≠ Reg.SYS_CLK_EVENTS → a ∉ healthRegs → t.reg a = s.reg a)
  ∧ (∀ (s : State) (ns : Nat), s.flag Reg.SYS_CLK_STATUS 0 = true → 10000 < ns → s.hlt.e4 = none →
    ∃ t, exec (.clkRefLost ns) s = .next t ∧ t.flag Reg.SYS_CLK_STATUS 0 = false ∧ t.flag Reg.SYS_CLK_EVENTS 0 = true
      ∧ t.hlt.e4 = some s.elapsed ∧ t.boot.outputsOff = true)
  ∧ (∀ (s : State) (ns : Nat), s.flag Reg.SYS_CLK_STATUS 0 = false → exec (.clkRefLost ns) s = .next s.showHealth)
  ∧ (∀ (s : State) (links : List Nat),
    ∃ t, exec (.clkSerdesLost links) s = .next t ∧ t.flag Reg.SYS_CLK_STATUS 1 = false ∧ t.flag Reg.SYS_CLK_EVENTS 1 = true
      ∧ t.hlt.pllLost = (s.hlt.pllLost ++ links).eraseDups
      ∧ ∀ port, port < 6 → if port ∈ links then t.flag (Reg.SPT_PORT_STATUS port) 0 = false
          else t.reg (Reg.SPT_PORT_STATUS port) = s.reg (Reg.SPT_PORT_STATUS port))
  ∧ (∀ (s : State), s.flag Reg.HIF_STATUS 0 = true →
    ∃ t, exec .clkPcieRefLost s = .next t ∧ t.flag Reg.SYS_CLK_STATUS 3 = false ∧ t.flag Reg.SYS_CLK_EVENTS 3 = true ∧ t.flag Reg.HIF_STATUS 0 = false
      ∧ t.hif.busMaster = false ∧ t.tim = s.tim ∧ t.aln = s.aln ∧ t.dec = s.dec)
  ∧ (∀ (s : State), s.flag Reg.HIF_STATUS 0 = false →
    ∃ t, exec .clkPcieRefLost s = .next t ∧ t.flag Reg.SYS_CLK_STATUS 3 = false ∧ t.flag Reg.SYS_CLK_EVENTS 3 = true ∧ t.flag Reg.HIF_STATUS 0 = false
      ∧ t.hif = s.hif ∧ t.tim = s.tim ∧ t.aln = s.aln ∧ t.dec = s.dec)
  ∧ (∀ (s : State), ∃ t, exec .dramLockLost s = .next t ∧ t.flag Reg.SYS_CLK_STATUS 2 = false ∧ t.flag Reg.SYS_CLK_EVENTS 2 = true ∧ t.hlt.dramLost = true
      ∧ t.dram = s.dram ∧ ∀ a, a ≠ Reg.SYS_CLK_STATUS → a ≠ Reg.SYS_CLK_EVENTS → a ∉ healthRegs → t.reg a = s.reg a)

/-- LINK_UP at a port that is on, after the configuration commit and while its link is down, sets the link-up status and leaves every other port register; LINK_DOWN of a link that is up, for a cause other than a refused partner (3), clears the status, discards the frames queued at the port and counts them; cause 3 on an SGMII port after the commit keeps the link down, and on a port of another mode does nothing. Rests on R43, R481, R58. -/
def Obligations.PortLinkChanges : Prop :=
  (∀ (s : State) (port : Nat), port < 6 → s.portMode port ≠ 0 → s.committed = true → s.flag (Reg.SPT_PORT_STATUS port) 0 = false →
    ∃ t, exec (.linkUp port) s = .next t ∧ t.reg (Reg.SPT_PORT_STATUS port) = 1 ∧ t.ports = s.ports
      ∧ ∀ a, a / 0x100000 = 1 → a ≠ Reg.SPT_PORT_STATUS port → t.reg a = s.reg a)
  ∧ (∀ (s : State) (port cause : Nat), port < 6 → port < s.ports.length → s.portMode port ≠ 0 → s.flag (Reg.SPT_PORT_STATUS port) 0 = true → cause ≠ 3 →
    ∃ t, exec (.linkDown port cause) s = .next t ∧ t.reg (Reg.SPT_PORT_STATUS port) = 0 ∧ (t.port port).txq = []
      ∧ t.reg (Reg.SPT_CNT_TX_LINK_DROP port) = satWord ((s.reg (Reg.SPT_CNT_TX_LINK_DROP port)).toNat + (s.port port).txq.length))
  ∧ (∀ (s : State) (port : Nat), port < 6 → s.portMode port = 4 → s.committed = true →
    ∃ t, exec (.linkDown port 3) s = .next t ∧ t.reg (Reg.SPT_PORT_STATUS port) = 0)
  ∧ (∀ (s : State) (port : Nat), s.portMode port ≠ 4 → exec (.linkDown port 3) s = .next s.showHealth)

/-- LPI_ENTER at a port that may sleep sets its LPI status bit and counts the entry; LPI_WAKE and LPI_FRAME_WAKE clear the bit and hold the port back for the wake time; EEE_TW_UPDATE stores the wake time. Rests on R61, R62, R63. -/
def Obligations.LowPowerIdle : Prop :=
  (∀ (s : State) (port : Nat), port < 6 → s.maySleep port = true →
    ∃ t, exec (.lpiEnter port) s = .next t ∧ t.flag (Reg.SPT_PORT_STATUS port) 1 = true
      ∧ t.reg (Reg.SPT_CNT_LPI_ENTRY port) = satWord ((s.reg (Reg.SPT_CNT_LPI_ENTRY port)).toNat + 1))
  ∧ (∀ (s : State) (port : Nat), port < 4 → port < s.ports.length → s.flag (Reg.SPT_PORT_STATUS port) 1 = true → s.lc0Clear port = false →
    ∃ t, exec (.lpiWake port) s = .next t ∧ t.flag (Reg.SPT_PORT_STATUS port) 1 = false
      ∧ (t.port port).wakeAt = some (s.elapsed + (s.reg (Reg.SPT_EEE_TW port)).toNat))
  ∧ (∀ (s : State) (port : Nat), port < 6 → port < s.ports.length → s.flag (Reg.SPT_PORT_STATUS port) 1 = true → (s.port port).txq ≠ [] →
    ∃ t, exec (.lpiFrameWake port) s = .next t ∧ t.flag (Reg.SPT_PORT_STATUS port) 1 = false
      ∧ (t.port port).wakeAt = some (s.elapsed + (s.reg (Reg.SPT_EEE_TW port)).toNat)
      ∧ t.reg (Reg.SPT_CNT_LPI_LC0_WAKE port) = satWord ((s.reg (Reg.SPT_CNT_LPI_LC0_WAKE port)).toNat
          + ((s.port port).txq.filter (fun f => f.cls == 0)).length))
  ∧ (∀ (s : State) (port tw : Nat), port < 6 →
    ∃ t, exec (.eeeTwUpdate port tw) s = .next t ∧ t.reg (Reg.SPT_EEE_TW port) = Word.ofNat tw)

/-- MAXLEN_WRITE in range stages the value and leaves the register in effect as it is, out of range it stages nothing; SPT_COMMIT makes each named port wait; the receive point makes the staged SPT_MAXLEN the value in effect; the transmit point of a port whose receive side has not passed adopts the staged MAXLEN for transmission. Rests on R7, R46, R47. -/
def Obligations.PortCommits : Prop :=
  (∀ (s : State) (port : Nat) (value : Word), port < 6 → 1518 ≤ bitsOf value 13 0 → bitsOf value 13 0 ≤ 9600 →
    ∃ t, exec (.maxlenWrite port value) s = .next t ∧ kvGet t.shadow (Reg.SPT_MAXLEN port) = some (value &&& 0x3FFF#32)
      ∧ t.reg (Reg.SPT_MAXLEN port) = s.reg (Reg.SPT_MAXLEN port))
  ∧ (∀ (s : State) (port : Nat) (value : Word), port < 6 → ¬(1518 ≤ bitsOf value 13 0 ∧ bitsOf value 13 0 ≤ 9600) →
    ∃ t, exec (.maxlenWrite port value) s = .next t ∧ t.shadow = s.shadow ∧ t.reg (Reg.SPT_MAXLEN port) = s.reg (Reg.SPT_MAXLEN port))
  ∧ (∀ (s : State) (mask : Word),
    ∃ t, exec (.sptCommit mask) s = .next t
      ∧ ∀ port, port < 6 → t.flag Reg.SPT_COMMIT port = (s.flag Reg.SPT_COMMIT port || mask.getLsbD port))
  ∧ (∀ (s : State) (port : Nat), port < 6 → s.flag Reg.SPT_COMMIT port = true →
    ∃ t, exec (.sptCommitPoint port false) s = .next t ∧ t.reg (Reg.SPT_MAXLEN port) = s.staged (Reg.SPT_MAXLEN port))
  ∧ (∀ (s : State) (port : Nat), port < 6 → port < s.ports.length → s.flag Reg.SPT_COMMIT port = true → (s.port port).rxPassed = false →
    ∃ t, exec (.sptCommitPoint port true) s = .next t ∧ (t.port port).txMaxlen = bitsOf (s.staged (Reg.SPT_MAXLEN port)) 13 0
      ∧ t.shadow = s.shadow)

/-- RXR_ENABLE on a ring whose EN is 0 sets EN and sets HEAD to 0; on a ring already enabled HEAD stays; RXR_DISABLE clears EN and leaves HEAD. Rests on R56. -/
def Obligations.RingEnable : Prop :=
  (∀ (s : State) (port ring : Nat) (value : Word), port < 6 → ring < 32 → s.flag (Reg.SPT_RXR_CTRL port ring) 0 = false →
    ∃ t, exec (.rxrEnable port ring value) s = .next t ∧ t.flag (Reg.SPT_RXR_CTRL port ring) 0 = true
      ∧ t.reg (Reg.SPT_RXR_HEAD port ring) = 0)
  ∧ (∀ (s : State) (port ring : Nat) (value : Word), port < 6 → ring < 32 → s.flag (Reg.SPT_RXR_CTRL port ring) 0 = true →
    ∃ t, exec (.rxrEnable port ring value) s = .next t ∧ t.flag (Reg.SPT_RXR_CTRL port ring) 0 = true
      ∧ t.reg (Reg.SPT_RXR_HEAD port ring) = s.reg (Reg.SPT_RXR_HEAD port ring))
  ∧ (∀ (s : State) (port ring : Nat) (value : Word), port < 6 → ring < 32 →
    ∃ t, exec (.rxrDisable port ring value) s = .next t ∧ t.flag (Reg.SPT_RXR_CTRL port ring) 0 = false
      ∧ t.reg (Reg.SPT_RXR_HEAD port ring) = s.reg (Reg.SPT_RXR_HEAD port ring))

/-- TX_FRAME sends the oldest frame of the highest-priority queue and counts it (stated for frames that are no PTP message, whose follow-up joins the queue); a host frame longer than MAXLEN - 4 as its transmission begins is refused, counted and leaves the queue; HOST_TX_DESCRIPTOR advances the head, a descriptor of a latency class queues its frame on a port whose link is up and that is in no pair and leaves host memory as it is, and one of class 0 is counted and written back with ERR, and nothing else in host memory changes; TXTS_POP takes the head stamp, or reads 0 from an empty queue; TXTS_STAT_CLEAR clears OVF and LOST; SUP_POOL_DRAIN takes the oldest supervisor frame and gives its cells back. Rests on R57, R58, R59, R60, R53. -/
def Obligations.Transmitting : Prop :=
  (∀ (s : State) (port : Nat) (f : TxFrame), port < 6 → port < s.ports.length → s.maySend port = true → nextTx (s.port port).txq = some f →
      s.txTooLong port f = false → (∀ k n x, f.body ≠ .ptp k n x) →
    ∃ t, exec (.txFrame port) s = .next t ∧ (t.port port).lastTx = some f ∧ (t.port port).txq = (s.port port).txq.erase f
      ∧ t.reg (Reg.SPT_CNT_TX_FRAMES port) = satWord ((s.reg (Reg.SPT_CNT_TX_FRAMES port)).toNat + 1))
  ∧ (∀ (s : State) (port : Nat) (f : TxFrame), port < 6 → port < s.ports.length → s.maySend port = true → nextTx (s.port port).txq = some f →
      s.txTooLong port f = true →
    ∃ t, exec (.txFrame port) s = .next t ∧ (t.port port).lastTx = (s.port port).lastTx ∧ (t.port port).txq = (s.port port).txq.erase f
      ∧ t.reg (Reg.SPT_CNT_TX_REJECT port) = satWord ((s.reg (Reg.SPT_CNT_TX_REJECT port)).toNat + 1)
      ∧ t.reg (Reg.SPT_CNT_TX_FRAMES port) = s.reg (Reg.SPT_CNT_TX_FRAMES port))
  ∧ (∀ (s : State) (port ring : Nat) (d : TxDesc), port < 6 → ring < 8 → port < s.ports.length → s.linkIsUp port = true → s.paired port = false →
      s.flag (Reg.SPT_TXR_CTRL port ring) 0 = true → s.hif.busMaster = true →
      (s.reg (Reg.SPT_TXR_HEAD port ring)).toNat % ringSize (s.reg (Reg.SPT_TXR_CTRL port ring))
        ≠ (s.reg (Reg.SPT_TXR_TAIL port ring)).toNat % ringSize (s.reg (Reg.SPT_TXR_CTRL port ring)) → d.cls ≠ 0 →
      let at_ := s.pair (Reg.SPT_TXR_BASE_LO port ring) (Reg.SPT_TXR_BASE_HI port ring) + 16 * (s.reg (Reg.SPT_TXR_HEAD port ring)).toNat
    ∃ t, exec (.hostTxDescriptor port ring d) s = .next t
      ∧ t.reg (Reg.SPT_TXR_HEAD port ring)
        = Word.ofNat (((s.reg (Reg.SPT_TXR_HEAD port ring)).toNat + 1) % ringSize (s.reg (Reg.SPT_TXR_CTRL port ring)))
      ∧ (t.port port).txq = (s.port port).txq ++ [TxFrame.mk (d.cls.toNat + 1) (max d.len 60 + 4) none (.host d port ring at_)]
      ∧ t.hostMem = s.hostMem)
  ∧ (∀ (s : State) (port ring : Nat) (d : TxDesc), port < 6 → ring < 8 → s.portMode port ≠ 0 → s.flag (Reg.SPT_TXR_CTRL port ring) 0 = true →
      s.hif.busMaster = true →
      (s.reg (Reg.SPT_TXR_HEAD port ring)).toNat % ringSize (s.reg (Reg.SPT_TXR_CTRL port ring))
        ≠ (s.reg (Reg.SPT_TXR_TAIL port ring)).toNat % ringSize (s.reg (Reg.SPT_TXR_CTRL port ring)) → d.cls = 0 →
    ∃ t, exec (.hostTxDescriptor port ring d) s = .next t
      ∧ t.reg (Reg.SPT_TXR_HEAD port ring)
        = Word.ofNat (((s.reg (Reg.SPT_TXR_HEAD port ring)).toNat + 1) % ringSize (s.reg (Reg.SPT_TXR_CTRL port ring)))
      ∧ t.reg (Reg.SPT_CNT_TX_REJECT port) = satWord ((s.reg (Reg.SPT_CNT_TX_REJECT port)).toNat + 1)
      ∧ ∀ a, let at_ := s.pair (Reg.SPT_TXR_BASE_LO port ring) (Reg.SPT_TXR_BASE_HI port ring)
            + 16 * (s.reg (Reg.SPT_TXR_HEAD port ring)).toNat
          t.hostByte a = if at_ ≤ a ∧ a < at_ + 16 then (txWriteBack d true).getD (a - at_) 0 else s.hostByte a)
  ∧ (∀ (s : State) (port : Nat) (id : Half) (stamp : Nat) (r : List (Half × Nat)), port < 6 → port < s.ports.length → (s.port port).txts = (id, stamp) :: r →
    ∃ t, exec (.txtsPop port) s = .next t ∧ (t.port port).txts = r ∧ t.readData = [Word.ofNat (id.toNat + 2 ^ 16)]
      ∧ t.reg (Reg.SPT_TXTS_LO port) = Word.ofNat stamp ∧ t.reg (Reg.SPT_TXTS_HI port) = Word.ofNat (stamp / 2 ^ 32))
  ∧ (∀ (s : State) (port : Nat), (s.port port).txts = [] → ∃ t, exec (.txtsPop port) s = .next t ∧ t.readData = [0] ∧ t.ports = s.ports)
  ∧ (∀ (s : State) (port : Nat), port < 6 →
    ∃ t, exec (.txtsStatClear port) s = .next t ∧ t.flag (Reg.SPT_TXTS_STAT port) 8 = false ∧ t.field (Reg.SPT_TXTS_STAT port) 31 16 = 0
      ∧ t.field (Reg.SPT_TXTS_STAT port) 4 0 = s.field (Reg.SPT_TXTS_STAT port) 4 0)
  ∧ (∀ (s : State) (port : Nat) (x : PoolFrame), port < 6 → port < s.ports.length → (s.port port).pool.find? (fun y => y.cls == .sup) = some x →
    ∃ t, exec (.supPoolDrain port) s = .next t ∧ (t.port port).pool = (s.port port).pool.erase x
      ∧ (t.port port).supFree = (s.port port).supFree + x.shared)

/-- RX_FRAME of a frame that passes the checks of coding, length and FCS on a port whose link is up raises SPT_CNT_RX_FRAMES by one; a frame with a coding error, one shorter than 64 bytes, one longer than MAXLEN or one with a bad FCS raises only the counter of the first check it fails, and changes nothing else of the ports. Rests on R45, R46. -/
def Obligations.ReceivedFrames : Prop :=
  (∀ (s : State) (port : Nat) (f : RxFrame), port < 6 → s.linkIsUp port = true → f.codingOk = true → 63 < f.length →
      f.length ≤ s.field (Reg.SPT_MAXLEN port) 13 0 → f.fcsOk = true →
    ∃ t, exec (.rxFrame port f) s = .next t
      ∧ t.reg (Reg.SPT_CNT_RX_FRAMES port) = satWord ((s.reg (Reg.SPT_CNT_RX_FRAMES port)).toNat + 1))
  ∧ (∀ (s : State) (port : Nat) (f : RxFrame), port < 6 → s.linkIsUp port = true →
      (f.codingOk = false ∨ f.length ≤ 63 ∨ s.field (Reg.SPT_MAXLEN port) 13 0 < f.length ∨ f.fcsOk = false) →
    ∃ t, exec (.rxFrame port f) s = .next t ∧ t.ports = s.ports ∧ t.pairs = s.pairs ∧
      let c := if f.codingOk = false then Reg.SPT_CNT_RX_CODE port else if f.length ≤ 63 then Reg.SPT_CNT_RX_RUNT port
        else if s.field (Reg.SPT_MAXLEN port) 13 0 < f.length then Reg.SPT_CNT_RX_OVERSIZE port else Reg.SPT_CNT_RX_FCS port
      t.reg c = satWord ((s.reg c).toNat + 1) ∧ ∀ a, a ≠ c → a ∉ healthRegs → t.reg a = s.reg a)

/-- PRP_ENTRY_EXPIRE leaves no entry of the address that has been unused for 400 ms and keeps every other entry; PRP_LAN_SILENT sets the silent bit of an enabled pair whose LAN has been silent for the timeout while the other received later; PRP_SUPERVISION_TX, 2,000 ms after the last one, queues the frame on both ports of an enabled pair whose links are up, with one sequence number and LANs A and B, and before does nothing. Rests on R49, R50, R51. -/
def Obligations.PrpPairs : Prop :=
  (∀ (s : State) (pair : Nat) (mac : BitVec 48), pair < s.pairs.length →
    ∃ t, exec (.prpEntryExpire pair mac) s = .next t
      ∧ ∀ e, e ∈ (t.prp pair).table ↔ e ∈ (s.prp pair).table ∧ (e.mac = mac → s.elapsed < e.lastUse + 400000000))
  ∧ (∀ (s : State) (pair : Nat) (lanB : Bool), pair < 2 → s.flag (Reg.SPT_PRP_CTRL pair) 0 = true →
      s.flag (Reg.SPT_PRP_STAT pair) (bit lanB) = false →
      (if lanB then (s.prp pair).lastRxB else (s.prp pair).lastRxA) < (if lanB then (s.prp pair).lastRxA else (s.prp pair).lastRxB) →
      (if lanB then (s.prp pair).lastRxB else (s.prp pair).lastRxA) + (s.reg (Reg.SPT_PRP_TIMEOUT (2 * pair))).toNat * 1000000 ≤ s.elapsed →
    ∃ t, exec (.prpLanSilent pair lanB) s = .next t ∧ t.flag (Reg.SPT_PRP_STAT pair) (bit lanB) = true)
  ∧ (∀ (s : State) (pair : Nat), pair < 2 → s.ports.length = 6 → pair < s.pairs.length → s.flag (Reg.SPT_PRP_CTRL pair) 0 = true →
      s.supervisionDue pair = true → s.linkIsUp (2 * pair) = true → s.linkIsUp (2 * pair + 1) = true →
    ∃ t, exec (.prpSupervisionTx pair) s = .next t
      ∧ (t.port (2 * pair)).txq = (s.port (2 * pair)).txq ++ [TxFrame.mk 1 70 (some ((s.prp pair).txSeq, 0xA)) .supervision]
      ∧ (t.port (2 * pair + 1)).txq = (s.port (2 * pair + 1)).txq ++ [TxFrame.mk 1 70 (some ((s.prp pair).txSeq, 0xB)) .supervision]
      ∧ (t.prp pair).txSeq = (s.prp pair).txSeq + 1 ∧ (t.prp pair).lastSup = some s.elapsed)
  ∧ (∀ (s : State) (pair last : Nat), (s.prp pair).lastSup = some last → s.elapsed < last + 2000000000 →
    exec (.prpSupervisionTx pair) s = .next s.showHealth)

/-- Each of the four kinds of frame leaves its receive pool first. C37_DATA_FRAME, SV_FRAME, GOOSE_FRAME and SESSION_PDU (that is supported) whose match key no entry has raise DEC_CNT_UNKNOWN and change no stream. A C37.118.2 frame of a VALID entry that passes the checks of R73, lies on the grid, is no duplicate and is not early raises DEC_CNT_FRAMES, its entry's counter and its entry's stamp, and its slots are delivered to the row of its tag. A sampled-values frame of a VALID entry with the entry's number of ASDUs, at most 32 pairs in each (the model's reading, log entry 35) and its confRev raises DEC_CNT_FRAMES and its entry's counter and stamp, and each ASDU is taken in order. A GOOSE message of a VALID entry with its confRev and element types, the first of its entry, raises DEC_CNT_FRAMES and its entry's counter, becomes the entry's last message, is seen by the topology, triggers the graphs of its event, and updates destinations. An unsigned session PDU of an entry without keys whose SPDU number is ahead of the last becomes the last and its payload is taken; a tunnelled one is counted in DEC_CNT_UNSUPPORTED and changes no stream. Rests on R66, R67, R73, R75, R77, R80, R81, R84, R85. -/
def Obligations.StreamFrames : Prop :=
  (∀ (s : State) (f : C37Frame), f.tcp = false → s.entryOf (.c37 (c37Idcode f) f.dport f.ip) (· == .c37) = none →
    ∃ t, exec (.c37DataFrame f) s = .next t ∧ t.reg Reg.DEC_CNT_UNKNOWN = satWord ((s.reg Reg.DEC_CNT_UNKNOWN).toNat + 1) ∧ t.dec = s.dec)
  ∧ (∀ (s : State) (f : C37Frame) (i : Nat) (e : StreamEntry) (p : Nat × Nat), f.tcp = false →
      s.entryOf (.c37 (c37Idcode f) f.dport f.ip) (· == .c37) = some (i, e) → e.state = .valid → c37ChkOk f = true → (c37Version f = 1 ∨ c37Version f = 2) →
      c37Size f = e.cfg.frameSize → statFalls e.stat10 (stat10Of f) = false → statRises e.stat10 (stat10Of f) = false →
      let u := (s.takeDec f.port f.stamp).modStream i (fun e => { e with stat10 := stat10Of f })
      let g := e.cfg.rg
      bitsOf (c37Fracsec f) 23 0 < e.cfg.rate →
      placeTag (u.rate g) e.cfg.reportRate (u.taiOfSoc (c37Soc f) (c37Fracsec f) * 1000000000
        + ((2 * bitsOf (c37Fracsec f) 23 0 * 1000000000 + e.cfg.rate) / (2 * max 1 e.cfg.rate) : Nat) : Int).toNat = .on p →
      dupMarked { e with stat10 := stat10Of f } (u.rate g) p = false → u.isFuture g f.stamp p = false →
    exec (.c37DataFrame f) s = .next (((((((u.bump Reg.DEC_CNT_FRAMES).bumpStream i 0).bumpBy Reg.DEC_CNT_RANGE
        (u.c37Slots i { e with stat10 := stat10Of f } f (gridTag (u.rate g) p.1 p.2)).2).modStream i (fun e => { e with lastStamp := f.stamp })).deliver g i f.stamp p
        (u.c37Slots i { e with stat10 := stat10Of f } f (gridTag (u.rate g) p.1 p.2)).1).oscDue).showHealth))
  ∧ (∀ (s : State) (f : SvFrame), s.entryOf (.sv f.appid f.svIdLen f.svIdCrc f.dmac) (fun y => y == .sv92 || y == .sv61869) = none →
    ∃ t, exec (.svFrame f) s = .next t ∧ t.reg Reg.DEC_CNT_UNKNOWN = satWord ((s.reg Reg.DEC_CNT_UNKNOWN).toNat + 1) ∧ t.dec = s.dec)
  ∧ (∀ (s : State) (f : SvFrame) (i : Nat) (e : StreamEntry),
      s.entryOf (.sv f.appid f.svIdLen f.svIdCrc f.dmac) (fun y => y == .sv92 || y == .sv61869) = some (i, e) → e.state = .valid →
      f.asdus.length = e.cfg.units → (∀ a, a ∈ f.asdus → a.data.length ≤ 32 ∧ revMatches e a.confRev = true) →
    exec (.svFrame f) s = .next (f.asdus.foldl (fun (s : State) a => s.takeAsdu i e f false a)
      ((((s.takeDec f.port f.stamp).bump Reg.DEC_CNT_FRAMES).bumpStream i 0).modStream i (fun e => { e with lastStamp := f.stamp, revFailed := false }))).showHealth)
  ∧ (∀ (s : State) (f : GooseFrame), s.entryOf (.goose f.appid f.refLen f.refCrc f.dmac) (· == .goose) = none →
    ∃ t, exec (.gooseFrame f) s = .next t ∧ t.reg Reg.DEC_CNT_UNKNOWN = satWord ((s.reg Reg.DEC_CNT_UNKNOWN).toNat + 1) ∧ t.dec = s.dec)
  ∧ (∀ (s : State) (f : GooseFrame) (i : Nat) (e : StreamEntry), s.entryOf (.goose f.appid f.refLen f.refCrc f.dmac) (· == .goose) = some (i, e) →
      e.state = .valid → kvGet s.dec.streams i = some e → revMatches e f.confRev = true → f.elems.map (fun x => x.1) = e.cfg.elems →
      e.goose = none → e.talLogged = false →
      let x : GooseLast := { stamp := f.stamp, tal := f.tal.toNat, stNum := f.stNum, test := f.test || f.simulation, ndsCom := f.ndsCom
                             timeBad := f.timeBad, vals := f.elems.map (fun v => v.2), auth := false }
      let u := (((s.takeDec f.port f.stamp).bump Reg.DEC_CNT_FRAMES).bumpStream i 0).modStream i (fun e => { e with
        stNum := f.stNum, sqNum := f.sqNum, tal := f.tal, lastStamp := f.stamp, revFailed := false, talLogged := false, goosePrev := none, goose := some x })
      let vals := (u.streamMap e).map (fun c => (c.1, (u.elemSlot i { e with goosePrev := none, goose := some x } f.stamp c.2).1.a))
    exec (.gooseFrame f) s = .next (((u.topGoose f.stamp vals).triggerGraphs (.event i) f.stamp none none).updateDests).showHealth)
  ∧ (∀ (s : State) (p : SessionPdu) (f : SvFrame) (i : Nat) (e : StreamEntry), p.payload = .sv f → p.encAlg = 0 → p.sigAlg = 0 → e.cfg.curSlot = 0xFFFF →
      s.entryOf (.sv f.appid f.svIdLen f.svIdCrc f.dmac) (fun y => y == StreamType.rsv) = some (i, e) → e.state = .valid →
      (e.anySpdu = true → 0 < (p.spdu - e.lastSpdu).toNat ∧ (p.spdu - e.lastSpdu).toNat < 2 ^ 31) →
    exec (.sessionPdu p) s = .next (((s.takeDec f.port f.stamp).modStream i (fun e => { e with
      lastSpdu := p.spdu, anySpdu := true, authFailed := false, keyStale := false })).takeSv i e f false).showHealth)
  ∧ (∀ (s : State) (p : SessionPdu) (port stamp : Nat), p.payload = .tunnelled port stamp →
    ∃ t, exec (.sessionPdu p) s = .next t ∧ t.reg Reg.DEC_CNT_UNSUPPORTED = satWord ((s.reg Reg.DEC_CNT_UNSUPPORTED).toNat + 1) ∧ t.dec = s.dec)

/-- ST_DISABLE makes the selected entry DISABLED, at once where its group does not run and at the next row boundary otherwise; ST_ENABLE makes a DISABLED entry VALID likewise; ST_REPARSE starts a re-parse of an INVALID or REJECTED synchrophasor entry; REPARSE_ATTEMPT counts its attempt; CFG_FRAME_RX with a condition that fails rejects the entry; REPARSE_RETRY starts again after 60 s. Rests on R76, R482, R66. -/
def Obligations.StreamStates : Prop :=
  (∀ (s : State) (e : StreamEntry), kvGet s.dec.streams s.selStream = some e → e.cfg.typ ≠ .unused →
    ∃ t x, exec .stDisable s = .next t ∧ kvGet t.dec.streams s.selStream = some x
      ∧ (if (s.group e.cfg.rg).isSome then x.pendState = some .disabled else x.state = .disabled))
  ∧ (∀ (s : State) (e : StreamEntry), kvGet s.dec.streams s.selStream = some e → e.cfg.typ ≠ .unused → e.state = .disabled →
    ∃ t x, exec .stEnable s = .next t ∧ kvGet t.dec.streams s.selStream = some x
      ∧ (if (s.group e.cfg.rg).isSome then x.pendState = some .valid else x.state = .valid))
  ∧ (∀ (s : State) (e : StreamEntry), kvGet s.dec.streams s.selStream = some e → e.withdrawn = true → e.cfg.typ = .c37 →
    ∃ t, exec .stReparse s = .next t ∧ kvGet t.dec.streams s.selStream = some { e with reparse := some (0, s.elapsed) })
  ∧ (∀ (s : State) (stream n last : Nat) (e : StreamEntry), kvGet s.dec.streams stream = some e → e.reparse = some (n, last) → e.withdrawn = true →
      n < 3 → (n = 0 ∨ last + 2000000000 ≤ s.elapsed) →
    ∃ t, exec (.reparseAttempt stream) s = .next t ∧ kvGet t.dec.streams stream = some { e with reparse := some (n + 1, s.elapsed) })
  ∧ (∀ (s : State) (stream : Nat) (f : CfgFrame) (e : StreamEntry), kvGet s.dec.streams stream = some e → e.withdrawn = true → e.reparse.isSome = true →
      s.cfgCondition e f ≠ 0 →
    exec (.cfgFrameRx stream f) s = .next (((s.modStream stream (fun e => { e with reparse := none, retryAt := some (s.elapsed + 60000000000) })).setStreamState
      stream .rejected).log 0x0304 2 (leBytes 2 stream ++ leBytes 1 (s.cfgCondition e f))).showHealth)
  ∧ (∀ (s : State) (stream : Nat) (f : CfgFrame) (e : StreamEntry), kvGet s.dec.streams stream = some e → e.withdrawn = true → e.reparse.isSome = true →
      s.cfgCondition e f = 0 → s.group e.cfg.rg = none →
    ∃ t x, exec (.cfgFrameRx stream f) s = .next t ∧ kvGet t.dec.streams stream = some x ∧ x.state = .valid
      ∧ x.cfg.frameSize = f.frameSize ∧ x.cfg.cfgCnt = f.cfgCnt)
  ∧ (∀ (s : State) (stream at_ : Nat) (e : StreamEntry), kvGet s.dec.streams stream = some e → e.retryAt = some at_ → e.state = .rejected →
      e.cfg.typ = .c37 → at_ ≤ s.elapsed →
    ∃ t, exec (.reparseRetry stream) s = .next t
      ∧ kvGet t.dec.streams stream = some { e with retryAt := some (at_ + 60000000000), reparse := some (0, s.elapsed) })

/-- OUT_CMD_ON and OUT_CMD_OFF set and clear the transmission bits; the four SEND commands send the frame asked for, of the stream's record and the settings in effect, to its command channel, or to its destination where it has none: on a port of no pair whose link is up the frame joins the port's queue; OUT_CHANGE_APPLY at its boundary puts the committed values in effect and clears STAT[10]; OUTPUT_STREAM_FRAME of a row that is ready counts one frame and remembers the tag; RSV_PUBLISH with a usable key advances the SPDU number and counts; DEC_COMMIT of a device whose four rate groups run sets the commit bit exactly where something is staged that a row boundary commits. Rests on R83, R86, R87, R89, R90. -/
def Obligations.OutputStreams : Prop :=
  (∀ (s : State) (o : Nat) (x : OutState), o < 64 → s.out o = some x →
    ∃ t y, exec (.outCmdOn o) s = .next t ∧ t.out o = some y ∧ y.on = true
      ∧ t.flag (Reg.DEC_OUT_STATUS o) 0 = true ∧ t.flag (Reg.DEC_OUT_CTRL o) 1 = true)
  ∧ (∀ (s : State) (o : Nat) (x : OutState), o < 64 → s.out o = some x →
    ∃ t y, exec (.outCmdOff o) s = .next t ∧ t.out o = some y ∧ y.on = false
      ∧ t.flag (Reg.DEC_OUT_STATUS o) 0 = false ∧ t.flag (Reg.DEC_OUT_CTRL o) 1 = false)
  ∧ (∀ (s : State) (o : Nat) (x : OutState), s.out o = some x → s.drives = true →
      let sent := fun kind => (s.sendTo (x.cfg.command.getD x.cfg.dest) 1
        (Config.frameLen kind (sumNat (x.cfg.blocks.map (fun b => (outChans b).length)))) (s.outConfig x kind)).showHealth
      exec (.outCmdSendHdr o) s = .next (sent 0) ∧ exec (.outCmdSendCfg1 o) s = .next (sent 1)
        ∧ exec (.outCmdSendCfg2 o) s = .next (sent 2) ∧ exec (.outCmdSendCfg3 o) s = .next (sent 3))
  ∧ (∀ (s : State) (o p kind : Nat) (c : Instr) (x : OutState), s.out o = some x → s.drives = true → x.cfg.command.getD x.cfg.dest = .port p →
      p < s.ports.length → s.linkIsUp p = true → s.paired p = false →
      (c = .outCmdSendHdr o ∧ kind = 0 ∨ c = .outCmdSendCfg1 o ∧ kind = 1 ∨ c = .outCmdSendCfg2 o ∧ kind = 2 ∨ c = .outCmdSendCfg3 o ∧ kind = 3) →
    ∃ t, exec c s = .next t ∧ (t.port p).txq = (s.port p).txq ++ [TxFrame.mk 1
      (max (Config.frameLen kind (sumNat (x.cfg.blocks.map (fun b => (outChans b).length)))) 60 + 4) none (s.outConfig x kind)])
  ∧ (∀ (s : State) (o at_ : Nat) (x : OutState), o < 64 → s.out o = some x → x.pendAt = some at_ → at_ ≤ s.now →
    ∃ t, exec (.outChangeApply o) s = .next t ∧ t.reg (Reg.DEC_OUT_WAIT o) = x.pendWait ∧ t.flag (Reg.DEC_OUT_STATUS o) 1 = false
      ∧ t.reg (Reg.DEC_OUT_CTRL o) = (s.reg (Reg.DEC_OUT_CTRL o) &&& 3) ||| (x.pendCtrl &&& 0xFF30#32))
  ∧ (∀ (s : State) (o tag : Nat) (x : OutState), o < 64 → s.out o = some x → x.cfg.id = o → s.drives = true → tag ≤ s.now →
      s.outSends x tag = true → s.outReady x tag = true →
    ∃ t y, exec (.outputStreamFrame o tag) s = .next t ∧ t.out o = some y ∧ y.lastTag = some tag
      ∧ t.reg (Reg.DEC_OUT_CNT_TX o) = satWord ((s.reg (Reg.DEC_OUT_CNT_TX o)).toNat + 1))
  ∧ (∀ (s : State) (p tag : Nat) (x : RsvState) (q : Nat × Nat), p < 32 → s.dec.rsvs.find? (fun y => y.cfg.id == p) = some x → s.drives = true →
      s.flag (Reg.DEC_RSV_CTRL p) 0 = true → [1, 2, 4, 5].contains (s.field (Reg.DEC_RSV_CTRL p) 10 8) = true →
      (∀ last, x.lastTag = some last → last < tag) → gridNear (s.rate x.cfg.rg) tag = some q → gridTag (s.rate x.cfg.rg) q.1 q.2 = tag → tag ≤ s.now →
      s.caddyCheck { id := 0, master := .pubAuth, secure := true, slot := x.cfg.slot, use := .macGenerate, data := [] } = none →
    ∃ t, exec (.rsvPublish p tag) s = .next t ∧ t.reg (Reg.DEC_RSV_SPDU p) = s.reg (Reg.DEC_RSV_SPDU p) + 1
      ∧ t.reg (Reg.DEC_RSV_CNT_TX p) = satWord ((s.reg (Reg.DEC_RSV_CNT_TX p)).toNat + 1))
  ∧ (∀ (s : State), (∀ g, g < 4 → (s.group g).isSome = true) → ∃ t, exec .decCommit s = .next t
      ∧ (t.flag Reg.DEC_COMMIT 0 = true ↔ ∃ g, g < 4 ∧ s.decStaged g = true))

/-- TIME_ROLLOVER in the tick in which TIM_NS wraps raises TIM_TIME_HI by one and sets ROLL; TIME_STEP in mode HOST adds the signed 64-bit offset modulo 2^64; INC_WRITE in mode HOST and within 200 ppm makes the written increment the one in effect; in another mode both change neither time nor increment. Rests on R93, R94, R96. -/
def Obligations.DeviceTime : Prop :=
  (∀ (s : State), 2 ^ 32 ≤ s.nsSum → s.nsSum < 2 ^ 33 →
    ∃ t, exec .timeRollover s = .next t ∧ t.tim.hi = s.tim.hi + 1 ∧ t.tim.ns = Word.ofNat s.nsSum ∧ t.flag Reg.TIM_EVT 0 = true)
  ∧ (∀ (s : State) (hi : Word), s.hostMode = true →
    ∃ t, exec (.timeStep hi) s = .next t
      ∧ t.now = (((s.now : Int) + (hi ++ (kvGet s.loHold Reg.TIM_ADJ_LO).getD 0 : BitVec 64).toInt) % 2 ^ 64).toNat)
  ∧ (∀ (s : State) (hi : Word), s.hostMode = false → ∃ t, exec (.timeStep hi) s = .next t ∧ t.tim = s.tim)
  ∧ (∀ (s : State) (hi : Word), s.hostMode = true →
      let v : Nat := (hi.toNat % 256) * 2 ^ 32 + (s.lowHalf Reg.TIM_INC_LO).toNat
      exceeds ((v : Int) - incNominal) incLimit.toNat = false →
    ∃ t, exec (.incWrite hi) s = .next t ∧ t.inc = v)
  ∧ (∀ (s : State) (hi : Word), s.hostMode = false → ∃ t, exec (.incWrite hi) s = .next t ∧ t.inc = s.inc)

/-- HOST_SYNC_WRITE of 0 to 3 in mode HOST sets the synchronisation state; EXTENSION_CHECK beyond 1 ms makes it FREE, within 1 ms it only takes its new reference; SOURCE_TIMEOUT in mode AUTO makes LOCKED HOLDOVER and ACQUIRING FREE; a PTP message that reaches the supervisor and is not supported (version, domain, transport) is counted and changes nothing of the clock, a supported one takes effect, and an Announce is kept among those of the last 3 s; a bad IRIG frame is counted and ends the run of frames, the first good one is remembered, and one of the next second measures against its edge; the first edge of PPS_IN is remembered, one 0.999 to 1.001 s after the last measures against the nearest second; a missing one counts; a source fault ends and PPS_OUT returns inactive at its time; ANNOUNCE_TIMEOUT drops the Announces older than 3 s. Rests on R97, R99, R102, R104, R105, R107. -/
def Obligations.TimeSources : Prop :=
  (∀ (s : State) (value : Word), s.hostMode = true → bitsOf value 2 0 ≤ 3 →
    ∃ t, exec (.hostSyncWrite value) s = .next t ∧ t.syncState = bitsOf value 2 0)
  ∧ (∀ (s : State), exceeds ((s.now : Int) - ((s.tim.checkDt + (s.tim.ticks - s.tim.checkTicks) * s.inc / 2 ^ 32 : Nat) : Int)) 1000000 = true →
    ∃ t, exec .extensionCheck s = .next t ∧ t.syncState = 0)
  ∧ (∀ (s : State), exceeds ((s.now : Int) - ((s.tim.checkDt + (s.tim.ticks - s.tim.checkTicks) * s.inc / 2 ^ 32 : Nat) : Int)) 1000000 = false →
    ∃ t, exec .extensionCheck s = .next t ∧ t.tim = { s.tim with checkDt := s.now, checkTicks := s.tim.ticks } ∧ t.syncState = s.syncState)
  ∧ (∀ (s : State), s.hostMode = false → s.tim.lastMeas + s.srcTimeout ≤ s.elapsed →
    ∃ t, exec .sourceTimeout s = .next t
      ∧ t.syncState = (if s.syncState = 2 then 3 else if s.syncState = 1 then 0 else s.syncState))
  ∧ (∀ (s : State) (m : PtpMsg), s.ptpReaches m = true → s.ptpSupported m = false →
    ∃ t, exec (.ptpMessage m) s = .next t ∧ t.reg Reg.TIM_CNT_PTP_BAD = satWord ((s.reg Reg.TIM_CNT_PTP_BAD).toNat + 1) ∧ t.tim = s.tim)
  ∧ (∀ (s : State) (m : PtpMsg) (d : PtpDataset), s.ptpReaches m = true → s.ptpSupported m = true → m.body = .announce d →
    ∃ t, exec (.ptpMessage m) s = .next t
      ∧ t.tim.announces = (putAnnounce s.tim.announces m.port d s.elapsed).filter (fun x => decide (s.elapsed < x.2.2 + 3000000000)))
  ∧ (∀ (s : State) (m : PtpMsg), s.ptpReaches m = true → s.ptpSupported m = true → exec (.ptpMessage m) s = .next (s.ptpBody m.port m.body).showHealth)
  ∧ (∀ (s : State) (f : IrigFrame), s.flag Reg.TIM_IRIG_CTRL 0 = true → s.irigOk f = false →
    ∃ t, exec (.irigFrame f) s = .next t ∧ t.tim = { s.tim with irig := none }
      ∧ t.reg Reg.TIM_CNT_IRIG_BAD = satWord ((s.reg Reg.TIM_CNT_IRIG_BAD).toNat + 1))
  ∧ (∀ (s : State) (f : IrigFrame), s.flag Reg.TIM_IRIG_CTRL 0 = true → s.irigOk f = true → s.tim.irig = none →
    ∃ t, exec (.irigFrame f) s = .next t ∧ t.tim = { s.tim with irig := some ((s.irigUtc f).toNat, f.edge, false), irigAt := s.elapsed })
  ∧ (∀ (s : State) (f : IrigFrame) (u e : Nat) (b : Bool), s.flag Reg.TIM_IRIG_CTRL 0 = true → s.flag Reg.TIM_IRIG_CTRL 2 = false → s.irigOk f = true →
      s.tim.irig = some (u, e, b) → (s.irigUtc f).toNat = u + 1 →
      let v : State := { s with tim := { s.tim with irig := some (u + 1, f.edge, true), irigAt := s.elapsed } }
      let m := v.measure 2 ((((u + 1 : Nat) : Int) + offsetUtc v.utcChanges.1 v.utcChanges.2 ((u + 1 : Nat) : Int)) * 1000000000
        - ((f.edge : Int) - s.field Reg.TIM_IRIG_CTRL 31 16)) (v.irigBound f.tq).1 (v.irigBound f.tq).2
    exec (.irigFrame f) s = .next (if m.source = 2 then m.setFlag Reg.TIM_TAI_UTC 16 false else m).showHealth)
  ∧ (∀ (s : State), s.tim.pps = none →
    ∃ t, exec .ppsInEdge s = .next t ∧ t.tim.pps = some (s.elapsed, false) ∧ t.tim.lastPps = s.elapsed)
  ∧ (∀ (s : State) (at_ : Nat) (ok : Bool), s.tim.pps = some (at_, ok) → 999000000 ≤ s.elapsed - at_ → s.elapsed - at_ ≤ 1001000000 →
      let v := ({ s with tim := { s.tim with pps := some (s.elapsed, true), lastPps := s.elapsed } } : State).ppsWave
      let x : Int := (v.now : Int) - (v.field Reg.TIM_PPS_IN 31 16 : Int)
    exec .ppsInEdge s = .next (v.measure 3 ((x + 500000000) / 1000000000 * 1000000000 - x) (v.field Reg.TIM_PPS_IN 15 4) (v.flag Reg.TIM_PPS_IN 1)).showHealth)
  ∧ (∀ (s : State) (at_ : Nat) (ok : Bool), s.tim.pps = some (at_, ok) → s.tim.lastPps + 1001000000 < s.elapsed →
    ∃ t, exec .ppsMiss s = .next t ∧ t.tim = { s.tim with pps := some (at_, false), lastPps := s.elapsed }
      ∧ t.reg Reg.TIM_CNT_PPS_MISS = satWord ((s.reg Reg.TIM_CNT_PPS_MISS).toNat + 1))
  ∧ (∀ (s : State) (src at_ : Nat), kvGet s.tim.faults src = some at_ → at_ ≤ s.elapsed →
    ∃ t, exec (.sourceFaultExpire src) s = .next t ∧ kvGet t.tim.faults src = none)
  ∧ (∀ (s : State) (at_ : Nat), s.tim.ppsEnd = some at_ → at_ ≤ s.elapsed → ∃ t, exec .ppsOutEnd s = .next t ∧ t.tim = { s.tim with ppsEnd := none })
  ∧ (∀ (s : State), ∃ t, exec .announceTimeout s = .next t
      ∧ t.tim.announces = s.tim.announces.filter (fun x => decide (s.elapsed < x.2.2 + 3000000000)))

/-- SECOND_BOUNDARY evaluates the present second, and a second already evaluated changes nothing but what is shown; ROW_BOUNDARY at the opening instant commits what was staged and does the work of the tag before it, then opens the next row of its group: one furrow more, with the next index, shown in ALN_RG_SEQ, after which the analyser and the graph destinations see it; before that instant it does nothing. Rests on R101, R115, R128, R161. -/
def Obligations.Boundaries : Prop :=
  (∀ (s : State), s.tim.lastSec < s.second → ∃ t, exec .secondBoundary s = .next t ∧ t.tim.lastSec = s.second)
  ∧ (∀ (s : State), s.second ≤ s.tim.lastSec → exec .secondBoundary s = .next s.showHealth)
  ∧ (∀ (s : State) (rg : Nat) (x y : GroupState), rg < 4 → s.group rg = some x → opensAt x (s.rate rg) ≤ s.now →
      let u := (s.commitAtRow rg (opensAt x (s.rate rg))).atTag rg (gridPrev (s.rate rg) (x.nextS, x.nextK))
      u.group rg = some y →
    ∃ t z, exec (.rowBoundary rg) s = .next t ∧ t = (((u.openRow rg).oscDue).updateDests).showHealth ∧ (u.openRow rg).group rg = some z
      ∧ z.nextIdx = y.nextIdx + 1 ∧ z.furrows.length = y.furrows.length + 1 ∧ z.furrows.map (fun f => f.idx) = y.furrows.map (fun f => f.idx) ++ [y.nextIdx]
      ∧ (u.openRow rg).reg (Reg.ALN_RG_SEQ rg) = Word.ofNat y.nextIdx)
  ∧ (∀ (s : State) (rg : Nat) (x : GroupState), s.group rg = some x → s.now < opensAt x (s.rate rg) → exec (.rowBoundary rg) s = .next s.showHealth)

/-- SECTION_DEADLINE of an open section of the group whose deadline has passed closes it on its deadline at the present instant, with the analyser off it does nothing more to the row, and it changes nothing of a row whose section is closed; ROW_RETIRE of a row whose T + Hg has passed fills its open sections, hands the row to those that read it whole, takes the oldest furrow from the group and counts the row, and before that instant does nothing; GLEANER_WRITE takes the head of the intake (stated with the analyser off); ALN_COMMIT makes each named running group wait for its boundary, and a group that does not run commits at once; RELEASE_TOKEN_ADMIT lets the waiting operators of each cluster in turn join their lists and shows the cluster, after which none waits whose list has room. Rests on R117, R120, R134, R142. -/
def Obligations.RowsAndSections : Prop :=
  (∀ (s : State) (rg tag sec : Nat) (f : Furrow), s.furrow rg tag = some f → f.isClosed sec = false → sec < 64 → sec < s.sectionCount rg →
      tag + f.deadlines.getD sec 0 ≤ s.now → s.flag Reg.OSC_CTRL 0 = false → s.flag Reg.OSC_CTRL 1 = false →
    ∃ t y, exec (.sectionDeadline rg tag sec) s = .next t ∧ t.furrow rg tag = some y ∧ y.isClosed sec = true ∧ y.onDl.getLsbD sec = true
      ∧ kvGet y.closedAt sec = some s.now ∧ y.tag = f.tag)
  ∧ (∀ (s : State) (rg tag sec : Nat), exec (.sectionDeadline rg tag sec) s = .next ((s.deadlineDue rg tag sec).oscDue).showHealth)
  ∧ (∀ (s : State) (rg tag sec : Nat) (f : Furrow), s.furrow rg tag = some f → f.isClosed sec = true → s.deadlineDue rg tag sec = s)
  ∧ (∀ (s : State) (rg : Nat) (x y : GroupState) (f k : Furrow), rg < 4 → s.group rg = some x → x.furrows.head? = some f → f.tag + f.hg ≤ s.now →
      let u := ((s.fillRow rg).oscDue).meterTemp rg f.tag
      let v := ((u.digestRow rg ((u.furrow rg f.tag).getD f)).captureRow rg ((u.furrow rg f.tag).getD f)).keepLatest ((u.furrow rg f.tag).getD f) rg
      v.group rg = some y → y.furrows.head? = some k →
    ∃ t z, exec (.rowRetire rg) s = .next t ∧ t = (v.retireRow rg).showHealth ∧ t.group rg = some z ∧ z.furrows = y.furrows.drop 1
      ∧ t.reg (Reg.ALN_RG_CNT_ROWS rg) = satWord ((v.reg (Reg.ALN_RG_CNT_ROWS rg)).toNat + 1))
  ∧ (∀ (s : State) (rg : Nat) (x : GroupState) (f : Furrow), s.group rg = some x → x.furrows.head? = some f → s.now < f.tag + f.hg →
    exec (.rowRetire rg) s = .next s.showHealth)
  ∧ (∀ (s : State) (e : GleanEntry) (r : List GleanEntry), s.aln.intake = e :: r → s.flag Reg.OSC_CTRL 0 = false → s.flag Reg.OSC_CTRL 1 = false →
    ∃ t, exec .gleanerWrite s = .next t ∧ t.aln.intake = r)
  ∧ (∀ (s : State) (mask : Word), (∀ g, g < 4 → (s.group g).isSome = true) →
    ∃ t, exec (.alnCommit mask) s = .next t ∧ ∀ g, g < 4 → t.flag Reg.ALN_COMMIT g = (s.flag Reg.ALN_COMMIT g || mask.getLsbD g))
  ∧ (∀ (s : State) (g : Nat), g < 4 → s.group g = none →
    ∃ t, exec (.alnCommit (1 <<< g)) s = .next t ∧ t.flag Reg.ALN_COMMIT g = false)
  ∧ (∀ (s : State), ∃ t, exec .releaseTokenAdmit s = .next t
      ∧ t = ((List.range 8).foldl (fun (s : State) c => (s.promote c true).showCluster c) s).showHealth
      ∧ ∀ c r, c < 8 → r ∈ t.refs c (fun i o => o.phase == .readyPending && !i.copying) → t.readyRoom c r.lc = false)

/-- AFE_SAMPLE, with the front end on, takes the 64 bits of each modulator into the decimators of its input, gives the sample to its channel, and runs the meters, the recorders of that channel and the analyser; CHANNEL_STALL marks a channel without input for 10 ms and counts; SYNC_ARM arms, or clears ARM where its second has begun; AFE_OVERLOAD_END ends an episode after 1 ms; WAV_COMMIT makes each named running group wait for its boundary. Rests on R147, R154, R161, R164, R167. -/
def Obligations.WaveformChain : Prop :=
  (∀ (s : State) (a : AfeSample), s.flag Reg.WAV_CTRL 1 = true →
    ∃ t, exec (.afeSample a) s = .next t ∧ t = ((((s.afeIn a).runMeters (8192 + a.input)).captureWave (8192 + a.input)).oscDue).showHealth
      ∧ (t.afe a.input).lowCic = (cic (s.afe a.input).lowCic a.low).2 ∧ (t.afe a.input).highCic = (cic (s.afe a.input).highCic a.high).2)
  ∧ (∀ (s : State) (chan : Nat), chan < 8208 → s.flag (Reg.WAV_CH_CTRL chan) 0 = true → s.flag (Reg.WAV_CH_STATUS chan) 1 = false →
      (s.wch chan).lastArr + 10000000 ≤ s.elapsed →
    ∃ t, exec (.channelStall chan) s = .next t ∧ t.flag (Reg.WAV_CH_STATUS chan) 1 = true
      ∧ t.reg Reg.WAV_CNT_STALL = satWord ((s.reg Reg.WAV_CNT_STALL).toNat + 1))
  ∧ (∀ (s : State) (value : Word), value.getLsbD 4 = true →
      ¬(bitsOf value 1 0 = 2 ∧ s.pair Reg.WAV_SYNC_SEC_LO Reg.WAV_SYNC_SEC_HI ≤ s.second) →
    ∃ t, exec (.syncArm value) s = .next t ∧ t.flag Reg.WAV_SYNC 4 = true ∧ t.flag Reg.WAV_STATUS 17 = true ∧ t.wav.syncAt = none)
  ∧ (∀ (s : State) (value : Word), value.getLsbD 4 = true → bitsOf value 1 0 = 2 → s.pair Reg.WAV_SYNC_SEC_LO Reg.WAV_SYNC_SEC_HI ≤ s.second →
    ∃ t, exec (.syncArm value) s = .next t ∧ t.flag Reg.WAV_SYNC 4 = false ∧ t.flag Reg.WAV_STATUS 17 = false)
  ∧ (∀ (s : State) (input at_ : Nat), (s.afe input).episode = some at_ → at_ + 1000000 ≤ s.now →
    ∃ t, exec (.afeOverloadEnd input) s = .next t ∧ t.afe input = { s.afe input with episode := none })
  ∧ (∀ (s : State) (mask : Word), (∀ g, g < 4 → (s.group g).isSome = true) →
    ∃ t, exec (.wavCommit mask) s = .next t ∧ ∀ g, g < 4 → t.flag Reg.WAV_COMMIT g = (s.flag Reg.WAV_COMMIT g || mask.getLsbD g))

/-- STEEP_CLOSE after the last sample starts the next steep with the next sequence number; STEEP_CLOSE_TIMEOUT 1 s after the end passes over the outstanding samples and does the same; PULSE_START issues one pulse and counts it; PULSE_END ends it; METER_SAVE_PERIOD starts a save to the next copy where none runs, and METER_SAVE_NOW does or is kept for the end of the one that runs; METER_SAVE_DONE ends it and counts one that succeeded; METER_SNAPSHOT copies the point's accumulators; MTR_COMMIT makes a running point wait for its steep boundary. Rests on R177, R183, R185, R187, R189. -/
def Obligations.EnergyMetering : Prop :=
  (∀ (s : State) (mp : Nat) (x : MeterPoint), s.meter mp = some x → s.meterOn mp = true → s.steepDone mp x = true →
    ∃ t y, exec (.steepClose mp) s = .next t ∧ t.meter mp = some y ∧ y.seq = x.seq + 1 ∧ y.start = s.steepEnd mp x)
  ∧ (∀ (s : State) (mp : Nat) (x : MeterPoint), s.meter mp = some x → s.meterOn mp = true → s.steepDone mp x = false →
      s.steepEnd mp x + 1000000000 ≤ s.now →
    ∃ t y, exec (.steepCloseTimeout mp) s = .next t ∧ t.meter mp = some y ∧ y.seq = x.seq + 1 ∧ y.start = s.steepEnd mp x
      ∧ gridFrom (s.steepEnd mp x) ≤ y.nextN)
  ∧ (∀ (s : State) (k : Nat), k < 8 → k < s.mtr.pulses.length → (s.pulse k).issued < (s.pulse k).total → (s.pulse k).activeEnd = none →
      (s.pulse k).gapEnd ≤ s.elapsed → s.drives = true →
    ∃ t, exec (.pulseStart k) s = .next t ∧ (t.pulse k).issued = (s.pulse k).issued + 1
      ∧ (t.pulse k).activeEnd = some (s.elapsed + s.field (Reg.MTR_PULSE_CTRL k) 25 16 * 1000000)
      ∧ t.reg (Reg.MTR_PULSE_CNT k) = satWord ((s.reg (Reg.MTR_PULSE_CNT k)).toNat + 1)
      ∧ t.reg (Reg.MTR_PULSE_PENDING k) = Word.ofNat ((s.pulse k).total - (s.pulse k).issued - 1))
  ∧ (∀ (s : State) (k at_ : Nat), k < s.mtr.pulses.length → (s.pulse k).activeEnd = some at_ → at_ ≤ s.elapsed →
    ∃ t, exec (.pulseEnd k) s = .next t ∧ (t.pulse k).activeEnd = none ∧ (t.pulse k).issued = (s.pulse k).issued
      ∧ (t.pulse k).gapEnd = s.elapsed + s.field (Reg.MTR_PULSE_CTRL k) 25 16 * 1000000)
  ∧ (∀ (s : State), s.mtr.lastSave + (s.reg Reg.MTR_SAVE_PERIOD).toNat * 1000000000 ≤ s.elapsed → s.mtr.saving = none →
    ∃ t v, exec .meterSavePeriod s = .next t ∧ t.mtr.saving = some v ∧ v.copy = s.mtr.nextCopy ∧ v.time = s.now ∧ t.mtr.lastSave = s.elapsed
      ∧ t.flag Reg.MTR_STATUS 8 = true)
  ∧ (∀ (s : State), ∃ t, exec .meterSaveNow s = .next t
      ∧ if s.mtr.saving.isSome then t.flag Reg.MTR_SAVE 0 = true ∧ t.mtr = s.mtr else t.mtr.saving.isSome = true ∧ t.flag Reg.MTR_STATUS 8 = true)
  ∧ (∀ (s : State) (v : MeterSave), s.mtr.saving = some v → s.flag Reg.MTR_SAVE 0 = false →
    (∃ t, exec (.meterSaveDone true) s = .next t ∧ t.mtr.saving = none ∧ t.flag Reg.MTR_STATUS 8 = false
      ∧ t.reg Reg.MTR_CNT_SAVES = satWord ((s.reg Reg.MTR_CNT_SAVES).toNat + 1))
    ∧ (∃ t, exec (.meterSaveDone false) s = .next t ∧ t.mtr.saving = none ∧ t.reg Reg.MTR_CNT_SAVES = s.reg Reg.MTR_CNT_SAVES))
  ∧ (∀ (s : State) (value : Word),
    ∃ t, exec (.meterSnapshot value) s = .next t ∧ t.reg Reg.MTR_SNAP = Word.ofNat (bitsOf value 5 0 + 0x200) ∧ t.mtr = s.mtr
      ∧ ∀ a, a < 40 → let x := ((((s.meter (bitsOf value 5 0)).map (fun m => m.accs)).getD []).getD a {})
        t.reg (Reg.MTR_SNAP_ACC_LO a) = Word.ofNat x.val.toNat ∧ t.reg (Reg.MTR_SNAP_ACC_HI a) = Word.ofNat (x.val.toNat / 2 ^ 32)
          ∧ t.reg (Reg.MTR_SNAP_WRAP a) = x.wraps.setWidth 32)
  ∧ (∀ (s : State) (hi : Bool) (mask : Word), (∀ m, m < 64 → s.meterOn m = true ∧ (s.meter m).isSome = true) →
    ∃ t, exec (.mtrCommit hi mask) s = .next t ∧ ∀ i, i < 32 →
      t.flag (if hi then Reg.MTR_COMMIT_HI else Reg.MTR_COMMIT_LO) i = (s.flag (if hi then Reg.MTR_COMMIT_HI else Reg.MTR_COMMIT_LO) i || mask.getLsbD i))

/-- OSC_REFRESH_INSTANT of an enabled group takes the latest multiple of its refresh interval; OSC_REFRESH_DONE counts the refresh, shows its tag, and makes its basis, quality and counts those of the last refresh; OSC_COMMIT makes each named running rate group wait for its boundary. Rests on R195, R198, R213. -/
def Obligations.OscillationRefresh : Prop :=
  (∀ (s : State) (group : Nat), group < 32 → s.oscOn group = true →
      let iv := s.field (Reg.OSC_G_REFRESH group) 13 0 * 1000000
      (s.oscGroup group).instant < s.now / max 1 iv * iv →
    ∃ t, exec (.oscRefreshInstant group) s = .next t ∧ (t.oscGroup group).instant = s.now / max 1 iv * iv)
  ∧ (∀ (s : State) (group : Nat) (run : OscRun), group < 32 → (s.oscGroup group).running = some run →
    ∃ t, exec (.oscRefreshDone group) s = .next t
      ∧ t.reg Reg.OSC_CNT_REFRESH = satWord ((s.reg Reg.OSC_CNT_REFRESH).toNat + 1)
      ∧ t.reg (Reg.OSC_G_CNT_REFRESH group) = satWord ((s.reg (Reg.OSC_G_CNT_REFRESH group)).toNat + 1)
      ∧ t.reg (Reg.OSC_G_LAST_LO group) = Word.ofNat run.tag ∧ t.reg (Reg.OSC_G_LAST_HI group) = Word.ofNat (run.tag / 2 ^ 32)
      ∧ (t.oscGroup group).lastTag = some run.tag ∧ (t.oscGroup group).lastDone = s.elapsed ∧ (t.oscGroup group).basis = run.basis
      ∧ (t.oscGroup group).lastQ = run.q ∧ (t.oscGroup group).doneCount = run.count ∧ (t.oscGroup group).doneTotal = run.total)
  ∧ (∀ (s : State) (mask : Word), (∀ g, g < 4 → (s.group g).isSome = true) →
    ∃ t, exec (.oscCommit mask) s = .next t ∧ ∀ g, g < 4 → t.flag Reg.OSC_COMMIT g = (s.flag Reg.OSC_COMMIT g || mask.getLsbD g))

/-- SW_OVERRIDE with a switching branch selected gives that branch its override condition, stamped with the present Device Time; with an impedance branch, or none, selected it changes nothing; REGISTER_WRITE of TOP_SW_OVERRIDE is the same command. Rests on R219. -/
def Obligations.SwitchOverride : Prop :=
  (∀ (s : State) (value : Word) (r : BranchRec), s.top.branches[s.field Reg.TOP_SW_INDEX 15 0]? = some r → r.switching = true →
    ∃ t, exec (.swOverride value) s = .next t
      ∧ t = ((s.setReg Reg.TOP_SW_OVERRIDE (value &&& 3)).applySwitches s.now [(s.field Reg.TOP_SW_INDEX 15 0,
          { s.sw (s.field Reg.TOP_SW_INDEX 15 0) with override := if value.getLsbD 0 then some (value.getLsbD 1) else none })]).showHealth
      ∧ t.sw (s.field Reg.TOP_SW_INDEX 15 0) = resolve r { s.sw (s.field Reg.TOP_SW_INDEX 15 0) with
          override := if value.getLsbD 0 then some (value.getLsbD 1) else none }
      ∧ t.reg Reg.TOP_SW_OVERRIDE = value &&& 3)
  ∧ (∀ (s : State) (value : Word), (∀ r, s.top.branches[s.field Reg.TOP_SW_INDEX 15 0]? = some r → r.switching = false) →
    exec (.swOverride value) s = .next s.showHealth)
  ∧ (∀ (s : State) (value : Word), exec (.registerWrite Reg.TOP_SW_OVERRIDE value) s = exec (.swOverride value) s)

/-- SE_ROW_START begins a row whose sections have closed 20 us after its tag; SE_SOLVE_DONE writes its estimates, or in a halved odd row the last ones HELD, and ends the solve of the row; ISLAND_ROW takes the labels of the islands of its topology; COALESCE_EXPIRE starts a refactorisation, or holds it while one runs; REFAC_DONE puts a factor that fits in use and refuses one that does not; INTERMEDIATE_TIMEOUT counts and resolves the branch; TOP_COMMIT waits for the group's row boundary. Rests on R218, R220, R224, R227, R228, R229, R230, R236. -/
def Obligations.TopologyAndEstimation : Prop :=
  (∀ (s : State) (idx : Nat) (f : Furrow), (s.group s.topRg).bind (fun x => x.furrows.find? (fun f => f.idx == idx)) = some f → s.flag Reg.TOP_CTRL 0 = true →
      (∀ n, s.top.lastRow = some n → n < idx) → f.tag + 20000 ≤ s.now → s.topSections.all (fun i => f.isClosed i) = true →
    ∃ t x, exec (.seRowStart idx) s = .next t ∧ t.top.lastRow = some idx ∧ t.top.rows = s.top.rows ++ [x] ∧ x.idx = idx ∧ x.tag = f.tag
      ∧ x.start = s.elapsed ∧ x.factor = s.top.factor ∧ x.topo = (s.takeTopology f.tag).2 ∧ x.meas.length = s.top.meas.length
      ∧ x.seDone = !s.flag Reg.TOP_CTRL 1 ∧ x.islDone = !s.flag Reg.TOP_CTRL 2)
  ∧ (∀ (s : State) (r : TopRow), s.topNext true = some r →
    let held := (s.bump Reg.TOP_CNT_SHED).writeEstimates r (s.top.lastOut.map (fun v => (v.1, { v.2 with q := v.2.q ||| Q.held })))
    let u := if s.seHalved && r.idx % 2 == 1 then (match r.factor with
        | some f => held.persist r f
        | none => held) else s.solveAndWrite r
    ∃ t, exec (.seSolveDone r.idx) s = .next t ∧ t = (((u.finishTopRow r.idx true).nextSolve).oscDue).showHealth
      ∧ ∀ x ∈ t.top.rows, x.idx = r.idx → x.seDone = true ∧ x.islDone = false)
  ∧ (∀ (s : State) (r : TopRow), s.topNext false = some r →
    ∃ t, exec (.islandRow r.idx) s = .next t ∧ t.top.labels = s.islands r.topo
      ∧ t.field Reg.TOP_STATUS 31 16 = ((s.liveNodes r).map (fun n => (s.islands r.topo).getD n 0)).eraseDups.length % 65536)
  ∧ (∀ (s : State) (at_ : Nat), s.top.coalesceAt = some at_ → at_ ≤ s.now → s.flag Reg.TOP_CTRL 1 = true →
    ∃ t, exec .coalesceExpire s = .next t ∧ t.top.building.isSome = true ∧ t.top.coalesceAt = none ∧ (t.top.pending = true ↔ s.top.building.isSome = true))
  ∧ (∀ (s : State) (f : Factor) (at_ : Nat), s.top.building = some (f, at_) → f.nnz ≤ (s.reg Reg.TOP_NNZ_MAX).toNat → s.top.pending = false →
    ∃ t, exec .refacDone s = .next t ∧ t.top.factor = some f ∧ t.top.building = none ∧ t.reg Reg.TOP_FACTOR_VER = Word.ofNat f.ver
      ∧ t.reg Reg.TOP_FACTOR_NNZ = Word.ofNat f.nnz)
  ∧ (∀ (s : State) (f : Factor) (at_ : Nat), s.top.building = some (f, at_) → (s.reg Reg.TOP_NNZ_MAX).toNat < f.nnz → s.top.pending = false →
    ∃ t, exec .refacDone s = .next t ∧ t.top.factor = s.top.factor ∧ t.top.building = none
      ∧ t.reg Reg.TOP_CNT_REFAC_FAIL = satWord ((s.reg Reg.TOP_CNT_REFAC_FAIL).toNat + 1))
  ∧ (∀ (s : State) (branch at_ : Nat) (r : BranchRec), (s.sw branch).interAt = some at_ → s.top.branches[branch]? = some r → s.flag Reg.TOP_CTRL 0 = true →
      r.switching = true → (s.sw branch).interDone = false → at_ + s.field Reg.TOP_INTERMEDIATE 15 0 * 1000000 ≤ s.now →
    ∃ t, exec (.intermediateTimeout branch) s = .next t ∧ t.sw branch = resolve r { s.sw branch with interDone := true }
      ∧ t.reg Reg.TOP_CNT_INTER_TIMEOUT = satWord ((s.reg Reg.TOP_CNT_INTER_TIMEOUT).toNat + 1))
  ∧ (∀ (s : State), (s.group s.topRg).isSome = true → ∃ t, exec .topCommit s = .next t ∧ t.flag Reg.TOP_COMMIT 0 = true ∧ t.top = s.top)

/-- GRAPH_INSTANCE_CREATE of a graph that is neither halted nor lost nor shed creates an instance while fewer than 16 live; OPERATOR_DISPATCH gives a free engine what its cluster reserves for it; OPERATOR_YIELD suspends work for waiting LC0 work; OPERATOR_COMPLETE leaves its engine free, and stops and counts a cancelled operator; STATE_COPY_DONE leaves no instance of its graph copying; DELAY_TICK advances the delay counter once every 10 us; EPOCH_BOUNDARY takes the epoch once; GRAPH_HALT and GRAPH_RESUME set and clear the halt; ENGINE_FENCE marks the engine; DFS_COMMIT requests the staged fields. Rests on R242, R246, R247, R249, R250, R253, R256, R259. -/
def Obligations.DataflowEngines : Prop :=
  (∀ (s : State) (graph : Nat) (x : GraphState) (k : HeldTrigger) (rest : List HeldTrigger), s.graph graph = some x → x.waiting = k :: rest → x.awaits = false →
      s.flag Reg.DFS_CTRL 0 = true → x.halted = false → x.lost = false → s.graphShed x.cfg = false → (s.liveInsts graph).length < 16 →
    ∃ t, exec (.graphInstanceCreate graph) s = .next t ∧ t = ((s.modGraph graph (fun y => { y with waiting := rest })).createInst graph k).showHealth
      ∧ t.dfs.nextId = s.dfs.nextId + 1)
  ∧ (∀ (s : State) (graph : Nat) (x : GraphState) (k : HeldTrigger) (rest : List HeldTrigger), s.graph graph = some x → x.waiting = k :: rest → x.awaits = false →
      x.halted = true →
    exec (.graphInstanceCreate graph) s = .next (s.modGraph graph (fun y => { y with waiting := rest })).showHealth)
  ∧ (∀ (s u v : State) (pe : Nat) (r : ReadyRef), s.flag Reg.DFS_CTRL 0 = true → (clusterPes (clusterOf pe)).contains pe = true → s.peUp pe = true →
      (s.engine pe).running = none → (s.engine pe).suspended = none →
      s.firstReservable (clusterOf pe) (s.refs (clusterOf pe) (fun _ o => o.phase == .ready)) = (u, some (r, v)) → v.targetOf (clusterOf pe) r = some pe →
      pe < v.dfs.engines.length →
    ∃ t, exec (.operatorDispatch pe) s = .next t ∧ t = (v.dispatchTo pe (clusterOf pe) r).showHealth ∧ (t.engine pe).running = some (r.inst, r.node))
  ∧ (∀ (s : State) (pe id n : Nat) (i : GraphInst) (o : OpInst), (s.engine pe).running = some (id, n) → s.inst id = some i → i.op n = some o → o.cancelRun = false →
      s.instLc i ≠ 0 → (s.engine pe).suspended = none → 0 < s.readyCount (clusterOf pe) 0 → (s.idleFor (clusterOf pe) 0).isEmpty = true → pe < s.dfs.engines.length →
    ∃ t, exec (.operatorYield pe) s = .next t ∧ (t.engine pe).running = none ∧ (t.engine pe).suspended = some (id, n) ∧ t = ((((s.pmcEngine pe 0x06 (s.instLc i) 1).modInst id (fun i => i.modOp n (fun o => { o with phase := .suspended pe }))).setEngine
      pe none (some (id, n))).bump Reg.DFS_CNT_SUSPEND).showHealth
      ∧ t.reg Reg.DFS_CNT_SUSPEND = satWord ((s.reg Reg.DFS_CNT_SUSPEND).toNat + 1))
  ∧ (∀ (s : State) (pe id n : Nat) (i : GraphInst) (o : OpInst) (x : GraphState), (s.engine pe).running = some (id, n) → s.inst id = some i → i.op n = some o →
      s.graph i.graph = some x → o.cancelRun = true → pe < s.dfs.engines.length →
    ∃ t, exec (.operatorComplete pe) s = .next t ∧ t = ((s.stopRun pe id n).bump (Reg.DFS_PE_CNT_OPS pe)).showHealth ∧ (t.engine pe).running = none)
  ∧ (∀ (s : State) (pe id n : Nat) (i : GraphInst) (o : OpInst) (x : GraphState), (s.engine pe).running = some (id, n) → s.inst id = some i → i.op n = some o →
      s.graph i.graph = some x → o.cancelRun = false → pe < s.dfs.engines.length →
    ∃ t, exec (.operatorComplete pe) s = .next t ∧ (t.engine pe).running = none)
  ∧ (∀ (s : State), (s.dfs.delayTick + 1) * 10000 ≤ s.elapsed → ∃ t, exec .delayTick s = .next t ∧ t.dfs.delayTick = s.dfs.delayTick + 1)
  ∧ (∀ (s : State), s.elapsed < (s.dfs.delayTick + 1) * 10000 → exec .delayTick s = .next s.showHealth)
  ∧ (∀ (s : State), s.epochDue = true → ∃ t, exec .epochBoundary s = .next t ∧ t.dfs.epochStart = s.second)
  ∧ (∀ (s : State) (graph : Nat), ∃ t, exec (.stateCopyDone graph) s = .next t
      ∧ t = ((((s.liveInsts graph).filter (fun i => i.copying)).foldl (fun (s : State) i => s.readySources i.id i.cluster) s).showHealth)
      ∧ ∀ i ∈ t.liveInsts graph, i.copying = false)
  ∧ (∀ (s : State) (pe : Nat), pe < 64 → s.peUp pe = true → ∃ t, exec (.engineFence pe) s = .next t ∧ t.flag (Reg.DFS_PE_STATUS pe) 5 = true)
  ∧ (∀ (s : State) (graph : Nat) (x : GraphState), s.graph graph = some x →
    ∃ t y, exec (.graphHalt graph) s = .next t ∧ t.graph graph = some y ∧ y.halted = true)
  ∧ (∀ (s : State) (graph : Nat) (x : GraphState), s.graph graph = some x →
    ∃ t, exec (.graphResume graph) s = .next t ∧ t.graph graph = some { x with halted := false })
  ∧ (∀ (s : State), ∃ t, exec .dfsCommit s = .next t ∧ t.flag Reg.DFS_COMMIT 0 = true ∧ t.dfs = s.dfs)

/-- CYCLE_START of a task whose logic still runs is skipped and counted, otherwise the task runs from its planned start; LOGIC_COMPLETE ends the logic and advances the cycle count, and an early one waits for W; WRITE_POINT of running logic makes it late; PEER_VALUE_RX of an older start is refused, and the first value of a writer is kept; EXCHANGE_INSTANT at a boundary that qualifies exchanges the programs, EXCHANGE_TIMEOUT after 60 s ends the request; PUB_RETRANSMIT doubles the spacing; CYC_COMMIT waits for the next cycle start. Rests on R262, R263, R264, R271, R272, R273, R280, R282. -/
def Obligations.CyclicControl : Prop :=
  (∀ (s : State) (task : Nat), task < 4 → task < s.cyc.tasks.length → s.taskOn task = true → (s.task task).stopped = false → (s.task task).nextStart ≤ s.now →
      (s.task task).waitingW = false → (s.task task).running = true →
    ∃ t, exec (.cycleStart task) s = .next t ∧ (t.task task).skips = (s.task task).skips + 1 ∧ (t.task task).running = true
      ∧ t.reg (Reg.CYC_T_CNT_SKIP task) = satWord ((s.reg (Reg.CYC_T_CNT_SKIP task)).toNat + 1))
  ∧ (∀ (s : State) (task : Nat), task < 4 → task < s.cyc.tasks.length → s.taskOn task = true → (s.task task).stopped = false → (s.task task).nextStart ≤ s.now →
      (s.task task).waitingW = false → (s.task task).running = false →
    ∃ t, exec (.cycleStart task) s = .next t ∧ (t.task task).running = true ∧ (t.task task).start = (s.task task).nextStart
      ∧ (t.task task).dt = s.period task / 1000 * (1 + (s.task task).skips) ∧ (t.task task).skips = 0)
  ∧ (∀ (s : State) (task : Nat) (a : ProgArea), task < 4 → task < s.cyc.tasks.length → (s.task task).running = true → s.cyc.run = some a →
      (s.task task).late = false → s.elapsed ≤ (s.task task).wAt →
    ∃ t, exec (.logicComplete task) s = .next t ∧ (t.task task).running = false ∧ (t.task task).waitingW = true
      ∧ (t.task task).cycles = (s.task task).cycles + 1 ∧ t.reg (Reg.CYC_T_CYCLE task) = Word.ofNat ((s.task task).cycles + 1)
      ∧ t.cyc.run = some (runCalls a s.cyc.inputs (s.task task).dt task).area)
  ∧ (∀ (s : State) (task : Nat), task < s.cyc.tasks.length → (s.task task).running = true → (s.task task).wAt ≤ s.elapsed →
    ∃ t, exec (.writePoint task) s = .next t ∧ (t.task task).late = true ∧ t.cyc.outputs = s.cyc.outputs)
  ∧ (∀ (s : State) (task : Nat), (s.task task).running = false → (s.task task).waitingW = true → (s.task task).wAt ≤ s.elapsed →
    ∃ t, exec (.writePoint task) s = .next t
      ∧ t = ((s.applyOutputs task (s.task task).prevW false).modTask task (fun y => { y with waitingW := false })).showHealth ∧ (t.task task).waitingW = false)
  ∧ (∀ (s : State) (v : PeerRx) (p : PeerVal), p ∈ s.cyc.peers → p.writer = v.writer → v.startGts < p.startGts →
    ∃ t, exec (.peerValueRx v) s = .next t ∧ t.cyc = s.cyc)
  ∧ (∀ (s : State) (v : PeerRx), (∀ p, p ∈ s.cyc.peers → p.writer ≠ v.writer) →
    ∃ t, exec (.peerValueRx v) s = .next t ∧ t.cyc.peers = s.cyc.peers ++
      [{ writer := v.writer, output := v.output, a := v.a, b := v.b, q := v.q, startGts := v.startGts, cycle := v.cycle, gts := v.gts }])
  ∧ (∀ (s : State) (h acc : Nat) (old new : ProgArea), s.cyc.exch = some (h, acc) → s.cyc.run = some old → s.cyc.standby = some new →
      s.now % 1000000000 < 1000 → acc + 100000000 ≤ s.elapsed →
      (List.range 4).all (fun k => (s.task k).offset == 0 && !(s.task k).running && !(s.task k).waitingW) = true →
    ∃ t, exec .exchangeInstant s = .next t ∧ t = ((s.exchange old new).finishOp h 0 0).showHealth ∧ t.cyc.exch = none
      ∧ t.cyc.run = some (carryOver old new) ∧ t.cyc.standby = some old ∧ t.cyc.standbyRan = true)
  ∧ (∀ (s : State) (h acc : Nat), s.cyc.exch = some (h, acc) → acc + 60000000000 ≤ s.elapsed →
    ∃ t, exec .exchangeTimeout s = .next t ∧ t.cyc.exch = none ∧ t.cyc.run = s.cyc.run ∧ t.cyc.standby = s.cyc.standby)
  ∧ (∀ (s : State) (alm : Bool) (p at_ : Nat) (x : PubState), s.pub alm p = some x → x.nextAt = some at_ → at_ ≤ s.elapsed → s.drives = true →
    ∃ t y, exec (.pubRetransmit alm p) s = .next t
      ∧ t = ((s.modPub alm p (fun x => { x with
          sqNum := nextNum x.sqNum, spacing := min (x.cfg.tMax * 1000000) (2 * x.spacing) })).sendPub alm p).showHealth
      ∧ t.pub alm p = some y ∧ y.stNum = x.stNum ∧ y.sqNum = nextNum x.sqNum ∧ y.elems = x.elems
      ∧ y.spacing = min (x.cfg.tMax * 1000000) (2 * x.spacing) ∧ y.nextAt = some (s.elapsed + min (x.cfg.tMax * 1000000) (2 * x.spacing)))
  ∧ (∀ (s : State) (mask : Word), ∃ t, exec (.cycCommit mask) s = .next t ∧ t.cyc = s.cyc
      ∧ ∀ k, k < 4 → t.flag Reg.CYC_COMMIT k = (s.flag Reg.CYC_COMMIT k || mask.getLsbD k))

/-- ALARM_HANDOFF takes the oldest handoff. Older than the last accepted one of its alarm it is discarded and counted in ALM_CNT_STALE; otherwise it is accepted: it becomes the last accepted one, changes nothing more where the condition is the same, and otherwise gives the alarm the new condition, its state of Table 12-1, the next CHG and the order key as the GTS of the change. Rests on R287. -/
def Obligations.AlarmHandoffOrder : Prop :=
  (∀ (s : State) (h : Handoff) (r : List Handoff) (x : AlarmState) (k : Nat), s.flag Reg.ALM_CTRL 0 = true → s.alm.handoffs = h :: r →
      s.alarm h.alarm = some x → x.lastKey = some k → h.key < k →
    ∃ t, exec .alarmHandoff s = .next t ∧ t.alm = { s.alm with handoffs := r }
      ∧ t.reg Reg.ALM_CNT_STALE = satWord ((s.reg Reg.ALM_CNT_STALE).toNat + 1))
  ∧ (∀ (s : State) (h : Handoff) (r : List Handoff) (x : AlarmState), s.flag Reg.ALM_CTRL 0 = true → s.alm.handoffs = h :: r →
      s.alarm h.alarm = some x → (∀ k, x.lastKey = some k → k ≤ h.key) → x.cond = h.active →
    ∃ t, exec .alarmHandoff s = .next t ∧ t.alarm h.alarm = some { x with lastKey := some h.key } ∧ t.alm.handoffs = r
      ∧ t.alm.pins = s.alm.pins ∧ t.alm.pubs = s.alm.pubs ∧ t.evr = s.evr ∧ t.reg Reg.ALM_CNT_STALE = s.reg Reg.ALM_CNT_STALE)
  ∧ (∀ (s : State) (h : Handoff) (r : List Handoff) (x : AlarmState), s.flag Reg.ALM_CTRL 0 = true → s.alm.handoffs = h :: r →
      s.alarm h.alarm = some x → (∀ k, x.lastKey = some k → k ≤ h.key) → x.cond ≠ h.active →
    ∃ t y, exec .alarmHandoff s = .next t ∧ t.alarm h.alarm = some y ∧ y.cond = h.active ∧ y.lastKey = some h.key ∧ y.lastGts = h.key
      ∧ y.chg = x.chg + 1 ∧ y.state = condState x.cfg.ackReq x.state h.active ∧ t.alm.handoffs = r)

/-- ALM_ACK of an unacknowledged alarm with its CHG gives it the acknowledged state and the next CHG, and any other is refused and counted; ALM_ACK_ALL acknowledges every unacknowledged alarm of the severities named; PIN_HOLD_EXPIRE takes an active pin that no alarm wants to its inactive level once its hold is over, and not before; ALARM_PUB_SEND of a driving device sends a change as the elements now stand, with the next stNum; ALM_COMMIT of a HOLD above 1,000 ms refuses the whole, otherwise the pins take their staged settings. Rests on R290, R292, R293, R304. -/
def Obligations.AlarmAcknowledgement : Prop :=
  (∀ (s : State) (value : Word) (x : AlarmState), s.alarm (bitsOf value 11 0) = some x → x.chg = BitVec.ofNat 16 (bitsOf value 31 16) → x.unacked = true →
    ∃ t y, exec (.almAck value) s = .next t ∧ t.alarm (bitsOf value 11 0) = some y ∧ y.state = ackState x.state ∧ y.chg = x.chg + 1 ∧ y.cond = x.cond)
  ∧ (∀ (s : State) (value : Word), (∀ x, s.alarm (bitsOf value 11 0) = some x → x.chg ≠ BitVec.ofNat 16 (bitsOf value 31 16) ∨ x.unacked = false) →
    ∃ t, exec (.almAck value) s = .next t ∧ t.alm = s.alm ∧ t.evr = s.evr
      ∧ t.reg Reg.ALM_CNT_ACK_REFUSED = satWord ((s.reg Reg.ALM_CNT_ACK_REFUSED).toNat + 1))
  ∧ (∀ (s : State) (value : Word) (a : Nat) (x : AlarmState), (s.alm.alarms.map (fun v => v.1)).Nodup → s.alarm a = some x → x.unacked = true →
      value.getLsbD (x.cfg.sev % 4) = true →
    ∃ t y, exec (.almAckAll value) s = .next t ∧ t.alarm a = some y ∧ y.state = ackState x.state ∧ y.chg = x.chg + 1)
  ∧ (∀ (s : State) (pin : Nat), pin < s.alm.pins.length → (s.alm.pins.getD pin {}).holding = true → (s.alm.pins.getD pin {}).byAlm = true →
      (s.alm.pins.getD pin {}).active = true → s.alm.alarms.any (fun x => x.2.cfg.pins.getLsbD pin && x.2.output) = false →
      (s.alm.pins.getD pin {}).since + s.field (Reg.ALM_PIN_CTRL pin) 25 16 * 1000000 ≤ s.elapsed → s.mirrored = false →
    ∃ t, exec (.pinHoldExpire pin) s = .next t ∧ (t.alm.pins.getD pin {}).active = false ∧ (t.alm.pins.getD pin {}).holding = false
      ∧ t.alm.alarms = s.alm.alarms)
  ∧ (∀ (s : State) (pin : Nat), (s.alm.pins.getD pin {}).holding = true → (s.alm.pins.getD pin {}).byAlm = true → (s.alm.pins.getD pin {}).active = true →
      s.alm.alarms.any (fun x => x.2.cfg.pins.getLsbD pin && x.2.output) = false →
      s.elapsed < (s.alm.pins.getD pin {}).since + s.field (Reg.ALM_PIN_CTRL pin) 25 16 * 1000000 →
    ∃ t, exec (.pinHoldExpire pin) s = .next t ∧ (t.alm.pins.getD pin {}).active = true ∧ (t.alm.pins.getD pin {}).holding = true)
  ∧ (∀ (s : State) (p : Nat) (x : PubState), s.pub true p = some x → x.change.isSome = true → s.drives = true →
    ∃ t y, exec (.alarmPubSend p) s = .next t ∧ t.pub true p = some y ∧ y.stNum = nextNum x.stNum ∧ y.sqNum = 0 ∧ y.elems = s.alarmElems x
      ∧ y.change = none ∧ y.spacing = x.cfg.tMin * 1000000 ∧ y.nextAt = some (s.elapsed + x.cfg.tMin * 1000000) ∧ y.tSince = s.now)
  ∧ (∀ (s : State) (n : Nat), n < 8 → 1000 < bitsOf (s.staged (Reg.ALM_PIN_CTRL n)) 25 16 →
    ∃ t, exec .almCommit s = .next t ∧ t.flag Reg.ALM_COMMIT_STAT 0 = true ∧ t.alm = s.alm ∧ t.shadow = s.shadow)
  ∧ (∀ (s : State), (∀ n, n < 8 → bitsOf (s.staged (Reg.ALM_PIN_CTRL n)) 25 16 ≤ 1000) →
    ∃ t, exec .almCommit s = .next t ∧ ∀ n, n < 8 → t.reg (Reg.ALM_PIN_CTRL n) = s.staged (Reg.ALM_PIN_CTRL n))

/-- EVENT_COMMIT of a running recorder takes the head of the staging queue, with room in the log it takes the next sequence number and is counted; a record programmed takes one sequence number; HEARTBEAT after 3,600 s begins a new hour; EVR_RD_SEQ shows the sixteen words of the record of the number written, or zeros, with FOUND and DONE; an event that finds room is appended to the staging queue. Rests on R296, R297, R298, R302. -/
def Obligations.EventRecorder : Prop :=
  (∀ (s : State) (e : Event) (r : List Event), s.flag Reg.EVR_STATUS 16 = true → s.evr.staging = e :: r → s.evr.lost = none →
    exec .eventCommit s = .next ((({ s with evr := { s.evr with staging := r } } : State).showStaging.commitRecord e).showHealth))
  ∧ (∀ (s : State) (e : Event) (r : List Event), s.flag Reg.EVR_STATUS 16 = true → s.evr.staging = e :: r → s.evr.lost = none → s.logFull e.sev = false →
    ∃ t, exec .eventCommit s = .next t ∧ t.evr.nextSeq = s.evr.nextSeq + 1
      ∧ t.reg Reg.EVR_CNT_WRITTEN = satWord ((s.reg Reg.EVR_CNT_WRITTEN).toNat + 1) ∧ t.reg Reg.EVR_SEQ_NEXT = s.evr.nextSeq + 1)
  ∧ (∀ (s : State) (e : Event) (r : List Event) (l : LostAcc), s.flag Reg.EVR_STATUS 16 = true → s.evr.staging = e :: r → s.evr.lost = some l →
    exec .eventCommit s
      = .next ((({ s with evr := { s.evr with staging := s.lostRecord l :: r, lost := none } } : State).showStaging.commitRecord e).showHealth))
  ∧ (∀ (s : State) (r : LogRecord), (s.programRecord r).evr.nextSeq = s.evr.nextSeq + 1)
  ∧ (∀ (s : State), s.flag Reg.EVR_STATUS 16 = true → s.evr.lastBeat + 3600000000000 ≤ s.elapsed →
    ∃ t, exec .heartbeat s = .next t ∧ t.evr.lastBeat = s.elapsed)
  ∧ (∀ (s : State) (value : Word), ∃ t, exec (.evrRdSeq value) s = .next t ∧ t.reg Reg.EVR_RD_SEQ = value ∧ t.evr = s.evr
      ∧ let b := match s.logRecords.find? (fun r => r.seq == value) with
          | some r => r.bytes
          | none => []
        t.field Reg.EVR_RD_STATUS 1 0 = bit (s.logRecords.find? (fun r => r.seq == value)).isSome + 2
          ∧ ∀ i, i < 16 → t.reg (Reg.EVR_RD_DATA i) = Word.ofNat (natAt b (4 * i) 4))
  ∧ (∀ (s : State) (e : Event), s.evr.staging.length < 512 → (s.stageEvent e).evr.staging = s.evr.staging ++ [e] ∧ (s.stageEvent e).evr.lost = s.evr.lost)

/-- CAP_R_ARM of an enabled IDLE recorder arms it at the present frame; CAP_R_DISARM of an ARMED one makes it IDLE and of an ACTIVE one closes with CUT; CAP_R_FORCE triggers an ARMED one at its newest frame and is ignored otherwise; GATHER_END of gathered firings and CAP_AUTO_TIMEOUT begin a capture, which takes the next number, the latter from the first frame at or after its time, for which it waits; CAPTURE_CLOSE stores the capture and counts it; CAP_R_RELEASE frees a stored capture; CAP_R_MARK_SET sets a mark within the live ring; CAP_COMMIT waits while a capture is ACTIVE. Rests on R313, R315, R317, R322, R325. -/
def Obligations.Recorders : Prop :=
  (∀ (s : State) (r : Nat) (x : RecorderState), r < 16 → s.recorder r = some x → s.capOn r = true → s.recState r = 0 →
    ∃ t y, exec (.capRArm r) s = .next t ∧ t.recState r = 1 ∧ t.recorder r = some y ∧ y.armFrame = x.widx ∧ y.armTime = s.now ∧ y.firings = [])
  ∧ (∀ (s : State) (r : Nat) (x : RecorderState), r < 16 → s.recorder r = some x → s.recState r = 1 →
    ∃ t, exec (.capRDisarm r) s = .next t ∧ t.recState r = 0)
  ∧ (∀ (s : State) (r : Nat) (x : RecorderState) (c : Capture), r < 16 → s.recorder r = some x → s.recState r = 2 → x.active = some c →
    ∃ t y, exec (.capRDisarm r) s = .next t ∧ t = (s.closeCapture r 0x0004 false).showHealth ∧ t.recorder r = some y ∧ y.active = none
      ∧ y.stored.length = x.stored.length + 1 ∧ t.reg Reg.CAP_CNT_CAPTURES = satWord ((s.reg Reg.CAP_CNT_CAPTURES).toNat + 1))
  ∧ (∀ (s : State) (r : Nat) (x : RecorderState) (f : CapFrame), r < 16 → s.recorder r = some x → x.frames.getLast? = some f → s.recState r = 1 →
    ∃ t, exec (.capRForce r) s = .next t ∧ t = (s.forceCapture r 0x0200 f).showHealth
      ∧ t.reg (Reg.CAP_R_LAST r) = Word.ofNat (nextCapture (s.reg (Reg.CAP_R_LAST r))))
  ∧ (∀ (s : State) (r : Nat) (x : RecorderState), r < 16 → s.recorder r = some x → s.recState r ≠ 1 → exec (.capRForce r) s = .next s.showHealth)
  ∧ (∀ (s : State) (r at_ : Nat) (x : RecorderState), r < 16 → s.recorder r = some x → x.gatherEnd = some at_ → at_ ≤ s.elapsed → x.firings ≠ [] →
    ∃ t, exec (.gatherEnd r) s = .next t ∧ t = (s.decideFirings r).showHealth
      ∧ t.reg (Reg.CAP_R_LAST r) = Word.ofNat (nextCapture (s.reg (Reg.CAP_R_LAST r))))
  ∧ (∀ (s : State) (r at_ : Nat) (x : RecorderState) (c : Capture), r < 16 → s.recorder r = some x → x.closeAt = some at_ → at_ ≤ s.elapsed → x.active = some c →
    ∃ t y, exec (.captureClose r) s = .next t ∧ t.recorder r = some y ∧ y.active = none ∧ y.stored.length = x.stored.length + 1
      ∧ t.reg Reg.CAP_CNT_CAPTURES = satWord ((s.reg Reg.CAP_CNT_CAPTURES).toNat + 1))
  ∧ (∀ (s : State) (r : Nat) (before : Option CapFrame) (x : RecorderState) (f : CapFrame), r < 16 → s.recorder r = some x → s.recState r = 1 → s.flag (Reg.CAP_R_CTRL r) 4 = true →
      x.firings = [] → x.armTime + s.field (Reg.CAP_R_TIMEOUT r) 11 0 * 1000000000 ≤ s.now →
      frameFrom none x.frames (x.armTime + s.field (Reg.CAP_R_TIMEOUT r) 11 0 * 1000000000) = some (before, f) →
    ∃ t, exec (.capAutoTimeout r) s = .next t ∧ t = (s.forceCapture r 0x0100 f).showHealth
      ∧ t.reg (Reg.CAP_R_LAST r) = Word.ofNat (nextCapture (s.reg (Reg.CAP_R_LAST r))))
  ∧ (∀ (s : State) (r : Nat) (x : RecorderState), s.recorder r = some x → s.recState r = 1 → s.flag (Reg.CAP_R_CTRL r) 4 = true →
      x.firings = [] → x.armTime + s.field (Reg.CAP_R_TIMEOUT r) 11 0 * 1000000000 ≤ s.now →
      frameFrom none x.frames (x.armTime + s.field (Reg.CAP_R_TIMEOUT r) 11 0 * 1000000000) = none →
    ∃ t, exec (.capAutoTimeout r) s = .next t ∧ t.recorder r = some { x with autoForce := true })
  ∧ (∀ (s : State) (r : Nat) (value : Word) (x : RecorderState) (c : Capture), r < 16 → s.recorder r = some x →
      x.stored.find? (fun c => c.num == value.toNat && !c.free) = some c → c.exporting = false →
    ∃ t y, exec (.capRRelease r value) s = .next t ∧ t.recorder r = some y
      ∧ y.stored = purge (x.stored.map (fun (c : Capture) => if c.num = value.toNat then { c with free := true } else c)))
  ∧ (∀ (s : State) (r mark : Nat) (hi : Word) (x : RecorderState), r < 16 → mark < 4 → s.recorder r = some x →
      let v := hi.toNat * 2 ^ 32 + (s.lowHalf (Reg.CAP_R_MARK_LO r mark)).toNat
      v < x.widx →
    ∃ t y, exec (.capRMarkSet r mark hi) s = .next t ∧ t.recorder r = some y ∧ y.marks = x.marks.set mark (max v (x.widx - s.liveDepth r))
      ∧ t.reg (Reg.CAP_R_MARK_LO r mark) = Word.ofNat (max v (x.widx - s.liveDepth r)))
  ∧ (∀ (s : State) (r : Nat) (x : RecorderState), r < 16 → s.recorder r = some x → s.recState r = 2 →
    ∃ t, exec (.capCommit (1 <<< r)) s = .next t ∧ t.flag Reg.CAP_COMMIT r = true ∧ t.shadow = s.shadow)
  ∧ (∀ (s : State) (r : Nat) (x : RecorderState), r < 16 → s.recorder r = some x → s.recState r = 0 →
    ∃ t, exec (.capCommit (1 <<< r)) s = .next t ∧ t.flag Reg.CAP_COMMIT r = false)

/-- PCIE_LINK_DOWN of a link that is up clears link and bus mastering and counts it; PCIE_LINK_UP of a link that is down brings both back; HOST_RESET counts a function-level reset and ends bus mastering; APERTURE_READ of readable bytes answers them, those of the oscillation region free (log entry 3), and changes no memory and no register, across a held block it answers FF bytes and counts, of an address past the memory or of a hidden byte it answers zeros and counts; APERTURE_WRITE is discarded and counted; PCIE_COMPLETION_TIMEOUT is kept with its requester. Rests on R328, R331, R332. -/
def Obligations.HostLink : Prop :=
  (∀ (s : State), s.flag Reg.HIF_STATUS 0 = true →
    ∃ t, exec .pcieLinkDown s = .next t ∧ t.flag Reg.HIF_STATUS 0 = false ∧ t.hif.busMaster = false ∧ t.field Reg.HIF_STATUS 4 2 = 0
      ∧ t.reg Reg.HIF_CNT_LINK_DOWN = satWord ((s.reg Reg.HIF_CNT_LINK_DOWN).toNat + 1))
  ∧ (∀ (s : State), s.flag Reg.HIF_STATUS 0 = false →
    ∃ t, exec .pcieLinkUp s = .next t ∧ t.flag Reg.HIF_STATUS 0 = true ∧ t.hif.busMaster = true)
  ∧ (∀ (s : State) (kind : HostResetKind),
    ∃ t, exec (.hostReset kind) s = .next t ∧ t.hif.busMaster = false
      ∧ t.reg Reg.HIF_CNT_FLR = satWord ((s.reg Reg.HIF_CNT_FLR).toNat + 1))
  ∧ (∀ (s : State) (offset len : Nat), let a := s.pair Reg.HIF_APER_BASE_LO Reg.HIF_APER_BASE_HI + offset
      a + len ≤ Config.dramMiB * 2 ^ 20 → (∀ i, i < len → s.secretAt (a + i) = false) →
      (∀ r, r ∈ s.hif.aperHeld → ¬(r.1 < a + len ∧ a < r.1 + r.2.1)) →
    ∃ t, exec (.apertureRead offset len) s = .next t ∧ t.readData = readWords (s.seeDram a len).2 ∧ t.dram = s.dram
      ∧ (∀ x, x ∉ healthRegs → t.reg x = s.reg x)
      ∧ ((∀ i, i < len → s.inOsc (a + i) = false) → t.readData = readWords (s.readDram a len) ∧ t.free = s.free))
  ∧ (∀ (s : State) (offset len : Nat), let a := s.pair Reg.HIF_APER_BASE_LO Reg.HIF_APER_BASE_HI + offset
      a + len ≤ Config.dramMiB * 2 ^ 20 → (∀ i, i < len → s.secretAt (a + i) = false) →
      (∃ r, r ∈ s.hif.aperHeld ∧ r.1 < a + len ∧ a < r.1 + r.2.1) →
    ∃ t, exec (.apertureRead offset len) s = .next t ∧ t.readData = readWords (List.replicate len 0xFF) ∧ t.dram = s.dram
      ∧ t.reg Reg.HIF_CNT_APER_POISON = satWord ((s.reg Reg.HIF_CNT_APER_POISON).toNat + 1))
  ∧ (∀ (s : State) (offset len : Nat), let a := s.pair Reg.HIF_APER_BASE_LO Reg.HIF_APER_BASE_HI + offset
      (Config.dramMiB * 2 ^ 20 < a + len ∨ ∃ i, i < len ∧ s.secretAt (a + i) = true) →
    ∃ t, exec (.apertureRead offset len) s = .next t ∧ t.readData = readWords (List.replicate len 0) ∧ t.dram = s.dram
      ∧ t.reg Reg.HIF_CNT_APER_ZERO = satWord ((s.reg Reg.HIF_CNT_APER_ZERO).toNat + 1))
  ∧ (∀ (s : State) (offset : Nat),
    ∃ t, exec (.apertureWrite offset) s = .next t ∧ t.dram = s.dram ∧ t.readData = s.readData
      ∧ t.reg Reg.HIF_CNT_APER_WRITE = satWord ((s.reg Reg.HIF_CNT_APER_WRITE).toNat + 1)
      ∧ ∀ a, a ≠ Reg.HIF_CNT_APER_WRITE → a ∉ healthRegs → t.reg a = s.reg a)
  ∧ (∀ (s : State) (requester : Nat), ∃ t, exec (.pcieCompletionTimeout requester) s = .next t ∧ t.hif.aer = s.hif.aer ++ [requester]
      ∧ ∀ a, a ∉ healthRegs → t.reg a = s.reg a)

/-- QUEUE_POP of words that are there answers them in order; of a queue that HOST does not consume it answers the failure word and counts a bad access; QUEUE_POP_TIMEOUT of a stalled read that has reached its limit answers what is there and the failure word for the rest; QUEUE_PUSH into a queue with room appends the words to the open packet; QUEUE_PUSH_END with the right length appends the packet to a queue nobody waits for, closes it and counts it, and of a queue that HOST does not produce for counts a bad access; PUSH_STALL_TIMEOUT at the limit discards the open packet and counts it; QUEUE_IRQ_ITR_EXPIRE ends the wait and rearms the queue's interrupt, which an enabled queue with enough packets raises at once. Rests on R335, R336, R337, R341. -/
def Obligations.HostQueues : Prop :=
  (∀ (s : State) (q words : Nat), s.qConsumer q = 0 → s.qEn q = true → (s.queue q).rdPtr = (s.queue q).rdCopy → (s.queue q).wrPtr = (s.queue q).wrCopy →
      (s.queue q).waits = [] → words ≤ (s.queue q).visible.length →
    ∃ t, exec (.queuePop q words) s = .next t ∧ t.readData = (s.queue q).visible.take words)
  ∧ (∀ (s : State) (q words : Nat), q < 128 → s.qConsumer q ≠ 0 ∨ s.qEn q = false → (s.queue q).pushWait = [] →
    ∃ t, exec (.queuePop q words) s = .next t ∧ t.readData = List.replicate words 0xFFFFFFFE#32 ∧ t.hif = s.hif
      ∧ t.reg Reg.HIF_CNT_BAD_ACCESS = satWord ((s.reg Reg.HIF_CNT_BAD_ACCESS).toNat + 1))
  ∧ (∀ (s : State) (q : Nat) (w : PopWait), (s.queue q).waits = [w] → w.limit ≤ s.elapsed →
      (s.queue q).rdPtr = (s.queue q).rdCopy → (s.queue q).wrPtr = (s.queue q).wrCopy →
    ∃ t, exec (.queuePopTimeout q) s = .next t
      ∧ t.readData = (s.queue q).visible.take w.n ++ List.replicate (w.n - ((s.queue q).visible.take w.n).length) 0xFFFFFFFE#32)
  ∧ (∀ (s : State) (q : Nat) (words : List Word), s.hostPushes q = true → (s.queue q).rdPtr = (s.queue q).rdCopy → (s.queue q).wrPtr = (s.queue q).wrCopy →
      (s.queue q).discarding = false → (s.queue q).pushWait = [] →
      (s.queue q).visible.length + ((s.queue q).open_.getD []).length + words.length + 1 ≤ s.qDepth q →
    ∃ t, exec (.queuePush q words) s = .next t ∧ (t.queue q).open_ = some ((s.queue q).open_.getD [] ++ words)
      ∧ (t.queue q).packets = (s.queue q).packets ∧ ∀ p, p ≠ q → t.queue p = s.queue p)
  ∧ (∀ (s : State) (q : Nat) (value : Word) (w : List Word), s.hostPushes q = true → (s.queue q).rdPtr = (s.queue q).rdCopy →
      (s.queue q).wrPtr = (s.queue q).wrCopy → (s.queue q).discarding = false → (s.queue q).pushWait = [] → (s.queue q).open_ = some w →
      w.length = bitsOf value 10 0 → 1 ≤ w.length → w.length ≤ 1024 → q < 128 → (s.queue q).waits = [] →
    ∃ t, exec (.queuePushEnd q value) s = .next t ∧ (t.queue q).packets = (s.queue q).packets ++ [Packet.mk (bitsOf value 23 16) w]
      ∧ (t.queue q).open_ = none ∧ t.reg (Reg.HIF_Q_CNT_PKTS q) = satWord ((s.reg (Reg.HIF_Q_CNT_PKTS q)).toNat + 1))
  ∧ (∀ (s : State) (q : Nat) (value : Word), q < 128 → s.hostPushes q = false →
    ∃ t, exec (.queuePushEnd q value) s = .next t ∧ t.hif = s.hif
      ∧ t.reg Reg.HIF_CNT_BAD_ACCESS = satWord ((s.reg Reg.HIF_CNT_BAD_ACCESS).toNat + 1))
  ∧ (∀ (s : State) (q at_ : Nat) (w : List Word) (r : List (List Word × Nat)), q < 128 → (s.queue q).pushWait = (w, at_) :: r → at_ ≤ s.elapsed →
    ∃ t, exec (.pushStallTimeout q) s = .next t ∧ (t.queue q).open_ = none ∧ (t.queue q).pushWait = []
      ∧ t.reg (Reg.HIF_Q_CNT_PUSH_DROP q) = satWord ((s.reg (Reg.HIF_Q_CNT_PUSH_DROP q)).toNat + 1))
  ∧ (∀ (s : State) (q at_ : Nat), (s.queue q).irqAfter = some at_ → at_ ≤ s.elapsed →
    ∃ t, exec (.queueIrqItrExpire q) s = .next t ∧ (t.queue q).irqAfter = none ∧ (t.queue q).packets = (s.queue q).packets
      ∧ (t.queue q).irqArmed = !(s.flag (Reg.HIF_Q_CTRL q) 22 && decide (s.field (Reg.HIF_Q_IRQ q) 7 0 ≤ (s.queue q).count)))

/-- COMMAND_TAKE of a command packet that parses runs it and counts it, and of a packet of another kind counts it as bad; NOP completes with OK; JOURNAL copies the 64-byte entry to the host buffer; CANCEL marks a long operation with steps left; ACK acknowledges; ARM arms an IDLE recorder; RELEASE frees a stored capture: each with its completion in the journal. Rests on R290, R315, R317, R342, R343, R346, R349. -/
def Obligations.HostCommands : Prop :=
  (∀ (s : State) (content : BufContent) (p : Packet) (r : List Packet) (c : Instr), (s.queue 0).rdPtr = (s.queue 0).rdCopy → (s.queue 0).wrPtr = (s.queue 0).wrCopy →
      (s.queue 0).packets = p :: r → s.hif.q1Wait = [] → 9 ≤ s.qFree 1 → p.kind = 1 → p.words.length = 16 →
      parseCommand ((p.words.map (fun w => leBytes 4 w.toNat)).flatten) content = some c →
    exec (.commandTake content) s = .next (((((s.setQueue 0 (QueueState.take (s.qDepth 0) 17 (s.queue 0))).bump Reg.HIF_CNT_CMD).runCommand c).pushWake 0).showHealth))
  ∧ (∀ (s : State) (content : BufContent) (p : Packet) (r : List Packet) (h : CmdHdr), (s.queue 0).rdPtr = (s.queue 0).rdCopy → (s.queue 0).wrPtr = (s.queue 0).wrCopy →
      (s.queue 0).packets = p :: r → s.hif.q1Wait = [] → 9 ≤ s.qFree 1 → p.kind = 1 → p.words.length = 16 →
      parseCommand ((p.words.map (fun w => leBytes 4 w.toNat)).flatten) content = some (.nop h) →
    ∃ t, exec (.commandTake content) s = .next t ∧ Completed s t h.tag 0x0001 0x00 ∧ t.reg Reg.HIF_CNT_CMD = satWord ((s.reg Reg.HIF_CNT_CMD).toNat + 1)
      ∧ t.reg Reg.HIF_CNT_CMD_BAD = s.reg Reg.HIF_CNT_CMD_BAD)
  ∧ (∀ (s : State) (content : BufContent) (p : Packet) (r : List Packet), (s.queue 0).rdPtr = (s.queue 0).rdCopy → (s.queue 0).wrPtr = (s.queue 0).wrCopy →
      (s.queue 0).packets = p :: r → (s.queue 0).pushWait = [] → s.hif.q1Wait = [] → 9 ≤ s.qFree 1 → p.kind ≠ 1 ∨ p.words.length ≠ 16 →
    ∃ t, exec (.commandTake content) s = .next t ∧ t.hif.journal = s.hif.journal
      ∧ t.reg Reg.HIF_CNT_CMD_BAD = satWord ((s.reg Reg.HIF_CNT_CMD_BAD).toNat + 1) ∧ t.reg Reg.HIF_CNT_CMD = s.reg Reg.HIF_CNT_CMD)
  ∧ (∀ (s : State) (h : CmdHdr), ∃ t, exec (.nop h) s = .next t ∧ Completed s t h.tag 0x0001 0x00)
  ∧ (∀ (s : State) (h : CmdHdr) (key : Word) (byTag twin : Bool) (e : JournalEntry), bufOk h = true → 64 ≤ h.len → (twin = true → s.flag Reg.TWN_CTRL 0 = true) →
      findEntry (if twin then s.hif.mirror else s.hif.journal) key byTag = some e → s.hif.busMaster = true →
    ∃ t, exec (.journal h key byTag twin) s = .next t ∧ Completed s t h.tag 0x0002 0x00
      ∧ ∀ a, t.hostByte a = if h.buf ≤ a ∧ a < h.buf + 64 then e.bytes.getD (a - h.buf) 0 else s.hostByte a)
  ∧ (∀ (s : State) (h : CmdHdr) (target : Word) (e : JournalEntry) (o : LongOp), s.journalOf target.toNat = some e → s.longOp target.toNat = some o →
      o.step + 1 < o.total →
    ∃ t, exec (.cancel h target) s = .next t ∧ Completed s t h.tag 0x0003 0x00
      ∧ t.hif.ops = s.hif.ops.map (fun x => if x.handle = o.handle then { x with cancelled := true } else x))
  ∧ (∀ (s : State) (h : CmdHdr) (alarm chg : Half) (x : AlarmState), alarm.toNat < 4096 → s.alarm alarm.toNat = some x → x.chg = chg → x.unacked = true →
    ∃ t y, exec (.ack h alarm chg) s = .next t ∧ Completed s t h.tag 0x0010 0x00 ∧ t.alarm alarm.toNat = some y ∧ y.state = ackState x.state)
  ∧ (∀ (s : State) (h : CmdHdr) (r : Nat) (x : RecorderState), r < 16 → s.recorder r = some x → s.capOn r = true → s.recState r = 0 →
    ∃ t, exec (.arm h r) s = .next t ∧ Completed s t h.tag 0x0020 0x00 ∧ t.recState r = 1)
  ∧ (∀ (s : State) (h : CmdHdr) (r n : Nat) (x : RecorderState) (c : Capture), r < 16 → s.recorder r = some x →
      x.stored.find? (fun c => c.num == n && !c.free) = some c → c.exporting = false →
    ∃ t y, exec (.release h r n) s = .next t ∧ Completed s t h.tag 0x0023 0x00 ∧ t.recorder r = some y
      ∧ y.stored = purge (x.stored.map (fun (c : Capture) => if c.num = n then { c with free := true } else c)))

/-- REFACTOR, REBALANCE, PROG_LOAD, PROG_EXCHANGE, PROG_REVERT, ROLE_SWITCH, ARCHIVE_READ, EXPORT_FRAMES and EXPORT, each under the conditions of Table 14-7 and with fewer than 16 operations running, start an operation of their work: the journal shows it RUNNING under a new handle; RESUME of a RESUMABLE entry whose source stands goes on from its step under a new handle; LONG_OP_STEP_COMMIT takes the running operation one step: a settings save with steps left is at its next step, or gone where it is cancelled. Rests on R227, R253, R278, R280, R281, R322, R323, R343, R347, R349, R384. -/
def Obligations.LongHostCommands : Prop :=
  (∀ (s : State) (h : CmdHdr), s.flag Reg.TOP_CTRL 1 = true → s.hif.ops.length < 16 →
    ∃ t, exec (.refactor h) s = .next t ∧ Started s t h 0x0030 .refactor 0)
  ∧ (∀ (s : State) (h : CmdHdr), s.flag Reg.DFS_CTRL 0 = true → s.hif.ops.length < 16 →
    ∃ t, exec (.rebalance h) s = .next t ∧ Started s t h 0x0031 .rebalance 0 ∧ t.flag Reg.DFS_STATUS 16 = true
      ∧ t.dfs.rebalance = s.dfs.rebalance ++ [s.newHandle.1])
  ∧ (∀ (s : State) (h : CmdHdr) (b : BufContent), bufOk h = true → s.loadingProgram = false → s.flag Reg.CYC_CTRL 0 = true → s.cyc.exch = none → s.hif.ops.length < 16 →
    ∃ t, exec (.progLoad h b) s = .next t ∧ Started s t h 0x0040 (.progLoad (bufImage b)) 1)
  ∧ (∀ (s : State) (h : CmdHdr), s.cyc.exch = none → s.cyc.standby.isSome = true → s.cyc.run.isSome = true → s.hif.ops.length < 16 →
    ∃ t, exec (.progExchange h) s = .next t ∧ Started s t h 0x0041 (.progExchange false) 0 ∧ t.cyc.exch = some (s.newHandle.1, s.elapsed))
  ∧ (∀ (s : State) (h : CmdHdr), s.cyc.exch = none → s.cyc.standby.isSome = true → s.cyc.run.isSome = true → s.cyc.standbyRan = true → s.hif.ops.length < 16 →
    ∃ t, exec (.progRevert h) s = .next t ∧ Started s t h 0x0042 (.progExchange true) 0 ∧ t.cyc.exch = some (s.newHandle.1, s.elapsed))
  ∧ (∀ (s : State) (h : CmdHdr), (s.role = 2 ∨ s.role = 4) → s.twn.pendSwitch = none → s.ready = true → s.hif.ops.length < 16 →
    ∃ t b, exec (.roleSwitch h) s = .next t ∧ Started s t h 0x0090 .roleSwitch 0 ∧ t.twn.pendSwitch = some (s.newHandle.1, b) ∧ s.now + 10000000 ≤ b)
  ∧ (∀ (s : State) (h : CmdHdr) (source first count : Nat), source < 6 → 0 < count → bufOk h = true →
      (source < 4 → s.histOn source = true ∧ (s.group source).isSome = true) → (source = 5 → s.flag Reg.MTR_CTRL 0 = true ∧ s.reg Reg.MTR_REC_DEPTH ≠ 0) →
      count * s.archiveSize source ≤ h.len → s.hif.ops.length < 16 →
    ∃ t, exec (.archiveRead h source first count) s = .next t
      ∧ Started s t h 0x0070 (.archiveRead source first count) (copySteps (count * s.archiveSize source)).length)
  ∧ (∀ (s : State) (h : CmdHdr) (r mark : Nat) (x : RecorderState), s.recorder r = some x → mark < 4 → bufOk h = true →
      (∀ o, o ∈ s.hif.ops → ∀ a b, o.work ≠ .exportFrames r mark a b) → (x.widx - x.marks.getD mark 0) * s.recStride r x ≤ h.len → s.hif.ops.length < 16 →
    ∃ t n, exec (.exportFrames h r mark) s = .next t ∧ Started s t h 0x0022 (.exportFrames r mark (x.marks.getD mark 0) x.widx) n ∧ 0 < n)
  ∧ (∀ (s : State) (h : CmdHdr) (r n : Nat) (x : RecorderState) (c : Capture), s.storedCapture r n = some (x, c) → c.exporting = false → bufOk h = true →
      x.cfg.signSlot = 0xFFFF → (s.captureBytes r x c false).length ≤ h.len → s.hif.ops.length < 16 →
    ∃ t m, exec (.export_ h r n) s = .next t ∧ 0 < m ∧ Started s t h 0x0021 (.export_ r n (s.captureBytes r x c false)) m)
  ∧ (∀ (s : State) (h : CmdHdr) (target : Word) (e : JournalEntry) (c : LongOp) (source first count : Nat), s.journalOf target.toNat = some e →
      e.disp = .resumable → e.ctx = some c → c.work = .archiveRead source first count → s.sourceStands c.work = true → bufOk h = true →
      c.sizes.foldl (· + ·) 0 ≤ h.len → s.hif.ops.length < 16 → s.longOp s.newHandle.1 = none →
    ∃ t o, exec (.resume h target) s = .next t ∧ t.longOp s.newHandle.1 = some o ∧ o.work = c.work ∧ o.step = c.step ∧ o.units = c.units)
  ∧ (∀ (s : State) (handle : Nat) (o : LongOp), s.longOp handle = some o →
    exec (.longOpStepCommit handle) s = .next ((s.workStep o).endCancelled handle).showHealth)
  ∧ (∀ (s : State) (handle : Nat) (o : LongOp) (l : List SettingRec), s.longOp handle = some o → o.work = .settingsSave l → o.step + 1 < o.total → o.cancelled = false →
    ∃ t, exec (.longOpStepCommit handle) s = .next t ∧ t.longOp handle = some { o with step := o.step + 1, units := o.units + (if o.step = 0 then l.length else 0) })
  ∧ (∀ (s : State) (handle : Nat) (o : LongOp) (l : List SettingRec), s.longOp handle = some o → o.work = .settingsSave l → o.step + 1 < o.total → o.cancelled = true →
    ∃ t, exec (.longOpStepCommit handle) s = .next t ∧ t.longOp handle = none)

/-- HGW_LINK_TRAINED by the expected neighbour of the same system, epoch and version brings the link up and floods; by another device it only logs; HGW_LINK_DOWN takes the link down, counts it and floods; HGW_PACKET_RX with a bad CRC counts a retry, a ninth rejection in a row, its eighth failed retry, takes the link down, and a good packet to this device is delivered and relayed to a partner, a withdrawal ending the pending placement of its version, and one that the partner relays over T0 is delivered; LINK_STATE_FLOOD floods after 10 ms; HGW_TIME_EXCHANGE shows delay and offset; LINK_STEP_CHANGE sets the receive step told, and raises or lowers the transmit step; HGW_COMMIT requests the commit. Rests on R353, R354, R355, R356, R359, R365, R366, R367, R368, R374, R376. -/
def Obligations.JoinedLinks : Prop :=
  (∀ (s : State) (link : Nat) (m : HgwHello), link < 6 → s.flag Reg.HGW_CTRL 0 = true → s.flag Reg.HGW_CTRL (8 + link) = true → s.terminates link = true → s.linkUp link = false →
      m.device = s.torusNeighbour s.ownId link → m.systemId = s.reg Reg.HGW_SYSTEM_ID → m.epoch = s.field Reg.DFS_SOWER_EPOCH 11 0 → s.hglAccepts m.hgl = true →
    ∃ t, exec (.hgwLinkTrained link m) s = .next t ∧ t.linkUsable link = true ∧ t.field (Reg.HGW_L_STATUS link) 24 16 = m.device % 512
      ∧ t.hgw.floodSeq = s.hgw.floodSeq + 1 ∧ t.hgw.lastFlood = s.elapsed)
  ∧ (∀ (s : State) (link : Nat) (m : HgwHello), s.flag Reg.HGW_CTRL 0 = true → s.flag Reg.HGW_CTRL (8 + link) = true → s.terminates link = true → s.linkUp link = false →
      m.device ≠ s.torusNeighbour s.ownId link →
    exec (.hgwLinkTrained link m) s = .next (s.log 0x1002 2 (leBytes 1 link ++ leBytes 1 3 ++ leBytes 2 m.device)).showHealth)
  ∧ (∀ (s : State) (link : Nat), link < 6 → s.linkUp link = true →
    ∃ t, exec (.hgwLinkDown link) s = .next t ∧ t.linkUp link = false ∧ t.hgw.floodSeq = s.hgw.floodSeq + 1
      ∧ t.reg (Reg.HGW_L_CNT_DOWN link) = satWord ((s.reg (Reg.HGW_L_CNT_DOWN link)).toNat + 1))
  ∧ (∀ (s : State) (link : Nat) (p : HgwPacket), link < 6 → link < s.hgw.links.length → s.linkUp link = true → (s.hlink link).retries < 8 →
    ∃ t, exec (.hgwPacketRx link false p) s = .next t ∧ t.linkUp link = true ∧ (t.hlink link).retries = (s.hlink link).retries + 1
      ∧ t.reg (Reg.HGW_L_CNT_RETRY link) = satWord ((s.reg (Reg.HGW_L_CNT_RETRY link)).toNat + 1))
  ∧ (∀ (s : State) (link : Nat) (p : HgwPacket), link < 6 → s.linkUp link = true → 8 ≤ (s.hlink link).retries →
    ∃ t, exec (.hgwPacketRx link false p) s = .next t ∧ t.linkUp link = false)
  ∧ (∀ (s : State) (link : Nat) (p : HgwPacket), link < 6 → s.linkUsable link = true → p.dst = s.ownId → (∀ d q l, p.body ≠ .linkState d q l) →
    let u := s.modLink link (fun x => { x with retries := 0 })
    exec (.hgwPacketRx link true p) s = .next ((((if p.cls = .lc0 then u.lc0Crosses link p.dst else u).relayT0 p).takePacket p).showHealth))
  ∧ (∀ (s : State) (link ver : Nat) (p : HgwPacket), link < 6 → s.linkUsable link = true → p.dst = s.ownId → p.body = .withdraw ver →
    ∃ t, exec (.hgwPacketRx link true p) s = .next t ∧ t.hgw.pending = s.hgw.pending.filter (fun (x : XPlacement) => x.ver != ver)
      ∧ (t.hlink link).retries = 0 ∧ t.dfs = s.dfs)
  ∧ (∀ (s : State) (p : HgwPacket), s.t0Up = true → p.dst = s.ownId → (∀ d q l, p.body ≠ .linkState d q l) →
    exec (.hgwPacketRx 6 true p) s = .next (s.takePacket p).showHealth)
  ∧ (∀ (s : State), s.flag Reg.HGW_CTRL 0 = true → s.hgw.lastFlood + 10000000 ≤ s.elapsed →
    ∃ t, exec .linkStateFlood s = .next t ∧ t.hgw.lastFlood = s.elapsed ∧ t.hgw.floodSeq = s.hgw.floodSeq + 1
      ∧ ∀ a, a ∉ healthRegs → t.reg a = s.reg a)
  ∧ (∀ (s : State) (link t1 t2 t3 t4 : Nat) (locked : Bool), link < 6 → s.linkUp link = true →
    ∃ t, exec (.hgwTimeExchange link t1 t2 t3 t4 locked) s = .next t
      ∧ t.reg (Reg.HGW_L_DELAY link) = satS32 ((((t4 : Int) - t1) - ((t3 : Int) - t2)) / 2)
      ∧ t.reg (Reg.HGW_L_OFFSET link) = satS32 ((((t2 : Int) - t1) + ((t3 : Int) - t4)) / 2))
  ∧ (∀ (s : State) (link n util : Nat), link < 6 → n < 4 → s.linkUp link = true → s.field (Reg.HGW_L_STATUS link) 4 3 ≠ n →
    ∃ t, exec (.linkStepChange link (some n) util) s = .next t ∧ t.field (Reg.HGW_L_STATUS link) 4 3 = n
      ∧ t.field (Reg.HGW_L_STATUS link) 2 1 = s.field (Reg.HGW_L_STATUS link) 2 1
      ∧ t.reg (Reg.HGW_L_CNT_STEP link) = satWord ((s.reg (Reg.HGW_L_CNT_STEP link)).toNat + 1))
  ∧ (∀ (s : State) (link util : Nat), link < 6 → s.linkUp link = true → s.flag Reg.HGW_LP_CTRL 0 = true → s.flag (Reg.HGW_L_STATUS link) 5 = false →
      0 < s.field (Reg.HGW_L_STATUS link) 2 1 → 80 * 65536 < util * 100 →
    ∃ t, exec (.linkStepChange link none util) s = .next t ∧ t.field (Reg.HGW_L_STATUS link) 2 1 = s.field (Reg.HGW_L_STATUS link) 2 1 - 1
      ∧ t.reg (Reg.HGW_L_UTIL link) = Word.ofNat (min util 65536))
  ∧ (∀ (s : State) (link util : Nat), link < 6 → s.linkUp link = true → s.flag Reg.HGW_LP_CTRL 0 = true → s.flag (Reg.HGW_L_STATUS link) 5 = false →
      s.field (Reg.HGW_L_STATUS link) 2 1 < 3 → util * 100 < 20 * 65536 →
      ((s.hlink link).queue.map (fun (p : HgwPacket) => p.size)).foldl (· + ·) 0 ≤ 8192 →
    ∃ t, exec (.linkStepChange link none util) s = .next t ∧ t.field (Reg.HGW_L_STATUS link) 2 1 = s.field (Reg.HGW_L_STATUS link) 2 1 + 1)
  ∧ (∀ (s : State), ∃ t, exec .hgwCommit s = .next t ∧ t.flag Reg.HGW_COMMIT 0 = true ∧ t.hgw = s.hgw)

/-- ROUTE_RECOMPUTE gives every other device known the route of the links now known; ROUTE_TIMEOUT of a device unheard for more than 30 ms takes it down; CLOSURE_TOKEN_RX releases a forwarded row once, and a second token changes nothing; FWD_SECTION_TIMEOUT releases a row whose token did not come in time and counts it, and does nothing before; XPLACEMENT_ACK_DEADLINE of the coordinator withdraws a placement that a device has not acknowledged 100 ms before its boundary. Rests on R358, R359, R360, R361, R362, R370. -/
def Obligations.JoinedRoutes : Prop :=
  (∀ (s : State), s.flag Reg.HGW_CTRL 0 = true →
    ∃ t, exec .routeRecompute s = .next t
      ∧ t.hgw.devices = s.hgw.devices.map (fun (x : Nat × DeviceInfo) => if x.1 = s.ownId then x
          else (x.1, s.routeOf (s.ownLinks.map (fun y => (y.1, s.hopsFrom y.2))) x.1 x.2)))
  ∧ (∀ (s : State) (device : Nat) (x : DeviceInfo), kvGet s.hgw.devices device = some x → x.up = true → x.lastMsg + 30000000 < s.elapsed →
    ∃ t y, exec (.routeTimeout device) s = .next t ∧ kvGet t.hgw.devices device = some y ∧ y.up = false ∧ y.first = none ∧ y.seq = x.seq)
  ∧ (∀ (s : State) (device : Nat) (x : DeviceInfo), kvGet s.hgw.devices device = some x → s.elapsed ≤ x.lastMsg + 30000000 →
    exec (.routeTimeout device) s = .next s.showHealth)
  ∧ (∀ (s : State) (owner rg sec tag : Nat) (flags : Byte) (seq : Word) (onDl : Bool) (x : FwdSection),
      s.hgw.fwd.find? (fun x => x.owner == owner && x.rg == rg && x.sec == sec) = some x → x.released.contains tag = false →
    ∃ t, exec (.closureTokenRx owner rg sec tag flags seq onDl) s = .next t
      ∧ t.hgw.fwd = s.hgw.fwd.map (fun (x : FwdSection) =>
          if x.owner == owner && x.rg == rg && x.sec == sec then x.release tag else x)
      ∧ t = (((s.modFwd owner rg sec (fun x => x.release tag)).triggerGraphs
      (.section_ (guestGroup owner rg) sec) tag (some (guestGroup owner rg, seq.toNat)) (some s.now)).showHealth))
  ∧ (∀ (s : State) (owner rg sec tag : Nat) (flags : Byte) (seq : Word) (onDl : Bool) (x : FwdSection),
      s.hgw.fwd.find? (fun x => x.owner == owner && x.rg == rg && x.sec == sec) = some x → x.released.contains tag = true →
    exec (.closureTokenRx owner rg sec tag flags seq onDl) s = .next s.showHealth)
  ∧ (∀ (s : State) (owner rg sec tag : Nat) (x : FwdSection), s.hgw.fwd.find? (fun x => x.owner == owner && x.rg == rg && x.sec == sec) = some x →
      x.released.contains tag = false → x.hmax ≠ 0 → tag + x.hmax + 28000 ≤ s.now →
    ∃ t, exec (.fwdSectionTimeout owner rg sec tag) s = .next t
      ∧ t.hgw.fwd = s.hgw.fwd.map (fun (x : FwdSection) =>
          if x.owner == owner && x.rg == rg && x.sec == sec then x.release tag else x)
      ∧ t.reg Reg.HGW_CNT_FWD_TIMEOUT = satWord ((s.reg Reg.HGW_CNT_FWD_TIMEOUT).toNat + 1)
      ∧ t = (((s.fwdRelease owner rg sec tag s.freshWord.toNat).useFree 1).bump Reg.HGW_CNT_FWD_TIMEOUT).showHealth)
  ∧ (∀ (s : State) (owner rg sec tag : Nat) (x : FwdSection), s.hgw.fwd.find? (fun x => x.owner == owner && x.rg == rg && x.sec == sec) = some x →
      s.now < tag + x.hmax + 28000 → exec (.fwdSectionTimeout owner rg sec tag) s = .next s.showHealth)
  ∧ (∀ (s : State) (p : XPlacement) (d : Nat × DeviceInfo), s.hgw.pending = some p → s.coordinator = s.ownId → p.boundary * 1000000000 ≤ s.now + 100000000 →
      s.hgw.devices.find? (fun d => d.1 != s.ownId && !p.acks.contains d.1) = some d →
    ∃ t, exec .xplacementAckDeadline s = .next t ∧ t.hgw.pending = none ∧ t.hgw.away = s.hgw.away ∧ t.hgw.guests = s.hgw.guests)
  ∧ (∀ (s : State) (p : XPlacement), s.hgw.pending = some p → s.now + 100000000 < p.boundary * 1000000000 →
    exec .xplacementAckDeadline s = .next s.showHealth)

/-- T0_TRAINED starts the pairing of a device that is PAIRING or DETACHED and leaves a driving one as it is, and the same side twice is a conflict; PARTNER_WAIT_EXPIRE makes a device SOLO that heard no partner for 2 s; PAIRING_SYNC_DONE makes the SOLO device TILLED and the synchronising one FALLOW; PAIRING_TIMEOUT restarts synchronisation; SELF_TEST_FAIL makes a FALLOW device FAULTY; T0_DETACH makes it DETACHED and leaves the Tilled one Tilled; PARTNER_LOSS_DETECT makes the Tilled device SOLO and begins the switch-over of a READY Fallow one; SWITCH_INSTANT, RELEASE_REQUEST_RX and INPUT_TRIGGER_EXPIRE begin it with their causes; TAKEOVER_COMPLETE makes the device TILLED with cause and gap recorded. Rests on R377, R378, R379, R380, R383, R384, R385, R388, R389. -/
def Obligations.TwinRoles : Prop :=
  (∀ (s : State) (h : TwinHello), s.twinOn = true → s.committed = true → (s.role = 3 ∨ s.role = 5) → h.side ≠ s.twinSide → s.versionBreak h = none →
    ∃ t, exec (.t0Trained h) s = .next t ∧ t.role = 3 ∧ t.flag Reg.TWN_STATUS 9 = true ∧ t.twn.pairStart = s.elapsed ∧ t.reg Reg.TWN_PARTNER_SUP = h.sup)
  ∧ (∀ (s : State) (h : TwinHello), s.twinOn = true → s.committed = true → (s.role = 1 ∨ s.role = 2) → h.role ≠ 1 → h.role ≠ 2 → h.side ≠ s.twinSide →
      s.versionBreak h = none →
    ∃ t, exec (.t0Trained h) s = .next t ∧ t.role = s.role ∧ t.flag Reg.TWN_STATUS 9 = true)
  ∧ (∀ (s : State) (h : TwinHello), s.twinOn = true → s.committed = true → s.role = 1 → h.side = s.twinSide →
    ∃ t, exec (.t0Trained h) s = .next t ∧ t.role = 1 ∧ t.twn.conflict = true)
  ∧ (∀ (s : State), s.twinOn = true → s.committed = true → s.role = 3 → s.twn.heard = false → s.twn.commitAt + 2000000000 ≤ s.elapsed →
      s.cyc.pubs = [] → s.alm.pubs = [] → s.twn.unacked = [] →
    ∃ t, exec .partnerWaitExpire s = .next t ∧ t.role = 1 ∧ t.flag Reg.TWN_STATUS 8 = false)
  ∧ (∀ (s : State) (snap : TwinSnapshot), s.twinOn = true → s.flag Reg.TWN_STATUS 9 = true → s.role = 1 →
    ∃ t, exec (.pairingSyncDone snap) s = .next t ∧ t.role = 2 ∧ t.twn.roleGts = s.now)
  ∧ (∀ (s : State) (snap : TwinSnapshot), s.twinOn = true → s.flag Reg.TWN_STATUS 9 = true → s.role = 3 → s.twinSide = true →
    ∃ t, exec (.pairingSyncDone snap) s = .next t ∧ t.role = 4)
  ∧ (∀ (s : State), s.role = 3 → s.twn.heard = true → s.twn.pairStart + 120000000000 ≤ s.elapsed →
    ∃ t, exec .pairingTimeout s = .next t ∧ t.twn.pairStart = s.elapsed ∧ t.role = 3)
  ∧ (∀ (s : State) (n : Nat), s.role = 4 → ∃ t, exec (.selfTestFail n) s = .next t ∧ t.role = 6 ∧ t.ready = false)
  ∧ (∀ (s : State), s.twinOn = true → s.flag Reg.TWN_STATUS 9 = true → s.role = 4 →
    ∃ t, exec .t0Detach s = .next t ∧ t.role = 5 ∧ t.flag Reg.TWN_STATUS 9 = false ∧ t.ready = false)
  ∧ (∀ (s : State), s.twinOn = true → s.flag Reg.TWN_STATUS 9 = true → s.role = 2 → s.twn.unacked = [] →
    ∃ t, exec .t0Detach s = .next t ∧ t.role = 2 ∧ t.flag Reg.TWN_STATUS 9 = false ∧ t.ready = false)
  ∧ (∀ (s : State), s.twinOn = true → s.role = 2 → s.twn.unacked = [] → ∃ t, exec .partnerLossDetect s = .next t ∧ t.role = 1)
  ∧ (∀ (s : State), s.twinOn = true → s.role = 4 → s.ready = true →
    ∃ t, exec .partnerLossDetect s = .next t ∧ t.twn.ts = some (s.elapsed - 500000, 2) ∧ t.role = 4)
  ∧ (∀ (s : State), s.twinOn = true → s.role = 4 → s.ready = false → ∃ t, exec .partnerLossDetect s = .next t ∧ t.twn.ts = s.twn.ts ∧ t.role = 4)
  ∧ (∀ (s : State), s.role = 4 → s.ready = true → s.twn.pendSwitch = none → ∃ t, exec .switchInstant s = .next t ∧ t.twn.ts = some (s.elapsed, 1))
  ∧ (∀ (s : State), s.role = 2 → s.ready = true → s.twn.pendSwitch = none → s.hif.ops = [] →
    ∃ t, exec .switchInstant s = .next t ∧ t.role = 4 ∧ t.twn.pins = s.alm.pins.map (fun (p : PinState) => p.active))
  ∧ (∀ (s : State), s.role = 4 → s.ready = true → ∃ t, exec .releaseRequestRx s = .next t ∧ t.twn.ts = some (s.elapsed, 3))
  ∧ (∀ (s : State), s.role = 4 → s.ready = true → s.flag Reg.TWN_CTRL 2 = true → ∃ t, exec .inputTriggerExpire s = .next t ∧ t.twn.ts = some (s.elapsed, 4))
  ∧ (∀ (s : State) (ts cause : Nat), s.twn.ts = some (ts, cause) → s.cyc.pubs = [] → s.alm.pubs = [] → s.twn.pubs = [] → s.dec.outs = [] →
    ∃ t, exec .takeoverComplete s = .next t ∧ t.role = 2 ∧ t.twn.ts = none ∧ t.ready = false
      ∧ t.reg Reg.TWN_LAST_CAUSE = Word.ofNat (cause + satNat 16 ((s.elapsed - ts) / 1000) * 65536)
      ∧ t.reg Reg.TWN_CNT_SWITCH = satWord ((s.reg Reg.TWN_CNT_SWITCH).toNat + 1))

/-- ROW_DIGEST_RX of a row retired here compares the two digests and counts the row, and a mismatch is counted too; COMPARE_WINDOW_END closes the window; HEALTH_REPORT_TX keeps the report sent; HEALTH_REPORT_RX shows the report, and one with a FAULT bit makes the Tilled device SOLO; PARTNER_REPORT_TIMEOUT clears READY; MIRROR_MESSAGE_RX is applied and acknowledged on the Fallow device only; MIRROR_ACK_RX ends the wait of the message. Rests on R382, R383, R386, R388. -/
def Obligations.TwinExchange : Prop :=
  (∀ (s : State) (rg tag : Nat) (d : Word) (x : Nat × Nat × Word), s.role = 4 → s.twn.digests.find? (fun x => x.1 == rg && x.2.1 == tag) = some x →
    ∃ t, exec (.rowDigestRx rg tag d) s = .next t ∧ t.reg Reg.TWN_CNT_CMP_ROWS = satWord ((s.reg Reg.TWN_CNT_CMP_ROWS).toNat + 1)
      ∧ t.reg Reg.TWN_CNT_CMP_MISMATCH = satWord ((s.reg Reg.TWN_CNT_CMP_MISMATCH).toNat + bit (x.2.2 != d))
      ∧ t.twn.winMis = s.twn.winMis + bit (x.2.2 != d))
  ∧ (∀ (s : State) (rg tag : Nat) (d : Word), s.role ≠ 4 → exec (.rowDigestRx rg tag d) s = .next s.showHealth)
  ∧ (∀ (s : State), s.twinOn = true → s.twn.winStart < s.now / 10000000000 * 10000000000 →
    ∃ t, exec .compareWindowEnd s = .next t ∧ t.twn.winStart = s.now / 10000000000 * 10000000000 ∧ t.twn.winMis = 0 ∧ t.twn.lastMis = s.twn.winMis
      ∧ (s.twn.winMis = 0 → t.flag Reg.TWN_STATUS 11 = false))
  ∧ (∀ (s : State), s.twinOn = true → (s.role = 4 ∨ s.role = 6) → s.twn.conflict = false → s.flag Reg.TWN_STATUS 9 = true →
      s.twn.reportSent + 100000000 ≤ s.elapsed →
    ∃ t, exec .healthReportTx s = .next t ∧ t.twn.lastReport = some s.healthReport ∧ t.twn.reportSent = s.elapsed ∧ t.twn.reportSeq = s.twn.reportSeq + 1
      ∧ t.ready = (s.role == 4 && reportFit (s.flag Reg.TWN_CTRL 3) s.healthReport))
  ∧ (∀ (s : State) (r : HealthReport), s.twinOn = true → s.role = 2 → reportFaulty r = false →
    ∃ t, exec (.healthReportRx r) s = .next t ∧ t.role = 2 ∧ t.ready = reportFit (s.flag Reg.TWN_CTRL 3) r ∧ t.twn.report = some r
      ∧ t.reg Reg.TWN_PARTNER_HEALTH = Word.ofNat (r.status.toNat + r.sync.toNat * 2 ^ 16 + r.tq.toNat * 2 ^ 24) ∧ t.reg Reg.TWN_PARTNER_AGE = 0)
  ∧ (∀ (s : State) (r : HealthReport), s.twinOn = true → s.role = 2 → s.twn.unacked = [] → reportFaulty r = true →
    ∃ t, exec (.healthReportRx r) s = .next t ∧ t.role = 1 ∧ t.ready = false)
  ∧ (∀ (s : State), s.role = 2 → s.twn.reportAt + 300000000 < s.elapsed → ∃ t, exec .partnerReportTimeout s = .next t ∧ t.ready = false ∧ t.role = 2)
  ∧ (∀ (s : State) (m : MirrorMsg), s.role = 4 → (∀ k i b, m.body = .pulse k i b → k < 8) →
    ∃ t, exec (.mirrorMessageRx m) s = .next t ∧ t.twn.acked = (m.num :: s.twn.acked).take 64 ∧ t.role = 4
      ∧ (∀ n active, m.body = .pin n active → t.twn.pins = listMod s.twn.pins n (fun _ => active) ∧ t.alm = s.alm)
      ∧ (∀ o tag, m.body = .outTag o tag → kvGet t.twn.outTags o = some tag))
  ∧ (∀ (s : State) (m : MirrorMsg), s.role ≠ 4 → exec (.mirrorMessageRx m) s = .next s.showHealth)
  ∧ (∀ (s : State) (num : Nat), s.role = 2 → (∀ h, h ∈ s.twn.held → h.1 ≠ num) →
      (∀ m, m ∈ s.twn.unacked → m.num = num → ∀ k active, m.body ≠ .pin k active) →
    ∃ t, exec (.mirrorAckRx num) s = .next t ∧ t.twn.unacked = s.twn.unacked.filter (fun m => m.num != num) ∧ t.twn.held = s.twn.held ∧ t.alm = s.alm)

/-- CADDY_REQUEST starts an operation whose engine has room and whose checks pass, with the slot latched; one that a check fails is answered with the cause and starts nothing; one whose engine is full waits; CADDY_OP_DONE answers the operation with its result and counts it; SEC_REDERIVE of a slot that permits it gives the slot the material of its parent as it now is and the next generation, and fails on a stale parent; KEY_UPDATE starts the update of five steps. Rests on R396, R397, R399, R402, R403. -/
def Obligations.KeyOperations : Prop :=
  (∀ (s : State) (r : CaddyReq), s.caddyLoad r.use < (useRoom r.use).2 → (s.sec.queue.all (fun o => (useRoom o.req.use).1 != (useRoom r.use).1)) = true →
      s.caddyCheck r = none →
    ∃ t, exec (.caddyRequest r) s = .next t ∧ t.sec = { s.sec with ops := s.sec.ops ++ [CaddyOp.mk r (s.slot r.slot)] })
  ∧ (∀ (s : State) (r : CaddyReq) (c : CaddyResult), s.caddyLoad r.use < (useRoom r.use).2 →
      (s.sec.queue.all (fun o => (useRoom o.req.use).1 != (useRoom r.use).1)) = true → s.caddyCheck r = some c →
    ∃ t, exec (.caddyRequest r) s = .next t ∧ t.sec.results = (r.id, c) :: s.sec.results ∧ t.sec.ops = s.sec.ops ∧ t.sec.slots = s.sec.slots
      ∧ (c ≠ .keyStale → t.reg Reg.SEC_CNT_DENIED = satWord ((s.reg Reg.SEC_CNT_DENIED).toNat + 1)))
  ∧ (∀ (s : State) (r : CaddyReq), (useRoom r.use).2 ≤ s.caddyLoad r.use →
    ∃ t, exec (.caddyRequest r) s = .next t ∧ t.sec = { s.sec with queue := s.sec.queue ++ [CaddyOp.mk r {}] })
  ∧ (∀ (s : State) (id : Nat) (o : CaddyOp), s.sec.ops.find? (fun o => o.req.id == id) = some o → s.sec.queue = [] →
    ∃ t, exec (.caddyOpDone id) s = .next t ∧ t.sec.results = (id, CaddyResult.done (s.caddyResult o)) :: s.sec.results ∧ t.sec.ops = s.sec.ops.erase o
      ∧ t.reg Reg.SEC_CNT_OPS = satWord ((s.reg Reg.SEC_CNT_OPS).toNat + 1))
  ∧ (∀ (s : State) (writer : CaddyMaster) (value : Word), (writer = .host ∨ writer = .sup) → (s.slot (bitsOf value 8 0)).typ ≠ .empty →
      (s.slot (bitsOf value 8 0)).rederive = true → s.flag Reg.SEC_STATUS 0 = false → (s.slot (s.slot (bitsOf value 8 0)).parent.toNat).typ ≠ .empty →
      staleIn s.sec.slots 5 (s.slot (bitsOf value 8 0)).parent.toNat = false →
    ∃ t, exec (.secRederive writer value) s = .next t ∧ t.flag Reg.SEC_STATUS 2 = true
      ∧ t.slot (bitsOf value 8 0) = deriveFrom s.sec.slots s.uidBytes (s.slot (bitsOf value 8 0))
      ∧ (t.slot (bitsOf value 8 0)).gen = (s.slot (bitsOf value 8 0)).gen + 1 ∧ ∀ n, n ≠ bitsOf value 8 0 → t.slot n = s.slot n)
  ∧ (∀ (s : State) (writer : CaddyMaster) (value : Word), (writer = .host ∨ writer = .sup) → (s.slot (bitsOf value 8 0)).typ ≠ .empty →
      (s.slot (bitsOf value 8 0)).rederive = true → staleIn s.sec.slots 5 (s.slot (bitsOf value 8 0)).parent.toNat = true →
    ∃ t, exec (.secRederive writer value) s = .next t ∧ t.flag Reg.SEC_STATUS 3 = true ∧ t.sec = s.sec)
  ∧ (∀ (s : State) (h : CmdHdr) (b : BufContent), bufOk h = true → (∀ o, o ∈ s.hif.ops → ∀ m, o.work ≠ .keyUpdate m) → s.flag Reg.SEC_CTRL 0 = true → s.hif.ops.length < 16 →
    ∃ t, exec (.keyUpdate h b) s = .next t ∧ Started s t h 0x0060 (.keyUpdate (bufBytes b)) 5 ∧ t.flag Reg.SEC_STATUS 4 = true)

/-- BKD_WRITE_APPLY of the two count registers loads the count; BKD_TICK_READ answers the low word and freezes the group; BKD_WEEKDAY_READ answers the frozen weekday and ends the freeze; FREEZE_TIMEOUT ends a freeze of 1 s; WEEKDAY_ADVANCE at a full day of ticks wraps from 6 to 0; ALARM_ARM arms an alarm ahead of the count and refuses one that is past; RTC_ALARM fires an armed alarm that is reached; DATE_SET loads a valid date and refuses another; RTC_SYNC_CHECK loads UTC when they differ by more than 1 ms and leaves the count otherwise. Rests on R408, R409, R410, R412, R413, R414, R415. -/
def Obligations.BackupClock : Prop :=
  (∀ (s : State) (lo hi : Word), s.bkd.writes = [(0x08, lo), (0x0C, hi)] → s.bkd.armed = false →
    ∃ t, exec .bkdWriteApply s = .next t ∧ t.bkd.count = BitVec.ofNat 48 (lo.toNat + hi.toNat % 2 ^ 16 * 2 ^ 32) ∧ t.bkd.rtcValid = true ∧ t.bkd.writes = []
      ∧ t.bkd.weekday = s.bkd.weekday ∧ t.bkd.prescale = s.bkd.prescale)
  ∧ (∀ (s : State) (lo hi : Word), s.bkd.writes = [(0x18, lo), (0x1C, hi), (0x20, 1)] → s.bkd.armed = false →
      s.bkd.count.toNat < (BitVec.ofNat 48 (lo.toNat + hi.toNat % 2 ^ 16 * 2 ^ 32)).toNat →
    ∃ t, exec .bkdWriteApply s = .next t ∧ t.bkd.alarm = BitVec.ofNat 48 (lo.toNat + hi.toNat % 2 ^ 16 * 2 ^ 32) ∧ t.bkd.armed = true ∧ t.bkd.fired = false)
  ∧ (∀ (s : State) (sup : Bool),
    ∃ t f, exec (.bkdTickRead sup) s = .next t ∧ t.readData = [s.bkd.count.setWidth 32] ∧ t.bkd.freezeOf sup = some f ∧ f.count = s.bkd.count
      ∧ f.weekday = s.bkd.weekday ∧ f.prescale = s.bkd.prescale ∧ t.bkd.freezeOf (!sup) = s.bkd.freezeOf (!sup) ∧ t.bkd.count = s.bkd.count)
  ∧ (∀ (s : State) (sup : Bool),
    ∃ t, exec (.bkdWeekdayRead sup) s = .next t ∧ t.readData = [(((s.bkd.freezeOf sup).map (fun f => f.weekday)).getD s.bkd.weekday).setWidth 32]
      ∧ t.bkd.freezeOf sup = none ∧ t.bkd.count = s.bkd.count)
  ∧ (∀ (s : State) (sup : Bool) (f : Freeze), s.bkd.freezeOf sup = some f → f.since + 1000000000 ≤ s.elapsed →
    ∃ t, exec (.freezeTimeout sup) s = .next t ∧ t.bkd.freezeOf sup = none ∧ t.bkd.freezeTo = true)
  ∧ (∀ (s : State) (sup : Bool) (f : Freeze), s.bkd.freezeOf sup = some f → s.elapsed < f.since + 1000000000 → exec (.freezeTimeout sup) s = .next s.showHealth)
  ∧ (∀ (s : State), s.bkd.weekday.toNat ≤ 6 → ticksPerDay ≤ s.bkd.prescale.toNat + 1 →
    ∃ t, exec .weekdayAdvance s = .next t ∧ t.bkd.weekday.toNat = (s.bkd.weekday.toNat + 1) % 7 ∧ t.bkd.prescale = 0 ∧ t.bkd.count = s.bkd.count)
  ∧ (∀ (s : State), s.bkd.count.toNat < s.bkd.alarm.toNat →
    ∃ t, exec .alarmArm s = .next t ∧ t.bkd.armed = true ∧ t.bkd.fired = false ∧ t.bkd.skipped = false)
  ∧ (∀ (s : State), s.bkd.alarm.toNat ≤ s.bkd.count.toNat →
    ∃ t, exec .alarmArm s = .next t ∧ t.bkd = { s.bkd with alarmPast := true })
  ∧ (∀ (s : State), s.bkd.armed = true → s.bkd.alarm.toNat ≤ s.bkd.count.toNat →
    ∃ t, exec .rtcAlarm s = .next t ∧ t.bkd.armed = false ∧ t.bkd.fired = true ∧ t.bkd.alarmAt = s.bkd.count
      ∧ t.bkd.skipped = (s.bkd.alarm != s.bkd.count) ∧ t.bkd.latch = (s.bkd.latch || s.bkd.wakeAlarm))
  ∧ (∀ (s : State), s.bkd.armed = false ∨ s.bkd.count.toNat < s.bkd.alarm.toNat → exec .rtcAlarm s = .next s.showHealth)
  ∧ (∀ (s : State) (h : CmdHdr) (y mo d hh mi sec : Nat), dateOk y mo d hh mi sec = true →
    ∃ t, exec (.dateSet h y mo d hh mi sec) s = .next t ∧ t.bkd.count = BitVec.ofNat 48 (dateTicks y mo d hh mi sec) ∧ t.bkd.weekday = s.bkd.weekday
      ∧ t.bkd.rtcValid = true ∧ Completed s t h.tag 0x0080 0x00)
  ∧ (∀ (s : State) (h : CmdHdr) (y mo d hh mi sec : Nat), dateOk y mo d hh mi sec = false →
    ∃ t, exec (.dateSet h y mo d hh mi sec) s = .next t ∧ t.bkd = s.bkd ∧ Completed s t h.tag 0x0080 0x0A)
  ∧ (∀ (s : State), s.flag Reg.BKD_CTRL 0 = true → s.syncState = 2 → s.bkd.lastSync = none → 1000000 * 32768 < (s.utcTicks - s.bkd.count.toNat).natAbs * 1000000000 →
    ∃ t, exec .rtcSyncCheck s = .next t ∧ t.bkd.count = BitVec.ofInt 48 s.utcTicks ∧ t.bkd.lastSync = some s.elapsed)
  ∧ (∀ (s : State), s.flag Reg.BKD_CTRL 0 = true → s.syncState = 2 → s.bkd.lastSync = none → (s.utcTicks - s.bkd.count.toNat).natAbs * 1000000000 ≤ 1000000 * 32768 →
    ∃ t, exec .rtcSyncCheck s = .next t ∧ t.bkd = { s.bkd with lastSync := some s.elapsed })

/-- PWR_OFF clears the latch and WAKE_IN_EDGE sets it when WAKE_IN is enabled; TAMPER_INPUT of an enabled source erases the key RAM, latches cause and count and counts the tamper, and of a source not enabled does nothing; DOMAIN_POWER_ON starts the domain at its reset values with the latch set; DOMAIN_SUPPLY_CHANGE and VBAT_LOW show the supplies. Rests on R404, R407, R417, R418, R419. -/
def Obligations.BackupSupply : Prop :=
  (∀ (s : State), ∃ t, exec .pwrOff s = .next t ∧ t.bkd = { s.bkd with latch := false })
  ∧ (∀ (s : State), ∃ t, exec .wakeInEdge s = .next t ∧ t.bkd = { s.bkd with latch := s.bkd.latch || s.bkd.wakeIn })
  ∧ (∀ (s : State) (src : TamperSource), s.bkd.tampCtrl.getLsbD (tamperEnable src) = true →
    ∃ t, exec (.tamperInput src) s = .next t ∧ t.sec.share = none ∧ t.sec.bkCounter = 0 ∧ t.bkd.tampCause.getLsbD (tamperBit src) = true
      ∧ t.bkd.tampTick = (if s.bkd.tampCause = 0 then s.bkd.count else s.bkd.tampTick) ∧ t.bkd.latch = (s.bkd.latch || s.bkd.wakeTamper)
      ∧ t.bkd.tampers = (if s.bkd.tampers = 0xFFFF#16 then s.bkd.tampers else s.bkd.tampers + 1) ∧ (s.running = true → t.sec.slots = [] ∧ t.sec.ops = []))
  ∧ (∀ (s : State) (src : TamperSource), s.bkd.tampCtrl.getLsbD (tamperEnable src) = false → exec (.tamperInput src) s = .next s.showHealth)
  ∧ (∀ (s : State), ∃ t, exec .domainPowerOn s = .next t ∧ t.bkd.count = 0 ∧ t.bkd.alarm = 0 ∧ t.bkd.weekday = 0 ∧ t.bkd.rtcValid = false
      ∧ t.bkd.latch = true ∧ t.bkd.lost = true ∧ t.sec.share = none ∧ t.sec.bkCounter = 0)
  ∧ (∀ (s : State) (inRange : Bool), ∃ t, exec (.domainSupplyChange inRange) s = .next t ∧ t.bkd = { s.bkd with onVbat := !inRange, mainOn := inRange })
  ∧ (∀ (s : State) (low : Bool), ∃ t, exec (.vbatLow low) s = .next t ∧ t.bkd = { s.bkd with vbatLow := low })

/-- PORST_ASSERT for 10 us or more and RAIL_UNDERVOLTAGE for 2 us or more hold the device in reset with outputs off and host memory untouched, shorter ones do nothing; COLD_START with straps 2 or 3 set halts, with strap 1 set goes to recovery with its cause; a WARM_RESET of a device without images goes to recovery with its cause and counts; BOOT_RESET of 0x5257, SUP_WATCHDOG_EXPIRE, TRIAL_DEADLINE, E4_WARM_RESET, BOOT_RCV_GO with an image that verifies and TWIN_CFG_ACTIVATE are warm resets of their causes, after the fall-back, the new image or the activation, and BOOT_RESET of any other value is ignored. Rests on R422, R423, R424, R430, R442, R443, R450, R467, R469, R470. -/
def Obligations.Resets : Prop :=
  (∀ (s : State) (ns : Nat), 10000 ≤ ns →
    ∃ t, exec (.porstAssert ns) s = .next t ∧ t.boot.porst = true ∧ t.boot.coldCause = 2 ∧ t.boot.outputsOff = true ∧ t.dram = [] ∧ t.hostMem = s.hostMem
      ∧ t.sec.slots = [] ∧ t.bkd = s.bkd ∧ t.pending = s.pending)
  ∧ (∀ (s : State) (ns : Nat), ns < 1000 → exec (.porstAssert ns) s = .next s.showHealth)
  ∧ (∀ (s : State) (rail ns : Nat), 2000 ≤ ns →
    ∃ t, exec (.railUndervoltage rail ns) s = .next t ∧ t.boot.porst = true ∧ t.boot.coldCause = 1 ∧ t.boot.outputsOff = true ∧ t.dram = [] ∧ t.hostMem = s.hostMem)
  ∧ (∀ (s : State) (rail ns : Nat), ns < 2000 → exec (.railUndervoltage rail ns) s = .next s.showHealth)
  ∧ (∀ (s : State) (straps : BitVec 4), straps.getLsbD 2 = true ∨ straps.getLsbD 3 = true →
    ∃ t, exec (.coldStart straps) s = .next t ∧ t.boot.halted = true ∧ t.boot.straps = straps ∧ t.boot.outputsOff = true ∧ t.dram = [])
  ∧ (∀ (s : State) (straps : BitVec 4), straps.getLsbD 2 = false → straps.getLsbD 3 = false → straps.getLsbD 1 = true → s.boot.coldCause < 16 →
    ∃ t, exec (.coldStart straps) s = .next t ∧ t.field Reg.BOOT_STATUS 2 0 = 5 ∧ t.field Reg.BOOT_RESET_CAUSE 3 0 = s.boot.coldCause ∧ t.boot.halted = false)
  ∧ (∀ (s : State) (straps : BitVec 4), straps.getLsbD 2 = false → straps.getLsbD 3 = false → straps.getLsbD 1 = false →
    exec (.coldStart straps) s = .next (State.start 3 .cold s.boot.coldCause
      { s with boot := { s.boot with straps := straps, porst := false, coldCause := 1 } }).showHealth)
  ∧ (∀ (s : State) (straps : BitVec 4), straps.getLsbD 2 = false → straps.getLsbD 3 = false → straps.getLsbD 1 = false → NoImages s → s.boot.coldCause < 16 →
    ∃ t, exec (.coldStart straps) s = .next t ∧ t.field Reg.BOOT_STATUS 2 0 = 5 ∧ t.field Reg.BOOT_RESET_CAUSE 3 0 = s.boot.coldCause
      ∧ t.boot.straps = straps ∧ t.dram = [] ∧ t.hostMem = s.hostMem)
  ∧ (∀ (s : State) (cause : Nat), cause < 16 → cause ≠ 1 → NoImages s → s.hif.ops = [] →
    ∃ t, exec (.warmReset cause) s = .next t ∧ WarmToRecovery s t cause)
  ∧ (∀ (s : State) (cause : Nat), exec (.warmReset cause) s = .next (s.warm cause).showHealth)
  ∧ (∀ (s : State), exec (.bootReset 0x5257) s = .next (s.warm 5).showHealth)
  ∧ (∀ (s : State), NoImages s → s.hif.ops = [] → ∃ t, exec (.bootReset 0x5257) s = .next t ∧ WarmToRecovery s t 5)
  ∧ (∀ (s : State) (value : Word), value ≠ 0x5257 → exec (.bootReset value) s = .next s.showHealth)
  ∧ (∀ (s : State), exec .supWatchdogExpire s = .next (s.warm 8).showHealth)
  ∧ (∀ (s : State), NoImages s → s.hif.ops = [] → ∃ t, exec .supWatchdogExpire s = .next t ∧ WarmToRecovery s t 8)
  ∧ (∀ (s : State) (value : Word) (i : SlotImage), value.getLsbD 0 = true → s.field Reg.BOOT_STATUS 2 0 = 5 →
    exec (.bootRcvGo value i) s = 
      .next (if s.verifyImage 0 i = 0 then (s.modComp 0 (fun r => r.setOther i)).warm 6 else s).showHealth)
  ∧ (∀ (s : State) (value : Word) (i : SlotImage), value.getLsbD 0 = false ∨ s.field Reg.BOOT_STATUS 2 0 ≠ 5 →
    exec (.bootRcvGo value i) s = .next s.showHealth)
  ∧ (∀ (s : State) (c at_ : Nat), (s.comp c).state = .trial → (s.comp c).deadline = some at_ → at_ ≤ s.elapsed →
    exec (.trialDeadline c) s = .next ((s.fallback c 1).warm 7).showHealth)
  ∧ (∀ (s : State) (c at_ : Nat), c < s.boot.comps.length → (s.comp c).state = .trial → (s.comp c).deadline = some at_ → at_ ≤ s.elapsed →
      (∀ d, d ≠ c → (s.comp d).state ≠ .trial) → (s.comp 0).imgA = .empty → (s.comp 0).imgB = .empty → s.hif.ops = [] →
    ∃ t, exec (.trialDeadline c) s = .next t ∧ WarmToRecovery s t 7 ∧ (t.comp c).state = .none ∧ (t.comp c).slotB = !(s.comp c).slotB
      ∧ t.reg Reg.FWU_CNT_FALLBACK = satWord ((s.reg Reg.FWU_CNT_FALLBACK).toNat + 1))
  ∧ (∀ (s : State) (at_ h : Nat), s.twn.cfgActivate = some (at_, h) → at_ ≤ s.now → (s.comp 4).state = .staged →
    exec .twinCfgActivate s = .next ((({ s with twn := { s.twn with cfgActivate := none } } : State).activateSlot 4).warm 6).showHealth)
  ∧ (∀ (s : State), s.twn.cfgActivate = none → s.role = 4 → (s.comp 4).state = .staged →
    exec .twinCfgActivate s = .next ((s.activateSlot 4).warm 6).showHealth)
  ∧ (∀ (s : State), (∃ at_ h, s.twn.cfgActivate = some (at_, h) ∧ at_ ≤ s.now) ∨ (s.twn.cfgActivate = none ∧ s.role = 4) → (s.comp 4).state = .staged →
      4 < s.boot.comps.length → NoImages s → s.hif.ops = [] →
    ∃ t, exec .twinCfgActivate s = .next t ∧ WarmToRecovery s t 6 ∧ (t.comp 4).state = .trial ∧ (t.comp 4).slotB = !(s.comp 4).slotB)
  ∧ (∀ (s : State) (at_ : Nat), s.hlt.e4 = some at_ → at_ + 20000000 ≤ s.elapsed ∨ s.e4Handled = true →
    exec .e4WarmReset s = .next (s.warm 4).showHealth)
  ∧ (∀ (s : State) (at_ : Nat), s.hlt.e4 = some at_ → at_ + 20000000 ≤ s.elapsed ∨ s.e4Handled = true → NoImages s → s.hif.ops = [] →
    ∃ t, exec .e4WarmReset s = .next t ∧ WarmToRecovery s t 4)
  ∧ (∀ (s : State) (at_ : Nat), s.hlt.e4 = some at_ → s.elapsed < at_ + 20000000 → s.e4Handled = false → exec .e4WarmReset s = .next s.showHealth)
  ∧ (∀ (s : State), s.hlt.e4 = none → exec .e4WarmReset s = .next s.showHealth)

/-- IMAGE_STAGE of an image for a component that is not in TRIAL starts the staging operation; IMAGE_ACTIVATE of an image, staged or of the other slot, that verifies and is compatible activates the slot in TRIAL and is a warm reset of cause 6, or of component 4 in a pair sets the common instant (whether the partner has the image is free, log entry 3), and any other completes with its status and changes no slot; CONFIRM of a component in TRIAL before its deadline ends the trial and raises the fuse count; SETTINGS_SAVE starts the save of three steps. Rests on R435, R437, R438, R439, R443. -/
def Obligations.ImageCommands : Prop :=
  (∀ (s : State) (h : CmdHdr) (c : Nat) (b : BufContent), bufOk h = true → c < 5 → bufImage b ≠ .empty → (s.comp c).state ≠ .trial → s.hif.ops = [] →
    ∃ t, exec (.imageStage h c b) s = .next t ∧ Started s t h 0x0050 (.imageStage c (bufImage b)) ((stepSizes (imageSize (bufImage b))).length + 1))
  ∧ (∀ (s : State) (h : CmdHdr) (c : Nat) (other : Bool), c < 5 → (c = 4 → s.field Reg.TWN_STATUS 2 0 ≠ 2) → s.trialComp = none →
      other = true ∨ (s.comp c).state = .staged → s.hif.ops = [] →
    exec (.imageActivate h c other) s = .next (
      if s.verifyImage c (s.comp c).other ≠ 0 then s.completeShort h 0x0051 0x04 0
      else if s.compatible c (s.comp c).other = false then s.completeShort h 0x0051 0x0B 0
      else (({ s.startLong h 0x0051 (.imageActivate c) true 0 [] with
          boot := { (s.startLong h 0x0051 (.imageActivate c) true 0 []).boot with activate := some s.newHandle.1 } } : State).activateSlot c).warm 6).showHealth)
  ∧ (∀ (s : State) (h : CmdHdr) (c : Nat) (other : Bool), c < 5 →
      s.trialComp.isSome = true ∨ (other = false ∧ (s.comp c).state ≠ .staged) ∨ s.verifyImage c (s.comp c).other ≠ 0 →
    ∃ t, exec (.imageActivate h c other) s = .next t ∧ t.boot = s.boot ∧ Completed s t h.tag 0x0051 0x04)
  ∧ (∀ (s : State) (h : CmdHdr) (other : Bool), s.field Reg.TWN_STATUS 2 0 = 2 → s.trialComp = none → other = true ∨ (s.comp 4).state = .staged → s.hif.ops = [] →
    let u := (s.useFree 1).startLong h 0x0051 (.imageActivate 4) true 0 []
    let v : State := { u with boot := { u.boot with activate := some s.newHandle.1 } }
    exec (.imageActivate h 4 other) s = .next (
      if s.verifyImage 4 (s.comp 4).other ≠ 0 then s.completeShort h 0x0051 0x04 0
      else if s.compatible 4 (s.comp 4).other = false then s.completeShort h 0x0051 0x0B 0
      else if s.freshWord.getLsbD 0 then (s.useFree 1).completeShort h 0x0051 0x04 0
      else { v with twn := { v.twn with cfgActivate := some ((s.now + 1999999999) / 1000000000 * 1000000000, s.newHandle.1) } }).showHealth)
  ∧ (∀ (s : State) (h : CmdHdr) (c at_ : Nat), c < 5 → c < s.boot.comps.length → s.committed = true → (s.comp c).state = .trial →
      (s.comp c).deadline = some at_ → s.elapsed ≤ at_ →
    ∃ t, exec (.confirm h c) s = .next t ∧ (t.comp c).state = .none ∧ (t.comp c).deadline = none ∧ (s.comp c).fuses ≤ (t.comp c).fuses
      ∧ (t.comp c).active = (s.comp c).active ∧ t.flag Reg.BOOT_STATUS 8 = false ∧ Completed s t h.tag 0x0052 0x00)
  ∧ (∀ (s : State) (h : CmdHdr) (c : Nat), c < 5 → (s.comp c).state ≠ .trial →
    ∃ t, exec (.confirm h c) s = .next t ∧ t.boot = s.boot ∧ Completed s t h.tag 0x0052 0x04)
  ∧ (∀ (s : State) (h : CmdHdr) (i : CfgImage), s.boot.image = some i → s.trialComp = none → s.hif.ops = [] → (s.settingRecords i).length ≤ 65535 →
    ∃ t, exec (.settingsSave h) s = .next t ∧ Started s t h 0x0053 (.settingsSave (s.settingRecords i)) 3)

/-- ERROR_DETECT of an error that is no memory error records its source and the time, and puts it in the order of errors; one of grade 4 begins the E4: outputs off, pins undriven; ERROR_HANDLING_DONE of the last error ends handling; HANDLER_TIMEOUT after 10 ms begins the E4, and before does nothing. Rests on R445, R446, R447, R448, R449, R450. -/
def Obligations.Errors : Prop :=
  (∀ (s : State) (e : ErrorRec), 1 ≤ e.grade → e.grade ≤ 4 → e.code.toNat / 256 ≠ 0x16 →
    ∃ t, exec (.errorDetect e) s = .next t ∧ t.reg Reg.HLT_LAST_SRC = e.source ∧ t.pair Reg.HLT_LAST_LO Reg.HLT_LAST_HI = s.now % 2 ^ 64 ∧ t.hlt.order = s.hlt.order + 1)
  ∧ (∀ (s : State) (e : ErrorRec), e.grade = 4 → e.code.toNat / 256 ≠ 0x16 → s.hlt.e4 = none →
    ∃ t, exec (.errorDetect e) s = .next t ∧ t.hlt.e4 = some s.elapsed ∧ t.boot.outputsOff = true ∧ (∀ p, p ∈ t.alm.pins → p.driven = false)
      ∧ t.reg (Reg.HLT_CNT_E 3) = satWord ((s.reg (Reg.HLT_CNT_E 3)).toNat + 1))
  ∧ (∀ (s : State) (x : StackEntry) (t0 : Nat), s.hlt.handling = some (x, t0) → s.hlt.stack = [] → x.err.grade ≤ 4 →
    ∃ t, exec .errorHandlingDone s = .next t ∧ t.hlt.handling = none ∧ t.hlt.stack = [] ∧ t.hlt.lostRun = false ∧ t.field Reg.HLT_STACK 10 8 = 0)
  ∧ (∀ (s : State), s.hlt.handling = none → exec .errorHandlingDone s = .next s.showHealth)
  ∧ (∀ (s : State) (x : StackEntry) (t0 : Nat), s.hlt.handling = some (x, t0) → t0 + 10000000 ≤ s.elapsed → s.hlt.e4 = none →
    ∃ t, exec .handlerTimeout s = .next t ∧ t.hlt.e4 = some s.elapsed ∧ t.boot.outputsOff = true)
  ∧ (∀ (s : State) (x : StackEntry) (t0 : Nat), s.hlt.handling = some (x, t0) → s.elapsed < t0 + 10000000 → exec .handlerTimeout s = .next s.showHealth)

/-- THERMAL_LEVEL_CHANGE enters the level of the junction temperature and leaves one level at a time 3 degrees below; OVERTEMP at 125 degrees begins the E4 and below only reads; CURRENT_LIMIT above 68 A forces level 1 and above 72 A begins the E4; CURRENT_LIMIT_CLEAR below 64 A ends the forced level; DRAM_TEMP_CHECK shows the reading and doubles the refresh above 85 degrees. Rests on R453, R454, R455, R456, R457. -/
def Obligations.ThermalAndCurrent : Prop :=
  (∀ (s : State) (sensor : Nat) (temp : Int), let j := (s.readTemp sensor temp).junction
      let want := if 1200 ≤ j then 2 else if 1150 ≤ j then 1 else 0
    ∃ t, exec (.thermalLevelChange sensor temp) s = .next t ∧ t.hlt.temps = (s.readTemp sensor temp).hlt.temps
      ∧ (s.hlt.thermLevel < want → t.hlt.thermLevel = want)
      ∧ (want ≤ s.hlt.thermLevel → 0 < s.hlt.thermLevel → j < (if s.hlt.thermLevel = 2 then 1200 else 1150) - 30 → t.hlt.thermLevel = s.hlt.thermLevel - 1)
      ∧ (want ≤ s.hlt.thermLevel → (if s.hlt.thermLevel = 2 then 1200 else 1150) - 30 ≤ j → t.hlt.thermLevel = s.hlt.thermLevel))
  ∧ (∀ (s : State) (sensor : Nat) (temp : Int), (s.readTemp sensor temp).junction < 1250 →
    exec (.overtemp sensor temp) s = .next (s.readTemp sensor temp).showHealth)
  ∧ (∀ (s : State) (sensor : Nat) (temp : Int), 1250 ≤ (s.readTemp sensor temp).junction → s.hlt.e4 = none →
    ∃ t, exec (.overtemp sensor temp) s = .next t ∧ t.hlt.e4 = some s.elapsed ∧ t.boot.outputsOff = true ∧ t.flag Reg.HLT_THERM 2 = true)
  ∧ (∀ (s : State) (tenMa : Nat), 6800 < tenMa → tenMa ≤ 7200 →
    ∃ t, exec (.currentLimit tenMa) s = .next t ∧ t.hlt.currentLevel = true ∧ t.hlt.e4 = s.hlt.e4 ∧ t.reg Reg.HLT_VCORE_I = satWord tenMa ∧ 1 ≤ t.shedLevel)
  ∧ (∀ (s : State) (tenMa : Nat), 7200 < tenMa → s.hlt.e4 = none →
    ∃ t, exec (.currentLimit tenMa) s = .next t ∧ t.hlt.currentLevel = true ∧ t.hlt.e4 = some s.elapsed ∧ t.boot.outputsOff = true)
  ∧ (∀ (s : State) (tenMa : Nat), tenMa ≤ 6800 →
    ∃ t, exec (.currentLimit tenMa) s = .next t ∧ t.hlt = s.hlt ∧ t.reg Reg.HLT_VCORE_I = satWord tenMa)
  ∧ (∀ (s : State) (tenMa : Nat), tenMa < 6400 →
    ∃ t, exec (.currentLimitClear tenMa) s = .next t ∧ t.hlt.currentLevel = false ∧ t.hlt.thermLevel = s.hlt.thermLevel)
  ∧ (∀ (s : State) (channel : Nat) (temp : Int), channel < 2 → s.hlt.chanHot.length = 2 → s.hlt.chanHot.getD channel false = false → 850 < temp → temp ≤ 950 →
    ∃ t, exec (.dramTempCheck channel temp) s = .next t ∧ t.hlt.chanHot.getD channel false = true ∧ t.flag (Reg.MEM_CH_STATUS channel) 1 = true
      ∧ t.field (Reg.MEM_CH_STATUS channel) 31 16 = half16 temp % 65536)
  ∧ (∀ (s : State) (channel : Nat) (temp : Int), channel < 2 → temp ≤ 850 → 820 ≤ temp →
    ∃ t, exec (.dramTempCheck channel temp) s = .next t ∧ t.hlt.chanHot = s.hlt.chanHot ∧ t.field (Reg.MEM_CH_STATUS channel) 31 16 = half16 temp % 65536)

/-- PMC_RUN sets RUN as told; PMC_CLEAR makes every counter 0 and leaves every other register; PMC_SAMPLE, while sampling is on, writes the 32 bytes of the record at the write index of the ring, advances the index, and changes no other byte of DRAM; while it is off it does nothing. Rests on R458, R461. -/
def Obligations.PerformanceCounters : Prop :=
  (∀ (s : State) (run : Bool), ∃ t, exec (.pmcRun run) s = .next t ∧ t.flag Reg.PMC_CTRL 0 = run ∧ ∀ a, a ≠ Reg.PMC_CTRL → a ∉ healthRegs → t.reg a = s.reg a)
  ∧ (∀ (s : State), ∃ t, exec .pmcClear s = .next t
      ∧ ∀ a, a ∉ healthRegs → t.reg a = if pmcCounter a then regReset a else s.reg a)
  ∧ (∀ (s : State) (r : SampleRec), s.flag Reg.PMC_SAMPLE_CTRL 0 = true → s.pair Reg.PMC_SAMPLE_WRIDX_LO Reg.PMC_SAMPLE_WRIDX_HI + 1 < 2 ^ 64 →
    ∃ t, exec (.pmcSample r) s = .next t
      ∧ t.pair Reg.PMC_SAMPLE_WRIDX_LO Reg.PMC_SAMPLE_WRIDX_HI = s.pair Reg.PMC_SAMPLE_WRIDX_LO Reg.PMC_SAMPLE_WRIDX_HI + 1
      ∧ ∀ a, let at_ := s.pair Reg.PMC_SAMPLE_BASE_LO Reg.PMC_SAMPLE_BASE_HI
            + s.pair Reg.PMC_SAMPLE_WRIDX_LO Reg.PMC_SAMPLE_WRIDX_HI % max 1 (s.reg Reg.PMC_SAMPLE_DEPTH).toNat * 32
          t.dramByte a = if at_ ≤ a ∧ a < at_ + (sampleBytes s.now r).length then (sampleBytes s.now r).getD (a - at_) 0 else s.dramByte a)
  ∧ (∀ (s : State) (r : SampleRec), s.flag Reg.PMC_SAMPLE_CTRL 0 = false → exec (.pmcSample r) s = .next s.showHealth)
  ∧ (∀ (s : State) (r : SampleRec), (sampleBytes s.now r).length = 32)
end

