-- ==== Sys2Proof/Laws/Maps.lean ====
section
/-!
SUPPORT. Laws of the sparse maps and of the memories: a read after a write, and the canonical form every write keeps.
-/
namespace Sys2Proof.Machine

variable {α : Type}

@[simp] theorem kvGet_nil (a : Nat) : kvGet ([] : List (Nat × α)) a = none := rfl

@[simp] theorem kvGet_kvPut_same (l : List (Nat × α)) (a : Nat) (v : α) : kvGet (kvPut l a v) a = some v := by
  induction l with
  | nil => simp [kvPut, kvGet]
  | cons p r ih =>
    obtain ⟨b, w⟩ := p
    simp only [kvPut]
    split
    · simp [kvGet]
    · split
      · simp [kvGet]
      · simp [kvGet, *]

theorem kvGet_kvPut_ne (l : List (Nat × α)) (a b : Nat) (v : α) (h : b ≠ a) : kvGet (kvPut l a v) b = kvGet l b := by
  induction l with
  | nil => simp [kvPut, kvGet, h]
  | cons p r ih =>
    obtain ⟨c, w⟩ := p
    simp only [kvPut]
    split
    · simp [kvGet, h]
    · split
      · subst c; simp [kvGet, h]
      · simp only [kvGet, ih]

@[simp] theorem kvGet_kvDel_same (l : List (Nat × α)) (a : Nat) : kvGet (kvDel l a) a = none := by
  unfold kvDel
  induction l with
  | nil => rfl
  | cons p r ih =>
    obtain ⟨c, w⟩ := p
    by_cases h : c = a
    · simp [h, ih]
    · simp [h, kvGet, Ne.symm h, ih]

theorem kvGet_kvDel_ne (l : List (Nat × α)) (a b : Nat) (h : b ≠ a) : kvGet (kvDel l a) b = kvGet l b := by
  unfold kvDel
  induction l with
  | nil => rfl
  | cons p r ih =>
    obtain ⟨c, w⟩ := p
    by_cases hc : c = a
    · subst hc; simp [kvGet, h, ih]
    · simp [hc, kvGet, ih]

theorem kvGet_kvMod (l : List (Nat × α)) (a b : Nat) (f : α → α) :
    kvGet (kvMod l a f) b = if b = a then (kvGet l b).map f else kvGet l b := by
  unfold kvMod
  induction l with
  | nil => simp [kvGet]
  | cons p r ih =>
    obtain ⟨c, w⟩ := p
    by_cases hc : c = a
    · subst hc
      by_cases hb : b = c <;> simp_all [kvGet]
    · by_cases hb : b = c
      · subst hb; simp [kvGet, hc]
      · simp_all [kvGet]

@[simp] theorem smGet_nil (d : Nat → α) (a : Nat) : smGet d [] a = d a := rfl

variable [DecidableEq α] (d : Nat → α)

@[simp] theorem smGet_smPut_same (l : List (Nat × α)) (a : Nat) (v : α) : smGet d (smPut d l a v) a = v := by
  unfold smGet smPut
  split
  · simp_all
  · simp

theorem smGet_smPut_ne (l : List (Nat × α)) (a b : Nat) (v : α) (h : b ≠ a) : smGet d (smPut d l a v) b = smGet d l b := by
  unfold smGet smPut
  split
  · rw [kvGet_kvDel_ne l a b h]
  · rw [kvGet_kvPut_ne l a b v h]

theorem smWf_weaken {l : List (Nat × α)} {lo lo' : Nat} (h : lo' ≤ lo) (w : smWf d lo l = true) : smWf d lo' l = true := by
  cases l with
  | nil => rfl
  | cons p r =>
    obtain ⟨b, v⟩ := p
    simp only [smWf, Bool.and_eq_true, decide_eq_true_eq] at w ⊢
    exact ⟨⟨by omega, w.1.2⟩, w.2⟩

theorem smWf_kvDel {l : List (Nat × α)} {lo : Nat} (a : Nat) (w : smWf d lo l = true) : smWf d lo (kvDel l a) = true := by
  induction l generalizing lo with
  | nil => rfl
  | cons p r ih =>
    obtain ⟨b, v⟩ := p
    simp only [smWf, Bool.and_eq_true, decide_eq_true_eq] at w
    have hr := ih w.2
    by_cases hb : b = a
    · have e : kvDel ((b, v) :: r) a = kvDel r a := by simp [kvDel, hb]
      rw [e]
      exact smWf_weaken d (by omega) hr
    · have e : kvDel ((b, v) :: r) a = (b, v) :: kvDel r a := by simp [kvDel, hb]
      rw [e]
      simp only [smWf, Bool.and_eq_true, decide_eq_true_eq]
      exact ⟨w.1, hr⟩

theorem smWf_kvPut {l : List (Nat × α)} {lo a : Nat} {v : α} (ha : lo ≤ a) (hv : v ≠ d a) (w : smWf d lo l = true) :
    smWf d lo (kvPut l a v) = true := by
  induction l generalizing lo with
  | nil => simp [kvPut, smWf, ha, hv]
  | cons p r ih =>
    obtain ⟨b, u⟩ := p
    simp only [smWf, Bool.and_eq_true, decide_eq_true_eq] at w
    simp only [kvPut]
    split
    · simp only [smWf, Bool.and_eq_true, decide_eq_true_eq]
      exact ⟨⟨ha, hv⟩, ⟨by omega, w.1.2⟩, w.2⟩
    · split
      · subst b
        simp only [smWf, Bool.and_eq_true, decide_eq_true_eq]
        exact ⟨⟨ha, hv⟩, w.2⟩
      · simp only [smWf, Bool.and_eq_true, decide_eq_true_eq]
        exact ⟨w.1, ih (by omega) w.2⟩

theorem smWf_smPut {l : List (Nat × α)} (a : Nat) (v : α) (w : smWf d 0 l = true) : smWf d 0 (smPut d l a v) = true := by
  unfold smPut
  split
  · exact smWf_kvDel d a w
  · rename_i h
    exact smWf_kvPut d (Nat.zero_le a) h w

/-! ### The memories -/

theorem Memory.wf_dramPut {m : List Host.Cell} (a : Nat) (l : List Byte) (w : Memory.wf m = true) : Memory.wf (dramPut m a l) = true := by
  induction l generalizing m a with
  | nil => exact w
  | cons b r ih => exact ih (a + 1) (smWf_smPut _ a b w)

theorem Memory.wf_reset : Memory.wf State.reset.dram = true ∧ Memory.wf State.reset.hostMem = true := ⟨rfl, rfl⟩

theorem State.writeDram_wf {s : State} (a : Nat) (l : List Byte) (w : Memory.wf s.dram = true) :
    Memory.wf (s.writeDram a l).dram = true := Memory.wf_dramPut a l w

theorem State.writeHost_wf {s : State} (a : Nat) (l : List Byte) (w : Memory.wf s.hostMem = true) :
    Memory.wf (s.writeHost a l).hostMem = true := Memory.wf_dramPut a l w

theorem smGet_dramPut (m : List Host.Cell) (a b : Nat) (l : List Byte) :
    smGet (fun _ => (0 : Byte)) (dramPut m a l) b
      = if a ≤ b ∧ b < a + l.length then l.getD (b - a) 0 else smGet (fun _ => 0) m b := by
  induction l generalizing m a with
  | nil =>
    have h : ¬(a ≤ b ∧ b < a + ([] : List Byte).length) := by simp only [List.length_nil]; omega
    rw [if_neg h]; rfl
  | cons x r ih =>
    simp only [dramPut, List.length_cons]
    rw [ih]
    by_cases h : b = a
    · subst h
      have h1 : ¬(b + 1 ≤ b ∧ b < b + 1 + r.length) := by omega
      have h2 : b ≤ b ∧ b < b + (r.length + 1) := by omega
      rw [if_neg h1, if_pos h2, smGet_smPut_same]
      simp
    · by_cases h1 : a + 1 ≤ b ∧ b < a + 1 + r.length
      · have h2 : a ≤ b ∧ b < a + (r.length + 1) := by omega
        rw [if_pos h1, if_pos h2]
        have e : b - a = (b - (a + 1)) + 1 := by omega
        rw [e]
        rfl
      · have h2 : ¬(a ≤ b ∧ b < a + (r.length + 1)) := by omega
        rw [if_neg h1, if_neg h2, smGet_smPut_ne _ _ _ _ _ h]

theorem State.dramByte_writeDram (s : State) (a b : Nat) (l : List Byte) :
    (s.writeDram a l).dramByte b = if a ≤ b ∧ b < a + l.length then l.getD (b - a) 0 else s.dramByte b :=
  smGet_dramPut s.dram a b l

theorem State.hostByte_writeHost (s : State) (a b : Nat) (l : List Byte) :
    (s.writeHost a l).hostByte b = if a ≤ b ∧ b < a + l.length then l.getD (b - a) 0 else s.hostByte b :=
  smGet_dramPut s.hostMem a b l

end Sys2Proof.Machine
end

