-- ==== Sys2Proof/Laws/State.lean ====
section
/-!
SUPPORT. What each named update of State leaves alone: one lemma per field per update.
-/
namespace Sys2Proof.Machine

variable (s : State)

/-! ### State.setReg -/

@[simp] theorem State.setReg_shadow (a : Nat) (v : Word) : (s.setReg a v).shadow = s.shadow := rfl
@[simp] theorem State.setReg_loHold (a : Nat) (v : Word) : (s.setReg a v).loHold = s.loHold := rfl
@[simp] theorem State.setReg_hiLatch (a : Nat) (v : Word) : (s.setReg a v).hiLatch = s.hiLatch := rfl
@[simp] theorem State.setReg_committed (a : Nat) (v : Word) : (s.setReg a v).committed = s.committed := rfl
@[simp] theorem State.setReg_dram (a : Nat) (v : Word) : (s.setReg a v).dram = s.dram := rfl
@[simp] theorem State.setReg_hostMem (a : Nat) (v : Word) : (s.setReg a v).hostMem = s.hostMem := rfl
@[simp] theorem State.setReg_ports (a : Nat) (v : Word) : (s.setReg a v).ports = s.ports := rfl
@[simp] theorem State.setReg_pairs (a : Nat) (v : Word) : (s.setReg a v).pairs = s.pairs := rfl
@[simp] theorem State.setReg_dec (a : Nat) (v : Word) : (s.setReg a v).dec = s.dec := rfl
@[simp] theorem State.setReg_tim (a : Nat) (v : Word) : (s.setReg a v).tim = s.tim := rfl
@[simp] theorem State.setReg_aln (a : Nat) (v : Word) : (s.setReg a v).aln = s.aln := rfl
@[simp] theorem State.setReg_wav (a : Nat) (v : Word) : (s.setReg a v).wav = s.wav := rfl
@[simp] theorem State.setReg_mtr (a : Nat) (v : Word) : (s.setReg a v).mtr = s.mtr := rfl
@[simp] theorem State.setReg_osc (a : Nat) (v : Word) : (s.setReg a v).osc = s.osc := rfl
@[simp] theorem State.setReg_top (a : Nat) (v : Word) : (s.setReg a v).top = s.top := rfl
@[simp] theorem State.setReg_dfs (a : Nat) (v : Word) : (s.setReg a v).dfs = s.dfs := rfl
@[simp] theorem State.setReg_cyc (a : Nat) (v : Word) : (s.setReg a v).cyc = s.cyc := rfl
@[simp] theorem State.setReg_alm (a : Nat) (v : Word) : (s.setReg a v).alm = s.alm := rfl
@[simp] theorem State.setReg_evr (a : Nat) (v : Word) : (s.setReg a v).evr = s.evr := rfl
@[simp] theorem State.setReg_cap (a : Nat) (v : Word) : (s.setReg a v).cap = s.cap := rfl
@[simp] theorem State.setReg_hif (a : Nat) (v : Word) : (s.setReg a v).hif = s.hif := rfl
@[simp] theorem State.setReg_hgw (a : Nat) (v : Word) : (s.setReg a v).hgw = s.hgw := rfl
@[simp] theorem State.setReg_twn (a : Nat) (v : Word) : (s.setReg a v).twn = s.twn := rfl
@[simp] theorem State.setReg_sec (a : Nat) (v : Word) : (s.setReg a v).sec = s.sec := rfl
@[simp] theorem State.setReg_bkd (a : Nat) (v : Word) : (s.setReg a v).bkd = s.bkd := rfl
@[simp] theorem State.setReg_boot (a : Nat) (v : Word) : (s.setReg a v).boot = s.boot := rfl
@[simp] theorem State.setReg_hlt (a : Nat) (v : Word) : (s.setReg a v).hlt = s.hlt := rfl
@[simp] theorem State.setReg_free (a : Nat) (v : Word) : (s.setReg a v).free = s.free := rfl
@[simp] theorem State.setReg_readData (a : Nat) (v : Word) : (s.setReg a v).readData = s.readData := rfl
@[simp] theorem State.setReg_pending (a : Nat) (v : Word) : (s.setReg a v).pending = s.pending := rfl

/-! ### State.setField -/

@[simp] theorem State.setField_shadow (a hi lo v : Nat) : (s.setField a hi lo v).shadow = s.shadow := rfl
@[simp] theorem State.setField_loHold (a hi lo v : Nat) : (s.setField a hi lo v).loHold = s.loHold := rfl
@[simp] theorem State.setField_hiLatch (a hi lo v : Nat) : (s.setField a hi lo v).hiLatch = s.hiLatch := rfl
@[simp] theorem State.setField_committed (a hi lo v : Nat) : (s.setField a hi lo v).committed = s.committed := rfl
@[simp] theorem State.setField_dram (a hi lo v : Nat) : (s.setField a hi lo v).dram = s.dram := rfl
@[simp] theorem State.setField_hostMem (a hi lo v : Nat) : (s.setField a hi lo v).hostMem = s.hostMem := rfl
@[simp] theorem State.setField_ports (a hi lo v : Nat) : (s.setField a hi lo v).ports = s.ports := rfl
@[simp] theorem State.setField_pairs (a hi lo v : Nat) : (s.setField a hi lo v).pairs = s.pairs := rfl
@[simp] theorem State.setField_dec (a hi lo v : Nat) : (s.setField a hi lo v).dec = s.dec := rfl
@[simp] theorem State.setField_tim (a hi lo v : Nat) : (s.setField a hi lo v).tim = s.tim := rfl
@[simp] theorem State.setField_aln (a hi lo v : Nat) : (s.setField a hi lo v).aln = s.aln := rfl
@[simp] theorem State.setField_wav (a hi lo v : Nat) : (s.setField a hi lo v).wav = s.wav := rfl
@[simp] theorem State.setField_mtr (a hi lo v : Nat) : (s.setField a hi lo v).mtr = s.mtr := rfl
@[simp] theorem State.setField_osc (a hi lo v : Nat) : (s.setField a hi lo v).osc = s.osc := rfl
@[simp] theorem State.setField_top (a hi lo v : Nat) : (s.setField a hi lo v).top = s.top := rfl
@[simp] theorem State.setField_dfs (a hi lo v : Nat) : (s.setField a hi lo v).dfs = s.dfs := rfl
@[simp] theorem State.setField_cyc (a hi lo v : Nat) : (s.setField a hi lo v).cyc = s.cyc := rfl
@[simp] theorem State.setField_alm (a hi lo v : Nat) : (s.setField a hi lo v).alm = s.alm := rfl
@[simp] theorem State.setField_evr (a hi lo v : Nat) : (s.setField a hi lo v).evr = s.evr := rfl
@[simp] theorem State.setField_cap (a hi lo v : Nat) : (s.setField a hi lo v).cap = s.cap := rfl
@[simp] theorem State.setField_hif (a hi lo v : Nat) : (s.setField a hi lo v).hif = s.hif := rfl
@[simp] theorem State.setField_hgw (a hi lo v : Nat) : (s.setField a hi lo v).hgw = s.hgw := rfl
@[simp] theorem State.setField_twn (a hi lo v : Nat) : (s.setField a hi lo v).twn = s.twn := rfl
@[simp] theorem State.setField_sec (a hi lo v : Nat) : (s.setField a hi lo v).sec = s.sec := rfl
@[simp] theorem State.setField_bkd (a hi lo v : Nat) : (s.setField a hi lo v).bkd = s.bkd := rfl
@[simp] theorem State.setField_boot (a hi lo v : Nat) : (s.setField a hi lo v).boot = s.boot := rfl
@[simp] theorem State.setField_hlt (a hi lo v : Nat) : (s.setField a hi lo v).hlt = s.hlt := rfl
@[simp] theorem State.setField_free (a hi lo v : Nat) : (s.setField a hi lo v).free = s.free := rfl
@[simp] theorem State.setField_readData (a hi lo v : Nat) : (s.setField a hi lo v).readData = s.readData := rfl
@[simp] theorem State.setField_pending (a hi lo v : Nat) : (s.setField a hi lo v).pending = s.pending := rfl

/-! ### State.setFlag -/

@[simp] theorem State.setFlag_shadow (a n : Nat) (b : Bool) : (s.setFlag a n b).shadow = s.shadow := rfl
@[simp] theorem State.setFlag_loHold (a n : Nat) (b : Bool) : (s.setFlag a n b).loHold = s.loHold := rfl
@[simp] theorem State.setFlag_hiLatch (a n : Nat) (b : Bool) : (s.setFlag a n b).hiLatch = s.hiLatch := rfl
@[simp] theorem State.setFlag_committed (a n : Nat) (b : Bool) : (s.setFlag a n b).committed = s.committed := rfl
@[simp] theorem State.setFlag_dram (a n : Nat) (b : Bool) : (s.setFlag a n b).dram = s.dram := rfl
@[simp] theorem State.setFlag_hostMem (a n : Nat) (b : Bool) : (s.setFlag a n b).hostMem = s.hostMem := rfl
@[simp] theorem State.setFlag_ports (a n : Nat) (b : Bool) : (s.setFlag a n b).ports = s.ports := rfl
@[simp] theorem State.setFlag_pairs (a n : Nat) (b : Bool) : (s.setFlag a n b).pairs = s.pairs := rfl
@[simp] theorem State.setFlag_dec (a n : Nat) (b : Bool) : (s.setFlag a n b).dec = s.dec := rfl
@[simp] theorem State.setFlag_tim (a n : Nat) (b : Bool) : (s.setFlag a n b).tim = s.tim := rfl
@[simp] theorem State.setFlag_aln (a n : Nat) (b : Bool) : (s.setFlag a n b).aln = s.aln := rfl
@[simp] theorem State.setFlag_wav (a n : Nat) (b : Bool) : (s.setFlag a n b).wav = s.wav := rfl
@[simp] theorem State.setFlag_mtr (a n : Nat) (b : Bool) : (s.setFlag a n b).mtr = s.mtr := rfl
@[simp] theorem State.setFlag_osc (a n : Nat) (b : Bool) : (s.setFlag a n b).osc = s.osc := rfl
@[simp] theorem State.setFlag_top (a n : Nat) (b : Bool) : (s.setFlag a n b).top = s.top := rfl
@[simp] theorem State.setFlag_dfs (a n : Nat) (b : Bool) : (s.setFlag a n b).dfs = s.dfs := rfl
@[simp] theorem State.setFlag_cyc (a n : Nat) (b : Bool) : (s.setFlag a n b).cyc = s.cyc := rfl
@[simp] theorem State.setFlag_alm (a n : Nat) (b : Bool) : (s.setFlag a n b).alm = s.alm := rfl
@[simp] theorem State.setFlag_evr (a n : Nat) (b : Bool) : (s.setFlag a n b).evr = s.evr := rfl
@[simp] theorem State.setFlag_cap (a n : Nat) (b : Bool) : (s.setFlag a n b).cap = s.cap := rfl
@[simp] theorem State.setFlag_hif (a n : Nat) (b : Bool) : (s.setFlag a n b).hif = s.hif := rfl
@[simp] theorem State.setFlag_hgw (a n : Nat) (b : Bool) : (s.setFlag a n b).hgw = s.hgw := rfl
@[simp] theorem State.setFlag_twn (a n : Nat) (b : Bool) : (s.setFlag a n b).twn = s.twn := rfl
@[simp] theorem State.setFlag_sec (a n : Nat) (b : Bool) : (s.setFlag a n b).sec = s.sec := rfl
@[simp] theorem State.setFlag_bkd (a n : Nat) (b : Bool) : (s.setFlag a n b).bkd = s.bkd := rfl
@[simp] theorem State.setFlag_boot (a n : Nat) (b : Bool) : (s.setFlag a n b).boot = s.boot := rfl
@[simp] theorem State.setFlag_hlt (a n : Nat) (b : Bool) : (s.setFlag a n b).hlt = s.hlt := rfl
@[simp] theorem State.setFlag_free (a n : Nat) (b : Bool) : (s.setFlag a n b).free = s.free := rfl
@[simp] theorem State.setFlag_readData (a n : Nat) (b : Bool) : (s.setFlag a n b).readData = s.readData := rfl
@[simp] theorem State.setFlag_pending (a n : Nat) (b : Bool) : (s.setFlag a n b).pending = s.pending := rfl

/-! ### State.bumpBy -/

@[simp] theorem State.bumpBy_shadow (a n : Nat) : (s.bumpBy a n).shadow = s.shadow := rfl
@[simp] theorem State.bumpBy_loHold (a n : Nat) : (s.bumpBy a n).loHold = s.loHold := rfl
@[simp] theorem State.bumpBy_hiLatch (a n : Nat) : (s.bumpBy a n).hiLatch = s.hiLatch := rfl
@[simp] theorem State.bumpBy_committed (a n : Nat) : (s.bumpBy a n).committed = s.committed := rfl
@[simp] theorem State.bumpBy_dram (a n : Nat) : (s.bumpBy a n).dram = s.dram := rfl
@[simp] theorem State.bumpBy_hostMem (a n : Nat) : (s.bumpBy a n).hostMem = s.hostMem := rfl
@[simp] theorem State.bumpBy_ports (a n : Nat) : (s.bumpBy a n).ports = s.ports := rfl
@[simp] theorem State.bumpBy_pairs (a n : Nat) : (s.bumpBy a n).pairs = s.pairs := rfl
@[simp] theorem State.bumpBy_dec (a n : Nat) : (s.bumpBy a n).dec = s.dec := rfl
@[simp] theorem State.bumpBy_tim (a n : Nat) : (s.bumpBy a n).tim = s.tim := rfl
@[simp] theorem State.bumpBy_aln (a n : Nat) : (s.bumpBy a n).aln = s.aln := rfl
@[simp] theorem State.bumpBy_wav (a n : Nat) : (s.bumpBy a n).wav = s.wav := rfl
@[simp] theorem State.bumpBy_mtr (a n : Nat) : (s.bumpBy a n).mtr = s.mtr := rfl
@[simp] theorem State.bumpBy_osc (a n : Nat) : (s.bumpBy a n).osc = s.osc := rfl
@[simp] theorem State.bumpBy_top (a n : Nat) : (s.bumpBy a n).top = s.top := rfl
@[simp] theorem State.bumpBy_dfs (a n : Nat) : (s.bumpBy a n).dfs = s.dfs := rfl
@[simp] theorem State.bumpBy_cyc (a n : Nat) : (s.bumpBy a n).cyc = s.cyc := rfl
@[simp] theorem State.bumpBy_alm (a n : Nat) : (s.bumpBy a n).alm = s.alm := rfl
@[simp] theorem State.bumpBy_evr (a n : Nat) : (s.bumpBy a n).evr = s.evr := rfl
@[simp] theorem State.bumpBy_cap (a n : Nat) : (s.bumpBy a n).cap = s.cap := rfl
@[simp] theorem State.bumpBy_hif (a n : Nat) : (s.bumpBy a n).hif = s.hif := rfl
@[simp] theorem State.bumpBy_hgw (a n : Nat) : (s.bumpBy a n).hgw = s.hgw := rfl
@[simp] theorem State.bumpBy_twn (a n : Nat) : (s.bumpBy a n).twn = s.twn := rfl
@[simp] theorem State.bumpBy_sec (a n : Nat) : (s.bumpBy a n).sec = s.sec := rfl
@[simp] theorem State.bumpBy_bkd (a n : Nat) : (s.bumpBy a n).bkd = s.bkd := rfl
@[simp] theorem State.bumpBy_boot (a n : Nat) : (s.bumpBy a n).boot = s.boot := rfl
@[simp] theorem State.bumpBy_hlt (a n : Nat) : (s.bumpBy a n).hlt = s.hlt := rfl
@[simp] theorem State.bumpBy_free (a n : Nat) : (s.bumpBy a n).free = s.free := rfl
@[simp] theorem State.bumpBy_readData (a n : Nat) : (s.bumpBy a n).readData = s.readData := rfl
@[simp] theorem State.bumpBy_pending (a n : Nat) : (s.bumpBy a n).pending = s.pending := rfl

/-! ### State.bump -/

@[simp] theorem State.bump_shadow (a : Nat) : (s.bump a).shadow = s.shadow := rfl
@[simp] theorem State.bump_loHold (a : Nat) : (s.bump a).loHold = s.loHold := rfl
@[simp] theorem State.bump_hiLatch (a : Nat) : (s.bump a).hiLatch = s.hiLatch := rfl
@[simp] theorem State.bump_committed (a : Nat) : (s.bump a).committed = s.committed := rfl
@[simp] theorem State.bump_dram (a : Nat) : (s.bump a).dram = s.dram := rfl
@[simp] theorem State.bump_hostMem (a : Nat) : (s.bump a).hostMem = s.hostMem := rfl
@[simp] theorem State.bump_ports (a : Nat) : (s.bump a).ports = s.ports := rfl
@[simp] theorem State.bump_pairs (a : Nat) : (s.bump a).pairs = s.pairs := rfl
@[simp] theorem State.bump_dec (a : Nat) : (s.bump a).dec = s.dec := rfl
@[simp] theorem State.bump_tim (a : Nat) : (s.bump a).tim = s.tim := rfl
@[simp] theorem State.bump_aln (a : Nat) : (s.bump a).aln = s.aln := rfl
@[simp] theorem State.bump_wav (a : Nat) : (s.bump a).wav = s.wav := rfl
@[simp] theorem State.bump_mtr (a : Nat) : (s.bump a).mtr = s.mtr := rfl
@[simp] theorem State.bump_osc (a : Nat) : (s.bump a).osc = s.osc := rfl
@[simp] theorem State.bump_top (a : Nat) : (s.bump a).top = s.top := rfl
@[simp] theorem State.bump_dfs (a : Nat) : (s.bump a).dfs = s.dfs := rfl
@[simp] theorem State.bump_cyc (a : Nat) : (s.bump a).cyc = s.cyc := rfl
@[simp] theorem State.bump_alm (a : Nat) : (s.bump a).alm = s.alm := rfl
@[simp] theorem State.bump_evr (a : Nat) : (s.bump a).evr = s.evr := rfl
@[simp] theorem State.bump_cap (a : Nat) : (s.bump a).cap = s.cap := rfl
@[simp] theorem State.bump_hif (a : Nat) : (s.bump a).hif = s.hif := rfl
@[simp] theorem State.bump_hgw (a : Nat) : (s.bump a).hgw = s.hgw := rfl
@[simp] theorem State.bump_twn (a : Nat) : (s.bump a).twn = s.twn := rfl
@[simp] theorem State.bump_sec (a : Nat) : (s.bump a).sec = s.sec := rfl
@[simp] theorem State.bump_bkd (a : Nat) : (s.bump a).bkd = s.bkd := rfl
@[simp] theorem State.bump_boot (a : Nat) : (s.bump a).boot = s.boot := rfl
@[simp] theorem State.bump_hlt (a : Nat) : (s.bump a).hlt = s.hlt := rfl
@[simp] theorem State.bump_free (a : Nat) : (s.bump a).free = s.free := rfl
@[simp] theorem State.bump_readData (a : Nat) : (s.bump a).readData = s.readData := rfl
@[simp] theorem State.bump_pending (a : Nat) : (s.bump a).pending = s.pending := rfl

/-! ### State.maxReg -/

@[simp] theorem State.maxReg_shadow (a v : Nat) : (s.maxReg a v).shadow = s.shadow := rfl
@[simp] theorem State.maxReg_loHold (a v : Nat) : (s.maxReg a v).loHold = s.loHold := rfl
@[simp] theorem State.maxReg_hiLatch (a v : Nat) : (s.maxReg a v).hiLatch = s.hiLatch := rfl
@[simp] theorem State.maxReg_committed (a v : Nat) : (s.maxReg a v).committed = s.committed := rfl
@[simp] theorem State.maxReg_dram (a v : Nat) : (s.maxReg a v).dram = s.dram := rfl
@[simp] theorem State.maxReg_hostMem (a v : Nat) : (s.maxReg a v).hostMem = s.hostMem := rfl
@[simp] theorem State.maxReg_ports (a v : Nat) : (s.maxReg a v).ports = s.ports := rfl
@[simp] theorem State.maxReg_pairs (a v : Nat) : (s.maxReg a v).pairs = s.pairs := rfl
@[simp] theorem State.maxReg_dec (a v : Nat) : (s.maxReg a v).dec = s.dec := rfl
@[simp] theorem State.maxReg_tim (a v : Nat) : (s.maxReg a v).tim = s.tim := rfl
@[simp] theorem State.maxReg_aln (a v : Nat) : (s.maxReg a v).aln = s.aln := rfl
@[simp] theorem State.maxReg_wav (a v : Nat) : (s.maxReg a v).wav = s.wav := rfl
@[simp] theorem State.maxReg_mtr (a v : Nat) : (s.maxReg a v).mtr = s.mtr := rfl
@[simp] theorem State.maxReg_osc (a v : Nat) : (s.maxReg a v).osc = s.osc := rfl
@[simp] theorem State.maxReg_top (a v : Nat) : (s.maxReg a v).top = s.top := rfl
@[simp] theorem State.maxReg_dfs (a v : Nat) : (s.maxReg a v).dfs = s.dfs := rfl
@[simp] theorem State.maxReg_cyc (a v : Nat) : (s.maxReg a v).cyc = s.cyc := rfl
@[simp] theorem State.maxReg_alm (a v : Nat) : (s.maxReg a v).alm = s.alm := rfl
@[simp] theorem State.maxReg_evr (a v : Nat) : (s.maxReg a v).evr = s.evr := rfl
@[simp] theorem State.maxReg_cap (a v : Nat) : (s.maxReg a v).cap = s.cap := rfl
@[simp] theorem State.maxReg_hif (a v : Nat) : (s.maxReg a v).hif = s.hif := rfl
@[simp] theorem State.maxReg_hgw (a v : Nat) : (s.maxReg a v).hgw = s.hgw := rfl
@[simp] theorem State.maxReg_twn (a v : Nat) : (s.maxReg a v).twn = s.twn := rfl
@[simp] theorem State.maxReg_sec (a v : Nat) : (s.maxReg a v).sec = s.sec := rfl
@[simp] theorem State.maxReg_bkd (a v : Nat) : (s.maxReg a v).bkd = s.bkd := rfl
@[simp] theorem State.maxReg_boot (a v : Nat) : (s.maxReg a v).boot = s.boot := rfl
@[simp] theorem State.maxReg_hlt (a v : Nat) : (s.maxReg a v).hlt = s.hlt := rfl
@[simp] theorem State.maxReg_free (a v : Nat) : (s.maxReg a v).free = s.free := rfl
@[simp] theorem State.maxReg_readData (a v : Nat) : (s.maxReg a v).readData = s.readData := rfl
@[simp] theorem State.maxReg_pending (a v : Nat) : (s.maxReg a v).pending = s.pending := rfl

/-! ### State.setPair -/

@[simp] theorem State.setPair_shadow (lo hi v : Nat) : (s.setPair lo hi v).shadow = s.shadow := rfl
@[simp] theorem State.setPair_loHold (lo hi v : Nat) : (s.setPair lo hi v).loHold = s.loHold := rfl
@[simp] theorem State.setPair_hiLatch (lo hi v : Nat) : (s.setPair lo hi v).hiLatch = s.hiLatch := rfl
@[simp] theorem State.setPair_committed (lo hi v : Nat) : (s.setPair lo hi v).committed = s.committed := rfl
@[simp] theorem State.setPair_dram (lo hi v : Nat) : (s.setPair lo hi v).dram = s.dram := rfl
@[simp] theorem State.setPair_hostMem (lo hi v : Nat) : (s.setPair lo hi v).hostMem = s.hostMem := rfl
@[simp] theorem State.setPair_ports (lo hi v : Nat) : (s.setPair lo hi v).ports = s.ports := rfl
@[simp] theorem State.setPair_pairs (lo hi v : Nat) : (s.setPair lo hi v).pairs = s.pairs := rfl
@[simp] theorem State.setPair_dec (lo hi v : Nat) : (s.setPair lo hi v).dec = s.dec := rfl
@[simp] theorem State.setPair_tim (lo hi v : Nat) : (s.setPair lo hi v).tim = s.tim := rfl
@[simp] theorem State.setPair_aln (lo hi v : Nat) : (s.setPair lo hi v).aln = s.aln := rfl
@[simp] theorem State.setPair_wav (lo hi v : Nat) : (s.setPair lo hi v).wav = s.wav := rfl
@[simp] theorem State.setPair_mtr (lo hi v : Nat) : (s.setPair lo hi v).mtr = s.mtr := rfl
@[simp] theorem State.setPair_osc (lo hi v : Nat) : (s.setPair lo hi v).osc = s.osc := rfl
@[simp] theorem State.setPair_top (lo hi v : Nat) : (s.setPair lo hi v).top = s.top := rfl
@[simp] theorem State.setPair_dfs (lo hi v : Nat) : (s.setPair lo hi v).dfs = s.dfs := rfl
@[simp] theorem State.setPair_cyc (lo hi v : Nat) : (s.setPair lo hi v).cyc = s.cyc := rfl
@[simp] theorem State.setPair_alm (lo hi v : Nat) : (s.setPair lo hi v).alm = s.alm := rfl
@[simp] theorem State.setPair_evr (lo hi v : Nat) : (s.setPair lo hi v).evr = s.evr := rfl
@[simp] theorem State.setPair_cap (lo hi v : Nat) : (s.setPair lo hi v).cap = s.cap := rfl
@[simp] theorem State.setPair_hif (lo hi v : Nat) : (s.setPair lo hi v).hif = s.hif := rfl
@[simp] theorem State.setPair_hgw (lo hi v : Nat) : (s.setPair lo hi v).hgw = s.hgw := rfl
@[simp] theorem State.setPair_twn (lo hi v : Nat) : (s.setPair lo hi v).twn = s.twn := rfl
@[simp] theorem State.setPair_sec (lo hi v : Nat) : (s.setPair lo hi v).sec = s.sec := rfl
@[simp] theorem State.setPair_bkd (lo hi v : Nat) : (s.setPair lo hi v).bkd = s.bkd := rfl
@[simp] theorem State.setPair_boot (lo hi v : Nat) : (s.setPair lo hi v).boot = s.boot := rfl
@[simp] theorem State.setPair_hlt (lo hi v : Nat) : (s.setPair lo hi v).hlt = s.hlt := rfl
@[simp] theorem State.setPair_free (lo hi v : Nat) : (s.setPair lo hi v).free = s.free := rfl
@[simp] theorem State.setPair_readData (lo hi v : Nat) : (s.setPair lo hi v).readData = s.readData := rfl
@[simp] theorem State.setPair_pending (lo hi v : Nat) : (s.setPair lo hi v).pending = s.pending := rfl

/-! ### State.showHealth -/

@[simp] theorem State.showHealth_shadow : (s.showHealth).shadow = s.shadow := rfl
@[simp] theorem State.showHealth_loHold : (s.showHealth).loHold = s.loHold := rfl
@[simp] theorem State.showHealth_hiLatch : (s.showHealth).hiLatch = s.hiLatch := rfl
@[simp] theorem State.showHealth_committed : (s.showHealth).committed = s.committed := rfl
@[simp] theorem State.showHealth_dram : (s.showHealth).dram = s.dram := rfl
@[simp] theorem State.showHealth_hostMem : (s.showHealth).hostMem = s.hostMem := rfl
@[simp] theorem State.showHealth_ports : (s.showHealth).ports = s.ports := rfl
@[simp] theorem State.showHealth_pairs : (s.showHealth).pairs = s.pairs := rfl
@[simp] theorem State.showHealth_dec : (s.showHealth).dec = s.dec := rfl
@[simp] theorem State.showHealth_tim : (s.showHealth).tim = s.tim := rfl
@[simp] theorem State.showHealth_aln : (s.showHealth).aln = s.aln := rfl
@[simp] theorem State.showHealth_wav : (s.showHealth).wav = s.wav := rfl
@[simp] theorem State.showHealth_mtr : (s.showHealth).mtr = s.mtr := rfl
@[simp] theorem State.showHealth_osc : (s.showHealth).osc = s.osc := rfl
@[simp] theorem State.showHealth_top : (s.showHealth).top = s.top := rfl
@[simp] theorem State.showHealth_dfs : (s.showHealth).dfs = s.dfs := rfl
@[simp] theorem State.showHealth_cyc : (s.showHealth).cyc = s.cyc := rfl
@[simp] theorem State.showHealth_alm : (s.showHealth).alm = s.alm := rfl
@[simp] theorem State.showHealth_evr : (s.showHealth).evr = s.evr := rfl
@[simp] theorem State.showHealth_cap : (s.showHealth).cap = s.cap := rfl
@[simp] theorem State.showHealth_hif : (s.showHealth).hif = s.hif := rfl
@[simp] theorem State.showHealth_hgw : (s.showHealth).hgw = s.hgw := rfl
@[simp] theorem State.showHealth_twn : (s.showHealth).twn = s.twn := rfl
@[simp] theorem State.showHealth_sec : (s.showHealth).sec = s.sec := rfl
@[simp] theorem State.showHealth_bkd : (s.showHealth).bkd = s.bkd := rfl
@[simp] theorem State.showHealth_boot : (s.showHealth).boot = s.boot := rfl
@[simp] theorem State.showHealth_hlt : (s.showHealth).hlt = s.hlt := rfl
@[simp] theorem State.showHealth_free : (s.showHealth).free = s.free := rfl
@[simp] theorem State.showHealth_readData : (s.showHealth).readData = s.readData := rfl
@[simp] theorem State.showHealth_pending : (s.showHealth).pending = s.pending := rfl

/-! ### State.stageReg -/

@[simp] theorem State.stageReg_regs (a : Nat) (v : Word) : (s.stageReg a v).regs = s.regs := rfl
@[simp] theorem State.stageReg_loHold (a : Nat) (v : Word) : (s.stageReg a v).loHold = s.loHold := rfl
@[simp] theorem State.stageReg_hiLatch (a : Nat) (v : Word) : (s.stageReg a v).hiLatch = s.hiLatch := rfl
@[simp] theorem State.stageReg_committed (a : Nat) (v : Word) : (s.stageReg a v).committed = s.committed := rfl
@[simp] theorem State.stageReg_dram (a : Nat) (v : Word) : (s.stageReg a v).dram = s.dram := rfl
@[simp] theorem State.stageReg_hostMem (a : Nat) (v : Word) : (s.stageReg a v).hostMem = s.hostMem := rfl
@[simp] theorem State.stageReg_ports (a : Nat) (v : Word) : (s.stageReg a v).ports = s.ports := rfl
@[simp] theorem State.stageReg_pairs (a : Nat) (v : Word) : (s.stageReg a v).pairs = s.pairs := rfl
@[simp] theorem State.stageReg_dec (a : Nat) (v : Word) : (s.stageReg a v).dec = s.dec := rfl
@[simp] theorem State.stageReg_tim (a : Nat) (v : Word) : (s.stageReg a v).tim = s.tim := rfl
@[simp] theorem State.stageReg_aln (a : Nat) (v : Word) : (s.stageReg a v).aln = s.aln := rfl
@[simp] theorem State.stageReg_wav (a : Nat) (v : Word) : (s.stageReg a v).wav = s.wav := rfl
@[simp] theorem State.stageReg_mtr (a : Nat) (v : Word) : (s.stageReg a v).mtr = s.mtr := rfl
@[simp] theorem State.stageReg_osc (a : Nat) (v : Word) : (s.stageReg a v).osc = s.osc := rfl
@[simp] theorem State.stageReg_top (a : Nat) (v : Word) : (s.stageReg a v).top = s.top := rfl
@[simp] theorem State.stageReg_dfs (a : Nat) (v : Word) : (s.stageReg a v).dfs = s.dfs := rfl
@[simp] theorem State.stageReg_cyc (a : Nat) (v : Word) : (s.stageReg a v).cyc = s.cyc := rfl
@[simp] theorem State.stageReg_alm (a : Nat) (v : Word) : (s.stageReg a v).alm = s.alm := rfl
@[simp] theorem State.stageReg_evr (a : Nat) (v : Word) : (s.stageReg a v).evr = s.evr := rfl
@[simp] theorem State.stageReg_cap (a : Nat) (v : Word) : (s.stageReg a v).cap = s.cap := rfl
@[simp] theorem State.stageReg_hif (a : Nat) (v : Word) : (s.stageReg a v).hif = s.hif := rfl
@[simp] theorem State.stageReg_hgw (a : Nat) (v : Word) : (s.stageReg a v).hgw = s.hgw := rfl
@[simp] theorem State.stageReg_twn (a : Nat) (v : Word) : (s.stageReg a v).twn = s.twn := rfl
@[simp] theorem State.stageReg_sec (a : Nat) (v : Word) : (s.stageReg a v).sec = s.sec := rfl
@[simp] theorem State.stageReg_bkd (a : Nat) (v : Word) : (s.stageReg a v).bkd = s.bkd := rfl
@[simp] theorem State.stageReg_boot (a : Nat) (v : Word) : (s.stageReg a v).boot = s.boot := rfl
@[simp] theorem State.stageReg_hlt (a : Nat) (v : Word) : (s.stageReg a v).hlt = s.hlt := rfl
@[simp] theorem State.stageReg_free (a : Nat) (v : Word) : (s.stageReg a v).free = s.free := rfl
@[simp] theorem State.stageReg_readData (a : Nat) (v : Word) : (s.stageReg a v).readData = s.readData := rfl
@[simp] theorem State.stageReg_pending (a : Nat) (v : Word) : (s.stageReg a v).pending = s.pending := rfl

/-! ### State.dropShadow -/

@[simp] theorem State.dropShadow_regs (a : Nat) : (s.dropShadow a).regs = s.regs := rfl
@[simp] theorem State.dropShadow_loHold (a : Nat) : (s.dropShadow a).loHold = s.loHold := rfl
@[simp] theorem State.dropShadow_hiLatch (a : Nat) : (s.dropShadow a).hiLatch = s.hiLatch := rfl
@[simp] theorem State.dropShadow_committed (a : Nat) : (s.dropShadow a).committed = s.committed := rfl
@[simp] theorem State.dropShadow_dram (a : Nat) : (s.dropShadow a).dram = s.dram := rfl
@[simp] theorem State.dropShadow_hostMem (a : Nat) : (s.dropShadow a).hostMem = s.hostMem := rfl
@[simp] theorem State.dropShadow_ports (a : Nat) : (s.dropShadow a).ports = s.ports := rfl
@[simp] theorem State.dropShadow_pairs (a : Nat) : (s.dropShadow a).pairs = s.pairs := rfl
@[simp] theorem State.dropShadow_dec (a : Nat) : (s.dropShadow a).dec = s.dec := rfl
@[simp] theorem State.dropShadow_tim (a : Nat) : (s.dropShadow a).tim = s.tim := rfl
@[simp] theorem State.dropShadow_aln (a : Nat) : (s.dropShadow a).aln = s.aln := rfl
@[simp] theorem State.dropShadow_wav (a : Nat) : (s.dropShadow a).wav = s.wav := rfl
@[simp] theorem State.dropShadow_mtr (a : Nat) : (s.dropShadow a).mtr = s.mtr := rfl
@[simp] theorem State.dropShadow_osc (a : Nat) : (s.dropShadow a).osc = s.osc := rfl
@[simp] theorem State.dropShadow_top (a : Nat) : (s.dropShadow a).top = s.top := rfl
@[simp] theorem State.dropShadow_dfs (a : Nat) : (s.dropShadow a).dfs = s.dfs := rfl
@[simp] theorem State.dropShadow_cyc (a : Nat) : (s.dropShadow a).cyc = s.cyc := rfl
@[simp] theorem State.dropShadow_alm (a : Nat) : (s.dropShadow a).alm = s.alm := rfl
@[simp] theorem State.dropShadow_evr (a : Nat) : (s.dropShadow a).evr = s.evr := rfl
@[simp] theorem State.dropShadow_cap (a : Nat) : (s.dropShadow a).cap = s.cap := rfl
@[simp] theorem State.dropShadow_hif (a : Nat) : (s.dropShadow a).hif = s.hif := rfl
@[simp] theorem State.dropShadow_hgw (a : Nat) : (s.dropShadow a).hgw = s.hgw := rfl
@[simp] theorem State.dropShadow_twn (a : Nat) : (s.dropShadow a).twn = s.twn := rfl
@[simp] theorem State.dropShadow_sec (a : Nat) : (s.dropShadow a).sec = s.sec := rfl
@[simp] theorem State.dropShadow_bkd (a : Nat) : (s.dropShadow a).bkd = s.bkd := rfl
@[simp] theorem State.dropShadow_boot (a : Nat) : (s.dropShadow a).boot = s.boot := rfl
@[simp] theorem State.dropShadow_hlt (a : Nat) : (s.dropShadow a).hlt = s.hlt := rfl
@[simp] theorem State.dropShadow_free (a : Nat) : (s.dropShadow a).free = s.free := rfl
@[simp] theorem State.dropShadow_readData (a : Nat) : (s.dropShadow a).readData = s.readData := rfl
@[simp] theorem State.dropShadow_pending (a : Nat) : (s.dropShadow a).pending = s.pending := rfl

/-! ### State.commitReg -/

@[simp] theorem State.commitReg_loHold (a : Nat) : (s.commitReg a).loHold = s.loHold := rfl
@[simp] theorem State.commitReg_hiLatch (a : Nat) : (s.commitReg a).hiLatch = s.hiLatch := rfl
@[simp] theorem State.commitReg_committed (a : Nat) : (s.commitReg a).committed = s.committed := rfl
@[simp] theorem State.commitReg_dram (a : Nat) : (s.commitReg a).dram = s.dram := rfl
@[simp] theorem State.commitReg_hostMem (a : Nat) : (s.commitReg a).hostMem = s.hostMem := rfl
@[simp] theorem State.commitReg_ports (a : Nat) : (s.commitReg a).ports = s.ports := rfl
@[simp] theorem State.commitReg_pairs (a : Nat) : (s.commitReg a).pairs = s.pairs := rfl
@[simp] theorem State.commitReg_dec (a : Nat) : (s.commitReg a).dec = s.dec := rfl
@[simp] theorem State.commitReg_tim (a : Nat) : (s.commitReg a).tim = s.tim := rfl
@[simp] theorem State.commitReg_aln (a : Nat) : (s.commitReg a).aln = s.aln := rfl
@[simp] theorem State.commitReg_wav (a : Nat) : (s.commitReg a).wav = s.wav := rfl
@[simp] theorem State.commitReg_mtr (a : Nat) : (s.commitReg a).mtr = s.mtr := rfl
@[simp] theorem State.commitReg_osc (a : Nat) : (s.commitReg a).osc = s.osc := rfl
@[simp] theorem State.commitReg_top (a : Nat) : (s.commitReg a).top = s.top := rfl
@[simp] theorem State.commitReg_dfs (a : Nat) : (s.commitReg a).dfs = s.dfs := rfl
@[simp] theorem State.commitReg_cyc (a : Nat) : (s.commitReg a).cyc = s.cyc := rfl
@[simp] theorem State.commitReg_alm (a : Nat) : (s.commitReg a).alm = s.alm := rfl
@[simp] theorem State.commitReg_evr (a : Nat) : (s.commitReg a).evr = s.evr := rfl
@[simp] theorem State.commitReg_cap (a : Nat) : (s.commitReg a).cap = s.cap := rfl
@[simp] theorem State.commitReg_hif (a : Nat) : (s.commitReg a).hif = s.hif := rfl
@[simp] theorem State.commitReg_hgw (a : Nat) : (s.commitReg a).hgw = s.hgw := rfl
@[simp] theorem State.commitReg_twn (a : Nat) : (s.commitReg a).twn = s.twn := rfl
@[simp] theorem State.commitReg_sec (a : Nat) : (s.commitReg a).sec = s.sec := rfl
@[simp] theorem State.commitReg_bkd (a : Nat) : (s.commitReg a).bkd = s.bkd := rfl
@[simp] theorem State.commitReg_boot (a : Nat) : (s.commitReg a).boot = s.boot := rfl
@[simp] theorem State.commitReg_hlt (a : Nat) : (s.commitReg a).hlt = s.hlt := rfl
@[simp] theorem State.commitReg_free (a : Nat) : (s.commitReg a).free = s.free := rfl
@[simp] theorem State.commitReg_readData (a : Nat) : (s.commitReg a).readData = s.readData := rfl
@[simp] theorem State.commitReg_pending (a : Nat) : (s.commitReg a).pending = s.pending := rfl

/-! ### State.writeDram -/

@[simp] theorem State.writeDram_regs (a : Nat) (l : List Byte) : (s.writeDram a l).regs = s.regs := rfl
@[simp] theorem State.writeDram_shadow (a : Nat) (l : List Byte) : (s.writeDram a l).shadow = s.shadow := rfl
@[simp] theorem State.writeDram_loHold (a : Nat) (l : List Byte) : (s.writeDram a l).loHold = s.loHold := rfl
@[simp] theorem State.writeDram_hiLatch (a : Nat) (l : List Byte) : (s.writeDram a l).hiLatch = s.hiLatch := rfl
@[simp] theorem State.writeDram_committed (a : Nat) (l : List Byte) : (s.writeDram a l).committed = s.committed := rfl
@[simp] theorem State.writeDram_hostMem (a : Nat) (l : List Byte) : (s.writeDram a l).hostMem = s.hostMem := rfl
@[simp] theorem State.writeDram_ports (a : Nat) (l : List Byte) : (s.writeDram a l).ports = s.ports := rfl
@[simp] theorem State.writeDram_pairs (a : Nat) (l : List Byte) : (s.writeDram a l).pairs = s.pairs := rfl
@[simp] theorem State.writeDram_dec (a : Nat) (l : List Byte) : (s.writeDram a l).dec = s.dec := rfl
@[simp] theorem State.writeDram_tim (a : Nat) (l : List Byte) : (s.writeDram a l).tim = s.tim := rfl
@[simp] theorem State.writeDram_aln (a : Nat) (l : List Byte) : (s.writeDram a l).aln = s.aln := rfl
@[simp] theorem State.writeDram_wav (a : Nat) (l : List Byte) : (s.writeDram a l).wav = s.wav := rfl
@[simp] theorem State.writeDram_mtr (a : Nat) (l : List Byte) : (s.writeDram a l).mtr = s.mtr := rfl
@[simp] theorem State.writeDram_osc (a : Nat) (l : List Byte) : (s.writeDram a l).osc = s.osc := rfl
@[simp] theorem State.writeDram_top (a : Nat) (l : List Byte) : (s.writeDram a l).top = s.top := rfl
@[simp] theorem State.writeDram_dfs (a : Nat) (l : List Byte) : (s.writeDram a l).dfs = s.dfs := rfl
@[simp] theorem State.writeDram_cyc (a : Nat) (l : List Byte) : (s.writeDram a l).cyc = s.cyc := rfl
@[simp] theorem State.writeDram_alm (a : Nat) (l : List Byte) : (s.writeDram a l).alm = s.alm := rfl
@[simp] theorem State.writeDram_evr (a : Nat) (l : List Byte) : (s.writeDram a l).evr = s.evr := rfl
@[simp] theorem State.writeDram_cap (a : Nat) (l : List Byte) : (s.writeDram a l).cap = s.cap := rfl
@[simp] theorem State.writeDram_hif (a : Nat) (l : List Byte) : (s.writeDram a l).hif = s.hif := rfl
@[simp] theorem State.writeDram_hgw (a : Nat) (l : List Byte) : (s.writeDram a l).hgw = s.hgw := rfl
@[simp] theorem State.writeDram_twn (a : Nat) (l : List Byte) : (s.writeDram a l).twn = s.twn := rfl
@[simp] theorem State.writeDram_sec (a : Nat) (l : List Byte) : (s.writeDram a l).sec = s.sec := rfl
@[simp] theorem State.writeDram_bkd (a : Nat) (l : List Byte) : (s.writeDram a l).bkd = s.bkd := rfl
@[simp] theorem State.writeDram_boot (a : Nat) (l : List Byte) : (s.writeDram a l).boot = s.boot := rfl
@[simp] theorem State.writeDram_hlt (a : Nat) (l : List Byte) : (s.writeDram a l).hlt = s.hlt := rfl
@[simp] theorem State.writeDram_free (a : Nat) (l : List Byte) : (s.writeDram a l).free = s.free := rfl
@[simp] theorem State.writeDram_readData (a : Nat) (l : List Byte) : (s.writeDram a l).readData = s.readData := rfl
@[simp] theorem State.writeDram_pending (a : Nat) (l : List Byte) : (s.writeDram a l).pending = s.pending := rfl

/-! ### State.writeHost -/

@[simp] theorem State.writeHost_regs (a : Nat) (l : List Byte) : (s.writeHost a l).regs = s.regs := rfl
@[simp] theorem State.writeHost_shadow (a : Nat) (l : List Byte) : (s.writeHost a l).shadow = s.shadow := rfl
@[simp] theorem State.writeHost_loHold (a : Nat) (l : List Byte) : (s.writeHost a l).loHold = s.loHold := rfl
@[simp] theorem State.writeHost_hiLatch (a : Nat) (l : List Byte) : (s.writeHost a l).hiLatch = s.hiLatch := rfl
@[simp] theorem State.writeHost_committed (a : Nat) (l : List Byte) : (s.writeHost a l).committed = s.committed := rfl
@[simp] theorem State.writeHost_dram (a : Nat) (l : List Byte) : (s.writeHost a l).dram = s.dram := rfl
@[simp] theorem State.writeHost_ports (a : Nat) (l : List Byte) : (s.writeHost a l).ports = s.ports := rfl
@[simp] theorem State.writeHost_pairs (a : Nat) (l : List Byte) : (s.writeHost a l).pairs = s.pairs := rfl
@[simp] theorem State.writeHost_dec (a : Nat) (l : List Byte) : (s.writeHost a l).dec = s.dec := rfl
@[simp] theorem State.writeHost_tim (a : Nat) (l : List Byte) : (s.writeHost a l).tim = s.tim := rfl
@[simp] theorem State.writeHost_aln (a : Nat) (l : List Byte) : (s.writeHost a l).aln = s.aln := rfl
@[simp] theorem State.writeHost_wav (a : Nat) (l : List Byte) : (s.writeHost a l).wav = s.wav := rfl
@[simp] theorem State.writeHost_mtr (a : Nat) (l : List Byte) : (s.writeHost a l).mtr = s.mtr := rfl
@[simp] theorem State.writeHost_osc (a : Nat) (l : List Byte) : (s.writeHost a l).osc = s.osc := rfl
@[simp] theorem State.writeHost_top (a : Nat) (l : List Byte) : (s.writeHost a l).top = s.top := rfl
@[simp] theorem State.writeHost_dfs (a : Nat) (l : List Byte) : (s.writeHost a l).dfs = s.dfs := rfl
@[simp] theorem State.writeHost_cyc (a : Nat) (l : List Byte) : (s.writeHost a l).cyc = s.cyc := rfl
@[simp] theorem State.writeHost_alm (a : Nat) (l : List Byte) : (s.writeHost a l).alm = s.alm := rfl
@[simp] theorem State.writeHost_evr (a : Nat) (l : List Byte) : (s.writeHost a l).evr = s.evr := rfl
@[simp] theorem State.writeHost_cap (a : Nat) (l : List Byte) : (s.writeHost a l).cap = s.cap := rfl
@[simp] theorem State.writeHost_hif (a : Nat) (l : List Byte) : (s.writeHost a l).hif = s.hif := rfl
@[simp] theorem State.writeHost_hgw (a : Nat) (l : List Byte) : (s.writeHost a l).hgw = s.hgw := rfl
@[simp] theorem State.writeHost_twn (a : Nat) (l : List Byte) : (s.writeHost a l).twn = s.twn := rfl
@[simp] theorem State.writeHost_sec (a : Nat) (l : List Byte) : (s.writeHost a l).sec = s.sec := rfl
@[simp] theorem State.writeHost_bkd (a : Nat) (l : List Byte) : (s.writeHost a l).bkd = s.bkd := rfl
@[simp] theorem State.writeHost_boot (a : Nat) (l : List Byte) : (s.writeHost a l).boot = s.boot := rfl
@[simp] theorem State.writeHost_hlt (a : Nat) (l : List Byte) : (s.writeHost a l).hlt = s.hlt := rfl
@[simp] theorem State.writeHost_free (a : Nat) (l : List Byte) : (s.writeHost a l).free = s.free := rfl
@[simp] theorem State.writeHost_readData (a : Nat) (l : List Byte) : (s.writeHost a l).readData = s.readData := rfl
@[simp] theorem State.writeHost_pending (a : Nat) (l : List Byte) : (s.writeHost a l).pending = s.pending := rfl

/-! ### State.useFree -/

@[simp] theorem State.useFree_regs (n : Nat) : (s.useFree n).regs = s.regs := rfl
@[simp] theorem State.useFree_shadow (n : Nat) : (s.useFree n).shadow = s.shadow := rfl
@[simp] theorem State.useFree_loHold (n : Nat) : (s.useFree n).loHold = s.loHold := rfl
@[simp] theorem State.useFree_hiLatch (n : Nat) : (s.useFree n).hiLatch = s.hiLatch := rfl
@[simp] theorem State.useFree_committed (n : Nat) : (s.useFree n).committed = s.committed := rfl
@[simp] theorem State.useFree_dram (n : Nat) : (s.useFree n).dram = s.dram := rfl
@[simp] theorem State.useFree_hostMem (n : Nat) : (s.useFree n).hostMem = s.hostMem := rfl
@[simp] theorem State.useFree_ports (n : Nat) : (s.useFree n).ports = s.ports := rfl
@[simp] theorem State.useFree_pairs (n : Nat) : (s.useFree n).pairs = s.pairs := rfl
@[simp] theorem State.useFree_dec (n : Nat) : (s.useFree n).dec = s.dec := rfl
@[simp] theorem State.useFree_tim (n : Nat) : (s.useFree n).tim = s.tim := rfl
@[simp] theorem State.useFree_aln (n : Nat) : (s.useFree n).aln = s.aln := rfl
@[simp] theorem State.useFree_wav (n : Nat) : (s.useFree n).wav = s.wav := rfl
@[simp] theorem State.useFree_mtr (n : Nat) : (s.useFree n).mtr = s.mtr := rfl
@[simp] theorem State.useFree_osc (n : Nat) : (s.useFree n).osc = s.osc := rfl
@[simp] theorem State.useFree_top (n : Nat) : (s.useFree n).top = s.top := rfl
@[simp] theorem State.useFree_dfs (n : Nat) : (s.useFree n).dfs = s.dfs := rfl
@[simp] theorem State.useFree_cyc (n : Nat) : (s.useFree n).cyc = s.cyc := rfl
@[simp] theorem State.useFree_alm (n : Nat) : (s.useFree n).alm = s.alm := rfl
@[simp] theorem State.useFree_evr (n : Nat) : (s.useFree n).evr = s.evr := rfl
@[simp] theorem State.useFree_cap (n : Nat) : (s.useFree n).cap = s.cap := rfl
@[simp] theorem State.useFree_hif (n : Nat) : (s.useFree n).hif = s.hif := rfl
@[simp] theorem State.useFree_hgw (n : Nat) : (s.useFree n).hgw = s.hgw := rfl
@[simp] theorem State.useFree_twn (n : Nat) : (s.useFree n).twn = s.twn := rfl
@[simp] theorem State.useFree_sec (n : Nat) : (s.useFree n).sec = s.sec := rfl
@[simp] theorem State.useFree_bkd (n : Nat) : (s.useFree n).bkd = s.bkd := rfl
@[simp] theorem State.useFree_boot (n : Nat) : (s.useFree n).boot = s.boot := rfl
@[simp] theorem State.useFree_hlt (n : Nat) : (s.useFree n).hlt = s.hlt := rfl
@[simp] theorem State.useFree_readData (n : Nat) : (s.useFree n).readData = s.readData := rfl
@[simp] theorem State.useFree_pending (n : Nat) : (s.useFree n).pending = s.pending := rfl

/-! ### State.linkQueue -/

@[simp] theorem State.linkQueue_regs (l : Nat) (p : HgwPacket) : (s.linkQueue l p).regs = s.regs := rfl
@[simp] theorem State.linkQueue_shadow (l : Nat) (p : HgwPacket) : (s.linkQueue l p).shadow = s.shadow := rfl
@[simp] theorem State.linkQueue_loHold (l : Nat) (p : HgwPacket) : (s.linkQueue l p).loHold = s.loHold := rfl
@[simp] theorem State.linkQueue_hiLatch (l : Nat) (p : HgwPacket) : (s.linkQueue l p).hiLatch = s.hiLatch := rfl
@[simp] theorem State.linkQueue_committed (l : Nat) (p : HgwPacket) : (s.linkQueue l p).committed = s.committed := rfl
@[simp] theorem State.linkQueue_dram (l : Nat) (p : HgwPacket) : (s.linkQueue l p).dram = s.dram := rfl
@[simp] theorem State.linkQueue_hostMem (l : Nat) (p : HgwPacket) : (s.linkQueue l p).hostMem = s.hostMem := rfl
@[simp] theorem State.linkQueue_ports (l : Nat) (p : HgwPacket) : (s.linkQueue l p).ports = s.ports := rfl
@[simp] theorem State.linkQueue_pairs (l : Nat) (p : HgwPacket) : (s.linkQueue l p).pairs = s.pairs := rfl
@[simp] theorem State.linkQueue_dec (l : Nat) (p : HgwPacket) : (s.linkQueue l p).dec = s.dec := rfl
@[simp] theorem State.linkQueue_tim (l : Nat) (p : HgwPacket) : (s.linkQueue l p).tim = s.tim := rfl
@[simp] theorem State.linkQueue_aln (l : Nat) (p : HgwPacket) : (s.linkQueue l p).aln = s.aln := rfl
@[simp] theorem State.linkQueue_wav (l : Nat) (p : HgwPacket) : (s.linkQueue l p).wav = s.wav := rfl
@[simp] theorem State.linkQueue_mtr (l : Nat) (p : HgwPacket) : (s.linkQueue l p).mtr = s.mtr := rfl
@[simp] theorem State.linkQueue_osc (l : Nat) (p : HgwPacket) : (s.linkQueue l p).osc = s.osc := rfl
@[simp] theorem State.linkQueue_top (l : Nat) (p : HgwPacket) : (s.linkQueue l p).top = s.top := rfl
@[simp] theorem State.linkQueue_dfs (l : Nat) (p : HgwPacket) : (s.linkQueue l p).dfs = s.dfs := rfl
@[simp] theorem State.linkQueue_cyc (l : Nat) (p : HgwPacket) : (s.linkQueue l p).cyc = s.cyc := rfl
@[simp] theorem State.linkQueue_alm (l : Nat) (p : HgwPacket) : (s.linkQueue l p).alm = s.alm := rfl
@[simp] theorem State.linkQueue_evr (l : Nat) (p : HgwPacket) : (s.linkQueue l p).evr = s.evr := rfl
@[simp] theorem State.linkQueue_cap (l : Nat) (p : HgwPacket) : (s.linkQueue l p).cap = s.cap := rfl
@[simp] theorem State.linkQueue_hif (l : Nat) (p : HgwPacket) : (s.linkQueue l p).hif = s.hif := rfl
@[simp] theorem State.linkQueue_twn (l : Nat) (p : HgwPacket) : (s.linkQueue l p).twn = s.twn := rfl
@[simp] theorem State.linkQueue_sec (l : Nat) (p : HgwPacket) : (s.linkQueue l p).sec = s.sec := rfl
@[simp] theorem State.linkQueue_bkd (l : Nat) (p : HgwPacket) : (s.linkQueue l p).bkd = s.bkd := rfl
@[simp] theorem State.linkQueue_boot (l : Nat) (p : HgwPacket) : (s.linkQueue l p).boot = s.boot := rfl
@[simp] theorem State.linkQueue_hlt (l : Nat) (p : HgwPacket) : (s.linkQueue l p).hlt = s.hlt := rfl
@[simp] theorem State.linkQueue_free (l : Nat) (p : HgwPacket) : (s.linkQueue l p).free = s.free := rfl
@[simp] theorem State.linkQueue_readData (l : Nat) (p : HgwPacket) : (s.linkQueue l p).readData = s.readData := rfl
@[simp] theorem State.linkQueue_pending (l : Nat) (p : HgwPacket) : (s.linkQueue l p).pending = s.pending := rfl

/-! ### State.modPort -/

@[simp] theorem State.modPort_regs (p : Nat) (f : PortState → PortState) : (s.modPort p f).regs = s.regs := rfl
@[simp] theorem State.modPort_shadow (p : Nat) (f : PortState → PortState) : (s.modPort p f).shadow = s.shadow := rfl
@[simp] theorem State.modPort_loHold (p : Nat) (f : PortState → PortState) : (s.modPort p f).loHold = s.loHold := rfl
@[simp] theorem State.modPort_hiLatch (p : Nat) (f : PortState → PortState) : (s.modPort p f).hiLatch = s.hiLatch := rfl
@[simp] theorem State.modPort_committed (p : Nat) (f : PortState → PortState) : (s.modPort p f).committed = s.committed := rfl
@[simp] theorem State.modPort_dram (p : Nat) (f : PortState → PortState) : (s.modPort p f).dram = s.dram := rfl
@[simp] theorem State.modPort_hostMem (p : Nat) (f : PortState → PortState) : (s.modPort p f).hostMem = s.hostMem := rfl
@[simp] theorem State.modPort_pairs (p : Nat) (f : PortState → PortState) : (s.modPort p f).pairs = s.pairs := rfl
@[simp] theorem State.modPort_dec (p : Nat) (f : PortState → PortState) : (s.modPort p f).dec = s.dec := rfl
@[simp] theorem State.modPort_tim (p : Nat) (f : PortState → PortState) : (s.modPort p f).tim = s.tim := rfl
@[simp] theorem State.modPort_aln (p : Nat) (f : PortState → PortState) : (s.modPort p f).aln = s.aln := rfl
@[simp] theorem State.modPort_wav (p : Nat) (f : PortState → PortState) : (s.modPort p f).wav = s.wav := rfl
@[simp] theorem State.modPort_mtr (p : Nat) (f : PortState → PortState) : (s.modPort p f).mtr = s.mtr := rfl
@[simp] theorem State.modPort_osc (p : Nat) (f : PortState → PortState) : (s.modPort p f).osc = s.osc := rfl
@[simp] theorem State.modPort_top (p : Nat) (f : PortState → PortState) : (s.modPort p f).top = s.top := rfl
@[simp] theorem State.modPort_dfs (p : Nat) (f : PortState → PortState) : (s.modPort p f).dfs = s.dfs := rfl
@[simp] theorem State.modPort_cyc (p : Nat) (f : PortState → PortState) : (s.modPort p f).cyc = s.cyc := rfl
@[simp] theorem State.modPort_alm (p : Nat) (f : PortState → PortState) : (s.modPort p f).alm = s.alm := rfl
@[simp] theorem State.modPort_evr (p : Nat) (f : PortState → PortState) : (s.modPort p f).evr = s.evr := rfl
@[simp] theorem State.modPort_cap (p : Nat) (f : PortState → PortState) : (s.modPort p f).cap = s.cap := rfl
@[simp] theorem State.modPort_hif (p : Nat) (f : PortState → PortState) : (s.modPort p f).hif = s.hif := rfl
@[simp] theorem State.modPort_hgw (p : Nat) (f : PortState → PortState) : (s.modPort p f).hgw = s.hgw := rfl
@[simp] theorem State.modPort_twn (p : Nat) (f : PortState → PortState) : (s.modPort p f).twn = s.twn := rfl
@[simp] theorem State.modPort_sec (p : Nat) (f : PortState → PortState) : (s.modPort p f).sec = s.sec := rfl
@[simp] theorem State.modPort_bkd (p : Nat) (f : PortState → PortState) : (s.modPort p f).bkd = s.bkd := rfl
@[simp] theorem State.modPort_boot (p : Nat) (f : PortState → PortState) : (s.modPort p f).boot = s.boot := rfl
@[simp] theorem State.modPort_hlt (p : Nat) (f : PortState → PortState) : (s.modPort p f).hlt = s.hlt := rfl
@[simp] theorem State.modPort_free (p : Nat) (f : PortState → PortState) : (s.modPort p f).free = s.free := rfl
@[simp] theorem State.modPort_readData (p : Nat) (f : PortState → PortState) : (s.modPort p f).readData = s.readData := rfl
@[simp] theorem State.modPort_pending (p : Nat) (f : PortState → PortState) : (s.modPort p f).pending = s.pending := rfl

/-! ### State.modPair -/

@[simp] theorem State.modPair_regs (p : Nat) (f : PairState → PairState) : (s.modPair p f).regs = s.regs := rfl
@[simp] theorem State.modPair_shadow (p : Nat) (f : PairState → PairState) : (s.modPair p f).shadow = s.shadow := rfl
@[simp] theorem State.modPair_loHold (p : Nat) (f : PairState → PairState) : (s.modPair p f).loHold = s.loHold := rfl
@[simp] theorem State.modPair_hiLatch (p : Nat) (f : PairState → PairState) : (s.modPair p f).hiLatch = s.hiLatch := rfl
@[simp] theorem State.modPair_committed (p : Nat) (f : PairState → PairState) : (s.modPair p f).committed = s.committed := rfl
@[simp] theorem State.modPair_dram (p : Nat) (f : PairState → PairState) : (s.modPair p f).dram = s.dram := rfl
@[simp] theorem State.modPair_hostMem (p : Nat) (f : PairState → PairState) : (s.modPair p f).hostMem = s.hostMem := rfl
@[simp] theorem State.modPair_ports (p : Nat) (f : PairState → PairState) : (s.modPair p f).ports = s.ports := rfl
@[simp] theorem State.modPair_dec (p : Nat) (f : PairState → PairState) : (s.modPair p f).dec = s.dec := rfl
@[simp] theorem State.modPair_tim (p : Nat) (f : PairState → PairState) : (s.modPair p f).tim = s.tim := rfl
@[simp] theorem State.modPair_aln (p : Nat) (f : PairState → PairState) : (s.modPair p f).aln = s.aln := rfl
@[simp] theorem State.modPair_wav (p : Nat) (f : PairState → PairState) : (s.modPair p f).wav = s.wav := rfl
@[simp] theorem State.modPair_mtr (p : Nat) (f : PairState → PairState) : (s.modPair p f).mtr = s.mtr := rfl
@[simp] theorem State.modPair_osc (p : Nat) (f : PairState → PairState) : (s.modPair p f).osc = s.osc := rfl
@[simp] theorem State.modPair_top (p : Nat) (f : PairState → PairState) : (s.modPair p f).top = s.top := rfl
@[simp] theorem State.modPair_dfs (p : Nat) (f : PairState → PairState) : (s.modPair p f).dfs = s.dfs := rfl
@[simp] theorem State.modPair_cyc (p : Nat) (f : PairState → PairState) : (s.modPair p f).cyc = s.cyc := rfl
@[simp] theorem State.modPair_alm (p : Nat) (f : PairState → PairState) : (s.modPair p f).alm = s.alm := rfl
@[simp] theorem State.modPair_evr (p : Nat) (f : PairState → PairState) : (s.modPair p f).evr = s.evr := rfl
@[simp] theorem State.modPair_cap (p : Nat) (f : PairState → PairState) : (s.modPair p f).cap = s.cap := rfl
@[simp] theorem State.modPair_hif (p : Nat) (f : PairState → PairState) : (s.modPair p f).hif = s.hif := rfl
@[simp] theorem State.modPair_hgw (p : Nat) (f : PairState → PairState) : (s.modPair p f).hgw = s.hgw := rfl
@[simp] theorem State.modPair_twn (p : Nat) (f : PairState → PairState) : (s.modPair p f).twn = s.twn := rfl
@[simp] theorem State.modPair_sec (p : Nat) (f : PairState → PairState) : (s.modPair p f).sec = s.sec := rfl
@[simp] theorem State.modPair_bkd (p : Nat) (f : PairState → PairState) : (s.modPair p f).bkd = s.bkd := rfl
@[simp] theorem State.modPair_boot (p : Nat) (f : PairState → PairState) : (s.modPair p f).boot = s.boot := rfl
@[simp] theorem State.modPair_hlt (p : Nat) (f : PairState → PairState) : (s.modPair p f).hlt = s.hlt := rfl
@[simp] theorem State.modPair_free (p : Nat) (f : PairState → PairState) : (s.modPair p f).free = s.free := rfl
@[simp] theorem State.modPair_readData (p : Nat) (f : PairState → PairState) : (s.modPair p f).readData = s.readData := rfl
@[simp] theorem State.modPair_pending (p : Nat) (f : PairState → PairState) : (s.modPair p f).pending = s.pending := rfl

/-! ### State.mirror -/

@[simp] theorem State.mirror_regs (b : MirrorBody) : (s.mirror b).regs = s.regs := rfl
@[simp] theorem State.mirror_shadow (b : MirrorBody) : (s.mirror b).shadow = s.shadow := rfl
@[simp] theorem State.mirror_loHold (b : MirrorBody) : (s.mirror b).loHold = s.loHold := rfl
@[simp] theorem State.mirror_hiLatch (b : MirrorBody) : (s.mirror b).hiLatch = s.hiLatch := rfl
@[simp] theorem State.mirror_committed (b : MirrorBody) : (s.mirror b).committed = s.committed := rfl
@[simp] theorem State.mirror_dram (b : MirrorBody) : (s.mirror b).dram = s.dram := rfl
@[simp] theorem State.mirror_hostMem (b : MirrorBody) : (s.mirror b).hostMem = s.hostMem := rfl
@[simp] theorem State.mirror_ports (b : MirrorBody) : (s.mirror b).ports = s.ports := rfl
@[simp] theorem State.mirror_pairs (b : MirrorBody) : (s.mirror b).pairs = s.pairs := rfl
@[simp] theorem State.mirror_dec (b : MirrorBody) : (s.mirror b).dec = s.dec := rfl
@[simp] theorem State.mirror_tim (b : MirrorBody) : (s.mirror b).tim = s.tim := rfl
@[simp] theorem State.mirror_aln (b : MirrorBody) : (s.mirror b).aln = s.aln := rfl
@[simp] theorem State.mirror_wav (b : MirrorBody) : (s.mirror b).wav = s.wav := rfl
@[simp] theorem State.mirror_mtr (b : MirrorBody) : (s.mirror b).mtr = s.mtr := rfl
@[simp] theorem State.mirror_osc (b : MirrorBody) : (s.mirror b).osc = s.osc := rfl
@[simp] theorem State.mirror_top (b : MirrorBody) : (s.mirror b).top = s.top := rfl
@[simp] theorem State.mirror_dfs (b : MirrorBody) : (s.mirror b).dfs = s.dfs := rfl
@[simp] theorem State.mirror_cyc (b : MirrorBody) : (s.mirror b).cyc = s.cyc := rfl
@[simp] theorem State.mirror_alm (b : MirrorBody) : (s.mirror b).alm = s.alm := rfl
@[simp] theorem State.mirror_evr (b : MirrorBody) : (s.mirror b).evr = s.evr := rfl
@[simp] theorem State.mirror_cap (b : MirrorBody) : (s.mirror b).cap = s.cap := rfl
@[simp] theorem State.mirror_hif (b : MirrorBody) : (s.mirror b).hif = s.hif := rfl
@[simp] theorem State.mirror_hgw (b : MirrorBody) : (s.mirror b).hgw = s.hgw := rfl
@[simp] theorem State.mirror_sec (b : MirrorBody) : (s.mirror b).sec = s.sec := rfl
@[simp] theorem State.mirror_bkd (b : MirrorBody) : (s.mirror b).bkd = s.bkd := rfl
@[simp] theorem State.mirror_boot (b : MirrorBody) : (s.mirror b).boot = s.boot := rfl
@[simp] theorem State.mirror_hlt (b : MirrorBody) : (s.mirror b).hlt = s.hlt := rfl
@[simp] theorem State.mirror_free (b : MirrorBody) : (s.mirror b).free = s.free := rfl
@[simp] theorem State.mirror_readData (b : MirrorBody) : (s.mirror b).readData = s.readData := rfl
@[simp] theorem State.mirror_pending (b : MirrorBody) : (s.mirror b).pending = s.pending := rfl

/-! ### State.modBkd -/

@[simp] theorem State.modBkd_regs (f : BkdState → BkdState) : (s.modBkd f).regs = s.regs := rfl
@[simp] theorem State.modBkd_shadow (f : BkdState → BkdState) : (s.modBkd f).shadow = s.shadow := rfl
@[simp] theorem State.modBkd_loHold (f : BkdState → BkdState) : (s.modBkd f).loHold = s.loHold := rfl
@[simp] theorem State.modBkd_hiLatch (f : BkdState → BkdState) : (s.modBkd f).hiLatch = s.hiLatch := rfl
@[simp] theorem State.modBkd_committed (f : BkdState → BkdState) : (s.modBkd f).committed = s.committed := rfl
@[simp] theorem State.modBkd_dram (f : BkdState → BkdState) : (s.modBkd f).dram = s.dram := rfl
@[simp] theorem State.modBkd_hostMem (f : BkdState → BkdState) : (s.modBkd f).hostMem = s.hostMem := rfl
@[simp] theorem State.modBkd_ports (f : BkdState → BkdState) : (s.modBkd f).ports = s.ports := rfl
@[simp] theorem State.modBkd_pairs (f : BkdState → BkdState) : (s.modBkd f).pairs = s.pairs := rfl
@[simp] theorem State.modBkd_dec (f : BkdState → BkdState) : (s.modBkd f).dec = s.dec := rfl
@[simp] theorem State.modBkd_tim (f : BkdState → BkdState) : (s.modBkd f).tim = s.tim := rfl
@[simp] theorem State.modBkd_aln (f : BkdState → BkdState) : (s.modBkd f).aln = s.aln := rfl
@[simp] theorem State.modBkd_wav (f : BkdState → BkdState) : (s.modBkd f).wav = s.wav := rfl
@[simp] theorem State.modBkd_mtr (f : BkdState → BkdState) : (s.modBkd f).mtr = s.mtr := rfl
@[simp] theorem State.modBkd_osc (f : BkdState → BkdState) : (s.modBkd f).osc = s.osc := rfl
@[simp] theorem State.modBkd_top (f : BkdState → BkdState) : (s.modBkd f).top = s.top := rfl
@[simp] theorem State.modBkd_dfs (f : BkdState → BkdState) : (s.modBkd f).dfs = s.dfs := rfl
@[simp] theorem State.modBkd_cyc (f : BkdState → BkdState) : (s.modBkd f).cyc = s.cyc := rfl
@[simp] theorem State.modBkd_alm (f : BkdState → BkdState) : (s.modBkd f).alm = s.alm := rfl
@[simp] theorem State.modBkd_evr (f : BkdState → BkdState) : (s.modBkd f).evr = s.evr := rfl
@[simp] theorem State.modBkd_cap (f : BkdState → BkdState) : (s.modBkd f).cap = s.cap := rfl
@[simp] theorem State.modBkd_hif (f : BkdState → BkdState) : (s.modBkd f).hif = s.hif := rfl
@[simp] theorem State.modBkd_hgw (f : BkdState → BkdState) : (s.modBkd f).hgw = s.hgw := rfl
@[simp] theorem State.modBkd_twn (f : BkdState → BkdState) : (s.modBkd f).twn = s.twn := rfl
@[simp] theorem State.modBkd_sec (f : BkdState → BkdState) : (s.modBkd f).sec = s.sec := rfl
@[simp] theorem State.modBkd_boot (f : BkdState → BkdState) : (s.modBkd f).boot = s.boot := rfl
@[simp] theorem State.modBkd_hlt (f : BkdState → BkdState) : (s.modBkd f).hlt = s.hlt := rfl
@[simp] theorem State.modBkd_free (f : BkdState → BkdState) : (s.modBkd f).free = s.free := rfl
@[simp] theorem State.modBkd_readData (f : BkdState → BkdState) : (s.modBkd f).readData = s.readData := rfl
@[simp] theorem State.modBkd_pending (f : BkdState → BkdState) : (s.modBkd f).pending = s.pending := rfl

end Sys2Proof.Machine
end

