-- ==== Sys2Proof/Laws/Regs.lean ====
section
/-!
SUPPORT. Laws of the register file: what a write of a register, of a field and of a bit leaves and sets.
-/
namespace Sys2Proof.Machine

variable (s : State)

@[simp] theorem State.reg_setReg_same (a : Nat) (v : Word) : (s.setReg a v).reg a = v := smGet_smPut_same _ _ _ _

theorem State.reg_setReg_ne (a b : Nat) (v : Word) (h : b ≠ a) : (s.setReg a v).reg b = s.reg b := smGet_smPut_ne _ _ _ _ _ h

theorem State.reg_setReg (a b : Nat) (v : Word) : (s.setReg a v).reg b = if b = a then v else s.reg b := by
  split
  · subst b; simp
  · exact s.reg_setReg_ne a b v (by assumption)

@[simp] theorem State.reg_reset (a : Nat) : State.reset.reg a = regReset a := rfl

theorem State.reg_setField (a b hi lo v : Nat) :
    (s.setField a hi lo v).reg b = if b = a then withBits (s.reg a) hi lo v else s.reg b := s.reg_setReg a b _

theorem State.reg_setField_ne (a b hi lo v : Nat) (h : b ≠ a) : (s.setField a hi lo v).reg b = s.reg b := s.reg_setReg_ne a b _ h

theorem State.reg_setFlag_ne (a b n : Nat) (x : Bool) (h : b ≠ a) : (s.setFlag a n x).reg b = s.reg b := s.reg_setReg_ne a b _ h

theorem State.reg_bumpBy_ne (a b n : Nat) (h : b ≠ a) : (s.bumpBy a n).reg b = s.reg b := s.reg_setReg_ne a b _ h

theorem State.reg_bump_ne (a b : Nat) (h : b ≠ a) : (s.bump a).reg b = s.reg b := s.reg_setReg_ne a b _ h

@[simp] theorem State.reg_bump_same (a : Nat) : (s.bump a).reg a = satWord ((s.reg a).toNat + 1) := s.reg_setReg_same a _

@[simp] theorem State.reg_bumpBy_same (a n : Nat) : (s.bumpBy a n).reg a = satWord ((s.reg a).toNat + n) := s.reg_setReg_same a _

theorem State.reg_maxReg_ne (a b v : Nat) (h : b ≠ a) : (s.maxReg a v).reg b = s.reg b := s.reg_setReg_ne a b _ h

theorem State.reg_setPair_ne (lo hi b v : Nat) (h1 : b ≠ lo) (h2 : b ≠ hi) : (s.setPair lo hi v).reg b = s.reg b := by
  unfold State.setPair
  rw [State.reg_setReg_ne _ _ _ _ h2, State.reg_setReg_ne _ _ _ _ h1]

/-! ### Bits of a word -/

theorem withBits_getLsbD (w : Word) (hi lo v n : Nat) (hn : n < 32) :
    (withBits w hi lo v).getLsbD n
      = if lo ≤ n ∧ n < lo + (hi + 1 - lo) then v.testBit (n - lo) else w.getLsbD n := by
  simp only [withBits, BitVec.getLsbD_or, BitVec.getLsbD_and, BitVec.getLsbD_not, BitVec.getLsbD_ofNat, Nat.testBit_shiftLeft,
    Nat.testBit_two_pow_sub_one, Nat.testBit_mod_two_pow]
  by_cases h : lo ≤ n ∧ n < lo + (hi + 1 - lo)
  · have h1 : n - lo < hi + 1 - lo := by omega
    simp [h, hn, h1]
  · rw [if_neg h]
    by_cases h1 : lo ≤ n
    · have h2 : ¬(n - lo < hi + 1 - lo) := by omega
      simp [hn, h1, h2]
    · simp [hn, h1]

theorem State.flag_setField (a hi lo v n : Nat) (hn : n < 32) :
    (s.setField a hi lo v).flag a n = if lo ≤ n ∧ n < lo + (hi + 1 - lo) then v.testBit (n - lo) else s.flag a n := by
  simp only [State.flag, State.setField, State.reg_setReg_same, withBits_getLsbD _ _ _ _ _ hn]

@[simp] theorem State.flag_setFlag_same (a n : Nat) (b : Bool) (hn : n < 32) : (s.setFlag a n b).flag a n = b := by
  have h : n ≤ n ∧ n < n + (n + 1 - n) := by omega
  rw [State.setFlag, State.flag_setField _ _ _ _ _ _ hn, if_pos h]
  cases b <;> simp [bit]

theorem State.flag_setFlag_ne (a m n : Nat) (b : Bool) (hm : m < 32) (h : m ≠ n) : (s.setFlag a n b).flag a m = s.flag a m := by
  have h' : ¬(n ≤ m ∧ m < n + (n + 1 - n)) := by omega
  rw [State.setFlag, State.flag_setField _ _ _ _ _ _ hm, if_neg h']

theorem State.flag_setReg_ne (a b n : Nat) (v : Word) (h : b ≠ a) : (s.setReg a v).flag b n = s.flag b n := by
  simp only [State.flag, State.reg_setReg_ne _ _ _ _ h]

theorem State.field_setReg_ne (a b hi lo : Nat) (v : Word) (h : b ≠ a) : (s.setReg a v).field b hi lo = s.field b hi lo := by
  simp only [State.field, State.reg_setReg_ne _ _ _ _ h]

theorem bitsOf_testBit (w : Word) (hi lo n : Nat) : (bitsOf w hi lo).testBit n = (decide (n < hi + 1 - lo) && w.getLsbD (lo + n)) := by
  simp [bitsOf, Nat.testBit_mod_two_pow, BitVec.getLsbD]

@[simp] theorem bitsOf_withBits_same (w : Word) (hi lo v : Nat) (h : hi < 32) :
    bitsOf (withBits w hi lo v) hi lo = v % 2 ^ (hi + 1 - lo) := by
  apply Nat.eq_of_testBit_eq
  intro n
  rw [bitsOf_testBit, Nat.testBit_mod_two_pow]
  by_cases hn : n < hi + 1 - lo
  · have h1 : lo ≤ lo + n ∧ lo + n < lo + (hi + 1 - lo) := by omega
    rw [withBits_getLsbD _ _ _ _ _ (by omega), if_pos h1]
    simp [hn]
  · simp [hn]

theorem bitsOf_withBits_disjoint (w : Word) (hi lo v hi' lo' : Nat) (h : hi' < 32) (hd : hi' < lo ∨ hi < lo') :
    bitsOf (withBits w hi lo v) hi' lo' = bitsOf w hi' lo' := by
  apply Nat.eq_of_testBit_eq
  intro n
  rw [bitsOf_testBit, bitsOf_testBit]
  by_cases hn : n < hi' + 1 - lo'
  · have h1 : ¬(lo ≤ lo' + n ∧ lo' + n < lo + (hi + 1 - lo)) := by omega
    rw [withBits_getLsbD _ _ _ _ _ (by omega), if_neg h1]
  · simp [hn]

@[simp] theorem State.field_setField_same (a hi lo v : Nat) (h : hi < 32) :
    (s.setField a hi lo v).field a hi lo = v % 2 ^ (hi + 1 - lo) := by
  simp only [State.field, State.setField, State.reg_setReg_same, bitsOf_withBits_same _ _ _ _ h]

theorem State.field_setField_disjoint (a hi lo v hi' lo' : Nat) (h : hi' < 32) (hd : hi' < lo ∨ hi < lo') :
    (s.setField a hi lo v).field a hi' lo' = s.field a hi' lo' := by
  simp only [State.field, State.setField, State.reg_setReg_same, bitsOf_withBits_disjoint _ _ _ _ _ _ h hd]

end Sys2Proof.Machine
end

