-- ==== Sys2Proof/Laws/Report.lean ====
section
/-!
SUPPORT. What reporting can do: submitting and logging an event, and showing the health of the device.
-/
namespace Sys2Proof.Machine

/-- A fold of updates that each keep an observation keeps it. -/
theorem foldl_keeps {σ β γ : Type} (f : σ → β → σ) (p : σ → γ) (h : ∀ s b, p (f s b) = p s) (l : List β) (s : σ) :
    p (l.foldl f s) = p s := by
  induction l generalizing s with
  | nil => rfl
  | cons b r ih => rw [List.foldl_cons, ih, h]

/-- A fold of updates that each keep an observation keeps it, for updates by the list's own elements. -/
theorem foldl_keeps_mem {σ β γ : Type} (f : σ → β → σ) (p : σ → γ) (l : List β) (h : ∀ s b, b ∈ l → p (f s b) = p s) (s : σ) :
    p (l.foldl f s) = p s := by
  induction l generalizing s with
  | nil => rfl
  | cons b r ih =>
    rw [List.foldl_cons, ih (fun s x hx => h s x (List.mem_cons_of_mem _ hx)), h _ _ List.mem_cons_self]

/-! ### Health -/

theorem State.reg_showHealth_ne (s : State) (a : Nat) (h : a ∉ healthRegs) : s.showHealth.reg a = s.reg a := by
  simp only [healthRegs, List.mem_cons, List.not_mem_nil, or_false, not_or] at h
  unfold State.showHealth
  rw [State.reg_setField_ne _ _ _ _ _ _ h.2.2, State.reg_setReg_ne _ _ _ _ h.2.1, State.reg_setReg_ne _ _ _ _ h.1]

theorem State.flag_showHealth_ne (s : State) (a n : Nat) (h : a ∉ healthRegs) : s.showHealth.flag a n = s.flag a n := by
  simp only [State.flag, State.reg_showHealth_ne s a h]

theorem State.field_showHealth_ne (s : State) (a hi lo : Nat) (h : a ∉ healthRegs) : s.showHealth.field a hi lo = s.field a hi lo := by
  simp only [State.field, State.reg_showHealth_ne s a h]

theorem answer_eq (s : State) : answer s = .next s.showHealth := rfl

/-! ### Events -/

/-- All that reporting may change in a state: registers, the recorder, the recorders of CAP and Hedgerow's queues. -/
def OnlyReports (s t : State) : Prop := ∃ r v c g, t = { s with regs := r, evr := v, cap := c, hgw := g }

theorem OnlyReports.refl (s : State) : OnlyReports s s := ⟨_, _, _, _, rfl⟩

theorem OnlyReports.trans {s t u : State} (h : OnlyReports s t) (k : OnlyReports t u) : OnlyReports s u := by
  obtain ⟨_, _, _, _, rfl⟩ := h
  obtain ⟨r, v, c, g, rfl⟩ := k
  exact ⟨r, v, c, g, rfl⟩

theorem OnlyReports.foldl {β : Type} (f : State → β → State) (h : ∀ s b, OnlyReports s (f s b)) (l : List β) (s : State) :
    OnlyReports s (l.foldl f s) := by
  induction l generalizing s with
  | nil => exact .refl s
  | cons b r ih => exact (h s b).trans (ih _)

theorem State.loseEvent_only (s : State) (e : Event) : OnlyReports s (s.loseEvent e) := ⟨_, _, _, _, rfl⟩

theorem State.stageEvent_only (s : State) (e : Event) : OnlyReports s (s.stageEvent e) := by
  unfold State.stageEvent
  dsimp only
  split
  · exact ⟨_, _, _, _, rfl⟩
  · split
    · split
      · exact ⟨_, _, _, _, rfl⟩
      · exact s.loseEvent_only e
    · exact s.loseEvent_only e

theorem State.captureEvent_only (s : State) (e : Event) : OnlyReports s (s.captureEvent e) := by
  unfold State.captureEvent
  refine OnlyReports.foldl _ (fun t x => ?_) _ s
  dsimp only
  split
  · split
    · exact ⟨_, _, _, _, rfl⟩
    · exact ⟨_, _, _, _, rfl⟩
  · exact .refl t

theorem State.submitHere_only (s : State) (e : Event) : OnlyReports s (s.submitHere e) :=
  (s.captureEvent_only e).trans (State.stageEvent_only _ e)

theorem State.hgwSend_only (s : State) (dst : Nat) (c : HgwClass) (b : HgwBody) : OnlyReports s (s.hgwSend dst c b) := by
  unfold State.hgwSend State.routePacket
  repeat' split
  all_goals exact ⟨_, _, _, _, rfl⟩

theorem State.forwardEvent_only (s : State) (e : Event) : OnlyReports s (s.forwardEvent e) := by
  unfold State.forwardEvent
  dsimp only
  split
  · exact .refl s
  · split
    · exact (s.hgwSend_only _ _ _).trans ⟨_, _, _, _, rfl⟩
    · split
      · refine OnlyReports.trans ?_ (State.submitHere_only _ _)
        exact ⟨_, _, _, _, rfl⟩
      · exact ⟨_, _, _, _, rfl⟩

theorem State.submit_only (s : State) (e : Event) : OnlyReports s (s.submit e) :=
  (s.submitHere_only e).trans (State.forwardEvent_only _ e)

@[simp] theorem State.submit_shadow (s : State) (e : Event) : (s.submit e).shadow = s.shadow := by
  obtain ⟨_, _, _, _, h⟩ := s.submit_only e; rw [h]
@[simp] theorem State.submit_loHold (s : State) (e : Event) : (s.submit e).loHold = s.loHold := by
  obtain ⟨_, _, _, _, h⟩ := s.submit_only e; rw [h]
@[simp] theorem State.submit_hiLatch (s : State) (e : Event) : (s.submit e).hiLatch = s.hiLatch := by
  obtain ⟨_, _, _, _, h⟩ := s.submit_only e; rw [h]
@[simp] theorem State.submit_committed (s : State) (e : Event) : (s.submit e).committed = s.committed := by
  obtain ⟨_, _, _, _, h⟩ := s.submit_only e; rw [h]
@[simp] theorem State.submit_dram (s : State) (e : Event) : (s.submit e).dram = s.dram := by
  obtain ⟨_, _, _, _, h⟩ := s.submit_only e; rw [h]
@[simp] theorem State.submit_hostMem (s : State) (e : Event) : (s.submit e).hostMem = s.hostMem := by
  obtain ⟨_, _, _, _, h⟩ := s.submit_only e; rw [h]
@[simp] theorem State.submit_ports (s : State) (e : Event) : (s.submit e).ports = s.ports := by
  obtain ⟨_, _, _, _, h⟩ := s.submit_only e; rw [h]
@[simp] theorem State.submit_pairs (s : State) (e : Event) : (s.submit e).pairs = s.pairs := by
  obtain ⟨_, _, _, _, h⟩ := s.submit_only e; rw [h]
@[simp] theorem State.submit_dec (s : State) (e : Event) : (s.submit e).dec = s.dec := by
  obtain ⟨_, _, _, _, h⟩ := s.submit_only e; rw [h]
@[simp] theorem State.submit_tim (s : State) (e : Event) : (s.submit e).tim = s.tim := by
  obtain ⟨_, _, _, _, h⟩ := s.submit_only e; rw [h]
@[simp] theorem State.submit_aln (s : State) (e : Event) : (s.submit e).aln = s.aln := by
  obtain ⟨_, _, _, _, h⟩ := s.submit_only e; rw [h]
@[simp] theorem State.submit_wav (s : State) (e : Event) : (s.submit e).wav = s.wav := by
  obtain ⟨_, _, _, _, h⟩ := s.submit_only e; rw [h]
@[simp] theorem State.submit_mtr (s : State) (e : Event) : (s.submit e).mtr = s.mtr := by
  obtain ⟨_, _, _, _, h⟩ := s.submit_only e; rw [h]
@[simp] theorem State.submit_osc (s : State) (e : Event) : (s.submit e).osc = s.osc := by
  obtain ⟨_, _, _, _, h⟩ := s.submit_only e; rw [h]
@[simp] theorem State.submit_top (s : State) (e : Event) : (s.submit e).top = s.top := by
  obtain ⟨_, _, _, _, h⟩ := s.submit_only e; rw [h]
@[simp] theorem State.submit_dfs (s : State) (e : Event) : (s.submit e).dfs = s.dfs := by
  obtain ⟨_, _, _, _, h⟩ := s.submit_only e; rw [h]
@[simp] theorem State.submit_cyc (s : State) (e : Event) : (s.submit e).cyc = s.cyc := by
  obtain ⟨_, _, _, _, h⟩ := s.submit_only e; rw [h]
@[simp] theorem State.submit_alm (s : State) (e : Event) : (s.submit e).alm = s.alm := by
  obtain ⟨_, _, _, _, h⟩ := s.submit_only e; rw [h]
@[simp] theorem State.submit_hif (s : State) (e : Event) : (s.submit e).hif = s.hif := by
  obtain ⟨_, _, _, _, h⟩ := s.submit_only e; rw [h]
@[simp] theorem State.submit_twn (s : State) (e : Event) : (s.submit e).twn = s.twn := by
  obtain ⟨_, _, _, _, h⟩ := s.submit_only e; rw [h]
@[simp] theorem State.submit_sec (s : State) (e : Event) : (s.submit e).sec = s.sec := by
  obtain ⟨_, _, _, _, h⟩ := s.submit_only e; rw [h]
@[simp] theorem State.submit_bkd (s : State) (e : Event) : (s.submit e).bkd = s.bkd := by
  obtain ⟨_, _, _, _, h⟩ := s.submit_only e; rw [h]
@[simp] theorem State.submit_boot (s : State) (e : Event) : (s.submit e).boot = s.boot := by
  obtain ⟨_, _, _, _, h⟩ := s.submit_only e; rw [h]
@[simp] theorem State.submit_hlt (s : State) (e : Event) : (s.submit e).hlt = s.hlt := by
  obtain ⟨_, _, _, _, h⟩ := s.submit_only e; rw [h]
@[simp] theorem State.submit_free (s : State) (e : Event) : (s.submit e).free = s.free := by
  obtain ⟨_, _, _, _, h⟩ := s.submit_only e; rw [h]
@[simp] theorem State.submit_readData (s : State) (e : Event) : (s.submit e).readData = s.readData := by
  obtain ⟨_, _, _, _, h⟩ := s.submit_only e; rw [h]
@[simp] theorem State.submit_pending (s : State) (e : Event) : (s.submit e).pending = s.pending := by
  obtain ⟨_, _, _, _, h⟩ := s.submit_only e; rw [h]

@[simp] theorem State.log_shadow (s : State) (code sev : Nat) (p : List Byte) : (s.log code sev p).shadow = s.shadow := State.submit_shadow s _
@[simp] theorem State.log_loHold (s : State) (code sev : Nat) (p : List Byte) : (s.log code sev p).loHold = s.loHold := State.submit_loHold s _
@[simp] theorem State.log_hiLatch (s : State) (code sev : Nat) (p : List Byte) : (s.log code sev p).hiLatch = s.hiLatch := State.submit_hiLatch s _
@[simp] theorem State.log_committed (s : State) (code sev : Nat) (p : List Byte) : (s.log code sev p).committed = s.committed := State.submit_committed s _
@[simp] theorem State.log_dram (s : State) (code sev : Nat) (p : List Byte) : (s.log code sev p).dram = s.dram := State.submit_dram s _
@[simp] theorem State.log_hostMem (s : State) (code sev : Nat) (p : List Byte) : (s.log code sev p).hostMem = s.hostMem := State.submit_hostMem s _
@[simp] theorem State.log_ports (s : State) (code sev : Nat) (p : List Byte) : (s.log code sev p).ports = s.ports := State.submit_ports s _
@[simp] theorem State.log_pairs (s : State) (code sev : Nat) (p : List Byte) : (s.log code sev p).pairs = s.pairs := State.submit_pairs s _
@[simp] theorem State.log_dec (s : State) (code sev : Nat) (p : List Byte) : (s.log code sev p).dec = s.dec := State.submit_dec s _
@[simp] theorem State.log_tim (s : State) (code sev : Nat) (p : List Byte) : (s.log code sev p).tim = s.tim := State.submit_tim s _
@[simp] theorem State.log_aln (s : State) (code sev : Nat) (p : List Byte) : (s.log code sev p).aln = s.aln := State.submit_aln s _
@[simp] theorem State.log_wav (s : State) (code sev : Nat) (p : List Byte) : (s.log code sev p).wav = s.wav := State.submit_wav s _
@[simp] theorem State.log_mtr (s : State) (code sev : Nat) (p : List Byte) : (s.log code sev p).mtr = s.mtr := State.submit_mtr s _
@[simp] theorem State.log_osc (s : State) (code sev : Nat) (p : List Byte) : (s.log code sev p).osc = s.osc := State.submit_osc s _
@[simp] theorem State.log_top (s : State) (code sev : Nat) (p : List Byte) : (s.log code sev p).top = s.top := State.submit_top s _
@[simp] theorem State.log_dfs (s : State) (code sev : Nat) (p : List Byte) : (s.log code sev p).dfs = s.dfs := State.submit_dfs s _
@[simp] theorem State.log_cyc (s : State) (code sev : Nat) (p : List Byte) : (s.log code sev p).cyc = s.cyc := State.submit_cyc s _
@[simp] theorem State.log_alm (s : State) (code sev : Nat) (p : List Byte) : (s.log code sev p).alm = s.alm := State.submit_alm s _
@[simp] theorem State.log_hif (s : State) (code sev : Nat) (p : List Byte) : (s.log code sev p).hif = s.hif := State.submit_hif s _
@[simp] theorem State.log_twn (s : State) (code sev : Nat) (p : List Byte) : (s.log code sev p).twn = s.twn := State.submit_twn s _
@[simp] theorem State.log_sec (s : State) (code sev : Nat) (p : List Byte) : (s.log code sev p).sec = s.sec := State.submit_sec s _
@[simp] theorem State.log_bkd (s : State) (code sev : Nat) (p : List Byte) : (s.log code sev p).bkd = s.bkd := State.submit_bkd s _
@[simp] theorem State.log_boot (s : State) (code sev : Nat) (p : List Byte) : (s.log code sev p).boot = s.boot := State.submit_boot s _
@[simp] theorem State.log_hlt (s : State) (code sev : Nat) (p : List Byte) : (s.log code sev p).hlt = s.hlt := State.submit_hlt s _
@[simp] theorem State.log_free (s : State) (code sev : Nat) (p : List Byte) : (s.log code sev p).free = s.free := State.submit_free s _
@[simp] theorem State.log_readData (s : State) (code sev : Nat) (p : List Byte) : (s.log code sev p).readData = s.readData := State.submit_readData s _
@[simp] theorem State.log_pending (s : State) (code sev : Nat) (p : List Byte) : (s.log code sev p).pending = s.pending := State.submit_pending s _


/-! ### Registers across the logging of an event -/

theorem lowestSev_le (q : List Event) : lowestSev q ≤ 4 := by
  induction q with
  | nil => exact Nat.le_refl _
  | cons e r ih => unfold lowestSev; split <;> omega

theorem not_logReg {a : Nat} (h : a ∉ logRegs) : a ≠ Reg.EVR_STATUS ∧ (∀ k, k ≤ 4 → a ≠ Reg.EVR_CNT_QDROP k) ∧ a ≠ Reg.EVR_CNT_DISPLACED
    ∧ a ≠ Reg.CAP_CNT_EV_LOST ∧ a ≠ Reg.HGW_CNT_LOST ∧ a ≠ Reg.HGW_CNT_EVT_FWD_LOST := by
  simp only [logRegs, List.mem_cons, List.not_mem_nil, or_false, not_or] at h
  refine ⟨h.1, ?_, by omega, by omega, by omega, by omega⟩
  intro k hk
  have : k = 0 ∨ k = 1 ∨ k = 2 ∨ k = 3 ∨ k = 4 := by omega
  rcases this with rfl | rfl | rfl | rfl | rfl <;> omega

theorem State.reg_loseEvent (s : State) (e : Event) (a : Nat) (hs : e.sev ≤ 4) (h : a ∉ logRegs) : (s.loseEvent e).reg a = s.reg a :=
  State.reg_bump_ne s _ a ((not_logReg h).2.1 e.sev hs)

theorem State.reg_stageEvent (s : State) (e : Event) (a : Nat) (hs : e.sev ≤ 4) (h : a ∉ logRegs) : (s.stageEvent e).reg a = s.reg a := by
  unfold State.stageEvent
  dsimp only
  split
  · exact State.reg_setField_ne _ _ _ _ _ _ (not_logReg h).1
  · split
    · split
      · rename_i v hv
        have hp := List.find?_some hv
        have hv4 : v.sev ≤ 4 := by
          have := lowestSev_le s.evr.staging
          simp at hp
          omega
        have e1 : ((s.loseEvent v).bump Reg.EVR_CNT_DISPLACED).reg a = s.reg a := by
          rw [State.reg_bump_ne _ _ _ (not_logReg h).2.2.1, State.reg_loseEvent s v a hv4 h]
        exact e1
      · exact State.reg_loseEvent s e a hs h
    · exact State.reg_loseEvent s e a hs h

theorem State.reg_captureEvent (s : State) (e : Event) (a : Nat) (h : a ∉ logRegs) : (s.captureEvent e).reg a = s.reg a := by
  unfold State.captureEvent
  refine foldl_keeps _ (fun (t : State) => t.reg a) (fun t x => ?_) _ s
  dsimp only
  split
  · split
    · exact State.reg_bump_ne _ _ _ (not_logReg h).2.2.2.1
    · rfl
  · rfl

theorem State.reg_submitHere (s : State) (e : Event) (a : Nat) (hs : e.sev ≤ 4) (h : a ∉ logRegs) : (s.submitHere e).reg a = s.reg a := by
  rw [State.submitHere, State.reg_stageEvent _ _ _ hs h, State.reg_captureEvent _ _ _ h]

theorem State.reg_hgwSend (s : State) (dst : Nat) (c : HgwClass) (b : HgwBody) (a : Nat) (h : a ≠ Reg.HGW_CNT_LOST) :
    (s.hgwSend dst c b).reg a = s.reg a := by
  unfold State.hgwSend State.routePacket
  repeat' split
  all_goals first
    | rfl
    | exact State.reg_bump_ne _ _ _ h

theorem State.reg_forwardEvent (s : State) (e : Event) (a : Nat) (h : a ∉ logRegs) : (s.forwardEvent e).reg a = s.reg a := by
  have hl := not_logReg h
  unfold State.forwardEvent
  dsimp only
  split
  · rfl
  · split
    · exact State.reg_hgwSend _ _ _ _ _ hl.2.2.2.2.1
    · split
      · rw [State.reg_submitHere _ _ _ (show (1 : Nat) ≤ 4 by decide) h]
        exact State.reg_bump_ne _ _ _ hl.2.2.2.2.2
      · exact State.reg_bump_ne _ _ _ hl.2.2.2.2.2

theorem State.reg_submit (s : State) (e : Event) (a : Nat) (hs : e.sev ≤ 4) (h : a ∉ logRegs) : (s.submit e).reg a = s.reg a := by
  rw [State.submit, State.reg_forwardEvent _ _ _ h, State.reg_submitHere _ _ _ hs h]

theorem State.reg_log (s : State) (code sev : Nat) (p : List Byte) (a : Nat) (hs : sev ≤ 4) (h : a ∉ logRegs) :
    (s.log code sev p).reg a = s.reg a := State.reg_submit s _ a hs h

theorem State.flag_log (s : State) (code sev : Nat) (p : List Byte) (a n : Nat) (hs : sev ≤ 4) (h : a ∉ logRegs) :
    (s.log code sev p).flag a n = s.flag a n := by
  simp only [State.flag, State.reg_log s code sev p a hs h]

theorem State.field_log (s : State) (code sev : Nat) (p : List Byte) (a hi lo : Nat) (hs : sev ≤ 4) (h : a ∉ logRegs) :
    (s.log code sev p).field a hi lo = s.field a hi lo := by
  simp only [State.field, State.reg_log s code sev p a hs h]

end Sys2Proof.Machine
end

