-- ==== Sys2Proof/WellFormed.lean ====
section
/-!
DEFINITION. Which commands are well formed: every index names something the hardware has.
-/
namespace Sys2Proof

/-- An index of BAR0 offsets (R39). -/
def bar0Ok (i : Nat) : Bool := decide (i < 67108864)

/-- An index of station and management ports 0 to 5 (R45). -/
def portOk (i : Nat) : Bool := decide (i < 6)

/-- An index of PRP pairs P0 and P1 (R48). -/
def pairOk (i : Nat) : Bool := decide (i < 2)

/-- An index of causes 1 to 3 of event 0x0201. -/
def linkCauseOk (i : Nat) : Bool := decide (i < 4)

/-- An index of receive rings (R54). -/
def ringOk (i : Nat) : Bool := decide (i < 32)

/-- An index of transmit rings (R54). -/
def txRingOk (i : Nat) : Bool := decide (i < 8)

/-- An index of streams (R66). -/
def streamOk (i : Nat) : Bool := decide (i < 16384)

/-- An index of rate groups (R113). -/
def groupOk (i : Nat) : Bool := decide (i < 4)

/-- An index of output streams (R86). -/
def outStreamOk (i : Nat) : Bool := decide (i < 64)

/-- An index of R-SV publications (R90). -/
def rsvOk (i : Nat) : Bool := decide (i < 32)

/-- An index of sections (R25). -/
def sectionOk (i : Nat) : Bool := decide (i < 64)

/-- An index of local inputs (R148). -/
def afeOk (i : Nat) : Bool := decide (i < 16)

/-- An index of waveform channels (R146). -/
def wavChanOk (i : Nat) : Bool := decide (i < 8208)

/-- An index of meter points (R170). -/
def meterOk (i : Nat) : Bool := decide (i < 64)

/-- An index of pulse outputs (R182). -/
def pulseOk (i : Nat) : Bool := decide (i < 8)

/-- An index of ambient-analysis groups (R191). -/
def oscGroupOk (i : Nat) : Bool := decide (i < 32)

/-- An index of network branches (R216). -/
def branchOk (i : Nat) : Bool := decide (i < 40960)

/-- An index of graphs (R241). -/
def graphOk (i : Nat) : Bool := decide (i < 4096)

/-- An index of engines (R239). -/
def engineOk (i : Nat) : Bool := decide (i < 64)

/-- An index of tasks (R261). -/
def taskOk (i : Nat) : Bool := decide (i < 4)

/-- An index of publications (R272, R293). -/
def pubOk (i : Nat) : Bool := decide (i < 64)

/-- An index of alarm pins (R292). -/
def pinOk (i : Nat) : Bool := decide (i < 8)

/-- An index of recorders (R308). -/
def recorderOk (i : Nat) : Bool := decide (i < 16)

/-- An index of rewind marks (R322). -/
def markOk (i : Nat) : Bool := decide (i < 4)

/-- An index of queues (R333). -/
def queueOk (i : Nat) : Bool := decide (i < 128)

/-- An index of components (R426). -/
def componentOk (i : Nat) : Bool := decide (i < 5)

/-- An index of Hedgerow links (R353). -/
def linkOk (i : Nat) : Bool := decide (i < 6)

/-- An index of device IDs (R40). -/
def deviceOk (i : Nat) : Bool := decide (i < 512)

/-- An index of self-test FAULT bits (Table 16-3). -/
def selfTestBitOk (i : Nat) : Bool := decide (i < 4)

/-- An index of junction sensors (R453). -/
def sensorOk (i : Nat) : Bool := decide (i < 24)

/-- An index of DRAM channels (R463). -/
def dramChanOk (i : Nat) : Bool := decide (i < 2)

/-- Every index operand of the command lies within the hardware. -/
def Instr.wf : Instr → Bool
  | .registerWrite offset _ => bar0Ok offset
  | .clkRefLost _ => true
  | .clkSerdesLost _ => true
  | .clkPcieRefLost => true
  | .rxFrame port _ => portOk port
  | .prpEntryExpire pair _ => pairOk pair
  | .prpLanSilent pair _ => pairOk pair
  | .prpSupervisionTx pair => pairOk pair
  | .linkUp port => portOk port
  | .linkDown port cause => portOk port && linkCauseOk cause
  | .maxlenWrite port _ => portOk port
  | .sptCommit _ => true
  | .sptCommitPoint port _ => portOk port
  | .supPoolDrain port => portOk port
  | .rxrEnable port ring _ => portOk port && ringOk ring
  | .rxrDisable port ring _ => portOk port && ringOk ring
  | .hostTxDescriptor port ring _ => portOk port && txRingOk ring
  | .txFrame port => portOk port
  | .txtsPop port => portOk port
  | .txtsStatClear port => portOk port
  | .eeeTwUpdate port _ => portOk port
  | .lpiEnter port => portOk port
  | .lpiWake port => portOk port
  | .lpiFrameWake port => portOk port
  | .c37DataFrame _ => true
  | .reparseAttempt stream => streamOk stream
  | .cfgFrameRx stream _ => streamOk stream
  | .reparseRetry stream => streamOk stream
  | .stReparse => true
  | .stDisable => true
  | .stEnable => true
  | .decCommit => true
  | .svFrame _ => true
  | .sessionPdu _ => true
  | .gooseFrame _ => true
  | .rowBoundary rg => groupOk rg
  | .outputStreamFrame o _ => outStreamOk o
  | .outCmdOff o => outStreamOk o
  | .outCmdOn o => outStreamOk o
  | .outCmdSendHdr o => outStreamOk o
  | .outCmdSendCfg1 o => outStreamOk o
  | .outCmdSendCfg2 o => outStreamOk o
  | .outCmdSendCfg3 o => outStreamOk o
  | .outChangeApply o => outStreamOk o
  | .rsvPublish p _ => rsvOk p
  | .timeRollover => true
  | .extensionCheck => true
  | .incWrite _ => true
  | .timeStep _ => true
  | .hostSyncWrite _ => true
  | .ptpMessage _ => true
  | .announceTimeout => true
  | .irigFrame _ => true
  | .ppsInEdge => true
  | .ppsMiss => true
  | .sourceTimeout => true
  | .sourceFaultExpire _ => true
  | .secondBoundary => true
  | .ppsOutEnd => true
  | .sectionDeadline rg _ sec => groupOk rg && sectionOk sec
  | .releaseTokenAdmit => true
  | .rowRetire rg => groupOk rg
  | .gleanerWrite => true
  | .alnCommit _ => true
  | .afeSample _ => true
  | .afeOverloadEnd input => afeOk input
  | .channelStall chan => wavChanOk chan
  | .syncArm _ => true
  | .wavCommit _ => true
  | .steepClose mp => meterOk mp
  | .steepCloseTimeout mp => meterOk mp
  | .pulseStart k => pulseOk k
  | .pulseEnd k => pulseOk k
  | .meterSavePeriod => true
  | .meterSaveNow => true
  | .meterSaveDone _ => true
  | .meterSnapshot _ => true
  | .mtrCommit _ _ => true
  | .oscRefreshInstant group => oscGroupOk group
  | .oscRefreshDone group => oscGroupOk group
  | .oscCommit _ => true
  | .intermediateTimeout branch => branchOk branch
  | .swOverride _ => true
  | .seRowStart _ => true
  | .seSolveDone _ => true
  | .islandRow _ => true
  | .coalesceExpire => true
  | .refacDone => true
  | .topCommit => true
  | .graphInstanceCreate graph => graphOk graph
  | .operatorDispatch pe => engineOk pe
  | .operatorYield pe => engineOk pe
  | .operatorComplete pe => engineOk pe
  | .delayTick => true
  | .epochBoundary => true
  | .stateCopyDone graph => graphOk graph
  | .engineFence pe => engineOk pe
  | .graphHalt graph => graphOk graph
  | .graphResume graph => graphOk graph
  | .dfsCommit => true
  | .cycleStart task => taskOk task
  | .logicComplete task => taskOk task
  | .writePoint task => taskOk task
  | .pubRetransmit _ p => pubOk p
  | .peerValueRx _ => true
  | .exchangeInstant => true
  | .exchangeTimeout => true
  | .cycCommit _ => true
  | .alarmHandoff => true
  | .almAck _ => true
  | .almAckAll _ => true
  | .pinHoldExpire pin => pinOk pin
  | .alarmPubSend p => pubOk p
  | .almCommit => true
  | .eventCommit => true
  | .heartbeat => true
  | .evrRdSeq _ => true
  | .gatherEnd recorder => recorderOk recorder
  | .capAutoTimeout recorder => recorderOk recorder
  | .captureClose recorder => recorderOk recorder
  | .capRArm recorder => recorderOk recorder
  | .capRDisarm recorder => recorderOk recorder
  | .capRForce recorder => recorderOk recorder
  | .capRRelease recorder _ => recorderOk recorder
  | .capRMarkSet recorder mark _ => recorderOk recorder && markOk mark
  | .capCommit _ => true
  | .pcieLinkDown => true
  | .pcieLinkUp => true
  | .hostReset _ => true
  | .apertureRead _ _ => true
  | .apertureWrite _ => true
  | .queuePop q _ => queueOk q
  | .queuePopTimeout q => queueOk q
  | .queuePush q _ => queueOk q
  | .queuePushEnd q _ => queueOk q
  | .pushStallTimeout q => queueOk q
  | .queueIrqItrExpire q => queueOk q
  | .commandTake _ => true
  | .longOpStepCommit _ => true
  | .nop _ => true
  | .journal _ _ _ _ => true
  | .cancel _ _ => true
  | .resume _ _ => true
  | .ack _ _ _ => true
  | .arm _ recorder => recorderOk recorder
  | .export_ _ recorder _ => recorderOk recorder
  | .exportFrames _ recorder mark => recorderOk recorder && markOk mark
  | .release _ recorder _ => recorderOk recorder
  | .refactor _ => true
  | .rebalance _ => true
  | .progLoad _ _ => true
  | .progExchange _ => true
  | .progRevert _ => true
  | .imageStage _ component _ => componentOk component
  | .imageActivate _ component _ => componentOk component
  | .confirm _ component => componentOk component
  | .settingsSave _ => true
  | .keyUpdate _ _ => true
  | .archiveRead _ _ _ _ => true
  | .dateSet _ _ _ _ _ _ _ => true
  | .roleSwitch _ => true
  | .hgwLinkTrained link _ => linkOk link
  | .hgwLinkDown link => linkOk link
  | .hgwPacketRx link _ _ => linkOk link || link == 6
  | .linkStateFlood => true
  | .routeRecompute => true
  | .routeTimeout device => deviceOk device
  | .closureTokenRx owner rg sec _ _ _ _ => deviceOk owner && groupOk rg && sectionOk sec
  | .fwdSectionTimeout owner rg sec _ => deviceOk owner && groupOk rg && sectionOk sec
  | .hgwTimeExchange link _ _ _ _ _ => linkOk link
  | .linkStepChange link rx _ => linkOk link && rx.all (fun n => n < 4)
  | .xplacementAckDeadline => true
  | .hgwCommit => true
  | .t0Trained _ => true
  | .partnerWaitExpire => true
  | .pairingSyncDone _ => true
  | .pairingTimeout => true
  | .rowDigestRx rg _ _ => groupOk rg
  | .compareWindowEnd => true
  | .healthReportTx => true
  | .healthReportRx _ => true
  | .partnerReportTimeout => true
  | .selfTestFail bit => selfTestBitOk bit
  | .switchInstant => true
  | .partnerLossDetect => true
  | .releaseRequestRx => true
  | .inputTriggerExpire => true
  | .takeoverComplete => true
  | .mirrorMessageRx _ => true
  | .t0Detach => true
  | .caddyRequest _ => true
  | .caddyOpDone _ => true
  | .secRederive _ _ => true
  | .bkdWriteApply => true
  | .bkdTickRead _ => true
  | .bkdWeekdayRead _ => true
  | .freezeTimeout _ => true
  | .weekdayAdvance => true
  | .alarmArm => true
  | .rtcAlarm => true
  | .pwrOff => true
  | .wakeInEdge => true
  | .tamperInput _ => true
  | .domainPowerOn => true
  | .rtcSyncCheck => true
  | .coldStart _ => true
  | .warmReset _ => true
  | .porstAssert _ => true
  | .railUndervoltage _ _ => true
  | .bootReset _ => true
  | .supWatchdogExpire => true
  | .bootRcvGo _ _ => true
  | .trialDeadline component => componentOk component
  | .twinCfgActivate => true
  | .errorDetect _ => true
  | .errorHandlingDone => true
  | .handlerTimeout => true
  | .e4WarmReset => true
  | .thermalLevelChange sensor _ => sensorOk sensor
  | .overtemp sensor _ => sensorOk sensor
  | .currentLimit _ => true
  | .dramTempCheck channel _ => dramChanOk channel
  | .pmcRun _ => true
  | .pmcClear => true
  | .pmcSample _ => true
  | .dramLockLost => true
  | .domainSupplyChange _ => true
  | .vbatLow _ => true
  | .currentLimitClear _ => true
  | .mirrorAckRx _ => true
  | .pcieCompletionTimeout _ => true

end Sys2Proof
end

