-- ==== Sys2Proof/Tests/Slice0.lean ====
section
/-!
SUPPORT. Own tests: ill-formed commands that WellFormed refuses, worked examples of the specification, and for the hypotheses of
each statement a state and operands that meet them.
-/
set_option Elab.async false

namespace Sys2Proof.Tests
open Sys2Proof Sys2Proof.Machine

/-! ### Small states -/

/-- A station port that is on, after the commit. -/
def portOn (p : Nat) : State := { State.reset with committed := true }.setReg (Reg.SPT_PORT_CTRL p) 1
/-- The same with its link up. -/
def portUp (p : Nat) : State := (((portOn p).setReg (Reg.SPT_PORT_STATUS p) 1).setReg (Reg.SPT_MAXLEN p) 9600)
/-- A port that may go to Low Power Idle. -/
def sleepy : State := ((portUp 5).setReg (Reg.SPT_PORT_CTRL 5) 0x1001).setReg (Reg.SPT_EEE_TW 5) 20
/-- An LC0 alarm publication that leaves on a port, with its next message 1 µs away. -/
def aPub : PubState :=
  { cfg := { id := 0, appid := 0, gocbRef := [], datSet := [], goId := [], confRev := 0, elements := 1, dmac := 0, vlan := none, dest := .port 3, lc := 0
             rgoose := false, slot := 0, alg := 0, tMin := 1, tMax := 2 }
    nextAt := some 0, change := some 0 }
/-- A device that sends, with that publication. -/
def withPub : State :=
  { State.reset with alm := { State.reset.alm with pubs := [aPub] }, boot := { State.reset.boot with outputsOff := false } }
/-- A port asleep while an LC0 message is due. -/
def asleepLc0 : State := (withPub.setReg (Reg.SPT_PORT_CTRL 3) 1).setReg (Reg.SPT_PORT_STATUS 3) 3
/-- A frame of the supervisor. -/
def aFrame : TxFrame := TxFrame.mk 1 64 none .supervision
/-- A port that sends, with one frame queued. -/
def queuedWith (f : TxFrame) : State :=
  { portUp 0 with boot := { State.reset.boot with outputsOff := false } }.modPort 0 (fun x => { x with txq := [f] })
/-- The same with the supervisor's frame. -/
def queued : State := queuedWith aFrame
/-- A host frame one byte above MAXLEN - 4. -/
def longFrame : TxFrame := TxFrame.mk 3 1523 none (.host (TxDesc.mk 0 1519 0 false 2) 0 0 0)
/-- A host transmit ring with one descriptor. -/
def hostRing : State :=
  { ((portUp 0).setReg (Reg.SPT_TXR_CTRL 0 7) 0x601).setReg (Reg.SPT_TXR_TAIL 0 7) 1 with hif := { State.reset.hif with busMaster := true } }
/-- A received frame of a length. -/
def rxOf (n : Nat) (codingOk fcsOk : Bool) : RxFrame :=
  { codingOk := codingOk, length := n, fcsOk := fcsOk, dmac := 0, smac := 0, vlan := none, secondTag := false, etherType := 0x88F7, udp := none
    tail := PrpTail.mk 0 0 0 0, lsduLength := 46, data := [], hostBufs := [] }
/-- A frame in the supervisor's pool. -/
def aPoolFrame : PoolFrame := PoolFrame.mk .sup 0 1 0 (rxOf 64 true true)
/-- A pair whose LAN B has been silent for the timeout while LAN A received. -/
def silentLan : State :=
  ({ State.reset with tim := { ticks := 400000000000 } }.setReg (Reg.SPT_PRP_CTRL 1) 1).modPair 1 (fun x => { x with lastRxA := 1 })
/-- A pair with both links up. -/
def pairUp : State :=
  (((({ State.reset with committed := true }.setReg (Reg.SPT_PORT_CTRL 2) 1).setReg (Reg.SPT_PORT_STATUS 2) 1).setReg (Reg.SPT_PORT_CTRL 3) 1).setReg
    (Reg.SPT_PORT_STATUS 3) 1).setReg (Reg.SPT_PRP_CTRL 1) 1

/-- A stream's entry. -/
def streamOf (t : StreamType) (key : MatchKey) (st : StreamState) : StreamEntry :=
  { cfg := { typ := t, state := .valid, rg := 0, ingestClass := 0, authMark := false, cfg3 := false, chanBase := 0, chanCount := 0, units := 1, mapBase := 0
             key := key, rate := 1000000, frameSize := 26, fnomCode := 1, cfgCnt := 0, reportRate := 50, curSlot := 0xFFFF, nextSlot := 0xFFFF, curKeyId := 0
             nextKeyId := 0, cmdPort := 0, elems := [] }
    state := st }
/-- A stream table with one entry. -/
def withStream (t : StreamType) (key : MatchKey) (st : StreamState) : State := { State.reset with dec := { State.reset.dec with streams := [(0, streamOf t key st)] } }
/-- A synchrophasor frame of 26 bytes, of one block whose STAT is 0, for second 100. -/
def c37Of : C37Frame :=
  { port := 0, stamp := 0, tcp := false, dport := 4712, ip := 0, bytes := c37Frame 0 7 100 0 (List.replicate 10 0), blocks := [PmuBlock.mk 0 [] 0 0 [] []] }
/-- A sampled-value frame. -/
def anSv : SvFrame := { port := 0, stamp := 0, appid := 1, svIdLen := 2, svIdCrc := 3, dmac := 4, simulation := false, asdus := [Asdu.mk 0 26 2 []] }
/-- A GOOSE frame. -/
def aGoose : GooseFrame :=
  { port := 0, stamp := 0, appid := 1, refLen := 2, refCrc := 3, dmac := 4, confRev := 26, stNum := 1, sqNum := 0, tal := 1000, test := false
    simulation := false, ndsCom := false, timeBad := false, elems := [] }
/-- A session PDU. -/
def aPdu (p : SessionPayload) : SessionPdu := { payload := p, encAlg := 0, sigAlg := 0, keyId := 0, spdu := 1, signed := [], tag := 0 }
/-- A configuration frame with a frequency code. -/
def aCfgFrame (fnom : Nat) : CfgFrame :=
  { blockChannels := [0], formatsOk := true, timeBase := 1000000, fnomCode := if fnom = 7 then 1 else 2, frameSize := 26, cfgCnt := 1, map := [] }
/-- A rejected stream whose re-parse has begun. -/
def reparsing : State :=
  { State.reset with dec := { State.reset.dec with
      streams := [(0, { streamOf .c37 (.c37 7 4712 0) .rejected with reparse := some (0, 0), retryAt := some 0 })] } }
/-- An output stream that is on, with a change due. -/
def anOut : OutState := { cfg := { id := 63, rg := 0, timeBase := 1000000, dest := .port 0, blocks := [] }, on := true, pendAt := some 0 }
/-- A device that sends, with that output stream and 50 rows per second. -/
def withOut : State :=
  { (State.reset.setReg (Reg.ALN_RG_CFG 0) 50).setReg (Reg.DEC_OUT_WAIT 63) 0 with
    dec := { State.reset.dec with outs := [anOut] }, boot := { State.reset.boot with outputsOff := false } }
/-- An R-SV publication. -/
def anRsv : RsvState := { cfg := { id := 31, rg := 0, slot := 1, dest := .port 0, lc := 0, channels := [] } }
/-- A key that every master may use for everything. -/
def aKey : KeySlot := { typ := .hmac256, masters := 31, lcMask := 31, uses := 63, rederive := true }
/-- A device that publishes it with a key. -/
def withRsv : State :=
  { (State.reset.setReg (Reg.ALN_RG_CFG 0) 50).setReg (Reg.DEC_RSV_CTRL 31) 0x101 with
    dec := { State.reset.dec with rsvs := [anRsv] }, boot := { State.reset.boot with outputsOff := false }
    sec := { State.reset.sec with slots := [(1, aKey)] } }

/-- Four rate groups that run. -/
def fourGroups : State := { State.reset with aln := { State.reset.aln with groups := [(0, {}), (1, {}), (2, {}), (3, {})] } }
/-- Device Time set by the host. -/
def hostTime : State := (State.reset.setReg Reg.TIM_CTRL 1).setReg Reg.TIM_INC_LO 0x8F5C28F6
/-- PTP listening at port 0 in domain 5. -/
def ptpOn : State := (State.reset.setReg Reg.TIM_PTP_CTRL 0x10500).setReg (Reg.SPT_RULE_CTRL 0 0) 0x301
/-- An Announce's dataset. -/
def aDataset : PtpDataset :=
  { priority1 := 0, clockClass := 0, accuracy := 0, variance := 0, priority2 := 0, gmId := 0, steps := 0, senderId := 0, utcOffset := 0, utcValid := false
    leap61 := false, leap59 := false, timeTraceable := false, inaccuracy := none }
/-- A PTP message. -/
def aPtp (domain : Nat) : PtpMsg :=
  { port := 0, domain := domain, version := 2, transport := 0, dport := 0, dmac := 0, vlan := none, body := .announce aDataset }
/-- An IRIG-B frame of the first second of a year. -/
def anIrig (markersOk : Bool) : IrigFrame :=
  { edge := 0, falling := false, markersOk := markersOk, parityOk := true, digits := [0, 0, 0, 0, 0, 0, 1, 0, 0], offset := 0, leapPending := false
    leapDelete := false, tq := 0 }
/-- A rate group whose next row opens at 0. -/
def aGroup : GroupState := { nextS := 0, nextK := 1 }
/-- A device with it. -/
def oneGroup : State := { (State.reset.setReg (Reg.ALN_RG_CFG 0) 50).setReg (Reg.DEC_OUT_WAIT 63) 0 with aln := { State.reset.aln with groups := [(0, aGroup)] } }
/-- A row whose headland and deadlines have passed, with section 5 closed. -/
def aRow : Furrow := { tag := 0, idx := 0, flags := 0, deadlines := [0], hg := 0, closed := 0x20 }
/-- A rate group with that row in flight. -/
def oneRow : State := { (State.reset.setReg (Reg.ALN_RG_CFG 0) 0x132).setReg (Reg.DEC_OUT_WAIT 63) 0 with aln := { State.reset.aln with groups := [(0, { furrows := [aRow] })] } }
/-- The rate group 0 of a state, once what reads its oldest row whole has done so. -/
def readWhole (s : State) : State :=
  let u := ((s.fillRow 0).oscDue).meterTemp 0 0
  ((u.digestRow 0 ((u.furrow 0 0).getD aRow)).captureRow 0 ((u.furrow 0 0).getD aRow)).keepLatest ((u.furrow 0 0).getD aRow) 0
/-- Its group as it then stands. -/
def retired (s : State) : GroupState := ((readWhole s).group 0).getD {}
/-- Its oldest row as it then stands. -/
def closedRow (s : State) : Furrow := (retired s).furrows.headD aRow
/-- A late delivery. -/
def aGlean : GleanEntry := GleanEntry.mk 0 0 0 0 false []
/-- A waveform channel without input for 10 ms. -/
def stalled : State :=
  { State.reset.setReg (Reg.WAV_CH_CTRL 8207) 1 with wav := { State.reset.wav with chans := [(8207, { lastT := some 0 })] }, tim := { ticks := 3906250 } }
/-- A meter point with the grid index of its next sample. -/
def aMeter (nextN : Nat) : MeterPoint := { cfg := { mp := 63, chans := [], tables := [] }, nextN := nextN }
/-- A device whose meter point 63 runs. -/
def metering (x : MeterPoint) (ns : Word) : State :=
  { ((State.reset.setReg Reg.MTR_CTRL 1).setReg (Reg.MTR_MP_CTRL 63) 1).setReg (Reg.MTR_MP_STEEP 63) 1 with
    mtr := { State.reset.mtr with points := [(63, x)] }, tim := { ns := ns } }
/-- Its steep has all its samples. -/
def meterDone : State := metering (aMeter 4000000000000) 0
/-- Its steep lacks samples 1 s after its end. -/
def meterLate : State := metering (aMeter 0) 2000000000
/-- Pulse output 7 with a pulse queued, or in progress. -/
def pulsing (e : Option Nat) : State :=
  { State.reset with
    mtr := { State.reset.mtr with pulses := List.replicate 7 {} ++ [PulseState.mk 1 0 0 e 0 0 false false] }
    boot := { State.reset.boot with outputsOff := false } }
/-- A save. -/
def aSave : MeterSave := MeterSave.mk 0 0 true [] [] 0
/-- Every meter point of the 64 runs. -/
def allMeters : State :=
  { State.reset with
    regs := (List.range 64).foldl (fun l m => smPut regReset l (Reg.MTR_MP_CTRL m) 1) (smPut regReset [] Reg.MTR_CTRL 1)
    mtr := { State.reset.mtr with points := (List.range 64).map (fun m => (m, aMeter 0)) } }
/-- An oscillation group past a refresh instant. -/
def oscReady : State :=
  { ((State.reset.setReg Reg.OSC_CTRL 1).setReg (Reg.OSC_G_CTRL 31) 1).setReg (Reg.OSC_G_REFRESH 31) 1000 with tim := { ns := 1000000000 } }
/-- A refresh that runs. -/
def aRun : OscRun := { tag := 0, startAt := 0, kept := [], modes := 1, zetaAlarm := 0, basis := [], q := 0, count := 0, total := 0 }
/-- A branch. -/
def aBranch (switching : Bool) : BranchRec :=
  { nodeF := 0, nodeT := 1, switching := switching, interRule := 0, dflt := false, chan := none, r := 0, x := 0, b := 0, tap := 0, phi := 0 }
/-- A row that TOP may take. -/
def topRow : State :=
  { State.reset.setReg Reg.TOP_CTRL 1 with aln := { State.reset.aln with groups := [(0, { furrows := [aRow] })] }, tim := { ns := 20000 } }
/-- A row that TOP has taken. -/
def aTopRow : TopRow := { idx := 0, tag := 0, start := 0, topo := [], factor := none, meas := [], cohs := [], seDone := false, islDone := false }
/-- A factor. -/
def aFactor (nnz : Nat) : Factor := { ver := 1, closed := [], inSet := [], usable := [], nnz := nnz, unobs := [], omega := [], cols := [], critical := [] }
/-- A switching branch whose intermediate position has lasted. -/
def betweenStates : State :=
  { State.reset.setReg Reg.TOP_CTRL 1 with top := { branches := [aBranch true], sw := [(0, { interAt := some 0 })] }, tim := { hi := 100 } }
/-- A graph of one arithmetic node. -/
def aGraphRec : GraphRec :=
  { id := 0, lc := 1, supersede := false, skip := false, en := true, trigger := .timer 1, nodes := [⟨.arith 0 0, [], 1, 0⟩], arcs := [], pinCluster := none
    pinEngine := none }
/-- A trigger. -/
def aTrigger : HeldTrigger := { key := 0, row := none, closure := none, counted := false }
/-- That graph with a trigger held. -/
def aGraph (halted : Bool) : GraphState := { cfg := aGraphRec, waiting := [aTrigger], halted := halted }
/-- A device with it. -/
def graphWaiting (halted : Bool) : State := { State.reset.setReg Reg.DFS_CTRL 1 with dfs := { State.reset.dfs with graphs := [(0, aGraph halted)] } }
/-- An operator of it. -/
def anOpInst (p : OpPhase) (cancelRun : Bool) : OpInst :=
  { node := 0, phase := p, inputs := [], entry := false, reserve := false, readyTick := 0, cancelRun := cancelRun }
/-- An instance of it. -/
def anInst (id : Nat) (g : Nat) (o : OpInst) : GraphInst :=
  { id := id, graph := g, key := 0, row := none, cluster := 0, closure := none, copying := false, dead := false, ops := [o] }
/-- A device with engines, of which the first of cluster 0 do the work given, and instances. -/
def engines (run : List EngineState) (insts : List GraphInst) : State :=
  { State.reset.setReg Reg.DFS_CTRL 1 with
    dfs := { State.reset.dfs with
      graphs := [(0, aGraph false), (1, { aGraph false with cfg := { aGraphRec with id := 1, lc := 0 } })], insts := insts, nextId := 9
      engines := run ++ List.replicate (64 - run.length) {} } }
/-- A program with four tasks. -/
def aProgram : ProgArea :=
  { prog := { id := 1, taskEn := [true, true, true, true], pinMask := [], tasks := [TaskRec.mk 1000 100 10 [], TaskRec.mk 1000 100 10 [],
                TaskRec.mk 1000 100 10 [], TaskRec.mk 1000 100 10 []]
              insts := [], inputs := [], outputs := [], pubs := [], dests := [], pemVersion := 0 }
    inst := [], params := [], fresh := [] }
/-- A device whose task 3 is as given. -/
def cycling (t : TaskState) : State :=
  { State.reset.setReg Reg.CYC_CTRL 0x81 with cyc := { State.reset.cyc with run := some aProgram, tasks := [{}, {}, {}, t] } }
/-- A peer value. -/
def aPeer : PeerVal := PeerVal.mk 1 0 0 0 0 1 0 0
/-- One that arrives. -/
def aPeerRx (start : Nat) : PeerRx := PeerRx.mk 1 0 0 0 0 start 0 0
/-- An exchange that has been pending for a time. -/
def exchanging (ticks : Nat) : State :=
  { State.reset with
    cyc := { State.reset.cyc with run := some aProgram, standby := some aProgram, exch := some (1, 0), tasks := [{}, {}, {}, {}] }
    tim := { ticks := ticks } }

/-- An alarm, unacknowledged. -/
def anAlarm (lastKey : Option Nat) : AlarmState :=
  { cfg := { id := 4095, sev := 0, latch := false, ackReq := true, record := false, queue := false, pins := 0, pub := none }, state := 1, lastKey := lastKey }
/-- A device with it and handoffs. -/
def alarmed (lastKey : Option Nat) (h : List Handoff) : State :=
  { State.reset.setReg Reg.ALM_CTRL 1 with alm := { State.reset.alm with alarms := [(4095, anAlarm lastKey)], handoffs := h } }
/-- A handoff. -/
def aHandoff (key : Nat) (active : Bool) : Handoff := { alarm := 4095, active := active, a := 0, b := 0, q := 0, key := key, closure := none }
/-- An event. -/
def anEvent : Event := { gts := 0, source := 0, code := 0x0202, sev := 0, synthetic := false, remote := false, validity := 0, payload := [] }
/-- A recorder with one event staged. -/
def recording (lost : Option LostAcc) : State :=
  { State.reset.setReg Reg.EVR_STATUS 0x10000 with evr := { State.reset.evr with staging := [anEvent], lost := lost } }
/-- A frame of a recorder. -/
def aCapFrame : CapFrame := CapFrame.mk 0 0 0 0 0 []
/-- A capture. -/
def aCapture : Capture := { num := 1, cause := 0, trigCond := 0xFF, phi := 256, trigFrame := 0, trigGts := 0, lastWanted := 0, frames := [aCapFrame] }
/-- A recorder with a frame, an active and a stored capture, and its times over. -/
def aRecorder : RecorderState :=
  { cfg := { id := 15, chans := [], signSlot := 0xFFFF, div := 1 }, frames := [aCapFrame], widx := 1, gatherEnd := some 0, active := some aCapture, closeAt := some 0
    stored := [aCapture] }
/-- A device whose recorder 15 is in a state. -/
def recorder (st : Word) (x : RecorderState) : State :=
  { ((State.reset.setReg Reg.CAP_CTRL 1).setReg (Reg.CAP_R_CTRL 15) 1).setReg (Reg.CAP_R_STATUS 15) st with cap := { recs := [(15, x)] } }

/-- Q0 and Q1 of 1,024 words, one of them in a state. -/
def withQueue (q : Nat) (x : QueueState) : State := ((State.reset.setReg (Reg.HIF_Q_CTRL 0) 21).setReg (Reg.HIF_Q_CTRL 1) 21).setQueue q x
/-- A NOP command as a packet of a kind. -/
def aCommand (kind : Nat) : Packet := Packet.mk kind ([1, 7] ++ List.replicate 14 0)
/-- A command's header with a buffer. -/
def aHdr : CmdHdr := { tag := 7, progress := false, buf := 64, len := 1048576 }
/-- A long operation at its first step of three. -/
def anOp (w : OpWork) : LongOp :=
  { handle := 0x10000, tag := 7, opcode := 0x31, progress := false, items := true, buf := 0, len := 0, step := 0, total := 3, sizes := [], units := 0, result := 0
    cancelled := false, work := w }
/-- Its journal entry. -/
def anEntry : JournalEntry :=
  { handle := 0x10000, tag := 7, opcode := 0x31, status := 2, disp := .running, step := 0, total := 3, gts := 0, units := 0, unitItems := true, resumedBy := 0 }
/-- A device with that operation. -/
def working (w : OpWork) : State := { State.reset with hif := { State.reset.hif with ops := [anOp w], journal := [(0, anEntry)], busMaster := true } }
/-- A device whose journal keeps it RESUMABLE. -/
def resumable : State :=
  { State.reset with hif := { State.reset.hif with
      journal := [(0, { anEntry with disp := .resumable, ctx := some (anOp (.archiveRead 4 0 1)) })] } }

/-- A device with HGW on, all links down or all up. -/
def joined (up : Bool) : State :=
  (State.reset.setReg Reg.HGW_CTRL 0x3F01).setReg (Reg.HGW_L_STATUS 5) (if up then 1 else 0)
/-- A packet to this device. -/
def aPacket : HgwPacket := { src := 1, dst := 0, cls := .bulk, size := 32, body := .withdraw 1 }
/-- A device of a joined system that knows device 7, has a forwarded section of it and a placement pending. -/
def withDevice (ticks : Nat) : State :=
  { joined true with
    hgw := { State.reset.hgw with
      devices := [(7, { up := true })], fwd := [FwdSection.mk 7 0 0 1 0 [] [5]]
      pending := some { ver := 1, boundary := 1, moves := [], acks := [] } }
    tim := { ticks := ticks } }

/-- An empty configuration image. -/
def aCfgImage : CfgImage :=
  { headerOk := true, version := 0, minSup := 0, dir := [], signerKey := [], signature := [], settings := [], streams := [], map := [], outs := [], rsvs := []
    groups := [], sections := [], chans := [], wavOuts := [], coefs := [], meters := [], tables := [], signals := [], monitors := [], locs := [], locBase := 0
    nodes := [], branches := [], meas := [], cohs := [], sBase := 0, seBase := 0, islSummary := 0, nnzMax := 0, graphs := [], dfsCatalogue := 0, program := none
    alarms := [], almPubs := [], almPins := 0, recorders := [], queues := [], pins := [] }
/-- A firmware image. -/
def aFwImage : FwImage :=
  { ident := 0, format := 0, component := 0, secVer := 0, version := 0, payload := [], catalogue := 0, setFormat := 0, setOldest := 0, keyIndex := 0, manifest := []
    uid := 0, pubKey := [], signature := [] }
/-- Side B of a pair in a role, with more bits of TWN_STATUS. -/
def twin (role bits : Word) : State :=
  ({ State.reset with committed := true, boot := { State.reset.boot with image := some aCfgImage } }.setReg Reg.TWN_CTRL 7).setReg Reg.TWN_STATUS (role ||| bits)
/-- What side A tells at training. -/
def aHello (role : Nat) : TwinHello :=
  { side := false, uid := 0, role := role, roleGts := 0, committed := true, commitGts := 0, sup := 0, pem := 0, hgl := 0, digest := Config.cfgDigest aCfgImage }
/-- A health report with fault bits. -/
def aReport (status : Half) : HealthReport :=
  { seq := 0, status := status, sync := 2, tq := 0, digestLow := 0, sup := 0, pem := 0, hgl := 0, mismatches := 0, temp := 0, links := 0 }
/-- A Tilled device whose partner is READY. -/
def readyPair : State := twin 2 0x300
/-- A request for a MAC with a slot's key. -/
def aCaddyReq (slot : Nat) : CaddyReq := { id := 7, master := .decAuth, secure := true, slot := slot, use := .macVerify, data := [] }
/-- A parent key, a key derived from it and a stale one; with `full`, all 64 MAC operations running. -/
def withKeys (full : Bool) : State :=
  { State.reset with sec := { State.reset.sec with
      slots := [(0, aKey), (2, { aKey with parent := 3 }), (3, { aKey with parent := 0, pgen := 1 }), (511, { aKey with parent := 0 })]
      ops := if full then List.replicate 64 (CaddyOp.mk (aCaddyReq 511) {}) else [] } }
/-- A freeze that began at 0. -/
def frozen : State := { State.reset with bkd := { supFreeze := some (Freeze.mk 0 0 0 0) } }
/-- Device Time LOCKED at an instant, with the backup clock to be compared with it. -/
def lockedAt (t : Nat) : State :=
  { (State.reset.setReg Reg.BKD_CTRL 1).setReg Reg.TIM_STATUS 2 with tim := { hi := BitVec.ofNat 32 (t / 2 ^ 32), ns := BitVec.ofNat 32 t } }
/-- Component 4 staged, a role and a boundary agreed. -/
def stagedCfg (a : Option (Nat × Nat)) (role : Word) : State :=
  { State.reset with
    boot := { State.reset.boot with comps := List.replicate 5 (CompRec.mk false .staged .empty .empty none 0 0) }, twn := { cfgActivate := a } }.setReg
      Reg.TWN_STATUS role
/-- No component is in TRIAL where none of the five is. -/
theorem five_comps (s : State) (l : s.boot.comps.length ≤ 5) (h : ∀ c, c < 5 → (s.comp c).state ≠ .trial) : ∀ c, (s.comp c).state ≠ .trial := by
  intro c
  by_cases hc : c < 5
  · exact h c hc
  · simp [State.comp, List.getD_eq_getElem?_getD, List.getElem?_eq_none (by omega : s.boot.comps.length ≤ c)]
/-- Every component in TRIAL. -/
def trying : State :=
  { State.reset with
    committed := true, boot := { State.reset.boot with comps := List.replicate 5 (CompRec.mk false .trial .empty .empty (some 0) 0 0) } }
/-- An error that is no memory error. -/
def anError (grade : Nat) : ErrorRec := { grade := grade, source := 0, code := 0x0101, cause := 1, channel := 0, addr := 0 }
/-- It on the stack. -/
def anEntryErr : StackEntry := { err := anError 2, gts := 0, order := 0, resumed := false }
/-- It in handling since 0. -/
def handling : State := { State.reset with hlt := { State.reset.hlt with handling := some (anEntryErr, 0) } }

/-! ### Commands that WellFormed refuses -/

/-- The hello agrees with a PAIRING device's versions and configuration. -/
theorem hello_fits : (twin 3 0).versionBreak (aHello 1) = none := by
  have e : (twin 3 0).boot.image = some aCfgImage := by decide +kernel
  have n0 : imageVersion ((twin 3 0).comp 0).active = 0 := by decide +kernel
  have n1 : imageVersion ((twin 3 0).comp 1).active = 0 := by decide +kernel
  have n2 : imageVersion ((twin 3 0).comp 2).active = 0 := by decide +kernel
  generalize twin 3 0 = s at e n0 n1 n2
  simp [State.versionBreak, e, n0, n1, n2, aHello, bitsOf, Sys2Proof.Machine.dist]
/-- The hello agrees with a SOLO device's versions and configuration. -/
theorem hello_fits_solo : (twin 1 0).versionBreak (aHello 3) = none := by
  have e : (twin 1 0).boot.image = some aCfgImage := by decide +kernel
  have n0 : imageVersion ((twin 1 0).comp 0).active = 0 := by decide +kernel
  have n1 : imageVersion ((twin 1 0).comp 1).active = 0 := by decide +kernel
  have n2 : imageVersion ((twin 1 0).comp 2).active = 0 := by decide +kernel
  generalize twin 1 0 = s at e n0 n1 n2
  simp [State.versionBreak, e, n0, n1, n2, aHello, bitsOf, Sys2Proof.Machine.dist]
/-- The first byte lies in the memory. -/
theorem one_inside : 1 ≤ Config.dramMiB * 2 ^ 20 := by unfold Config.dramMiB; omega
/-- A byte of the oscillation region is not hidden. -/
theorem osc_byte_open (s : State) (a : Nat) (h : s.inOsc a = true) : ∀ i, i < 1 → s.secretAt (a + i) = false := by
  intro i hi
  obtain rfl : i = 0 := by omega
  simp [State.secretAt, h]
/-- A device whose oscillation region is its first MiB. -/
def oscRegion (held : List (Nat × Nat × Nat)) : State :=
  ({ State.reset with hif := { State.reset.hif with aperHeld := held } } : State).setReg Reg.OSC_DRAM_SIZE 1
/-- An end lies past the length of what precedes it. -/
theorem past_end (a d : Nat) : d < a + d + 1 := by omega

theorem test_wf_bar0Ok : Instr.wf (.registerWrite 67108864 0) = false := by decide
theorem test_wf_portOk : Instr.wf (.linkUp 6) = false := by decide
theorem test_wf_pairOk : Instr.wf (.prpEntryExpire 2 0) = false := by decide
theorem test_wf_linkCauseOk : Instr.wf (.linkDown 0 4) = false := by decide
theorem test_wf_ringOk : Instr.wf (.rxrEnable 0 32 0) = false := by decide
theorem test_wf_streamOk : Instr.wf (.reparseAttempt 16384) = false := by decide
theorem test_wf_groupOk : Instr.wf (.rowBoundary 4) = false := by decide
theorem test_wf_outStreamOk : Instr.wf (.outputStreamFrame 64 0) = false := by decide
theorem test_wf_rsvOk : Instr.wf (.rsvPublish 32 0) = false := by decide
theorem test_wf_sectionOk : Instr.wf (.sectionDeadline 0 0 64) = false := by decide
theorem test_wf_afeOk : Instr.wf (.afeOverloadEnd 16) = false := by decide
theorem test_wf_wavChanOk : Instr.wf (.channelStall 8208) = false := by decide
theorem test_wf_meterOk : Instr.wf (.steepClose 64) = false := by decide
theorem test_wf_pulseOk : Instr.wf (.pulseStart 8) = false := by decide
theorem test_wf_oscGroupOk : Instr.wf (.oscRefreshInstant 32) = false := by decide
theorem test_wf_branchOk : Instr.wf (.intermediateTimeout 40960) = false := by decide
theorem test_wf_graphOk : Instr.wf (.graphInstanceCreate 4096) = false := by decide
theorem test_wf_engineOk : Instr.wf (.operatorDispatch 64) = false := by decide
theorem test_wf_taskOk : Instr.wf (.cycleStart 4) = false := by decide
theorem test_wf_pubOk : Instr.wf (.pubRetransmit false 64) = false := by decide
theorem test_wf_pinOk : Instr.wf (.pinHoldExpire 8) = false := by decide
theorem test_wf_recorderOk : Instr.wf (.gatherEnd 16) = false := by decide
theorem test_wf_markOk : Instr.wf (.capRMarkSet 0 4 0) = false := by decide
theorem test_wf_queueOk : Instr.wf (.queuePop 128 0) = false := by decide
theorem test_wf_componentOk : Instr.wf (.trialDeadline 5) = false := by decide
theorem test_wf_linkOk : Instr.wf (.hgwLinkDown 6) = false := by decide
theorem test_wf_deviceOk : Instr.wf (.routeTimeout 512) = false := by decide
theorem test_wf_selfTestBitOk : Instr.wf (.selfTestFail 4) = false := by decide
theorem test_wf_txRingOk : Instr.wf (.hostTxDescriptor 0 8 ⟨0, 0, 0, false, 0⟩) = false := by decide
theorem test_wf_sensorOk : Instr.wf (.overtemp 24 0) = false := by decide
theorem test_wf_dramChanOk : Instr.wf (.dramTempCheck 2 0) = false := by decide

/-! ### Values that the spec's text gives -/

/-- The worked example of 18_backup_domain.md: the compare value of 2031-03-01 00:00:00. -/
theorem test_calendar_example : dateTicks 2031 3 1 0 0 0 = 32224208486400 ∧ tickToDate 32224208486400 = some (2031, 3, 1, 0, 0, 0) := by decide +kernel
/-- 2199-12-31 23:59:59 is the last date (R411). -/
theorem test_calendar_end : tickToDate (dateTicks 2199 12 31 23 59 59 + 32767) = some (2199, 12, 31, 23, 59, 59)
    ∧ tickToDate (dateTicks 2199 12 31 23 59 59 + 32768) = none := by decide +kernel

/-! ### Witnesses: for the hypotheses of each statement, a state and operands that meet them -/

theorem witness_backup_command : ∃ (c : Instr), c = .weekdayAdvance :=
  ⟨.weekdayAdvance, rfl⟩
theorem witness_port_command : ∃ (c : Instr) (port : Nat), port < 6 ∧ c = .lpiEnter port :=
  ⟨.lpiEnter 5, 5, by decide +kernel, rfl⟩
theorem witness_memory_command : ∃ (c : Instr), c = .pmcClear :=
  ⟨.pmcClear, rfl⟩
theorem witness_memory_tx : ∃ (s : State) (port : Nat), (∀ f, f ∈ (s.port port).txq → ∀ d p r a, f.body ≠ .host d p r a) ∧ (s.port port).txq ≠ [] :=
  ⟨queued, 0, (fun f h d p r a => by cases h with | head => exact (fun h => nomatch h) | tail _ h => cases h), by decide +kernel⟩
theorem witness_rtn_unack : ∃ x : AlarmState, x.state = 3 ∧ x.cond = false ∧ x.cfg.latch = true :=
  ⟨{ anAlarm none with state := 3, cfg := { (anAlarm none).cfg with latch := true } }, by decide +kernel⟩
theorem witness_locked_change : ∃ (s : State) (v : Word), s.committed = true ∧ (v ^^^ s.reg Reg.SYS_DEVICE_ID) &&& 0x1FF ≠ 0 :=
  ⟨{ State.reset with committed := true }, 0x100, by decide +kernel⟩
theorem witness_locked_same : ∃ (s : State) (v : Word), s.committed = true ∧ (v ^^^ s.reg Reg.SYS_DEVICE_ID) &&& 0x1FF = 0 :=
  ⟨{ State.reset with committed := true }, 0x200, by decide +kernel⟩
theorem witness_uncommitted : ∃ (s : State), s.committed = false :=
  ⟨State.reset, rfl⟩
theorem witness_reserved_offset : ∃ (offset : Nat), offset % 4 = 0 ∧ Reg.SYS_SCRATCH < offset ∧ offset < 0x100000 ∧ regDesc offset = none :=
  ⟨0x30, by decide +kernel⟩
theorem witness_ref_short : ∃ (s : State) (ns : Nat), s.flag Reg.SYS_CLK_STATUS 0 = true ∧ ns ≤ 10000 :=
  ⟨State.reset.setReg Reg.SYS_CLK_STATUS 7, 10000, by decide +kernel⟩
theorem witness_ref_long : ∃ (s : State) (ns : Nat), s.flag Reg.SYS_CLK_STATUS 0 = true ∧ 10000 < ns ∧ s.hlt.e4 = none :=
  ⟨State.reset.setReg Reg.SYS_CLK_STATUS 7, 10001, by decide +kernel⟩
theorem witness_ref_unlocked : ∃ (s : State), s.flag Reg.SYS_CLK_STATUS 0 = false :=
  ⟨State.reset.setReg Reg.SYS_CLK_STATUS 6, by decide +kernel⟩
theorem witness_pcie_link : ∃ (s : State), s.flag Reg.HIF_STATUS 0 = true :=
  ⟨State.reset.setReg Reg.HIF_STATUS 1, by decide +kernel⟩
theorem witness_pcie_no_link : ∃ (s : State), s.flag Reg.HIF_STATUS 0 = false :=
  ⟨State.reset.setReg Reg.HIF_STATUS 2, by decide +kernel⟩
theorem witness_link_up : ∃ (s : State) (port : Nat), port < 6 ∧ s.portMode port ≠ 0 ∧ s.committed = true ∧ s.flag (Reg.SPT_PORT_STATUS port) 0 = false :=
  ⟨portOn 5, 5, by decide +kernel⟩
theorem witness_link_down : ∃ (s : State) (port cause : Nat), port < 6 ∧ port < s.ports.length ∧ s.portMode port ≠ 0 ∧ s.flag (Reg.SPT_PORT_STATUS port) 0 = true ∧ cause ≠ 3 :=
  ⟨queued, 0, 2, by decide +kernel⟩
theorem witness_link_refused : ∃ (s : State) (port : Nat), port < 6 ∧ s.portMode port = 4 ∧ s.committed = true :=
  ⟨{ State.reset with committed := true }.setReg (Reg.SPT_PORT_CTRL 5) 4, 5, by decide +kernel⟩
theorem witness_link_not_sgmii : ∃ (s : State) (port : Nat), s.portMode port ≠ 4 :=
  ⟨portUp 5, 5, by decide +kernel⟩
theorem witness_lpi_enter : ∃ (s : State) (port : Nat), port < 6 ∧ s.maySleep port = true :=
  ⟨sleepy, 5, by decide +kernel⟩
theorem witness_lpi_wake : ∃ (s : State) (port : Nat), port < 4 ∧ port < s.ports.length ∧ s.flag (Reg.SPT_PORT_STATUS port) 1 = true ∧ s.lc0Clear port = false :=
  ⟨asleepLc0, 3, by decide +kernel⟩
theorem witness_lpi_frame_wake : ∃ (s : State) (port : Nat), port < 6 ∧ port < s.ports.length ∧ s.flag (Reg.SPT_PORT_STATUS port) 1 = true ∧ (s.port port).txq ≠ [] :=
  ⟨queued.setReg (Reg.SPT_PORT_STATUS 0) 3, 0, by decide +kernel⟩
theorem witness_maxlen_range : ∃ (port : Nat) (value : Word), port < 6 ∧ 1518 ≤ bitsOf value 13 0 ∧ bitsOf value 13 0 ≤ 9600 :=
  ⟨5, 9600, by decide +kernel⟩
theorem witness_maxlen_refused : ∃ (port : Nat) (value : Word), port < 6 ∧ ¬(1518 ≤ bitsOf value 13 0 ∧ bitsOf value 13 0 ≤ 9600) :=
  ⟨5, 9601, by decide +kernel⟩
theorem witness_commit_point_rx : ∃ (s : State) (port : Nat), port < 6 ∧ s.flag Reg.SPT_COMMIT port = true :=
  ⟨State.reset.setReg Reg.SPT_COMMIT 0x20, 5, by decide +kernel⟩
theorem witness_commit_point_tx : ∃ (s : State) (port : Nat), port < 6 ∧ port < s.ports.length ∧ s.flag Reg.SPT_COMMIT port = true ∧ (s.port port).rxPassed = false :=
  ⟨State.reset.setReg Reg.SPT_COMMIT 0x20, 5, by decide +kernel⟩
theorem witness_ring_off : ∃ (s : State) (port ring : Nat), port < 6 ∧ ring < 32 ∧ s.flag (Reg.SPT_RXR_CTRL port ring) 0 = false :=
  ⟨State.reset, 5, 31, by decide +kernel⟩
theorem witness_ring_on : ∃ (s : State) (port ring : Nat), port < 6 ∧ ring < 32 ∧ s.flag (Reg.SPT_RXR_CTRL port ring) 0 = true :=
  ⟨State.reset.setReg (Reg.SPT_RXR_CTRL 5 31) 1, 5, 31, by decide +kernel⟩
theorem witness_tx_frame : ∃ (s : State) (port : Nat) (f : TxFrame), port < 6 ∧ port < s.ports.length ∧ s.maySend port = true ∧ nextTx (s.port port).txq = some f
    ∧ s.txTooLong port f = false ∧ ∀ k n x, f.body ≠ .ptp k n x :=
  ⟨queued, 0, aFrame, by decide +kernel, by decide +kernel, by decide +kernel, by decide +kernel, by decide +kernel, (fun _ _ _ h => nomatch h)⟩
theorem witness_tx_too_long : ∃ (s : State) (port : Nat) (f : TxFrame), port < 6 ∧ port < s.ports.length ∧ s.maySend port = true ∧ nextTx (s.port port).txq = some f
    ∧ s.txTooLong port f = true :=
  ⟨queuedWith longFrame, 0, longFrame, by decide +kernel⟩
theorem witness_tx_descriptor : ∃ (s : State) (port ring : Nat) (d : TxDesc), port < 6 ∧ ring < 8 ∧ port < s.ports.length ∧ s.linkIsUp port = true ∧ s.paired port = false
    ∧ s.flag (Reg.SPT_TXR_CTRL port ring) 0 = true ∧ s.hif.busMaster = true
    ∧ (s.reg (Reg.SPT_TXR_HEAD port ring)).toNat % ringSize (s.reg (Reg.SPT_TXR_CTRL port ring))
      ≠ (s.reg (Reg.SPT_TXR_TAIL port ring)).toNat % ringSize (s.reg (Reg.SPT_TXR_CTRL port ring)) ∧ d.cls ≠ 0 :=
  ⟨hostRing, 0, 7, TxDesc.mk 0 60 0 false 3, by decide +kernel⟩
theorem witness_tx_refused : ∃ (s : State) (port ring : Nat) (d : TxDesc), port < 6 ∧ ring < 8 ∧ s.portMode port ≠ 0 ∧ s.flag (Reg.SPT_TXR_CTRL port ring) 0 = true ∧ s.hif.busMaster = true
    ∧ (s.reg (Reg.SPT_TXR_HEAD port ring)).toNat % ringSize (s.reg (Reg.SPT_TXR_CTRL port ring))
      ≠ (s.reg (Reg.SPT_TXR_TAIL port ring)).toNat % ringSize (s.reg (Reg.SPT_TXR_CTRL port ring)) ∧ d.cls = 0 :=
  ⟨hostRing, 0, 7, TxDesc.mk 0 60 0 false 0, by decide +kernel⟩
theorem witness_txts_pop : ∃ (s : State) (port : Nat) (id : Half) (stamp : Nat) (r : List (Half × Nat)), port < 6 ∧ port < s.ports.length ∧ (s.port port).txts = (id, stamp) :: r :=
  ⟨State.reset.modPort 5 (fun x => { x with txts := [(7, 9)] }), 5, 7, 9, [], by decide +kernel⟩
theorem witness_txts_empty : ∃ (s : State) (port : Nat), (s.port port).txts = [] :=
  ⟨State.reset, 0, rfl⟩
theorem witness_sup_drain : ∃ (s : State) (port : Nat) (x : PoolFrame), port < 6 ∧ port < s.ports.length ∧ (s.port port).pool.find? (fun y => y.cls == .sup) = some x :=
  ⟨State.reset.modPort 5 (fun x => { x with pool := [aPoolFrame] }), 5, aPoolFrame, by decide +kernel⟩
theorem witness_rx_good : ∃ (s : State) (port : Nat) (f : RxFrame), port < 6 ∧ s.linkIsUp port = true ∧ f.codingOk = true ∧ 63 < f.length
    ∧ f.length ≤ s.field (Reg.SPT_MAXLEN port) 13 0 ∧ f.fcsOk = true :=
  ⟨portUp 5, 5, rxOf 64 true true, by decide +kernel⟩
theorem witness_rx_coding : ∃ (s : State) (port : Nat) (f : RxFrame), port < 6 ∧ s.linkIsUp port = true ∧ f.codingOk = false :=
  ⟨portUp 0, 0, rxOf 64 false true, by decide +kernel⟩
theorem witness_rx_runt : ∃ (s : State) (port : Nat) (f : RxFrame), port < 6 ∧ s.linkIsUp port = true ∧ f.length ≤ 63 :=
  ⟨portUp 0, 0, rxOf 63 true true, by decide +kernel⟩
theorem witness_rx_oversize : ∃ (s : State) (port : Nat) (f : RxFrame), port < 6 ∧ s.linkIsUp port = true ∧ s.field (Reg.SPT_MAXLEN port) 13 0 < f.length :=
  ⟨portUp 0, 0, rxOf 9601 true true, by decide +kernel⟩
theorem witness_rx_fcs : ∃ (s : State) (port : Nat) (f : RxFrame), port < 6 ∧ s.linkIsUp port = true ∧ f.fcsOk = false :=
  ⟨portUp 0, 0, rxOf 64 true false, by decide +kernel⟩
theorem witness_prp_expire : ∃ (s : State) (pair : Nat), pair < s.pairs.length :=
  ⟨State.reset, 1, by decide +kernel⟩
theorem witness_prp_silent : ∃ (s : State) (pair : Nat) (lanB : Bool), pair < 2 ∧ s.flag (Reg.SPT_PRP_CTRL pair) 0 = true ∧ s.flag (Reg.SPT_PRP_STAT pair) (bit lanB) = false
    ∧ (if lanB then (s.prp pair).lastRxB else (s.prp pair).lastRxA) < (if lanB then (s.prp pair).lastRxA else (s.prp pair).lastRxB)
    ∧ (if lanB then (s.prp pair).lastRxB else (s.prp pair).lastRxA) + (s.reg (Reg.SPT_PRP_TIMEOUT (2 * pair))).toNat * 1000000 ≤ s.elapsed :=
  ⟨silentLan, 1, true, by decide +kernel⟩
theorem witness_prp_supervision : ∃ (s : State) (pair : Nat), pair < 2 ∧ s.ports.length = 6 ∧ pair < s.pairs.length ∧ s.flag (Reg.SPT_PRP_CTRL pair) 0 = true
    ∧ s.supervisionDue pair = true ∧ s.linkIsUp (2 * pair) = true ∧ s.linkIsUp (2 * pair + 1) = true :=
  ⟨{ pairUp.modPair 1 (fun x => { x with lastSup := some 0 }) with tim := { ticks := 781250000 } }, 1, by decide +kernel⟩
theorem witness_prp_early : ∃ (s : State) (pair last : Nat), (s.prp pair).lastSup = some last ∧ s.elapsed < last + 2000000000 :=
  ⟨{ pairUp.modPair 1 (fun x => { x with lastSup := some 0 }) with tim := { ticks := 781249999 } }, 1, 0, by decide +kernel⟩
theorem witness_c37_unknown : ∃ (s : State) (f : C37Frame), f.tcp = false ∧ s.entryOf (.c37 (c37Idcode f) f.dport f.ip) (· == .c37) = none :=
  ⟨State.reset, c37Of, by decide +kernel⟩
theorem witness_c37_placed : ∃ (s : State) (f : C37Frame) (i : Nat) (e : StreamEntry) (p : Nat × Nat), f.tcp = false
    ∧ s.entryOf (.c37 (c37Idcode f) f.dport f.ip) (· == .c37) = some (i, e) ∧ e.state = .valid ∧ c37ChkOk f = true
    ∧ (c37Version f = 1 ∨ c37Version f = 2) ∧ c37Size f = e.cfg.frameSize ∧ statFalls e.stat10 (stat10Of f) = false ∧ statRises e.stat10 (stat10Of f) = false
    ∧ (let u := (s.takeDec f.port f.stamp).modStream i (fun e => { e with stat10 := stat10Of f })
      let g := e.cfg.rg
      bitsOf (c37Fracsec f) 23 0 < e.cfg.rate
      ∧ placeTag (u.rate g) e.cfg.reportRate (u.taiOfSoc (c37Soc f) (c37Fracsec f) * 1000000000
        + ((2 * bitsOf (c37Fracsec f) 23 0 * 1000000000 + e.cfg.rate) / (2 * max 1 e.cfg.rate) : Nat) : Int).toNat = .on p
      ∧ dupMarked { e with stat10 := stat10Of f } (u.rate g) p = false ∧ u.isFuture g f.stamp p = false) :=
  ⟨(withStream .c37 (.c37 7 4712 0) .valid).setReg (Reg.ALN_RG_CFG 0) 50, c37Of, 0, streamOf .c37 (.c37 7 4712 0) .valid, (100, 0), by decide +kernel⟩
theorem witness_sv_unknown : ∃ (s : State) (f : SvFrame), s.entryOf (.sv f.appid f.svIdLen f.svIdCrc f.dmac) (fun y => y == .sv92 || y == .sv61869) = none :=
  ⟨State.reset, anSv, by decide +kernel⟩
theorem witness_sv_placed : ∃ (s : State) (f : SvFrame) (i : Nat) (e : StreamEntry), s.entryOf (.sv f.appid f.svIdLen f.svIdCrc f.dmac) (fun y => y == .sv92 || y == .sv61869) = some (i, e)
    ∧ e.state = .valid ∧ f.asdus.length = e.cfg.units ∧ ∀ a, a ∈ f.asdus → a.data.length ≤ 32 ∧ revMatches e a.confRev = true :=
  ⟨withStream .sv92 (.sv 1 2 3 4) .valid, anSv, 0, streamOf .sv92 (.sv 1 2 3 4) .valid, by decide +kernel⟩
theorem witness_goose_unknown : ∃ (s : State) (f : GooseFrame), s.entryOf (.goose f.appid f.refLen f.refCrc f.dmac) (· == .goose) = none :=
  ⟨State.reset, aGoose, by decide +kernel⟩
theorem witness_goose_placed : ∃ (s : State) (f : GooseFrame) (i : Nat) (e : StreamEntry), s.entryOf (.goose f.appid f.refLen f.refCrc f.dmac) (· == .goose) = some (i, e) ∧ e.state = .valid
    ∧ kvGet s.dec.streams i = some e ∧ revMatches e f.confRev = true ∧ f.elems.map (fun x => x.1) = e.cfg.elems ∧ e.goose = none ∧ e.talLogged = false :=
  ⟨withStream .goose (.goose 1 2 3 4) .valid, aGoose, 0, streamOf .goose (.goose 1 2 3 4) .valid, by decide +kernel⟩
theorem witness_pdu_checked : ∃ (s : State) (p : SessionPdu) (f : SvFrame) (i : Nat) (e : StreamEntry), p.payload = .sv f ∧ p.encAlg = 0 ∧ p.sigAlg = 0 ∧ e.cfg.curSlot = 0xFFFF
    ∧ s.entryOf (.sv f.appid f.svIdLen f.svIdCrc f.dmac) (fun y => y == StreamType.rsv) = some (i, e) ∧ e.state = .valid
    ∧ (e.anySpdu = true → 0 < (p.spdu - e.lastSpdu).toNat ∧ (p.spdu - e.lastSpdu).toNat < 2 ^ 31) :=
  ⟨withStream .rsv (.sv 1 2 3 4) .valid, aPdu (.sv anSv), anSv, 0, streamOf .rsv (.sv 1 2 3 4) .valid, by decide +kernel⟩
theorem witness_pdu_tunnelled : ∃ (p : SessionPdu) (port stamp : Nat), p.payload = .tunnelled port stamp :=
  ⟨aPdu (.tunnelled 5 0), 5, 0, rfl⟩
theorem witness_st_disable : ∃ (s : State) (e : StreamEntry), kvGet s.dec.streams s.selStream = some e ∧ e.cfg.typ ≠ .unused :=
  ⟨withStream .c37 (.c37 7 4712 0) .valid, streamOf .c37 (.c37 7 4712 0) .valid, by decide +kernel⟩
theorem witness_st_enable : ∃ (s : State) (e : StreamEntry), kvGet s.dec.streams s.selStream = some e ∧ e.cfg.typ ≠ .unused ∧ e.state = .disabled :=
  ⟨withStream .c37 (.c37 7 4712 0) .disabled, streamOf .c37 (.c37 7 4712 0) .disabled, by decide +kernel⟩
theorem witness_st_reparse : ∃ (s : State) (e : StreamEntry), kvGet s.dec.streams s.selStream = some e ∧ e.withdrawn = true ∧ e.cfg.typ = .c37 :=
  ⟨withStream .c37 (.c37 7 4712 0) .rejected, streamOf .c37 (.c37 7 4712 0) .rejected, by decide +kernel⟩
theorem witness_reparse_attempt : ∃ (s : State) (stream n last : Nat) (e : StreamEntry), kvGet s.dec.streams stream = some e ∧ e.reparse = some (n, last) ∧ e.withdrawn = true
    ∧ n < 3 ∧ (n = 0 ∨ last + 2000000000 ≤ s.elapsed) :=
  ⟨reparsing, 0, 0, 0, { streamOf .c37 (.c37 7 4712 0) .rejected with reparse := some (0, 0), retryAt := some 0 }, by decide +kernel⟩
theorem witness_cfg_frame : ∃ (s : State) (stream : Nat) (f : CfgFrame) (e : StreamEntry), kvGet s.dec.streams stream = some e ∧ e.withdrawn = true ∧ e.reparse.isSome = true
    ∧ s.cfgCondition e f ≠ 0 :=
  ⟨reparsing, 0, aCfgFrame 9, { streamOf .c37 (.c37 7 4712 0) .rejected with reparse := some (0, 0), retryAt := some 0 }, by decide +kernel⟩
theorem witness_cfg_frame_good : ∃ (s : State) (stream : Nat) (f : CfgFrame) (e : StreamEntry), kvGet s.dec.streams stream = some e ∧ e.withdrawn = true ∧ e.reparse.isSome = true
    ∧ s.cfgCondition e f = 0 ∧ s.group e.cfg.rg = none :=
  ⟨reparsing, 0, aCfgFrame 7, { streamOf .c37 (.c37 7 4712 0) .rejected with reparse := some (0, 0), retryAt := some 0 }, by decide +kernel⟩
theorem witness_reparse_retry : ∃ (s : State) (stream at_ : Nat) (e : StreamEntry), kvGet s.dec.streams stream = some e ∧ e.retryAt = some at_ ∧ e.state = .rejected
    ∧ e.cfg.typ = .c37 ∧ at_ ≤ s.elapsed :=
  ⟨reparsing, 0, 0, { streamOf .c37 (.c37 7 4712 0) .rejected with reparse := some (0, 0), retryAt := some 0 }, by decide +kernel⟩
theorem witness_out_cmd : ∃ (s : State) (o : Nat) (x : OutState), o < 64 ∧ s.out o = some x ∧ s.drives = true :=
  ⟨withOut, 63, anOut, by decide +kernel⟩
theorem witness_out_send : ∃ (s : State) (o p kind : Nat) (c : Instr) (x : OutState), s.out o = some x ∧ s.drives = true ∧ x.cfg.command.getD x.cfg.dest = .port p
    ∧ p < s.ports.length ∧ s.linkIsUp p = true ∧ s.paired p = false
    ∧ (c = .outCmdSendHdr o ∧ kind = 0 ∨ c = .outCmdSendCfg1 o ∧ kind = 1 ∨ c = .outCmdSendCfg2 o ∧ kind = 2 ∨ c = .outCmdSendCfg3 o ∧ kind = 3) :=
  ⟨(withOut.setReg (Reg.SPT_PORT_CTRL 0) 1).setReg (Reg.SPT_PORT_STATUS 0) 1, 63, 0, 3, .outCmdSendCfg3 63, anOut, by decide +kernel, by decide +kernel, by decide +kernel, by decide +kernel, by decide +kernel, by decide +kernel, .inr (.inr (.inr ⟨rfl, rfl⟩))⟩
theorem witness_out_change : ∃ (s : State) (o at_ : Nat) (x : OutState), o < 64 ∧ s.out o = some x ∧ x.pendAt = some at_ ∧ at_ ≤ s.now :=
  ⟨withOut, 63, 0, anOut, by decide +kernel⟩
theorem witness_out_frame : ∃ (s : State) (o tag : Nat) (x : OutState), o < 64 ∧ s.out o = some x ∧ x.cfg.id = o ∧ s.drives = true ∧ tag ≤ s.now
    ∧ s.outSends x tag = true ∧ s.outReady x tag = true :=
  ⟨withOut, 63, 0, anOut, by decide +kernel⟩
theorem witness_rsv_publish : ∃ (s : State) (p tag : Nat) (x : RsvState) (q : Nat × Nat), p < 32 ∧ s.dec.rsvs.find? (fun y => y.cfg.id == p) = some x ∧ s.drives = true
    ∧ s.flag (Reg.DEC_RSV_CTRL p) 0 = true ∧ [1, 2, 4, 5].contains (s.field (Reg.DEC_RSV_CTRL p) 10 8) = true
    ∧ (∀ last, x.lastTag = some last → last < tag) ∧ gridNear (s.rate x.cfg.rg) tag = some q ∧ gridTag (s.rate x.cfg.rg) q.1 q.2 = tag ∧ tag ≤ s.now
    ∧ s.caddyCheck { id := 0, master := .pubAuth, secure := true, slot := x.cfg.slot, use := .macGenerate, data := [] } = none :=
  ⟨withRsv, 31, 0, anRsv, (0, 0), by decide +kernel, by decide +kernel, by decide +kernel, by decide +kernel, by decide +kernel, (fun _ h => nomatch h), by decide +kernel, by decide +kernel, by decide +kernel, by decide +kernel⟩
theorem witness_dec_commit_running : ∃ (s : State), ∀ g, g < 4 → (s.group g).isSome = true :=
  ⟨fourGroups, by decide +kernel⟩
theorem witness_rollover : ∃ (s : State), 2 ^ 32 ≤ s.nsSum ∧ s.nsSum < 2 ^ 33 :=
  ⟨{ State.reset with tim := { ns := 0xFFFFFFFF } }, by decide +kernel⟩
theorem witness_host_mode : ∃ (s : State), s.hostMode = true :=
  ⟨hostTime, by decide +kernel⟩
theorem witness_auto_mode : ∃ (s : State), s.hostMode = false :=
  ⟨State.reset, by decide +kernel⟩
theorem witness_inc_write : ∃ (s : State) (hi : Word), s.hostMode = true ∧ exceeds (((hi.toNat % 256 * 2 ^ 32 + (s.lowHalf Reg.TIM_INC_LO).toNat : Nat) : Int) - incNominal) incLimit.toNat = false :=
  ⟨hostTime, 2, by decide +kernel⟩
theorem witness_host_sync : ∃ (s : State) (value : Word), s.hostMode = true ∧ bitsOf value 2 0 ≤ 3 :=
  ⟨hostTime, 3, by decide +kernel⟩
theorem witness_extension_bad : ∃ (s : State), exceeds ((s.now : Int) - ((s.tim.checkDt + (s.tim.ticks - s.tim.checkTicks) * s.inc / 2 ^ 32 : Nat) : Int)) 1000000 = true :=
  ⟨{ State.reset with tim := { ns := 1000001 } }, by decide +kernel⟩
theorem witness_extension_good : ∃ (s : State), exceeds ((s.now : Int) - ((s.tim.checkDt + (s.tim.ticks - s.tim.checkTicks) * s.inc / 2 ^ 32 : Nat) : Int)) 1000000 = false :=
  ⟨{ State.reset with tim := { ns := 1000000 } }, by decide +kernel⟩
theorem witness_source_timeout : ∃ (s : State), s.hostMode = false ∧ s.tim.lastMeas + s.srcTimeout ≤ s.elapsed ∧ s.syncState = 2 :=
  ⟨({ State.reset with tim := { ticks := 40000000000 } } : State).setReg Reg.TIM_STATUS 2, by decide +kernel⟩
theorem witness_ptp_bad : ∃ (s : State) (m : PtpMsg), s.ptpReaches m = true ∧ s.ptpSupported m = false :=
  ⟨ptpOn, aPtp 6, by decide +kernel⟩
theorem witness_ptp_good : ∃ (s : State) (m : PtpMsg) (d : PtpDataset), s.ptpReaches m = true ∧ s.ptpSupported m = true ∧ m.body = .announce d :=
  ⟨ptpOn, aPtp 5, aDataset, by decide +kernel⟩
theorem witness_irig_bad : ∃ (s : State) (f : IrigFrame), s.flag Reg.TIM_IRIG_CTRL 0 = true ∧ s.irigOk f = false :=
  ⟨State.reset.setReg Reg.TIM_IRIG_CTRL 1, anIrig false, by decide +kernel⟩
theorem witness_irig_first : ∃ (s : State) (f : IrigFrame), s.flag Reg.TIM_IRIG_CTRL 0 = true ∧ s.irigOk f = true ∧ s.tim.irig = none :=
  ⟨State.reset.setReg Reg.TIM_IRIG_CTRL 1, anIrig true, by decide +kernel⟩
theorem witness_irig_next : ∃ (s : State) (f : IrigFrame) (u e : Nat) (b : Bool), s.flag Reg.TIM_IRIG_CTRL 0 = true ∧ s.flag Reg.TIM_IRIG_CTRL 2 = false ∧ s.irigOk f = true
    ∧ s.tim.irig = some (u, e, b) ∧ (s.irigUtc f).toNat = u + 1 :=
  ⟨({ State.reset with tim := { irig := some (0, 0, false) } } : State).setReg Reg.TIM_IRIG_CTRL 1, { anIrig true with digits := [1, 0, 0, 0, 0, 0, 1, 0, 0] }, 0, 0, false, by decide +kernel⟩
theorem witness_pps_next : ∃ (s : State) (at_ : Nat) (ok : Bool), s.tim.pps = some (at_, ok) ∧ 999000000 ≤ s.elapsed - at_ ∧ s.elapsed - at_ ≤ 1001000000 :=
  ⟨{ State.reset with tim := { pps := some (0, false), ticks := 390625000 } }, 0, false, by decide +kernel⟩
theorem witness_pps_first : ∃ (s : State), s.tim.pps = none :=
  ⟨State.reset, rfl⟩
theorem witness_pps_miss : ∃ (s : State) (at_ : Nat) (ok : Bool), s.tim.pps = some (at_, ok) ∧ s.tim.lastPps + 1001000000 < s.elapsed :=
  ⟨{ State.reset with tim := { pps := some (0, true), ticks := 400000000 } }, 0, true, by decide +kernel⟩
theorem witness_source_fault : ∃ (s : State) (src at_ : Nat), kvGet s.tim.faults src = some at_ ∧ at_ ≤ s.elapsed :=
  ⟨{ State.reset with tim := { faults := [(2, 0)] } }, 2, 0, by decide +kernel⟩
theorem witness_pps_out_end : ∃ (s : State) (at_ : Nat), s.tim.ppsEnd = some at_ ∧ at_ ≤ s.elapsed :=
  ⟨{ State.reset with tim := { ppsEnd := some 0 } }, 0, by decide +kernel⟩
theorem witness_second_due : ∃ (s : State), s.tim.lastSec < s.second :=
  ⟨{ State.reset with tim := { ns := 1000000000 } }, by decide +kernel⟩
theorem witness_second_done : ∃ (s : State), s.second ≤ s.tim.lastSec :=
  ⟨State.reset, by decide +kernel⟩
theorem witness_row_boundary : ∃ (s : State) (rg : Nat) (x y : GroupState), rg < 4 ∧ s.group rg = some x ∧ opensAt x (s.rate rg) ≤ s.now
    ∧ ((s.commitAtRow rg (opensAt x (s.rate rg))).atTag rg (gridPrev (s.rate rg) (x.nextS, x.nextK))).group rg = some y :=
  ⟨oneGroup, 0, aGroup, aGroup, by decide +kernel⟩
theorem witness_row_early : ∃ (s : State) (rg : Nat) (x : GroupState), s.group rg = some x ∧ s.now < opensAt x (s.rate rg) :=
  ⟨{ State.reset.setReg (Reg.ALN_RG_CFG 0) 50 with aln := { State.reset.aln with groups := [(0, { nextS := 1, nextK := 0 })] } }, 0, { nextS := 1, nextK := 0 }, by decide +kernel⟩
theorem witness_section_deadline : ∃ (s : State) (rg tag sec : Nat) (f : Furrow), s.furrow rg tag = some f ∧ f.isClosed sec = false ∧ sec < 64 ∧ sec < s.sectionCount rg ∧ tag + f.deadlines.getD sec 0 ≤ s.now ∧ s.flag Reg.OSC_CTRL 0 = false ∧ s.flag Reg.OSC_CTRL 1 = false :=
  ⟨oneRow, 0, 0, 0, aRow, by decide +kernel⟩
theorem witness_section_closed : ∃ (s : State) (rg tag sec : Nat) (f : Furrow), s.furrow rg tag = some f ∧ f.isClosed sec = true :=
  ⟨oneRow, 0, 0, 5, aRow, by decide +kernel⟩
theorem witness_row_retire : ∃ (s : State) (rg : Nat) (x y : GroupState) (f k : Furrow), rg < 4 ∧ s.group rg = some x ∧ x.furrows.head? = some f ∧ f.tag + f.hg ≤ s.now
    ∧ (let u := ((s.fillRow rg).oscDue).meterTemp rg f.tag
      let v := ((u.digestRow rg ((u.furrow rg f.tag).getD f)).captureRow rg ((u.furrow rg f.tag).getD f)).keepLatest ((u.furrow rg f.tag).getD f) rg
      v.group rg = some y ∧ y.furrows.head? = some k) :=
  ⟨oneRow, 0, { furrows := [aRow] }, retired oneRow, aRow, closedRow oneRow, by decide +kernel⟩
theorem witness_row_young : ∃ (s : State) (rg : Nat) (x : GroupState) (f : Furrow), s.group rg = some x ∧ x.furrows.head? = some f ∧ s.now < f.tag + f.hg :=
  ⟨{ State.reset with aln := { State.reset.aln with groups := [(0, { furrows := [{ aRow with hg := 1 }] })] } }, 0, { furrows := [{ aRow with hg := 1 }] }, { aRow with hg := 1 }, by decide +kernel⟩
theorem witness_glean : ∃ (s : State) (e : GleanEntry) (r : List GleanEntry), s.aln.intake = e :: r ∧ s.flag Reg.OSC_CTRL 0 = false ∧ s.flag Reg.OSC_CTRL 1 = false :=
  ⟨{ State.reset with aln := { intake := [aGlean] } }, aGlean, [], by decide +kernel⟩
theorem witness_groups_running : ∃ (s : State), ∀ g, g < 4 → (s.group g).isSome = true :=
  ⟨fourGroups, by decide +kernel⟩
theorem witness_group_stopped : ∃ (s : State) (g : Nat), g < 4 ∧ s.group g = none :=
  ⟨State.reset, 3, by decide +kernel⟩
theorem witness_channel_stall : ∃ (s : State) (chan : Nat), chan < 8208 ∧ s.flag (Reg.WAV_CH_CTRL chan) 0 = true ∧ s.flag (Reg.WAV_CH_STATUS chan) 1 = false
    ∧ (s.wch chan).lastArr + 10000000 ≤ s.elapsed :=
  ⟨stalled, 8207, by decide +kernel⟩
theorem witness_afe_on : ∃ (s : State), s.flag Reg.WAV_CTRL 1 = true :=
  ⟨State.reset.setReg Reg.WAV_CTRL 3, by decide +kernel⟩
theorem witness_sync_arm : ∃ (s : State) (value : Word), value.getLsbD 4 = true ∧ ¬(bitsOf value 1 0 = 2 ∧ s.pair Reg.WAV_SYNC_SEC_LO Reg.WAV_SYNC_SEC_HI ≤ s.second) :=
  ⟨State.reset, 0x11, by decide +kernel⟩
theorem witness_sync_late : ∃ (s : State) (value : Word), value.getLsbD 4 = true ∧ bitsOf value 1 0 = 2 ∧ s.pair Reg.WAV_SYNC_SEC_LO Reg.WAV_SYNC_SEC_HI ≤ s.second :=
  ⟨State.reset, 0x12, by decide +kernel⟩
theorem witness_afe_episode : ∃ (s : State) (input at_ : Nat), (s.afe input).episode = some at_ ∧ at_ + 1000000 ≤ s.now :=
  ⟨{ State.reset with wav := { afe := [(3, { episode := some 0 })] }, tim := { ns := 1000000 } }, 3, 0, by decide +kernel⟩
theorem witness_steep_close : ∃ (s : State) (mp : Nat) (x : MeterPoint), s.meter mp = some x ∧ s.meterOn mp = true ∧ s.steepDone mp x = true :=
  ⟨meterDone, 63, aMeter 4000000000000, by decide +kernel⟩
theorem witness_steep_timeout : ∃ (s : State) (mp : Nat) (x : MeterPoint), s.meter mp = some x ∧ s.meterOn mp = true ∧ s.steepDone mp x = false ∧ s.steepEnd mp x + 1000000000 ≤ s.now :=
  ⟨meterLate, 63, aMeter 0, by decide +kernel⟩
theorem witness_pulse_start : ∃ (s : State) (k : Nat), k < 8 ∧ k < s.mtr.pulses.length ∧ (s.pulse k).issued < (s.pulse k).total ∧ (s.pulse k).activeEnd = none
    ∧ (s.pulse k).gapEnd ≤ s.elapsed ∧ s.drives = true :=
  ⟨pulsing none, 7, by decide +kernel⟩
theorem witness_pulse_end : ∃ (s : State) (k at_ : Nat), k < s.mtr.pulses.length ∧ (s.pulse k).activeEnd = some at_ ∧ at_ ≤ s.elapsed :=
  ⟨pulsing (some 0), 7, 0, by decide +kernel⟩
theorem witness_save_period : ∃ (s : State), s.mtr.lastSave + (s.reg Reg.MTR_SAVE_PERIOD).toNat * 1000000000 ≤ s.elapsed ∧ s.mtr.saving = none :=
  ⟨{ State.reset with tim := { ticks := 1500000000000 } }, by decide +kernel⟩
theorem witness_save_done : ∃ (s : State) (v : MeterSave), s.mtr.saving = some v ∧ s.flag Reg.MTR_SAVE 0 = false :=
  ⟨{ State.reset with mtr := { saving := some aSave } }, aSave, by decide +kernel⟩
theorem witness_meters_on : ∃ (s : State), ∀ m, m < 64 → s.meterOn m = true ∧ (s.meter m).isSome = true :=
  ⟨allMeters, by decide +kernel⟩
theorem witness_osc_instant : ∃ (s : State) (group : Nat), group < 32 ∧ s.oscOn group = true
    ∧ (s.oscGroup group).instant < s.now / max 1 (s.field (Reg.OSC_G_REFRESH group) 13 0 * 1000000) * (s.field (Reg.OSC_G_REFRESH group) 13 0 * 1000000) :=
  ⟨oscReady, 31, by decide +kernel⟩
theorem witness_osc_done : ∃ (s : State) (group : Nat) (run : OscRun), group < 32 ∧ (s.oscGroup group).running = some run :=
  ⟨{ State.reset with osc := { groups := [(31, { running := some aRun })] } }, 31, aRun, by decide +kernel⟩
theorem witness_switching_branch : ∃ (s : State) (r : BranchRec), s.top.branches[s.field Reg.TOP_SW_INDEX 15 0]? = some r ∧ r.switching = true :=
  ⟨{ State.reset with top := { branches := [aBranch true] } }, aBranch true, by decide +kernel⟩
theorem witness_impedance_branch : ∃ (s : State), ∀ r, s.top.branches[s.field Reg.TOP_SW_INDEX 15 0]? = some r → r.switching = false :=
  ⟨State.reset, fun _ h => nomatch h⟩
theorem witness_se_row : ∃ (s : State) (idx : Nat) (f : Furrow), (s.group s.topRg).bind (fun x => x.furrows.find? (fun f => f.idx == idx)) = some f ∧ s.flag Reg.TOP_CTRL 0 = true
    ∧ (∀ n, s.top.lastRow = some n → n < idx) ∧ f.tag + 20000 ≤ s.now ∧ s.topSections.all (fun i => f.isClosed i) = true :=
  ⟨topRow, 0, aRow, by decide +kernel, by decide +kernel, (fun _ h => nomatch h), by decide +kernel, by decide +kernel⟩
theorem witness_se_solve : ∃ (s : State) (r : TopRow), s.topNext true = some r :=
  ⟨{ State.reset with top := { rows := [aTopRow] } }, aTopRow, by decide +kernel⟩
theorem witness_island_row : ∃ (s : State) (r : TopRow), s.topNext false = some r :=
  ⟨{ State.reset with top := { rows := [aTopRow] } }, aTopRow, by decide +kernel⟩
theorem witness_coalesce : ∃ (s : State) (at_ : Nat), s.top.coalesceAt = some at_ ∧ at_ ≤ s.now ∧ s.flag Reg.TOP_CTRL 1 = true :=
  ⟨({ State.reset with top := { coalesceAt := some 0 } } : State).setReg Reg.TOP_CTRL 2, 0, by decide +kernel⟩
theorem witness_refac_fits : ∃ (s : State) (f : Factor) (at_ : Nat), s.top.building = some (f, at_) ∧ f.nnz ≤ (s.reg Reg.TOP_NNZ_MAX).toNat ∧ s.top.pending = false :=
  ⟨{ State.reset with top := { building := some (aFactor 0, 0) } }, aFactor 0, 0, by decide +kernel⟩
theorem witness_refac_fails : ∃ (s : State) (f : Factor) (at_ : Nat), s.top.building = some (f, at_) ∧ (s.reg Reg.TOP_NNZ_MAX).toNat < f.nnz ∧ s.top.pending = false :=
  ⟨{ State.reset with top := { building := some (aFactor 1, 0) } }, aFactor 1, 0, by decide +kernel⟩
theorem witness_intermediate : ∃ (s : State) (branch at_ : Nat) (r : BranchRec), (s.sw branch).interAt = some at_ ∧ s.top.branches[branch]? = some r ∧ s.flag Reg.TOP_CTRL 0 = true
    ∧ r.switching = true ∧ (s.sw branch).interDone = false ∧ at_ + s.field Reg.TOP_INTERMEDIATE 15 0 * 1000000 ≤ s.now :=
  ⟨betweenStates, 0, 0, aBranch true, by decide +kernel⟩
theorem witness_top_commit : ∃ (s : State), (s.group s.topRg).isSome = true :=
  ⟨fourGroups, by decide +kernel⟩
theorem witness_graph_create : ∃ (s : State) (graph : Nat) (x : GraphState) (k : HeldTrigger) (rest : List HeldTrigger), s.graph graph = some x ∧ x.waiting = k :: rest ∧ x.awaits = false
    ∧ s.flag Reg.DFS_CTRL 0 = true ∧ x.halted = false ∧ x.lost = false ∧ s.graphShed x.cfg = false ∧ (s.liveInsts graph).length < 16 :=
  ⟨graphWaiting false, 0, aGraph false, aTrigger, [], by decide +kernel⟩
theorem witness_graph_halted : ∃ (s : State) (graph : Nat) (x : GraphState) (k : HeldTrigger) (rest : List HeldTrigger), s.graph graph = some x ∧ x.waiting = k :: rest ∧ x.awaits = false
    ∧ x.halted = true :=
  ⟨graphWaiting true, 0, aGraph true, aTrigger, [], by decide +kernel⟩
theorem witness_dispatch : ∃ (s u v : State) (pe : Nat) (r : ReadyRef), s.flag Reg.DFS_CTRL 0 = true ∧ (clusterPes (clusterOf pe)).contains pe = true ∧ s.peUp pe = true
    ∧ (s.engine pe).running = none ∧ (s.engine pe).suspended = none
    ∧ s.firstReservable (clusterOf pe) (s.refs (clusterOf pe) (fun _ o => o.phase == .ready)) = (u, some (r, v)) ∧ v.targetOf (clusterOf pe) r = some pe ∧ pe < v.dfs.engines.length :=
  ⟨engines [] [anInst 3 0 (anOpInst .ready false)], _, _, 0, _, by decide +kernel, by decide +kernel, by decide +kernel, by decide +kernel, by decide +kernel, rfl, by decide +kernel, by decide +kernel⟩
theorem witness_yield_ : ∃ (s : State) (pe id n : Nat) (i : GraphInst) (o : OpInst), (s.engine pe).running = some (id, n) ∧ s.inst id = some i ∧ i.op n = some o ∧ o.cancelRun = false
    ∧ s.instLc i ≠ 0 ∧ (s.engine pe).suspended = none ∧ 0 < s.readyCount (clusterOf pe) 0 ∧ (s.idleFor (clusterOf pe) 0).isEmpty = true ∧ pe < s.dfs.engines.length :=
  ⟨engines (List.replicate 8 { running := some (3, 0) }) [anInst 3 0 (anOpInst (.running 0) false), anInst 4 1 (anOpInst .ready false)], 0, 3, 0, anInst 3 0 (anOpInst (.running 0) false), anOpInst (.running 0) false, by decide +kernel⟩
theorem witness_complete : ∃ (s : State) (pe id n : Nat) (i : GraphInst) (o : OpInst) (x : GraphState), (s.engine pe).running = some (id, n) ∧ s.inst id = some i ∧ i.op n = some o
    ∧ s.graph i.graph = some x ∧ o.cancelRun = true ∧ pe < s.dfs.engines.length :=
  ⟨engines [{ running := some (3, 0) }] [anInst 3 0 (anOpInst (.running 0) true)], 0, 3, 0, anInst 3 0 (anOpInst (.running 0) true), anOpInst (.running 0) true, aGraph false, by decide +kernel⟩
theorem witness_complete_whole : ∃ (s : State) (pe id n : Nat) (i : GraphInst) (o : OpInst) (x : GraphState), (s.engine pe).running = some (id, n) ∧ s.inst id = some i ∧ i.op n = some o
    ∧ s.graph i.graph = some x ∧ o.cancelRun = false ∧ pe < s.dfs.engines.length :=
  ⟨engines [{ running := some (3, 0) }] [anInst 3 0 (anOpInst (.running 0) false)], 0, 3, 0, anInst 3 0 (anOpInst (.running 0) false), anOpInst (.running 0) false, aGraph false, by decide +kernel⟩
theorem witness_delay_due : ∃ (s : State), (s.dfs.delayTick + 1) * 10000 ≤ s.elapsed :=
  ⟨{ State.reset with tim := { ticks := 3907 } }, by decide +kernel⟩
theorem witness_delay_early : ∃ (s : State), s.elapsed < (s.dfs.delayTick + 1) * 10000 :=
  ⟨{ State.reset with tim := { ticks := 3906 } }, by decide +kernel⟩
theorem witness_epoch_due : ∃ (s : State), s.epochDue = true :=
  ⟨({ State.reset with tim := { ns := 1000000000 } } : State).setReg Reg.DFS_SOWER_EPOCH 1, by decide +kernel⟩
theorem witness_fence : ∃ (s : State) (pe : Nat), pe < 64 ∧ s.peUp pe = true :=
  ⟨State.reset, 63, by decide +kernel⟩
theorem witness_graph_there : ∃ (s : State) (graph : Nat) (x : GraphState), s.graph graph = some x :=
  ⟨graphWaiting false, 0, aGraph false, by decide +kernel⟩
theorem witness_cycle_skip : ∃ (s : State) (task : Nat), task < 4 ∧ task < s.cyc.tasks.length ∧ s.taskOn task = true ∧ (s.task task).stopped = false ∧ (s.task task).nextStart ≤ s.now
    ∧ (s.task task).waitingW = false ∧ (s.task task).running = true :=
  ⟨cycling { running := true }, 3, by decide +kernel⟩
theorem witness_cycle_start : ∃ (s : State) (task : Nat), task < 4 ∧ task < s.cyc.tasks.length ∧ s.taskOn task = true ∧ (s.task task).stopped = false ∧ (s.task task).nextStart ≤ s.now
    ∧ (s.task task).waitingW = false ∧ (s.task task).running = false :=
  ⟨cycling {}, 3, by decide +kernel⟩
theorem witness_logic_complete : ∃ (s : State) (task : Nat) (a : ProgArea), task < 4 ∧ task < s.cyc.tasks.length ∧ (s.task task).running = true ∧ s.cyc.run = some a
    ∧ (s.task task).late = false ∧ s.elapsed ≤ (s.task task).wAt :=
  ⟨cycling { running := true }, 3, aProgram, by decide +kernel⟩
theorem witness_write_late : ∃ (s : State) (task : Nat), task < s.cyc.tasks.length ∧ (s.task task).running = true ∧ (s.task task).wAt ≤ s.elapsed :=
  ⟨cycling { running := true }, 3, by decide +kernel⟩
theorem witness_write_point : ∃ (s : State) (task : Nat), (s.task task).running = false ∧ (s.task task).waitingW = true ∧ (s.task task).wAt ≤ s.elapsed :=
  ⟨cycling { waitingW := true }, 3, by decide +kernel⟩
theorem witness_peer_old : ∃ (s : State) (v : PeerRx) (p : PeerVal), p ∈ s.cyc.peers ∧ p.writer = v.writer ∧ v.startGts < p.startGts :=
  ⟨{ State.reset with cyc := { peers := [aPeer] } }, aPeerRx 0, aPeer, by decide +kernel⟩
theorem witness_peer_new : ∃ (s : State) (v : PeerRx), ∀ p, p ∈ s.cyc.peers → p.writer ≠ v.writer :=
  ⟨State.reset, aPeerRx 0, fun _ h => nomatch h⟩
theorem witness_exchange : ∃ (s : State) (h acc : Nat) (old new : ProgArea), s.cyc.exch = some (h, acc) ∧ s.cyc.run = some old ∧ s.cyc.standby = some new
    ∧ s.now % 1000000000 < 1000 ∧ acc + 100000000 ≤ s.elapsed
    ∧ (List.range 4).all (fun k => (s.task k).offset == 0 && !(s.task k).running && !(s.task k).waitingW) = true :=
  ⟨exchanging 40000000, 1, 0, aProgram, aProgram, by decide +kernel⟩
theorem witness_exchange_timeout : ∃ (s : State) (h acc : Nat), s.cyc.exch = some (h, acc) ∧ acc + 60000000000 ≤ s.elapsed :=
  ⟨exchanging 30000000000, 1, 0, by decide +kernel⟩
theorem witness_retransmit : ∃ (s : State) (alm : Bool) (p at_ : Nat) (x : PubState), s.pub alm p = some x ∧ x.nextAt = some at_ ∧ at_ ≤ s.elapsed ∧ s.drives = true :=
  ⟨withPub, true, 0, 0, aPub, by decide +kernel⟩
theorem witness_handoff_stale : ∃ (s : State) (h : Handoff) (r : List Handoff) (x : AlarmState) (k : Nat), s.flag Reg.ALM_CTRL 0 = true ∧ s.alm.handoffs = h :: r
    ∧ s.alarm h.alarm = some x ∧ x.lastKey = some k ∧ h.key < k :=
  ⟨alarmed (some 5) [aHandoff 4 true], aHandoff 4 true, [], anAlarm (some 5), 5, by decide +kernel⟩
theorem witness_handoff_same : ∃ (s : State) (h : Handoff) (r : List Handoff) (x : AlarmState), s.flag Reg.ALM_CTRL 0 = true ∧ s.alm.handoffs = h :: r
    ∧ s.alarm h.alarm = some x ∧ (∀ k, x.lastKey = some k → k ≤ h.key) ∧ x.cond = h.active :=
  ⟨alarmed (some 5) [aHandoff 5 false], aHandoff 5 false, [], anAlarm (some 5), by decide +kernel, by decide +kernel, by decide +kernel, (fun k h => by cases h; decide), by decide +kernel⟩
theorem witness_handoff_changes : ∃ (s : State) (h : Handoff) (r : List Handoff) (x : AlarmState), s.flag Reg.ALM_CTRL 0 = true ∧ s.alm.handoffs = h :: r
    ∧ s.alarm h.alarm = some x ∧ (∀ k, x.lastKey = some k → k ≤ h.key) ∧ x.cond ≠ h.active :=
  ⟨alarmed none [aHandoff 0 true], aHandoff 0 true, [], anAlarm none, by decide +kernel, by decide +kernel, by decide +kernel, (fun _ h => nomatch h), by decide +kernel⟩
theorem witness_ack : ∃ (s : State) (value : Word) (x : AlarmState), s.alarm (bitsOf value 11 0) = some x ∧ x.chg = BitVec.ofNat 16 (bitsOf value 31 16) ∧ x.unacked = true :=
  ⟨alarmed none [], 4095, anAlarm none, by decide +kernel⟩
theorem witness_ack_refused : ∃ (s : State) (value : Word) (x : AlarmState), s.alarm (bitsOf value 11 0) = some x ∧ x.chg ≠ BitVec.ofNat 16 (bitsOf value 31 16) :=
  ⟨alarmed none [], 0x10FFF, anAlarm none, by decide +kernel⟩
theorem witness_ack_all : ∃ (s : State) (value : Word) (a : Nat) (x : AlarmState), (s.alm.alarms.map (fun v => v.1)).Nodup ∧ s.alarm a = some x ∧ x.unacked = true
    ∧ value.getLsbD (x.cfg.sev % 4) = true :=
  ⟨alarmed none [], 15, 4095, anAlarm none, by decide +kernel⟩
theorem witness_pin_hold : ∃ (s : State) (pin : Nat), pin < s.alm.pins.length ∧ (s.alm.pins.getD pin {}).holding = true ∧ (s.alm.pins.getD pin {}).byAlm = true
    ∧ (s.alm.pins.getD pin {}).active = true ∧ s.alm.alarms.any (fun x => x.2.cfg.pins.getLsbD pin && x.2.output) = false
    ∧ (s.alm.pins.getD pin {}).since + s.field (Reg.ALM_PIN_CTRL pin) 25 16 * 1000000 ≤ s.elapsed ∧ s.mirrored = false :=
  ⟨{ State.reset with alm := { pins := [{ byAlm := true, active := true, holding := true }] } }, 0, by decide +kernel⟩
theorem witness_pin_early : ∃ (s : State) (pin : Nat), (s.alm.pins.getD pin {}).holding = true ∧ (s.alm.pins.getD pin {}).byAlm = true ∧ (s.alm.pins.getD pin {}).active = true
    ∧ s.alm.alarms.any (fun x => x.2.cfg.pins.getLsbD pin && x.2.output) = false
    ∧ s.elapsed < (s.alm.pins.getD pin {}).since + s.field (Reg.ALM_PIN_CTRL pin) 25 16 * 1000000 :=
  ⟨({ State.reset with alm := { pins := [{ byAlm := true, active := true, holding := true }] } } : State).setReg (Reg.ALM_PIN_CTRL 0) 0x10000, 0, by decide +kernel⟩
theorem witness_pub_change : ∃ (s : State) (p : Nat) (x : PubState), s.pub true p = some x ∧ x.change.isSome = true ∧ s.drives = true :=
  ⟨withPub, 0, aPub, by decide +kernel⟩
theorem witness_hold_refused : ∃ (s : State) (n : Nat), n < 8 ∧ 1000 < bitsOf (s.staged (Reg.ALM_PIN_CTRL n)) 25 16 :=
  ⟨State.reset.stageReg (Reg.ALM_PIN_CTRL 7) 0x03E90000, 7, by decide +kernel⟩
theorem witness_hold_taken : ∃ (s : State), ∀ n, n < 8 → bitsOf (s.staged (Reg.ALM_PIN_CTRL n)) 25 16 ≤ 1000 :=
  ⟨State.reset.stageReg (Reg.ALM_PIN_CTRL 7) 0x03E80000, by decide +kernel⟩
theorem witness_event_commit : ∃ (s : State) (e : Event) (r : List Event), s.flag Reg.EVR_STATUS 16 = true ∧ s.evr.staging = e :: r ∧ s.evr.lost = none :=
  ⟨recording none, anEvent, [], by decide +kernel⟩
theorem witness_event_room : ∃ (s : State) (e : Event) (r : List Event), s.flag Reg.EVR_STATUS 16 = true ∧ s.evr.staging = e :: r ∧ s.evr.lost = none ∧ s.logFull e.sev = false :=
  ⟨recording none, anEvent, [], by decide +kernel⟩
theorem witness_event_lost : ∃ (s : State) (e : Event) (r : List Event) (l : LostAcc), s.flag Reg.EVR_STATUS 16 = true ∧ s.evr.staging = e :: r ∧ s.evr.lost = some l :=
  ⟨recording (some { first := 0, firstVal := 0 }), anEvent, [], { first := 0, firstVal := 0 }, by decide +kernel⟩
theorem witness_heartbeat : ∃ (s : State), s.flag Reg.EVR_STATUS 16 = true ∧ s.evr.lastBeat + 3600000000000 ≤ s.elapsed :=
  ⟨({ State.reset with tim := { ticks := 1500000000000 } } : State).setReg Reg.EVR_STATUS 0x10000, by decide +kernel⟩
theorem witness_staging_room : ∃ (s : State), s.evr.staging.length < 512 :=
  ⟨State.reset, by decide +kernel⟩
theorem witness_cap_arm : ∃ (s : State) (r : Nat) (x : RecorderState), r < 16 ∧ s.recorder r = some x ∧ s.capOn r = true ∧ s.recState r = 0 :=
  ⟨recorder 0 aRecorder, 15, aRecorder, by decide +kernel⟩
theorem witness_cap_armed : ∃ (s : State) (r : Nat) (x : RecorderState) (f : CapFrame), r < 16 ∧ s.recorder r = some x ∧ s.recState r = 1 ∧ x.frames.getLast? = some f :=
  ⟨recorder 1 aRecorder, 15, aRecorder, aCapFrame, by decide +kernel⟩
theorem witness_cap_active : ∃ (s : State) (r : Nat) (x : RecorderState) (c : Capture), r < 16 ∧ s.recorder r = some x ∧ s.recState r = 2 ∧ x.active = some c :=
  ⟨recorder 2 aRecorder, 15, aRecorder, aCapture, by decide +kernel⟩
theorem witness_force_idle : ∃ (s : State) (r : Nat) (x : RecorderState), r < 16 ∧ s.recorder r = some x ∧ s.recState r ≠ 1 :=
  ⟨recorder 2 aRecorder, 15, aRecorder, by decide +kernel⟩
theorem witness_gather_end : ∃ (s : State) (r at_ : Nat) (x : RecorderState), r < 16 ∧ s.recorder r = some x ∧ x.gatherEnd = some at_ ∧ at_ ≤ s.elapsed ∧ x.firings ≠ [] :=
  ⟨recorder 1 { aRecorder with firings := [Firing.mk 7 0 256 0] }, 15, 0, { aRecorder with firings := [Firing.mk 7 0 256 0] }, by decide +kernel⟩
theorem witness_cap_close : ∃ (s : State) (r at_ : Nat) (x : RecorderState) (c : Capture), r < 16 ∧ s.recorder r = some x ∧ x.closeAt = some at_ ∧ at_ ≤ s.elapsed ∧ x.active = some c :=
  ⟨recorder 2 aRecorder, 15, 0, aRecorder, aCapture, by decide +kernel⟩
theorem witness_cap_auto : ∃ (s : State) (r : Nat) (before : Option CapFrame) (x : RecorderState) (f : CapFrame), r < 16 ∧ s.recorder r = some x ∧ s.recState r = 1 ∧ s.flag (Reg.CAP_R_CTRL r) 4 = true
    ∧ x.firings = [] ∧ x.armTime + s.field (Reg.CAP_R_TIMEOUT r) 11 0 * 1000000000 ≤ s.now
    ∧ frameFrom none x.frames (x.armTime + s.field (Reg.CAP_R_TIMEOUT r) 11 0 * 1000000000) = some (before, f) :=
  ⟨(({ recorder 1 { aRecorder with frames := [{ aCapFrame with time := 4000000000000 }] } with tim := { hi := 1000 } } : State).setReg (Reg.CAP_R_CTRL 15) 0x11), 15, none, { aRecorder with frames := [{ aCapFrame with time := 4000000000000 }] }, { aCapFrame with time := 4000000000000 }, by decide +kernel⟩
theorem witness_cap_auto_waits : ∃ (s : State) (r : Nat) (x : RecorderState), s.recorder r = some x ∧ s.recState r = 1 ∧ s.flag (Reg.CAP_R_CTRL r) 4 = true
    ∧ x.firings = [] ∧ x.armTime + s.field (Reg.CAP_R_TIMEOUT r) 11 0 * 1000000000 ≤ s.now
    ∧ frameFrom none x.frames (x.armTime + s.field (Reg.CAP_R_TIMEOUT r) 11 0 * 1000000000) = none :=
  ⟨(({ recorder 1 { aRecorder with frames := [] } with tim := { hi := 1000 } } : State).setReg (Reg.CAP_R_CTRL 15) 0x11), 15, { aRecorder with frames := [] }, by decide +kernel⟩
theorem witness_cap_release : ∃ (s : State) (r : Nat) (value : Word) (x : RecorderState) (c : Capture), r < 16 ∧ s.recorder r = some x
    ∧ x.stored.find? (fun c => c.num == value.toNat && !c.free) = some c ∧ c.exporting = false :=
  ⟨recorder 1 aRecorder, 15, 1, aRecorder, aCapture, by decide +kernel⟩
theorem witness_cap_mark : ∃ (s : State) (r mark : Nat) (hi : Word) (x : RecorderState), r < 16 ∧ mark < 4 ∧ s.recorder r = some x ∧ hi.toNat * 2 ^ 32 + (s.lowHalf (Reg.CAP_R_MARK_LO r mark)).toNat < x.widx :=
  ⟨recorder 1 aRecorder, 15, 3, 0, aRecorder, by decide +kernel⟩
theorem witness_host_up : ∃ (s : State), s.flag Reg.HIF_STATUS 0 = true :=
  ⟨State.reset.setReg Reg.HIF_STATUS 1, by decide +kernel⟩
theorem witness_host_down : ∃ (s : State), s.flag Reg.HIF_STATUS 0 = false :=
  ⟨State.reset, by decide +kernel⟩
theorem witness_aperture : ∃ (s : State) (offset len : Nat), s.pair Reg.HIF_APER_BASE_LO Reg.HIF_APER_BASE_HI + offset + len ≤ Config.dramMiB * 2 ^ 20
    ∧ (∀ i, i < len → s.secretAt (s.pair Reg.HIF_APER_BASE_LO Reg.HIF_APER_BASE_HI + offset + i) = false)
    ∧ ∀ r, r ∈ s.hif.aperHeld → ¬(r.1 < s.pair Reg.HIF_APER_BASE_LO Reg.HIF_APER_BASE_HI + offset + len
        ∧ s.pair Reg.HIF_APER_BASE_LO Reg.HIF_APER_BASE_HI + offset < r.1 + r.2.1) :=
  ⟨oscRegion [], 0, 1, (one_inside : _), osc_byte_open _ _ (by decide +kernel), (fun _ h => nomatch h)⟩
theorem witness_aperture_held : ∃ (s : State) (offset len : Nat), s.pair Reg.HIF_APER_BASE_LO Reg.HIF_APER_BASE_HI + offset + len ≤ Config.dramMiB * 2 ^ 20
    ∧ (∀ i, i < len → s.secretAt (s.pair Reg.HIF_APER_BASE_LO Reg.HIF_APER_BASE_HI + offset + i) = false)
    ∧ ∃ r, r ∈ s.hif.aperHeld ∧ r.1 < s.pair Reg.HIF_APER_BASE_LO Reg.HIF_APER_BASE_HI + offset + len
        ∧ s.pair Reg.HIF_APER_BASE_LO Reg.HIF_APER_BASE_HI + offset < r.1 + r.2.1 :=
  ⟨oscRegion [(0, 64, 0)], 0, 1, (one_inside : _), osc_byte_open _ _ (by decide +kernel), (0, 64, 0), by decide +kernel⟩
theorem witness_aperture_past : ∃ (s : State) (offset len : Nat), Config.dramMiB * 2 ^ 20 < s.pair Reg.HIF_APER_BASE_LO Reg.HIF_APER_BASE_HI + offset + len :=
  ⟨State.reset, Config.dramMiB * 2 ^ 20, 1, past_end _ _⟩
theorem witness_pop : ∃ (s : State) (q words : Nat), s.qConsumer q = 0 ∧ s.qEn q = true ∧ (s.queue q).rdPtr = (s.queue q).rdCopy ∧ (s.queue q).wrPtr = (s.queue q).wrCopy
    ∧ (s.queue q).waits = [] ∧ words ≤ (s.queue q).visible.length ∧ 0 < words :=
  ⟨withQueue 1 { packets := [Packet.mk 2 [7, 8]] }, 1, 3, by decide +kernel⟩
theorem witness_pop_foreign : ∃ (s : State) (q : Nat), q < 128 ∧ (s.qConsumer q ≠ 0 ∨ s.qEn q = false) ∧ (s.queue q).pushWait = [] :=
  ⟨State.reset, 127, by decide +kernel⟩
theorem witness_pop_timeout : ∃ (s : State) (q : Nat) (w : PopWait), (s.queue q).waits = [w] ∧ w.limit ≤ s.elapsed
    ∧ (s.queue q).rdPtr = (s.queue q).rdCopy ∧ (s.queue q).wrPtr = (s.queue q).wrCopy :=
  ⟨withQueue 1 { waits := [PopWait.mk 4 0] }, 1, PopWait.mk 4 0, by decide +kernel⟩
theorem witness_push : ∃ (s : State) (q : Nat) (words : List Word), s.hostPushes q = true ∧ (s.queue q).rdPtr = (s.queue q).rdCopy ∧ (s.queue q).wrPtr = (s.queue q).wrCopy
    ∧ (s.queue q).discarding = false ∧ (s.queue q).pushWait = []
    ∧ (s.queue q).visible.length + ((s.queue q).open_.getD []).length + words.length + 1 ≤ s.qDepth q :=
  ⟨withQueue 0 {}, 0, List.replicate 1023 7, by decide +kernel⟩
theorem witness_push_end : ∃ (s : State) (q : Nat) (value : Word) (w : List Word), s.hostPushes q = true ∧ (s.queue q).rdPtr = (s.queue q).rdCopy
    ∧ (s.queue q).wrPtr = (s.queue q).wrCopy ∧ (s.queue q).discarding = false ∧ (s.queue q).pushWait = [] ∧ (s.queue q).open_ = some w
    ∧ w.length = bitsOf value 10 0 ∧ 1 ≤ w.length ∧ w.length ≤ 1024 ∧ q < 128 ∧ (s.queue q).waits = [] :=
  ⟨withQueue 0 { open_ := some [7] }, 0, 1, [7], by decide +kernel⟩
theorem witness_push_end_foreign : ∃ (s : State) (q : Nat), q < 128 ∧ s.hostPushes q = false :=
  ⟨State.reset, 127, by decide +kernel⟩
theorem witness_push_stall : ∃ (s : State) (q at_ : Nat) (w : List Word) (r : List (List Word × Nat)), q < 128 ∧ (s.queue q).pushWait = (w, at_) :: r ∧ at_ ≤ s.elapsed :=
  ⟨withQueue 0 { pushWait := [([7], 0)] }, 0, 0, [7], [], by decide +kernel⟩
theorem witness_queue_itr : ∃ (s : State) (q at_ : Nat), (s.queue q).irqAfter = some at_ ∧ at_ ≤ s.elapsed :=
  ⟨withQueue 1 { irqAfter := some 0 }, 1, 0, by decide +kernel⟩
theorem witness_take : ∃ (s : State) (content : BufContent) (p : Packet) (r : List Packet) (c : Instr), (s.queue 0).rdPtr = (s.queue 0).rdCopy
    ∧ (s.queue 0).wrPtr = (s.queue 0).wrCopy ∧ (s.queue 0).packets = p :: r ∧ s.hif.q1Wait = [] ∧ 9 ≤ s.qFree 1 ∧ p.kind = 1 ∧ p.words.length = 16
    ∧ parseCommand ((p.words.map (fun w => leBytes 4 w.toNat)).flatten) content = some c :=
  ⟨withQueue 0 { packets := [aCommand 1] }, .none, aCommand 1, [], .nop { tag := 7, progress := false, buf := 0, len := 0 }, by decide +kernel⟩
theorem witness_take_nop : ∃ (s : State) (content : BufContent) (p : Packet) (r : List Packet) (h : CmdHdr), (s.queue 0).rdPtr = (s.queue 0).rdCopy
    ∧ (s.queue 0).wrPtr = (s.queue 0).wrCopy ∧ (s.queue 0).packets = p :: r ∧ s.hif.q1Wait = [] ∧ 9 ≤ s.qFree 1 ∧ p.kind = 1 ∧ p.words.length = 16
    ∧ parseCommand ((p.words.map (fun w => leBytes 4 w.toNat)).flatten) content = some (.nop h) :=
  ⟨withQueue 0 { packets := [aCommand 1] }, .none, aCommand 1, [], { tag := 7, progress := false, buf := 0, len := 0 }, by decide +kernel⟩
theorem witness_take_bad : ∃ (s : State) (p : Packet) (r : List Packet), (s.queue 0).rdPtr = (s.queue 0).rdCopy ∧ (s.queue 0).wrPtr = (s.queue 0).wrCopy
    ∧ (s.queue 0).packets = p :: r ∧ (s.queue 0).pushWait = [] ∧ s.hif.q1Wait = [] ∧ 9 ≤ s.qFree 1 ∧ (p.kind ≠ 1 ∨ p.words.length ≠ 16) :=
  ⟨withQueue 0 { packets := [aCommand 2] }, aCommand 2, [], by decide +kernel⟩
theorem witness_journal : ∃ (s : State) (h : CmdHdr) (key : Word) (byTag twin : Bool) (e : JournalEntry), bufOk h = true ∧ 64 ≤ h.len
    ∧ (twin = true → s.flag Reg.TWN_CTRL 0 = true) ∧ findEntry (if twin then s.hif.mirror else s.hif.journal) key byTag = some e ∧ s.hif.busMaster = true :=
  ⟨working .rebalance, aHdr, 0x10000, false, false, anEntry, by decide +kernel⟩
theorem witness_cancel : ∃ (s : State) (target : Word) (e : JournalEntry) (o : LongOp), s.journalOf target.toNat = some e ∧ s.longOp target.toNat = some o ∧ o.step + 1 < o.total :=
  ⟨working .rebalance, 0x10000, anEntry, anOp .rebalance, by decide +kernel⟩
theorem witness_arm_command : ∃ (s : State) (r : Nat) (x : RecorderState), r < 16 ∧ s.recorder r = some x ∧ s.capOn r = true ∧ s.recState r = 0 :=
  ⟨recorder 0 aRecorder, 15, aRecorder, by decide +kernel⟩
theorem witness_release_command : ∃ (s : State) (r n : Nat) (x : RecorderState) (c : Capture), r < 16 ∧ s.recorder r = some x
    ∧ x.stored.find? (fun c => c.num == n && !c.free) = some c ∧ c.exporting = false :=
  ⟨recorder 1 aRecorder, 15, 1, aRecorder, aCapture, by decide +kernel⟩
theorem witness_ack_command : ∃ (s : State) (alarm chg : Half) (x : AlarmState), alarm.toNat < 4096 ∧ s.alarm alarm.toNat = some x ∧ x.chg = chg ∧ x.unacked = true :=
  ⟨alarmed none [], 4095, 0, anAlarm none, by decide +kernel⟩
theorem witness_step : ∃ (s : State) (handle : Nat) (o : LongOp) (l : List SettingRec), s.longOp handle = some o ∧ o.work = .settingsSave l ∧ o.step + 1 < o.total ∧ o.cancelled = false :=
  ⟨working (.settingsSave []), 0x10000, anOp (.settingsSave []), [], by decide +kernel⟩
theorem witness_step_cancelled : ∃ (s : State) (handle : Nat) (o : LongOp) (l : List SettingRec), s.longOp handle = some o ∧ o.work = .settingsSave l ∧ o.step + 1 < o.total ∧ o.cancelled = true :=
  ⟨{ State.reset with hif := { State.reset.hif with ops := [{ anOp (.settingsSave []) with cancelled := true }] } }, 0x10000, { anOp (.settingsSave []) with cancelled := true }, [], by decide +kernel⟩
theorem witness_refactor : ∃ (s : State), s.flag Reg.TOP_CTRL 1 = true ∧ s.hif.ops.length < 16 :=
  ⟨State.reset.setReg Reg.TOP_CTRL 2, by decide +kernel⟩
theorem witness_rebalance : ∃ (s : State), s.flag Reg.DFS_CTRL 0 = true ∧ s.hif.ops.length < 16 :=
  ⟨State.reset.setReg Reg.DFS_CTRL 1, by decide +kernel⟩
theorem witness_prog_load : ∃ (s : State) (h : CmdHdr), bufOk h = true ∧ s.loadingProgram = false ∧ s.flag Reg.CYC_CTRL 0 = true ∧ s.cyc.exch = none ∧ s.hif.ops.length < 16 :=
  ⟨State.reset.setReg Reg.CYC_CTRL 1, aHdr, by decide +kernel⟩
theorem witness_prog_exchange : ∃ (s : State), s.cyc.exch = none ∧ s.cyc.standby.isSome = true ∧ s.cyc.run.isSome = true ∧ s.cyc.standbyRan = true ∧ s.hif.ops.length < 16 :=
  ⟨{ State.reset with cyc := { State.reset.cyc with run := some aProgram, standby := some aProgram, standbyRan := true } }, by decide +kernel⟩
theorem witness_role_switch : ∃ (s : State), (s.role = 2 ∨ s.role = 4) ∧ s.twn.pendSwitch = none ∧ s.ready = true ∧ s.hif.ops.length < 16 :=
  ⟨readyPair, by decide +kernel⟩
theorem witness_archive : ∃ (s : State) (h : CmdHdr) (source count : Nat), source < 6 ∧ 0 < count ∧ bufOk h = true
    ∧ (source < 4 → s.histOn source = true ∧ (s.group source).isSome = true) ∧ (source = 5 → s.flag Reg.MTR_CTRL 0 = true ∧ s.reg Reg.MTR_REC_DEPTH ≠ 0)
    ∧ count * s.archiveSize source ≤ h.len ∧ s.hif.ops.length < 16 :=
  ⟨State.reset, aHdr, 4, 1, by decide +kernel⟩
theorem witness_frames_export : ∃ (s : State) (h : CmdHdr) (r mark : Nat) (x : RecorderState), s.recorder r = some x ∧ mark < 4 ∧ bufOk h = true
    ∧ (∀ o, o ∈ s.hif.ops → ∀ a b, o.work ≠ .exportFrames r mark a b) ∧ (x.widx - x.marks.getD mark 0) * s.recStride r x ≤ h.len ∧ s.hif.ops.length < 16 :=
  ⟨recorder 1 aRecorder, aHdr, 15, 3, aRecorder, by decide +kernel, by decide +kernel, by decide +kernel, (fun _ h => nomatch h), by decide +kernel, by decide +kernel⟩
theorem witness_export_ : ∃ (s : State) (h : CmdHdr) (r n : Nat) (x : RecorderState) (c : Capture), s.storedCapture r n = some (x, c) ∧ c.exporting = false ∧ bufOk h = true
    ∧ x.cfg.signSlot = 0xFFFF ∧ (s.captureBytes r x c false).length ≤ h.len ∧ s.hif.ops.length < 16 :=
  ⟨recorder 1 aRecorder, aHdr, 15, 1, aRecorder, aCapture, by decide +kernel⟩
theorem witness_resume : ∃ (s : State) (h : CmdHdr) (target : Word) (e : JournalEntry) (c : LongOp) (source first count : Nat), s.journalOf target.toNat = some e
    ∧ e.disp = .resumable ∧ e.ctx = some c ∧ c.work = .archiveRead source first count ∧ s.sourceStands c.work = true ∧ bufOk h = true
    ∧ c.sizes.foldl (· + ·) 0 ≤ h.len ∧ s.hif.ops.length < 16 ∧ s.longOp s.newHandle.1 = none :=
  ⟨resumable, aHdr, 0x10000, { anEntry with disp := .resumable, ctx := some (anOp (.archiveRead 4 0 1)) }, anOp (.archiveRead 4 0 1), 4, 0, 1, by decide +kernel⟩
theorem witness_long_step : ∃ (s : State) (handle : Nat) (o : LongOp), s.longOp handle = some o :=
  ⟨working .rebalance, 0x10000, anOp .rebalance, by decide +kernel⟩
theorem witness_trained : ∃ (s : State) (link : Nat) (m : HgwHello), link < 6 ∧ s.flag Reg.HGW_CTRL 0 = true ∧ s.flag Reg.HGW_CTRL (8 + link) = true ∧ s.terminates link = true ∧ s.linkUp link = false
    ∧ m.device = s.torusNeighbour s.ownId link ∧ m.systemId = s.reg Reg.HGW_SYSTEM_ID ∧ m.epoch = s.field Reg.DFS_SOWER_EPOCH 11 0 ∧ s.hglAccepts m.hgl = true :=
  ⟨joined false, 5, HgwHello.mk 0 0 60 0, by decide +kernel⟩
theorem witness_trained_wrong : ∃ (s : State) (link : Nat) (m : HgwHello), s.flag Reg.HGW_CTRL 0 = true ∧ s.flag Reg.HGW_CTRL (8 + link) = true ∧ s.terminates link = true ∧ s.linkUp link = false
    ∧ m.device ≠ s.torusNeighbour s.ownId link :=
  ⟨joined false, 5, HgwHello.mk 1 0 0 0, by decide +kernel⟩
theorem witness_link_is_up : ∃ (s : State) (link : Nat), link < 6 ∧ link < s.hgw.links.length ∧ s.linkUp link = true ∧ (s.hlink link).retries < 8 :=
  ⟨joined true, 5, by decide +kernel⟩
theorem witness_link_worn : ∃ (s : State) (link : Nat), link < 6 ∧ s.linkUp link = true ∧ 8 ≤ (s.hlink link).retries :=
  ⟨(joined true).modLink 5 (fun x => { x with retries := 8 }), 5, by decide +kernel⟩
theorem witness_packet_here : ∃ (s : State) (link : Nat) (p : HgwPacket), link < 6 ∧ s.linkUsable link = true ∧ p.dst = s.ownId ∧ ∀ d q l, p.body ≠ .linkState d q l :=
  ⟨joined true, 5, aPacket, by decide +kernel, by decide +kernel, by decide +kernel, (fun _ _ _ h => nomatch h)⟩
theorem witness_packet_withdraw : ∃ (s : State) (link ver : Nat) (p : HgwPacket), link < 6 ∧ s.linkUsable link = true ∧ p.dst = s.ownId ∧ p.body = .withdraw ver :=
  ⟨joined true, 5, 1, { aPacket with body := .withdraw 1 }, by decide +kernel⟩
theorem witness_packet_t0 : ∃ (s : State) (p : HgwPacket), s.t0Up = true ∧ p.dst = s.ownId ∧ ∀ d q l, p.body ≠ .linkState d q l :=
  ⟨twin 4 0x200, aPacket, by decide +kernel, by decide +kernel, (fun _ _ _ h => nomatch h)⟩
theorem witness_flood_due : ∃ (s : State), s.flag Reg.HGW_CTRL 0 = true ∧ s.hgw.lastFlood + 10000000 ≤ s.elapsed :=
  ⟨{ joined true with tim := { ticks := 3906250 } }, by decide +kernel⟩
theorem witness_rx_step : ∃ (s : State) (link n : Nat), link < 6 ∧ n < 4 ∧ s.linkUp link = true ∧ s.field (Reg.HGW_L_STATUS link) 4 3 ≠ n :=
  ⟨joined true, 5, 3, by decide +kernel⟩
theorem witness_step_lower : ∃ (s : State) (link util : Nat), link < 6 ∧ s.linkUp link = true ∧ s.flag Reg.HGW_LP_CTRL 0 = true ∧ s.flag (Reg.HGW_L_STATUS link) 5 = false
    ∧ 0 < s.field (Reg.HGW_L_STATUS link) 2 1 ∧ 80 * 65536 < util * 100 :=
  ⟨((joined true).setReg Reg.HGW_LP_CTRL 1).setReg (Reg.HGW_L_STATUS 5) 3, 5, 52429, by decide +kernel⟩
theorem witness_step_higher : ∃ (s : State) (link util : Nat), link < 6 ∧ s.linkUp link = true ∧ s.flag Reg.HGW_LP_CTRL 0 = true ∧ s.flag (Reg.HGW_L_STATUS link) 5 = false
    ∧ s.field (Reg.HGW_L_STATUS link) 2 1 < 3 ∧ util * 100 < 20 * 65536 ∧ ((s.hlink link).queue.map (fun (p : HgwPacket) => p.size)).foldl (· + ·) 0 ≤ 8192 :=
  ⟨((joined true).setReg Reg.HGW_LP_CTRL 1).setReg (Reg.HGW_L_STATUS 5) 5, 5, 13107, by decide +kernel⟩
theorem witness_route_table : ∃ (s : State), s.flag Reg.HGW_CTRL 0 = true ∧ s.hgw.devices ≠ [] :=
  ⟨withDevice 0, by decide +kernel⟩
theorem witness_route_old : ∃ (s : State) (device : Nat) (x : DeviceInfo), kvGet s.hgw.devices device = some x ∧ x.up = true ∧ x.lastMsg + 30000000 < s.elapsed :=
  ⟨withDevice 11718751, 7, { up := true }, by decide +kernel⟩
theorem witness_route_young : ∃ (s : State) (device : Nat) (x : DeviceInfo), kvGet s.hgw.devices device = some x ∧ s.elapsed ≤ x.lastMsg + 30000000 :=
  ⟨withDevice 11718750, 7, { up := true }, by decide +kernel⟩
theorem witness_fwd_open : ∃ (s : State) (owner rg sec tag : Nat) (x : FwdSection), s.hgw.fwd.find? (fun x => x.owner == owner && x.rg == rg && x.sec == sec) = some x
    ∧ x.released.contains tag = false ∧ x.hmax ≠ 0 ∧ tag + x.hmax + 28000 ≤ s.now :=
  ⟨{ withDevice 0 with tim := { ns := 28001 } }, 7, 0, 0, 0, FwdSection.mk 7 0 0 1 0 [] [5], by decide +kernel⟩
theorem witness_fwd_done : ∃ (s : State) (owner rg sec tag : Nat) (x : FwdSection), s.hgw.fwd.find? (fun x => x.owner == owner && x.rg == rg && x.sec == sec) = some x
    ∧ x.released.contains tag = true :=
  ⟨withDevice 0, 7, 0, 0, 5, FwdSection.mk 7 0 0 1 0 [] [5], by decide +kernel⟩
theorem witness_fwd_early : ∃ (s : State) (owner rg sec tag : Nat) (x : FwdSection), s.hgw.fwd.find? (fun x => x.owner == owner && x.rg == rg && x.sec == sec) = some x
    ∧ s.now < tag + x.hmax + 28000 :=
  ⟨{ withDevice 0 with tim := { ns := 28000 } }, 7, 0, 0, 0, FwdSection.mk 7 0 0 1 0 [] [5], by decide +kernel⟩
theorem witness_ack_missing : ∃ (s : State) (p : XPlacement) (d : Nat × DeviceInfo), s.hgw.pending = some p ∧ s.coordinator = s.ownId ∧ p.boundary * 1000000000 ≤ s.now + 100000000
    ∧ s.hgw.devices.find? (fun d => d.1 != s.ownId && !p.acks.contains d.1) = some d :=
  ⟨{ withDevice 0 with tim := { ns := 900000000 } }, { ver := 1, boundary := 1, moves := [], acks := [] }, (7, { up := true }), by decide +kernel⟩
theorem witness_ack_early : ∃ (s : State) (p : XPlacement), s.hgw.pending = some p ∧ s.now + 100000000 < p.boundary * 1000000000 :=
  ⟨{ withDevice 0 with tim := { ns := 899999999 } }, { ver := 1, boundary := 1, moves := [], acks := [] }, by decide +kernel⟩
theorem witness_twin_pairing : ∃ (s : State) (h : TwinHello), s.twinOn = true ∧ s.committed = true ∧ (s.role = 3 ∨ s.role = 5) ∧ h.side ≠ s.twinSide ∧ s.versionBreak h = none :=
  ⟨twin 3 0, aHello 1, by decide +kernel, by decide +kernel, by decide +kernel, by decide +kernel, hello_fits⟩
theorem witness_twin_driving : ∃ (s : State) (h : TwinHello), s.twinOn = true ∧ s.committed = true ∧ (s.role = 1 ∨ s.role = 2) ∧ h.role ≠ 1 ∧ h.role ≠ 2 ∧ h.side ≠ s.twinSide
    ∧ s.versionBreak h = none :=
  ⟨twin 1 0, aHello 3, by decide +kernel, by decide +kernel, by decide +kernel, by decide +kernel, by decide +kernel, by decide +kernel, hello_fits_solo⟩
theorem witness_twin_conflict : ∃ (s : State) (h : TwinHello), s.twinOn = true ∧ s.committed = true ∧ s.role = 1 ∧ h.side = s.twinSide :=
  ⟨twin 1 0, { aHello 3 with side := true }, by decide +kernel⟩
theorem witness_twin_waiting : ∃ (s : State), s.twinOn = true ∧ s.committed = true ∧ s.role = 3 ∧ s.twn.heard = false ∧ s.twn.commitAt + 2000000000 ≤ s.elapsed ∧ s.cyc.pubs = [] ∧ s.alm.pubs = [] ∧ s.twn.unacked = [] :=
  ⟨{ twin 3 0 with tim := { ticks := 781250000 } }, by decide +kernel⟩
theorem witness_twin_solo : ∃ (s : State), s.twinOn = true ∧ s.flag Reg.TWN_STATUS 9 = true ∧ s.role = 1 :=
  ⟨twin 1 0x200, by decide +kernel⟩
theorem witness_twin_sync : ∃ (s : State), s.twinOn = true ∧ s.flag Reg.TWN_STATUS 9 = true ∧ s.role = 3 ∧ s.twinSide = true :=
  ⟨twin 3 0x200, by decide +kernel⟩
theorem witness_twin_slow : ∃ (s : State), s.role = 3 ∧ s.twn.heard = true ∧ s.twn.pairStart + 120000000000 ≤ s.elapsed :=
  ⟨{ twin 3 0x200 with tim := { ticks := 46875000000 }, twn := { heard := true } }, by decide +kernel⟩
theorem witness_twin_fallow : ∃ (s : State), s.twinOn = true ∧ s.flag Reg.TWN_STATUS 9 = true ∧ s.role = 4 ∧ s.ready = true ∧ s.twn.pendSwitch = none ∧ s.flag Reg.TWN_CTRL 2 = true :=
  ⟨twin 4 0x300, by decide +kernel⟩
theorem witness_twin_unready : ∃ (s : State), s.twinOn = true ∧ s.role = 4 ∧ s.ready = false :=
  ⟨twin 4 0x200, by decide +kernel⟩
theorem witness_twin_tilled : ∃ (s : State), s.twinOn = true ∧ s.flag Reg.TWN_STATUS 9 = true ∧ s.role = 2 ∧ s.ready = true ∧ s.twn.unacked = [] ∧ s.twn.pendSwitch = none ∧ s.hif.ops = [] :=
  ⟨twin 2 0x300, by decide +kernel⟩
theorem witness_twin_taking : ∃ (s : State) (ts cause : Nat), s.twn.ts = some (ts, cause) ∧ s.cyc.pubs = [] ∧ s.alm.pubs = [] ∧ s.twn.pubs = [] ∧ s.dec.outs = [] :=
  ⟨(twin 4 0x300).takeOver 0 2, 0, 2, by decide +kernel⟩
theorem witness_digest_there : ∃ (s : State) (rg tag : Nat) (x : Nat × Nat × Word), s.role = 4 ∧ s.twn.digests.find? (fun x => x.1 == rg && x.2.1 == tag) = some x :=
  ⟨{ twin 4 0x300 with twn := { digests := [(3, 0, 7)] } }, 3, 0, (3, 0, 7), by decide +kernel⟩
theorem witness_window_over : ∃ (s : State), s.twinOn = true ∧ s.twn.winStart < s.now / 10000000000 * 10000000000 :=
  ⟨{ twin 4 0x300 with tim := { hi := 10 } }, by decide +kernel⟩
theorem witness_report_due : ∃ (s : State), s.twinOn = true ∧ (s.role = 4 ∨ s.role = 6) ∧ s.twn.conflict = false ∧ s.flag Reg.TWN_STATUS 9 = true
    ∧ s.twn.reportSent + 100000000 ≤ s.elapsed :=
  ⟨{ twin 6 0x200 with tim := { ticks := 39062500 } }, by decide +kernel⟩
theorem witness_report_good : ∃ (s : State) (r : HealthReport), s.twinOn = true ∧ s.role = 2 ∧ reportFaulty r = false :=
  ⟨twin 2 0x300, aReport 0, by decide +kernel⟩
theorem witness_report_bad : ∃ (s : State) (r : HealthReport), s.twinOn = true ∧ s.role = 2 ∧ s.twn.unacked = [] ∧ reportFaulty r = true :=
  ⟨twin 2 0x300, aReport 8, by decide +kernel⟩
theorem witness_not_fallow : ∃ (s : State), s.role ≠ 4 :=
  ⟨twin 2 0x300, by decide +kernel⟩
theorem witness_mirrored : ∃ (s : State) (m : MirrorMsg), s.role = 4 ∧ ∀ k i b, m.body = .pulse k i b → k < 8 :=
  ⟨twin 4 0x300, MirrorMsg.mk 3 (.pulse 7 0 none), by decide +kernel, (fun k _ _ h => by cases h; decide)⟩
theorem witness_report_late : ∃ (s : State), s.role = 2 ∧ s.twn.reportAt + 300000000 < s.elapsed :=
  ⟨{ twin 2 0x300 with tim := { ticks := 117187501 } }, by decide +kernel⟩
theorem witness_mirror_ack : ∃ (s : State) (num : Nat), s.role = 2 ∧ (∀ h, h ∈ s.twn.held → h.1 ≠ num)
    ∧ (∀ m, m ∈ s.twn.unacked → m.num = num → ∀ k active, m.body ≠ .pin k active) ∧ s.twn.unacked ≠ [] :=
  ⟨{ twin 2 0x300 with twn := { unacked := [MirrorMsg.mk 3 (.outTag 0 0)] } }, 3, by decide +kernel, (fun _ h => nomatch h), (fun m h _ k a => by cases h with | head => exact (fun h => nomatch h) | tail _ h => cases h), by decide +kernel⟩
theorem witness_caddy_starts : ∃ (s : State) (r : CaddyReq), s.caddyLoad r.use < (useRoom r.use).2 ∧ (s.sec.queue.all (fun o => (useRoom o.req.use).1 != (useRoom r.use).1)) = true
    ∧ s.caddyCheck r = none :=
  ⟨withKeys false, aCaddyReq 511, by decide +kernel⟩
theorem witness_caddy_refused : ∃ (s : State) (r : CaddyReq) (c : CaddyResult), s.caddyLoad r.use < (useRoom r.use).2
    ∧ (s.sec.queue.all (fun o => (useRoom o.req.use).1 != (useRoom r.use).1)) = true ∧ s.caddyCheck r = some c ∧ c ≠ .keyStale :=
  ⟨withKeys false, aCaddyReq 1, .badArg, by decide +kernel⟩
theorem witness_caddy_full : ∃ (s : State) (r : CaddyReq), (useRoom r.use).2 ≤ s.caddyLoad r.use :=
  ⟨withKeys true, aCaddyReq 511, by decide +kernel⟩
theorem witness_caddy_done : ∃ (s : State) (id : Nat) (o : CaddyOp), s.sec.ops.find? (fun o => o.req.id == id) = some o ∧ s.sec.queue = [] :=
  ⟨withKeys true, 7, CaddyOp.mk (aCaddyReq 511) {}, by decide +kernel⟩
theorem witness_rederives : ∃ (s : State) (writer : CaddyMaster) (value : Word), (writer = .host ∨ writer = .sup) ∧ (s.slot (bitsOf value 8 0)).typ ≠ .empty
    ∧ (s.slot (bitsOf value 8 0)).rederive = true ∧ s.flag Reg.SEC_STATUS 0 = false ∧ (s.slot (s.slot (bitsOf value 8 0)).parent.toNat).typ ≠ .empty
    ∧ staleIn s.sec.slots 5 (s.slot (bitsOf value 8 0)).parent.toNat = false :=
  ⟨withKeys false, .host, 511, by decide +kernel⟩
theorem witness_rederive_stale : ∃ (s : State) (writer : CaddyMaster) (value : Word), (writer = .host ∨ writer = .sup) ∧ (s.slot (bitsOf value 8 0)).typ ≠ .empty
    ∧ (s.slot (bitsOf value 8 0)).rederive = true ∧ staleIn s.sec.slots 5 (s.slot (bitsOf value 8 0)).parent.toNat = true :=
  ⟨withKeys false, .sup, 2, by decide +kernel⟩
theorem witness_key_update : ∃ (s : State) (h : CmdHdr), bufOk h = true ∧ (∀ o, o ∈ s.hif.ops → ∀ m, o.work ≠ .keyUpdate m) ∧ s.flag Reg.SEC_CTRL 0 = true ∧ s.hif.ops.length < 16 :=
  ⟨State.reset.setReg Reg.SEC_CTRL 1, aHdr, by decide +kernel, (fun _ h => nomatch h), by decide +kernel, by decide +kernel⟩
theorem witness_bkd_load : ∃ (s : State) (lo hi : Word), s.bkd.writes = [(0x08, lo), (0x0C, hi)] ∧ s.bkd.armed = false :=
  ⟨{ State.reset with bkd := { writes := [(8, 5), (12, 6)] } }, 5, 6, by decide +kernel⟩
theorem witness_bkd_alarm : ∃ (s : State) (lo hi : Word), s.bkd.writes = [(0x18, lo), (0x1C, hi), (0x20, 1)] ∧ s.bkd.armed = false
    ∧ s.bkd.count.toNat < (BitVec.ofNat 48 (lo.toNat + hi.toNat % 2 ^ 16 * 2 ^ 32)).toNat :=
  ⟨{ State.reset with bkd := { writes := [(24, 5), (28, 0), (32, 1)] } }, 5, 0, by decide +kernel⟩
theorem witness_freeze_over : ∃ (s : State) (sup : Bool) (f : Freeze), s.bkd.freezeOf sup = some f ∧ f.since + 1000000000 ≤ s.elapsed :=
  ⟨{ frozen with tim := { ticks := 390625000 } }, true, Freeze.mk 0 0 0 0, by decide +kernel⟩
theorem witness_freeze_early : ∃ (s : State) (sup : Bool) (f : Freeze), s.bkd.freezeOf sup = some f ∧ s.elapsed < f.since + 1000000000 :=
  ⟨{ frozen with tim := { ticks := 390624999 } }, true, Freeze.mk 0 0 0 0, by decide +kernel⟩
theorem witness_weekday : ∃ (s : State), s.bkd.weekday.toNat ≤ 6 ∧ ticksPerDay ≤ s.bkd.prescale.toNat + 1 :=
  ⟨{ State.reset with bkd := { weekday := 6, prescale := 2831155199 } }, by decide +kernel⟩
theorem witness_alarm_ahead : ∃ (s : State), s.bkd.count.toNat < s.bkd.alarm.toNat :=
  ⟨{ State.reset with bkd := { alarm := 1 } }, by decide +kernel⟩
theorem witness_alarm_reached : ∃ (s : State), s.bkd.armed = true ∧ s.bkd.alarm.toNat ≤ s.bkd.count.toNat :=
  ⟨{ State.reset with bkd := { armed := true } }, by decide +kernel⟩
theorem witness_date_good : ∃ (y mo d hh mi sec : Nat), dateOk y mo d hh mi sec = true :=
  ⟨2000, 2, 29, 23, 59, 59, by decide +kernel⟩
theorem witness_date_bad : ∃ (y mo d hh mi sec : Nat), dateOk y mo d hh mi sec = false :=
  ⟨2100, 2, 29, 0, 0, 0, by decide +kernel⟩
theorem witness_sync_far : ∃ (s : State), s.flag Reg.BKD_CTRL 0 = true ∧ s.syncState = 2 ∧ s.bkd.lastSync = none
    ∧ 1000000 * 32768 < (s.utcTicks - s.bkd.count.toNat).natAbs * 1000000000 :=
  ⟨lockedAt 0, by decide +kernel⟩
theorem witness_sync_near : ∃ (s : State), s.flag Reg.BKD_CTRL 0 = true ∧ s.syncState = 2 ∧ s.bkd.lastSync = none
    ∧ (s.utcTicks - s.bkd.count.toNat).natAbs * 1000000000 ≤ 1000000 * 32768 :=
  ⟨lockedAt 946684800000000000, by decide +kernel⟩
theorem witness_tamper_on : ∃ (s : State) (src : TamperSource), s.bkd.tampCtrl.getLsbD (tamperEnable src) = true :=
  ⟨{ State.reset with bkd := { tampCtrl := 0x1000 } }, .input 3, by decide +kernel⟩
theorem witness_tamper_off : ∃ (s : State) (src : TamperSource), s.bkd.tampCtrl.getLsbD (tamperEnable src) = false :=
  ⟨{ State.reset with bkd := { tampCtrl := 0x1000 } }, .vbat, by decide +kernel⟩
theorem witness_no_images : ∃ (s : State) (cause : Nat), cause < 16 ∧ cause ≠ 1 ∧ NoImages s ∧ s.hif.ops = [] ∧ s.boot.coldCause < 16 :=
  ⟨State.reset, 15, by decide +kernel, by decide +kernel, ⟨five_comps _ (by decide +kernel) (by decide +kernel), by decide +kernel⟩, rfl, by decide +kernel⟩
theorem witness_porst : ∃ (ns : Nat), 10000 ≤ ns :=
  ⟨10000, by decide +kernel⟩
theorem witness_porst_short : ∃ (ns : Nat), ns < 1000 :=
  ⟨999, by decide +kernel⟩
theorem witness_rail : ∃ (ns : Nat), 2000 ≤ ns :=
  ⟨2000, by decide +kernel⟩
theorem witness_rail_short : ∃ (ns : Nat), ns < 2000 :=
  ⟨1999, by decide +kernel⟩
theorem witness_cold_halts : ∃ (straps : BitVec 4), straps.getLsbD 2 = true ∨ straps.getLsbD 3 = true :=
  ⟨8, by decide +kernel⟩
theorem witness_cold_none : ∃ (straps : BitVec 4), straps.getLsbD 2 = false ∧ straps.getLsbD 3 = false ∧ straps.getLsbD 1 = false :=
  ⟨1, by decide +kernel⟩
theorem witness_trial_recovery : ∃ (s : State) (c at_ : Nat), c < s.boot.comps.length ∧ (s.comp c).state = .trial ∧ (s.comp c).deadline = some at_ ∧ at_ ≤ s.elapsed
    ∧ (∀ d, d ≠ c → (s.comp d).state ≠ .trial) ∧ (s.comp 0).imgA = .empty ∧ (s.comp 0).imgB = .empty ∧ s.hif.ops = [] :=
  ⟨{ State.reset with boot := { comps := [CompRec.mk false .trial .empty .empty (some 0) 0 0] } }, 0, 0, by decide +kernel, by decide +kernel, by decide +kernel, by decide +kernel, (fun d h => by match d with | 0 => exact absurd rfl h | _ + 1 => exact (by decide +kernel : CompState.none ≠ .trial)), by decide +kernel⟩
theorem witness_twin_recovery : ∃ (s : State), ((∃ at_ h, s.twn.cfgActivate = some (at_, h) ∧ at_ ≤ s.now) ∨ (s.twn.cfgActivate = none ∧ s.role = 4)) ∧ (s.comp 4).state = .staged
    ∧ 4 < s.boot.comps.length ∧ NoImages s ∧ s.hif.ops = [] :=
  ⟨stagedCfg none 4, Or.inr (by decide +kernel), by decide +kernel, by decide +kernel, ⟨five_comps _ (by decide +kernel) (by decide +kernel), by decide +kernel⟩, rfl⟩
theorem witness_e4_recovery : ∃ (s : State) (at_ : Nat), s.hlt.e4 = some at_ ∧ at_ + 20000000 ≤ s.elapsed ∧ NoImages s ∧ s.hif.ops = [] :=
  ⟨{ State.reset with tim := { ticks := 7812500 }, hlt := { e4 := some 0 } }, 0, by decide +kernel, by decide +kernel, ⟨five_comps _ (by decide +kernel) (by decide +kernel), by decide +kernel⟩, rfl⟩
theorem witness_e4_early : ∃ (s : State) (at_ : Nat), s.hlt.e4 = some at_ ∧ s.elapsed < at_ + 20000000 ∧ s.e4Handled = false :=
  ⟨{ State.reset with hlt := { e4 := some 0, stack := [{ anEntryErr with err := anError 4 }] } }, 0, by decide +kernel⟩
theorem witness_cold_recovery : ∃ (s : State) (straps : BitVec 4), straps.getLsbD 2 = false ∧ straps.getLsbD 3 = false ∧ straps.getLsbD 1 = true ∧ s.boot.coldCause < 16 :=
  ⟨State.reset, 3, by decide +kernel⟩
theorem witness_recovery_ignored : ∃ (s : State) (value : Word) (_ : SlotImage), value.getLsbD 0 = false ∨ s.field Reg.BOOT_STATUS 2 0 ≠ 5 :=
  ⟨State.reset, 0, .empty, by decide +kernel⟩
theorem witness_recovery_go : ∃ (s : State) (value : Word) (_ : SlotImage), value.getLsbD 0 = true ∧ s.field Reg.BOOT_STATUS 2 0 = 5 :=
  ⟨State.reset.setReg Reg.BOOT_STATUS 5, 1, .empty, by decide +kernel⟩
theorem witness_trial_over : ∃ (s : State) (c at_ : Nat), (s.comp c).state = .trial ∧ (s.comp c).deadline = some at_ ∧ at_ ≤ s.elapsed :=
  ⟨{ State.reset with boot := { comps := [CompRec.mk false .trial .empty .empty (some 0) 0 0] } }, 0, 0, by decide +kernel⟩
theorem witness_twin_activate : ∃ (s : State) (at_ h : Nat), s.twn.cfgActivate = some (at_, h) ∧ at_ ≤ s.now ∧ (s.comp 4).state = .staged :=
  ⟨stagedCfg (some (0, 0)) 2, 0, 0, by decide +kernel⟩
theorem witness_twin_activate_fallow : ∃ (s : State), s.twn.cfgActivate = none ∧ s.role = 4 ∧ (s.comp 4).state = .staged :=
  ⟨stagedCfg none 4, by decide +kernel⟩
theorem witness_e4_over : ∃ (s : State) (at_ : Nat), s.hlt.e4 = some at_ ∧ at_ + 20000000 ≤ s.elapsed :=
  ⟨{ State.reset with tim := { ticks := 7812500 }, hlt := { e4 := some 0 } }, 0, by decide +kernel⟩
theorem witness_stage : ∃ (s : State) (h : CmdHdr) (c : Nat) (b : BufContent), bufOk h = true ∧ c < 5 ∧ bufImage b ≠ .empty ∧ (s.comp c).state ≠ .trial ∧ s.hif.ops = [] :=
  ⟨State.reset, aHdr, 4, .image (.fw aFwImage), by decide +kernel⟩
theorem witness_activate : ∃ (s : State) (c : Nat), c < 4 ∧ s.trialComp = none ∧ (s.comp c).state = .staged ∧ s.hif.ops = [] :=
  ⟨{ State.reset with boot := { comps := List.replicate 5 (CompRec.mk false .staged .empty .empty none 0 0) } }, 3, by decide +kernel⟩
theorem witness_activate_other : ∃ (s : State) (c : Nat), c < 5 ∧ (c = 4 → s.field Reg.TWN_STATUS 2 0 ≠ 2) ∧ s.trialComp = none ∧ s.hif.ops = [] :=
  ⟨State.reset, 4, by decide +kernel⟩
theorem witness_activate_refused : ∃ (s : State) (c : Nat), c < 5 ∧ (s.trialComp.isSome = true ∨ (s.comp c).state ≠ .staged ∨ s.verifyImage c (s.comp c).other ≠ 0) :=
  ⟨State.reset, 4, by decide +kernel⟩
theorem witness_activate_pair : ∃ (s : State), s.field Reg.TWN_STATUS 2 0 = 2 ∧ s.trialComp = none ∧ (s.comp 4).state = .staged ∧ s.hif.ops = [] :=
  ⟨stagedCfg none 2, by decide +kernel⟩
theorem witness_confirm : ∃ (s : State) (c at_ : Nat), c < 5 ∧ c < s.boot.comps.length ∧ s.committed = true ∧ (s.comp c).state = .trial
    ∧ (s.comp c).deadline = some at_ ∧ s.elapsed ≤ at_ :=
  ⟨trying, 4, 0, by decide +kernel⟩
theorem witness_confirm_refused : ∃ (s : State) (c : Nat), c < 5 ∧ (s.comp c).state ≠ .trial :=
  ⟨State.reset, 4, by decide +kernel⟩
theorem witness_settings : ∃ (s : State) (i : CfgImage), s.boot.image = some i ∧ s.trialComp = none ∧ s.hif.ops = [] ∧ (s.settingRecords i).length ≤ 65535 :=
  ⟨{ State.reset with boot := { State.reset.boot with image := some aCfgImage } }, aCfgImage, by decide +kernel⟩
theorem witness_error_other : ∃ (e : ErrorRec), 1 ≤ e.grade ∧ e.grade ≤ 4 ∧ e.code.toNat / 256 ≠ 0x16 :=
  ⟨anError 1, by decide +kernel⟩
theorem witness_error_e4 : ∃ (s : State) (e : ErrorRec), e.grade = 4 ∧ e.code.toNat / 256 ≠ 0x16 ∧ s.hlt.e4 = none :=
  ⟨State.reset, anError 4, by decide +kernel⟩
theorem witness_handling_last : ∃ (s : State) (x : StackEntry) (t0 : Nat), s.hlt.handling = some (x, t0) ∧ s.hlt.stack = [] ∧ x.err.grade ≤ 4 :=
  ⟨handling, anEntryErr, 0, by decide +kernel⟩
theorem witness_handling_late : ∃ (s : State) (x : StackEntry) (t0 : Nat), s.hlt.handling = some (x, t0) ∧ t0 + 10000000 ≤ s.elapsed ∧ s.hlt.e4 = none :=
  ⟨{ handling with tim := { ticks := 3906250 } }, anEntryErr, 0, by decide +kernel⟩
theorem witness_handling_early : ∃ (s : State) (x : StackEntry) (t0 : Nat), s.hlt.handling = some (x, t0) ∧ s.elapsed < t0 + 10000000 :=
  ⟨{ handling with tim := { ticks := 3906249 } }, anEntryErr, 0, by decide +kernel⟩
theorem witness_level_rises : ∃ (s : State) (sensor : Nat) (temp : Int), s.hlt.thermLevel < 2 ∧ 1200 ≤ (s.readTemp sensor temp).junction :=
  ⟨State.reset, 23, 1200, by decide +kernel⟩
theorem witness_level_falls : ∃ (s : State) (sensor : Nat) (temp : Int), s.hlt.thermLevel = 2 ∧ (s.readTemp sensor temp).junction < 1170 :=
  ⟨{ State.reset with hlt := { thermLevel := 2 } }, 23, 1169, by decide +kernel⟩
theorem witness_overtemp_below : ∃ (s : State) (sensor : Nat) (temp : Int), (s.readTemp sensor temp).junction < 1250 :=
  ⟨State.reset, 23, 1249, by decide +kernel⟩
theorem witness_overtemp_at : ∃ (s : State) (sensor : Nat) (temp : Int), 1250 ≤ (s.readTemp sensor temp).junction ∧ s.hlt.e4 = none :=
  ⟨State.reset, 23, 1250, by decide +kernel⟩
theorem witness_current_high : ∃ (tenMa : Nat), 6800 < tenMa ∧ tenMa ≤ 7200 :=
  ⟨7200, by decide +kernel⟩
theorem witness_current_e4 : ∃ (s : State) (tenMa : Nat), 7200 < tenMa ∧ s.hlt.e4 = none :=
  ⟨State.reset, 7201, by decide +kernel⟩
theorem witness_current_low : ∃ (tenMa : Nat), tenMa < 6400 :=
  ⟨6399, by decide +kernel⟩
theorem witness_dram_hot : ∃ (s : State) (channel : Nat) (temp : Int), channel < 2 ∧ s.hlt.chanHot.length = 2 ∧ s.hlt.chanHot.getD channel false = false
    ∧ 850 < temp ∧ temp ≤ 950 :=
  ⟨State.reset, 1, 851, by decide +kernel⟩
theorem witness_dram_same : ∃ (channel : Nat) (temp : Int), channel < 2 ∧ temp ≤ 850 ∧ 820 ≤ temp :=
  ⟨1, 820, by decide +kernel⟩
theorem witness_sampling : ∃ (s : State), s.flag Reg.PMC_SAMPLE_CTRL 0 = true ∧ s.pair Reg.PMC_SAMPLE_WRIDX_LO Reg.PMC_SAMPLE_WRIDX_HI + 1 < 2 ^ 64 :=
  ⟨State.reset.setReg Reg.PMC_SAMPLE_CTRL 1, by decide +kernel⟩
theorem witness_not_sampling : ∃ (s : State), s.flag Reg.PMC_SAMPLE_CTRL 0 = false :=
  ⟨State.reset, by decide +kernel⟩

end Sys2Proof.Tests
end

section
/-!
PROOFS of the statements of family 00_scope: the state after reset, register writes by the class of the field, and staged port settings.
-/
namespace Sys2Proof.Machine

/-! ### Registers outside the blocks that reporting touches -/

theorem not_mem_healthRegs_of_block {a : Nat} (h : a / 0x100000 ≠ 20) : a ∉ healthRegs := by
  have hb : ∀ b ∈ healthRegs, b / 0x100000 = 20 := by decide
  exact fun hm => h (hb a hm)

theorem State.reg_showHealth_of_block (s : State) {a : Nat} (h : a / 0x100000 ≠ 20) : s.showHealth.reg a = s.reg a :=
  s.reg_showHealth_ne a (not_mem_healthRegs_of_block h)

theorem not_mem_logRegs_of_block {a : Nat} (h : a / 0x100000 < 12) : a ∉ logRegs := by
  have hb : ∀ b ∈ logRegs, 12 ≤ b / 0x100000 := by decide
  exact fun hm => Nat.not_le.mpr h (hb a hm)

section
variable (s : State)

/-! ### A register write of the SYS block (R6, R9, R39) -/

theorem exec_registerWrite (offset : Nat) (v : Word) : exec (.registerWrite offset v) s = execRegisterWrite offset v s := rfl

theorem exec_registerWrite_unaligned {offset : Nat} (v : Word) (h : offset % 4 ≠ 0) :
    exec (.registerWrite offset v) s = .next (s.bump Reg.HIF_CNT_BAD_ACCESS).showHealth := by
  rw [exec_registerWrite, execRegisterWrite, if_pos h, answer_eq]

theorem exec_registerWrite_sys {offset : Nat} (v : Word) (ha : offset % 4 = 0) (hb : offset < 0x100000) :
    exec (.registerWrite offset v) s = .next (s.plainWrite offset v).showHealth := by
  have h0 : offset / 0x100000 = 0 := Nat.div_eq_of_lt hb
  rw [exec_registerWrite, execRegisterWrite, if_neg (not_not_intro ha), h0]
  rfl

theorem plainWrite_of_reserved {a : Nat} (v : Word) (h : regDesc a = none) : s.plainWrite a v = s := by
  rw [State.plainWrite, h]

theorem ranged_of_no_range {key : Nat} (old v : Word) (hd : key ≠ Reg.SPT_PORT_DEFAULT 0) (hr : fieldRanges.filter (fun r => r.key == key) = []) :
    ranged key old v = v := by
  simp [ranged, hd, hr]

/-- The mask of a register whose 32 bits are all of one class, as the register map writes it. -/
theorem word_and_ones (w : Word) : w &&& 0xFFFFFFFF#32 = w := BitVec.and_allOnes

theorem plainWrite_scratch (v : Word) : s.plainWrite Reg.SYS_SCRATCH v = s.setReg Reg.SYS_SCRATCH v := by
  have hd : regDesc Reg.SYS_SCRATCH = some (RegDesc.rw 0x2C 0xFFFFFFFF 0) := by decide
  have hr : ∀ old, ranged (Reg.SYS_SCRATCH / 0x100000 * 0x100000 + 0x2C) old v = v := fun old => ranged_of_no_range old v (by decide) (by decide)
  rw [State.plainWrite, hd]
  simp [State.writeFields, RegDesc.rw, hr, word_and_ones]

theorem plainWrite_deviceId (v : Word) : s.plainWrite Reg.SYS_DEVICE_ID v =
    if s.committed then (if (v ^^^ s.reg Reg.SYS_DEVICE_ID) &&& 0x1FF ≠ 0 then s.lockedWrite Reg.SYS_DEVICE_ID v else s)
    else s.setReg Reg.SYS_DEVICE_ID ((s.reg Reg.SYS_DEVICE_ID &&& ~~~0x1FF) ||| (v &&& 0x1FF)) := by
  have hd : regDesc Reg.SYS_DEVICE_ID = some (RegDesc.rwl 0x14 0x1FF 0) := by decide
  have hr : ∀ old, ranged (Reg.SYS_DEVICE_ID / 0x100000 * 0x100000 + 0x14) old v = v := fun old => ranged_of_no_range old v (by decide) (by decide)
  rw [State.plainWrite, hd]
  cases hc : s.committed <;> simp [State.writeFields, RegDesc.rwl, hr, hc, word_and_ones]

theorem State.reg_lockedWrite (a b : Nat) (v : Word) (hb : b ∉ logRegs) :
    (s.lockedWrite a v).reg b = (s.bump Reg.SYS_CNT_LOCKED_WR).reg b := State.reg_log _ _ _ _ _ (by decide) hb

/-! ### Staged settings (R7) -/

theorem kvGet_eq_none {α : Type} {l : List (Nat × α)} {a : Nat} (h : ∀ p ∈ l, p.1 ≠ a) : kvGet l a = none := by
  induction l with
  | nil => rfl
  | cons p r ih =>
    obtain ⟨b, w⟩ := p
    have hb : a ≠ b := fun e => h (b, w) List.mem_cons_self e.symm
    rw [kvGet, if_neg hb, ih fun p hp => h p (List.mem_cons_of_mem _ hp)]

theorem State.staged_of_no_shadow {a : Nat} (h : kvGet s.shadow a = none) : s.staged a = s.reg a := by
  rw [State.staged, h]

theorem State.kvGet_shadow_commitReg (a b : Nat) :
    kvGet (s.commitReg b).shadow a = if a = b then none else kvGet s.shadow a := by
  split
  · subst b; exact kvGet_kvDel_same _ _
  · exact kvGet_kvDel_ne _ _ _ (by assumption)

theorem State.reg_commitReg (a b : Nat) : (s.commitReg b).reg a = if a = b then s.staged b else s.reg a :=
  s.reg_setReg b a _

@[simp] theorem State.staged_commitReg (a b : Nat) : (s.commitReg b).staged a = s.staged a := by
  by_cases h : a = b
  · subst b
    rw [State.staged_of_no_shadow _ (by rw [State.kvGet_shadow_commitReg, if_pos rfl]), State.reg_commitReg, if_pos rfl]
  · simp only [State.staged, State.kvGet_shadow_commitReg, State.reg_commitReg, if_neg h]

theorem State.kvGet_shadow_foldl_commitReg (l : List (Nat × Word)) (a : Nat)
    (h : kvGet s.shadow a = none ∨ ∃ p ∈ l, p.1 = a) : kvGet (l.foldl (fun (s : State) p => s.commitReg p.1) s).shadow a = none := by
  induction l generalizing s with
  | nil => simpa using h
  | cons p r ih =>
    refine ih (s.commitReg p.1) ?_
    rw [State.kvGet_shadow_commitReg]
    by_cases hp : a = p.1
    · exact .inl (if_pos hp)
    · rw [if_neg hp]
      simpa [Ne.symm hp] using h

theorem State.kvGet_shadow_commitRange {a lo n : Nat} (h : lo ≤ a ∧ a < lo + n) : kvGet (s.commitRange lo n).shadow a = none := by
  refine s.kvGet_shadow_foldl_commitReg _ a ?_
  by_cases hm : ∃ p ∈ s.shadow, p.1 = a
  · obtain ⟨p, hp, rfl⟩ := hm
    exact .inr ⟨p, List.mem_filter.mpr ⟨hp, by simpa using h⟩, rfl⟩
  · exact .inl (kvGet_eq_none fun p hp e => hm ⟨p, hp, e⟩)

/-- A commit of a window gives every register of it the value that it was to have after its commit. -/
theorem State.reg_commitRange {a lo n : Nat} (h : lo ≤ a ∧ a < lo + n) : (s.commitRange lo n).reg a = s.staged a := by
  rw [← State.staged_of_no_shadow _ (s.kvGet_shadow_commitRange h)]
  exact foldl_keeps _ (fun (t : State) => t.staged a) (fun t (p : Nat × Word) => t.staged_commitReg a p.1) _ s

/-! ### The ports' commits (R46, R47) -/

section
variable {port : Nat} (hp : port < 6)
include hp

theorem SPT_MAXLEN_block : Reg.SPT_MAXLEN port / 0x100000 = 1 := by
  simp only [Reg.SPT_MAXLEN]
  omega

theorem SPT_MAXLEN_not_mem_healthRegs : Reg.SPT_MAXLEN port ∉ healthRegs :=
  not_mem_healthRegs_of_block (by rw [SPT_MAXLEN_block hp]; decide)

theorem SPT_MAXLEN_not_mem_logRegs : Reg.SPT_MAXLEN port ∉ logRegs :=
  not_mem_logRegs_of_block (by rw [SPT_MAXLEN_block hp]; decide)

theorem SPT_MAXLEN_ne_commit : Reg.SPT_MAXLEN port ≠ Reg.SPT_COMMIT := by
  simp only [Reg.SPT_MAXLEN, Reg.SPT_COMMIT]
  omega

end

theorem SPT_MAXLEN_mem_window (port : Nat) :
    Reg.SPT_PORT_CTRL port ≤ Reg.SPT_MAXLEN port ∧ Reg.SPT_MAXLEN port < Reg.SPT_PORT_CTRL port + 0x10000 := by
  simp only [Reg.SPT_PORT_CTRL, Reg.SPT_MAXLEN]
  omega

theorem State.flag_askCommit {p port : Nat} (hport : port < 32) :
    (s.askCommit p).flag Reg.SPT_COMMIT port = (s.flag Reg.SPT_COMMIT port || port == p) := by
  have hset : (s.askCommit p).flag Reg.SPT_COMMIT port = (s.setFlag Reg.SPT_COMMIT p true).flag Reg.SPT_COMMIT port := rfl
  rw [hset]
  by_cases h : port = p
  · subst p
    simp [hport]
  · simp [h, State.flag_setFlag_ne _ _ _ _ _ hport h]

theorem State.flag_foldl_askCommit (mask : Word) (l : List Nat) {port : Nat} (hport : port < 32) :
    (l.foldl (fun (s : State) p => if mask.getLsbD p then s.askCommit p else s) s).flag Reg.SPT_COMMIT port
      = (s.flag Reg.SPT_COMMIT port || (l.contains port && mask.getLsbD port)) := by
  induction l generalizing s with
  | nil => simp
  | cons p r ih =>
    rw [List.foldl_cons, ih]
    by_cases h : port = p
    · subst p
      cases hm : mask.getLsbD port <;> simp [s.flag_askCommit hport]
    · cases hm : mask.getLsbD p <;> simp [s.flag_askCommit hport, h, beq_false_of_ne h]

theorem State.port_modPort_same {p : Nat} (f : PortState → PortState) (h : p < s.ports.length) : (s.modPort p f).port p = f (s.port p) := by
  simp [State.port, State.modPort, listMod, h]

theorem exec_maxlenWrite_in_range (port : Nat) {v : Word} (h : 1518 ≤ bitsOf v 13 0 ∧ bitsOf v 13 0 ≤ 9600) :
    exec (.maxlenWrite port v) s = .next (s.stageReg (Reg.SPT_MAXLEN port) (v &&& 0x3FFF#32)).showHealth :=
  congrArg answer (if_pos (by simpa using h))

theorem exec_maxlenWrite_out_of_range (port : Nat) {v : Word} (h : ¬(1518 ≤ bitsOf v 13 0 ∧ bitsOf v 13 0 ≤ 9600)) :
    exec (.maxlenWrite port v) s = .next (s.log 0x0207 1 (leBytes 1 port ++ leBytes 4 v.toNat)).showHealth :=
  congrArg answer (if_neg (by simpa using h))

theorem exec_sptCommit (mask : Word) : exec (.sptCommit mask) s
    = .next ((List.range 6).foldl (fun (s : State) p => if mask.getLsbD p then s.askCommit p else s) s).showHealth := rfl

/-- What a commit point leaves once a direction has adopted its settings: the commit bit ends when both have passed. -/
def State.endCommit (s : State) (port : Nat) : State :=
  if (s.port port).rxPassed && (s.port port).txPassed then s.setFlag Reg.SPT_COMMIT port false else s

theorem State.reg_endCommit {a : Nat} (port : Nat) (h : a ≠ Reg.SPT_COMMIT) : (s.endCommit port).reg a = s.reg a := by
  rw [State.endCommit]
  split
  · exact s.reg_setFlag_ne _ _ _ _ h
  · rfl

theorem State.endCommit_ports (port : Nat) : (s.endCommit port).ports = s.ports := by
  rw [State.endCommit]; split <;> rfl

theorem State.endCommit_shadow (port : Nat) : (s.endCommit port).shadow = s.shadow := by
  rw [State.endCommit]; split <;> rfl

theorem exec_sptCommitPoint_rx {port : Nat} (h : s.flag Reg.SPT_COMMIT port = true) : exec (.sptCommitPoint port false) s
    = .next (((s.commitRange (Reg.SPT_PORT_CTRL port) 0x10000).modPort port fun x => { x with rxPassed := true }).endCommit port).showHealth :=
  congrArg answer (if_neg (by simp [h]))

theorem exec_sptCommitPoint_tx {port : Nat} (h : s.flag Reg.SPT_COMMIT port = true) (hrx : (s.port port).rxPassed = false) :
    exec (.sptCommitPoint port true) s = .next ((s.modPort port fun x =>
      { x with txMaxlen := bitsOf (s.staged (Reg.SPT_MAXLEN port)) 13 0, txPassed := true }).endCommit port).showHealth := by
  have hm : (if (s.port port).rxPassed then s.reg (Reg.SPT_MAXLEN port) else s.staged (Reg.SPT_MAXLEN port)) = s.staged (Reg.SPT_MAXLEN port) := by
    rw [hrx]; rfl
  refine (congrArg answer (if_neg (by simp [h]))).trans ?_
  simp only [if_true, hm]
  rfl

end

/-! ### The obligations -/

/-- Settles O8: a write of the SYS block is reduced to the rule of its field's class, and what reporting leaves unchanged gives the rest. -/
theorem registerWrites : Obligations.RegisterWrites := by
  unfold Obligations.RegisterWrites
  refine ⟨fun s v => ?_, fun s v hc => ?_, fun s v hc hv => ?_, fun s v hc hv => ?_, fun s offset v ha => ?_, fun s offset v ha _ hb hd => ?_,
    fun s v => ⟨rfl, rfl, rfl, rfl, rfl, rfl, rfl⟩⟩
  · refine ⟨_, exec_registerWrite_sys s v (by decide) (by decide), ?_, ?_, fun a ha hh => ?_⟩
    · rw [State.reg_showHealth_of_block _ (by decide), plainWrite_scratch, State.reg_setReg_same]
    · rw [State.showHealth_shadow, plainWrite_scratch, State.setReg_shadow]
    · rw [State.reg_showHealth_ne _ _ hh, plainWrite_scratch, State.reg_setReg_ne _ _ _ _ ha]
  · refine ⟨_, exec_registerWrite_sys s v (by decide) (by decide), ?_⟩
    rw [State.reg_showHealth_of_block _ (by decide), plainWrite_deviceId, if_neg (by simp [hc]), State.reg_setReg_same]
  · have ht : s.plainWrite Reg.SYS_DEVICE_ID v = s.lockedWrite Reg.SYS_DEVICE_ID v := by
      rw [plainWrite_deviceId, if_pos hc, if_pos hv]
    refine ⟨_, exec_registerWrite_sys s v (by decide) (by decide), ?_, ?_⟩
    · rw [State.reg_showHealth_of_block _ (by decide), ht,
        State.reg_lockedWrite _ _ _ _ (not_mem_logRegs_of_block (by decide)), State.reg_bump_ne _ _ _ (by decide)]
    · rw [State.reg_showHealth_of_block _ (by decide), ht,
        State.reg_lockedWrite _ _ _ _ (not_mem_logRegs_of_block (by decide)), State.reg_bump_same]
  · rw [exec_registerWrite_sys s v (by decide) (by decide), plainWrite_deviceId, if_pos hc, if_neg (not_not_intro hv)]
  · refine ⟨_, exec_registerWrite_unaligned s v ha, ?_, fun a hne hh => ?_⟩
    · rw [State.reg_showHealth_of_block _ (by decide), State.reg_bump_same]
    · rw [State.reg_showHealth_ne _ _ hh, State.reg_bump_ne _ _ _ hne]
  · rw [exec_registerWrite_sys s v ha hb, plainWrite_of_reserved s v hd]

/-- Settles O12: a commit of a window gives MAXLEN its staged value however the shadow is listed, and the bits of SPT_COMMIT follow by induction on the ports. -/
theorem portCommits : Obligations.PortCommits := by
  unfold Obligations.PortCommits
  refine ⟨fun s port v hp hlo hhi => ?_, fun s port v hp hv => ?_, fun s mask => ?_, fun s port hp hf => ?_, fun s port hp hl hf hrx => ?_⟩
  · exact ⟨_, exec_maxlenWrite_in_range s port ⟨hlo, hhi⟩, kvGet_kvPut_same _ _ _, State.reg_showHealth_ne _ _ (SPT_MAXLEN_not_mem_healthRegs hp)⟩
  · refine ⟨_, exec_maxlenWrite_out_of_range s port hv, State.log_shadow _ _ _ _, ?_⟩
    rw [State.reg_showHealth_ne _ _ (SPT_MAXLEN_not_mem_healthRegs hp), State.reg_log _ _ _ _ _ (by decide) (SPT_MAXLEN_not_mem_logRegs hp)]
  · refine ⟨_, exec_sptCommit s mask, fun port hp => ?_⟩
    rw [State.flag_showHealth_ne _ _ _ (not_mem_healthRegs_of_block (by decide)), State.flag_foldl_askCommit _ _ _ (by omega)]
    simp [hp]
  · refine ⟨_, exec_sptCommitPoint_rx s hf, ?_⟩
    rw [State.reg_showHealth_ne _ _ (SPT_MAXLEN_not_mem_healthRegs hp), State.reg_endCommit _ _ (SPT_MAXLEN_ne_commit hp)]
    exact s.reg_commitRange (SPT_MAXLEN_mem_window port)
  · refine ⟨_, exec_sptCommitPoint_tx s hf hrx, ?_, State.endCommit_shadow _ _⟩
    rw [State.port, State.showHealth_ports, State.endCommit_ports, ← State.port, State.port_modPort_same _ _ hl]

/-- Settles O2 by evaluating the reset state. -/
theorem resetState : Obligations.ResetState := by
  have hh : HealthShown State.reset := ⟨by decide, by decide, by decide⟩
  exact ⟨rfl, rfl, rfl, rfl, rfl, rfl, hh, by decide⟩

end Sys2Proof.Machine
end

section
/-!
PROOFS of the statement of family 01_rows_and_data_path: the losses of the clocks, and what error reports and lost links leave alone.
-/
namespace Sys2Proof.Machine

theorem State.flag_congr {s t : State} {a : Nat} (h : t.reg a = s.reg a) (n : Nat) : t.flag a n = s.flag a n :=
  congrArg (fun w : Word => w.getLsbD n) h

/-! ### The steps of an error report -/

/-- An E2 that completes its source's allowance for the second becomes E3 (R447). -/
def State.gradeE2 (s : State) (e : ErrorRec) : ErrorRec × State :=
  if e.grade = 2 then
    let s := s.countE2 e.source
    if s.e2InSecond e.source = s.field Reg.HLT_CTRL 15 8 + 1 then ({ e with grade := 3, cause := 2 }, s.escalate e 3) else (e, s)
  else (e, s)

/-- An E3 is marked at its block, and becomes E4 with a full stack, in a block that allows none, or soon after another (R447, R448). -/
def State.gradeE3 (s : State) (e : ErrorRec) : ErrorRec × State :=
  let b := blockOf e.source
  if e.grade = 3 then
    if s.hlt.handling.isSome && decide (16 ≤ s.hlt.stack.length) then ({ e with grade := 4, cause := 2 }, s.markE3 b)
    else if b = 0x01 || b = 0x05 || b = 0x15 || b = 0x16 || s.recentE3 b then
      ({ e with grade := 4, cause := 2 }, (s.markE3 b).escalate e 4)
    else (e, s.markE3 b)
  else (e, s)

theorem State.gradeError_eq (s : State) (e : ErrorRec) : s.gradeError e = (s.gradeE2 e).2.gradeE3 (s.gradeE2 e).1 := rfl

/-- An error of a grade is counted and shown in the registers of the last error (R451). -/
def State.noteLast (s : State) (e : ErrorRec) : State :=
  (((s.bump (Reg.HLT_CNT_E (e.grade - 1))).setPair Reg.HLT_LAST_LO Reg.HLT_LAST_HI s.now).setReg Reg.HLT_LAST_SRC e.source).setReg
    Reg.HLT_LAST_CODE (Word.ofNat (e.code.toNat + 2 ^ 16 * (e.grade % 8)))

/-- An E4 begins the sequence of R450. -/
def State.contain (s : State) (e : ErrorRec) : State := if 4 ≤ e.grade then s.beginE4 else s

/-- A graded error goes before the handler or on the stack, and a vector tells of a change of health since `s0` (R448, R452). -/
def State.holdError (s s0 : State) (e : ErrorRec) : State :=
  s0.noticeHealth (State.stackError { s with hlt := { s.hlt with order := s.hlt.order + 1 } }
    { err := e, gts := s.now, val := s.validity, order := s.hlt.order, resumed := false }).showStack

theorem State.raiseError_eq (s : State) (e : ErrorRec) : s.raiseError e =
    (((s.gradeError e).2.noteLast (s.gradeError e).1).contain (s.gradeError e).1).holdError s (s.gradeError e).1 := rfl

/-! ### What may only be lost -/

/-- What an error report and a lost host link leave alone: the SYS block, Device Time, rows and streams; nothing that they turn off comes back on. -/
structure OnlyLoses (s t : State) : Prop where
  sys : ∀ a, a < 0x100000 → t.reg a = s.reg a
  tim : t.tim = s.tim
  aln : t.aln = s.aln
  dec : t.dec = s.dec
  busMaster : s.hif.busMaster = false → t.hif.busMaster = false
  e4 : ∀ x, s.hlt.e4 = some x → t.hlt.e4 = some x
  outputsOff : s.boot.outputsOff = true → t.boot.outputsOff = true

namespace OnlyLoses

variable {s t u : State}

theorem refl (s : State) : OnlyLoses s s := ⟨fun _ _ => rfl, rfl, rfl, rfl, id, fun _ h => h, id⟩

theorem trans (h : OnlyLoses s t) (k : OnlyLoses t u) : OnlyLoses s u where
  sys a ha := (k.sys a ha).trans (h.sys a ha)
  tim := k.tim.trans h.tim
  aln := k.aln.trans h.aln
  dec := k.dec.trans h.dec
  busMaster hb := k.busMaster (h.busMaster hb)
  e4 x hx := k.e4 x (h.e4 x hx)
  outputsOff ho := k.outputsOff (h.outputsOff ho)

theorem foldl {β : Type} (f : State → β → State) (h : ∀ s b, OnlyLoses s (f s b)) (l : List β) (s : State) :
    OnlyLoses s (l.foldl f s) := by
  induction l generalizing s with
  | nil => exact .refl s
  | cons b r ih => exact (h s b).trans (ih _)

theorem setReg (s : State) {a : Nat} (v : Word) (h : 0x100000 ≤ a) : OnlyLoses s (s.setReg a v) :=
  { refl s with sys := fun b hb => s.reg_setReg_ne a b v (by omega) }

theorem of_hlt (s : State) (x : HltState) (h : x.e4 = s.hlt.e4) : OnlyLoses s { s with hlt := x } :=
  { refl s with e4 := fun _ hy => h.trans hy }

theorem of_hif (s : State) (x : HifState) (h : s.hif.busMaster = false → x.busMaster = false) : OnlyLoses s { s with hif := x } :=
  { refl s with busMaster := h }

theorem log (s : State) (code sev : Nat) (p : List Byte) (h : sev ≤ 4) : OnlyLoses s (s.log code sev p) where
  sys a ha := s.reg_log _ _ _ _ h (not_mem_logRegs_of_block (by omega))
  tim := s.log_tim _ _ _
  aln := s.log_aln _ _ _
  dec := s.log_dec _ _ _
  busMaster hb := by rwa [State.log_hif]
  e4 x hx := by rwa [State.log_hlt]
  outputsOff ho := by rwa [State.log_boot]

theorem bump (s : State) {a : Nat} (h : 0x100000 ≤ a) : OnlyLoses s (s.bump a) := setReg s _ h

theorem setQueue (s : State) (q : Nat) (x : QueueState) : OnlyLoses s (s.setQueue q x) := of_hif s _ id

theorem raiseVector (s : State) (v : Nat) : OnlyLoses s (s.raiseVector v) := of_hif s _ id

/-! ### Error reports (R445 to R450) -/

theorem escalate (s : State) (e : ErrorRec) (g : Nat) : OnlyLoses s (s.escalate e g) :=
  (log s _ _ _ (by decide)).trans (bump _ (by decide))

theorem gradeError (s : State) (e : ErrorRec) : OnlyLoses s (s.gradeError e).2 := by
  have he2 : OnlyLoses s (s.gradeE2 e).2 := by
    have hc : OnlyLoses s (s.countE2 e.source) := of_hlt s _ rfl
    unfold State.gradeE2
    dsimp only
    split
    · split
      · exact hc.trans (escalate _ _ _)
      · exact hc
    · exact refl s
  have he3 (t : State) (x : ErrorRec) : OnlyLoses t (t.gradeE3 x).2 := by
    have hm : OnlyLoses t (t.markE3 (blockOf x.source)) := of_hlt t _ rfl
    unfold State.gradeE3
    dsimp only
    split
    · split
      · exact hm
      · split
        · exact hm.trans (escalate _ _ _)
        · exact hm
    · exact refl t
  exact he2.trans (he3 _ _)

theorem noteLast (s : State) (e : ErrorRec) : OnlyLoses s (s.noteLast e) :=
  ((((bump s (Nat.le_add_right_of_le (by decide))).trans (setReg _ _ (by decide))).trans (setReg _ _ (by decide))).trans
    (setReg _ _ (by decide))).trans (setReg _ _ (by decide))

theorem beginE4 (s : State) : OnlyLoses s s.beginE4 := by
  unfold State.beginE4
  split
  · exact refl s
  · rename_i hn
    have h : OnlyLoses s { s with hlt := { s.hlt with e4 := some s.elapsed }, boot := { s.boot with outputsOff := true },
                                  alm := { s.alm with pins := s.alm.pins.map (fun p => { p with driven := false }) } } :=
      { refl s with e4 := fun x hx => absurd (by rw [hx]; rfl) hn, outputsOff := fun _ => rfl }
    dsimp only
    split
    · exact h.trans (log _ _ _ _ (by decide))
    · exact h

theorem contain (s : State) (e : ErrorRec) : OnlyLoses s (s.contain e) := by
  unfold State.contain
  split
  · exact beginE4 s
  · exact refl s

theorem preempt (s : State) (x : StackEntry) : OnlyLoses s (s.preempt x) := by
  unfold State.preempt
  split
  · refine OnlyLoses.trans ?_ (bump _ (by decide))
    exact of_hlt s _ rfl
  · exact of_hlt s _ rfl

theorem stackError (s : State) (x : StackEntry) : OnlyLoses s (s.stackError x) := by
  have hb : OnlyLoses s (s.bump Reg.HLT_CNT_STACK_LOST) := bump s (by decide)
  unfold State.stackError
  split
  · exact preempt s x
  · split
    · split
      · exact preempt s x
      · exact of_hlt s _ rfl
    · split
      · dsimp only
        split
        · exact hb
        · exact (hb.trans (log _ _ _ _ (by decide))).trans (of_hlt _ _ rfl)
      · exact preempt s x

theorem showStack (s : State) : OnlyLoses s s.showStack :=
  ((setReg s _ (by decide)).trans (setReg _ _ (by decide))).trans (setReg _ _ (by decide))

theorem noticeHealth (s0 s : State) : OnlyLoses s (s0.noticeHealth s) := by
  unfold State.noticeHealth
  split
  · exact raiseVector _ _
  · exact refl s

theorem holdError (s0 s : State) (e : ErrorRec) : OnlyLoses s (s.holdError s0 e) := by
  unfold State.holdError
  have h : OnlyLoses s { s with hlt := { s.hlt with order := s.hlt.order + 1 } } := of_hlt s _ rfl
  exact ((h.trans (stackError _ _)).trans (showStack _)).trans (noticeHealth _ _)

theorem raiseError (s : State) (e : ErrorRec) : OnlyLoses s (s.raiseError e) := by
  rw [State.raiseError_eq]
  exact (((gradeError s e).trans (noteLast _ _)).trans (contain _ _)).trans (holdError _ _ _)

theorem blockError (s : State) (grade block code : Nat) : OnlyLoses s (s.blockError grade block code) := raiseError s _

/-! ### Queues (R334 to R341) and the loss of the host (R332) -/

theorem showOpen (s : State) (q : Nat) : OnlyLoses s (s.showOpen q) := setReg s _ (Nat.le_add_right_of_le (by decide))

theorem qReset (s : State) (q : Nat) : OnlyLoses s (s.qReset q) := by
  unfold State.qReset
  dsimp only
  refine OnlyLoses.trans ?_ (raiseError _ _)
  refine OnlyLoses.trans ?_ (log _ _ _ _ (by decide))
  refine OnlyLoses.trans ?_ (showOpen _ q)
  refine OnlyLoses.trans ?_ (setReg _ _ (Nat.le_add_right_of_le (by decide)))
  refine OnlyLoses.trans ?_ (bump _ (Nat.le_add_right_of_le (by decide)))
  refine OnlyLoses.trans ?_ (setReg _ _ (Nat.le_add_right_of_le (by decide)))
  refine (setQueue s q _).trans (foldl _ (fun t w => ?_) _ _)
  exact { refl t with }

theorem qCheck (s : State) (q : Nat) : OnlyLoses s (s.qCheck q) := by
  unfold State.qCheck
  dsimp only
  split
  · exact refl s
  · exact qReset s q

theorem qIrq (s : State) (q : Nat) : OnlyLoses s (s.qIrq q) := by
  unfold State.qIrq
  dsimp only
  split
  · exact (setQueue s q _).trans (raiseVector _ _)
  · exact refl s

theorem qPopped (s : State) (q : Nat) : OnlyLoses s (s.qPopped q) := by
  unfold State.qPopped
  dsimp only
  split
  · exact refl s
  · split
    · exact (setQueue s q _).trans (qIrq _ q)
    · exact setQueue s q _

theorem qServe (q n : Nat) (s : State) : OnlyLoses s (State.qServe q n s) := by
  induction n generalizing s with
  | zero => exact refl s
  | succ n ih =>
    unfold State.qServe
    dsimp only
    split
    · rename_i w r _
      split
      · have hr : OnlyLoses s { s with readData := (s.queue q).visible.take w.n } := { refl s with }
        exact ((hr.trans (setQueue _ q _)).trans (qPopped _ q)).trans (ih _)
      · exact refl s
    · exact refl s

theorem qAppend (s : State) (q : Nat) (p : Packet) : OnlyLoses s (s.qAppend q p) := by
  unfold State.qAppend
  exact (((setQueue s q _).trans (bump _ (Nat.le_add_right_of_le (by decide)))).trans (qIrq _ q)).trans (qServe q _ _)

theorem qOffer {s t : State} {q kind : Nat} {words : List Word} (h : s.qOffer q kind words = some t) : OnlyLoses s t := by
  unfold State.qOffer at h
  dsimp only at h
  split at h
  · cases h
    exact (qCheck s q).trans (qAppend _ q _)
  · cases h

theorem flushQ1 (n : Nat) (s : State) : OnlyLoses s (State.flushQ1 n s) := by
  induction n generalizing s with
  | zero => exact refl s
  | succ n ih =>
    unfold State.flushQ1
    split
    · exact refl s
    · split
      · rename_i h
        refine ((qOffer h).trans ?_).trans (ih _)
        exact of_hif _ _ id
      · exact refl s

theorem qEmpty (s : State) (q : Nat) : OnlyLoses s (s.qEmpty q) := by
  unfold State.qEmpty
  exact ((setQueue s q _).trans (setReg _ _ (Nat.le_add_right_of_le (by decide)))).trans (showOpen _ q)

end OnlyLoses

/-- Before Q1 is flushed, a lost host leaves its queues empty, the rings disabled and bus mastering off (R332). -/
def State.hostCleared (s : State) : State :=
  let s := s.hostQueues.foldl (fun (s : State) q => s.qEmpty q) s
  let s := (List.range 6).foldl (fun (s : State) p =>
    let s := (List.range 32).foldl (fun (s : State) r => s.setFlag (Reg.SPT_RXR_CTRL p r) 0 false) s
    (List.range 8).foldl (fun (s : State) r => s.setFlag (Reg.SPT_TXR_CTRL p r) 0 false) s) s
  { s with hif := { s.hif with busMaster := false } }.setFlag Reg.HIF_STATUS 1 false

theorem State.hostLost_eq (s : State) : s.hostLost = State.flushQ1 s.hostCleared.hif.q1Wait.length s.hostCleared := rfl

theorem State.hostCleared_busMaster (s : State) : s.hostCleared.hif.busMaster = false := rfl

theorem OnlyLoses.hostCleared (s : State) : OnlyLoses s s.hostCleared := by
  unfold State.hostCleared
  refine OnlyLoses.trans ?_ (setReg _ _ (by decide))
  refine OnlyLoses.trans ?_ (of_hif _ _ fun _ => rfl)
  refine (foldl _ (fun t q => qEmpty t q) _ s).trans (foldl _ (fun t p => ?_) _ _)
  refine (foldl _ (fun u r => ?_) _ t).trans (foldl _ (fun u r => ?_) _ _)
  · exact setReg u _ (Nat.le_add_right_of_le (Nat.le_add_right_of_le (by decide)))
  · exact setReg u _ (Nat.le_add_right_of_le (Nat.le_add_right_of_le (by decide)))

theorem OnlyLoses.hostLost (s : State) : OnlyLoses s s.hostLost := by
  rw [State.hostLost_eq]
  exact (hostCleared s).trans (flushQ1 _ _)

theorem State.hostLost_busMaster (s : State) : s.hostLost.hif.busMaster = false := by
  rw [State.hostLost_eq]
  exact (OnlyLoses.flushQ1 _ _).busMaster s.hostCleared_busMaster

/-- A lost host link takes bus mastering down, and leaves what measures as it is (R332, R35). -/
theorem State.hostLinkLost_of_up {s : State} (h : s.flag Reg.HIF_STATUS 0 = true) :
    OnlyLoses s s.hostLinkLost ∧ s.hostLinkLost.hif.busMaster = false ∧ s.hostLinkLost.flag Reg.HIF_STATUS 0 = false := by
  have he : s.hostLinkLost = ((((((s.log 0x0F01 1 s.linkShape).bump Reg.HIF_CNT_LINK_DOWN).hostLost).setFlag Reg.HIF_STATUS 0 false).setField
      Reg.HIF_STATUS 4 2 0).setField Reg.HIF_STATUS 11 8 0) := if_neg (by simp [h])
  have hlost := ((OnlyLoses.log s 0x0F01 1 s.linkShape (by decide)).trans
    (.bump _ (a := Reg.HIF_CNT_LINK_DOWN) (by decide))).trans (.hostLost _)
  rw [he]
  refine ⟨((hlost.trans (.setReg _ _ (by decide))).trans (.setReg _ _ (by decide))).trans (.setReg _ _ (by decide)),
    State.hostLost_busMaster _, ?_⟩
  rw [State.flag_setField _ _ _ _ _ _ (by decide), if_neg (by decide), State.flag_setField _ _ _ _ _ _ (by decide), if_neg (by decide),
    State.flag_setFlag_same _ _ _ _ (by decide)]

theorem State.hostLinkLost_of_down {s : State} (h : s.flag Reg.HIF_STATUS 0 = false) : s.hostLinkLost = s := if_pos (by simp [h])

/-! ### An E4 begins (R450) -/

theorem State.beginE4_of_none {s : State} (h : s.hlt.e4 = none) :
    s.beginE4.hlt.e4 = some s.elapsed ∧ s.beginE4.boot.outputsOff = true := by
  unfold State.beginE4
  rw [if_neg (by simp [h])]
  dsimp only
  split <;> simp

theorem State.gradeError_of_grade4 (s : State) {e : ErrorRec} (h : e.grade = 4) : s.gradeError e = (e, s) := by
  have h2 : s.gradeE2 e = (e, s) := if_neg (by omega)
  rw [State.gradeError_eq, h2]
  exact if_neg (show ¬e.grade = 3 by omega)

theorem State.raiseError_of_grade4 {s : State} {e : ErrorRec} (hg : e.grade = 4) (h : s.hlt.e4 = none) :
    (s.raiseError e).hlt.e4 = some s.elapsed ∧ (s.raiseError e).boot.outputsOff = true := by
  obtain ⟨h4, ho⟩ := State.beginE4_of_none (s := s.noteLast e) h
  have hk := OnlyLoses.holdError s (s.noteLast e).beginE4 e
  rw [State.raiseError_eq, State.gradeError_of_grade4 s hg, State.contain, if_pos (show 4 ≤ e.grade by omega)]
  exact ⟨hk.e4 _ h4, hk.outputsOff ho⟩

theorem State.blockError_of_grade4 {s : State} (block code : Nat) (h : s.hlt.e4 = none) :
    (s.blockError 4 block code).hlt.e4 = some s.elapsed ∧ (s.blockError 4 block code).boot.outputsOff = true :=
  State.raiseError_of_grade4 rfl h

/-! ### Links that go down (R43, R355) -/

/-- The blocks below the recorder, among them the ports, and the error handler stay as they are. -/
structure KeepsPorts (s t : State) : Prop where
  reg : ∀ a, a / 0x100000 < 12 → t.reg a = s.reg a
  hlt : t.hlt = s.hlt

namespace KeepsPorts

variable {s t u : State}

theorem refl (s : State) : KeepsPorts s s := ⟨fun _ _ => rfl, rfl⟩

theorem trans (h : KeepsPorts s t) (k : KeepsPorts t u) : KeepsPorts s u :=
  ⟨fun a ha => (k.reg a ha).trans (h.reg a ha), k.hlt.trans h.hlt⟩

theorem foldl {β : Type} (f : State → β → State) (h : ∀ s b, KeepsPorts s (f s b)) (l : List β) (s : State) :
    KeepsPorts s (l.foldl f s) := by
  induction l generalizing s with
  | nil => exact .refl s
  | cons b r ih => exact (h s b).trans (ih _)

theorem setReg (s : State) {a : Nat} (v : Word) (h : 0xC00000 ≤ a) : KeepsPorts s (s.setReg a v) :=
  ⟨fun b hb => s.reg_setReg_ne a b v (by omega), rfl⟩

theorem log (s : State) (code sev : Nat) (p : List Byte) (h : sev ≤ 4) : KeepsPorts s (s.log code sev p) :=
  ⟨fun _ ha => s.reg_log _ _ _ _ h (not_mem_logRegs_of_block ha), s.log_hlt _ _ _⟩

theorem ringInterrupt (s : State) (p id : Nat) (ctrl : Word) : KeepsPorts s (s.ringInterrupt p id ctrl) := by
  unfold State.ringInterrupt
  dsimp only
  split
  · split
    · exact ⟨fun _ _ => rfl, rfl⟩
    · exact ⟨fun _ _ => rfl, rfl⟩
  · exact ⟨fun _ _ => rfl, rfl⟩

theorem hostDone (s : State) (p : Nat) (f : TxFrame) (err : Bool) : KeepsPorts s (s.hostDone p f err) := by
  unfold State.hostDone
  split
  · split
    · refine KeepsPorts.trans ?_ (ringInterrupt _ _ _ _)
      exact ⟨fun _ _ => rfl, rfl⟩
    · exact refl s
  · exact refl s

theorem linkQueue (s : State) (l : Nat) (p : HgwPacket) : KeepsPorts s (s.linkQueue l p) := ⟨fun _ _ => rfl, rfl⟩

theorem floodBody (s : State) (b : HgwBody) (x : Option Nat) : KeepsPorts s (s.floodBody b x) :=
  foldl _ (fun t l => linkQueue t l _) _ s

theorem floodT0 (s : State) (b : HgwBody) : KeepsPorts s (s.floodT0 b) := ⟨fun _ _ => rfl, rfl⟩

theorem flood (s : State) : KeepsPorts s s.flood := by
  unfold State.flood
  dsimp only
  refine KeepsPorts.trans ?_ (floodT0 _ _)
  split
  · refine KeepsPorts.trans ?_ (floodBody _ _ _)
    exact ⟨fun _ _ => rfl, rfl⟩
  · exact ⟨fun _ _ => rfl, rfl⟩

theorem showLinks (s : State) : KeepsPorts s s.showLinks := (setReg s _ (by decide)).trans (setReg _ _ (by decide))

theorem hgwDown (s : State) (l cause : Nat) : KeepsPorts s (s.hgwDown l cause) := by
  unfold State.hgwDown
  dsimp only
  refine KeepsPorts.trans ?_ (flood _)
  refine KeepsPorts.trans ?_ (log _ _ _ _ (by decide))
  refine KeepsPorts.trans ?_ (showLinks _)
  refine KeepsPorts.trans ?_ (setReg _ _ (Nat.le_add_right_of_le (by decide)))
  have hd : KeepsPorts s ((State.modLink (s.setField (Reg.HGW_L_STATUS l) 7 0 0) l
      fun x => { x with retries := 0, busyUntil := 0, above := 0, below := 0 }).bump (Reg.HGW_L_CNT_DOWN l)) := by
    refine KeepsPorts.trans ?_ (setReg _ _ (Nat.le_add_right_of_le (by decide)))
    exact (setReg s _ (Nat.le_add_right_of_le (by decide))).trans ⟨fun _ _ => rfl, rfl⟩
  split
  · exact hd.trans (setReg _ _ (by decide))
  · exact hd

end KeepsPorts

section
variable (s : State)

/-- The frames queued at a port whose link goes down are given up and counted (R58). -/
def State.dropQueue (s : State) (p : Nat) : State :=
  ((s.port p).txq.foldl (fun (s : State) f => s.hostDone p f false)
    (s.bumpBy (Reg.SPT_CNT_TX_LINK_DROP p) (s.port p).txq.length)).modPort p (fun x => { x with txq := [], wakeAt := none })

theorem State.portDown_eq (p cause : Nat) : s.portDown p cause
    = ((s.dropQueue p).setReg (Reg.SPT_PORT_STATUS p) 0).log 0x0201 2 (leBytes 1 p ++ leBytes 1 cause) := rfl

theorem State.dropQueue_keeps (p : Nat) :
    KeepsPorts (s.bumpBy (Reg.SPT_CNT_TX_LINK_DROP p) (s.port p).txq.length) (s.dropQueue p) :=
  (KeepsPorts.foldl _ (fun t f => .hostDone t p f false) _ _).trans ⟨fun _ _ => rfl, rfl⟩

theorem State.portDown_hlt (p cause : Nat) : (s.portDown p cause).hlt = s.hlt := by
  rw [State.portDown_eq, State.log_hlt, State.setReg_hlt, (s.dropQueue_keeps p).hlt, State.bumpBy_hlt]

theorem State.reg_portDown (p cause : Nat) {a : Nat} (hb : a / 0x100000 < 12) (hc : a ≠ Reg.SPT_CNT_TX_LINK_DROP p) :
    (s.portDown p cause).reg a = if a = Reg.SPT_PORT_STATUS p then 0 else s.reg a := by
  rw [State.portDown_eq, State.reg_log _ _ _ _ _ (by decide) (not_mem_logRegs_of_block hb), State.reg_setReg,
    (s.dropQueue_keeps p).reg a hb, State.reg_bumpBy_ne _ _ _ _ hc]

/-! ### A SerDes PLL loses lock (R35) -/

/-- A number that is no station port's: what goes down lies beyond the ports' blocks. -/
theorem State.pllDown_keeps {n : Nat} (h : 6 ≤ n) : KeepsPorts s (s.pllDown n) := by
  have hl := KeepsPorts.log s 0x0102 2 (leBytes 1 n) (by decide)
  unfold State.pllDown
  dsimp only
  rw [if_neg (by omega)]
  split
  · split
    · exact hl.trans (.hgwDown _ _ _)
    · exact hl
  · refine KeepsPorts.trans ?_ (.setReg _ _ (by decide))
    exact hl.trans ⟨fun _ _ => rfl, rfl⟩

theorem State.pllDown_port {n : Nat} (h : n < 6) : s.pllDown n
    = if s.flag (Reg.SPT_PORT_STATUS n) 0 then (s.log 0x0102 2 (leBytes 1 n)).portDown n 2 else s.log 0x0102 2 (leBytes 1 n) := by
  have hb : Reg.SPT_PORT_STATUS n / 0x100000 < 12 := by simp only [Reg.SPT_PORT_STATUS]; omega
  rw [← State.flag_log s 0x0102 2 (leBytes 1 n) _ 0 (by decide) (not_mem_logRegs_of_block hb)]
  exact if_pos h

theorem State.pllDown_hlt (n : Nat) : (s.pllDown n).hlt = s.hlt := by
  by_cases h : n < 6
  · rw [State.pllDown_port s h]
    split
    · rw [State.portDown_hlt, State.log_hlt]
    · rw [State.log_hlt]
  · exact (s.pllDown_keeps (by omega)).hlt

theorem State.reg_pllDown_ne {n a : Nat} (hb : a / 0x100000 < 12) (hs : a ≠ Reg.SPT_PORT_STATUS n) (hc : a ≠ Reg.SPT_CNT_TX_LINK_DROP n) :
    (s.pllDown n).reg a = s.reg a := by
  have hl := s.reg_log 0x0102 2 (leBytes 1 n) a (by decide) (not_mem_logRegs_of_block hb)
  by_cases h : n < 6
  · rw [State.pllDown_port s h]
    split
    · rw [State.reg_portDown _ _ _ hb hc, if_neg hs, hl]
    · exact hl
  · exact (s.pllDown_keeps (by omega)).reg a hb

theorem SPT_PORT_STATUS_ne_drop (p n : Nat) : Reg.SPT_PORT_STATUS p ≠ Reg.SPT_CNT_TX_LINK_DROP n := by
  simp only [Reg.SPT_PORT_STATUS, Reg.SPT_CNT_TX_LINK_DROP]
  omega

theorem SPT_PORT_STATUS_inj {p n : Nat} (h : p ≠ n) : Reg.SPT_PORT_STATUS p ≠ Reg.SPT_PORT_STATUS n := by
  simp only [Reg.SPT_PORT_STATUS]
  omega

theorem State.reg_pllDown_sys (n : Nat) {a : Nat} (h : a < 0x100000) : (s.pllDown n).reg a = s.reg a :=
  s.reg_pllDown_ne (by omega) (by simp only [Reg.SPT_PORT_STATUS]; omega) (by simp only [Reg.SPT_CNT_TX_LINK_DROP]; omega)

section
variable {p : Nat} (hp : p < 6)
include hp

theorem SPT_PORT_STATUS_block : Reg.SPT_PORT_STATUS p / 0x100000 = 1 := by
  simp only [Reg.SPT_PORT_STATUS]
  omega

theorem State.reg_pllDown_status_ne {n : Nat} (h : p ≠ n) : (s.pllDown n).reg (Reg.SPT_PORT_STATUS p) = s.reg (Reg.SPT_PORT_STATUS p) :=
  s.reg_pllDown_ne (by rw [SPT_PORT_STATUS_block hp]; decide) (SPT_PORT_STATUS_inj h) (SPT_PORT_STATUS_ne_drop p n)

theorem State.flag_pllDown_same : (s.pllDown p).flag (Reg.SPT_PORT_STATUS p) 0 = false := by
  have hb : Reg.SPT_PORT_STATUS p / 0x100000 < 12 := by rw [SPT_PORT_STATUS_block hp]; decide
  rw [State.pllDown_port s hp]
  split
  · rw [State.flag, State.reg_portDown _ _ _ hb (SPT_PORT_STATUS_ne_drop p p), if_pos rfl]
    rfl
  · rename_i hf
    rw [State.flag_log _ _ _ _ _ _ (by decide) (not_mem_logRegs_of_block hb)]
    exact Bool.eq_false_iff.mpr hf

theorem State.flag_foldl_pllDown_of_down (links : List Nat) (h : s.flag (Reg.SPT_PORT_STATUS p) 0 = false) :
    (links.foldl (fun (s : State) n => s.pllDown n) s).flag (Reg.SPT_PORT_STATUS p) 0 = false := by
  induction links generalizing s with
  | nil => exact h
  | cons n _ ih =>
    refine ih (s.pllDown n) ?_
    by_cases hn : p = n
    · exact hn ▸ s.flag_pllDown_same hp
    · rwa [State.flag_congr (s.reg_pllDown_status_ne hp hn)]

/-- A port among links that go down one after another ends with its link down. -/
theorem State.flag_foldl_pllDown_mem {links : List Nat} (h : p ∈ links) :
    (links.foldl (fun (s : State) n => s.pllDown n) s).flag (Reg.SPT_PORT_STATUS p) 0 = false := by
  obtain ⟨l, r, rfl⟩ := List.append_of_mem h
  rw [List.foldl_append, List.foldl_cons]
  exact State.flag_foldl_pllDown_of_down _ hp r (State.flag_pllDown_same _ hp)

theorem State.reg_foldl_pllDown_not_mem {links : List Nat} (h : p ∉ links) :
    (links.foldl (fun (s : State) n => s.pllDown n) s).reg (Reg.SPT_PORT_STATUS p) = s.reg (Reg.SPT_PORT_STATUS p) :=
  foldl_keeps_mem _ (fun (t : State) => t.reg (Reg.SPT_PORT_STATUS p)) links
    (fun t _ hn => t.reg_pllDown_status_ne hp fun e => h (e ▸ hn)) s

end

end

/-! ### The commands -/

section
variable (s : State)

theorem State.flag_clockFell_status {k : Nat} (h : k < 32) : (s.clockFell k).flag Reg.SYS_CLK_STATUS k = false := by
  rw [State.clockFell, State.flag_congr (State.reg_setFlag_ne _ _ _ _ _ (by decide)), State.flag_setFlag_same _ _ _ _ h]

theorem State.flag_clockFell_events {k : Nat} (h : k < 32) : (s.clockFell k).flag Reg.SYS_CLK_EVENTS k = true :=
  State.flag_setFlag_same _ _ _ _ h

theorem State.reg_clockFell_ne (k : Nat) {a : Nat} (hs : a ≠ Reg.SYS_CLK_STATUS) (he : a ≠ Reg.SYS_CLK_EVENTS) :
    (s.clockFell k).reg a = s.reg a := by
  rw [State.clockFell, State.reg_setFlag_ne _ _ _ _ _ he, State.reg_setFlag_ne _ _ _ _ _ hs]

theorem State.reg_clockFell_of_block (k : Nat) {a : Nat} (h : a / 0x100000 ≠ 0) : (s.clockFell k).reg a = s.reg a :=
  s.reg_clockFell_ne k (by rintro rfl; exact h (by decide)) (by rintro rfl; exact h (by decide))

theorem State.flag_pcieFell_status :
    ((s.clockFell 3).log 0x0103 1 []).flag Reg.HIF_STATUS 0 = s.flag Reg.HIF_STATUS 0 := by
  rw [State.flag_log _ _ _ _ _ _ (by decide) (by decide), State.flag_congr (State.reg_clockFell_of_block _ _ (by decide))]

/-- A loss that leaves the SYS block alone after a clock fell ends with the clock's status bit clear and its event bit set (R41). -/
theorem State.flags_of_clockFell {k : Nat} (hk : k < 32) {t : State} (h : ∀ a, a < 0x100000 → t.reg a = (s.clockFell k).reg a) :
    t.showHealth.flag Reg.SYS_CLK_STATUS k = false ∧ t.showHealth.flag Reg.SYS_CLK_EVENTS k = true := by
  rw [State.flag_showHealth_ne _ _ _ (by decide), State.flag_showHealth_ne _ _ _ (by decide), State.flag_congr (h _ (by decide)),
    State.flag_congr (h _ (by decide))]
  exact ⟨s.flag_clockFell_status hk, s.flag_clockFell_events hk⟩

theorem exec_clkRefLost_unlocked (ns : Nat) (h : s.flag Reg.SYS_CLK_STATUS 0 = false) : exec (.clkRefLost ns) s = .next s.showHealth :=
  congrArg answer (if_pos (by simp [h]))

theorem exec_clkRefLost_brief {ns : Nat} (h : s.flag Reg.SYS_CLK_STATUS 0 = true) (hn : ns ≤ 10000) :
    exec (.clkRefLost ns) s = .next ((s.clockFell 0).setFlag Reg.SYS_CLK_STATUS 0 true).showHealth :=
  congrArg answer ((if_neg (by simp [h])).trans (if_pos hn))

theorem exec_clkRefLost_long {ns : Nat} (h : s.flag Reg.SYS_CLK_STATUS 0 = true) (hn : 10000 < ns) : exec (.clkRefLost ns) s
    = .next (((s.clockFell 0).log 0x0101 3 (leBytes 4 (satNat 32 ns))).blockError 4 0x01 0x0101).showHealth :=
  congrArg answer ((if_neg (by simp [h])).trans (if_neg (by omega)))

/-- SERDES_LOCK has fallen, and the links are kept among those whose PLL is not locked. -/
def State.serdesFell (s : State) (links : List Nat) : State :=
  { s.clockFell 1 with hlt := { s.hlt with pllLost := (s.hlt.pllLost ++ links).eraseDups } }

theorem exec_clkSerdesLost (links : List Nat) :
    exec (.clkSerdesLost links) s = .next (links.foldl (fun (s : State) n => s.pllDown n) (s.serdesFell links)).showHealth := rfl

theorem exec_clkPcieRefLost : exec .clkPcieRefLost s = .next (((s.clockFell 3).log 0x0103 1 []).hostLinkLost).showHealth := rfl

theorem exec_dramLockLost : exec .dramLockLost s
    = .next (State.clockFell { s with hlt := { s.hlt with dramLost := true } } 2).showHealth := rfl

end

/-- Settles O9: each command is reduced to the fall of its clock's bit and to the loss that follows, whose frame gives the rest. -/
theorem clockLosses : Obligations.ClockLosses := by
  unfold Obligations.ClockLosses
  refine ⟨fun s ns hl hn => ?_, fun s ns hl hn h4 => ?_, fun s ns hl => exec_clkRefLost_unlocked s ns hl, fun s links => ?_,
    fun s hup => ?_, fun s hdown => ?_, fun s => ?_⟩
  · refine ⟨_, exec_clkRefLost_brief s hl hn, ?_, ?_, rfl, fun a hs he hh => ?_⟩
    · rw [State.flag_showHealth_ne _ _ _ (by decide), State.flag_setFlag_same _ _ _ _ (by decide)]
    · rw [State.flag_showHealth_ne _ _ _ (by decide), State.flag_congr (State.reg_setFlag_ne _ _ _ _ _ (by decide)),
        State.flag_clockFell_events _ (by decide)]
    · rw [State.reg_showHealth_ne _ _ hh, State.reg_setFlag_ne _ _ _ _ _ hs, State.reg_clockFell_ne _ _ hs he]
  · have hlog := OnlyLoses.log (s.clockFell 0) 0x0101 3 (leBytes 4 (satNat 32 ns)) (by decide)
    obtain ⟨hstatus, hevent⟩ := s.flags_of_clockFell (by decide) (hlog.trans (.blockError _ 4 0x01 0x0101)).sys
    obtain ⟨he, ho⟩ := State.blockError_of_grade4 (s := (s.clockFell 0).log 0x0101 3 (leBytes 4 (satNat 32 ns))) 0x01 0x0101
      (by rwa [State.log_hlt])
    refine ⟨_, exec_clkRefLost_long s hl hn, hstatus, hevent, he.trans ?_, ho⟩
    rw [State.elapsed, hlog.tim]
    rfl
  · obtain ⟨hstatus, hevent⟩ := s.flags_of_clockFell (t := links.foldl (fun (s : State) n => s.pllDown n) (s.serdesFell links)) (by decide)
      fun a ha => foldl_keeps _ (fun (t : State) => t.reg a) (fun t n => t.reg_pllDown_sys n ha) links _
    refine ⟨_, exec_clkSerdesLost s links, hstatus, hevent, ?_, fun port hp => ?_⟩
    · rw [State.showHealth_hlt, foldl_keeps _ State.hlt (fun t n => t.pllDown_hlt n)]
      rfl
    · have hb := SPT_PORT_STATUS_block hp
      split
      next hm => rw [State.flag_showHealth_ne _ _ _ (not_mem_healthRegs_of_block (by omega)), State.flag_foldl_pllDown_mem _ hp hm]
      next hm =>
        rw [State.reg_showHealth_of_block _ (by omega), State.reg_foldl_pllDown_not_mem _ hp hm]
        exact s.reg_clockFell_of_block 1 (by omega)
  · obtain ⟨hlost, hbus, hdown⟩ := State.hostLinkLost_of_up (s.flag_pcieFell_status.trans hup)
    have hk := (OnlyLoses.log (s.clockFell 3) 0x0103 1 [] (by decide)).trans hlost
    obtain ⟨hstatus, hevent⟩ := s.flags_of_clockFell (by decide) hk.sys
    refine ⟨_, exec_clkPcieRefLost s, hstatus, hevent, ?_, hbus, hk.tim, hk.aln, hk.dec⟩
    rw [State.flag_showHealth_ne _ _ _ (by decide), hdown]
  · have hlink := s.flag_pcieFell_status.trans hdown
    have hk := OnlyLoses.log (s.clockFell 3) 0x0103 1 [] (by decide)
    obtain ⟨hstatus, hevent⟩ := s.flags_of_clockFell (by decide) hk.sys
    refine ⟨_, exec_clkPcieRefLost s, ?_⟩
    rw [State.hostLinkLost_of_down hlink]
    refine ⟨hstatus, hevent, ?_, State.log_hif _ _ _ _, hk.tim, hk.aln, hk.dec⟩
    rw [State.flag_showHealth_ne _ _ _ (by decide), hlink]
  · obtain ⟨hstatus, hevent⟩ := State.flags_of_clockFell { s with hlt := { s.hlt with dramLost := true } } (k := 2) (by decide) fun _ _ => rfl
    refine ⟨_, exec_dramLockLost s, hstatus, hevent, rfl, rfl, fun a hs he hh => ?_⟩
    rw [State.reg_showHealth_ne _ _ hh, State.reg_clockFell_ne _ _ hs he]
    rfl

end Sys2Proof.Machine
end

section
/-!
PROOFS of the statements of family 02_station_ports: what a port's commands change, receive rings, Low Power Idle, links, transmitting, receiving
and PRP pairs.
-/
namespace Sys2Proof.Machine

/-! ### Registers of the SPT block -/

theorem port_offset_ne {m n : Nat} (p : Nat) (h : m ≠ n) : m + p * 0x10000 ≠ n + p * 0x10000 := by omega

theorem port_block {p m : Nat} (hp : p < 6) (hm : m / 0x10000 = 0x10) : (m + p * 0x10000) / 0x100000 = 1 := by omega

theorem ring_block {p r m : Nat} (hp : p < 6) (hr : r < 32) (hm : m / 0x1000 = 0x101) : (m + p * 0x10000 + r * 0x40) / 0x100000 = 1 := by omega

theorem pair_block {q m : Nat} (hq : q < 3) (hm : m / 0x10000 = 0x18) : (m + q * 0x100) / 0x100000 = 1 := by omega

section
variable (s : State) {a : Nat} (ha : a / 0x100000 = 1)
include ha

theorem State.reg_showHealth_spt : s.showHealth.reg a = s.reg a := s.reg_showHealth_of_block (by omega)

theorem State.flag_showHealth_spt (n : Nat) : s.showHealth.flag a n = s.flag a n := State.flag_congr (s.reg_showHealth_spt ha) n

theorem State.field_showHealth_spt (hi lo : Nat) : s.showHealth.field a hi lo = s.field a hi lo :=
  congrArg (bitsOf · hi lo) (s.reg_showHealth_spt ha)

theorem State.reg_log_spt (code sev : Nat) (pl : List Byte) (hs : sev ≤ 4) : (s.log code sev pl).reg a = s.reg a :=
  s.reg_log _ _ _ _ hs (not_mem_logRegs_of_block (by omega))

end

/-! ### What a command of a port changes (R47, R56, R60, R62, R63) -/

/-- Nothing differs but ports, shadow, the data read and registers of the SPT block. -/
structure OnlyPorts (s t : State) : Prop where
  rest : t = { s with regs := t.regs, ports := t.ports, shadow := t.shadow, readData := t.readData }
  reg : ∀ a, a / 0x100000 ≠ 1 → t.reg a = s.reg a

namespace OnlyPorts

variable {s t u : State}

theorem refl (s : State) : OnlyPorts s s := ⟨rfl, fun _ _ => rfl⟩

theorem trans (h : OnlyPorts s t) (k : OnlyPorts t u) : OnlyPorts s u where
  rest := k.rest.trans (by rw [h.rest])
  reg a ha := (k.reg a ha).trans (h.reg a ha)

theorem foldl {β : Type} (f : State → β → State) (l : List β) (h : ∀ s, ∀ b ∈ l, OnlyPorts s (f s b)) (s : State) : OnlyPorts s (l.foldl f s) := by
  induction l generalizing s with
  | nil => exact .refl s
  | cons b r ih => exact (h s b List.mem_cons_self).trans (ih (fun s x hx => h s x (List.mem_cons_of_mem _ hx)) _)

theorem setReg (s : State) {a : Nat} (v : Word) (h : a / 0x100000 = 1) : OnlyPorts s (s.setReg a v) :=
  ⟨rfl, fun b hb => s.reg_setReg_ne a b v (by rintro rfl; exact hb h)⟩

theorem modPort (s : State) (p : Nat) (f : PortState → PortState) : OnlyPorts s (s.modPort p f) := ⟨rfl, fun _ _ => rfl⟩

theorem commitReg (s : State) {a : Nat} (h : a / 0x100000 = 1) : OnlyPorts s (s.commitReg a) := (setReg s _ h).trans ⟨rfl, fun _ _ => rfl⟩

theorem commitRange (s : State) {lo n : Nat} (h : ∀ a, lo ≤ a → a < lo + n → a / 0x100000 = 1) : OnlyPorts s (s.commitRange lo n) := by
  refine foldl _ _ (fun t x hx => commitReg t ?_) s
  obtain ⟨hlo, hhi⟩ : lo ≤ x.1 ∧ x.1 < lo + n := by simpa using (List.mem_filter.mp hx).2
  exact h _ hlo hhi

theorem lpiLeave (s : State) {p : Nat} (hp : p < 6) : OnlyPorts s (s.lpiLeave p) := (modPort s p _).trans (setReg _ _ (port_block hp (by decide)))

theorem askCommit (s : State) (p : Nat) : OnlyPorts s (s.askCommit p) := (setReg s _ (by decide)).trans (modPort _ p _)

theorem endCommit (s : State) (p : Nat) : OnlyPorts s (s.endCommit p) := by
  unfold State.endCommit
  split
  · exact setReg s _ (by decide)
  · exact refl s

theorem writeRing (s : State) {ctrl head : Nat} (v : Word) (hc : ctrl / 0x100000 = 1) (hh : head / 0x100000 = 1) :
    OnlyPorts s (s.writeRing ctrl head v) := by
  unfold State.writeRing
  dsimp only
  split
  · exact (setReg s _ hc).trans (setReg _ _ hh)
  · exact setReg s _ hc

theorem showTxts (s : State) {p : Nat} (hp : p < 6) : OnlyPorts s (s.showTxts p) := setReg s _ (port_block hp (by decide))

theorem freeCells (s : State) {p : Nat} (x : PoolFrame) (hp : p < 6) : OnlyPorts s (s.freeCells p x) := by
  unfold State.freeCells
  split
  · exact modPort s p _
  · exact setReg s _ (port_block hp (by decide))

/-- The end of a command refreshes the health registers and nothing else. -/
theorem answered (h : OnlyPorts s t) : ∃ u, answer t = .next u
    ∧ u = { s with regs := u.regs, ports := u.ports, shadow := u.shadow, readData := u.readData }
    ∧ ∀ a, a / 0x100000 ≠ 1 → a ∉ healthRegs → u.reg a = s.reg a := by
  refine ⟨t.showHealth, rfl, ?_, fun a ha hh => (t.reg_showHealth_ne a hh).trans (h.reg a ha)⟩
  have ht : t.showHealth = { t with regs := t.showHealth.regs } := rfl
  exact ht.trans (by rw [h.rest]; rfl)

end OnlyPorts

/-- A command completes, and changes no more than a port's command may. -/
def ChangesOnlyPorts (c : Instr) (s : State) : Prop := ∃ t, exec c s = answer t ∧ OnlyPorts s t

namespace ChangesOnlyPorts

variable (s : State) {port : Nat} (hp : port < 6)

theorem sptCommit (mask : Word) : ChangesOnlyPorts (.sptCommit mask) s := by
  refine ⟨_, rfl, OnlyPorts.foldl _ _ (fun t p _ => ?_) s⟩
  split
  · exact .askCommit t p
  · exact .refl t

include hp

theorem lpiEnter : ChangesOnlyPorts (.lpiEnter port) s := by
  refine ⟨_, rfl, ?_⟩
  split
  · exact (OnlyPorts.setReg s _ (port_block hp (by decide))).trans (.setReg _ _ (port_block hp (by decide)))
  · exact .refl s

theorem lpiWake : ChangesOnlyPorts (.lpiWake port) s := by
  refine ⟨_, rfl, ?_⟩
  split
  · exact .lpiLeave s hp
  · exact .refl s

theorem lpiFrameWake : ChangesOnlyPorts (.lpiFrameWake port) s := by
  refine ⟨_, rfl, ?_⟩
  split
  · exact (OnlyPorts.setReg s _ (port_block hp (by decide))).trans (.lpiLeave _ hp)
  · exact .refl s

theorem eeeTwUpdate (tw : Nat) : ChangesOnlyPorts (.eeeTwUpdate port tw) s := by
  have hset := OnlyPorts.setReg s (a := Reg.SPT_EEE_TW port) (Word.ofNat tw) (port_block hp (by decide))
  refine ⟨_, rfl, ?_⟩
  dsimp only
  split
  · exact hset.trans (.lpiLeave _ hp)
  · exact hset

theorem sptCommitPoint (tx : Bool) : ChangesOnlyPorts (.sptCommitPoint port tx) s := by
  refine ⟨_, rfl, ?_⟩
  split
  · exact .refl s
  · refine OnlyPorts.trans ?_ (.endCommit _ port)
    split
    · exact .modPort s port _
    · exact (OnlyPorts.commitRange s fun a hlo hhi => by simp only [Reg.SPT_PORT_CTRL] at hlo hhi; omega).trans (.modPort _ port _)

theorem supPoolDrain : ChangesOnlyPorts (.supPoolDrain port) s := by
  refine ⟨_, rfl, ?_⟩
  split
  · exact (OnlyPorts.freeCells s _ hp).trans (.modPort _ port _)
  · exact .refl s

theorem txtsPop : ChangesOnlyPorts (.txtsPop port) s := by
  refine ⟨_, rfl, ?_⟩
  split
  · refine OnlyPorts.trans ?_ ⟨rfl, fun _ _ => rfl⟩
    exact (((OnlyPorts.modPort s port _).trans (.showTxts _ hp)).trans (.setReg _ _ (port_block hp (by decide)))).trans
      (.setReg _ _ (port_block hp (by decide)))
  · exact ⟨rfl, fun _ _ => rfl⟩

theorem txtsStatClear : ChangesOnlyPorts (.txtsStatClear port) s :=
  ⟨_, rfl, (OnlyPorts.setReg s _ (port_block hp (by decide))).trans (.setReg _ _ (port_block hp (by decide)))⟩

variable {ring : Nat} (hr : ring < 32) (v : Word)
include hr

theorem rxrEnable : ChangesOnlyPorts (.rxrEnable port ring v) s :=
  ⟨_, rfl, .writeRing s _ (ring_block hp hr (by decide)) (ring_block hp hr (by decide))⟩

theorem rxrDisable : ChangesOnlyPorts (.rxrDisable port ring v) s :=
  ⟨_, rfl, .writeRing s _ (ring_block hp hr (by decide)) (ring_block hp hr (by decide))⟩

end ChangesOnlyPorts

/-- Settles O5: the commands are composed of operations that each leave everything outside the ports alone. -/
theorem portFrame : Obligations.PortFrame := by
  unfold Obligations.PortFrame
  intro c s hc
  have hports : ChangesOnlyPorts c s := by
    obtain ⟨mask, rfl⟩ | ⟨port, hp, rfl | rfl | rfl | rfl | rfl | rfl | ⟨tw, rfl⟩ | ⟨tx, rfl⟩ | ⟨ring, v, hr, rfl | rfl⟩⟩ := hc
    · exact .sptCommit s mask
    · exact .lpiEnter s hp
    · exact .lpiWake s hp
    · exact .lpiFrameWake s hp
    · exact .txtsPop s hp
    · exact .txtsStatClear s hp
    · exact .supPoolDrain s hp
    · exact .eeeTwUpdate s hp tw
    · exact .sptCommitPoint s hp tx
    · exact .rxrEnable s hp hr v
    · exact .rxrDisable s hp hr v
  obtain ⟨t, he, ht⟩ := hports
  rw [he]
  exact ht.answered

section
variable (s : State)

@[simp] theorem State.port_showHealth (p : Nat) : s.showHealth.port p = s.port p := rfl
@[simp] theorem State.port_setReg (a : Nat) (v : Word) (p : Nat) : (s.setReg a v).port p = s.port p := rfl
@[simp] theorem State.port_setFlag (a n : Nat) (b : Bool) (p : Nat) : (s.setFlag a n b).port p = s.port p := rfl
@[simp] theorem State.port_bump (a p : Nat) : (s.bump a).port p = s.port p := rfl
@[simp] theorem State.port_log (code sev : Nat) (pl : List Byte) (p : Nat) : (s.log code sev pl).port p = s.port p := by
  rw [State.port, State.log_ports, State.port]
@[simp] theorem State.reg_modPort (p : Nat) (f : PortState → PortState) (a : Nat) : (s.modPort p f).reg a = s.reg a := rfl

/-! ### Receive rings (R56) -/

theorem State.reg_writeRing_enabled {ctrl head : Nat} (v : Word) (he : s.flag ctrl 0 = true) (h : head ≠ ctrl) :
    (s.writeRing ctrl head v).reg head = s.reg head := by
  have hen : (s.reg ctrl).getLsbD 0 = true := he
  unfold State.writeRing
  simp only [hen, Bool.not_true, Bool.and_false, Bool.false_eq_true, if_false]
  exact s.reg_setReg_ne _ _ _ h

theorem State.reg_writeRing_starting {ctrl head : Nat} {v : Word} (hv : v.getLsbD 0 = true) (he : s.flag ctrl 0 = false) :
    (s.writeRing ctrl head v).reg head = 0 := by
  have hen : (s.reg ctrl).getLsbD 0 = false := he
  unfold State.writeRing
  simp only [hen, hv, Bool.not_false, Bool.and_true, if_true]
  exact State.reg_setReg_same _ _ _

theorem State.reg_writeRing_stopping {ctrl head : Nat} {v : Word} (hv : v.getLsbD 0 = false) (h : head ≠ ctrl) :
    (s.writeRing ctrl head v).reg head = s.reg head := by
  unfold State.writeRing
  simp only [hv, Bool.false_and, Bool.false_eq_true, if_false]
  exact s.reg_setReg_ne _ _ _ h

/-- A write of a ring's CTRL gives EN the bit written. -/
theorem State.flag_writeRing {ctrl head : Nat} (v : Word) (h : ctrl ≠ head) : (s.writeRing ctrl head v).flag ctrl 0 = v.getLsbD 0 := by
  have hbit (log : Nat) : (withBits (v &&& 0xFF3F0001#32) 11 8 log).getLsbD 0 = v.getLsbD 0 := by
    rw [withBits_getLsbD _ _ _ _ _ (by decide), if_neg (by decide)]
    simp
  unfold State.writeRing
  dsimp only
  split
  · rw [State.flag_setReg_ne _ _ _ _ _ h, State.flag, State.reg_setReg_same, hbit]
  · rw [State.flag, State.reg_setReg_same, hbit]

theorem SPT_RXR_CTRL_ne_HEAD (p r : Nat) : Reg.SPT_RXR_CTRL p r ≠ Reg.SPT_RXR_HEAD p r := by
  simp only [Reg.SPT_RXR_CTRL, Reg.SPT_RXR_HEAD]
  omega

theorem exec_rxrEnable (port ring : Nat) (v : Word) : exec (.rxrEnable port ring v) s
    = .next (s.writeRing (Reg.SPT_RXR_CTRL port ring) (Reg.SPT_RXR_HEAD port ring) (v ||| 1)).showHealth := rfl

theorem exec_rxrDisable (port ring : Nat) (v : Word) : exec (.rxrDisable port ring v) s
    = .next (s.writeRing (Reg.SPT_RXR_CTRL port ring) (Reg.SPT_RXR_HEAD port ring) (v &&& ~~~1)).showHealth := rfl

end

/-- Settles O13: the bit written decides EN, and HEAD is cleared only where EN rises. -/
theorem ringEnable : Obligations.RingEnable := by
  unfold Obligations.RingEnable
  have hset (v : Word) : (v ||| 1).getLsbD 0 = true := by simp
  have hclear (v : Word) : (v &&& ~~~1).getLsbD 0 = false := by simp
  refine ⟨fun s port ring v hp hr he => ?_, fun s port ring v hp hr he => ?_, fun s port ring v hp hr => ?_⟩
  all_goals
    have hne := SPT_RXR_CTRL_ne_HEAD port ring
    have hctrl : Reg.SPT_RXR_CTRL port ring / 0x100000 = 1 := ring_block hp hr (by decide)
    have hhead : Reg.SPT_RXR_HEAD port ring / 0x100000 = 1 := ring_block hp hr (by decide)
  · refine ⟨_, exec_rxrEnable s port ring v, ?_, ?_⟩
    · rw [State.flag_showHealth_spt _ hctrl, State.flag_writeRing _ _ hne, hset]
    · rw [State.reg_showHealth_spt _ hhead, State.reg_writeRing_starting _ (hset v) he]
  · refine ⟨_, exec_rxrEnable s port ring v, ?_, ?_⟩
    · rw [State.flag_showHealth_spt _ hctrl, State.flag_writeRing _ _ hne, hset]
    · rw [State.reg_showHealth_spt _ hhead, State.reg_writeRing_enabled _ _ he hne.symm]
  · refine ⟨_, exec_rxrDisable s port ring v, ?_, ?_⟩
    · rw [State.flag_showHealth_spt _ hctrl, State.flag_writeRing _ _ hne, hclear]
    · rw [State.reg_showHealth_spt _ hhead, State.reg_writeRing_stopping _ (hclear v) hne.symm]

/-! ### Low Power Idle (R61 to R63) -/

section
variable (s : State) {p : Nat}

theorem State.flag_lpiLeave : (s.lpiLeave p).flag (Reg.SPT_PORT_STATUS p) 1 = false := State.flag_setFlag_same _ _ _ _ (by decide)

theorem State.reg_lpiLeave_ne {a : Nat} (h : a ≠ Reg.SPT_PORT_STATUS p) : (s.lpiLeave p).reg a = s.reg a := State.reg_setFlag_ne _ _ _ _ _ h

theorem State.wakeAt_lpiLeave (h : p < s.ports.length) :
    ((s.lpiLeave p).port p).wakeAt = some (s.elapsed + (s.reg (Reg.SPT_EEE_TW p)).toNat) := by
  rw [State.lpiLeave, State.port_setFlag, State.port_modPort_same _ _ h]

theorem exec_lpiEnter_of_maySleep (h : s.maySleep p = true) : exec (.lpiEnter p) s
    = .next ((s.setFlag (Reg.SPT_PORT_STATUS p) 1 true).bump (Reg.SPT_CNT_LPI_ENTRY p)).showHealth := congrArg answer (if_pos h)

theorem exec_lpiWake_of_lc0 (hp : p < 4) (h : s.flag (Reg.SPT_PORT_STATUS p) 1 = true) (hc : s.lc0Clear p = false) :
    exec (.lpiWake p) s = .next (s.lpiLeave p).showHealth := congrArg answer (if_pos (by simp [h, hp, hc]))

theorem exec_lpiFrameWake_of_queued (h : s.flag (Reg.SPT_PORT_STATUS p) 1 = true) (hq : (s.port p).txq ≠ []) : exec (.lpiFrameWake p) s
    = .next ((s.bumpBy (Reg.SPT_CNT_LPI_LC0_WAKE p) ((s.port p).txq.filter (fun f => f.cls == 0)).length).lpiLeave p).showHealth :=
  congrArg answer (if_pos (by simp [h, hq]))

end

/-- Settles O11: each command sets or clears the status bit, and leaving Low Power Idle reads the wake time in effect. -/
theorem lowPowerIdle : Obligations.LowPowerIdle := by
  unfold Obligations.LowPowerIdle
  refine ⟨fun s p hp hs => ?_, fun s p hp hl hf hc => ?_, fun s p hp hl hf hq => ?_, fun s p tw hp => ?_⟩
  · refine ⟨_, exec_lpiEnter_of_maySleep s hs, ?_, ?_⟩
    · rw [State.flag_showHealth_spt _ (port_block hp (by decide)), State.flag_congr (State.reg_bump_ne _ _ _ (port_offset_ne p (by decide))),
        State.flag_setFlag_same _ _ _ _ (by decide)]
    · rw [State.reg_showHealth_spt _ (port_block hp (by decide)), State.reg_bump_same,
        State.reg_setFlag_ne _ _ _ _ _ (port_offset_ne p (by decide))]
  · refine ⟨_, exec_lpiWake_of_lc0 s hp hf hc, ?_, ?_⟩
    · rw [State.flag_showHealth_spt _ (port_block (by omega) (by decide)), State.flag_lpiLeave]
    · rw [State.port_showHealth, s.wakeAt_lpiLeave hl]
  · refine ⟨_, exec_lpiFrameWake_of_queued s hf hq, ?_, ?_, ?_⟩
    · rw [State.flag_showHealth_spt _ (port_block hp (by decide)), State.flag_lpiLeave]
    · rw [State.port_showHealth, State.wakeAt_lpiLeave _ (by rwa [State.bumpBy_ports]),
        State.reg_bumpBy_ne _ _ _ _ (port_offset_ne p (by decide)), State.elapsed, State.bumpBy_tim, ← State.elapsed]
    · rw [State.reg_showHealth_spt _ (port_block hp (by decide)), State.reg_lpiLeave_ne _ (port_offset_ne p (by decide)), State.reg_bumpBy_same]
  · refine ⟨_, rfl, ?_⟩
    rw [State.reg_showHealth_spt _ (port_block hp (by decide))]
    dsimp only
    split
    · rw [State.reg_lpiLeave_ne _ (port_offset_ne p (by decide)), State.reg_setReg_same]
    · exact State.reg_setReg_same _ _ _

/-! ### The state of one port -/

section
variable (s : State) (p : Nat) (f : PortState → PortState)

theorem State.ports_length_modPort : (s.modPort p f).ports.length = s.ports.length := by simp [State.modPort, listMod]

theorem State.port_modPort_ne {q : Nat} (h : q ≠ p) : (s.modPort p f).port q = s.port q := by
  simp [State.port, State.modPort, listMod, Ne.symm h]

/-- What a change of a port's state keeps of every state, it keeps of every port. -/
theorem State.port_modPort_keeps {α : Type} (g : PortState → α) (h : ∀ x, g (f x) = g x) (q : Nat) : g ((s.modPort p f).port q) = g (s.port q) := by
  by_cases hq : q = p
  · subst q
    by_cases hl : p < s.ports.length
    · rw [State.port_modPort_same _ _ hl, h]
    · simp [State.port, State.modPort, listMod, hl]
  · rw [State.port_modPort_ne _ _ _ hq]

end

/-! ### What a frame that leaves, and its ring, leave alone (R57 to R59) -/

/-- Queues and last frames of the ports stay, and the registers of the SPT block but for the time-stamp status of port p. -/
structure KeepsQueues (p : Nat) (s t : State) : Prop where
  reg : ∀ a, a / 0x100000 = 1 → a ≠ Reg.SPT_TXTS_STAT p → t.reg a = s.reg a
  length : t.ports.length = s.ports.length
  txq : ∀ q, (t.port q).txq = (s.port q).txq
  lastTx : ∀ q, (t.port q).lastTx = (s.port q).lastTx

/-- A ring's interrupt changes the rings' interrupt state at its port and the vectors raised (Table 02-8). -/
theorem State.ringInterrupt_only (s : State) (q id : Nat) (ctrl : Word) :
    ∃ (l : PortState → List (Nat × Nat × Bool)) (v : HifState), s.ringInterrupt q id ctrl
      = { s.modPort q (fun x => { x with ringIrq := l x }) with hif := v } := by
  unfold State.ringInterrupt
  dsimp only
  split
  · split
    · exact ⟨_, _, rfl⟩
    · exact ⟨_, _, rfl⟩
  · exact ⟨_, _, rfl⟩

theorem State.ringInterrupt_regs (s : State) (q id : Nat) (ctrl : Word) : (s.ringInterrupt q id ctrl).regs = s.regs := by
  obtain ⟨_, _, h⟩ := s.ringInterrupt_only q id ctrl
  rw [h]
  rfl

theorem State.ringInterrupt_hostMem (s : State) (q id : Nat) (ctrl : Word) : (s.ringInterrupt q id ctrl).hostMem = s.hostMem := by
  obtain ⟨_, _, h⟩ := s.ringInterrupt_only q id ctrl
  rw [h]
  rfl

namespace KeepsQueues

variable {p : Nat} {s t u : State}

theorem refl (s : State) : KeepsQueues p s s := ⟨fun _ _ _ => rfl, rfl, fun _ => rfl, fun _ => rfl⟩

theorem trans (h : KeepsQueues p s t) (k : KeepsQueues p t u) : KeepsQueues p s u :=
  ⟨fun a ha hn => (k.reg a ha hn).trans (h.reg a ha hn), k.length.trans h.length, fun q => (k.txq q).trans (h.txq q),
    fun q => (k.lastTx q).trans (h.lastTx q)⟩

theorem foldl {β : Type} (f : State → β → State) (h : ∀ s b, KeepsQueues p s (f s b)) (l : List β) (s : State) :
    KeepsQueues p s (l.foldl f s) := by
  induction l generalizing s with
  | nil => exact .refl s
  | cons b r ih => exact (h s b).trans (ih _)

/-- An update of what no port holds, which keeps the registers. -/
theorem of_eq (hr : t.regs = s.regs) (hp : t.ports = s.ports) : KeepsQueues p s t :=
  ⟨fun a _ _ => congrArg (smGet regReset · a) hr, congrArg List.length hp, fun q => congrArg (fun l => (l.getD q {}).txq) hp,
    fun q => congrArg (fun l => (l.getD q {}).lastTx) hp⟩

theorem setReg (s : State) {a : Nat} (v : Word) (h : a / 0x100000 ≠ 1 ∨ a = Reg.SPT_TXTS_STAT p) : KeepsQueues p s (s.setReg a v) :=
  { refl (p := p) s with reg := fun b hb hn => s.reg_setReg_ne a b v (by rintro rfl; exact h.elim (absurd hb) hn) }

theorem log (s : State) (code sev : Nat) (pl : List Byte) (h : sev ≤ 4) : KeepsQueues p s (s.log code sev pl) where
  reg a ha _ := s.reg_log_spt ha _ _ _ h
  length := by rw [State.log_ports]
  txq q := by rw [State.port_log]
  lastTx q := by rw [State.port_log]

theorem modPort (s : State) (q : Nat) (f : PortState → PortState) (hq : ∀ x, (f x).txq = x.txq) (hl : ∀ x, (f x).lastTx = x.lastTx) :
    KeepsQueues p s (s.modPort q f) :=
  ⟨fun _ _ _ => rfl, s.ports_length_modPort q f, s.port_modPort_keeps q f PortState.txq hq, s.port_modPort_keeps q f PortState.lastTx hl⟩

theorem ringInterrupt (s : State) (q id : Nat) (ctrl : Word) : KeepsQueues p s (s.ringInterrupt q id ctrl) := by
  obtain ⟨l, _, h⟩ := s.ringInterrupt_only q id ctrl
  rw [h]
  exact (modPort s q (fun x => { x with ringIrq := l x }) (fun _ => rfl) (fun _ => rfl)).trans (of_eq rfl rfl)

theorem hostDone (s : State) (q : Nat) (f : TxFrame) (err : Bool) : KeepsQueues p s (s.hostDone q f err) := by
  unfold State.hostDone
  split
  · split
    · refine KeepsQueues.trans ?_ (ringInterrupt _ _ _ _)
      exact of_eq rfl rfl
    · exact refl s
  · exact refl s

theorem pushTxts (s : State) (id : Nat) : KeepsQueues p s (s.pushTxts p id) := by
  unfold State.pushTxts
  dsimp only
  split
  · refine KeepsQueues.trans ?_ (setReg _ _ (.inr rfl))
    exact modPort s p _ (fun _ => rfl) (fun _ => rfl)
  · split
    · exact setReg s _ (.inr rfl)
    · exact ((setReg s _ (.inr rfl)).trans (setReg _ _ (.inr rfl))).trans (log _ _ _ _ (by decide))

theorem lc0Egress (s : State) (f : TxFrame) : KeepsQueues p s (s.lc0Egress p f) := by
  unfold State.lc0Egress
  split
  · dsimp only
    split
    · exact ((setReg s _ (.inl (by decide))).trans (setReg _ _ (.inl (by decide)))).trans (log _ _ _ _ (by decide))
    · exact setReg s _ (.inl (by decide))
  · exact refl s

end KeepsQueues

/-! ### Links (R43, R58, R481) -/

section
variable (s : State) {p : Nat}

theorem State.reg_pllBack (n : Nat) {a : Nat} (h : a ≠ Reg.SYS_CLK_STATUS) : (s.pllBack n).reg a = s.reg a := by
  unfold State.pllBack
  split
  · dsimp only
    split
    · exact State.reg_setFlag_ne _ _ _ _ _ h
    · rfl
  · rfl

theorem State.pllBack_ports (n : Nat) : (s.pllBack n).ports = s.ports := by
  unfold State.pllBack
  split
  · dsimp only
    split <;> rfl
  · rfl

theorem State.ports_length_hostDones (l : List TxFrame) (err : Bool) :
    (l.foldl (fun (s : State) f => s.hostDone p f err) s).ports.length = s.ports.length :=
  (KeepsQueues.foldl (p := p) _ (fun t f => .hostDone t p f err) l s).length

theorem State.txq_portDown (cause : Nat) (h : p < s.ports.length) : ((s.portDown p cause).port p).txq = [] := by
  rw [State.portDown_eq, State.port_log, State.port_setReg, State.dropQueue,
    State.port_modPort_same _ _ (by rwa [State.ports_length_hostDones, State.bumpBy_ports])]

theorem exec_linkUp_of_down (hm : s.portMode p ≠ 0) (hc : s.committed = true) (hf : s.flag (Reg.SPT_PORT_STATUS p) 0 = false) :
    exec (.linkUp p) s = .next (((s.pllBack p).setReg (Reg.SPT_PORT_STATUS p) 1).log 0x0202 0
      (leBytes 1 p ++ leBytes 1 (s.portMode p))).showHealth := congrArg answer (if_pos (by simp [hm, hc, hf]))

theorem exec_linkDown_of_up {cause : Nat} (hm : s.portMode p ≠ 0) (hf : s.flag (Reg.SPT_PORT_STATUS p) 0 = true) (hc : cause ≠ 3) :
    exec (.linkDown p cause) s = .next (s.portDown p cause).showHealth := congrArg answer (if_pos (by simp [hm, hf, hc]))

theorem exec_linkDown_refused (hm : s.portMode p = 4) (hc : s.committed = true) :
    exec (.linkDown p 3) s = .next (s.portDown p 3).showHealth := congrArg answer (if_pos (by simp [hm, hc]))

theorem exec_linkDown_not_sgmii (hm : s.portMode p ≠ 4) : exec (.linkDown p 3) s = .next s.showHealth :=
  congrArg answer (if_neg (by simp [hm]))

theorem State.reg_portDown_status (cause : Nat) (hp : p < 6) : (s.portDown p cause).reg (Reg.SPT_PORT_STATUS p) = 0 := by
  rw [State.reg_portDown _ _ _ (by rw [SPT_PORT_STATUS_block hp]; decide) (SPT_PORT_STATUS_ne_drop p p), if_pos rfl]

/-- Every frame queued at the port is counted as it goes down. -/
theorem State.reg_portDown_drop (cause : Nat) (hp : p < 6) : (s.portDown p cause).reg (Reg.SPT_CNT_TX_LINK_DROP p)
    = satWord ((s.reg (Reg.SPT_CNT_TX_LINK_DROP p)).toNat + (s.port p).txq.length) := by
  have hb : Reg.SPT_CNT_TX_LINK_DROP p / 0x100000 = 1 := port_block hp (by decide)
  rw [State.portDown_eq, State.reg_log_spt _ hb _ _ _ (by decide), State.reg_setReg_ne _ _ _ _ (SPT_PORT_STATUS_ne_drop p p).symm,
    (s.dropQueue_keeps p).reg _ (by omega), State.reg_bumpBy_same]

end

/-- Settles O10: each command is reduced to its branch, and what a link that trains or goes down changes gives the rest. -/
theorem portLinkChanges : Obligations.PortLinkChanges := by
  unfold Obligations.PortLinkChanges
  refine ⟨fun s p hp hm hc hf => ?_, fun s p cause hp hl hm hf hc => ?_, fun s p hp hm hc => ?_, fun s p hm => exec_linkDown_not_sgmii s hm⟩
  · have hb := SPT_PORT_STATUS_block hp
    refine ⟨_, exec_linkUp_of_down s hm hc hf, ?_, ?_, fun a ha hne => ?_⟩
    · rw [State.reg_showHealth_spt _ hb, State.reg_log_spt _ hb _ _ _ (by decide), State.reg_setReg_same]
    · rw [State.showHealth_ports, State.log_ports, State.setReg_ports, State.pllBack_ports]
    · rw [State.reg_showHealth_spt _ ha, State.reg_log_spt _ ha _ _ _ (by decide), State.reg_setReg_ne _ _ _ _ hne,
        State.reg_pllBack _ _ (by simp only [Reg.SYS_CLK_STATUS]; omega)]
  · refine ⟨_, exec_linkDown_of_up s hm hf hc, ?_, ?_, ?_⟩
    · rw [State.reg_showHealth_spt _ (SPT_PORT_STATUS_block hp), State.reg_portDown_status _ _ hp]
    · rw [State.port_showHealth, State.txq_portDown _ _ hl]
    · rw [State.reg_showHealth_spt _ (port_block hp (by decide)), State.reg_portDown_drop _ _ hp]
  · refine ⟨_, exec_linkDown_refused s hm hc, ?_⟩
    rw [State.reg_showHealth_spt _ (SPT_PORT_STATUS_block hp), State.reg_portDown_status _ _ hp]

section
variable (s : State) {p : Nat}

/-! ### A frame leaves its port (R57 to R59) -/

/-- A frame has left the queues of a port and is counted as sent. -/
def State.dequeued (s : State) (p : Nat) (f : TxFrame) : State :=
  (s.modPort p (fun x => { x with txq := x.txq.erase f, lastTx := some f })).bump (Reg.SPT_CNT_TX_FRAMES p)

/-- A host frame that is too long has left the queues of a port and is counted as refused. -/
def State.refusedTx (s : State) (p : Nat) (f : TxFrame) : State :=
  (s.modPort p (fun x => { x with txq := x.txq.erase f })).bump (Reg.SPT_CNT_TX_REJECT p)

theorem KeepsQueues.egress {f : TxFrame} (h : ∀ k n x, f.body ≠ .ptp k n x) : KeepsQueues p (s.dequeued p f) (s.egress p f) := by
  unfold State.egress
  dsimp only
  split
  · split
    · exact .pushTxts _ _
    · exact .refl _
  · rename_i k n x hb
    exact absurd hb (h k n x)
  · exact .lc0Egress _ f

theorem exec_txFrame {f : TxFrame} (h : s.maySend p = true) (hn : nextTx (s.port p).txq = some f) :
    exec (.txFrame p) s = .next (s.beginTx p f).showHealth := by
  refine (congrArg answer (if_pos h)).trans ?_
  rw [hn]
  rfl

/-- A frame that is not too long leaves as its transmission begins. -/
theorem KeepsQueues.beginTx_of_fit {f : TxFrame} (h : s.txTooLong p f = false) (hb : ∀ k n x, f.body ≠ .ptp k n x) :
    KeepsQueues p (s.dequeued p f) (s.beginTx p f) := by
  rw [State.beginTx, if_neg (by simp [h])]
  exact (egress s hb).trans (.hostDone _ p f false)

/-- A host frame that is too long is refused as its transmission begins. -/
theorem KeepsQueues.beginTx_of_tooLong {f : TxFrame} (h : s.txTooLong p f = true) : KeepsQueues p (s.refusedTx p f) (s.beginTx p f) := by
  rw [State.beginTx, if_pos h]
  exact .hostDone _ p f true

theorem State.port_dequeued (f : TxFrame) (h : p < s.ports.length) :
    (s.dequeued p f).port p = { s.port p with txq := (s.port p).txq.erase f, lastTx := some f } := by
  rw [State.dequeued, State.port_bump, State.port_modPort_same _ _ h]

theorem State.port_refusedTx (f : TxFrame) (h : p < s.ports.length) :
    (s.refusedTx p f).port p = { s.port p with txq := (s.port p).txq.erase f } := by
  rw [State.refusedTx, State.port_bump, State.port_modPort_same _ _ h]

theorem State.reg_dequeued_frames (f : TxFrame) : (s.dequeued p f).reg (Reg.SPT_CNT_TX_FRAMES p)
    = satWord ((s.reg (Reg.SPT_CNT_TX_FRAMES p)).toNat + 1) := State.reg_bump_same _ _

theorem State.reg_refusedTx_reject (f : TxFrame) : (s.refusedTx p f).reg (Reg.SPT_CNT_TX_REJECT p)
    = satWord ((s.reg (Reg.SPT_CNT_TX_REJECT p)).toNat + 1) := State.reg_bump_same _ _

theorem State.reg_refusedTx_ne (f : TxFrame) {a : Nat} (h : a ≠ Reg.SPT_CNT_TX_REJECT p) : (s.refusedTx p f).reg a = s.reg a :=
  State.reg_bump_ne _ _ _ h

/-! ### Frames of the host's transmit rings (R58) -/

/-- The port takes the descriptor at the head of a transmit ring: the port is on, the ring enabled and not empty, and the device bus master. -/
structure TakesDesc (s : State) (p r : Nat) : Prop where
  on : s.portMode p ≠ 0
  enabled : s.flag (Reg.SPT_TXR_CTRL p r) 0 = true
  master : s.hif.busMaster = true
  filled : (s.reg (Reg.SPT_TXR_HEAD p r)).toNat % ringSize (s.reg (Reg.SPT_TXR_CTRL p r))
    ≠ (s.reg (Reg.SPT_TXR_TAIL p r)).toNat % ringSize (s.reg (Reg.SPT_TXR_CTRL p r))

/-- Where the descriptor at the head of a transmit ring lies in host memory. -/
def State.txDescAt (s : State) (p r : Nat) : Nat :=
  s.pair (Reg.SPT_TXR_BASE_LO p r) (Reg.SPT_TXR_BASE_HI p r) + 16 * (s.reg (Reg.SPT_TXR_HEAD p r)).toNat

/-- The head of a transmit ring has moved past a descriptor. -/
def State.txAdvanced (s : State) (p r : Nat) : State :=
  s.setReg (Reg.SPT_TXR_HEAD p r)
    (Word.ofNat (((s.reg (Reg.SPT_TXR_HEAD p r)).toNat + 1) % ringSize (s.reg (Reg.SPT_TXR_CTRL p r))))

theorem exec_hostTxDescriptor {r : Nat} (d : TxDesc) (h : TakesDesc s p r) : exec (.hostTxDescriptor p r d) s
    = answer (if d.cls.toNat = 0 then ((s.txAdvanced p r).bump (Reg.SPT_CNT_TX_REJECT p)).hostDone p
        (TxFrame.mk 0 0 none (.host d p r (s.txDescAt p r))) true
      else (s.txAdvanced p r).sendOn p (lcQueue d.cls.toNat) d.len (.host d p r (s.txDescAt p r))) := by
  obtain ⟨hon, hen, hbm, hne⟩ := h
  have hen' : (s.reg (Reg.SPT_TXR_CTRL p r)).getLsbD 0 = true := hen
  exact congrArg answer (if_neg (by simp [hon, hen', hbm, hne]))

theorem State.linkIsUp_congr {s t : State} (hc : t.reg (Reg.SPT_PORT_CTRL p) = s.reg (Reg.SPT_PORT_CTRL p))
    (hs : t.reg (Reg.SPT_PORT_STATUS p) = s.reg (Reg.SPT_PORT_STATUS p)) : t.linkIsUp p = s.linkIsUp p := by
  simp only [State.linkIsUp, State.portMode, State.field, State.flag, hc, hs]

theorem State.linkIsUp_iff : s.linkIsUp p = true ↔ s.portMode p ≠ 0 ∧ s.flag (Reg.SPT_PORT_STATUS p) 0 = true := by
  simp [State.linkIsUp]

theorem State.sendPort_of_up {f : TxFrame} (h : s.linkIsUp p = true) : s.sendPort p f = s.modPort p (fun x => { x with txq := x.txq ++ [f] }) :=
  if_pos h

theorem State.sendOn_of_unpaired {cls len : Nat} {body : TxBody} (h : s.paired p = false) :
    s.sendOn p cls len body = s.sendPort p (TxFrame.mk cls (max len 60 + 4) none body) := if_neg (by simp [h])

theorem State.linkIsUp_txAdvanced (r : Nat) : (s.txAdvanced p r).linkIsUp p = s.linkIsUp p :=
  State.linkIsUp_congr (s.reg_setReg_ne _ _ _ (by simp only [Reg.SPT_PORT_CTRL, Reg.SPT_TXR_HEAD]; omega))
    (s.reg_setReg_ne _ _ _ (by simp only [Reg.SPT_PORT_STATUS, Reg.SPT_TXR_HEAD]; omega))

theorem State.paired_txAdvanced (r : Nat) : (s.txAdvanced p r).paired p = s.paired p :=
  congrArg (decide (p < 4) && ·) (s.flag_setReg_ne _ _ _ _ (by simp only [Reg.SPT_PRP_CTRL, Reg.SPT_TXR_HEAD]; omega))

theorem lcQueue_of_ne_zero {c : BitVec 2} (h : c ≠ 0) : c.toNat ≠ 0 ∧ lcQueue c.toNat = c.toNat + 1 := by
  have hc : c.toNat ≠ 0 := fun e => h (BitVec.eq_of_toNat_eq e)
  exact ⟨hc, if_neg hc⟩

/-- A descriptor of a latency class queues its frame on a port that is in no pair. -/
theorem exec_hostTxDescriptor_class {r : Nat} {d : TxDesc} (h : TakesDesc s p r) (hup : s.linkIsUp p = true) (hn : s.paired p = false)
    (hd : d.cls ≠ 0) : exec (.hostTxDescriptor p r d) s = .next ((s.txAdvanced p r).modPort p (fun x =>
      { x with txq := x.txq ++ [TxFrame.mk (d.cls.toNat + 1) (max d.len 60 + 4) none (.host d p r (s.txDescAt p r))] })).showHealth := by
  obtain ⟨hc, hq⟩ := lcQueue_of_ne_zero hd
  rw [exec_hostTxDescriptor s d h, if_neg hc, hq, State.sendOn_of_unpaired _ (by rw [s.paired_txAdvanced, hn]),
    State.sendPort_of_up _ (by rw [s.linkIsUp_txAdvanced, hup])]
  rfl

theorem exec_hostTxDescriptor_class0 {r : Nat} {d : TxDesc} (h : TakesDesc s p r) (hd : d.cls = 0) : exec (.hostTxDescriptor p r d) s
    = .next (((s.txAdvanced p r).bump (Reg.SPT_CNT_TX_REJECT p)).hostDone p
      (TxFrame.mk 0 0 none (.host d p r (s.txDescAt p r))) true).showHealth := by
  rw [exec_hostTxDescriptor s d h, if_pos (by rw [hd]; rfl), answer_eq]

theorem txWriteBack_length (d : TxDesc) (err : Bool) : (txWriteBack d err).length = 16 := by simp [txWriteBack, leBytes]

/-- A port that is done with a frame of its own ring writes the descriptor back and nothing else in host memory. -/
theorem State.hostByte_hostDone (cls len : Nat) (prp : Option (Half × BitVec 4)) (d : TxDesc) (r at_ : Nat) (err : Bool) (h : s.hif.busMaster = true)
    (a : Nat) : (s.hostDone p (TxFrame.mk cls len prp (.host d p r at_)) err).hostByte a
      = if at_ ≤ a ∧ a < at_ + 16 then (txWriteBack d err).getD (a - at_) 0 else s.hostByte a := by
  simp only [State.hostDone, h, decide_true, Bool.and_self, if_true]
  rw [State.hostByte, State.ringInterrupt_hostMem, ← State.hostByte, State.hostByte_writeHost, txWriteBack_length]

@[simp] theorem State.hostByte_showHealth (a : Nat) : s.showHealth.hostByte a = s.hostByte a := rfl

/-! ### Time stamps and the supervisor pool (R53, R59, R60) -/

/-- The head of the time-stamp queue has been taken: the queue, its count and the stamp loaded. -/
def State.txtsTaken (s : State) (p stamp : Nat) (r : List (Half × Nat)) : State :=
  ((s.modPort p (fun x => { x with txts := r, txPopped := stamp })).showTxts p).setPair (Reg.SPT_TXTS_LO p) (Reg.SPT_TXTS_HI p) stamp

theorem State.port_txtsTaken (stamp : Nat) (r : List (Half × Nat)) (h : p < s.ports.length) :
    (s.txtsTaken p stamp r).port p = { s.port p with txts := r, txPopped := stamp } := by
  rw [State.txtsTaken, State.setPair, State.port_setReg, State.port_setReg, State.showTxts, State.setField, State.port_setReg,
    State.port_modPort_same _ _ h]

theorem State.port_setReadData (d : List Word) (q : Nat) : ({ s with readData := d } : State).port q = s.port q := rfl

theorem exec_txtsPop : exec (.txtsPop p) s = execTxtsPop p s := rfl

theorem exec_txtsPop_cons {id : Half} {stamp : Nat} {r : List (Half × Nat)} (h : (s.port p).txts = (id, stamp) :: r) :
    exec (.txtsPop p) s = .next { s.txtsTaken p stamp r with readData := [Word.ofNat (id.toNat + 2 ^ 16)] }.showHealth := by
  rw [exec_txtsPop, execTxtsPop, h]
  rfl

theorem exec_txtsPop_nil (h : (s.port p).txts = []) : exec (.txtsPop p) s = .next { s with readData := [0] }.showHealth := by
  rw [exec_txtsPop, execTxtsPop, h]
  rfl

theorem exec_txtsStatClear : exec (.txtsStatClear p) s
    = .next ((s.setFlag (Reg.SPT_TXTS_STAT p) 8 false).setField (Reg.SPT_TXTS_STAT p) 31 16 0).showHealth := rfl

theorem exec_supPoolDrain {x : PoolFrame} (h : (s.port p).pool.find? (fun y => y.cls == .sup) = some x) : exec (.supPoolDrain p) s
    = .next ((s.modPort p (fun y => { y with supFree := y.supFree + x.shared })).modPort p
      (fun y => { y with pool := y.pool.erase x })).showHealth := by
  have hx : x.cls = .sup := by simpa using List.find?_some h
  have hdrain : exec (.supPoolDrain p) s = execSupPoolDrain p s := rfl
  rw [hdrain, execSupPoolDrain, h, answer_eq]
  simp only [State.freeCells, hx]

end

/-- Settles O14: a frame that leaves and its ring keep the queues and counters that the port has just changed, and each other command's equation
gives the rest. -/
theorem transmitting : Obligations.Transmitting := by
  unfold Obligations.Transmitting
  refine ⟨fun s p f hp hl hm hn hfit hptp => ?_, fun s p f hp hl hm hn hlong => ?_, fun s p r d hp hr hl hup hnp hen hbm hne hd => ?_,
    fun s p r d hp hr hon hen hbm hne hd => ?_, fun s p id stamp r hp hl hq => ?_, fun s p hq => ?_, fun s p hp => ?_, fun s p x hp hl hx => ?_⟩
  · have hk := KeepsQueues.beginTx_of_fit s hfit hptp
    have hb : Reg.SPT_CNT_TX_FRAMES p / 0x100000 = 1 := port_block hp (by decide)
    refine ⟨_, exec_txFrame s hm hn, ?_, ?_, ?_⟩
    · rw [State.port_showHealth, hk.lastTx, s.port_dequeued f hl]
    · rw [State.port_showHealth, hk.txq, s.port_dequeued f hl]
    · rw [State.reg_showHealth_spt _ hb, hk.reg _ hb (port_offset_ne p (by decide)), State.reg_dequeued_frames]
  · have hk := KeepsQueues.beginTx_of_tooLong s hlong
    have hb : Reg.SPT_CNT_TX_REJECT p / 0x100000 = 1 := port_block hp (by decide)
    have hb' : Reg.SPT_CNT_TX_FRAMES p / 0x100000 = 1 := port_block hp (by decide)
    refine ⟨_, exec_txFrame s hm hn, ?_, ?_, ?_, ?_⟩
    · rw [State.port_showHealth, hk.lastTx, s.port_refusedTx f hl]
    · rw [State.port_showHealth, hk.txq, s.port_refusedTx f hl]
    · rw [State.reg_showHealth_spt _ hb, hk.reg _ hb (port_offset_ne p (by decide)), State.reg_refusedTx_reject]
    · rw [State.reg_showHealth_spt _ hb', hk.reg _ hb' (port_offset_ne p (by decide)), State.reg_refusedTx_ne _ _ (port_offset_ne p (by decide))]
  · have htake : TakesDesc s p r := ⟨(s.linkIsUp_iff.mp hup).1, hen, hbm, hne⟩
    have hb : Reg.SPT_TXR_HEAD p r / 0x100000 = 1 := ring_block hp (by omega) (by decide)
    refine ⟨_, exec_hostTxDescriptor_class s htake hup hnp hd, ?_, ?_, rfl⟩
    · rw [State.reg_showHealth_spt _ hb]
      exact s.reg_setReg_same _ _
    · rw [State.port_showHealth, State.port_modPort_same _ _ (by rwa [State.txAdvanced, State.setReg_ports]), State.txAdvanced, State.port_setReg]
      rfl
  · have htake : TakesDesc s p r := ⟨hon, hen, hbm, hne⟩
    have hb : Reg.SPT_TXR_HEAD p r / 0x100000 = 1 := ring_block hp (by omega) (by decide)
    have hb' : Reg.SPT_CNT_TX_REJECT p / 0x100000 = 1 := port_block hp (by decide)
    have hcnt : Reg.SPT_TXR_HEAD p r ≠ Reg.SPT_CNT_TX_REJECT p := by simp only [Reg.SPT_TXR_HEAD, Reg.SPT_CNT_TX_REJECT]; omega
    have hk := KeepsPorts.hostDone ((s.txAdvanced p r).bump (Reg.SPT_CNT_TX_REJECT p)) p (TxFrame.mk 0 0 none (.host d p r (s.txDescAt p r))) true
    refine ⟨_, exec_hostTxDescriptor_class0 s htake hd, ?_, ?_, fun a => ?_⟩
    · rw [State.reg_showHealth_spt _ hb, hk.reg _ (by omega), State.reg_bump_ne _ _ _ hcnt]
      exact s.reg_setReg_same _ _
    · rw [State.reg_showHealth_spt _ hb', hk.reg _ (by omega), State.reg_bump_same, State.txAdvanced, State.reg_setReg_ne _ _ _ _ hcnt.symm]
    · intro at_
      rw [State.hostByte_showHealth, State.hostByte_hostDone _ _ _ _ _ _ _ _ (by exact hbm)]
      rfl
  · refine ⟨_, exec_txtsPop_cons s hq, ?_, rfl, ?_, ?_⟩
    · rw [State.port_showHealth, State.port_setReadData, s.port_txtsTaken _ _ hl]
    · rw [State.reg_showHealth_spt _ (port_block hp (by decide))]
      exact (State.reg_setReg_ne _ _ _ _ (port_offset_ne p (by decide))).trans (State.reg_setReg_same _ _ _)
    · rw [State.reg_showHealth_spt _ (port_block hp (by decide))]
      exact State.reg_setReg_same _ _ _
  · exact ⟨_, exec_txtsPop_nil s hq, rfl, rfl⟩
  · have hb : Reg.SPT_TXTS_STAT p / 0x100000 = 1 := port_block hp (by decide)
    refine ⟨_, exec_txtsStatClear s, ?_, ?_, ?_⟩
    · rw [State.flag_showHealth_spt _ hb, State.flag_setField _ _ _ _ _ _ (by decide), if_neg (by decide),
        State.flag_setFlag_same _ _ _ _ (by decide)]
    · rw [State.field_showHealth_spt _ hb, State.field_setField_same _ _ _ _ _ (by decide), Nat.zero_mod]
    · rw [State.field_showHealth_spt _ hb, State.field_setField_disjoint _ _ _ _ _ _ _ (by decide) (by decide), State.setFlag,
        State.field_setField_disjoint _ _ _ _ _ _ _ (by decide) (by decide)]
  · refine ⟨_, exec_supPoolDrain s hx, ?_, ?_⟩
    all_goals rw [State.port_showHealth, State.port_modPort_same _ _ (by rwa [State.ports_length_modPort]), State.port_modPort_same _ _ hl]

section
variable (s : State) {p : Nat}

/-! ### An accepted frame is counted once (R45, R46) -/

theorem State.reg_ite {c : Prop} [Decidable c] {t u : State} {a : Nat} {v : Word} (ht : c → t.reg a = v) (hu : ¬c → u.reg a = v) :
    (if c then t else u).reg a = v := by
  split
  next h => exact ht h
  next h => exact hu h

theorem State.writeBuffers_regs (base size head stamp len rule flags n : Nat) (bufs : List Nat) (data : List Byte) :
    (s.writeBuffers base size head stamp len rule flags n bufs data).regs = s.regs := by
  induction n generalizing s head flags bufs data with
  | zero => rfl
  | succ n ih => exact (ih _ _ _ _ _).trans rfl

theorem State.reg_deliverHost (r : Nat) (k : Option Nat) (stripped : Bool) (f : RxFrame) {a : Nat} (hh : a ≠ Reg.SPT_RXR_HEAD p r)
    (hn : a ≠ Reg.SPT_RXR_NOBUF p r) : (s.deliverHost p r k stripped f).reg a = s.reg a := by
  unfold State.deliverHost
  refine State.reg_ite (fun _ => ?_) (fun _ => ?_)
  · rw [State.reg, State.ringInterrupt_regs, ← State.reg, State.reg_setReg_ne _ _ _ _ hh, State.reg, State.writeBuffers_regs, ← State.reg]
  · exact s.reg_bump_ne _ _ hn

theorem State.reg_storeSup (f : RxFrame) {a : Nat} (h : a ≠ Reg.SPT_CNT_RX_NOBUF_SUP p) : (s.storeSup p f).reg a = s.reg a := by
  unfold State.storeSup
  dsimp only
  split
  · rfl
  · exact s.reg_bump_ne _ _ h

theorem State.reg_prpSeen (q : Nat) (mac : BitVec 48) (seq : Half) {a : Nat} (h : a ≠ Reg.SPT_PRP_EVICT q) :
    (s.prpSeen q mac seq).2.reg a = s.reg a := by
  unfold State.prpSeen
  dsimp only
  split
  · split <;> rfl
  · split
    · rfl
    · exact State.reg_bump_ne _ _ _ h

theorem State.reg_lanHeard (q : Nat) (lanB : Bool) {a : Nat} (ha : a / 0x100000 = 1) (h : a ≠ Reg.SPT_PRP_STAT q) :
    (s.lanHeard q lanB).reg a = s.reg a := by
  unfold State.lanHeard
  refine State.reg_ite (fun _ => ?_) (fun _ => rfl)
  rw [State.reg_log_spt _ ha _ _ _ (by decide), State.reg_setFlag_ne _ _ _ _ _ h]
  rfl

/-- The rule that steers a frame has counted it; the default action counts nothing (R52). -/
def State.countHit (s : State) (p : Nat) : Option Nat → State
  | some k => s.bump (Reg.SPT_RULE_HITS p k)
  | none => s

theorem State.rxFrames_countHit (k : Option Nat) : (s.countHit p k).reg (Reg.SPT_CNT_RX_FRAMES p) = s.reg (Reg.SPT_CNT_RX_FRAMES p) := by
  cases k with
  | some k => exact s.reg_bump_ne _ _ (by simp only [Reg.SPT_CNT_RX_FRAMES, Reg.SPT_RULE_HITS]; omega)
  | none => rfl

section
variable (hp : p < 6)
include hp

theorem SPT_CNT_RX_FRAMES_block : Reg.SPT_CNT_RX_FRAMES p / 0x100000 = 1 := port_block hp (by decide)

theorem State.rxFrames_storeDec (lc : Nat) (f : RxFrame) :
    (s.storeDec p lc f).reg (Reg.SPT_CNT_RX_FRAMES p) = s.reg (Reg.SPT_CNT_RX_FRAMES p) := by
  unfold State.storeDec
  refine State.reg_ite (fun _ => ?_) (fun _ => State.reg_ite (fun _ => ?_) (fun _ => ?_))
  · rw [State.reg_modPort, State.setFree, State.reg_setReg_ne _ _ _ _ (port_offset_ne p (by decide))]
  · rw [State.reg_log_spt _ (SPT_CNT_RX_FRAMES_block hp) _ _ _ (by decide), State.reg_bump_ne _ _ _ (port_offset_ne p (by decide))]
  · exact s.reg_bump_ne _ _ (by simp only [Reg.SPT_CNT_RX_FRAMES, Reg.SPT_CNT_RX_NOBUF_LC0]; omega)

theorem State.rxFrames_rxSteer (stripped : Bool) (f : RxFrame) :
    (s.rxSteer p stripped f).reg (Reg.SPT_CNT_RX_FRAMES p) = s.reg (Reg.SPT_CNT_RX_FRAMES p) := by
  unfold State.rxSteer
  dsimp only
  split
  · exact s.reg_storeSup _ (port_offset_ne p (by decide))
  · refine Eq.trans ?_ (s.rxFrames_countHit (s.ruleOf p f))
    split
    · exact State.rxFrames_storeDec _ hp _ _
    · exact State.reg_storeSup _ _ (port_offset_ne p (by decide))
    · exact State.reg_deliverHost _ _ _ _ _ (by simp only [Reg.SPT_CNT_RX_FRAMES, Reg.SPT_RXR_HEAD]; omega)
        (by simp only [Reg.SPT_CNT_RX_FRAMES, Reg.SPT_RXR_NOBUF]; omega)
    · exact State.reg_bump_ne _ _ _ (port_offset_ne p (by decide))
    · exact State.reg_bump_ne _ _ _ (port_offset_ne p (by decide))

/-- Whatever becomes of an accepted frame, the count of received frames stays. -/
theorem State.rxFrames_rxAccepted (f : RxFrame) :
    (s.rxAccepted p f).reg (Reg.SPT_CNT_RX_FRAMES p) = s.reg (Reg.SPT_CNT_RX_FRAMES p) := by
  have hheard : (s.lanHeard (p / 2) (p % 2 == 1)).reg (Reg.SPT_CNT_RX_FRAMES p) = s.reg (Reg.SPT_CNT_RX_FRAMES p) :=
    s.reg_lanHeard _ _ (SPT_CNT_RX_FRAMES_block hp) (by simp only [Reg.SPT_CNT_RX_FRAMES, Reg.SPT_PRP_STAT]; omega)
  unfold State.rxAccepted
  dsimp only
  split
  · refine Eq.trans ?_ hheard
    split
    · split
      · have hseen := State.reg_prpSeen (s.lanHeard (p / 2) (p % 2 == 1)) (p / 2) f.smac f.tail.seq (a := Reg.SPT_CNT_RX_FRAMES p)
          (by simp only [Reg.SPT_CNT_RX_FRAMES, Reg.SPT_PRP_EVICT]; omega)
        refine Eq.trans ?_ hseen
        split
        · exact State.reg_bump_ne _ _ _ (by simp only [Reg.SPT_CNT_RX_FRAMES, Reg.SPT_PRP_DUP]; omega)
        · exact State.rxFrames_rxSteer _ hp _ _
      · exact State.reg_bump_ne _ _ _ (port_offset_ne p (by decide))
    · exact State.rxFrames_rxSteer _ hp _ _
  · exact State.rxFrames_rxSteer _ hp _ _

end

/-- The frame passes the checks of coding, length and FCS at a port. -/
structure PassesChecks (s : State) (p : Nat) (f : RxFrame) : Prop where
  coding : f.codingOk = true
  notRunt : 63 < f.length
  notOversize : f.length ≤ s.field (Reg.SPT_MAXLEN p) 13 0
  fcs : f.fcsOk = true

/-- The counter of the first check that a frame fails (R46). -/
def State.failedCheck (s : State) (p : Nat) (f : RxFrame) : Nat :=
  if f.codingOk = false then Reg.SPT_CNT_RX_CODE p else if f.length ≤ 63 then Reg.SPT_CNT_RX_RUNT p
  else if s.field (Reg.SPT_MAXLEN p) 13 0 < f.length then Reg.SPT_CNT_RX_OVERSIZE p else Reg.SPT_CNT_RX_FCS p

theorem exec_rxFrame (f : RxFrame) : exec (.rxFrame p f) s = execRxFrame p f s := rfl

theorem exec_rxFrame_good {f : RxFrame} (hup : s.linkIsUp p = true) (h : PassesChecks s p f) : exec (.rxFrame p f) s
    = .next (((s.bump (Reg.SPT_CNT_RX_FRAMES p)).setFlag (Reg.SPT_PORT_STATUS p) 2 false).rxAccepted p f).showHealth := by
  obtain ⟨hc, hl, hm, hf⟩ := h
  rw [exec_rxFrame, execRxFrame, if_neg (by simp [hup]), if_neg (by simp [hc]), if_neg (by omega), if_neg (by omega),
    if_neg (by simp [hf]), answer_eq]

theorem exec_rxFrame_bad {f : RxFrame} (hup : s.linkIsUp p = true)
    (h : f.codingOk = false ∨ f.length ≤ 63 ∨ s.field (Reg.SPT_MAXLEN p) 13 0 < f.length ∨ f.fcsOk = false) :
    exec (.rxFrame p f) s = .next (s.bump (s.failedCheck p f)).showHealth := by
  rw [exec_rxFrame, execRxFrame, if_neg (by simp [hup]), answer_eq, State.failedCheck]
  congr 2
  cases hc : f.codingOk
  · rfl
  · by_cases hl : f.length ≤ 63
    · simp [hl]
    · by_cases hm : s.field (Reg.SPT_MAXLEN p) 13 0 < f.length
      · simp [hl, hm]
      · have hf : f.fcsOk = false := by simpa [hc, hl, hm] using h
        simp [hl, hm, hf]

theorem State.failedCheck_block (f : RxFrame) (hp : p < 6) : s.failedCheck p f / 0x100000 = 1 := by
  unfold State.failedCheck
  repeat' split
  all_goals exact port_block hp (by decide)

end

/-- Settles O15: what follows the count of an accepted frame keeps it, and a frame that fails a check raises one counter. -/
theorem receivedFrames : Obligations.ReceivedFrames := by
  unfold Obligations.ReceivedFrames
  refine ⟨fun s p f hp hup hc hl hm hf => ?_, fun s p f hp hup hbad => ?_⟩
  · refine ⟨_, exec_rxFrame_good s hup ⟨hc, hl, hm, hf⟩, ?_⟩
    rw [State.reg_showHealth_spt _ (SPT_CNT_RX_FRAMES_block hp), State.rxFrames_rxAccepted _ hp,
      State.reg_setFlag_ne _ _ _ _ _ (port_offset_ne p (by decide)), State.reg_bump_same]
  · refine ⟨_, exec_rxFrame_bad s hup hbad, rfl, rfl, ?_, fun a hne hh => ?_⟩
    · exact (State.reg_showHealth_spt _ (s.failedCheck_block f hp)).trans (s.reg_bump_same _)
    · exact (State.reg_showHealth_ne _ _ hh).trans (s.reg_bump_ne _ _ hne)

/-! ### PRP pairs (R49 to R51) -/

section
variable (s : State)

theorem State.prp_modPair_same {q : Nat} (f : PairState → PairState) (h : q < s.pairs.length) : (s.modPair q f).prp q = f (s.prp q) := by
  simp [State.prp, State.modPair, listMod, h]

@[simp] theorem State.prp_showHealth (q : Nat) : s.showHealth.prp q = s.prp q := rfl

theorem exec_prpEntryExpire (q : Nat) (mac : BitVec 48) : exec (.prpEntryExpire q mac) s = .next (s.modPair q (fun x => { x with
    table := x.table.filter (fun e => e.mac != mac || decide (s.elapsed < e.lastUse + 400000000)) })).showHealth := rfl

theorem exec_prpLanSilent {q : Nat} {lanB : Bool} (hen : s.flag (Reg.SPT_PRP_CTRL q) 0 = true)
    (hst : s.flag (Reg.SPT_PRP_STAT q) (bit lanB) = false)
    (hlast : (if lanB then (s.prp q).lastRxB else (s.prp q).lastRxA) < (if lanB then (s.prp q).lastRxA else (s.prp q).lastRxB))
    (hlim : (if lanB then (s.prp q).lastRxB else (s.prp q).lastRxA) + (s.reg (Reg.SPT_PRP_TIMEOUT (2 * q))).toNat * 1000000 ≤ s.elapsed) :
    exec (.prpLanSilent q lanB) s = .next ((s.setFlag (Reg.SPT_PRP_STAT q) (bit lanB) true).log 0x0203 2
      (leBytes 1 q ++ leBytes 1 (0xA + bit lanB))).showHealth :=
  congrArg answer (if_pos (by rw [hen, hst, decide_eq_true hlast, decide_eq_true hlim]; rfl))

/-- The supervision frame of a pair with its sequence number, for one of its LANs. -/
def State.supervisionFrame (s : State) (q : Nat) (lan : BitVec 4) : TxFrame := TxFrame.mk 1 70 (some ((s.prp q).txSeq, lan)) .supervision

/-- A pair has taken a sequence number for the supervision frame that it sends now. -/
def State.supervised (s : State) (q : Nat) : State :=
  (s.modPair q (fun x => { x with lastSup := some s.elapsed })).modPair q (fun x => { x with txSeq := x.txSeq + 1 })

theorem State.prp_supervised {q : Nat} (h : q < s.pairs.length) :
    (s.supervised q).prp q = { s.prp q with lastSup := some s.elapsed, txSeq := (s.prp q).txSeq + 1 } := by
  rw [State.supervised, State.prp_modPair_same _ _ (by simpa [State.modPair, listMod] using h), State.prp_modPair_same _ _ h]

@[simp] theorem State.ports_supervised (q : Nat) : (s.supervised q).ports = s.ports := rfl
@[simp] theorem State.port_supervised (q p : Nat) : (s.supervised q).port p = s.port p := rfl
@[simp] theorem State.linkIsUp_supervised (q p : Nat) : (s.supervised q).linkIsUp p = s.linkIsUp p := rfl

theorem exec_prpSupervisionTx_due {q : Nat} (hq : q < 2) (hl : q < s.pairs.length) (hen : s.flag (Reg.SPT_PRP_CTRL q) 0 = true)
    (hdue : s.supervisionDue q = true) : exec (.prpSupervisionTx q) s
      = .next (((s.supervised q).sendPort (2 * q) (s.supervisionFrame q 0xA)).sendPort (2 * q + 1) (s.supervisionFrame q 0xB)).showHealth := by
  have hdiv : 2 * q / 2 = q := by omega
  have hpaired : (s.modPair q (fun x => { x with lastSup := some s.elapsed })).paired (2 * q) = true := by
    have hlt : 2 * q < 4 := by omega
    simp only [State.paired, hlt, hdiv, decide_true, Bool.true_and]
    exact hen
  refine (congrArg answer (if_pos (by rw [hen, hdue]; rfl))).trans ?_
  rw [State.sendOn, if_pos hpaired, hdiv]
  dsimp only
  rw [State.prp_modPair_same _ _ hl]
  rfl

theorem exec_prpSupervisionTx_early {q last : Nat} (hlast : (s.prp q).lastSup = some last) (h : s.elapsed < last + 2000000000) :
    exec (.prpSupervisionTx q) s = .next s.showHealth := by
  have hdue : s.supervisionDue q = false := by
    rw [State.supervisionDue, hlast]
    exact decide_eq_false (by omega)
  exact congrArg answer (if_neg (by simp [hdue]))

theorem State.linkIsUp_sendPort (n : Nat) (f : TxFrame) (p : Nat) (h : s.linkIsUp n = true) : (s.sendPort n f).linkIsUp p = s.linkIsUp p := by
  rw [State.sendPort_of_up _ h]
  rfl

/-- Two ports whose links are up each queue a frame. -/
theorem State.txq_sendPort_both {n m : Nat} (hnm : n ≠ m) (hn : n < s.ports.length) (hm : m < s.ports.length) (hun : s.linkIsUp n = true)
    (hum : s.linkIsUp m = true) (f g : TxFrame) : (((s.sendPort n f).sendPort m g).port n).txq = (s.port n).txq ++ [f]
      ∧ (((s.sendPort n f).sendPort m g).port m).txq = (s.port m).txq ++ [g] := by
  rw [State.sendPort_of_up (s.sendPort n f) (by rw [s.linkIsUp_sendPort n f m hun, hum]), s.sendPort_of_up hun]
  refine ⟨?_, ?_⟩
  · rw [State.port_modPort_ne _ _ _ hnm, State.port_modPort_same _ _ hn]
  · rw [State.port_modPort_same _ _ (by rwa [State.ports_length_modPort]), State.port_modPort_ne _ _ _ hnm.symm]

theorem State.prp_sendPort_of_up {n : Nat} (h : s.linkIsUp n = true) (f : TxFrame) (q : Nat) : (s.sendPort n f).prp q = s.prp q := by
  rw [State.sendPort_of_up _ h]
  rfl

end

/-- Settles O16: the table is filtered, the silent bit set, and the two frames of a pair join two different queues. -/
theorem prpPairs : Obligations.PrpPairs := by
  unfold Obligations.PrpPairs
  refine ⟨fun s q mac hl => ?_, fun s q lanB hq hen hst hlast hlim => ?_, fun s q hq hports hl hen hdue hupA hupB => ?_,
    fun s q last hlast h => exec_prpSupervisionTx_early s hlast h⟩
  · refine ⟨_, exec_prpEntryExpire s q mac, fun e => ?_⟩
    rw [State.prp_showHealth, State.prp_modPair_same _ _ hl, List.mem_filter]
    simp [or_iff_not_imp_left]
  · have hb : Reg.SPT_PRP_STAT q / 0x100000 = 1 := pair_block (by omega) (by decide)
    refine ⟨_, exec_prpLanSilent s hen hst hlast hlim, ?_⟩
    rw [State.flag_showHealth_spt _ hb, State.flag_congr (State.reg_log_spt _ hb _ _ _ (by decide)),
      State.flag_setFlag_same _ _ _ _ (by cases lanB <;> decide)]
  · have hA : (s.supervised q).linkIsUp (2 * q) = true := by rw [State.linkIsUp_supervised, hupA]
    have hB : (s.supervised q).linkIsUp (2 * q + 1) = true := by rw [State.linkIsUp_supervised, hupB]
    obtain ⟨htxA, htxB⟩ := (s.supervised q).txq_sendPort_both (n := 2 * q) (m := 2 * q + 1) (by omega) (by rw [State.ports_supervised]; omega)
      (by rw [State.ports_supervised]; omega) hA hB (s.supervisionFrame q 0xA) (s.supervisionFrame q 0xB)
    refine ⟨_, exec_prpSupervisionTx_due s hq hl hen hdue, ?_, ?_, ?_, ?_⟩
    · rw [State.port_showHealth, htxA, State.port_supervised, State.supervisionFrame]
    · rw [State.port_showHealth, htxB, State.port_supervised, State.supervisionFrame]
    all_goals
      rw [State.prp_showHealth, State.prp_sendPort_of_up _ (by rw [State.linkIsUp_sendPort _ _ _ _ hA, hB]), State.prp_sendPort_of_up _ hA,
        s.prp_supervised hl]

end Sys2Proof.Machine
end

section
/-!
PROOFS of the statements of family 03_stream_decoding: frames of streams, and the states of stream entries.
-/
namespace Sys2Proof.Machine

/-! ### A stream table that lists one number twice (R85) -/

/-- A VALID GOOSE subscription without elements, with its last accepted message. -/
def gooseEntry (last : Option GooseLast) : StreamEntry where
  state := .valid
  goose := last
  cfg := { typ := .goose, state := .valid, rg := 0, ingestClass := 0, authMark := false, cfg3 := false, chanBase := 0, chanCount := 0, units := 0
           mapBase := 0, key := .goose 0 0 0 0, rate := 0, frameSize := 0, fnomCode := 1, cfgCnt := 0, reportRate := 0, curSlot := 0xFFFF
           nextSlot := 0xFFFF, curKeyId := 0, nextKeyId := 0, cmdPort := 0, elems := [] }

/-- A message accepted earlier. -/
def earlierGoose : GooseLast :=
  { stamp := 0, tal := 0, stNum := 0, test := false, ndsCom := false, timeBad := false, vals := [], auth := false }

/-- A message that the subscription accepts. -/
def firstGoose : GooseFrame :=
  { port := 0, stamp := 0, appid := 0, refLen := 0, refCrc := 0, dmac := 0, confRev := 0, stNum := 1, sqNum := 0, tal := 0, test := false
    simulation := false, ndsCom := false, timeBad := false, elems := [] }

/-- A table whose number 0 stands twice: first without a message yet, then with one. -/
def gooseTwice : State :=
  { State.reset with dec := { State.reset.dec with streams := [(0, gooseEntry none), (0, gooseEntry (some earlierGoose))] } }

/-- The message before the last one of every entry listed, in the state that a command leads to. -/
def goosePrevs : Host.Outcome State Fault Refusal → List (Option GooseLast)
  | .next t => t.dec.streams.map fun e => e.2.goosePrev
  | _ => []

/-- Every entry of the number keeps its own message as the one before. -/
theorem goosePrevs_gooseTwice : goosePrevs (exec (.gooseFrame firstGoose) gooseTwice) = [none, some earlierGoose] := by decide

/-- Refutes O17 at a table that lists the number of the frame's entry twice. The clause of GOOSE messages asks for an entry without an earlier message
and then leaves none as the one before, but the model changes every entry listed under the number, and the second one had an earlier message. A load
lists each number once (R91); the clause does not ask for it. -/
theorem not_streamFrames : ¬ Obligations.StreamFrames := by
  unfold Obligations.StreamFrames
  rintro ⟨-, -, -, -, -, hgoose, -⟩
  have hexec := hgoose gooseTwice firstGoose 0 (gooseEntry none) (by decide) rfl rfl (by decide) rfl rfl rfl
  have hprev := (congrArg goosePrevs hexec).symm.trans goosePrevs_gooseTwice
  exact absurd hprev (by decide)

/-! ### The state of one stream entry (R76, R482) -/

section
variable {s : State} {i : Nat} {e : StreamEntry} (he : kvGet s.dec.streams i = some e)

theorem State.showLearning_dec (s : State) : s.showLearning.dec = s.dec := by
  unfold State.showLearning
  refine foldl_keeps _ State.dec (fun t g => ?_) _ s
  dsimp only
  split
  · exact (State.setFlag_dec _ _ _ _).trans (foldl_keeps _ State.dec (fun u _ => u.setFlag_dec _ _ _) _ t)
  · rfl

include he

theorem State.stream_modStream (f : StreamEntry → StreamEntry) : kvGet (s.modStream i f).dec.streams i = some (f e) :=
  (kvGet_kvMod _ _ _ _).trans (by rw [if_pos rfl, he]; rfl)

theorem State.stopWaiting_of_not_running (hg : s.group e.cfg.rg = none) : s.stopWaiting i = s := by
  simp only [State.stopWaiting, he, hg]

theorem State.stream_setStreamState (hg : s.group e.cfg.rg = none) (st : StreamState) :
    kvGet (s.setStreamState i st).dec.streams i = some { e with state := st } := by
  have hmod : kvGet (s.modStream i fun e => { e with state := st }).showStreams.dec.streams i = some { e with state := st } :=
    State.stream_modStream he _
  rw [State.setStreamState, State.showLearning_dec, State.stopWaiting_of_not_running hmod hg, ite_self, hmod]

/-- In a group that does not run a pending state takes effect on the entry. -/
theorem State.stream_applyPend {st : StreamState} (hp : e.pendState = some st) (hg : s.group e.cfg.rg = none) :
    ∃ x, kvGet (s.applyPend i).dec.streams i = some x ∧ x.state = st ∧ x.cfg = e.cfg := by
  have hmod := State.stream_modStream he
    fun e => { e with pendState := none, stats := if st = .valid && e.state != .valid then {} else e.stats }
  refine ⟨_, Eq.trans ?_ (State.stream_setStreamState hmod hg st), rfl, rfl⟩
  simp only [State.applyPend, he, hp]
  split
  · rw [State.log_dec]
  · rfl

/-- An entry waits for the next row boundary of a running group, and takes its state at once in another. -/
theorem State.stream_pendStream (st : StreamState) : ∃ x, kvGet (s.pendStream i st).dec.streams i = some x ∧ x.cfg = e.cfg
    ∧ (if (s.group e.cfg.rg).isSome then x.pendState = some st else x.state = st) := by
  have hmod := State.stream_modStream he fun e => { e with pendState := some st, reparse := none, retryAt := none }
  have hpend : s.pendStream i st = if (s.group e.cfg.rg).isSome
      then s.modStream i fun e => { e with pendState := some st, reparse := none, retryAt := none }
      else (s.modStream i fun e => { e with pendState := some st, reparse := none, retryAt := none }).applyPend i := by
    simp only [State.pendStream, hmod]
    rfl
  rw [hpend]
  split
  next => exact ⟨_, hmod, rfl, rfl⟩
  next hg =>
    obtain ⟨x, hx, hst, hcfg⟩ := State.stream_applyPend hmod rfl (Option.not_isSome_iff_eq_none.mp hg)
    exact ⟨x, hx, hcfg, hst⟩

theorem State.stream_startReparse (hw : e.withdrawn = true) (ht : e.cfg.typ = .c37) :
    kvGet (s.startReparse i).dec.streams i = some { e with reparse := some (0, s.elapsed) } :=
  (State.stream_modStream he _).trans (congrArg some (if_pos (by simp [hw, ht])))

end

/-! ### What a sent frame leaves alone -/

section
variable (s : State)

@[simp] theorem State.hostDone_dec (p : Nat) (f : TxFrame) (err : Bool) : (s.hostDone p f err).dec = s.dec := by
  unfold State.hostDone
  split
  · split
    · obtain ⟨_, _, h⟩ := State.ringInterrupt_only (s.writeHost _ (txWriteBack _ err)) p _ (s.reg _)
      rw [h]
      rfl
    · rfl
  · rfl

@[simp] theorem State.sendPort_dec (p : Nat) (f : TxFrame) : (s.sendPort p f).dec = s.dec := by
  unfold State.sendPort
  split
  · rfl
  · rw [State.hostDone_dec, State.bump_dec]

@[simp] theorem State.sendOn_dec (p cls len : Nat) (body : TxBody) : (s.sendOn p cls len body).dec = s.dec := by
  unfold State.sendOn
  dsimp only
  split
  · rw [State.sendPort_dec, State.sendPort_dec, State.modPair_dec]
  · rw [State.sendPort_dec]

end

/-! ### The commands of a stream entry -/

section
variable (s : State) {i : Nat} {e : StreamEntry}

theorem exec_stReparse : exec .stReparse s = .next (s.startReparse s.selStream).showHealth := rfl

theorem exec_stDisable (he : kvGet s.dec.streams s.selStream = some e) (ht : e.cfg.typ ≠ .unused) :
    exec .stDisable s = .next (s.pendStream s.selStream .disabled).showHealth := by
  change execStDisable s = _
  rw [execStDisable, he]
  exact congrArg answer (if_neg ht)

theorem exec_stEnable_disabled (he : kvGet s.dec.streams s.selStream = some e) (ht : e.cfg.typ ≠ .unused) (hst : e.state = .disabled) :
    exec .stEnable s = .next (s.pendStream s.selStream .valid).showHealth := by
  change execStEnable s = _
  simp only [execStEnable, he, if_neg ht, hst, answer_eq]

/-- A due attempt is counted, and asks the stream's PMU for its configuration (R76). -/
theorem exec_reparseAttempt_due {n last : Nat} (he : kvGet s.dec.streams i = some e) (hr : e.reparse = some (n, last)) (hw : e.withdrawn = true)
    (hn : n < 3) (hdue : n = 0 ∨ last + 2000000000 ≤ s.elapsed) : exec (.reparseAttempt i) s
      = .next ((s.modStream i fun e => { e with reparse := some (n + 1, s.elapsed) }).sendOn e.cfg.cmdPort 1 60
          (.cfgRequest i e.cfg.cfg3)).showHealth := by
  change execReparseAttempt i s = _
  simp only [execReparseAttempt, he, hr]
  exact congrArg answer (if_pos (by simpa [hw, hn] using hdue))

theorem exec_reparseRetry_due {at_ : Nat} (he : kvGet s.dec.streams i = some e) (hr : e.retryAt = some at_) (hst : e.state = .rejected)
    (hdue : at_ ≤ s.elapsed) : exec (.reparseRetry i) s
      = .next ((s.modStream i fun e => { e with retryAt := some (at_ + 60000000000) }).startReparse i).showHealth := by
  change execReparseRetry i s = _
  simp only [execReparseRetry, he, hr]
  exact congrArg answer (if_pos (by simp [hst, hdue]))

theorem exec_cfgFrameRx_rejected {f : CfgFrame} (he : kvGet s.dec.streams i = some e) (hw : e.withdrawn = true) (hr : e.reparse.isSome = true)
    (hc : s.cfgCondition e f ≠ 0) : exec (.cfgFrameRx i f) s
      = .next (((s.modStream i fun e => { e with reparse := none, retryAt := some (s.elapsed + 60000000000) }).setStreamState i .rejected).log
          0x0304 2 (leBytes 2 i ++ leBytes 1 (s.cfgCondition e f))).showHealth := by
  change execCfgFrameRx i f s = _
  rw [execCfgFrameRx, he]
  exact congrArg answer ((if_pos (by simp [hw, hr])).trans (if_neg hc))

/-- The channel map entries of a configuration frame take the places of the stream's (R76). -/
def State.remap (s : State) (e : StreamEntry) (f : CfgFrame) : State :=
  let map := (f.map.take e.cfg.chanCount).mapIdx (fun k m => (e.cfg.mapBase + k, m))
  { s with dec := { s.dec with map := map.foldl (fun l (x : Nat × MapEntry) => kvPut l x.1 x.2) s.dec.map } }

theorem exec_cfgFrameRx_accepted {f : CfgFrame} (he : kvGet s.dec.streams i = some e) (hw : e.withdrawn = true) (hr : e.reparse.isSome = true)
    (hc : s.cfgCondition e f = 0) : exec (.cfgFrameRx i f) s
      = .next (((s.remap e f).modStream i fun e => { e with cfg := { e.cfg with frameSize := f.frameSize, cfgCnt := f.cfgCnt } }).pendStream i
          .valid).showHealth := by
  change execCfgFrameRx i f s = _
  rw [execCfgFrameRx, he]
  exact congrArg answer ((if_pos (by simp [hw, hr])).trans (if_pos hc))

end

/-- Settles O18: each command comes down to a change of one entry, and where its group does not run no section waits for it. -/
theorem streamStates : Obligations.StreamStates := by
  unfold Obligations.StreamStates
  refine ⟨fun s e he ht => ?_, fun s e he ht hst => ?_, fun s e he hw ht => ?_, fun s i n last e he hr hw hn hdue => ?_,
    fun s i f e he hw hr hc => exec_cfgFrameRx_rejected s he hw hr hc, fun s i f e he hw hr hc hg => ?_, fun s i at_ e he hr hst ht hdue => ?_⟩
  · obtain ⟨x, hx, -, hstate⟩ := State.stream_pendStream he .disabled
    exact ⟨_, x, exec_stDisable s he ht, hx, hstate⟩
  · obtain ⟨x, hx, -, hstate⟩ := State.stream_pendStream he .valid
    exact ⟨_, x, exec_stEnable_disabled s he ht hst, hx, hstate⟩
  · exact ⟨_, exec_stReparse s, State.stream_startReparse he hw ht⟩
  · refine ⟨_, exec_reparseAttempt_due s he hr hw hn hdue, ?_⟩
    rw [State.showHealth_dec, State.sendOn_dec, State.stream_modStream he]
  · have hmap := State.stream_modStream (s := s.remap e f) he
      fun e => { e with cfg := { e.cfg with frameSize := f.frameSize, cfgCnt := f.cfgCnt } }
    obtain ⟨x, hx, hcfg, hstate⟩ := State.stream_pendStream hmap .valid
    have hidle : ¬(s.group e.cfg.rg).isSome := by simp [hg]
    refine ⟨_, x, exec_cfgFrameRx_accepted s he hw hr hc, hx, ?_, ?_, ?_⟩
    · exact (if_neg hidle).mp hstate
    · rw [hcfg]
    · rw [hcfg]
  · have hw : e.withdrawn = true := by simp [StreamEntry.withdrawn, hst]
    exact ⟨_, exec_reparseRetry_due s he hr hst hdue, State.stream_startReparse (State.stream_modStream he _) hw ht⟩

end Sys2Proof.Machine
end

section
/-!
PROOFS of the statements of family 03_stream_decoding: output streams, R-SV publications and DEC_COMMIT.
-/
namespace Sys2Proof.Machine

/-! ### Registers of the output streams and publications -/

theorem outReg_block {k m : Nat} (hk : k < 64) (hm : m / 0x2000 = 0x101) : (m + k * 0x20) / 0x100000 = 2 := by omega

theorem outReg_ne {m n : Nat} (k : Nat) (h : m ≠ n) : m + k * 0x20 ≠ n + k * 0x20 := by omega

theorem outReg_ne_linkDrop {k m : Nat} (hk : k < 64) (hm : m / 0x2000 = 0x101) (p : Nat) : m + k * 0x20 ≠ Reg.SPT_CNT_TX_LINK_DROP p := by
  simp only [Reg.SPT_CNT_TX_LINK_DROP]
  omega

section
variable (s : State) {k m : Nat} (hk : k < 64) (hm : m / 0x2000 = 0x101)
include hk hm

theorem State.reg_showHealth_out : s.showHealth.reg (m + k * 0x20) = s.reg (m + k * 0x20) :=
  s.reg_showHealth_of_block (by rw [outReg_block hk hm]; decide)

theorem State.flag_showHealth_out (n : Nat) : s.showHealth.flag (m + k * 0x20) n = s.flag (m + k * 0x20) n :=
  State.flag_congr (s.reg_showHealth_out hk hm) n

theorem State.reg_sendPort_out (p : Nat) (f : TxFrame) : (s.sendPort p f).reg (m + k * 0x20) = s.reg (m + k * 0x20) := by
  unfold State.sendPort
  refine State.reg_ite (fun _ => rfl) (fun _ => ?_)
  rw [(KeepsPorts.hostDone _ p f false).reg _ (by rw [outReg_block hk hm]; decide), State.reg_bump_ne _ _ _ (outReg_ne_linkDrop hk hm p)]

theorem State.reg_sendTo_out (d : TxDest) (cls len : Nat) (body : TxBody) :
    (s.sendTo d cls len body).reg (m + k * 0x20) = s.reg (m + k * 0x20) := by
  have hon (p : Nat) : (s.sendOn p cls len body).reg (m + k * 0x20) = s.reg (m + k * 0x20) := by
    unfold State.sendOn
    refine State.reg_ite (fun _ => ?_) (fun _ => s.reg_sendPort_out hk hm _ _)
    rw [State.reg_sendPort_out _ hk hm, State.reg_sendPort_out _ hk hm]
    rfl
  cases d with
  | port p => exact hon p
  | pair q => exact hon (2 * q)

theorem State.reg_sendMirrored_out (pub : MirrorPub) (d : TxDest) (cls len : Nat) (body : TxBody) :
    (s.sendMirrored pub d cls len body).reg (m + k * 0x20) = s.reg (m + k * 0x20) :=
  State.reg_ite (fun _ => rfl) (fun _ => State.reg_ite (fun _ => rfl) (fun _ => s.reg_sendTo_out hk hm d cls len body))

end

/-! ### The state of one output stream -/

section
variable {s : State}

theorem State.txq_sendTo_port {p : Nat} (hl : p < s.ports.length) (hup : s.linkIsUp p = true) (hp : s.paired p = false) (cls len : Nat)
    (body : TxBody) : ((s.sendTo (.port p) cls len body).port p).txq = (s.port p).txq ++ [TxFrame.mk cls (max len 60 + 4) none body] := by
  rw [State.sendTo, State.sendOn_of_unpaired _ hp, State.sendPort_of_up _ hup, State.port_modPort_same _ _ hl]

theorem State.out_congr {t : State} (h : t.dec = s.dec) (o : Nat) : t.out o = s.out o := by rw [State.out, h, ← State.out]

@[simp] theorem State.sendTo_dec (s : State) (d : TxDest) (cls len : Nat) (body : TxBody) : (s.sendTo d cls len body).dec = s.dec := by
  cases d <;> exact s.sendOn_dec _ _ _ _

variable {o : Nat} {x : OutState} (ho : s.out o = some x)
include ho

theorem State.id_of_out : x.cfg.id = o := by simpa using List.find?_some ho

/-- A change that keeps the streams' numbers changes the stream of its number. -/
theorem State.out_modOut {f : OutState → OutState} (hf : ∀ y, (f y).cfg = y.cfg) : (s.modOut o f).out o = some (f x) := by
  have hid : ((fun y : OutState => y.cfg.id == o) ∘ fun y => if y.cfg.id = o then f y else y) = fun y => y.cfg.id == o := by
    funext y
    simp only [Function.comp_apply, apply_ite OutState.cfg, hf, ite_self]
  have hfind : (s.modOut o f).out o = (s.out o).map fun y => if y.cfg.id = o then f y else y := by
    rw [State.out, State.modOut, List.find?_map, hid, State.out]
  rw [hfind, ho, Option.map_some, if_pos (State.id_of_out ho)]

/-! ### Commands to an output stream (R89) -/

theorem State.turnOut_of_out (on : Bool) : s.turnOut o on
    = ((s.modOut o fun x => { x with on := on }).setFlag (Reg.DEC_OUT_STATUS o) 0 on).setFlag (Reg.DEC_OUT_CTRL o) 1 on := by
  rw [State.turnOut, ho]

/-- A stream whose transmission is turned on or off shows it in its registers. -/
theorem State.turnOut_shows (hlt : o < 64) (on : Bool) : ∃ y, (s.turnOut o on).showHealth.out o = some y ∧ y.on = on
    ∧ (s.turnOut o on).showHealth.flag (Reg.DEC_OUT_STATUS o) 0 = on ∧ (s.turnOut o on).showHealth.flag (Reg.DEC_OUT_CTRL o) 1 = on := by
  rw [State.turnOut_of_out ho]
  refine ⟨_, State.out_modOut ho (f := fun x => { x with on := on }) fun _ => rfl, rfl, ?_, ?_⟩
  · rw [State.flag_showHealth_out _ hlt (by decide), State.flag_congr (State.reg_setFlag_ne _ _ _ _ _ (outReg_ne o (by decide))),
      State.flag_setFlag_same _ _ _ _ (by decide)]
  · rw [State.flag_showHealth_out _ hlt (by decide), State.flag_setFlag_same _ _ _ _ (by decide)]

theorem State.sendOutConfig_of_drives (hd : s.drives = true) (kind : Nat) : s.sendOutConfig o kind
    = s.sendTo (x.cfg.command.getD x.cfg.dest) 1 (Config.frameLen kind (sumNat (x.cfg.blocks.map fun b => (outChans b).length)))
        (s.outConfig x kind) := by
  rw [State.sendOutConfig, ho]
  exact if_pos hd

/-- A committed change of an output stream is in effect (R89). -/
def State.outChanged (s : State) (o : Nat) (x : OutState) : State :=
  (((s.setReg (Reg.DEC_OUT_CTRL o) ((s.reg (Reg.DEC_OUT_CTRL o) &&& 3) ||| (x.pendCtrl &&& 0xFF30#32))).setReg (Reg.DEC_OUT_WAIT o)
    x.pendWait).modOut o fun x => { x with pendAt := none }).setFlag (Reg.DEC_OUT_STATUS o) 1 false

theorem exec_outChangeApply_due {at_ : Nat} (hp : x.pendAt = some at_) (hdue : at_ ≤ s.now) :
    exec (.outChangeApply o) s = .next (s.outChanged o x).showHealth := by
  change execOutChangeApply o s = _
  simp only [execOutChangeApply, ho, hp]
  exact congrArg answer (if_pos hdue)

/-! ### Frames of an output stream (R87) -/

theorem exec_outputStreamFrame_ready {tag : Nat} (hd : s.drives = true) (htag : tag ≤ s.now) (hsends : s.outSends x tag = true)
    (hready : s.outReady x tag = true) : exec (.outputStreamFrame o tag) s = .next (s.sendOut x tag 0).showHealth := by
  change execOutputStreamFrame o tag s = _
  rw [execOutputStreamFrame, ho]
  exact congrArg answer (if_pos (by simp [hd, htag, hsends, hready]))

omit ho

/-- A frame of an output stream is counted, as partial where values are missing, and its tag is the last. -/
def State.outCounted (s : State) (o tag : Nat) (part : Bool) : State :=
  (if part then (s.bump (Reg.DEC_OUT_CNT_TX o)).bump (Reg.DEC_OUT_CNT_PARTIAL o) else s.bump (Reg.DEC_OUT_CNT_TX o)).modOut o
    fun x => { x with lastTag := some tag }

/-- The Fallow partner learns of the tag sent (R386). -/
def State.mirrorOut (s : State) (o tag : Nat) : State := if s.mirrored then s.mirror (.outTag o tag) else s

theorem State.mirrorOut_dec (o tag : Nat) : (s.mirrorOut o tag).dec = s.dec := by
  unfold State.mirrorOut
  split <;> rfl

theorem State.reg_mirrorOut (o tag a : Nat) : (s.mirrorOut o tag).reg a = s.reg a :=
  State.reg_ite (fun _ => rfl) (fun _ => rfl)

theorem State.sendOut_eq (s : State) (x : OutState) (tag : Nat) (more : Byte) : ∃ part cls len body,
    s.sendOut x tag more = ((s.outCounted x.cfg.id tag part).sendTo x.cfg.dest cls len body).mirrorOut x.cfg.id tag := ⟨_, _, _, _, rfl⟩

theorem State.reg_outCounted (tag : Nat) (part : Bool) : (s.outCounted o tag part).reg (Reg.DEC_OUT_CNT_TX o)
    = satWord ((s.reg (Reg.DEC_OUT_CNT_TX o)).toNat + 1) := by
  refine State.reg_ite (fun _ => ?_) (fun _ => s.reg_bump_same _)
  rw [State.reg_bump_ne _ _ _ (outReg_ne o (by decide)), State.reg_bump_same]

include ho

theorem State.out_outCounted (tag : Nat) (part : Bool) : (s.outCounted o tag part).out o = some { x with lastTag := some tag } := by
  have hsame (t : State) (ht : t.dec = s.dec) : (t.modOut o fun x => { x with lastTag := some tag }).out o = some { x with lastTag := some tag } :=
    State.out_modOut ((State.out_congr ht o).trans ho) fun _ => rfl
  unfold State.outCounted
  split
  · exact hsame _ rfl
  · exact hsame _ rfl

end

/-! ### R-SV publications (R90) -/

section
variable (s : State)

/-- The Caddy has signed a PDU of a publication: its SPDU number is used, the PDU counted, and its tag the last. -/
def State.rsvSigned (s : State) (p tag : Nat) : State :=
  let t := ((s.bump Reg.SEC_CNT_OPS).setReg (Reg.DEC_RSV_SPDU p) (s.reg (Reg.DEC_RSV_SPDU p) + 1)).bump (Reg.DEC_RSV_CNT_TX p)
  { t with dec := { t.dec with rsvs := t.dec.rsvs.map fun y => if y.cfg.id = p then { y with lastTag := some tag } else y } }

theorem State.signPdu_allowed {slot : Nat} (alg : Nat) (data : List Byte)
    (h : s.caddyCheck { id := 0, master := .pubAuth, secure := true, slot := slot, use := .macGenerate, data := [] } = none) :
    s.signPdu slot alg data = (s.bump Reg.SEC_CNT_OPS, some (leNat (Config.mac alg (s.slot slot).material data))) := by
  simp only [State.signPdu, State.caddyUse, h]

/-- What a publication needs to send a PDU for a tag (R90). -/
structure Publishes (s : State) (p tag : Nat) (x : RsvState) (q : Nat × Nat) : Prop where
  drives : s.drives = true
  enabled : s.flag (Reg.DEC_RSV_CTRL p) 0 = true
  alg : [1, 2, 4, 5].contains (s.field (Reg.DEC_RSV_CTRL p) 10 8) = true
  newer : ∀ last, x.lastTag = some last → last < tag
  near : gridNear (s.rate x.cfg.rg) tag = some q
  onGrid : gridTag (s.rate x.cfg.rg) q.1 q.2 = tag
  reached : tag ≤ s.now

variable {s} in
theorem exec_rsvPublish_signed {p tag : Nat} {x : RsvState} {q : Nat × Nat} (hx : s.dec.rsvs.find? (fun y => y.cfg.id == p) = some x)
    (h : Publishes s p tag x q)
    (hkey : s.caddyCheck { id := 0, master := .pubAuth, secure := true, slot := x.cfg.slot, use := .macGenerate, data := [] } = none) :
    ∃ pub cls len body, exec (.rsvPublish p tag) s = .next ((s.rsvSigned p tag).sendMirrored pub x.cfg.dest cls len body).showHealth := by
  obtain ⟨hd, hen, halg, hnew, hnear, hgrid, hnow⟩ := h
  change ∃ pub cls len body, execRsvPublish p tag s = _
  simp only [execRsvPublish, hx, hnear]
  rw [if_pos, State.signPdu_allowed s _ _ hkey]
  · exact ⟨_, _, _, _, rfl⟩
  · have hon : (s.reg (Reg.DEC_RSV_CTRL p)).getLsbD 0 = true := hen
    have hcode : [1, 2, 4, 5].contains (bitsOf (s.reg (Reg.DEC_RSV_CTRL p)) 10 8) = true := halg
    cases hl : x.lastTag with
    | none => simp only [hd, hon, hcode, hgrid, hnow, decide_true, Bool.and_true]
    | some last => simp only [hd, hon, hcode, hgrid, hnow, hnew last hl, decide_true, Bool.and_true]

theorem State.reg_rsvSigned_spdu (p tag : Nat) :
    (s.rsvSigned p tag).reg (Reg.DEC_RSV_SPDU p) = s.reg (Reg.DEC_RSV_SPDU p) + 1 :=
  (State.reg_bump_ne _ _ _ (outReg_ne p (by decide))).trans (State.reg_setReg_same _ _ _)

theorem State.reg_rsvSigned_tx (p tag : Nat) :
    (s.rsvSigned p tag).reg (Reg.DEC_RSV_CNT_TX p) = satWord ((s.reg (Reg.DEC_RSV_CNT_TX p)).toNat + 1) := by
  refine (State.reg_bump_same _ _).trans ?_
  rw [State.reg_setReg_ne _ _ _ _ (outReg_ne p (by decide)), State.reg_bump_ne _ _ _ (by simp only [Reg.SEC_CNT_OPS]; omega)]

/-! ### DEC_COMMIT (R83) -/

/-- A write of DEC_COMMIT waits for every group, and needs those for which something is staged. -/
def State.commitAsked (s : State) : State :=
  ({ s with dec := { s.dec with commitWait := [0, 1, 2, 3], commitNeed := (List.range 4).filter fun g => s.decStaged g } }).setFlag
    Reg.DEC_COMMIT 0 true

theorem foldl_eq_self {σ β : Type} {f : σ → β → σ} {t : σ} {l : List β} (h : ∀ b ∈ l, f t b = t) : l.foldl f t = t := by
  induction l with
  | nil => rfl
  | cons b r ih => rw [List.foldl_cons, h b List.mem_cons_self, ih fun x hx => h x (List.mem_cons_of_mem _ hx)]

theorem exec_decCommit_running (h : ∀ g, g < 4 → (s.group g).isSome = true) : exec .decCommit s = .next s.commitAsked.decDone.showHealth := by
  have hwait : (List.range 4).foldl (fun (s : State) g => if (s.group g).isSome then s else s.commitDec g) s.commitAsked = s.commitAsked :=
    foldl_eq_self fun g hg => if_pos (h g (List.mem_range.mp hg))
  exact congrArg (fun t : State => answer t.decDone) hwait

theorem State.flag_decDone (h : s.flag Reg.DEC_COMMIT 0 = true) : s.decDone.flag Reg.DEC_COMMIT 0 = !s.dec.commitNeed.isEmpty := by
  unfold State.decDone
  split
  next hn => rw [State.flag_setFlag_same _ _ _ _ (by decide), hn]; rfl
  next hn => rw [h, Bool.eq_false_of_not_eq_true hn]; rfl

end

/-- Settles O19: each command is reduced to its branch, and no frame sent reaches the registers of output streams and publications. -/
theorem outputStreams : Obligations.OutputStreams := by
  unfold Obligations.OutputStreams
  refine ⟨fun s o x hlt ho => ?_, fun s o x hlt ho => ?_, fun s o x ho hd => ?_, fun s o p kind c x ho hd hdest hl hup hp hc => ?_,
    fun s o at_ x hlt ho hpend hdue => ?_, fun s o tag x hlt ho hid hd htag hsends hready => ?_,
    fun s p tag x q hp hx hd hen halg hnew hnear hgrid hnow hkey => ?_, fun s hrun => ?_⟩
  · obtain ⟨y, hy, hshown⟩ := State.turnOut_shows ho hlt true
    exact ⟨_, y, rfl, hy, hshown⟩
  · obtain ⟨y, hy, hshown⟩ := State.turnOut_shows ho hlt false
    exact ⟨_, y, rfl, hy, hshown⟩
  · have hsent (kind : Nat) := congrArg answer (State.sendOutConfig_of_drives ho hd kind)
    exact ⟨hsent 0, hsent 1, hsent 2, hsent 3⟩
  · have hsent : exec c s = answer (s.sendOutConfig o kind) := by
      obtain ⟨rfl, rfl⟩ | ⟨rfl, rfl⟩ | ⟨rfl, rfl⟩ | ⟨rfl, rfl⟩ := hc <;> rfl
    refine ⟨_, hsent, ?_⟩
    rw [State.port_showHealth, State.sendOutConfig_of_drives ho hd, hdest, State.txq_sendTo_port hl hup hp]
  · refine ⟨_, exec_outChangeApply_due ho hpend hdue, ?_, ?_, ?_⟩
    · rw [State.reg_showHealth_out _ hlt (by decide)]
      exact (State.reg_setFlag_ne _ _ _ _ _ (outReg_ne o (by decide))).trans (State.reg_setReg_same _ _ _)
    · rw [State.flag_showHealth_out _ hlt (by decide)]
      exact State.flag_setFlag_same _ _ _ _ (by decide)
    · rw [State.reg_showHealth_out _ hlt (by decide)]
      exact (State.reg_setFlag_ne _ _ _ _ _ (outReg_ne o (by decide))).trans
        ((State.reg_setReg_ne _ _ _ _ (outReg_ne o (by decide))).trans (State.reg_setReg_same _ _ _))
  · obtain ⟨part, cls, len, body, hsend⟩ := s.sendOut_eq x tag 0
    refine ⟨_, { x with lastTag := some tag }, exec_outputStreamFrame_ready ho hd htag hsends hready, ?_, rfl, ?_⟩
    · rw [State.out_congr (State.showHealth_dec _), hsend, hid, State.out_congr (State.mirrorOut_dec _ _),
        State.out_congr (State.sendTo_dec _ _ _ _ _), State.out_outCounted ho]
    · rw [State.reg_showHealth_out _ hlt (by decide), hsend, hid, State.reg_mirrorOut, State.reg_sendTo_out _ hlt (by decide), State.reg_outCounted]
  · obtain ⟨pub, cls, len, body, hexec⟩ := exec_rsvPublish_signed hx ⟨hd, hen, halg, hnew, hnear, hgrid, hnow⟩ hkey
    have hlt : p < 64 := by omega
    refine ⟨_, hexec, ?_, ?_⟩
    · rw [State.reg_showHealth_out _ hlt (by decide), State.reg_sendMirrored_out _ hlt (by decide), State.reg_rsvSigned_spdu]
    · rw [State.reg_showHealth_out _ hlt (by decide), State.reg_sendMirrored_out _ hlt (by decide), State.reg_rsvSigned_tx]
  · refine ⟨_, exec_decCommit_running s hrun, ?_⟩
    have hset : s.commitAsked.flag Reg.DEC_COMMIT 0 = true := State.flag_setFlag_same _ _ _ _ (by decide)
    have hneed : s.commitAsked.dec.commitNeed = (List.range 4).filter fun g => s.decStaged g := rfl
    rw [State.flag_showHealth_ne _ _ _ (by decide), State.flag_decDone _ hset, hneed]
    simp [List.filter_eq_nil_iff]

end Sys2Proof.Machine
end

section
/-!
PROOFS of the statements of family 04_device_time: the counter, the synchronisation state, the time sources, and second and row boundaries.
-/
namespace Sys2Proof.Machine

/-! ### What leaves Device Time alone -/

/-- The state of Device Time and the registers of the TIM block stay as they are. -/
structure KeepsTime (s t : State) : Prop where
  tim : t.tim = s.tim
  reg : ∀ a, a / 0x100000 = 3 → t.reg a = s.reg a

namespace KeepsTime

variable {s t u : State}

theorem refl (s : State) : KeepsTime s s := ⟨rfl, fun _ _ => rfl⟩

theorem trans (h : KeepsTime s t) (k : KeepsTime t u) : KeepsTime s u :=
  ⟨k.tim.trans h.tim, fun a ha => (k.reg a ha).trans (h.reg a ha)⟩

theorem foldl {β : Type} (f : State → β → State) (h : ∀ s b, KeepsTime s (f s b)) (l : List β) (s : State) : KeepsTime s (l.foldl f s) := by
  induction l generalizing s with
  | nil => exact .refl s
  | cons b r ih => exact (h s b).trans (ih _)

theorem ite {c : Prop} [Decidable c] (ht : KeepsTime s t) (hu : KeepsTime s u) : KeepsTime s (if c then t else u) := by
  split
  · exact ht
  · exact hu

/-- An update of what is neither Device Time nor a register. -/
theorem of_eq (ht : t.tim = s.tim) (hr : t.regs = s.regs) : KeepsTime s t := ⟨ht, fun a _ => congrArg (smGet regReset · a) hr⟩

theorem setReg (s : State) {a : Nat} (v : Word) (h : 0x400000 ≤ a) : KeepsTime s (s.setReg a v) :=
  ⟨rfl, fun b hb => s.reg_setReg_ne a b v (by omega)⟩

theorem setFlag (s : State) {a : Nat} (n : Nat) (b : Bool) (h : 0x400000 ≤ a) : KeepsTime s (s.setFlag a n b) := setReg s _ h

theorem setField (s : State) {a : Nat} (hi lo v : Nat) (h : 0x400000 ≤ a) : KeepsTime s (s.setField a hi lo v) := setReg s _ h

theorem bumpBy (s : State) {a : Nat} (n : Nat) (h : 0x400000 ≤ a) : KeepsTime s (s.bumpBy a n) := setReg s _ h

theorem bump (s : State) {a : Nat} (h : 0x400000 ≤ a) : KeepsTime s (s.bump a) := setReg s _ h

theorem setPair (s : State) {lo hi : Nat} (v : Nat) (hlo : 0x400000 ≤ lo) (hhi : 0x400000 ≤ hi) : KeepsTime s (s.setPair lo hi v) :=
  (setReg s _ hlo).trans (setReg _ _ hhi)

theorem log (s : State) (code sev : Nat) (p : List Byte) (h : sev ≤ 4) : KeepsTime s (s.log code sev p) :=
  ⟨s.log_tim _ _ _, fun _ ha => s.reg_log _ _ _ _ h (not_mem_logRegs_of_block (by omega))⟩

theorem hgwSend (s : State) (dst : Nat) (c : HgwClass) (b : HgwBody) : KeepsTime s (s.hgwSend dst c b) := by
  refine ⟨?_, fun a ha => s.reg_hgwSend dst c b a (by rintro rfl; exact absurd ha (by decide))⟩
  obtain ⟨_, _, _, _, h⟩ := s.hgwSend_only dst c b
  rw [h]

theorem pmcGlobal (s : State) (code n : Nat) : KeepsTime s (s.pmcGlobal code n) := by
  have hadd (t : State) (g : Nat) : KeepsTime t (t.pmcAdd (Reg.PMC_G_SEL g) n) := by
    have hg : 0x400000 ≤ Reg.PMC_G_SEL g := Nat.le_add_right_of_le (by decide)
    unfold State.pmcAdd
    extract_lets _ added
    have hp : KeepsTime t added := setPair t _ (Nat.le_add_right_of_le hg) (Nat.le_add_right_of_le hg)
    exact ite (hp.trans (setFlag _ _ _ hg)) hp
  exact ite (refl s) (foldl _ (fun t g => ite (hadd t g) (refl t)) _ s)

/-! #### Sections and rows (R120, R129) -/

theorem modGroup (s : State) (g : Nat) (f : GroupState → GroupState) : KeepsTime s (s.modGroup g f) := of_eq rfl rfl

theorem modFurrow (s : State) (g tag : Nat) (f : Furrow → Furrow) : KeepsTime s (s.modFurrow g tag f) := of_eq rfl rfl

theorem triggerGraphs (s : State) (tr : Trigger) (key : Nat) (row : Option (Nat × Nat)) (c : Option Nat) :
    KeepsTime s (s.triggerGraphs tr key row c) := of_eq rfl rfl

theorem forwardSection (s : State) (g tag sec : Nat) : KeepsTime s (s.forwardSection g tag sec) := by
  unfold State.forwardSection
  split
  · exact foldl _ (fun t d => (hgwSend t _ _ _).trans (hgwSend _ _ _ _)) _ s
  · exact refl s

theorem closeSection (s : State) (g tag sec : Nat) (byDeadline : Bool) : KeepsTime s (s.closeSection g tag sec byDeadline) := by
  unfold State.closeSection
  split
  · exact refl s
  · split
    · exact refl s
    · extract_lets _ _ _ filled told counted
      have hfilled : KeepsTime s filled := modFurrow s _ _ _
      have htold : KeepsTime s told := (hfilled.trans (triggerGraphs _ _ _ _ _)).trans (forwardSection _ _ _ _)
      have hcounted : KeepsTime s counted := (htold.trans (bumpBy _ _ (Nat.le_add_right_of_le (by decide)))).trans (pmcGlobal _ _ _)
      exact ite (hcounted.trans (bump _ (Nat.le_add_right_of_le (by decide)))) hcounted

theorem deadlineDue (s : State) (g tag sec : Nat) : KeepsTime s (s.deadlineDue g tag sec) := by
  unfold State.deadlineDue
  split
  · exact ite (closeSection s _ _ _ _) (refl s)
  · exact refl s

theorem closeOverdue (s : State) (g : Nat) : KeepsTime s (s.closeOverdue g) := by
  unfold State.closeOverdue
  split
  · exact foldl _ (fun t f => foldl _ (fun u sec => deadlineDue u _ _ _) _ t) _ s
  · exact refl s

theorem reachTag (s : State) (g tag : Nat) : KeepsTime s (s.reachTag g tag) := by
  unfold State.reachTag
  extract_lets _ flagged
  have hflagged : KeepsTime s flagged := modFurrow s _ _ _
  split
  · exact hflagged.trans (foldl _ (fun t sec => ite (closeSection t _ _ _ _) (refl t)) _ _)
  · exact hflagged

theorem setWridx (s : State) (g w : Nat) : KeepsTime s (s.setWridx g w) := by
  unfold State.setWridx
  split
  · dsimp -zeta only
    extract_lets t
    have ht : KeepsTime s t :=
      (setPair s _ (Nat.le_add_right_of_le (by decide)) (Nat.le_add_right_of_le (by decide))).trans (modGroup _ _ _)
    exact ite (ht.trans (of_eq rfl rfl)) ht
  · exact refl s

theorem stepGroup (s : State) (g old new : Nat) : KeepsTime s (s.stepGroup g old new) := by
  unfold State.stepGroup
  split
  · extract_lets _ _ _ _ _ moved
    have hmoved : KeepsTime s moved := ((closeOverdue s g).trans (foldl _ (fun t f => reachTag t _ _) _ _)).trans (modGroup _ _ _)
    split
    · exact hmoved
    · exact ((hmoved.trans (setReg _ _ (Nat.le_add_right_of_le (by decide)))).trans (setWridx _ _ _)).trans (log _ _ _ _ (by decide))
  · exact refl s

theorem stepRows (s : State) (old : Nat) : KeepsTime s (s.stepRows old) := ite (foldl _ (fun t _ => stepGroup t _ _ _) _ s) (refl s)

/-! #### The Strainer (R161) -/

theorem setWch (s : State) (c : Nat) (x : WavChan) : KeepsTime s (s.setWch c x) := of_eq rfl rfl

theorem zeroChain (s : State) (c tR cause : Nat) : KeepsTime s (s.zeroChain c tR cause) :=
  ((setWch s c _).trans (setReg _ _ (Nat.le_add_right_of_le (by decide)))).trans (setReg _ _ (Nat.le_add_right_of_le (by decide)))

theorem announceReset (s : State) (tR cause : Nat) (disarm : Bool) : KeepsTime s (s.announceReset tR cause disarm) := by
  unfold State.announceReset
  extract_lets disarmed _ shown
  have hdisarmed : KeepsTime s disarmed := ite ((setFlag s _ _ (by decide)).trans (setFlag _ _ _ (by decide))) (refl s)
  have hidle : KeepsTime s { disarmed with wav := { disarmed.wav with syncWait := none } } := hdisarmed.trans (of_eq rfl rfl)
  have hshown : KeepsTime s shown := (hidle.trans (bump _ (by decide))).trans (setPair _ _ (by decide) (by decide))
  exact hshown.trans (log _ _ _ _ (by decide))

theorem stepWave (s : State) : KeepsTime s s.stepWave :=
  ite (((foldl _ (fun t c => zeroChain t c _ _) _ s).trans (announceReset _ _ _ _)).trans (setField _ _ _ _ (by decide))) (refl s)

theorem syncReset (s : State) (tR : Nat) (disarm : Bool) : KeepsTime s (s.syncReset tR disarm) := by
  unfold State.syncReset
  extract_lets _ _ idle waiting _
  have hidle : KeepsTime s idle := of_eq rfl rfl
  split
  · exact hidle.trans (announceReset _ _ _ _)
  · have hwaiting : KeepsTime s waiting := hidle.trans (foldl _ (fun t c => setWch t c _) _ _)
    exact hwaiting.trans (of_eq rfl rfl)

theorem ppsWave (s : State) : KeepsTime s s.ppsWave := by
  unfold State.ppsWave
  split
  · extract_lets
    split
    · exact syncReset s _ _
    · exact of_eq rfl rfl
  · exact refl s

theorem waveSecond (s : State) : KeepsTime s s.waveSecond := by
  unfold State.waveSecond
  extract_lets _ _ _ unlocked _ _
  have hunlocked : KeepsTime s unlocked := of_eq rfl rfl
  exact ite (hunlocked.trans (syncReset _ _ _)) (ite (hunlocked.trans (syncReset _ _ _)) hunlocked)

/-! #### The analyser and the cyclic tasks (R201, R265) -/

theorem oscReset (s : State) (g : Nat) : KeepsTime s (s.oscReset g) := by
  have hslots (t : State) : KeepsTime t (t.showSlots g) :=
    foldl _ (fun u i => (setReg u _ (Nat.le_add_right_of_le (Nat.le_add_right_of_le (by decide)))).trans
      (setReg _ _ (Nat.le_add_right_of_le (Nat.le_add_right_of_le (by decide))))) _ t
  have hstatus : 0x400000 ≤ Reg.OSC_G_STATUS g := Nat.le_add_right_of_le (by decide)
  have hosc (t : State) : KeepsTime t (t.showOsc g) := by
    unfold State.showOsc
    exact (((((setFlag t _ _ hstatus).trans (setFlag _ _ _ hstatus)).trans (setFlag _ _ _ hstatus)).trans (setField _ _ _ _ hstatus)).trans
      (setFlag _ _ _ (by decide))).trans (setReg _ _ (Nat.le_add_right_of_le (by decide)))
  have hmod (f : OscGroup → OscGroup) : KeepsTime s (s.modOsc g f) := of_eq rfl rfl
  exact (((hmod _).trans (setField _ _ _ _ hstatus)).trans (hslots _)).trans (hosc _)

theorem stepOsc (s : State) : KeepsTime s s.stepOsc := ite (foldl _ (fun t g => oscReset t g) _ s) (refl s)

theorem stepCyc (s : State) (off : Int) : KeepsTime s (s.stepCyc off) := by
  unfold State.stepCyc
  extract_lets _ moved shown
  have hmoved : KeepsTime s moved := of_eq rfl rfl
  have hshown : KeepsTime s shown := hmoved.trans (foldl _ (fun t k => setReg t _ (Nat.le_add_right_of_le (by decide))) _ _)
  exact ite hmoved (hshown.trans (setFlag _ _ _ (by decide)))

/-! #### Adaptive sections (R127, R128) -/

theorem showLearning (s : State) : KeepsTime s s.showLearning := by
  have hflags (t : State) (g : Nat) (b : Nat → Bool) (l : List Nat) :
      KeepsTime t (l.foldl (fun (s : State) sec => s.setFlag (Reg.ALN_SEC_DEADLINE g sec) 31 (b sec)) t) :=
    foldl _ (fun u sec => setFlag u _ _ (Nat.le_add_right_of_le (Nat.le_add_right_of_le (by decide)))) l t
  exact foldl _ (fun t g => ite ((hflags t g _ _).trans (setFlag _ _ _ (by decide))) (setFlag t _ _ (by decide))) _ s

theorem adaptSection (s : State) (g sec : Nat) : KeepsTime s (s.adaptSection g sec) := by
  unfold State.adaptSection
  split
  · exact refl s
  · extract_lets _ _ _ shown adapted
    have hshown : KeepsTime s shown := setField s _ _ _ (Nat.le_add_right_of_le (Nat.le_add_right_of_le (by decide)))
    have hadapted : KeepsTime s adapted := hshown.trans (modGroup _ _ _)
    exact ite (hadapted.trans (log _ _ _ _ (by decide))) (refl s)

theorem adaptSecond (s : State) : KeepsTime s s.adaptSecond := by
  unfold State.adaptSecond
  extract_lets _ closed learning
  have hclosed : KeepsTime s closed := of_eq rfl rfl
  have hlearning : KeepsTime s learning := hclosed.trans (showLearning _)
  exact hlearning.trans (foldl _ (fun t g => ite (foldl _ (fun u sec => adaptSection u g sec) _ t) (refl t)) _ _)

/-! #### Error reports (R445 to R450) -/

theorem escalate (s : State) (e : ErrorRec) (g : Nat) : KeepsTime s (s.escalate e g) := (log s _ _ _ (by decide)).trans (bump _ (by decide))

theorem gradeError (s : State) (e : ErrorRec) : KeepsTime s (s.gradeError e).2 := by
  have he2 : KeepsTime s (s.gradeE2 e).2 := by
    have hcount : KeepsTime s (s.countE2 e.source) := of_eq rfl rfl
    unfold State.gradeE2
    split
    · dsimp only
      split
      · exact hcount.trans (escalate _ _ _)
      · exact hcount
    · exact refl s
  have he3 (t : State) (x : ErrorRec) : KeepsTime t (t.gradeE3 x).2 := by
    have hmark : KeepsTime t (t.markE3 (blockOf x.source)) := of_eq rfl rfl
    unfold State.gradeE3
    dsimp only
    split
    · split
      · exact hmark
      · split
        · exact hmark.trans (escalate _ _ _)
        · exact hmark
    · exact refl t
  exact he2.trans (he3 _ _)

theorem beginE4 (s : State) : KeepsTime s s.beginE4 := by
  unfold State.beginE4
  split
  · exact refl s
  · extract_lets _ _ _ off
    have hoff : KeepsTime s off := of_eq rfl rfl
    exact ite (hoff.trans (log _ _ _ _ (by decide))) hoff

theorem stackError (s : State) (x : StackEntry) : KeepsTime s (s.stackError x) := by
  have hpreempt : KeepsTime s (s.preempt x) := by
    unfold State.preempt
    split
    · refine KeepsTime.trans ?_ (bump _ (by decide))
      exact of_eq rfl rfl
    · exact of_eq rfl rfl
  have hlost : KeepsTime s (s.bump Reg.HLT_CNT_STACK_LOST) := bump s (by decide)
  unfold State.stackError
  split
  · exact hpreempt
  · split
    · exact ite hpreempt (of_eq rfl rfl)
    · split
      · exact ite hlost ((hlost.trans (log _ _ _ _ (by decide))).trans (of_eq rfl rfl))
      · exact hpreempt

theorem blockError (s : State) (grade block code : Nat) : KeepsTime s (s.blockError grade block code) := by
  have hnote (t : State) (e : ErrorRec) : KeepsTime t (t.noteLast e) :=
    (((bump t (Nat.le_add_right_of_le (by decide))).trans (setPair _ _ (by decide) (by decide))).trans (setReg _ _ (by decide))).trans
      (setReg _ _ (by decide))
  have hcontain (t : State) (e : ErrorRec) : KeepsTime t (t.contain e) := ite (beginE4 t) (refl t)
  have hstack (t : State) : KeepsTime t t.showStack :=
    ((setField t _ _ _ (by decide)).trans (setField _ _ _ _ (by decide))).trans (setField _ _ _ _ (by decide))
  have hhold (t : State) (e : ErrorRec) : KeepsTime t (t.holdError s e) := by
    have hnext : KeepsTime t { t with hlt := { t.hlt with order := t.hlt.order + 1 } } := of_eq rfl rfl
    have hshown := (hnext.trans
      (stackError _ { err := e, gts := t.now, val := t.validity, order := t.hlt.order, resumed := false })).trans (hstack _)
    exact ite (hshown.trans (of_eq rfl rfl)) hshown
  rw [State.blockError, State.raiseError_eq]
  exact (((gradeError s _).trans (hnote _ _)).trans (hcontain _ _)).trans (hhold _ _)

/-! #### What it gives -/

theorem showHealth (s : State) : KeepsTime s s.showHealth :=
  ⟨rfl, fun _ ha => s.reg_showHealth_of_block (by omega)⟩

theorem now (h : KeepsTime s t) : t.now = s.now := congrArg (fun x : TimState => 2 ^ 32 * x.hi.toNat + x.ns.toNat) h.tim

theorem syncState (h : KeepsTime s t) : t.syncState = s.syncState := congrArg (bitsOf · 2 0) (h.reg Reg.TIM_STATUS (by decide))

theorem inc (h : KeepsTime s t) : t.inc = s.inc := by
  rw [State.inc, State.field, h.reg _ (by decide), h.reg _ (by decide), ← State.field, ← State.inc]

end KeepsTime

/-! ### What Device Time reads -/

/-- What Device Time reads, and the last second evaluated. -/
def State.clock (s : State) : Word × Word × Nat := (s.tim.hi, s.tim.ns, s.tim.lastSec)

section
variable (s : State)

theorem State.now_of_clock {s t : State} (h : t.clock = s.clock) : t.now = s.now :=
  congrArg (fun x : Word × Word × Nat => 2 ^ 32 * x.1.toNat + x.2.1.toNat) h

theorem State.clock_ite {c : Prop} [Decidable c] {t u : State} {x : Word × Word × Nat} (ht : t.clock = x) (hu : u.clock = x) :
    (if c then t else u).clock = x := by
  split
  · exact ht
  · exact hu

theorem State.clock_log (code sev : Nat) (p : List Byte) : (s.log code sev p).clock = s.clock := by
  rw [State.clock, State.log_tim, ← State.clock]

theorem State.clock_noteValidity (old : State) : (old.noteValidity s).clock = s.clock := by
  unfold State.noteValidity State.clock
  dsimp only
  split <;> rfl

theorem State.clock_setSync (st : Nat) : (s.setSync st).clock = s.clock := by
  unfold State.setSync
  extract_lets told locked _
  have htold : told.clock = s.clock := State.clock_ite rfl rfl
  have hlocked : locked.clock = s.clock := State.clock_ite htold htold
  rw [State.clock_noteValidity]
  exact hlocked

theorem State.now_setNow {t : Nat} (h : t < 2 ^ 64) : (s.setNow t).now = t := by
  have hnow : (s.setNow t).now = 2 ^ 32 * (Word.ofNat (t / 2 ^ 32)).toNat + (Word.ofNat t).toNat := rfl
  rw [hnow]
  simp only [Word.ofNat, BitVec.toNat_ofNat]
  omega

/-- A step of Device Time adds the offset modulo 2^64 (R96). -/
theorem State.now_stepBy (off : Int) : (s.stepBy off).now = (((s.now : Int) + off) % 2 ^ 64).toNat := by
  have hlt : (((s.now : Int) + off) % 2 ^ 64).toNat < 2 ^ 64 := by omega
  unfold State.stepBy
  extract_lets _ _ old moved _ _ counted host _ locked synced
  have hcounted : counted.now = moved.now := rfl
  have hhost : host.clock = counted.clock := State.clock_ite rfl rfl
  have hlocked : locked.clock = counted.clock := State.clock_ite hhost hhost
  have hsynced : synced.clock = counted.clock := (State.clock_setSync _ _).trans hlocked
  have hstep : KeepsTime ((synced.bump Reg.TIM_CNT_STEP).log 0x0405 2 (leBytes 8 (BitVec.ofInt 64 off).toNat)) _ :=
    (((KeepsTime.stepRows _ old).trans (.stepWave _)).trans (.stepOsc _)).trans (.stepCyc _ off)
  rw [hstep.now, State.now_of_clock (State.clock_log _ _ _ _)]
  exact ((State.now_of_clock hsynced).trans hcounted).trans (s.now_setNow hlt)

end

/-! ### Setting TIM_INC (R96) -/

section
variable (s : State)

theorem State.inc_setInc {v : Nat} (h : v < 2 ^ 40) : (s.setInc v).inc = v := by
  have hlo : (s.setInc v).reg Reg.TIM_INC_LO = Word.ofNat v :=
    (State.reg_setReg_ne _ _ _ _ (by decide)).trans ((State.reg_setReg_same _ _ _).trans (BitVec.ofInt_natCast _ _))
  have hhi : (s.setInc v).reg Reg.TIM_INC_HI = Word.ofNat (v / 2 ^ 32) &&& 0xFF#32 := by
    refine (State.reg_setReg_same _ _ _).trans ?_
    have hcast : (v : Int) / 2 ^ 32 = ((v / 2 ^ 32 : Nat) : Int) := by omega
    rw [hcast, BitVec.ofInt_natCast]
  have hmask (n : Nat) : n &&& 255 = n % 256 := Nat.and_two_pow_sub_one_eq_mod n 8
  rw [State.inc, State.field, hlo, hhi]
  simp only [bitsOf, Word.ofNat, BitVec.toNat_and, BitVec.toNat_ofNat, Nat.shiftRight_zero, Nat.reducePow, Nat.reduceMod, Nat.reduceAdd,
    Nat.sub_zero, hmask]
  omega

/-! ### The commands of the counter -/

/-- The tick in which TIM_NS wraps, as the sets it consists of (R93, R94). -/
theorem State.tickTime_of_wrap (h : 2 ^ 32 ≤ s.nsSum) : s.tickTime =
    (State.setNow { s with tim := { s.tim with
      frac := Word.ofNat (s.tim.ns.toNat * 2 ^ 32 + s.tim.frac.toNat + s.inc), ticks := s.tim.ticks + 1 } }
        (s.tim.hi.toNat * 2 ^ 32 + s.nsSum)).setFlag Reg.TIM_EVT 0 true := if_pos h

theorem State.setNow_hi (t : Nat) : (s.setNow t).tim.hi = Word.ofNat (t / 2 ^ 32) := rfl

theorem State.setNow_ns (t : Nat) : (s.setNow t).tim.ns = Word.ofNat t := rfl

theorem State.hi_tickTime_of_wrap (h : 2 ^ 32 ≤ s.nsSum) (hone : s.nsSum < 2 ^ 33) : s.tickTime.tim.hi = s.tim.hi + 1 := by
  rw [s.tickTime_of_wrap h, State.setFlag_tim, State.setNow_hi]
  refine BitVec.eq_of_toNat_eq ?_
  simp only [Word.ofNat, BitVec.toNat_ofNat, BitVec.toNat_add, BitVec.reduceToNat]
  omega

theorem State.ns_tickTime_of_wrap (h : 2 ^ 32 ≤ s.nsSum) : s.tickTime.tim.ns = Word.ofNat s.nsSum := by
  rw [s.tickTime_of_wrap h, State.setFlag_tim, State.setNow_ns]
  refine BitVec.eq_of_toNat_eq ?_
  simp only [Word.ofNat, BitVec.toNat_ofNat]
  omega

theorem exec_timeRollover_wraps (h : 2 ^ 32 ≤ s.nsSum) : exec .timeRollover s = .next s.tickTime.showHealth := congrArg answer (if_pos h)

theorem exec_timeStep_host (hi : Word) (h : s.hostMode = true) : exec (.timeStep hi) s
    = .next ((s.clearLo Reg.TIM_ADJ_LO).stepBy (hi ++ (kvGet s.loHold Reg.TIM_ADJ_LO).getD 0 : BitVec 64).toInt).showHealth :=
  congrArg answer (if_pos h)

theorem exec_timeStep_auto (hi : Word) (h : s.hostMode = false) : exec (.timeStep hi) s
    = .next ((s.clearLo Reg.TIM_ADJ_LO).refuseTim Reg.TIM_ADJ_HI 1).showHealth :=
  congrArg answer (if_neg (Bool.eq_false_iff.mp h))

theorem State.hostMode_clearLo (a : Nat) : (s.clearLo a).hostMode = s.hostMode := rfl

theorem exec_incWrite_auto (hi : Word) (h : s.hostMode = false) : exec (.incWrite hi) s
    = .next ((s.clearLo Reg.TIM_INC_LO).refuseTim Reg.TIM_INC_HI 1).showHealth :=
  congrArg answer (if_pos (by rw [State.hostMode_clearLo, h]; rfl))

theorem exec_incWrite_host {hi : Word} {v : Nat} (h : s.hostMode = true) (hv : (hi.toNat % 256) * 2 ^ 32 + (s.lowHalf Reg.TIM_INC_LO).toNat = v)
    (hin : exceeds ((v : Int) - incNominal) incLimit.toNat = false) :
    exec (.incWrite hi) s = .next ((s.clearLo Reg.TIM_INC_LO).setInc v).showHealth := by
  subst hv
  refine congrArg answer ((if_neg ?_).trans (if_neg (Bool.eq_false_iff.mp hin)))
  rw [State.hostMode_clearLo, h]
  decide

theorem KeepsTime.clearLo (a : Nat) : KeepsTime s (s.clearLo a) := .of_eq rfl rfl

theorem KeepsTime.refuseTim (reg cause : Nat) : KeepsTime s (s.refuseTim reg cause) := .log s _ _ _ (by decide)

end

/-- Settles O20: a tick that wraps is one set of Device Time, a step ends at the time it sets, and a refusal only reports. -/
theorem deviceTime : Obligations.DeviceTime := by
  unfold Obligations.DeviceTime
  refine ⟨fun s hwrap hone => ?_, fun s hi hhost => ?_, fun s hi hauto => ?_, fun s hi hhost => ?_, fun s hi hauto => ?_⟩
  · refine ⟨_, exec_timeRollover_wraps s hwrap, ?_, ?_, ?_⟩
    · rw [State.showHealth_tim, s.hi_tickTime_of_wrap hwrap hone]
    · rw [State.showHealth_tim, s.ns_tickTime_of_wrap hwrap]
    · rw [State.flag_showHealth_ne _ _ _ (by decide), s.tickTime_of_wrap hwrap, State.flag_setFlag_same _ _ _ _ (by decide)]
  · refine ⟨_, exec_timeStep_host s hi hhost, ?_⟩
    rw [(KeepsTime.showHealth _).now, State.now_stepBy, (KeepsTime.clearLo s _).now]
  · exact ⟨_, exec_timeStep_auto s hi hauto, (((KeepsTime.clearLo s _).trans (.refuseTim _ _ _)).trans (.showHealth _)).tim⟩
  · intro v hin
    have hv : v < 2 ^ 40 := by
      have hlow := (s.lowHalf Reg.TIM_INC_LO).isLt
      simp only [v]
      omega
    refine ⟨_, exec_incWrite_host s hhost rfl hin, ?_⟩
    rw [(KeepsTime.showHealth _).inc, State.inc_setInc _ hv]
  · exact ⟨_, exec_incWrite_auto s hi hauto, (((KeepsTime.clearLo s _).trans (.refuseTim _ _ _)).trans (.showHealth _)).inc⟩

/-! ### The synchronisation state (R97, R98) -/

section
variable (s : State)

theorem State.syncState_of_reg {s t : State} (h : t.reg Reg.TIM_STATUS = s.reg Reg.TIM_STATUS) : t.syncState = s.syncState :=
  congrArg (bitsOf · 2 0) h

theorem State.syncState_setField {hi lo : Nat} (v : Nat) (h : 2 < lo) : (s.setField Reg.TIM_STATUS hi lo v).syncState = s.syncState :=
  s.field_setField_disjoint _ _ _ _ _ _ (by decide) (.inl h)

theorem State.syncState_showQuality : s.showQuality.syncState = s.syncState := by
  rw [State.showQuality, State.showUnlock, State.syncState_setField _ _ (by decide), State.syncState_setField _ _ (by decide),
    State.syncState_setField _ _ (by decide)]

theorem State.syncState_noteValidity (old : State) : (old.noteValidity s).syncState = s.syncState := rfl

theorem State.syncState_setSync (st : Nat) : (s.setSync st).syncState = st % 8 := by
  unfold State.setSync
  extract_lets _ _ shown
  have hshown : shown.syncState = st % 8 := State.field_setField_same _ _ _ _ _ (by decide)
  have herr : (shown.setReg Reg.TIM_ERR_EST (satWord shown.errNow)).syncState = shown.syncState :=
    State.syncState_of_reg (State.reg_setReg_ne _ _ _ _ (by decide))
  rw [State.syncState_noteValidity, State.syncState_showQuality, herr, hshown]

theorem State.syncState_changeSource (new cause : Nat) : (s.changeSource new cause).syncState = s.syncState := by
  unfold State.changeSource
  extract_lets _ _ _ kept
  split
  · rfl
  · have hreg : kept.reg Reg.TIM_STATUS = (s.setField Reg.TIM_STATUS 5 4 new).reg Reg.TIM_STATUS := State.reg_setFlag_ne _ _ _ _ _ (by decide)
    have hkept : kept.syncState = s.syncState := (State.syncState_of_reg hreg).trans (s.syncState_setField _ (by decide))
    split
    · exact hkept
    · exact (KeepsTime.log _ _ _ _ (by decide)).syncState.trans hkept

theorem KeepsTime.logFree (old e : Nat) : KeepsTime s (s.logFree old e) := .log s _ _ _ (by decide)

theorem KeepsTime.logHoldover (src cause : Nat) : KeepsTime s (s.logHoldover src cause) := .log s _ _ _ (by decide)

theorem KeepsTime.logLocked : KeepsTime s s.logLocked := .log s _ _ _ (by decide)

/-! ### The commands of the synchronisation state -/

theorem syncState_hostSyncWrite {v : Word} (h : s.hostMode = true) (hv : bitsOf v 2 0 ≤ 3) :
    ∃ t, exec (.hostSyncWrite v) s = .next t ∧ t.syncState = bitsOf v 2 0 := by
  have hmode : ¬(!s.hostMode) = true := by rw [h]; decide
  have hsmall : bitsOf v 2 0 % 8 = bitsOf v 2 0 := Nat.mod_eq_of_lt (by omega)
  refine ⟨_, congrArg answer ((if_neg hmode).trans (if_neg (Nat.not_lt.mpr hv))), ?_⟩
  rw [(KeepsTime.showHealth _).syncState]
  extract_lets _ _ _ _ synced
  have hsynced : synced.syncState = bitsOf v 2 0 := (State.syncState_setSync _ _).trans hsmall
  split
  · exact hsynced
  · split
    · exact (KeepsTime.logFree _ _ _).syncState.trans hsynced
    · exact (KeepsTime.logLocked _).syncState.trans hsynced
    · exact (KeepsTime.logHoldover _ _ _).syncState.trans hsynced
    · exact hsynced

/-- Firmware's extension takes the present instant as its new reference (R94). -/
def State.newReference (s : State) : State := { s with tim := { s.tim with checkDt := s.now, checkTicks := s.tim.ticks } }

/-- Device Time less the time that firmware extends from the previous check (R94). -/
def State.extensionError (s : State) : Int :=
  (s.now : Int) - ((s.tim.checkDt + (s.tim.ticks - s.tim.checkTicks) * s.inc / 2 ^ 32 : Nat) : Int)

theorem exec_extensionCheck_within (h : exceeds s.extensionError 1000000 = false) :
    exec .extensionCheck s = .next s.newReference.showHealth :=
  congrArg answer (if_neg (Bool.eq_false_iff.mp h))

theorem syncState_extensionCheck_beyond (h : exceeds s.extensionError 1000000 = true) :
    ∃ t, exec .extensionCheck s = .next t ∧ t.syncState = 0 := by
  refine ⟨_, congrArg answer (if_pos h), ?_⟩
  rw [(KeepsTime.showHealth _).syncState, (KeepsTime.blockError _ _ _ _).syncState, State.syncState_setSync]

theorem syncState_sourceTimeout (h : s.hostMode = false) (hdue : s.tim.lastMeas + s.srcTimeout ≤ s.elapsed) :
    ∃ t, exec .sourceTimeout s = .next t
      ∧ t.syncState = (if s.syncState = 2 then 3 else if s.syncState = 1 then 0 else s.syncState) := by
  have hno : ¬(s.hostMode || decide (s.elapsed < s.tim.lastMeas + s.srcTimeout)) = true := by
    rw [h, Bool.false_or, decide_eq_true_eq]
    omega
  refine ⟨_, congrArg answer (if_neg hno), ?_⟩
  rw [(KeepsTime.showHealth _).syncState]
  extract_lets _ _ left
  rw [State.syncState_changeSource]
  simp only [left]
  split
  next hst => rw [(KeepsTime.logHoldover _ _ _).syncState, State.syncState_setSync, if_pos hst]
  next hst =>
    have hne : s.syncState ≠ 2 := by omega
    rw [(KeepsTime.logFree _ _ _).syncState, State.syncState_setSync, if_neg hne, if_pos hst]
  next h2 h1 => rw [if_neg h2, if_neg h1]

end

section
variable (s : State)

/-! ### PTP (R102, R103, R108, R109) -/

theorem exec_ptpMessage_unsupported {m : PtpMsg} (h : s.ptpReaches m = true) (hs : s.ptpSupported m = false) :
    exec (.ptpMessage m) s = .next (s.bump Reg.TIM_CNT_PTP_BAD).showHealth :=
  congrArg answer ((if_neg (by rw [h]; decide)).trans (if_pos (by rw [hs]; rfl)))

theorem exec_ptpMessage_supported {m : PtpMsg} (h : s.ptpReaches m = true) (hs : s.ptpSupported m = true) :
    exec (.ptpMessage m) s = .next (s.ptpBody m.port m.body).showHealth :=
  congrArg answer ((if_neg (by rw [h]; decide)).trans (if_neg (by rw [hs]; decide)))

/-- The Announces that parent selection knows of. -/
def State.masters (s : State) : List (Nat × PtpDataset × Nat) := s.tim.announces

theorem KeepsTime.masters {s t : State} (h : KeepsTime s t) : t.masters = s.masters := congrArg TimState.announces h.tim

theorem State.masters_setUtcOffset (o : Int) (src : Nat) : (s.setUtcOffset o src).masters = s.masters := by
  unfold State.setUtcOffset
  extract_lets _ shown
  have hshown : shown.masters = s.masters := rfl
  split
  · exact hshown
  · exact (KeepsTime.log _ _ _ _ (by decide)).masters.trans hshown

theorem State.masters_sourceLeap (pending del : Bool) : (s.sourceLeap pending del).masters = s.masters := by
  have hleap : (s.setLeap pending del).masters = s.masters := by
    unfold State.setLeap
    split
    · extract_lets
      split <;> rfl
    · rfl
  exact hleap

theorem State.masters_takeParentInfo (d : PtpDataset) : (s.takeParentInfo d).masters = s.masters := by
  unfold State.takeParentInfo
  split
  · extract_lets shown
    have hshown : shown.masters = s.masters := by
      simp only [shown]
      split
      · exact s.masters_setUtcOffset _ _
      · rfl
    rw [State.masters_sourceLeap, hshown]
  · rfl

/-- Parent selection keeps the Announces of the last 3 s (R102). -/
theorem State.masters_selectParent : s.selectParent.masters = s.masters.filter (fun x => decide (s.elapsed < x.2.2 + 3000000000)) := by
  unfold State.selectParent
  extract_lets live new _ _ kept shown _ changed
  have hkept : kept.masters = live := rfl
  clear_value kept new
  have hshown : shown.masters = live := by
    simp only [shown]
    split
    · rw [State.masters_takeParentInfo]
      exact hkept
    · exact hkept
  have hchanged : changed.masters = live := hshown
  split
  · exact hshown
  · split
    · exact (KeepsTime.log _ _ _ _ (by decide)).masters.trans hchanged
    · exact hchanged

/-! ### IRIG-B (R104) -/

theorem exec_irigFrame_bad {f : IrigFrame} (hen : s.flag Reg.TIM_IRIG_CTRL 0 = true) (hok : s.irigOk f = false) : exec (.irigFrame f) s
    = .next (State.showHealth { s.bump Reg.TIM_CNT_IRIG_BAD with tim := { s.tim with irig := none } }) :=
  congrArg answer ((if_neg (by rw [hen]; decide)).trans (if_pos (by rw [hok]; rfl)))

theorem exec_irigFrame_first {f : IrigFrame} (hen : s.flag Reg.TIM_IRIG_CTRL 0 = true) (hok : s.irigOk f = true) (hn : s.tim.irig = none) :
    exec (.irigFrame f) s
      = .next (State.showHealth { s with tim := { s.tim with irig := some ((s.irigUtc f).toNat, f.edge, false), irigAt := s.elapsed } }) := by
  change execIrigFrame f s = _
  simp only [execIrigFrame, hen, hok, hn, Bool.not_true, Bool.false_eq_true, if_false, Option.isNone_none, if_true]
  rfl

/-- The state with a frame of UTC second `u + 1` remembered, which follows one of second `u`. -/
def State.irigFollowed (s : State) (f : IrigFrame) (u : Nat) : State :=
  { s with tim := { s.tim with irig := some (u + 1, f.edge, true), irigAt := s.elapsed } }

theorem exec_irigFrame_next {f : IrigFrame} {u e : Nat} {b : Bool} (hen : s.flag Reg.TIM_IRIG_CTRL 0 = true)
    (hcf : s.flag Reg.TIM_IRIG_CTRL 2 = false) (hok : s.irigOk f = true) (hlast : s.tim.irig = some (u, e, b)) (hu : (s.irigUtc f).toNat = u + 1) :
    let v := s.irigFollowed f u
    let m := v.measure 2 ((((u + 1 : Nat) : Int) + offsetUtc v.utcChanges.1 v.utcChanges.2 ((u + 1 : Nat) : Int)) * 1000000000
        - ((f.edge : Int) - s.field Reg.TIM_IRIG_CTRL 31 16)) (v.irigBound f.tq).1 (v.irigBound f.tq).2
    exec (.irigFrame f) s = .next (if m.source = 2 then m.setFlag Reg.TIM_TAI_UTC 16 false else m).showHealth := by
  intro v m
  change execIrigFrame f s = _
  simp only [execIrigFrame, hen, hok, hlast, hu, hcf, Bool.not_true, Bool.false_eq_true, if_false, Option.isNone_some, beq_self_eq_true]
  rfl

/-! ### PPS_IN (R100, R105) -/

theorem exec_ppsInEdge_first (h : s.tim.pps = none) : exec .ppsInEdge s
    = .next (State.ppsWave { s with tim := { s.tim with pps := some (s.elapsed, false), lastPps := s.elapsed } }).showHealth := by
  change execPpsInEdge s = _
  simp only [execPpsInEdge, h, Bool.false_eq_true, if_false]
  rfl

theorem exec_ppsInEdge_next {at_ : Nat} {ok : Bool} (h : s.tim.pps = some (at_, ok)) (hlo : 999000000 ≤ s.elapsed - at_)
    (hhi : s.elapsed - at_ ≤ 1001000000) :
    let v := ({ s with tim := { s.tim with pps := some (s.elapsed, true), lastPps := s.elapsed } } : State).ppsWave
    let x : Int := (v.now : Int) - (v.field Reg.TIM_PPS_IN 31 16 : Int)
    exec .ppsInEdge s = .next
      (v.measure 3 ((x + 500000000) / 1000000000 * 1000000000 - x) (v.field Reg.TIM_PPS_IN 15 4) (v.flag Reg.TIM_PPS_IN 1)).showHealth := by
  intro v x
  change execPpsInEdge s = _
  simp only [execPpsInEdge, h, hlo, hhi, decide_true, Bool.and_true, if_true]
  rfl

theorem exec_ppsMiss_due {at_ : Nat} {ok : Bool} (h : s.tim.pps = some (at_, ok)) (hdue : s.tim.lastPps + 1001000000 < s.elapsed) :
    exec .ppsMiss s = .next (State.showHealth
      { s.bump Reg.TIM_CNT_PPS_MISS with tim := { s.tim with pps := some (at_, false), lastPps := s.elapsed } }) := by
  change execPpsMiss s = _
  simp only [execPpsMiss, h, hdue, if_true]
  rfl

/-! ### Ends (R99, R107) -/

theorem exec_sourceFaultExpire_due {src at_ : Nat} (h : kvGet s.tim.faults src = some at_) (hdue : at_ ≤ s.elapsed) :
    exec (.sourceFaultExpire src) s = .next (State.showHealth { s with tim := { s.tim with faults := kvDel s.tim.faults src } }) := by
  change execSourceFaultExpire src s = _
  simp only [execSourceFaultExpire, h, hdue, if_true]
  rfl

theorem exec_ppsOutEnd_due {at_ : Nat} (h : s.tim.ppsEnd = some at_) (hdue : at_ ≤ s.elapsed) :
    exec .ppsOutEnd s = .next (State.showHealth { s with tim := { s.tim with ppsEnd := none } }) := by
  change execPpsOutEnd s = _
  simp only [execPpsOutEnd, h, hdue, if_true]
  rfl

/-- A counter of the TIM block, where only it rises. -/
theorem State.reg_showHealth_bump {a : Nat} (ha : a / 0x100000 = 3) {t : State} (h : t.regs = (s.bump a).regs) :
    t.showHealth.reg a = satWord ((s.reg a).toNat + 1) :=
  ((KeepsTime.showHealth t).reg a ha).trans ((congrArg (smGet regReset · a) h).trans (s.reg_bump_same a))

end

/-- Settles O21: each command is reduced to its branch; what follows a change of state, a log or an error report, keeps TIM_STATUS. -/
theorem timeSources : Obligations.TimeSources := by
  unfold Obligations.TimeSources
  refine ⟨fun s v hhost hv => syncState_hostSyncWrite s hhost hv, fun s h => syncState_extensionCheck_beyond s h,
    fun s h => ⟨_, exec_extensionCheck_within s h, rfl, (KeepsTime.showHealth _).syncState⟩,
    fun s hauto hdue => syncState_sourceTimeout s hauto hdue, fun s m hm hs => ?_, fun s m d hm hs hd => ?_,
    fun s m hm hs => exec_ptpMessage_supported s hm hs, fun s f hen hok => ?_,
    fun s f hen hok hn => ⟨_, exec_irigFrame_first s hen hok hn, rfl⟩, fun s f u e b hen hcf hok hlast hu => ?_, fun s h => ?_,
    fun s at_ ok h hlo hhi => exec_ppsInEdge_next s h hlo hhi, fun s at_ ok h hdue => ?_, fun s src at_ h hdue => ?_,
    fun s at_ h hdue => ⟨_, exec_ppsOutEnd_due s h hdue, rfl⟩, fun s => ?_⟩
  · exact ⟨_, exec_ptpMessage_unsupported s hm hs, s.reg_showHealth_bump (by decide) rfl, rfl⟩
  · refine ⟨_, exec_ptpMessage_supported s hm hs, ?_⟩
    rw [hd]
    exact State.masters_selectParent _
  · exact ⟨_, exec_irigFrame_bad s hen hok, rfl, s.reg_showHealth_bump (by decide) rfl⟩
  · exact exec_irigFrame_next s hen hcf hok hlast hu
  · refine ⟨_, exec_ppsInEdge_first s h, ?_⟩
    rw [State.showHealth_tim, (KeepsTime.ppsWave _).tim]
    exact ⟨rfl, rfl⟩
  · exact ⟨_, exec_ppsMiss_due s h hdue, rfl, s.reg_showHealth_bump (by decide) rfl⟩
  · exact ⟨_, exec_sourceFaultExpire_due s h hdue, kvGet_kvDel_same _ _⟩
  · exact ⟨_, rfl, s.masters_selectParent⟩

section
variable (s : State)

/-! ### A second boundary (R101, R107, R109) -/

theorem State.clock_leapSecond : s.leapSecond.clock = s.clock := by
  unfold State.leapSecond
  extract_lets ended _ _
  have hended : ended.clock = s.clock := by
    simp only [ended]
    split
    · exact State.clock_ite rfl rfl
    · rfl
  split
  · extract_lets _ _ _ applied
    have happlied : applied.clock = s.clock := hended
    split
    · exact (State.clock_log _ _ _ _).trans happlied
    · exact hended
  · exact hended

theorem State.ringInterrupt_tim (p id : Nat) (ctrl : Word) : (s.ringInterrupt p id ctrl).tim = s.tim := by
  obtain ⟨_, _, h⟩ := s.ringInterrupt_only p id ctrl
  rw [h]
  rfl

theorem State.sendPort_tim (p : Nat) (f : TxFrame) : (s.sendPort p f).tim = s.tim := by
  have hdone (t : State) : (t.hostDone p f false).tim = t.tim := by
    unfold State.hostDone
    split
    · split
      · rw [State.ringInterrupt_tim, State.writeHost_tim]
      · rfl
    · rfl
  unfold State.sendPort
  split
  · rw [State.modPort_tim]
  · rw [hdone, State.bump_tim]

theorem State.clock_askDelays : s.askDelays.clock = s.clock := by
  have hask (t : State) (p : Nat) : (t.ptpRequest p 2).clock = t.clock := by
    unfold State.ptpRequest
    rw [State.clock, State.sendPort_tim]
    rfl
  refine State.clock_ite rfl (foldl_keeps _ State.clock (fun t p => ?_) _ s)
  exact State.clock_ite (hask t p) rfl

theorem State.lastSec_timeSecond : s.timeSecond.tim.lastSec = s.second := by
  unfold State.timeSecond
  extract_lets _ begun evaluated _ free left _
  have hevaluated : evaluated.clock = begun.clock := State.clock_ite (State.clock_noteValidity _ _) (State.clock_noteValidity _ _)
  have hfree : free.clock = begun.clock :=
    State.clock_ite ((State.clock_log _ _ _ _).trans ((State.clock_setSync _ _).trans hevaluated)) hevaluated
  have hleft : left.clock = begun.clock := (State.clock_askDelays _).trans ((State.clock_leapSecond _).trans hfree)
  have hsec : left.tim.lastSec = s.second := congrArg (fun x : Word × Word × Nat => x.2.2) hleft
  split
  · exact hsec
  · exact hsec

theorem exec_secondBoundary_due (h : s.tim.lastSec < s.second) :
    exec .secondBoundary s = .next ((s.timeSecond.adaptSecond).waveSecond).showHealth := congrArg answer (if_pos h)

theorem exec_secondBoundary_evaluated (h : s.second ≤ s.tim.lastSec) : exec .secondBoundary s = .next s.showHealth :=
  congrArg answer (if_neg (Nat.not_lt.mpr h))

/-! ### A row boundary (R115, R128) -/

theorem exec_rowBoundary_due {rg : Nat} {x : GroupState} (hx : s.group rg = some x) (h : opensAt x (s.rate rg) ≤ s.now) :
    exec (.rowBoundary rg) s = .next (((((s.commitAtRow rg (opensAt x (s.rate rg))).atTag rg
      (gridPrev (s.rate rg) (x.nextS, x.nextK))).openRow rg).oscDue).updateDests).showHealth := by
  change execRowBoundary rg s = _
  simp only [execRowBoundary, hx, if_pos h]
  rfl

theorem exec_rowBoundary_early {rg : Nat} {x : GroupState} (hx : s.group rg = some x) (h : s.now < opensAt x (s.rate rg)) :
    exec (.rowBoundary rg) s = .next s.showHealth := by
  change execRowBoundary rg s = _
  simp only [execRowBoundary, hx, if_neg (Nat.not_le.mpr h)]
  rfl

theorem State.sectionCount_lt (g : Nat) : s.sectionCount g < 128 := Nat.mod_lt _ (by decide)

/-- The furrow with which the next row of a group opens (R115, R120, R125). -/
def State.nextFurrow (s : State) (g : Nat) (x : GroupState) : Furrow where
  tag := gridTag (s.rate g) x.nextS x.nextK
  idx := x.nextIdx
  flags := 0
  deadlines := (List.range (s.sectionCount g)).map (fun sec => s.secDeadline g sec)
  hg := (s.reg (Reg.ALN_RG_HEADLAND g)).toNat * 1000
  bare := (List.range (s.sectionCount g)).foldl (fun b sec => if (s.waited g sec).isEmpty then b ||| (1 <<< sec) else b) 0

/-- A group whose next row has opened. -/
def GroupState.opened (x : GroupState) (r : Nat) (f : Furrow) : GroupState :=
  { x with
    nextS := (gridNext r (x.nextS, x.nextK)).1
    nextK := (gridNext r (x.nextS, x.nextK)).2
    nextIdx := x.nextIdx + 1
    furrows := x.furrows ++ [f] }

variable {g : Nat} {x : GroupState} (hx : s.group g = some x)
include hx

theorem State.group_modGroup (f : GroupState → GroupState) : (s.modGroup g f).group g = some (f x) :=
  (kvGet_kvMod _ _ _ _).trans (by rw [if_pos rfl, show kvGet s.aln.groups g = some x from hx]; rfl)

theorem State.openRow_of_group : s.openRow g = (((s.modGroup g (fun y => { y with
    nextS := (gridNext (s.rate g) (x.nextS, x.nextK)).1, nextK := (gridNext (s.rate g) (x.nextS, x.nextK)).2, nextIdx := y.nextIdx + 1
    furrows := y.furrows ++ [s.nextFurrow g x] })).setReg (Reg.ALN_RG_SEQ g) (Word.ofNat x.nextIdx)).showMembers g).showFurrows := by
  simp only [State.openRow, hx]
  rfl

theorem State.group_openRow : (s.openRow g).group g = some (x.opened (s.rate g) (s.nextFurrow g x)) := by
  have hmembers (t : State) : (t.showMembers g).aln = t.aln := foldl_keeps _ State.aln (fun u sec => u.setField_aln _ _ _ _) _ t
  have haln (t : State) : ((t.showMembers g).showFurrows).group g = t.group g := congrArg (fun a : AlnState => kvGet a.groups g) (hmembers t)
  rw [s.openRow_of_group hx, haln]
  exact State.group_modGroup s hx _

theorem State.reg_openRow_seq : (s.openRow g).reg (Reg.ALN_RG_SEQ g) = Word.ofNat x.nextIdx := by
  have hmembers (t : State) : (t.showMembers g).reg (Reg.ALN_RG_SEQ g) = t.reg (Reg.ALN_RG_SEQ g) :=
    foldl_keeps_mem _ (fun u : State => u.reg (Reg.ALN_RG_SEQ g)) _ (fun u sec hsec => u.reg_setField_ne _ _ _ _ _ (by
      have hlt := (List.mem_range.mp hsec).trans (t.sectionCount_lt g)
      simp only [Reg.ALN_SEC_CTRL, Reg.ALN_RG_SEQ]
      omega)) t
  have hfurrows (t : State) : t.showFurrows.reg (Reg.ALN_RG_SEQ g) = t.reg (Reg.ALN_RG_SEQ g) :=
    (State.reg_maxReg_ne _ _ _ _ (by simp only [Reg.ALN_FURROW_PEAK, Reg.ALN_RG_SEQ]; omega)).trans
      (State.reg_setReg_ne _ _ _ _ (by simp only [Reg.ALN_FURROW_USED, Reg.ALN_RG_SEQ]; omega))
  rw [s.openRow_of_group hx, hfurrows, hmembers, State.reg_setReg_same]

end

/-- Settles O22: what a second boundary does after its evaluation keeps the second evaluated, and a row opens with the group's next index. -/
theorem boundaries : Obligations.Boundaries := by
  unfold Obligations.Boundaries
  refine ⟨fun s h => ?_, fun s h => exec_secondBoundary_evaluated s h, fun s rg x y _ hx h => ?_,
    fun s rg x hx h => exec_rowBoundary_early s hx h⟩
  · refine ⟨_, exec_secondBoundary_due s h, ?_⟩
    rw [(((KeepsTime.adaptSecond _).trans (.waveSecond _)).trans (.showHealth _)).tim, State.lastSec_timeSecond]
  · intro u hy
    refine ⟨_, _, exec_rowBoundary_due s hx h, rfl, u.group_openRow hy, rfl, ?_, ?_, u.reg_openRow_seq hy⟩
    · exact List.length_append
    · exact List.map_append

end Sys2Proof.Machine
end

section
/-!
PROOFS of the statement of family 05_alignment: sections, retiring rows, the Gleaner's intake, commits and release tokens.
-/
namespace Sys2Proof.Machine

/-! ### What leaves the alignment engine alone -/

theorem State.pmcGlobal_aln (s : State) (code n : Nat) : (s.pmcGlobal code n).aln = s.aln := by
  have hadd (t : State) (sel : Nat) : (t.pmcAdd sel n).aln = t.aln := by
    unfold State.pmcAdd
    extract_lets
    split <;> rfl
  unfold State.pmcGlobal
  split
  · rfl
  · refine foldl_keeps _ State.aln (fun t g => ?_) _ s
    extract_lets
    split
    · exact hadd t _
    · rfl

theorem State.reg_pmcGlobal (s : State) (code n : Nat) {a : Nat} (ha : a < 0x1400000) : (s.pmcGlobal code n).reg a = s.reg a := by
  have hadd (t : State) (g : Nat) : (t.pmcAdd (Reg.PMC_G_SEL g) n).reg a = t.reg a := by
    have hsel : 0x1400000 ≤ Reg.PMC_G_SEL g := Nat.le_add_right_of_le (by decide)
    have hpair (v : Nat) : (t.setPair (Reg.PMC_G_SEL g + 8) (Reg.PMC_G_SEL g + 12) v).reg a = t.reg a :=
      t.reg_setPair_ne _ _ _ _ (by omega) (by omega)
    unfold State.pmcAdd
    extract_lets
    split
    · exact (State.reg_setFlag_ne _ _ _ _ _ (by omega)).trans (hpair _)
    · exact hpair _
  unfold State.pmcGlobal
  split
  · rfl
  · refine foldl_keeps _ (fun t : State => t.reg a) (fun t g => ?_) _ s
    extract_lets
    split
    · exact hadd t g
    · rfl

section
variable (s : State)

theorem State.hgwSend_aln (dst : Nat) (c : HgwClass) (b : HgwBody) : (s.hgwSend dst c b).aln = s.aln := by
  obtain ⟨_, _, _, _, h⟩ := s.hgwSend_only dst c b
  rw [h]

theorem State.forwardSection_aln (g tag sec : Nat) : (s.forwardSection g tag sec).aln = s.aln := by
  unfold State.forwardSection
  split
  · exact foldl_keeps _ State.aln (fun t d => (State.hgwSend_aln _ _ _ _).trans (t.hgwSend_aln _ _ _)) _ s
  · rfl

theorem State.reg_forwardSection (g tag sec : Nat) {a : Nat} (ha : a ≠ Reg.HGW_CNT_LOST) : (s.forwardSection g tag sec).reg a = s.reg a := by
  unfold State.forwardSection
  split
  · exact foldl_keeps _ (fun t : State => t.reg a)
      (fun t d => (State.reg_hgwSend _ _ _ _ _ ha).trans (t.reg_hgwSend _ _ _ _ ha)) _ s
  · rfl

theorem State.oscDue_off (h0 : s.flag Reg.OSC_CTRL 0 = false) (h1 : s.flag Reg.OSC_CTRL 1 = false) : s.oscDue = s :=
  if_pos (by rw [h0, h1]; rfl)

/-! ### The furrow of a tag (R115) -/

theorem State.furrow_congr {s t : State} (h : t.aln = s.aln) (g tag : Nat) : t.furrow g tag = s.furrow g tag := by
  rw [State.furrow, State.group, h]
  rfl

theorem State.group_modGroup_of_none {g : Nat} (hx : s.group g = none) (h : GroupState → GroupState) : (s.modGroup g h).group g = none :=
  (kvGet_kvMod _ _ _ _).trans (by rw [if_pos rfl, show kvGet s.aln.groups g = none from hx, Option.map_none])

theorem State.furrow_modFurrow (g tag : Nat) (h : Furrow → Furrow) (hh : ∀ f, (h f).tag = f.tag) :
    (s.modFurrow g tag h).furrow g tag = (s.furrow g tag).map h := by
  have hkeep (f : Furrow) : ((if f.tag = tag then h f else f).tag == tag) = (f.tag == tag) := by
    split
    · rw [hh]
    · rfl
  cases hx : s.group g with
  | none =>
    have hgone : (s.modFurrow g tag h).group g = none := s.group_modGroup_of_none hx _
    rw [State.furrow, State.furrow, hgone, hx]
    rfl
  | some x =>
    rw [State.furrow, State.furrow, State.modFurrow, State.group_modGroup s hx, hx]
    change List.find? _ (List.map _ _) = Option.map h (List.find? _ _)
    rw [List.find?_map]
    simp only [Function.comp_def, hkeep]
    cases hf : x.furrows.find? (fun f => f.tag == tag) with
    | none => rfl
    | some f => exact congrArg some (if_pos (by simpa using List.find?_some hf))

/-! ### Section closure (R120, R122, R124) -/

/-- The furrow `h` of a row once a section of the row has closed, with the slots that the closure gives to the row that held `f`. -/
def State.closedFurrow (s : State) (g tag sec : Nat) (byDeadline : Bool) (f h : Furrow) : Furrow :=
  Furrow.recount { h with
    slots := (((s.secChans g sec).filter (fun c => !deliveredIn f c.1)).map
      (fun c => (c.1, s.closingSlot g tag c.1 c.2 (kvGet f.slots c.1)))).foldl (fun l (x : Nat × Slot) => kvPut l x.1 x.2) h.slots
    closed := h.closed ||| (1 <<< sec)
    onDl := if byDeadline then h.onDl ||| (1 <<< sec) else h.onDl
    closedAt := kvPut h.closedAt sec s.now }

theorem State.closeSection_of_closed {g tag sec : Nat} {f : Furrow} (hf : s.furrow g tag = some f) (hc : f.isClosed sec = true) (b : Bool) :
    s.closeSection g tag sec b = s := by
  simp only [State.closeSection, hf, hc, if_true]

variable {g tag sec : Nat} {f : Furrow} (hf : s.furrow g tag = some f) (ho : f.isClosed sec = false)
include hf ho

theorem State.closeSection_aln (b : Bool) :
    (s.closeSection g tag sec b).aln = (s.modFurrow g tag (s.closedFurrow g tag sec b f)).aln := by
  simp only [State.closeSection, hf, ho, Bool.false_eq_true, if_false]
  cases b <;> exact (State.pmcGlobal_aln _ _ _).trans (State.forwardSection_aln _ _ _ _)

theorem State.furrow_closeSection (b : Bool) :
    (s.closeSection g tag sec b).furrow g tag = some (s.closedFurrow g tag sec b f f) := by
  rw [State.furrow_congr (s.closeSection_aln hf ho b), State.furrow_modFurrow, hf]
  · rfl
  · exact fun _ => rfl

theorem State.reg_closeSection_osc (b : Bool) : (s.closeSection g tag sec b).reg Reg.OSC_CTRL = s.reg Reg.OSC_CTRL := by
  have hheld : Reg.OSC_CTRL ≠ Reg.ALN_RG_CNT_HELD g := by
    simp only [Reg.OSC_CTRL, Reg.ALN_RG_CNT_HELD]
    omega
  have hdeadline : Reg.OSC_CTRL ≠ Reg.ALN_RG_CNT_SEC_DEADLINE g := by
    simp only [Reg.OSC_CTRL, Reg.ALN_RG_CNT_SEC_DEADLINE]
    omega
  have hcounted (t : State) (n : Nat) : (((t.forwardSection g tag sec).bumpBy (Reg.ALN_RG_CNT_HELD g) n).pmcGlobal 0x23 1).reg Reg.OSC_CTRL
      = t.reg Reg.OSC_CTRL := by
    rw [State.reg_pmcGlobal _ _ _ (by decide), State.reg_bumpBy_ne _ _ _ _ hheld, State.reg_forwardSection _ _ _ _ (by decide)]
  simp only [State.closeSection, hf, ho, Bool.false_eq_true, if_false]
  cases b
  · exact hcounted _ _
  · exact (State.reg_bump_ne _ _ _ hdeadline).trans (hcounted _ _)

omit ho in
theorem State.deadlineDue_of_closed (hc : f.isClosed sec = true) : s.deadlineDue g tag sec = s := by
  simp only [State.deadlineDue, hf, s.closeSection_of_closed hf hc, ite_self]

omit ho in
theorem State.deadlineDue_of_due (hsec : sec < s.sectionCount g) (hd : tag + f.deadlines.getD sec 0 ≤ s.now) :
    s.deadlineDue g tag sec = s.closeSection g tag sec true := by
  simp only [State.deadlineDue, hf, hsec, hd, and_self, if_true]

end

theorem exec_sectionDeadline (s : State) (g tag sec : Nat) :
    exec (.sectionDeadline g tag sec) s = .next ((s.deadlineDue g tag sec).oscDue).showHealth := rfl

/-- The word in which bit `n` alone is set, as the model writes it. -/
theorem getLsbD_natCast_one_shiftLeft {w : Nat} (n i : Nat) :
    ((1 <<< n : Nat) : BitVec w).getLsbD i = (decide (i < w) && decide (n = i)) := by
  rw [BitVec.natCast_eq_ofNat, BitVec.getLsbD_ofNat, Nat.one_shiftLeft, Nat.testBit_two_pow]

theorem Furrow.isClosed_closedFurrow (s : State) (g tag : Nat) {sec : Nat} (b : Bool) (f h : Furrow) (hsec : sec < 64) :
    (s.closedFurrow g tag sec b f h).isClosed sec = true := by
  change (h.closed ||| ((1 <<< sec : Nat) : BitVec 64)).getLsbD sec = true
  simp [getLsbD_natCast_one_shiftLeft, hsec, -BitVec.natCast_eq_ofNat]

theorem Furrow.onDl_closedFurrow (s : State) (g tag : Nat) {sec : Nat} (f h : Furrow) (hsec : sec < 64) :
    (s.closedFurrow g tag sec true f h).onDl.getLsbD sec = true := by
  change (h.onDl ||| ((1 <<< sec : Nat) : BitVec 64)).getLsbD sec = true
  simp [getLsbD_natCast_one_shiftLeft, hsec, -BitVec.natCast_eq_ofNat]

/-- SECTION_DEADLINE closes an open section at the present instant; with the analyser off the row stays as the closure left it. -/
theorem exec_sectionDeadline_due (s : State) {g tag sec : Nat} {f : Furrow} (hf : s.furrow g tag = some f) (ho : f.isClosed sec = false)
    (hsec : sec < s.sectionCount g) (hd : tag + f.deadlines.getD sec 0 ≤ s.now) (h0 : s.flag Reg.OSC_CTRL 0 = false)
    (h1 : s.flag Reg.OSC_CTRL 1 = false) :
    exec (.sectionDeadline g tag sec) s = .next (s.closeSection g tag sec true).showHealth := by
  have hosc := s.reg_closeSection_osc hf ho true
  rw [exec_sectionDeadline, s.deadlineDue_of_due hf hsec hd,
    State.oscDue_off _ ((State.flag_congr hosc 0).trans h0) ((State.flag_congr hosc 1).trans h1)]

/-! ### A row retires (R117, R139) -/

section
variable (s : State) {g : Nat} {x : GroupState} {f : Furrow} (hx : s.group g = some x)
include hx

/-- ROW_RETIRE gives the oldest row its final form, hands it to those that read it whole, and frees its furrow (R117). -/
theorem exec_rowRetire_due (hf : x.furrows.head? = some f) (h : f.tag + f.hg ≤ s.now) :
    let u := ((s.fillRow g).oscDue).meterTemp g f.tag
    exec (.rowRetire g) s = .next (((((u.digestRow g ((u.furrow g f.tag).getD f)).captureRow g
      ((u.furrow g f.tag).getD f)).keepLatest ((u.furrow g f.tag).getD f) g).retireRow g).showHealth) := by
  intro u
  change execRowRetire g s = _
  simp only [execRowRetire, hx, Option.bind_some, hf, if_pos h]
  rfl

theorem exec_rowRetire_early (hf : x.furrows.head? = some f) (h : s.now < f.tag + f.hg) : exec (.rowRetire g) s = .next s.showHealth := by
  change execRowRetire g s = _
  simp only [execRowRetire, hx, Option.bind_some, hf, if_neg (Nat.not_le.mpr h)]
  rfl

/-- The oldest row is kept for its output frames, and the group's ring takes it where it has one (R87, R139). -/
def State.storeRow (s : State) (g : Nat) (h : Furrow) : State :=
  let s := s.keepRow g h
  if s.histOn g then (s.writeDram (s.entryAddr g h.idx) (s.rowImage g h)).writeEntryCrc g h.idx else s

omit hx in
theorem State.group_storeRow (h : Furrow) (k : Nat) : (s.storeRow g h).group k = s.group k := by
  unfold State.storeRow
  extract_lets
  split <;> rfl

omit hx in
theorem State.reg_storeRow (h : Furrow) (a : Nat) : (s.storeRow g h).reg a = s.reg a := by
  unfold State.storeRow
  extract_lets
  split <;> rfl

theorem State.group_setWridx (w : Nat) : (s.setWridx g w).group g = some { x with skipped := (passSkipped x.skipped w).2 } := by
  simp only [State.setWridx, hx]
  split <;> exact State.group_modGroup (s.setPair _ _ _) (show (s.setPair _ _ _).group g = some x from hx) _

theorem State.reg_setWridx (w : Nat) {a : Nat} (hlo : a ≠ Reg.ALN_RG_WRIDX_LO g) (hhi : a ≠ Reg.ALN_RG_WRIDX_HI g) :
    (s.setWridx g w).reg a = s.reg a := by
  simp only [State.setWridx, hx]
  split <;> exact s.reg_setPair_ne _ _ _ _ hlo hhi

/-- A group that has lost its oldest furrow. -/
def GroupState.retired (x : GroupState) : GroupState := { x with furrows := x.furrows.drop 1 }

/-- The furrow of the oldest row is freed, and the row is counted (R117). -/
def State.dropRow (s : State) (g : Nat) (h : Furrow) : State := ((s.storeRow g h).modGroup g GroupState.retired).bump (Reg.ALN_RG_CNT_ROWS g)

theorem State.group_dropRow (h : Furrow) : (s.dropRow g h).group g = some x.retired :=
  State.group_modGroup (s.storeRow g h) ((s.group_storeRow h g).trans hx) _

theorem State.retireRow_of_head (hf : x.furrows.head? = some f) :
    s.retireRow g = ((s.dropRow g f).setWridx g (f.idx + 1)).showFurrows := by
  simp only [State.retireRow, hx, Option.bind_some, hf]
  rfl

theorem State.group_retireRow (hf : x.furrows.head? = some f) :
    (s.retireRow g).group g = some { x.retired with skipped := (passSkipped x.skipped (f.idx + 1)).2 } := by
  rw [s.retireRow_of_head hx hf]
  exact State.group_setWridx _ (s.group_dropRow hx f) _

theorem State.reg_retireRow_rows (hf : x.furrows.head? = some f) :
    (s.retireRow g).reg (Reg.ALN_RG_CNT_ROWS g) = satWord ((s.reg (Reg.ALN_RG_CNT_ROWS g)).toNat + 1) := by
  have hshown (t : State) : t.showFurrows.reg (Reg.ALN_RG_CNT_ROWS g) = t.reg (Reg.ALN_RG_CNT_ROWS g) :=
    (State.reg_maxReg_ne _ _ _ _ (by simp only [Reg.ALN_FURROW_PEAK, Reg.ALN_RG_CNT_ROWS]; omega)).trans
      (State.reg_setReg_ne _ _ _ _ (by simp only [Reg.ALN_FURROW_USED, Reg.ALN_RG_CNT_ROWS]; omega))
  have hstored : ((s.storeRow g f).modGroup g GroupState.retired).reg (Reg.ALN_RG_CNT_ROWS g) = s.reg (Reg.ALN_RG_CNT_ROWS g) :=
    s.reg_storeRow f _
  rw [s.retireRow_of_head hx hf, hshown, State.reg_setWridx _ (s.group_dropRow hx f) _ (by simp) (by simp), State.dropRow,
    State.reg_bump_same, hstored]

end

/-! ### The Gleaner's intake (R133 to R136) -/

section
variable (s : State)

theorem State.intake_keepHolds (g tag : Nat) (vals : List (Nat × Slot)) : (s.keepHolds g tag vals).aln.intake = s.aln.intake := by
  refine foldl_keeps _ (fun t : State => t.aln.intake) (fun t v => ?_) _ s
  dsimp only
  split
  · split <;> rfl
  · rfl

theorem State.intake_logConflict (e : GleanEntry) : (s.logConflict e).aln.intake = s.aln.intake := by
  unfold State.logConflict
  extract_lets
  split
  · rfl
  · rw [State.log_aln]
    rfl

theorem State.intake_gleanCompare (e : GleanEntry) (old : Nat → Slot) : (s.gleanCompare e old).1.aln.intake = s.aln.intake := by
  unfold State.gleanCompare
  extract_lets _ _ _ counted
  have hcounted : counted.aln.intake = s.aln.intake := rfl
  dsimp only
  split
  · exact hcounted
  · exact (State.intake_logConflict _ e).trans hcounted

theorem State.intake_countRevision (e : GleanEntry) (rev : Half) : (s.countRevision e rev).aln.intake = s.aln.intake := by
  unfold State.countRevision
  extract_lets counted
  have hcounted : counted.aln.intake = s.aln.intake := by
    simp only [counted]
    split <;> rfl
  split
  · exact hcounted
  · exact hcounted

/-- A delivery written into a ring entry leaves the intake as it is (R135). -/
theorem State.intake_gleanRing (e : GleanEntry) (n : Nat) : (s.gleanRing e n).1.aln.intake = s.aln.intake := by
  have hwrites (t : State) (at_ : State → Nat → Nat) (l : List (Nat × Slot)) :
      (l.foldl (fun (t : State) v => t.writeDram (at_ t v.1) (slotBytes v.2)) t).aln = t.aln :=
    foldl_keeps _ State.aln (fun u v => u.writeDram_aln _ _) l t
  unfold State.gleanRing
  extract_lets _ slotAt
  have hcompared := s.intake_gleanCompare e (fun c => slotOf (s.readDram (slotAt s c) 16))
  generalize s.gleanCompare e (fun c => slotOf (s.readDram (slotAt s c) 16)) = p at hcompared ⊢
  dsimp -zeta only at hcompared ⊢
  extract_lets _ _ _ _ _ _ written headed sealed _
  have hsealed : sealed.aln.intake = s.aln.intake :=
    (congrArg AlnState.intake (hwrites _ slotAt p.2)).trans ((State.intake_keepHolds _ _ _ _).trans hcompared)
  split
  · exact hcompared
  · exact (congrArg AlnState.intake (State.pmcGlobal_aln _ _ _)).trans ((State.intake_countRevision (sealed.writeEntryCrc e.rg n) _ _).trans hsealed)

/-- The Gleaner takes the head of its intake; what it writes leaves the rest waiting (R134). -/
theorem State.intake_gleanHead {e : GleanEntry} {r : List GleanEntry} (h : s.aln.intake = e :: r) : s.gleanHead.1.aln.intake = r := by
  unfold State.gleanHead
  rw [h]
  dsimp -zeta only
  extract_lets _ taken _
  have htaken : taken.aln.intake = r := rfl
  clear_value taken
  split
  next f _ =>
    have hcompared := (taken.intake_gleanCompare e (fun c => (kvGet f.slots c).getD missingSlot)).trans htaken
    split
    · exact hcompared
    · exact (congrArg AlnState.intake (State.pmcGlobal_aln _ _ _)).trans ((State.intake_countRevision _ _ _).trans
        ((State.intake_keepHolds _ e.rg e.tag _).trans hcompared))
  · split
    · exact (taken.intake_gleanRing e _).trans htaken
    · exact htaken
  · exact htaken

theorem State.intake_tellRevision (v : Revision) : (s.tellRevision v).aln.intake = s.aln.intake := by
  have hhost : (s.hostNotice v).aln.intake = s.aln.intake := by
    unfold State.hostNotice
    extract_lets
    split
    · split
      next t h =>
        have ht : t.aln.intake = s.aln.intake := congrArg AlnState.intake (OnlyLoses.qOffer h).aln
        exact ht
      · rw [State.log_aln]
        rfl
    · rfl
  have hosc (t : State) (lost : Bool) : (t.oscNotice v lost).aln = t.aln := by
    unfold State.oscNotice
    extract_lets
    split
    · refine foldl_keeps _ State.aln (fun u g => ?_) _ t
      split <;> rfl
    · rfl
  have hcapture (t : State) (g tag : Nat) : (t.captureRevision g tag).aln = t.aln := by
    unfold State.captureRevision
    split
    · rfl
    · refine foldl_keeps _ State.aln (fun u x => ?_) _ t
      dsimp only
      split <;> rfl
  exact (congrArg AlnState.intake ((hcapture _ _ _).trans (hosc _ _))).trans hhost

theorem intake_exec_gleanerWrite {e : GleanEntry} {r : List GleanEntry} (h : s.aln.intake = e :: r) (h0 : s.flag Reg.OSC_CTRL 0 = false)
    (h1 : s.flag Reg.OSC_CTRL 1 = false) : ∃ t, exec .gleanerWrite s = .next t ∧ t.aln.intake = r := by
  refine ⟨_, rfl, ?_⟩
  rw [State.showHealth_aln, s.oscDue_off h0 h1]
  have hhead := s.intake_gleanHead h
  dsimp only
  split
  · exact (State.intake_tellRevision _ _).trans hhead
  · exact hhead

end

/-! ### ALN_COMMIT (R142) -/

section
variable (s : State)

theorem State.reg_commitRange_ne {a lo n : Nat} (h : ¬(lo ≤ a ∧ a < lo + n)) : (s.commitRange lo n).reg a = s.reg a := by
  refine foldl_keeps_mem _ (fun t : State => t.reg a) _ (fun t p hp => ?_) s
  have hin : lo ≤ p.1 ∧ p.1 < lo + n := by simpa using (List.mem_filter.mp hp).2
  rw [State.reg_commitReg, if_neg (by rintro rfl; exact h hin)]

theorem State.reg_showLearning_commit : s.showLearning.reg Reg.ALN_COMMIT = s.reg Reg.ALN_COMMIT := by
  have hstatus : Reg.ALN_COMMIT ≠ Reg.ALN_STATUS := by decide
  refine foldl_keeps _ (fun t : State => t.reg Reg.ALN_COMMIT) (fun t g => ?_) _ s
  dsimp only
  split
  · refine (State.reg_setFlag_ne _ _ _ _ _ hstatus).trans (foldl_keeps _ (fun u : State => u.reg Reg.ALN_COMMIT) (fun u sec => ?_) _ t)
    exact u.reg_setFlag_ne _ _ _ _ (by simp only [Reg.ALN_COMMIT, Reg.ALN_SEC_DEADLINE]; omega)
  · exact State.reg_setFlag_ne _ _ _ _ _ hstatus

/-- A group's commit, made or refused, no longer waits (R142, R143). -/
theorem State.flag_commitAln {g : Nat} (hg : g < 32) : (s.commitAln g).flag Reg.ALN_COMMIT g = false := by
  have hcleared : (s.setFlag Reg.ALN_COMMIT g false).flag Reg.ALN_COMMIT g = false := s.flag_setFlag_same _ _ _ hg
  unfold State.commitAln
  extract_lets cleared _ _ committed shown
  have hcommitted : shown.reg Reg.ALN_COMMIT = cleared.reg Reg.ALN_COMMIT :=
    (State.reg_setReg_ne _ _ _ _ (by simp only [Reg.ALN_COMMIT, Reg.ALN_RG_HEADLAND]; omega)).trans
      (cleared.reg_commitRange_ne (by simp only [Reg.ALN_COMMIT, Reg.ALN_RG_CFG]; omega))
  have hdeadlines (was : List Bool) (l : List Nat) : (l.foldl (fun (t : State) i => t.resetDeadline g i (was.getD i false)) shown).reg
      Reg.ALN_COMMIT = shown.reg Reg.ALN_COMMIT :=
    foldl_keeps _ (fun t : State => t.reg Reg.ALN_COMMIT) (fun t i => t.reg_setField_ne _ _ _ _ _ (by
      simp only [Reg.ALN_COMMIT, Reg.ALN_SEC_DEADLINE]; omega)) l shown
  split
  next h => simpa using h
  · split
    · refine (State.flag_congr (t := State.log _ _ _ _) ?_ g).trans hcleared
      exact (State.reg_log _ _ _ _ _ (by decide) (by decide)).trans ((State.reg_setField_ne _ _ _ _ _ _ (by decide)).trans
        (State.reg_setFlag_ne _ _ _ _ _ (by decide)))
    · refine (State.flag_congr (t := State.showLearning _) ?_ g).trans hcleared
      exact (State.reg_showLearning_commit _).trans ((hdeadlines _ _).trans hcommitted)

/-- What ALN_COMMIT does for one group. -/
def State.askAln (s : State) (g : Nat) : State :=
  if ((s.setFlag Reg.ALN_COMMIT g true).group g).isSome then s.setFlag Reg.ALN_COMMIT g true else (s.setFlag Reg.ALN_COMMIT g true).commitAln g

theorem exec_alnCommit (mask : Word) : exec (.alnCommit mask) s
    = .next ((List.range 4).foldl (fun (s : State) g => if mask.getLsbD g then s.askAln g else s) s).showHealth := rfl

theorem State.askAln_of_running {g : Nat} (h : (s.group g).isSome = true) : s.askAln g = s.setFlag Reg.ALN_COMMIT g true := if_pos h

theorem State.flag_foldl_askAln (mask : Word) (l : List Nat) {g : Nat} (hg : g < 32) (h : ∀ k ∈ l, (s.group k).isSome = true) :
    (l.foldl (fun (s : State) k => if mask.getLsbD k then s.askAln k else s) s).flag Reg.ALN_COMMIT g
      = (s.flag Reg.ALN_COMMIT g || (l.contains g && mask.getLsbD g)) := by
  induction l generalizing s with
  | nil => simp
  | cons k r ih =>
    have hr : ∀ j ∈ r, (s.group j).isSome = true := fun j hj => h j (List.mem_cons_of_mem _ hj)
    rw [List.foldl_cons]
    split
    next hm =>
      rw [s.askAln_of_running (h k List.mem_cons_self), ih (s.setFlag Reg.ALN_COMMIT k true) hr]
      by_cases hk : g = k
      · subst k
        simp [hg, hm]
      · simp [State.flag_setFlag_ne _ _ _ _ _ hg hk, hk]
    next hm =>
      rw [ih s hr]
      by_cases hk : g = k
      · subst k
        simp [Bool.eq_false_of_not_eq_true hm]
      · simp [hk]

theorem exec_alnCommit_idle {g : Nat} (hg : g < 4) (h : s.group g = none) :
    exec (.alnCommit (1 <<< g)) s = .next ((s.setFlag Reg.ALN_COMMIT g true).commitAln g).showHealth := by
  have hbits (k : Nat) : ((1 <<< g : Nat) : Word).getLsbD k = decide (g = k) := by
    rw [getLsbD_natCast_one_shiftLeft]
    simp only [Bool.and_eq_right_iff_imp, decide_eq_true_eq]
    omega
  have hask : s.askAln g = (s.setFlag Reg.ALN_COMMIT g true).commitAln g := if_neg (by
    rw [show (s.setFlag Reg.ALN_COMMIT g true).group g = none from h]
    decide)
  have hone (n : Nat) : (List.range n).foldl (fun (t : State) k => if ((1 <<< g : Nat) : Word).getLsbD k then t.askAln k else t) s
      = if g < n then s.askAln g else s := by
    simp only [hbits, decide_eq_true_eq]
    induction n with
    | zero => rfl
    | succ n ih =>
      rw [List.range_succ, List.foldl_append, ih, List.foldl_cons, List.foldl_nil]
      by_cases hn : g = n
      · subst n
        simp
      · simp only [if_neg hn]
        congr 1
        exact propext (by omega)
  rw [exec_alnCommit, hone, if_pos hg, hask]

end

/-! ### Error reports leave the graphs alone -/

section
variable (s : State)

theorem State.escalate_dfs (e : ErrorRec) (g : Nat) : (s.escalate e g).dfs = s.dfs := State.log_dfs s _ _ _

theorem State.gradeError_dfs (e : ErrorRec) : (s.gradeError e).2.dfs = s.dfs := by
  have he2 : (s.gradeE2 e).2.dfs = s.dfs := by
    unfold State.gradeE2
    split
    · dsimp only
      split
      · exact State.escalate_dfs _ _ _
      · rfl
    · rfl
  have he3 (t : State) (x : ErrorRec) : (t.gradeE3 x).2.dfs = t.dfs := by
    unfold State.gradeE3
    dsimp only
    split
    · split
      · rfl
      · split
        · exact State.escalate_dfs _ _ _
        · rfl
    · rfl
  exact (he3 _ _).trans he2

theorem State.beginE4_dfs : s.beginE4.dfs = s.dfs := by
  unfold State.beginE4
  split
  · rfl
  · extract_lets
    split
    · exact State.log_dfs _ _ _ _
    · rfl

theorem State.preempt_dfs (x : StackEntry) : (s.preempt x).dfs = s.dfs := by
  unfold State.preempt
  split <;> rfl

theorem State.stackError_dfs (x : StackEntry) : (s.stackError x).dfs = s.dfs := by
  unfold State.stackError
  split
  · exact s.preempt_dfs x
  · split
    · split
      · exact s.preempt_dfs x
      · rfl
    · split
      · extract_lets
        split
        · rfl
        · exact State.log_dfs _ _ _ _
      · exact s.preempt_dfs x

theorem State.blockError_dfs (grade block code : Nat) : (s.blockError grade block code).dfs = s.dfs := by
  have hcontain (t : State) (e : ErrorRec) : (t.contain e).dfs = t.dfs := by
    unfold State.contain
    split
    · exact t.beginE4_dfs
    · rfl
  have hhold (t : State) (e : ErrorRec) : (t.holdError s e).dfs = t.dfs := by
    unfold State.holdError State.noticeHealth
    split
    · exact State.stackError_dfs _ _
    · exact State.stackError_dfs _ _
  rw [State.blockError, State.raiseError_eq]
  exact (hhold _ _).trans ((hcontain _ _).trans (State.gradeError_dfs _ _))

theorem State.insts_lc0Exhausted (c res : Nat) :
    (s.lc0Exhausted c res).dfs.insts = s.dfs.insts ∧ (s.lc0Exhausted c res).dfs.graphs = s.dfs.graphs := by
  unfold State.lc0Exhausted
  split
  · exact ⟨rfl, rfl⟩
  · extract_lets
    rw [State.blockError_dfs, State.log_dfs]
    exact ⟨rfl, rfl⟩

end

/-! ### Ready lists (R246, R248) -/

theorem mem_insertRef {a r : ReadyRef} {l : List ReadyRef} : r ∈ insertRef a l ↔ r = a ∨ r ∈ l := by
  induction l with
  | nil => exact List.mem_singleton.trans (or_iff_left List.not_mem_nil).symm
  | cons b q ih =>
    unfold insertRef
    split
    · exact List.mem_cons
    · rw [List.mem_cons, ih, List.mem_cons]
      exact or_left_comm

theorem mem_foldl_insertRef {r : ReadyRef} (l acc : List ReadyRef) : r ∈ l.foldl (fun a x => insertRef x a) acc ↔ r ∈ l ∨ r ∈ acc := by
  induction l generalizing acc with
  | nil => simp
  | cons b q ih =>
    rw [List.foldl_cons, ih, mem_insertRef, List.mem_cons]
    tauto

/-- The place of an operator in the lists of a cluster. -/
def State.refOf (s : State) (i : GraphInst) (o : OpInst) : ReadyRef := ⟨s.instLc i, i.key, o.readyTick, i.graph, o.node, i.id⟩

theorem State.mem_refs {s : State} {c : Nat} {p : GraphInst → OpInst → Bool} {r : ReadyRef} :
    r ∈ s.refs c p ↔ ∃ i ∈ s.dfs.insts, i.cluster = c ∧ ∃ o ∈ i.ops, p i o = true ∧ s.refOf i o = r := by
  simp only [State.refs, mem_foldl_insertRef, List.not_mem_nil, or_false, List.mem_flatten, List.mem_map, List.mem_filter, beq_iff_eq]
  constructor
  · rintro ⟨_, ⟨i, ⟨hi, hc⟩, rfl⟩, hr⟩
    obtain ⟨o, hop, rfl⟩ := List.mem_map.mp hr
    obtain ⟨ho, hp⟩ := List.mem_filter.mp hop
    exact ⟨i, hi, hc, o, ho, hp, rfl⟩
  · rintro ⟨i, hi, hc, o, ho, hp, rfl⟩
    exact ⟨_, ⟨i, ⟨hi, hc⟩, rfl⟩, List.mem_map.mpr ⟨o, List.mem_filter.mpr ⟨ho, hp⟩, rfl⟩⟩

/-- An operator waits to join the ready list of its cluster: it has its inputs, and its graph's state is not being copied. -/
def waitsForList (i : GraphInst) (o : OpInst) : Bool := o.phase == .readyPending && !i.copying

theorem waitsForList_of_ready (i : GraphInst) {o : OpInst} (h : o.phase = .ready) : waitsForList i o = false := by
  rw [waitsForList, h]
  rfl

/-- An instance with its operators changed. -/
def GraphInst.mapOps (i : GraphInst) (f : OpInst → OpInst) : GraphInst := { i with ops := i.ops.map f }

/-- From one state to another, operators may have become ready; the instances and graphs are otherwise the same. -/
def JoinLists (s t : State) : Prop :=
  t.dfs.graphs = s.dfs.graphs ∧ ∃ f : GraphInst → OpInst → OpInst, (∀ i o, f i o = o ∨ (f i o).phase = .ready)
    ∧ t.dfs.insts = s.dfs.insts.map (fun i => i.mapOps (f i))

namespace JoinLists

variable {s t u : State}

theorem of_same (hi : t.dfs.insts = s.dfs.insts) (hg : t.dfs.graphs = s.dfs.graphs) : JoinLists s t := by
  refine ⟨hg, fun _ o => o, fun _ _ => .inl rfl, ?_⟩
  simp [hi, GraphInst.mapOps]

theorem refl (s : State) : JoinLists s s := of_same rfl rfl

theorem trans (h : JoinLists s t) (k : JoinLists t u) : JoinLists s u := by
  obtain ⟨hgraphs, f, hf, hinsts⟩ := h
  obtain ⟨kgraphs, k, hk, kinsts⟩ := k
  refine ⟨kgraphs.trans hgraphs, fun i o => k (i.mapOps (f i)) (f i o), fun i o => ?_, ?_⟩
  · obtain hkept | hready := hk (i.mapOps (f i)) (f i o)
    · exact (hf i o).imp hkept.trans fun h => (congrArg OpInst.phase hkept).trans h
    · exact .inr hready
  · rw [kinsts, hinsts, List.map_map]
    simp [Function.comp_def, GraphInst.mapOps]

theorem foldl {β : Type} (f : State → β → State) (h : ∀ s b, JoinLists s (f s b)) (l : List β) (s : State) : JoinLists s (l.foldl f s) := by
  induction l generalizing s with
  | nil => exact .refl s
  | cons b r ih => exact (h s b).trans (ih _)

theorem instLc (h : JoinLists s t) (i : GraphInst) : t.instLc i = s.instLc i := by
  rw [State.instLc, State.instLc, State.graph, State.graph, h.1]

/-- Ready lists only grow. -/
theorem readyCount_le (h : JoinLists s t) (c k : Nat) : s.readyCount c k ≤ t.readyCount c k := by
  have hlc := h.instLc
  obtain ⟨_, f, hf, hinsts⟩ := h
  have hops (i : GraphInst) :
      (i.ops.filter (fun o => o.phase == .ready)).length ≤ ((i.mapOps (f i)).ops.filter (fun o => o.phase == .ready)).length := by
    rw [← List.countP_eq_length_filter, ← List.countP_eq_length_filter, GraphInst.mapOps, List.countP_map]
    refine List.countP_mono_left fun o _ ho => ?_
    obtain hkept | hready := hf i o
    · rwa [Function.comp_apply, hkept]
    · rw [Function.comp_apply, hready]
      rfl
  rw [State.readyCount, State.readyCount, hinsts, List.foldl_map]
  refine List.foldl_rel (Nat.le_refl 0) fun i _ n m hnm => ?_
  rw [show t.instLc (i.mapOps (f i)) = s.instLc i from hlc i]
  change (if (decide (i.cluster = c) && s.instLc i == k) = true then _ else _) ≤ if (decide (i.cluster = c) && s.instLc i == k) = true then _ else _
  split
  · exact Nat.add_le_add hnm (hops i)
  · exact hnm

/-- A list that has room had room before. -/
theorem readyRoom (h : JoinLists s t) {c k : Nat} (hr : t.readyRoom c k = true) : s.readyRoom c k = true := by
  have h0 := h.readyCount_le c 0
  have h1 := h.readyCount_le c 1
  have h2 := h.readyCount_le c 2
  have h3 := h.readyCount_le c 3
  simp only [State.readyRoom, Bool.or_eq_true, Bool.and_eq_true, beq_iff_eq, decide_eq_true_eq] at hr ⊢
  omega

theorem no_room (h : JoinLists s t) {c k : Nat} (hs : s.readyRoom c k = false) : t.readyRoom c k = false :=
  Bool.eq_false_iff.mpr fun ht => Bool.eq_false_iff.mp hs (h.readyRoom ht)

/-- An operator that waits was waiting before, in the same place. -/
theorem mem_refs (h : JoinLists s t) {c : Nat} {r : ReadyRef} (hr : r ∈ t.refs c waitsForList) : r ∈ s.refs c waitsForList := by
  have hlc := h.instLc
  obtain ⟨_, f, hf, hinsts⟩ := h
  obtain ⟨j, hj, hc, o', ho', hw, rfl⟩ := State.mem_refs.mp hr
  rw [hinsts] at hj
  obtain ⟨i, hi, rfl⟩ := List.mem_map.mp hj
  obtain ⟨o, ho, rfl⟩ := List.mem_map.mp ho'
  obtain hkept | hready := hf i o
  · rw [hkept] at hw
    refine State.mem_refs.mpr ⟨i, hi, hc, o, ho, hw, ?_⟩
    rw [hkept]
    exact congrArg (fun lc => (⟨lc, i.key, o.readyTick, i.graph, o.node, i.id⟩ : ReadyRef)) (hlc i).symm
  · exact absurd hw (Bool.eq_false_iff.mp (waitsForList_of_ready _ hready))

end JoinLists

/-! ### RELEASE_TOKEN_ADMIT (R248) -/

/-- A waiting operator joins its list. -/
def State.joinList (s : State) (r : ReadyRef) : State :=
  s.modInst r.inst (fun i => i.modOp r.node (fun o => { o with phase := .ready, readyTick := s.elapsed }))

/-- What a waiting operator that joins its list makes of an operator of an instance. -/
def joinOp (r : ReadyRef) (t : Nat) (i : GraphInst) (o : OpInst) : OpInst :=
  if i.id = r.inst ∧ o.node = r.node then { o with phase := .ready, readyTick := t } else o

theorem joinOp_node (r : ReadyRef) (t : Nat) (i : GraphInst) (o : OpInst) : (joinOp r t i o).node = o.node := by
  unfold joinOp
  split <;> rfl

theorem joinOp_of_place {r : ReadyRef} {i : GraphInst} {o : OpInst} (t : Nat) (h : i.id = r.inst ∧ o.node = r.node) :
    (joinOp r t i o).phase = .ready := by
  rw [joinOp, if_pos h]

theorem State.insts_joinList (s : State) (r : ReadyRef) :
    (s.joinList r).dfs.insts = s.dfs.insts.map (fun i => i.mapOps (joinOp r s.elapsed i)) := by
  refine List.map_congr_left fun i _ => ?_
  by_cases h : i.id = r.inst
  · have hops : joinOp r s.elapsed i = fun o => if o.node = r.node then { o with phase := .ready, readyTick := s.elapsed } else o := by
      simp only [funext_iff, joinOp, h, true_and, implies_true]
    rw [if_pos h, hops]
    rfl
  · have hops : joinOp r s.elapsed i = id := funext fun o => if_neg fun hp => h hp.1
    rw [if_neg h, hops, GraphInst.mapOps, List.map_id]

/-- A waiting operator joins its list where that has room; a full list of LC0 is told (R248, R260). -/
def State.tryJoin (s : State) (c : Nat) (r : ReadyRef) : State :=
  if s.readyRoom c r.lc then s.joinList r else if r.lc = 0 then s.lc0Exhausted c 2 else s

/-- In a cluster, no operator waits whose list has room. -/
def State.Admitted (s : State) (c : Nat) : Prop := ∀ r ∈ s.refs c waitsForList, s.readyRoom c r.lc = false

section
variable (s : State)

theorem State.promote_all (c : Nat) : s.promote c true = (s.refs c waitsForList).foldl (fun s r => s.tryJoin c r) s := by
  have hall : (fun (i : GraphInst) (o : OpInst) => o.phase == .readyPending && !i.copying && (true || !s.isSource i o)) = waitsForList := by
    funext i o
    exact Bool.and_true _
  rw [State.promote, hall]
  rfl

theorem JoinLists.joinList (r : ReadyRef) : JoinLists s (s.joinList r) := by
  refine ⟨rfl, joinOp r s.elapsed, fun i o => ?_, s.insts_joinList r⟩
  by_cases h : i.id = r.inst ∧ o.node = r.node
  · exact .inr (joinOp_of_place _ h)
  · exact .inl (if_neg h)

theorem JoinLists.tryJoin (c : Nat) (r : ReadyRef) : JoinLists s (s.tryJoin c r) := by
  unfold State.tryJoin
  split
  · exact joinList s r
  · split
    · exact of_same (s.insts_lc0Exhausted c 2).1 (s.insts_lc0Exhausted c 2).2
    · exact refl s

theorem JoinLists.promote (c : Nat) : JoinLists s (s.promote c true) := by
  rw [s.promote_all]
  exact foldl _ (fun t r => tryJoin t c r) _ s

theorem JoinLists.admitCluster (c : Nat) : JoinLists s ((s.promote c true).showCluster c) := (promote s c).trans (of_same rfl rfl)

/-- An operator that has joined its list waits no more. -/
theorem State.not_mem_refs_joinList (c : Nat) (r : ReadyRef) : r ∉ (s.joinList r).refs c waitsForList := by
  intro hr
  obtain ⟨j, hj, _, o', ho', hw, hplace⟩ := State.mem_refs.mp hr
  rw [s.insts_joinList] at hj
  obtain ⟨i, _, rfl⟩ := List.mem_map.mp hj
  obtain ⟨o, _, rfl⟩ := List.mem_map.mp ho'
  have hid : i.id = r.inst := congrArg ReadyRef.inst hplace
  have hnode : o.node = r.node := (joinOp_node _ _ _ _).symm.trans (congrArg ReadyRef.node hplace)
  exact absurd hw (Bool.eq_false_iff.mp (waitsForList_of_ready _ (joinOp_of_place _ ⟨hid, hnode⟩)))

/-- Once an operator has had its turn, it waits only if its list has no room. -/
theorem State.readyRoom_of_tryJoin {c : Nat} {r : ReadyRef} (h : r ∈ (s.tryJoin c r).refs c waitsForList) :
    (s.tryJoin c r).readyRoom c r.lc = false := by
  cases hroom : s.readyRoom c r.lc with
  | true =>
    rw [State.tryJoin, if_pos hroom] at h
    exact absurd h (s.not_mem_refs_joinList c r)
  | false => exact (JoinLists.tryJoin s c r).no_room hroom

theorem State.readyRoom_of_turns {c : Nat} {r : ReadyRef} (l : List ReadyRef) (hl : r ∈ l) :
    r ∈ (l.foldl (fun (s : State) x => s.tryJoin c x) s).refs c waitsForList →
      (l.foldl (fun (s : State) x => s.tryJoin c x) s).readyRoom c r.lc = false := by
  induction l generalizing s with
  | nil => exact absurd hl List.not_mem_nil
  | cons x q ih =>
    intro h
    obtain rfl | hq := List.mem_cons.mp hl
    · have hlater : JoinLists (s.tryJoin c r) (q.foldl (fun (s : State) x => s.tryJoin c x) (s.tryJoin c r)) :=
        .foldl _ (fun t x => .tryJoin t c x) q _
      exact hlater.no_room (s.readyRoom_of_tryJoin (hlater.mem_refs h))
    · exact ih (s.tryJoin c x) hq h

theorem State.Admitted.joinLists {s t : State} {c : Nat} (h : s.Admitted c) (k : JoinLists s t) : t.Admitted c :=
  fun r hr => k.no_room (h r (k.mem_refs hr))

theorem State.admitted_promote (c : Nat) : (s.promote c true).Admitted c := by
  intro r hr
  have hl := (JoinLists.promote s c).mem_refs hr
  rw [s.promote_all] at hr ⊢
  exact s.readyRoom_of_turns _ hl hr

theorem State.admitted_foldl {c : Nat} (l : List Nat) (hc : c ∈ l) :
    (l.foldl (fun (s : State) c => (s.promote c true).showCluster c) s).Admitted c := by
  induction l generalizing s with
  | nil => exact absurd hc List.not_mem_nil
  | cons d q ih =>
    obtain rfl | hq := List.mem_cons.mp hc
    · exact ((s.admitted_promote c).joinLists (.of_same rfl rfl)).joinLists (.foldl _ JoinLists.admitCluster q ((s.promote c true).showCluster c))
    · exact ih _ hq

/-- The state that RELEASE_TOKEN_ADMIT answers. -/
def State.admitAll (s : State) : State := ((List.range 8).foldl (fun (s : State) c => (s.promote c true).showCluster c) s).showHealth

theorem State.admitted_admitAll {c : Nat} (hc : c < 8) : s.admitAll.Admitted c := by
  have h := s.admitted_foldl _ (List.mem_range.mpr hc)
  exact h.joinLists (.of_same (congrArg DfsState.insts (State.showHealth_dfs _)) (congrArg DfsState.graphs (State.showHealth_dfs _)))

theorem exec_releaseTokenAdmit : exec .releaseTokenAdmit s = .next s.admitAll := rfl

end

theorem State.group_showHealth (s : State) (g : Nat) : s.showHealth.group g = s.group g := rfl

/-- Settles O23: a closure keeps the analyser's switches, a retired group keeps its other rows, and ready lists only grow while tokens join them. -/
theorem rowsAndSections : Obligations.RowsAndSections := by
  unfold Obligations.RowsAndSections
  refine ⟨fun s rg tag sec f hf ho hlt hsec hd h0 h1 => ?_, fun s rg tag sec => exec_sectionDeadline s rg tag sec,
    fun s rg tag sec f hf hc => s.deadlineDue_of_closed hf hc, fun s rg x y f k hrg hx hf hd => ?_,
    fun s rg x f hx hf h => exec_rowRetire_early s hx hf h, fun s e r h h0 h1 => intake_exec_gleanerWrite s h h0 h1,
    fun s mask hrun => ?_, fun s g hg hx => ?_, fun s => ?_⟩
  · refine ⟨_, s.closedFurrow rg tag sec true f f, exec_sectionDeadline_due s hf ho hsec hd h0 h1, s.furrow_closeSection hf ho true,
      Furrow.isClosed_closedFurrow s rg tag true f f hlt, Furrow.onDl_closedFurrow s rg tag f f hlt, kvGet_kvPut_same _ _ _, rfl⟩
  · intro u v hy hk
    have hexec : exec (.rowRetire rg) s = .next (v.retireRow rg).showHealth := exec_rowRetire_due s hx hf hd
    clear_value v
    clear u
    refine ⟨_, _, hexec, rfl, (State.group_showHealth _ _).trans (v.group_retireRow hy hk), rfl, ?_⟩
    rw [State.reg_showHealth_of_block _ (by simp only [Reg.ALN_RG_CNT_ROWS]; omega)]
    exact v.reg_retireRow_rows hy hk
  · refine ⟨_, exec_alnCommit s mask, fun g hg => ?_⟩
    rw [State.flag_showHealth_ne _ _ _ (by decide), s.flag_foldl_askAln mask _ (by omega) (fun k hk => hrun k (List.mem_range.mp hk)),
      List.contains_iff_mem.mpr (List.mem_range.mpr hg), Bool.true_and]
  · refine ⟨_, exec_alnCommit_idle s hg hx, ?_⟩
    rw [State.flag_showHealth_ne _ _ _ (by decide)]
    exact State.flag_commitAln _ (by omega)
  · exact ⟨_, exec_releaseTokenAdmit s, rfl, fun c r hc hr => s.admitted_admitAll hc r hr⟩

end Sys2Proof.Machine
end

section
/-!
PROOFS of the statement of family 06_waveforms_and_phasors: what follows a sample leaves the local inputs alone, and the chain's commands.
-/
namespace Sys2Proof.Machine

/-! ### What leaves the waveform chain alone -/

section
variable (s : State)

@[simp] theorem State.hgwSend_wav (dst : Nat) (c : HgwClass) (b : HgwBody) : (s.hgwSend dst c b).wav = s.wav := by
  obtain ⟨_, _, _, _, h⟩ := s.hgwSend_only dst c b
  rw [h]

@[simp] theorem State.pmcGlobal_wav (code n : Nat) : (s.pmcGlobal code n).wav = s.wav := by
  have hadd (t : State) (sel : Nat) : (t.pmcAdd sel n).wav = t.wav := by
    unfold State.pmcAdd
    extract_lets
    split <;> rfl
  unfold State.pmcGlobal
  split
  · rfl
  · refine foldl_keeps _ State.wav (fun t g => ?_) _ s
    extract_lets
    split
    · exact hadd t _
    · rfl

@[simp] theorem State.commitRange_wav (lo n : Nat) : (s.commitRange lo n).wav = s.wav := by
  unfold State.commitRange
  exact foldl_keeps _ State.wav (fun t _ => t.commitReg_wav _) _ s

@[simp] theorem State.modFurrow_wav (g tag : Nat) (f : Furrow → Furrow) : (s.modFurrow g tag f).wav = s.wav := rfl
@[simp] theorem State.triggerGraphs_wav (tr : Trigger) (key : Nat) (row : Option (Nat × Nat)) (c : Option Nat) :
    (s.triggerGraphs tr key row c).wav = s.wav := rfl

/-! #### Sections and rows (R119, R120, R133) -/

@[simp] theorem State.forwardSection_wav (g tag sec : Nat) : (s.forwardSection g tag sec).wav = s.wav := by
  unfold State.forwardSection
  split
  · exact foldl_keeps _ State.wav (fun t d => by simp) _ s
  · rfl

@[simp] theorem State.closeSection_wav (g tag sec : Nat) (b : Bool) : (s.closeSection g tag sec b).wav = s.wav := by
  unfold State.closeSection
  split
  · rfl
  · split
    · rfl
    · cases b <;> simp

@[simp] theorem State.tryComplete_wav (g tag sec : Nat) : (s.tryComplete g tag sec).wav = s.wav := by
  unfold State.tryComplete
  split
  · split
    · exact s.closeSection_wav _ _ _ _
    · rfl
  · rfl

@[simp] theorem State.keepHolds_wav (g tag : Nat) (vals : List (Nat × Slot)) : (s.keepHolds g tag vals).wav = s.wav := by
  refine foldl_keeps _ State.wav (fun t v => ?_) _ s
  dsimp only
  split
  · split <;> rfl
  · rfl

@[simp] theorem State.glean_wav (n : Nat) (e : GleanEntry) : (s.glean n e).wav = s.wav := by
  unfold State.glean
  extract_lets _ _ _ counted full
  have hfull : full.wav = s.wav := rfl
  split
  · split
    · rfl
    · split
      · exact hfull
      · rw [State.log_wav, hfull]
  · rfl

@[simp] theorem State.deliver_wav (g stream stamp : Nat) (p : Nat × Nat) (vals : List (Nat × Slot)) :
    (s.deliver g stream stamp p vals).wav = s.wav := by
  unfold State.deliver
  split
  · rfl
  · extract_lets
    split
    · rfl
    · split
      · rfl
      · split
        next f _ =>
          extract_lets now rest written secs noted counted completed
          have hcompleted : completed.wav = counted.wav := foldl_keeps _ State.wav (fun t sec => t.tryComplete_wav g _ sec) _ counted
          have hcounted : counted.wav = s.wav := State.keepHolds_wav _ _ _ _
          split
          · exact hcompleted.trans hcounted
          · rw [State.glean_wav, hcompleted, hcounted]
        · exact State.glean_wav _ _ _

@[simp] theorem State.writeDerived_wav (g tag chan : Nat) (a b : Word) (q : Half) (closure : Option Nat) :
    (s.writeDerived g tag chan a b q closure).wav = s.wav := by
  unfold State.writeDerived State.writeWithTq
  extract_lets _ counted
  split
  · rfl
  · split
    · split
      · exact State.glean_wav counted _ _
      · rfl
    · rfl

/-! #### Energy metering (R171 to R182) -/

@[simp] theorem State.modMeter_wav (m : Nat) (f : MeterPoint → MeterPoint) : (s.modMeter m f).wav = s.wav := rfl
@[simp] theorem State.modPulse_wav (k : Nat) (f : PulseState → PulseState) : (s.modPulse k f).wav = s.wav := rfl

theorem State.feedPulse_wav (k inc : Nat) : (s.feedPulse k inc).wav = s.wav := by
  unfold State.feedPulse
  extract_lets _ _ _ _ _ _ _ fed shown lost
  have hshown : shown.wav = s.wav := (fed.setReg_wav _ _).trans (s.modPulse_wav k _)
  have hlost : lost.wav = s.wav := (shown.bumpBy_wav _ _).trans hshown
  split
  · rfl
  · split
    · exact hshown
    · split
      · exact hlost
      · rw [State.log_wav, State.modPulse_wav, hlost]

theorem State.addEnergy_wav (m e idx inc : Nat) : (s.addEnergy m e idx inc).wav = s.wav := by
  unfold State.addEnergy
  split
  · extract_lets _ _ _ added told
    have htold : told.wav = s.wav := by
      unfold told
      split
      · rfl
      · exact added.log_wav _ _ _
    refine (foldl_keeps _ State.wav (fun t k => ?_) _ told).trans htold
    extract_lets
    split
    · exact t.feedPulse_wav k inc
    · rfl
  · rfl

theorem State.accumulate_wav (m e : Nat) (p q : Dy) : (s.accumulate m e p q).wav = s.wav := by
  unfold State.accumulate
  generalize contributions p q = l
  exact foldl_keeps _ State.wav (fun t _ => t.addEnergy_wav m e _ _) l s

theorem State.meterSample_wav (m n : Nat) : (s.meterSample m n).wav = s.wav := by
  unfold State.meterSample
  split
  · extract_lets _ _ pw _ each total
    have heach : each.wav = s.wav := foldl_keeps _ State.wav (fun t y => t.accumulate_wav m _ _ _) pw s
    rw [State.modMeter_wav]
    unfold total
    split
    · exact heach
    · rw [State.accumulate_wav, heach]
  · rfl

theorem State.meterSamples_wav (m n : Nat) : (State.meterSamples m n s).wav = s.wav := by
  induction n generalizing s with
  | zero => rfl
  | succ n ih =>
    unfold State.meterSamples
    split
    · rw [ih, State.meterSample_wav]
    · rfl

theorem State.runMeter_wav (m : Nat) : (s.runMeter m).wav = s.wav := by
  have hshow (t : State) : (t.showSteep m).wav = t.wav := by
    unfold State.showSteep
    split <;> rfl
  unfold State.runMeter
  split
  · split
    · rfl
    · rw [hshow, State.meterSamples_wav, State.modMeter_wav]
  · rfl

theorem State.runMeters_wav (c : Nat) : (s.runMeters c).wav = s.wav := by
  unfold State.runMeters
  exact foldl_keeps _ State.wav (fun t _ => t.runMeter_wav _) _ s

/-! #### Disturbance capture (R308 to R322) -/

@[simp] theorem State.modRec_wav (r : Nat) (f : RecorderState → RecorderState) : (s.modRec r f).wav = s.wav := rfl

@[simp] theorem State.showStore_wav (r : Nat) : (s.showStore r).wav = s.wav := by
  unfold State.showStore
  split <;> rfl

theorem State.overwriteOldest_wav (r : Nat) : (s.overwriteOldest r).wav = s.wav := by
  unfold State.overwriteOldest
  split
  · split
    · exact State.log_wav _ _ _ _
    · rfl
  · rfl

theorem State.makeRoom_wav (r n fuel : Nat) : (State.makeRoom r n fuel s).1.wav = s.wav := by
  induction fuel generalizing s with
  | zero => rfl
  | succ fuel ih =>
    unfold State.makeRoom
    split
    · split
      · rfl
      · split
        · rw [ih, State.overwriteOldest_wav]
        · rfl
    · rfl

theorem State.roomFor_wav (r n : Nat) : (s.roomFor r n).1.wav = s.wav := s.makeRoom_wav r n _

theorem State.capTryCommit_wav (r : Nat) : (s.capTryCommit r).wav = s.wav := by
  unfold State.capTryCommit
  split
  · split
    · extract_lets
      split
      · exact State.log_wav _ _ _ _
      · exact State.commitRange_wav _ _ _
    · rfl
  · rfl

theorem State.closeCapture_wav (r : Nat) (flags : Half) (hold : Bool) : (s.closeCapture r flags hold).wav = s.wav := by
  unfold State.closeCapture
  split
  · split
    · extract_lets _ _ _ _ _ _ _ _ _ stored counted shown told settled
      have htold : told.wav = s.wav := shown.log_wav _ _ _
      have hsettled : settled.wav = s.wav := by
        unfold settled
        split
        · exact htold
        · split <;> exact htold
      rw [State.capTryCommit_wav, State.showStore_wav, hsettled]
    · rfl
  · rfl

theorem State.overflow_wav (r cause : Nat) (hold : Bool) : (s.overflow r cause hold).wav = s.wav := by
  unfold State.overflow
  split
  · rw [State.closeCapture_wav, State.log_wav, State.bump_wav]
  · rfl

theorem State.storeFrame_wav (r : Nat) (hold : Bool) (f : CapFrame) : (s.storeFrame r hold f).wav = s.wav := by
  unfold State.storeFrame
  split
  next x _ =>
    split
    · split
      · rfl
      · have hroom := s.roomFor_wav r (s.recStride r x)
        generalize s.roomFor r (s.recStride r x) = room at hroom ⊢
        dsimp only
        split
        · rw [State.showStore_wav, State.modRec_wav, hroom]
        · rw [State.overflow_wav, hroom]
    · rfl
  · rfl

theorem State.laterTrigger_wav (r k : Nat) : (s.laterTrigger r k).wav = s.wav := by
  unfold State.laterTrigger
  split
  · split
    · extract_lets _ _ _ _ grown counted
      exact foldl_keeps _ State.wav (fun t _ => t.storeFrame_wav r false _) _ counted
    · rfl
  · rfl

theorem State.decideCapture_wav (r k : Nat) (cause : Half) (cond phi gts : Nat) (later : List Firing) :
    (s.decideCapture r k cause cond phi gts later).wav = s.wav := by
  unfold State.decideCapture
  split
  next x _ =>
    have hroom := s.roomFor_wav r (256 + 8 * x.cfg.chans.length)
    generalize s.roomFor r (256 + 8 * x.cfg.chans.length) = room at hroom ⊢
    obtain ⟨made, fits⟩ := room
    extract_lets _ _ frames _ _ _ _ _
    dsimp -zeta only
    extract_lets _ _ active stored
    have hactive : active.wav = s.wav := hroom
    have hstored : stored.wav = s.wav := by
      unfold stored
      split
      · exact (foldl_keeps _ State.wav (fun t _ => t.storeFrame_wav r _ _) frames active).trans hactive
      · rw [State.overflow_wav, hactive]
    rw [State.showStore_wav]
    exact (foldl_keeps _ State.wav (fun t _ => t.laterTrigger_wav r _) later stored).trans hstored
  · rfl

theorem State.forceCapture_wav (r : Nat) (bit : Half) (f : CapFrame) : (s.forceCapture r bit f).wav = s.wav := by
  unfold State.forceCapture
  split
  · exact s.decideCapture_wav _ _ _ _ _ _ _
  · rfl

theorem State.missFiring_wav (r cond : Nat) (quiet : Bool) : (s.missFiring r cond quiet).wav = s.wav := by
  unfold State.missFiring
  extract_lets
  split
  · split
    · rfl
    · exact State.log_wav _ _ _ _
  · rfl

theorem State.foundFiring_wav (r : Nat) (f : Firing) : (s.foundFiring r f).wav = s.wav := by
  unfold State.foundFiring
  split
  · split
    · extract_lets
      split <;> rfl
    · split
      · exact s.laterTrigger_wav r _
      · exact s.missFiring_wav r _ _
  · rfl

theorem State.evalCond_wav (r : Nat) (prev : Option CapFrame) (f : CapFrame) (c : Nat) : (s.evalCond r prev f c).wav = s.wav := by
  unfold State.evalCond
  split
  · extract_lets
    split
    · split
      · exact State.foundFiring_wav _ _ _
      · rfl
    · rfl
  · rfl

theorem State.moveMark_wav (r low i : Nat) : (s.moveMark r low i).wav = s.wav := by
  unfold State.moveMark
  split
  · extract_lets
    split
    · split
      · rfl
      · exact State.log_wav _ _ _ _
    · rfl
  · rfl

theorem State.writeFrame_wav (r time : Nat) (rev : Half) (flags : Byte) (seq : Word) (slots : List Slot) :
    (s.writeFrame r time rev flags seq slots).wav = s.wav := by
  unfold State.writeFrame
  split
  · extract_lets d f prev all _ written marked stored judged due waiting fired
    have hmarked : marked.wav = s.wav := foldl_keeps _ State.wav (fun t i => t.moveMark_wav r _ i) _ written
    have hstored : stored.wav = s.wav := by
      unfold stored
      split
      · split
        · rw [State.overflow_wav, hmarked]
        · rw [State.storeFrame_wav, hmarked]
      · exact hmarked
    have hjudged : judged.wav = s.wav := (foldl_keeps _ State.wav (fun t c => t.evalCond_wav r prev f c) _ stored).trans hstored
    have hwaiting : waiting.wav = s.wav := (judged.modRec_wav r _).trans hjudged
    have hfired : fired.wav = s.wav := (foldl_keeps _ State.wav (fun t _ => t.foundFiring_wav r _) due waiting).trans hwaiting
    split
    · rw [State.forceCapture_wav, hfired]
    · exact hfired
  · rfl

theorem State.waveFrames_wav (r fuel : Nat) : (State.waveFrames r fuel s).wav = s.wav := by
  induction fuel generalizing s with
  | zero => rfl
  | succ fuel ih =>
    unfold State.waveFrames
    split
    · split
      · extract_lets
        split
        · rw [ih, State.writeFrame_wav, State.modRec_wav]
        · rfl
      · rfl
    · rfl

@[simp] theorem State.captureWave_wav (chan : Nat) : (s.captureWave chan).wav = s.wav := by
  unfold State.captureWave
  refine foldl_keeps _ State.wav (fun t x => ?_) _ s
  split
  · exact t.waveFrames_wav _ _
  · rfl

/-! #### The oscillation analyser (R193 to R212) -/

@[simp] theorem State.modOsc_wav (g : Nat) (f : OscGroup → OscGroup) : (s.modOsc g f).wav = s.wav := rfl
@[simp] theorem State.modMonitor_wav (i : Nat) (f : MonitorState → MonitorState) : (s.modMonitor i f).wav = s.wav := rfl
@[simp] theorem State.oscSample_wav (g : Nat) : (s.oscSample g).wav = s.wav := rfl
@[simp] theorem State.showOsc_wav (g : Nat) : (s.showOsc g).wav = s.wav := rfl

theorem State.oscCollect_wav (g : Nat) : (s.oscCollect g).wav = s.wav := by
  unfold State.oscCollect
  split
  · rfl
  · extract_lets
    split
    · extract_lets ready
      refine foldl_keeps _ State.wav (fun t f => ?_) ready s
      rw [State.oscSample_wav, State.modOsc_wav]
    · rfl

theorem State.addColumns_wav (g top : Nat) : (s.addColumns g top).wav = s.wav := by
  unfold State.addColumns
  extract_lets
  dsimp -zeta only
  extract_lets
  split <;> rfl

theorem State.applyRevisions_wav (g : Nat) : (s.applyRevisions g).wav = s.wav := by
  unfold State.applyRevisions
  extract_lets _ _ _ _ _ _ ks counted replaced
  have hreplaced : replaced.wav = counted.wav := foldl_keeps _ State.wav (fun t _ => t.modOsc_wav g _) ks counted
  split
  · rfl
  · rw [State.modOsc_wav, hreplaced, State.bumpBy_wav, State.bumpBy_wav]

theorem State.oscStart_wav : s.oscStart.wav = s.wav := by
  unfold State.oscStart
  split
  · rfl
  · split
    · rw [State.showOsc_wav, State.modOsc_wav, State.addColumns_wav, State.applyRevisions_wav]
    · rfl

theorem State.oscQueue_wav (g tag : Nat) : (s.oscQueue g tag).wav = s.wav := by
  unfold State.oscQueue
  extract_lets _ _ _ asked
  have hasked : asked.wav = s.wav := by
    unfold asked
    split
    · exact State.log_wav _ _ _ _
    · rfl
  split
  · rfl
  · rw [State.modOsc_wav, hasked]

theorem State.oscRefreshes_wav : s.oscRefreshes.wav = s.wav := by
  unfold State.oscRefreshes
  extract_lets gs collected queued
  have hcollected : collected.wav = s.wav := foldl_keeps _ State.wav (fun t g => t.oscCollect_wav g) gs s
  have hqueued : queued.wav = collected.wav := by
    refine foldl_keeps _ State.wav (fun t g => ?_) gs collected
    refine foldl_keeps _ State.wav (fun u tag => ?_) _ t
    split
    · exact u.oscQueue_wav g tag
    · rfl
  rw [State.oscStart_wav, hqueued, hcollected]

theorem State.oscPub_wav (g tag : Nat) (closure : Option Nat) : (s.oscPub g tag closure).wav = s.wav := by
  unfold State.oscPub
  extract_lets _ _ _ modes m _ thin _ _ _ _ aged told noted put dated
  have hput (t : State) (c : Nat) (v : Option (Word × Word)) : (put t c v).wav = t.wav := by
    unfold put
    split <;> exact State.writeDerived_wav _ _ _ _ _ _ _ _
  have haged : aged.wav = s.wav := by
    unfold aged
    split <;> rfl
  have htold : told.wav = s.wav := by
    unfold told
    split
    · rw [State.log_wav, haged]
    · exact haged
  have hdated : dated.wav = s.wav := (State.writeDerived_wav _ _ _ _ _ _ _ _).trans htold
  split
  · rfl
  · refine (foldl_keeps _ State.wav (fun t i => ?_) _ dated).trans hdated
    extract_lets _ _ _ _
    split
    · refine (foldl_keeps _ State.wav (fun u j => hput u _ _) _ _).trans ?_
      rw [hput, hput]
    · rw [hput, hput]

theorem State.bandEvents_wav (i k : Nat) (b : BandState) : (s.bandEvents i k b).1.wav = s.wav := by
  unfold State.bandEvents
  extract_lets one
  have hone (x : State × BandState) (j code sev : Nat) (on : Bool) : (one x j code sev on).1.wav = x.1.wav := by
    unfold one
    split
    · exact State.log_wav _ _ _ _
    · rfl
  rw [hone, hone, hone]

theorem State.forcedChanged_wav (i k : Nat) (was now : Bool) : (s.forcedChanged i k was now).wav = s.wav := by
  have hactive (on : Bool) : (s.setActive on).wav = s.wav := by cases on <;> rfl
  unfold State.forcedChanged
  split
  · rfl
  · exact hactive now

theorem State.showMonitor_wav : s.showMonitor.wav = s.wav := by
  unfold State.showMonitor
  extract_lets
  split
  · extract_lets _ _ _ _ _ _ _ shown
    have hshown : shown.wav = s.wav :=
      (State.setFlag_wav _ _ _ _).trans ((State.setField_wav _ _ _ _ _).trans ((State.setReg_wav _ _ _).trans (s.setReg_wav _ _)))
    refine (foldl_keeps _ State.wav (fun t b => ?_) _ shown).trans hshown
    rfl
  · refine foldl_keeps _ State.wav (fun t k => ?_) _ s
    split <;> rfl

theorem State.copyOutputs_wav (g tag : Nat) (l : List (Nat × Slot)) (closure : Option Nat) : (s.copyOutputs g tag l closure).wav = s.wav := by
  unfold State.copyOutputs
  exact foldl_keeps _ State.wav (fun t _ => t.writeDerived_wav _ _ _ _ _ _ _) l s

theorem State.oscBand_wav (i g n tag lc : Nat) (closure : Option Nat) : (s.oscBand i g n tag lc closure).wav = s.wav := by
  unfold State.oscBand
  split
  · split
    · rfl
    · extract_lets _ _ _ _ reset _ _ _ _ old _ _ halved _ judged counted _
      have hcounted : counted.wav = s.wav := by
        unfold counted
        split <;> rfl
      generalize hevents : List.foldl _ (counted, []) judged = events
      have htold : events.1.wav = s.wav := by
        rw [← hevents]
        refine (foldl_keeps _ (fun p : State × List BandState => p.1.wav) (fun p y => ?_) judged (counted, [])).trans hcounted
        exact p.1.bandEvents_wav i _ y
      obtain ⟨told, bands⟩ := events
      dsimp -zeta only
      extract_lets noted forced shown copied _ vals written outs
      have hnoted : noted.wav = s.wav := (told.modMonitor_wav i _).trans htold
      have hforced : forced.wav = s.wav := (foldl_keeps _ State.wav (fun t b => t.forcedChanged_wav i b _ _) _ noted).trans hnoted
      have hshown : shown.wav = s.wav := by
        unfold shown
        split
        · rw [State.showMonitor_wav, State.setFlag_wav, hforced]
        · exact hforced
      have hcopied : copied.wav = s.wav := (shown.copyOutputs_wav g tag _ closure).trans hshown
      have hwritten : written.wav = s.wav := (foldl_keeps _ State.wav (fun t _ => t.writeDerived_wav _ _ _ _ _ _ _) vals shown).trans hshown
      split
      · split
        · rw [State.modMonitor_wav, hcopied]
        · exact hcopied
      · rw [State.modMonitor_wav, hwritten]
  · rfl

/-- The waveform chain stays as it is; as a relation, its two states are compared without evaluating the conditions they stand under. -/
def KeepsWav (s t : State) : Prop := t.wav = s.wav

theorem KeepsWav.trans {s t u : State} (h : KeepsWav s t) (k : KeepsWav t u) : KeepsWav s u := Eq.trans k h

theorem KeepsWav.ite {s t u : State} {c : Prop} [Decidable c] (ht : KeepsWav s t) (hu : KeepsWav s u) : KeepsWav s (if c then t else u) := by
  split
  · exact ht
  · exact hu

theorem KeepsWav.withOsc (x : OscState) : KeepsWav s { s with osc := x } := rfl

theorem KeepsWav.oscDef (n tag : Nat) (closure : Option Nat) : KeepsWav s (s.oscDef n tag closure) := by
  unfold State.oscDef
  refine KeepsWav.ite rfl ?_
  extract_lets _ _ _ _ _ out
  have hout (t : State) (l : List (Nat × Slot)) : KeepsWav t (out t l) :=
    foldl_keeps _ State.wav (fun u _ => u.writeDerived_wav _ _ _ _ _ _ _) l t
  refine KeepsWav.ite (hout _ _) ?_
  dsimp -zeta only
  extract_lets _ stepped _ _ _ _ _ shown told
  have hstepped : KeepsWav s stepped := rfl
  have hshown : KeepsWav s shown := hstepped.trans ((State.setField_wav _ _ _ _ _).trans (stepped.setFlag_wav _ _ _))
  have htold : KeepsWav s told := KeepsWav.ite (hshown.trans (shown.log_wav _ _ _)) hshown
  exact KeepsWav.ite (hstepped.trans (stepped.copyOutputs_wav _ _ _ _)) ((htold.trans (.withOsc told _)).trans (hout _ _))

theorem State.oscDef_wav (n tag : Nat) (closure : Option Nat) : (s.oscDef n tag closure).wav = s.wav := KeepsWav.oscDef s n tag closure

theorem State.publishDue_wav (rg : Nat) (f : Furrow) : (s.publishDue rg f).wav = s.wav := by
  refine foldl_keeps _ State.wav (fun t g => ?_) _ s
  dsimp only
  split
  · rw [State.modOsc_wav, State.oscPub_wav]
  · rfl

theorem State.monitorsDue_wav (g : Nat) (f : Furrow) : (s.monitorsDue g f).wav = s.wav := by
  refine foldl_keeps _ State.wav (fun t m => ?_) _ s
  dsimp only
  split
  · exact t.oscBand_wav _ _ _ _ _ _
  · rfl

theorem State.locationDue_wav (g : Nat) (f : Furrow) : (s.locationDue g f).wav = s.wav := by
  unfold State.locationDue
  split
  · exact s.oscDef_wav _ _ _
  · rfl

@[simp] theorem State.oscDue_wav : s.oscDue.wav = s.wav := by
  unfold State.oscDue
  split
  · rfl
  · rw [State.oscRefreshes_wav]
    refine foldl_keeps _ State.wav (fun t x => ?_) _ s
    refine foldl_keeps _ State.wav (fun u f => ?_) _ t
    rw [State.locationDue_wav, State.monitorsDue_wav, State.publishDue_wav]

end

/-! ### What leaves the local inputs alone (R148 to R163) -/

section
variable (s : State)

theorem State.setWch_afe (c : Nat) (x : WavChan) : (s.setWch c x).wav.afe = s.wav.afe := rfl

theorem State.dropOld_afe (c : Nat) (t : Int) : (s.dropOld c t).wav.afe = s.wav.afe := by
  unfold State.dropOld
  extract_lets
  split
  · split <;> rfl
  · rfl

theorem State.zeroChain_afe (c tR cause : Nat) : (s.zeroChain c tR cause).wav.afe = s.wav.afe := rfl

theorem State.showSettling_wav : s.showSettling.wav = s.wav := rfl

theorem State.abandon_afe (c nR : Nat) : (s.abandon c nR).2.wav.afe = s.wav.afe := rfl

theorem State.resetChannel_afe (c tR cause gap : Nat) : (s.resetChannel c tR cause gap).wav.afe = s.wav.afe := by
  unfold State.resetChannel
  extract_lets zeroed told
  have htold : told.wav.afe = s.wav.afe := by
    unfold told
    rw [State.log_wav]
    rfl
  have habandoned := (told.abandon_afe c (gridFrom tR)).trans htold
  generalize told.abandon c (gridFrom tR) = rest at habandoned ⊢
  dsimp only
  split
  · split
    · exact habandoned
    · rw [State.log_wav]
      exact habandoned
  · exact htold

theorem State.announceReset_afe (tR cause : Nat) (disarm : Bool) : (s.announceReset tR cause disarm).wav.afe = s.wav.afe := by
  unfold State.announceReset
  extract_lets disarmed _ shown
  have hdisarmed : disarmed.wav = s.wav := by
    unfold disarmed
    split <;> rfl
  have hshown : shown.wav.afe = disarmed.wav.afe := rfl
  rw [State.log_wav, hshown, hdisarmed]

theorem State.syncChannel_afe (c : Nat) (t : Int) : (s.syncChannel c t).wav.afe = s.wav.afe := by
  unfold State.syncChannel
  split
  · split
    · rfl
    · rw [State.showSettling_wav, State.zeroChain_afe]
      split
      · exact s.announceReset_afe _ _ _
      · rfl
  · rfl

theorem State.pushGrid_afe (c g : Nat) (y : WSample) : (s.pushGrid c g y).wav.afe = s.wav.afe := rfl

theorem State.resample_afe (k : Chain) (c n : Nat) : (State.resample k c n s).wav.afe = s.wav.afe := by
  induction n generalizing s with
  | zero => rfl
  | succ n ih =>
    unfold State.resample
    extract_lets
    split
    · extract_lets
      split
      · rw [ih, State.pushGrid_afe]
      · rfl
    · rfl

theorem State.firIn_afe (c : Nat) (w : WSample) : (s.firIn c w).wav.afe = s.wav.afe := by
  unfold State.firIn
  extract_lets _ _ flagged _ _ shown
  have hflagged : flagged.wav = s.wav := by
    unfold flagged
    split <;> rfl
  have hshown : shown.wav.afe = s.wav.afe := congrArg WavState.afe hflagged
  split
  · rw [State.setWch_afe, hshown]
  · rw [State.resample_afe, State.setWch_afe, hshown]

theorem State.writeOutput_afe (o : WavOutRec) (n : Nat) : (s.writeOutput o n).wav.afe = s.wav.afe := by
  unfold State.writeOutput
  extract_lets
  split
  · extract_lets
    split
    · rfl
    · rw [State.deliver_wav]
  · rfl

theorem State.runOutput_afe (o : WavOutRec) (k n : Nat) : (State.runOutput o k n s).2.wav.afe = s.wav.afe := by
  induction k generalizing s n with
  | zero => rfl
  | succ k ih =>
    unfold State.runOutput
    split
    · rw [ih, State.writeOutput_afe]
    · rfl

theorem State.runOutputs_afe (c : Nat) : (s.runOutputs c).wav.afe = s.wav.afe := by
  refine foldl_keeps _ (fun t : State => t.wav.afe) (fun t o => ?_) _ s
  dsimp only
  split
  · exact t.runOutput_afe _ _ _
  · rfl

theorem State.goodSample_afe (c : Nat) (w : WSample) : (s.goodSample c w).wav.afe = s.wav.afe := by
  unfold State.goodSample
  extract_lets x _ _ readied entered
  have hreadied : readied.wav.afe = s.wav.afe := by
    unfold readied
    split
    · rfl
    · split
      · rfl
      · split
        · split
          next a _ =>
            rw [State.bumpBy_wav]
            refine foldl_keeps _ (fun t : State => t.wav.afe) (fun t k => ?_) _ s
            dsimp only
            split
            · rfl
            · exact t.firIn_afe c _
          · rfl
        · exact s.resetChannel_afe _ _ _ _
  split
  · rfl
  · rw [State.runOutputs_afe, State.setWch_afe, State.firIn_afe, hreadied]

theorem State.wavIn_afe (c : Nat) (w : WSample) (isGap : Bool) : (s.wavIn c w isGap).wav.afe = s.wav.afe := by
  unfold State.wavIn
  extract_lets synced _ _ taken
  have hsynced : synced.wav.afe = s.wav.afe := (State.syncChannel_afe _ c _).trans (s.dropOld_afe c _)
  have htaken : taken.wav.afe = s.wav.afe := hsynced
  split
  · rfl
  · split
    · exact hsynced
    · split
      · exact htaken
      · rw [State.showSettling_wav, State.goodSample_afe, htaken]

end

/-! ### Local inputs (R148, R164) -/

section
variable (s : State)

theorem State.afe_setAfe (i : Nat) (x : AfeState) : (s.setAfe i x).afe i = x := by
  rw [State.afe, State.setAfe, kvGet_kvPut_same, Option.getD_some]

theorem State.afe_congr {s t : State} (h : t.wav.afe = s.wav.afe) (i : Nat) : t.afe i = s.afe i := by
  rw [State.afe, State.afe, h]

/-- A sample of a local input: each path has taken the 64 bits of its modulator (R148). -/
theorem State.afe_afeIn (a : AfeSample) (h : s.flag Reg.WAV_CTRL 1 = true) : ∃ r e, (s.afeIn a).afe a.input
    = { recent := r, episode := e, lowCic := (cic (s.afe a.input).lowCic a.low).2, highCic := (cic (s.afe a.input).highCic a.high).2 } := by
  unfold State.afeIn
  extract_lets _ x _ _
  rw [if_neg (by simp [h])]
  dsimp -zeta only
  extract_lets _ _ recent overl _ _ _ shown taken counted told
  have hcounted : counted.wav = taken.wav := by
    unfold counted
    split <;> rfl
  have htold : told.wav = taken.wav := by
    unfold told
    split
    · rw [State.log_wav, hcounted]
    · exact hcounted
  refine ⟨recent, if overl then some shown.now else x.episode, ?_⟩
  rw [State.afe_congr (State.wavIn_afe _ _ _ _), State.afe_congr (State.dropOld_afe _ _ _), State.afe_congr (congrArg WavState.afe htold)]
  exact shown.afe_setAfe _ _

end

/-! ### Registers of the WAV block -/

section
variable {chan : Nat} (hc : chan < 8208)
include hc

theorem WAV_CH_STATUS_block : Reg.WAV_CH_STATUS chan / 0x100000 = 5 := by
  simp only [Reg.WAV_CH_STATUS]
  omega

theorem WAV_CH_STATUS_ne_stall : Reg.WAV_CH_STATUS chan ≠ Reg.WAV_CNT_STALL := by
  simp only [Reg.WAV_CH_STATUS, Reg.WAV_CNT_STALL]
  omega

end

section
variable (s : State)

/-! ### The commands of the chain -/

theorem exec_afeSample (a : AfeSample) : exec (.afeSample a) s
    = .next ((((s.afeIn a).runMeters (8192 + a.input)).captureWave (8192 + a.input)).oscDue).showHealth := rfl

/-- A channel whose input has been missing for 10 ms is marked, counted and told (R154). -/
theorem exec_channelStall_due {chan : Nat} (hon : s.flag (Reg.WAV_CH_CTRL chan) 0 = true) (hok : s.flag (Reg.WAV_CH_STATUS chan) 1 = false)
    (ht : (s.wch chan).lastArr + 10000000 ≤ s.elapsed) : exec (.channelStall chan) s
    = .next (((s.setFlag (Reg.WAV_CH_STATUS chan) 1 true).bump Reg.WAV_CNT_STALL).log 0x0603 2 (leBytes 2 chan)).showHealth :=
  congrArg answer (if_pos (by simp [hon, hok, ht]))

/-- What a write of WAV_SYNC leaves before it arms or not: the written settings, with ARM as it was (R161). -/
def State.takeSync (s : State) (value : Word) : State :=
  s.setReg Reg.WAV_SYNC ((value &&& 7) ||| (if s.flag Reg.WAV_SYNC 4 then 0x10 else 0))

/-- The second that a MODE 2 reset is armed for is not the register that the write sets. -/
theorem State.takeSync_second (value : Word) :
    (s.takeSync value).pair Reg.WAV_SYNC_SEC_LO Reg.WAV_SYNC_SEC_HI = s.pair Reg.WAV_SYNC_SEC_LO Reg.WAV_SYNC_SEC_HI := by
  unfold State.pair State.takeSync
  rw [State.reg_setReg_ne _ _ _ _ (by decide), State.reg_setReg_ne _ _ _ _ (by decide)]

/-- The chain waits for a SYNC reset (R161). -/
def State.armSync (s : State) : State :=
  { (s.setFlag Reg.WAV_SYNC 4 true).setFlag Reg.WAV_STATUS 17 true with wav := { s.wav with syncAt := none } }

theorem State.flag_armSync (a n : Nat) : s.armSync.flag a n = ((s.setFlag Reg.WAV_SYNC 4 true).setFlag Reg.WAV_STATUS 17 true).flag a n := rfl

theorem exec_syncArm_begun {value : Word} (harm : value.getLsbD 4 = true) (hmode : bitsOf value 1 0 = 2)
    (hsec : s.pair Reg.WAV_SYNC_SEC_LO Reg.WAV_SYNC_SEC_HI ≤ s.second) : exec (.syncArm value) s
    = .next ((((s.takeSync value).setFlag Reg.WAV_SYNC 4 false).setFlag Reg.WAV_STATUS 17 false).log 0x0607 1
        (leBytes 1 (bitsOf value 1 0))).showHealth := by
  have hbegun : (decide (bitsOf value 1 0 = 2) && decide ((s.takeSync value).pair Reg.WAV_SYNC_SEC_LO Reg.WAV_SYNC_SEC_HI ≤ s.second)) = true := by
    simp [s.takeSync_second value, hmode, hsec]
  exact congrArg answer ((if_neg (by simp [harm])).trans (if_pos hbegun))

theorem exec_syncArm_armed {value : Word} (harm : value.getLsbD 4 = true)
    (h : ¬(bitsOf value 1 0 = 2 ∧ s.pair Reg.WAV_SYNC_SEC_LO Reg.WAV_SYNC_SEC_HI ≤ s.second)) :
    exec (.syncArm value) s = .next (s.takeSync value).armSync.showHealth := by
  have hahead : ¬(decide (bitsOf value 1 0 = 2)
      && decide ((s.takeSync value).pair Reg.WAV_SYNC_SEC_LO Reg.WAV_SYNC_SEC_HI ≤ s.second)) = true := by
    simpa [s.takeSync_second value] using h
  exact congrArg answer ((if_neg (by simp [harm])).trans (if_neg hahead))

theorem exec_afeOverloadEnd_due {input t : Nat} (h : (s.afe input).episode = some t) (ht : t + 1000000 ≤ s.now) :
    exec (.afeOverloadEnd input) s = .next (s.setAfe input { s.afe input with episode := none }).showHealth := by
  change execAfeOverloadEnd input s = _
  simp only [execAfeOverloadEnd, h, ht, if_true]
  rfl

/-! ### WAV_COMMIT (R167) -/

/-- What WAV_COMMIT does for one group. -/
def State.askWav (s : State) (g : Nat) : State :=
  if ((s.setFlag Reg.WAV_COMMIT g true).group g).isSome then s.setFlag Reg.WAV_COMMIT g true else (s.setFlag Reg.WAV_COMMIT g true).commitWav g s.now

theorem State.askWav_of_running {g : Nat} (h : (s.group g).isSome = true) : s.askWav g = s.setFlag Reg.WAV_COMMIT g true := if_pos h

theorem exec_wavCommit (mask : Word) : exec (.wavCommit mask) s
    = .next ((List.range 4).foldl (fun (s : State) g => if mask.getLsbD g then s.askWav g else s) s).showHealth := rfl

/-- Where asking a running group sets its bit of a commit register alone, the groups of a mask end with their bits set. -/
theorem State.flag_foldl_ask {ask : State → Nat → State} {a : Nat}
    (hask : ∀ (t : State) k, (t.group k).isSome = true → ask t k = t.setFlag a k true) (mask : Word) (l : List Nat) {g : Nat} (hg : g < 32)
    (h : ∀ k ∈ l, (s.group k).isSome = true) :
    (l.foldl (fun (s : State) k => if mask.getLsbD k then ask s k else s) s).flag a g = (s.flag a g || (l.contains g && mask.getLsbD g)) := by
  induction l generalizing s with
  | nil => simp
  | cons k r ih =>
    have hr : ∀ j ∈ r, (s.group j).isSome = true := fun j hj => h j (List.mem_cons_of_mem _ hj)
    rw [List.foldl_cons]
    split
    next hm =>
      rw [hask s k (h k List.mem_cons_self), ih (s.setFlag a k true) hr]
      by_cases hk : g = k
      · subst k
        simp [hg, hm]
      · simp [State.flag_setFlag_ne _ _ _ _ _ hg hk, hk]
    next hm =>
      rw [ih s hr]
      by_cases hk : g = k
      · subst k
        simp [Bool.eq_false_of_not_eq_true hm]
      · simp [hk]

end

/-- Settles O24: what follows a sample leaves the decimators as AFE_SAMPLE set them, and the other commands by their registers. -/
theorem waveformChain : Obligations.WaveformChain := by
  unfold Obligations.WaveformChain
  refine ⟨fun s a hon => ?_, fun s chan hc hon hok ht => ?_, fun s value harm h => ?_, fun s value harm hmode hsec => ?_,
    fun s input at_ h ht => ?_, fun s mask hrun => ?_⟩
  · obtain ⟨_, _, hafe⟩ := s.afe_afeIn a hon
    refine ⟨_, exec_afeSample s a, rfl, ?_⟩
    rw [State.afe_congr (s := s.afeIn a)]
    · exact ⟨by rw [hafe], by rw [hafe]⟩
    · rw [State.showHealth_wav, State.oscDue_wav, State.captureWave_wav, State.runMeters_wav]
  · have hblock := WAV_CH_STATUS_block hc
    refine ⟨_, exec_channelStall_due s hon hok ht, ?_, ?_⟩
    · rw [State.flag_showHealth_ne _ _ _ (not_mem_healthRegs_of_block (by omega)),
        State.flag_log _ _ _ _ _ _ (by decide) (not_mem_logRegs_of_block (by omega)),
        State.flag_congr (State.reg_bump_ne _ _ _ (WAV_CH_STATUS_ne_stall hc)), State.flag_setFlag_same _ _ _ _ (by decide)]
    · rw [State.reg_showHealth_of_block _ (by decide), State.reg_log _ _ _ _ _ (by decide) (by decide), State.reg_bump_same,
        State.reg_setFlag_ne _ _ _ _ _ (WAV_CH_STATUS_ne_stall hc).symm]
  · refine ⟨_, exec_syncArm_armed s harm h, ?_, ?_, rfl⟩
    · rw [State.flag_showHealth_ne _ _ _ (by decide), State.flag_armSync,
        State.flag_congr (State.reg_setFlag_ne _ _ _ _ _ (by decide)), State.flag_setFlag_same _ _ _ _ (by decide)]
    · rw [State.flag_showHealth_ne _ _ _ (by decide), State.flag_armSync, State.flag_setFlag_same _ _ _ _ (by decide)]
  · refine ⟨_, exec_syncArm_begun s harm hmode hsec, ?_, ?_⟩
    · rw [State.flag_showHealth_ne _ _ _ (by decide), State.flag_log _ _ _ _ _ _ (by decide) (by decide),
        State.flag_congr (State.reg_setFlag_ne _ _ _ _ _ (by decide)), State.flag_setFlag_same _ _ _ _ (by decide)]
    · rw [State.flag_showHealth_ne _ _ _ (by decide), State.flag_log _ _ _ _ _ _ (by decide) (by decide),
        State.flag_setFlag_same _ _ _ _ (by decide)]
  · exact ⟨_, exec_afeOverloadEnd_due s h ht, s.afe_setAfe input _⟩
  · refine ⟨_, exec_wavCommit s mask, fun g hg => ?_⟩
    rw [State.flag_showHealth_ne _ _ _ (by decide),
      s.flag_foldl_ask (fun t k hk => t.askWav_of_running hk) mask _ (by omega) (fun k hk => hrun k (List.mem_range.mp hk)),
      List.contains_iff_mem.mpr (List.mem_range.mpr hg), Bool.true_and]

end Sys2Proof.Machine
end

section
/-!
PROOFS of the statement of family 07_metering: what leaves the metering state alone, the steep of a meter point, and the commands.
-/
namespace Sys2Proof.Machine

/-! ### What leaves the metering state alone -/

section
variable (s : State)

theorem State.mtr_ite {c : Prop} [Decidable c] {t u : State} {x : MtrState} (ht : t.mtr = x) (hu : u.mtr = x) :
    (if c then t else u).mtr = x := by
  split
  · exact ht
  · exact hu

/-! #### Error reports (R445 to R450) -/

theorem State.escalate_mtr (e : ErrorRec) (g : Nat) : (s.escalate e g).mtr = s.mtr := by
  rw [State.escalate, State.bump_mtr, State.log_mtr]

theorem State.gradeE2_mtr (e : ErrorRec) : (s.gradeE2 e).2.mtr = s.mtr := by
  have hcount : (s.countE2 e.source).mtr = s.mtr := rfl
  unfold State.gradeE2
  split
  · dsimp only
    split
    · rw [State.escalate_mtr, hcount]
    · exact hcount
  · rfl

theorem State.gradeE3_mtr (e : ErrorRec) : (s.gradeE3 e).2.mtr = s.mtr := by
  have hmark : (s.markE3 (blockOf e.source)).mtr = s.mtr := rfl
  unfold State.gradeE3
  dsimp only
  split
  · split
    · exact hmark
    · split
      · rw [State.escalate_mtr, hmark]
      · exact hmark
  · rfl

theorem State.beginE4_mtr : s.beginE4.mtr = s.mtr := by
  unfold State.beginE4
  split
  · rfl
  · extract_lets _ _ _ off
    exact State.mtr_ite (off.log_mtr _ _ _) rfl

theorem State.preempt_mtr (x : StackEntry) : (s.preempt x).mtr = s.mtr := by
  unfold State.preempt
  split <;> rfl

theorem State.stackError_mtr (x : StackEntry) : (s.stackError x).mtr = s.mtr := by
  have hlost : (s.bump Reg.HLT_CNT_STACK_LOST).mtr = s.mtr := rfl
  unfold State.stackError
  split
  · exact s.preempt_mtr x
  · split
    · exact State.mtr_ite (s.preempt_mtr x) rfl
    · split
      · exact State.mtr_ite hlost ((State.log_mtr _ _ _ _).trans hlost)
      · exact s.preempt_mtr x

theorem State.blockError_mtr (grade block code : Nat) : (s.blockError grade block code).mtr = s.mtr := by
  have hnote (t : State) (e : ErrorRec) : (t.noteLast e).mtr = t.mtr := rfl
  have hcontain (t : State) (e : ErrorRec) : (t.contain e).mtr = t.mtr := State.mtr_ite t.beginE4_mtr rfl
  have hhold (t : State) (e : ErrorRec) : (t.holdError s e).mtr = t.mtr :=
    State.mtr_ite (State.stackError_mtr _ _) (State.stackError_mtr _ _)
  rw [State.blockError, State.raiseError_eq, hhold, hcontain, hnote, State.gradeError_eq, State.gradeE3_mtr, State.gradeE2_mtr]

/-! #### Queues (R334 to R341) -/

theorem State.setQueue_mtr (q : Nat) (x : QueueState) : (s.setQueue q x).mtr = s.mtr := rfl

theorem State.qReset_mtr (q : Nat) : (s.qReset q).mtr = s.mtr := by
  unfold State.qReset
  extract_lets x lost emptied answered counted noted shown told
  have hanswered : answered.mtr = emptied.mtr := by
    refine foldl_keeps _ State.mtr (fun t w => ?_) x.waits emptied
    rfl
  have hshown : shown.mtr = answered.mtr := rfl
  rw [State.blockError_mtr, State.log_mtr, hshown, hanswered, State.setQueue_mtr]

theorem State.qCheck_mtr (q : Nat) : (s.qCheck q).mtr = s.mtr := State.mtr_ite rfl (s.qReset_mtr q)

theorem State.qIrq_mtr (q : Nat) : (s.qIrq q).mtr = s.mtr := State.mtr_ite rfl rfl

theorem State.qPopped_mtr (q : Nat) : (s.qPopped q).mtr = s.mtr :=
  State.mtr_ite rfl (State.mtr_ite (State.qIrq_mtr _ q) rfl)

theorem State.qServe_mtr (q n : Nat) : (State.qServe q n s).mtr = s.mtr := by
  induction n generalizing s with
  | zero => rfl
  | succ n ih =>
    unfold State.qServe
    dsimp only
    split
    · split
      · rw [ih, State.qPopped_mtr, State.setQueue_mtr]
      · rfl
    · rfl

theorem State.qAppend_mtr (q : Nat) (p : Packet) : (s.qAppend q p).mtr = s.mtr := by
  unfold State.qAppend State.qWake
  rw [State.qServe_mtr, State.qIrq_mtr, State.bump_mtr, State.setQueue_mtr]

theorem State.qOffer_mtr {s t : State} {q kind : Nat} {words : List Word} (h : s.qOffer q kind words = some t) : t.mtr = s.mtr := by
  unfold State.qOffer at h
  dsimp only at h
  split at h
  · cases h
    rw [State.qAppend_mtr, State.qCheck_mtr]
  · cases h

/-! ### Meter points -/

theorem State.meter_modMeter_same (m : Nat) (f : MeterPoint → MeterPoint) : (s.modMeter m f).meter m = (s.meter m).map f := by
  rw [State.meter, State.modMeter, kvGet_kvMod, if_pos rfl, State.meter]

theorem State.meter_congr {s t : State} (h : t.mtr.points = s.mtr.points) (m : Nat) : t.meter m = s.meter m := by
  rw [State.meter, h, State.meter]

/-! #### What leaves every meter point alone -/

theorem State.modPulse_points (k : Nat) (f : PulseState → PulseState) : (s.modPulse k f).mtr.points = s.mtr.points := rfl

theorem State.feedPulse_points (k inc : Nat) : (s.feedPulse k inc).mtr.points = s.mtr.points := by
  unfold State.feedPulse
  extract_lets _ _ _ _ _ _ _ fed shown lost
  have hshown : shown.mtr.points = s.mtr.points := by rw [State.setReg_mtr, State.modPulse_points]
  have hlost : lost.mtr.points = s.mtr.points := by rw [State.bumpBy_mtr, hshown]
  split
  · rfl
  · split
    · exact hshown
    · split
      · exact hlost
      · rw [State.log_mtr, State.modPulse_points, hlost]

theorem State.commitPulse_points (k : Nat) : (s.commitPulse k).mtr.points = s.mtr.points := by
  unfold State.commitPulse
  extract_lets _ _ settled
  have hsettled : settled.mtr.points = s.mtr.points := rfl
  split
  · exact hsettled
  · exact hsettled

theorem State.writeRecord_points (m flags : Nat) (b : List Byte) : (s.writeRecord m flags b).mtr.points = s.mtr.points := by
  unfold State.writeRecord
  extract_lets _ _ stored counted _ _ noticed
  have hcounted : counted.mtr = s.mtr := rfl
  split
  · split
    next h => rw [State.qOffer_mtr h, hcounted]
    next =>
      have hnoticed : noticed.mtr.points = s.mtr.points := rfl
      rw [State.log_mtr, hnoticed]
  · rw [hcounted]

/-! ### The steep of a meter point (R176, R177) -/

/-- Which steep a meter point is in: its sequence number, its start, and the sample that it takes next. -/
def MeterPoint.steep (x : MeterPoint) : Word × Nat × Nat := (x.seq, x.start, x.nextN)

/-- Which steep a meter point is in; none without one. -/
def State.steepOf (s : State) (m : Nat) : Option (Word × Nat × Nat) := (s.meter m).map MeterPoint.steep

theorem State.steepOf_congr {s t : State} (h : t.mtr.points = s.mtr.points) (m : Nat) : t.steepOf m = s.steepOf m := by
  rw [State.steepOf, State.meter_congr h, State.steepOf]

theorem State.steepOf_log (m code sev : Nat) (p : List Byte) : (s.log code sev p).steepOf m = s.steepOf m :=
  State.steepOf_congr (congrArg MtrState.points (s.log_mtr code sev p)) m

/-- A change of a meter point moves its steep as the change says. -/
theorem State.steepOf_modMeter (m : Nat) (f : MeterPoint → MeterPoint) (g : Word × Nat × Nat → Word × Nat × Nat)
    (h : ∀ x, (f x).steep = g x.steep) : (s.modMeter m f).steepOf m = (s.steepOf m).map g := by
  simp only [State.steepOf, State.meter_modMeter_same, Option.map_map, Function.comp_def, h]

theorem State.steepOf_modMeter_keep (m : Nat) (f : MeterPoint → MeterPoint) (h : ∀ x, (f x).steep = x.steep) :
    (s.modMeter m f).steepOf m = s.steepOf m := by
  rw [s.steepOf_modMeter m f id h, Option.map_id, id]

/-! #### Samples advance the steep (R173, R175) -/

theorem State.addEnergy_steepOf (m e idx inc : Nat) : (s.addEnergy m e idx inc).steepOf m = s.steepOf m := by
  unfold State.addEnergy
  split
  · extract_lets _ _ _ added told
    have hadded : added.steepOf m = s.steepOf m := s.steepOf_modMeter_keep m _ fun _ => rfl
    have htold : told.steepOf m = added.steepOf m := by
      unfold told
      split
      · rfl
      · exact added.steepOf_log m _ _ _
    refine (foldl_keeps _ (fun t => t.steepOf m) (fun t k => ?_) _ told).trans (htold.trans hadded)
    extract_lets
    split
    · exact State.steepOf_congr (t.feedPulse_points k inc) m
    · rfl
  · rfl

theorem State.accumulate_steepOf (m e : Nat) (p q : Dy) : (s.accumulate m e p q).steepOf m = s.steepOf m := by
  unfold State.accumulate
  generalize contributions p q = l
  exact foldl_keeps _ (fun t => t.steepOf m) (fun t _ => t.addEnergy_steepOf m e _ _) l s

/-- A sample taken is followed by the next. -/
theorem State.meterSample_steepOf (m n : Nat) :
    (s.meterSample m n).steepOf m = (s.steepOf m).map (fun x => (x.1, x.2.1, n + 1)) := by
  unfold State.meterSample
  split
  next x hx =>
    extract_lets _ _ pw _ each total
    have heach : each.steepOf m = s.steepOf m := foldl_keeps _ (fun t => t.steepOf m) (fun t y => t.accumulate_steepOf m _ _ _) pw s
    have htotal : total.steepOf m = each.steepOf m := by
      unfold total
      split
      · rfl
      · exact each.accumulate_steepOf m _ _ _
    rw [total.steepOf_modMeter m _ (fun x => (x.1, x.2.1, n + 1)) fun _ => rfl, htotal, heach]
  next hx =>
    rw [State.steepOf, hx]
    rfl

theorem State.meterSamples_steepOf {m n start : Nat} {seq : Word} (k : Nat) (h : s.steepOf m = some (seq, start, n)) :
    (State.meterSamples m k s).steepOf m = some (seq, start, n + k) := by
  induction k generalizing s n with
  | zero => exact h
  | succ k ih =>
    obtain ⟨x, hx, hsteep⟩ := Option.map_eq_some_iff.mp h
    have hn : x.nextN = n := congrArg (fun y => y.2.2) hsteep
    unfold State.meterSamples
    rw [hx]
    dsimp only
    rw [ih (n := n + 1) _ (by rw [State.meterSample_steepOf, h, hn]; rfl), Nat.add_right_comm, Nat.add_assoc]

theorem State.showSteep_mtr (m : Nat) : (s.showSteep m).mtr = s.mtr := by
  unfold State.showSteep
  split <;> rfl

/-- A meter point that takes its samples stays in its steep, and its next sample only moves on. -/
theorem State.runMeter_steepOf {m n start : Nat} {seq : Word} (h : s.steepOf m = some (seq, start, n)) :
    ∃ j, (s.runMeter m).steepOf m = some (seq, start, n + j) := by
  unfold State.runMeter
  split
  next x _ =>
    split
    · exact ⟨0, h⟩
    · extract_lets top _ gone _ passed
      have hpassed : passed.steepOf m = some (seq, start, n + gone) := by
        rw [s.steepOf_modMeter m _ (fun x => (x.1, x.2.1, x.2.2 + gone)) fun _ => rfl, h]
        rfl
      refine ⟨gone + (top - (x.nextN + gone)), ?_⟩
      rw [State.steepOf_congr (congrArg MtrState.points (State.showSteep_mtr _ m)), passed.meterSamples_steepOf _ hpassed, Nat.add_assoc]
  next => exact ⟨0, h⟩

/-! #### The end of a steep (R177, R187) -/

theorem State.commitMeter_steepOf (m : Nat) : (s.commitMeter m).steepOf m = s.steepOf m := by
  unfold State.commitMeter
  extract_lets b asked
  split
  · rfl
  · split
    · exact State.steepOf_log _ m _ _ _
    next l committed _ _ _ =>
      have hpulses : (l.foldl (fun (s : State) k => s.commitPulse k) committed).mtr.points = committed.mtr.points :=
        foldl_keeps _ (fun t : State => t.mtr.points) (fun t k => t.commitPulse_points k) l committed
      have hcommitted : committed.steepOf m = s.steepOf m := rfl
      exact (State.steepOf_modMeter_keep _ m (fun x => { x with changed := true }) fun _ => rfl).trans ((State.steepOf_congr hpulses m).trans hcommitted)

/-- A steep that closes is followed by the one that starts where it ends. -/
theorem State.closeSteep_steepOf {m : Nat} {x : MeterPoint} (h : s.meter m = some x) :
    ∃ j, (s.closeSteep m).steepOf m = some (x.seq + 1, s.steepEnd m x, x.nextN + j) := by
  unfold State.closeSteep
  rw [h]
  dsimp -zeta only
  extract_lets stop written told opened committed shown
  have htold : told.steepOf m = some x.steep := by
    have hwritten : written.steepOf m = some x.steep := by
      rw [State.steepOf_congr (s.writeRecord_points m _ _), State.steepOf, h]
      rfl
    unfold told
    split
    · exact hwritten
    · rw [State.steepOf_log, hwritten]
  have hopened : opened.steepOf m = some (x.seq + 1, stop, x.nextN) := by
    rw [told.steepOf_modMeter m _ (fun y => (y.1 + 1, stop, y.2.2)) fun _ => rfl, htold]
    rfl
  have hshown : shown.steepOf m = opened.steepOf m := by
    rw [← opened.commitMeter_steepOf m]
    unfold shown
    split
    · exact State.steepOf_modMeter_keep _ m _ fun _ => rfl
    · rfl
  exact shown.runMeter_steepOf (hshown.trans hopened)

theorem exec_steepClose_done {m : Nat} {x : MeterPoint} (hx : s.meter m = some x) (hon : s.meterOn m = true) (hdone : s.steepDone m x = true) :
    exec (.steepClose m) s = .next (s.closeSteep m).showHealth := by
  change execSteepClose m s = _
  simp only [execSteepClose, hx, hon, hdone, Bool.and_self, if_true]
  rfl

/-- The outstanding samples of a meter point's steep count as not produced (R177). -/
def State.passOver (s : State) (m n : Nat) : State :=
  s.modMeter m (fun x => { x with
    missed := x.missed + (n - x.nextN), nextN := n, staleSteep := x.staleSteep || s.flag (Reg.MTR_MP_STATUS m) 0 })

theorem State.meter_passOver {m : Nat} {x : MeterPoint} (h : s.meter m = some x) (n : Nat) :
    ∃ z, (s.passOver m n).meter m = some z ∧ z.seq = x.seq ∧ z.nextN = n ∧ (s.passOver m n).steepEnd m z = s.steepEnd m x := by
  have hz : (s.passOver m n).meter m = some { x with
      missed := x.missed + (n - x.nextN), nextN := n, staleSteep := x.staleSteep || s.flag (Reg.MTR_MP_STATUS m) 0 } := by
    rw [State.passOver, State.meter_modMeter_same, h, Option.map_some]
  exact ⟨_, hz, rfl, rfl, rfl⟩

theorem exec_steepCloseTimeout_due {m : Nat} {x : MeterPoint} (hx : s.meter m = some x) (hon : s.meterOn m = true)
    (hdone : s.steepDone m x = false) (ht : s.steepEnd m x + 1000000000 ≤ s.now) :
    exec (.steepCloseTimeout m) s = .next ((s.passOver m (gridFrom (s.steepEnd m x))).closeSteep m).showHealth := by
  change execSteepCloseTimeout m s = _
  simp only [execSteepCloseTimeout, hx, hon, hdone, ht, Bool.not_false, Bool.and_self, decide_true, if_true]
  rfl

/-! ### Pulse outputs (R183) -/

theorem State.pulse_modPulse_same {k : Nat} (f : PulseState → PulseState) (h : k < s.mtr.pulses.length) :
    (s.modPulse k f).pulse k = f (s.pulse k) := by
  simp [State.pulse, State.modPulse, listMod, h]

theorem State.pulse_congr {s t : State} (h : t.mtr = s.mtr) (k : Nat) : t.pulse k = s.pulse k := by
  rw [State.pulse, h, State.pulse]

theorem State.mirrorPulse_mtr (k : Nat) (start : Option Nat) : (s.mirrorPulse k start).mtr = s.mtr := State.mtr_ite rfl rfl

theorem State.reg_mirrorPulse (k : Nat) (start : Option Nat) (a : Nat) : (s.mirrorPulse k start).reg a = s.reg a :=
  State.reg_ite (fun _ => rfl) (fun _ => rfl)

/-- A pulse is issued: the pin drives active for its width, and the registers count the pulse (R183). -/
def State.issuePulse (s : State) (k : Nat) : State :=
  ((s.modPulse k (fun x => { x with
      issued := x.issued + 1, activeEnd := some (s.elapsed + s.field (Reg.MTR_PULSE_CTRL k) 25 16 * 1000000), lostRun := false
      pin := s.pulseLevel k true })).setReg
    (Reg.MTR_PULSE_PENDING k) (Word.ofNat ((s.pulse k).total - (s.pulse k).issued - 1))).bump (Reg.MTR_PULSE_CNT k)

theorem State.pulse_issuePulse {k : Nat} (h : k < s.mtr.pulses.length) : (s.issuePulse k).pulse k = { s.pulse k with
    issued := (s.pulse k).issued + 1, activeEnd := some (s.elapsed + s.field (Reg.MTR_PULSE_CTRL k) 25 16 * 1000000), lostRun := false
    pin := s.pulseLevel k true } := s.pulse_modPulse_same _ h

theorem exec_pulseStart_queued {k : Nat} (hk : k < 8) (hq : (s.pulse k).issued < (s.pulse k).total) (hidle : (s.pulse k).activeEnd = none)
    (hgap : (s.pulse k).gapEnd ≤ s.elapsed) (hd : s.drives = true) :
    exec (.pulseStart k) s = .next ((s.issuePulse k).mirrorPulse k (some s.now)).showHealth :=
  congrArg answer (if_pos (by simp [hk, hq, hidle, hgap, hd]))

/-- A pulse ends: the pin goes inactive and the gap begins (R183). -/
def State.endPulse (s : State) (k : Nat) : State :=
  s.modPulse k (fun x => { x with
    activeEnd := none, gapEnd := s.elapsed + s.field (Reg.MTR_PULSE_CTRL k) 25 16 * 1000000, pin := s.pulseLevel k false })

theorem exec_pulseEnd_due {k t : Nat} (h : (s.pulse k).activeEnd = some t) (ht : t ≤ s.elapsed) :
    exec (.pulseEnd k) s = .next ((s.endPulse k).mirrorPulse k none).showHealth := by
  change execPulseEnd k s = _
  simp only [execPulseEnd, h, ht, if_true]
  rfl

/-! ### Registers of the MTR block -/

/-- A register of the MTR block shows no health. -/
theorem State.reg_showHealth_mtr {a : Nat} (h : a / 0x100000 = 6) : s.showHealth.reg a = s.reg a :=
  s.reg_showHealth_of_block (by omega)

theorem State.flag_showHealth_mtr {a : Nat} (h : a / 0x100000 = 6) (n : Nat) : s.showHealth.flag a n = s.flag a n :=
  State.flag_congr (s.reg_showHealth_mtr h) n

section
variable {k : Nat} (hk : k < 8)
include hk

theorem MTR_PULSE_CNT_block : Reg.MTR_PULSE_CNT k / 0x100000 = 6 := by
  simp only [Reg.MTR_PULSE_CNT]
  omega

theorem MTR_PULSE_PENDING_block : Reg.MTR_PULSE_PENDING k / 0x100000 = 6 := by
  simp only [Reg.MTR_PULSE_PENDING]
  omega

end

theorem MTR_PULSE_PENDING_ne_cnt (k : Nat) : Reg.MTR_PULSE_PENDING k ≠ Reg.MTR_PULSE_CNT k := by
  simp only [Reg.MTR_PULSE_PENDING, Reg.MTR_PULSE_CNT]
  omega

theorem State.reg_issuePulse_cnt (k : Nat) :
    (s.issuePulse k).reg (Reg.MTR_PULSE_CNT k) = satWord ((s.reg (Reg.MTR_PULSE_CNT k)).toNat + 1) := by
  rw [State.issuePulse, State.reg_bump_same, State.reg_setReg_ne _ _ _ _ (MTR_PULSE_PENDING_ne_cnt k).symm]
  rfl

theorem State.reg_issuePulse_pending (k : Nat) :
    (s.issuePulse k).reg (Reg.MTR_PULSE_PENDING k) = Word.ofNat ((s.pulse k).total - (s.pulse k).issued - 1) := by
  rw [State.issuePulse, State.reg_bump_ne _ _ _ (MTR_PULSE_PENDING_ne_cnt k), State.reg_setReg_same]

/-! ### Saves (R185) -/

theorem State.startSave_saving : ∃ v, s.startSave.mtr.saving = some v ∧ v.copy = s.mtr.nextCopy ∧ v.time = s.now := ⟨_, rfl, rfl, rfl⟩

theorem State.flag_startSave : s.startSave.flag Reg.MTR_STATUS 8 = true := State.flag_setFlag_same _ _ _ _ (by decide)

theorem exec_meterSavePeriod_due (ht : s.mtr.lastSave + (s.reg Reg.MTR_SAVE_PERIOD).toNat * 1000000000 ≤ s.elapsed)
    (h : s.mtr.saving = none) :
    exec .meterSavePeriod s = .next ({ s with mtr := { s.mtr with lastSave := s.elapsed } } : State).startSave.showHealth :=
  congrArg answer (if_pos (by simp [ht, h]))

theorem exec_meterSaveNow : exec .meterSaveNow s
    = .next (if s.mtr.saving.isSome then s.setFlag Reg.MTR_SAVE 0 true else s.startSave).showHealth := rfl

/-- A save ends: it stands among the saves, and is counted or told (R185). -/
def State.endSave (s : State) (v : MeterSave) (ok : Bool) : State :=
  let t := ({ s with mtr := { s.mtr with saving := none, saves := MeterSave.mk v.copy v.time ok v.points v.rems v.addr :: s.mtr.saves } } : State).setFlag
    Reg.MTR_STATUS 8 false
  if ok then t.bump Reg.MTR_CNT_SAVES else t.log 0x0707 2 (leBytes 1 v.copy)

theorem State.endSave_saving (v : MeterSave) (ok : Bool) : (s.endSave v ok).mtr.saving = none := by
  cases ok with
  | true => rfl
  | false => exact congrArg MtrState.saving (State.log_mtr _ _ _ _)

/-- Of the MTR block, a save's end changes its counter and the status that shows it. -/
theorem State.reg_endSave (v : MeterSave) (ok : Bool) {a : Nat} (hb : a / 0x100000 = 6) (hs : a ≠ Reg.MTR_CNT_SAVES ∨ ok = false) :
    (s.endSave v ok).reg a = (s.setFlag Reg.MTR_STATUS 8 false).reg a := by
  cases ok with
  | true => exact State.reg_bump_ne _ _ _ (hs.resolve_right (by decide))
  | false => exact State.reg_log _ _ _ _ _ (by decide) (not_mem_logRegs_of_block (by omega))

theorem State.flag_endSave_status (v : MeterSave) (ok : Bool) : (s.endSave v ok).flag Reg.MTR_STATUS 8 = false := by
  rw [State.flag_congr (s.reg_endSave v ok (by decide) (.inl (by decide))), State.flag_setFlag_same _ _ _ _ (by decide)]

theorem exec_meterSaveDone_alone {v : MeterSave} (h : s.mtr.saving = some v) (hw : s.flag Reg.MTR_SAVE 0 = false) (ok : Bool) :
    exec (.meterSaveDone ok) s = .next (s.endSave v ok).showHealth := by
  have hnone : (s.endSave v ok).flag Reg.MTR_SAVE 0 = false := by
    rw [State.flag_congr (s.reg_endSave v ok (by decide) (.inl (by decide))), State.flag_congr (State.reg_setFlag_ne _ _ _ _ _ (by decide)), hw]
  change execMeterSaveDone ok s = _
  unfold execMeterSaveDone
  rw [h]
  exact congrArg answer (if_neg (Bool.eq_false_iff.mp hnone))

/-! ### The snapshot (R189) -/

/-- A fold whose update at one element of its list sets an observation, and whose other updates keep it, ends with it. -/
theorem foldl_sets_mem {σ β γ : Type} {f : σ → β → σ} {p : σ → γ} {v : γ} {a : β} {l : List β} (ha : a ∈ l) (hset : ∀ s, p (f s a) = v)
    (hkeep : ∀ s b, b ∈ l → b ≠ a → p (f s b) = p s) (s : σ) : p (l.foldl f s) = v := by
  induction l generalizing s with
  | nil => cases ha
  | cons b r ih =>
    have hr := fun t c (hc : c ∈ r) => hkeep t c (List.mem_cons_of_mem b hc)
    by_cases har : a ∈ r
    · exact ih har hr (f s b)
    · obtain rfl : a = b := (List.mem_cons.mp ha).resolve_right har
      rw [List.foldl_cons, foldl_keeps_mem f p r fun t c hc => hr t c hc fun e => har (e ▸ hc)]
      exact hset s

/-- Shows an accumulator in the snapshot registers of an index (R189). -/
def State.showAcc (s : State) (a : Nat) (x : Acc) : State :=
  (s.setPair (Reg.MTR_SNAP_ACC_LO a) (Reg.MTR_SNAP_ACC_HI a) x.val.toNat).setReg (Reg.MTR_SNAP_WRAP a) (x.wraps.setWidth 32)

/-- What the snapshot registers of an index show. -/
def State.snapAt (s : State) (a : Nat) : Word × Word × Word :=
  (s.reg (Reg.MTR_SNAP_ACC_LO a), s.reg (Reg.MTR_SNAP_ACC_HI a), s.reg (Reg.MTR_SNAP_WRAP a))

theorem State.reg_showAcc_ne (a : Nat) (x : Acc) {b : Nat} (hlo : b ≠ Reg.MTR_SNAP_ACC_LO a) (hhi : b ≠ Reg.MTR_SNAP_ACC_HI a)
    (hw : b ≠ Reg.MTR_SNAP_WRAP a) : (s.showAcc a x).reg b = s.reg b := by
  rw [State.showAcc, State.reg_setReg_ne _ _ _ _ hw, State.reg_setPair_ne _ _ _ _ _ hlo hhi]

theorem State.snapAt_showAcc_same {a : Nat} (ha : a < 40) (x : Acc) :
    (s.showAcc a x).snapAt a = (Word.ofNat x.val.toNat, Word.ofNat (x.val.toNat / 2 ^ 32), x.wraps.setWidth 32) := by
  have hlohi : Reg.MTR_SNAP_ACC_LO a ≠ Reg.MTR_SNAP_ACC_HI a := by simp only [Reg.MTR_SNAP_ACC_LO, Reg.MTR_SNAP_ACC_HI]; omega
  have hlow : Reg.MTR_SNAP_ACC_LO a ≠ Reg.MTR_SNAP_WRAP a := by simp only [Reg.MTR_SNAP_ACC_LO, Reg.MTR_SNAP_WRAP]; omega
  have hhiw : Reg.MTR_SNAP_ACC_HI a ≠ Reg.MTR_SNAP_WRAP a := by simp only [Reg.MTR_SNAP_ACC_HI, Reg.MTR_SNAP_WRAP]; omega
  rw [State.snapAt, State.showAcc, State.reg_setReg_same, State.reg_setReg_ne _ _ _ _ hlow, State.reg_setReg_ne _ _ _ _ hhiw,
    State.setPair, State.reg_setReg_same, State.reg_setReg_ne _ _ _ _ hlohi, State.reg_setReg_same]

theorem State.snapAt_showAcc_ne {a b : Nat} (ha : a < 40) (hb : b < 40) (h : b ≠ a) (x : Acc) : (s.showAcc b x).snapAt a = s.snapAt a := by
  unfold State.snapAt
  rw [State.reg_showAcc_ne, State.reg_showAcc_ne, State.reg_showAcc_ne]
  all_goals simp only [Reg.MTR_SNAP_ACC_LO, Reg.MTR_SNAP_ACC_HI, Reg.MTR_SNAP_WRAP]; omega

/-- Shows the first 40 accumulators of a list. -/
def State.showAccs (s : State) (accs : List Acc) : State :=
  (List.range 40).foldl (fun (s : State) a => s.showAcc a (accs.getD a {})) s

theorem State.showAccs_mtr (accs : List Acc) : (s.showAccs accs).mtr = s.mtr :=
  foldl_keeps (fun (t : State) a => t.showAcc a (accs.getD a {})) State.mtr (fun _ _ => rfl) _ s

theorem State.reg_showAccs_snap (accs : List Acc) : (s.showAccs accs).reg Reg.MTR_SNAP = s.reg Reg.MTR_SNAP := by
  refine foldl_keeps _ (fun t : State => t.reg Reg.MTR_SNAP) (fun t a => t.reg_showAcc_ne a _ ?_ ?_ ?_) _ s
  all_goals simp only [Reg.MTR_SNAP, Reg.MTR_SNAP_ACC_LO, Reg.MTR_SNAP_ACC_HI, Reg.MTR_SNAP_WRAP]; omega

theorem State.snapAt_showAccs {a : Nat} (ha : a < 40) (accs : List Acc) : (s.showAccs accs).snapAt a
    = (Word.ofNat (accs.getD a {}).val.toNat, Word.ofNat ((accs.getD a {}).val.toNat / 2 ^ 32), (accs.getD a {}).wraps.setWidth 32) :=
  foldl_sets_mem (p := fun t : State => t.snapAt a) (List.mem_range.mpr ha) (fun t => t.snapAt_showAcc_same ha _)
    (fun t _ hb hne => t.snapAt_showAcc_ne ha (List.mem_range.mp hb) hne _) s

theorem exec_meterSnapshot (value : Word) : exec (.meterSnapshot value) s
    = .next ((s.setReg Reg.MTR_SNAP (Word.ofNat (bitsOf value 5 0 + 0x200))).showAccs
        (((s.meter (bitsOf value 5 0)).map (fun x => x.accs)).getD [])).showHealth := rfl

theorem MTR_SNAP_block {a : Nat} (h : a < 40) : Reg.MTR_SNAP_ACC_LO a / 0x100000 = 6 ∧ Reg.MTR_SNAP_ACC_HI a / 0x100000 = 6
    ∧ Reg.MTR_SNAP_WRAP a / 0x100000 = 6 := by
  simp only [Reg.MTR_SNAP_ACC_LO, Reg.MTR_SNAP_ACC_HI, Reg.MTR_SNAP_WRAP]
  omega

theorem State.snapAt_showHealth {a : Nat} (h : a < 40) : s.showHealth.snapAt a = s.snapAt a := by
  obtain ⟨hlo, hhi, hw⟩ := MTR_SNAP_block h
  rw [State.snapAt, s.reg_showHealth_mtr hlo, s.reg_showHealth_mtr hhi, s.reg_showHealth_mtr hw, State.snapAt]

/-! ### MTR_COMMIT (R187) -/

/-- The COMMIT register that holds the bits of the meter points 0 to 31, or 32 to 63. -/
def mtrCommitReg (hi : Bool) : Nat := if hi then Reg.MTR_COMMIT_HI else Reg.MTR_COMMIT_LO

theorem mtrCommitReg_block (hi : Bool) : mtrCommitReg hi / 0x100000 = 6 := by cases hi <;> decide

theorem mtrBit_half (hi : Bool) {i : Nat} (h : i < 32) : mtrBit (i + 32 * bit hi) = (mtrCommitReg hi, i) := by
  cases hi with
  | false => simp [mtrBit, mtrCommitReg, bit, h, Nat.mod_eq_of_lt h]
  | true => simp [mtrBit, mtrCommitReg, bit, Nat.mod_eq_of_lt h]

/-- A meter point runs: it is enabled, and the image holds it. -/
def State.MeterRuns (s : State) (m : Nat) : Prop := s.meterOn m = true ∧ (s.meter m).isSome = true

/-- The COMMIT registers are none of those that hold the switches of a meter point. -/
theorem ne_mtrCommitReg (hi : Bool) (m : Nat) : Reg.MTR_CTRL ≠ mtrCommitReg hi ∧ Reg.MTR_MP_CTRL m ≠ mtrCommitReg hi := by
  have hbounds : 0x600000 < mtrCommitReg hi ∧ mtrCommitReg hi < 0x601000 := by cases hi <;> decide
  simp only [Reg.MTR_CTRL, Reg.MTR_MP_CTRL]
  omega

/-- A COMMIT bit leaves a meter point running. -/
theorem State.MeterRuns.setFlag {s : State} {m : Nat} (h : s.MeterRuns m) (hi : Bool) (n : Nat) (b : Bool) :
    (s.setFlag (mtrCommitReg hi) n b).MeterRuns m := by
  obtain ⟨hon, hsome⟩ := h
  obtain ⟨hctrl, hmp⟩ := ne_mtrCommitReg hi m
  refine ⟨?_, hsome⟩
  rw [State.meterOn, State.flag_congr (State.reg_setFlag_ne _ _ _ _ _ hctrl), State.flag_congr (State.reg_setFlag_ne _ _ _ _ _ hmp),
    ← State.meterOn, hon]

/-- What MTR_COMMIT does for one meter point. -/
def State.askMeter (s : State) (m : Nat) : State :=
  let t := s.setFlag (mtrBit m).1 (mtrBit m).2 true
  if t.meterOn m && (t.meter m).isSome then t else t.commitMeter m

theorem State.askMeter_of_running (hi : Bool) {i : Nat} (hi32 : i < 32) (h : s.MeterRuns (i + 32 * bit hi)) :
    s.askMeter (i + 32 * bit hi) = s.setFlag (mtrCommitReg hi) i true := by
  obtain ⟨hon, hsome⟩ := h.setFlag hi i true
  rw [State.askMeter, mtrBit_half hi hi32]
  exact if_pos (by rw [hon, hsome]; rfl)

theorem exec_mtrCommit (hi : Bool) (mask : Word) : exec (.mtrCommit hi mask) s
    = .next ((List.range 32).foldl (fun (s : State) i => if mask.getLsbD i then s.askMeter (i + 32 * bit hi) else s) s).showHealth := rfl

/-- Where every meter point of a mask runs, each has its COMMIT bit set. -/
theorem State.flag_foldl_askMeter (hi : Bool) (mask : Word) (l : List Nat) {i : Nat} (hi32 : i < 32)
    (h : ∀ k ∈ l, k < 32 ∧ s.MeterRuns (k + 32 * bit hi)) :
    (l.foldl (fun (s : State) k => if mask.getLsbD k then s.askMeter (k + 32 * bit hi) else s) s).flag (mtrCommitReg hi) i
      = (s.flag (mtrCommitReg hi) i || (l.contains i && mask.getLsbD i)) := by
  induction l generalizing s with
  | nil => simp
  | cons k r ih =>
    obtain ⟨hk, hrun⟩ := h k List.mem_cons_self
    have hr : ∀ j ∈ r, j < 32 ∧ s.MeterRuns (j + 32 * bit hi) := fun j hj => h j (List.mem_cons_of_mem _ hj)
    rw [List.foldl_cons]
    split
    next hm =>
      rw [s.askMeter_of_running hi hk hrun, ih _ fun j hj => ⟨(hr j hj).1, (hr j hj).2.setFlag hi k true⟩]
      by_cases hik : i = k
      · subst k
        simp [hi32, hm]
      · simp [State.flag_setFlag_ne _ _ _ _ _ hi32 hik, hik]
    next hm =>
      rw [ih s hr]
      by_cases hik : i = k
      · subst k
        simp [Bool.eq_false_of_not_eq_true hm]
      · simp [hik]

end

/-- Settles O25: a steep that closes opens the next, which the samples that follow keep; the other commands come down to their registers. -/
theorem energyMetering : Obligations.EnergyMetering := by
  unfold Obligations.EnergyMetering
  refine ⟨fun s mp x hx hon hdone => ?_, fun s mp x hx hon hdone ht => ?_, fun s k hk hl hq hidle hgap hd => ?_, fun s k at_ hl hact ht => ?_,
    fun s ht hnone => ?_, fun s => ?_, fun s v hv hw => ⟨?_, ?_⟩, fun s value => ?_, fun s hi mask hrun => ?_⟩
  · obtain ⟨j, hj⟩ := s.closeSteep_steepOf hx
    obtain ⟨y, hy, hsteep⟩ := Option.map_eq_some_iff.mp hj
    obtain ⟨hseq, hstart, -⟩ : y.seq = x.seq + 1 ∧ y.start = s.steepEnd mp x ∧ y.nextN = x.nextN + j := by
      simpa [MeterPoint.steep] using hsteep
    exact ⟨_, y, exec_steepClose_done s hx hon hdone, hy, hseq, hstart⟩
  · obtain ⟨z, hz, hzseq, hznext, hzend⟩ := s.meter_passOver hx (gridFrom (s.steepEnd mp x))
    obtain ⟨j, hj⟩ := State.closeSteep_steepOf _ hz
    rw [hzseq, hznext, hzend] at hj
    obtain ⟨y, hy, hsteep⟩ := Option.map_eq_some_iff.mp hj
    obtain ⟨hseq, hstart, hnext⟩ : y.seq = x.seq + 1 ∧ y.start = s.steepEnd mp x ∧ y.nextN = gridFrom (s.steepEnd mp x) + j := by
      simpa [MeterPoint.steep] using hsteep
    exact ⟨_, y, exec_steepCloseTimeout_due s hx hon hdone ht, hy, hseq, hstart, hnext ▸ Nat.le_add_right _ j⟩
  · have hpulse : ((s.issuePulse k).mirrorPulse k (some s.now)).showHealth.pulse k = (s.issuePulse k).pulse k :=
      State.pulse_congr (by rw [State.showHealth_mtr, State.mirrorPulse_mtr]) k
    rw [s.pulse_issuePulse hl] at hpulse
    refine ⟨_, exec_pulseStart_queued s hk hq hidle hgap hd, by rw [hpulse], by rw [hpulse], ?_, ?_⟩
    · rw [State.reg_showHealth_mtr _ (MTR_PULSE_CNT_block hk), State.reg_mirrorPulse, State.reg_issuePulse_cnt]
    · rw [State.reg_showHealth_mtr _ (MTR_PULSE_PENDING_block hk), State.reg_mirrorPulse, State.reg_issuePulse_pending]
  · have hpulse : ((s.endPulse k).mirrorPulse k none).showHealth.pulse k = (s.endPulse k).pulse k :=
      State.pulse_congr (by rw [State.showHealth_mtr, State.mirrorPulse_mtr]) k
    rw [State.endPulse, s.pulse_modPulse_same _ hl, ← State.endPulse] at hpulse
    exact ⟨_, exec_pulseEnd_due s hact ht, by rw [hpulse], by rw [hpulse], by rw [hpulse]⟩
  · obtain ⟨v, hv, hcopy, htime⟩ := State.startSave_saving { s with mtr := { s.mtr with lastSave := s.elapsed } }
    exact ⟨_, v, exec_meterSavePeriod_due s ht hnone, hv, hcopy, htime, rfl, (State.flag_showHealth_mtr _ (by decide) 8).trans (State.flag_startSave _)⟩
  · refine ⟨_, exec_meterSaveNow s, ?_⟩
    split
    · exact ⟨(State.flag_showHealth_mtr _ (by decide) 0).trans (State.flag_setFlag_same _ _ _ _ (by decide)), rfl⟩
    · exact ⟨rfl, (State.flag_showHealth_mtr _ (by decide) 8).trans (State.flag_startSave _)⟩
  · refine ⟨_, exec_meterSaveDone_alone s hv hw true, s.endSave_saving v true, ?_, ?_⟩
    · rw [State.flag_showHealth_mtr _ (by decide), State.flag_endSave_status]
    · rw [State.reg_showHealth_mtr _ (by decide)]
      refine (State.reg_bump_same _ _).trans ?_
      rw [State.reg_setFlag_ne _ _ _ _ _ (by decide)]
      rfl
  · refine ⟨_, exec_meterSaveDone_alone s hv hw false, s.endSave_saving v false, ?_⟩
    rw [State.reg_showHealth_mtr _ (by decide), s.reg_endSave v false (by decide) (.inr rfl), State.reg_setFlag_ne _ _ _ _ _ (by decide)]
  · refine ⟨_, exec_meterSnapshot s value, ?_, by rw [State.showHealth_mtr, State.showAccs_mtr, State.setReg_mtr], fun a ha => ?_⟩
    · rw [State.reg_showHealth_mtr _ (by decide), State.reg_showAccs_snap, State.reg_setReg_same]
    · simpa [State.snapAt] using (State.snapAt_showHealth _ ha).trans (State.snapAt_showAccs _ ha _)
  · refine ⟨_, exec_mtrCommit s hi mask, fun i hi32 => ?_⟩
    rw [← mtrCommitReg, State.flag_showHealth_mtr _ (mtrCommitReg_block hi), s.flag_foldl_askMeter hi mask _ hi32 fun k hk => ?_]
    · rw [List.contains_iff_mem.mpr (List.mem_range.mpr hi32), Bool.true_and]
    · have hk32 := List.mem_range.mp hk
      exact ⟨hk32, hrun _ (by cases hi <;> simp [bit] <;> omega)⟩

end Sys2Proof.Machine
end

section
/-!
PROOFS of the statement of family 08_oscillations: what leaves the refreshes of the analyser's groups alone, the registers of a completed
refresh, and the commands.
-/
namespace Sys2Proof.Machine

/-! ### A change of a group -/

theorem State.oscGroup_modOsc_same (s : State) (g : Nat) (f : OscGroup → OscGroup) : (s.modOsc g f).oscGroup g = f (s.oscGroup g) := by
  rw [State.oscGroup, State.modOsc, kvGet_kvPut_same, Option.getD_some]

theorem State.oscGroup_modOsc_ne (s : State) {g k : Nat} (f : OscGroup → OscGroup) (h : k ≠ g) : (s.modOsc g f).oscGroup k = s.oscGroup k := by
  rw [State.oscGroup, State.modOsc, kvGet_kvPut_ne _ _ _ _ h, State.oscGroup]

theorem State.reg_modOsc (s : State) (g : Nat) (f : OscGroup → OscGroup) (a : Nat) : (s.modOsc g f).reg a = s.reg a := rfl

/-! ### What leaves the refreshes alone -/

/-- Where the refreshes of a group stand, the rest of the group as at reset: its last instant, and what its last completed refresh found (R195, R200). -/
def OscGroup.standing (x : OscGroup) : OscGroup :=
  { instant := x.instant, lastDone := x.lastDone, lastTag := x.lastTag, basis := x.basis, lastQ := x.lastQ, doneCount := x.doneCount
    doneTotal := x.doneTotal }

/-- The refreshes of every group stay where they stand. -/
structure KeepsRefreshes (s t : State) : Prop where
  standing : ∀ g, (t.oscGroup g).standing = (s.oscGroup g).standing

namespace KeepsRefreshes

variable {s t u : State}

theorem refl (s : State) : KeepsRefreshes s s := ⟨fun _ => rfl⟩

theorem trans (h : KeepsRefreshes s t) (k : KeepsRefreshes t u) : KeepsRefreshes s u :=
  ⟨fun g => (k.standing g).trans (h.standing g)⟩

/-- A fold over what holds a state, each of whose updates keeps the refreshes of that state. -/
theorem foldl_of {σ β : Type} (p : σ → State) (f : σ → β → σ) (h : ∀ x b, KeepsRefreshes (p x) (p (f x b))) (l : List β) (x : σ) :
    KeepsRefreshes (p x) (p (l.foldl f x)) := by
  induction l generalizing x with
  | nil => exact .refl (p x)
  | cons b r ih => exact (h x b).trans (ih _)

theorem foldl {β : Type} (f : State → β → State) (h : ∀ s b, KeepsRefreshes s (f s b)) (l : List β) (s : State) :
    KeepsRefreshes s (l.foldl f s) := foldl_of id f h l s

theorem ite {c : Prop} [Decidable c] (ht : KeepsRefreshes s t) (hu : KeepsRefreshes s u) : KeepsRefreshes s (if c then t else u) := by
  split
  · exact ht
  · exact hu

/-- An update of what is no group of the analyser. -/
theorem of_groups (h : t.osc.groups = s.osc.groups := by rfl) : KeepsRefreshes s t :=
  ⟨fun g => by rw [State.oscGroup, State.oscGroup, h]⟩

theorem bumpBy (s : State) (a n : Nat) : KeepsRefreshes s (s.bumpBy a n) := of_groups

theorem bump (s : State) (a : Nat) : KeepsRefreshes s (s.bump a) := of_groups

theorem setReg (s : State) (a : Nat) (v : Word) : KeepsRefreshes s (s.setReg a v) := of_groups

theorem setField (s : State) (a hi lo v : Nat) : KeepsRefreshes s (s.setField a hi lo v) := of_groups

theorem setFlag (s : State) (a n : Nat) (b : Bool) : KeepsRefreshes s (s.setFlag a n b) := of_groups

theorem log (s : State) (code sev : Nat) (p : List Byte) : KeepsRefreshes s (s.log code sev p) :=
  of_groups (congrArg OscState.groups (s.log_osc code sev p))

/-- A change of a group that leaves its refreshes standing. -/
theorem modOsc (s : State) (g : Nat) {f : OscGroup → OscGroup} (h : ∀ x, (f x).standing = x.standing := by exact fun _ => rfl) :
    KeepsRefreshes s (s.modOsc g f) := by
  refine ⟨fun k => ?_⟩
  by_cases hk : k = g
  · subst k
    rw [State.oscGroup_modOsc_same, h]
  · rw [s.oscGroup_modOsc_ne _ hk]

/-! #### Derived channels (R24, R133) -/

theorem glean (s : State) (n : Nat) (e : GleanEntry) : KeepsRefreshes s (s.glean n e) := by
  unfold State.glean
  extract_lets _ _ _ _ counted _ full
  have hfull : KeepsRefreshes s full := of_groups
  exact ite (ite of_groups (ite hfull (hfull.trans (log full _ _ _)))) of_groups

theorem writeDerived (s : State) (g tag chan : Nat) (a b : Word) (q : Half) (closure : Option Nat) :
    KeepsRefreshes s (s.writeDerived g tag chan a b q closure) := by
  unfold State.writeDerived State.writeWithTq
  extract_lets _ counted
  have hcounted : KeepsRefreshes s counted := of_groups
  split
  · exact of_groups
  · split
    · split
      · exact hcounted.trans (glean counted _ _)
      · exact of_groups
    · exact hcounted

/-! #### Rows and refreshes (R193 to R197, R212) -/

theorem oscCollect (s : State) (g : Nat) : KeepsRefreshes s (s.oscCollect g) := by
  have hsample (t : State) : KeepsRefreshes t (t.oscSample g) := by
    unfold State.oscSample
    exact modOsc t g
  unfold State.oscCollect
  refine ite (refl s) ?_
  extract_lets
  split
  · extract_lets
    exact foldl _ (fun t f => (modOsc t g).trans (hsample _)) _ s
  · exact refl s

theorem addColumns (s : State) (g top : Nat) : KeepsRefreshes s (s.addColumns g top) := by
  unfold State.addColumns
  extract_lets
  dsimp -zeta only
  extract_lets
  exact ite (refl s) ((modOsc s g).trans (bumpBy _ _ _))

theorem applyRevisions (s : State) (g : Nat) : KeepsRefreshes s (s.applyRevisions g) := by
  unfold State.applyRevisions
  extract_lets _ _ _ _ _ _ ks counted replaced
  have hcounted : KeepsRefreshes s counted := of_groups
  have hreplaced : KeepsRefreshes counted replaced := foldl _ (fun t _ => modOsc t g) ks counted
  exact ite (refl s) ((hcounted.trans hreplaced).trans (modOsc replaced g))

theorem showOsc (s : State) (g : Nat) : KeepsRefreshes s (s.showOsc g) := of_groups

/-- A refresh that starts leaves its group's last completed one standing (R195). -/
theorem oscStart (s : State) : KeepsRefreshes s s.oscStart := by
  unfold State.oscStart
  refine ite (refl s) ?_
  split
  · exact (((applyRevisions s _).trans (addColumns _ _ _)).trans (modOsc _ _)).trans (showOsc _ _)
  · exact refl s

theorem oscQueue (s : State) (g tag : Nat) : KeepsRefreshes s (s.oscQueue g tag) := by
  unfold State.oscQueue
  extract_lets _ noted counted asked
  have hnoted : KeepsRefreshes s noted := modOsc s g
  have hcounted : KeepsRefreshes noted counted := bump noted _
  have hasked : KeepsRefreshes noted asked := ite (hcounted.trans (log counted _ _ _)) (refl noted)
  exact ite (hnoted.trans (bump noted _)) ((hnoted.trans hasked).trans (modOsc asked g))

theorem oscRefreshes (s : State) : KeepsRefreshes s s.oscRefreshes := by
  unfold State.oscRefreshes
  extract_lets gs collected queued
  have hcollected : KeepsRefreshes s collected := foldl _ (fun t g => oscCollect t g) gs s
  have hqueued : KeepsRefreshes collected queued :=
    foldl _ (fun t g => foldl _ (fun u tag => ite (oscQueue u g tag) (refl u)) _ t) gs collected
  exact (hcollected.trans hqueued).trans (oscStart queued)

/-! #### Results (R199, R200) -/

theorem oscPub (s : State) (g tag : Nat) (closure : Option Nat) : KeepsRefreshes s (s.oscPub g tag closure) := by
  unfold State.oscPub
  extract_lets _ _ _ modes m _ thin _ _ _ _ aged told noted put dated
  have hput (t : State) (c : Nat) (v : Option (Word × Word)) : KeepsRefreshes t (put t c v) := by
    unfold put
    split <;> exact writeDerived t _ _ _ _ _ _ _
  have haged : KeepsRefreshes s aged := ite (refl s) of_groups
  have htold : KeepsRefreshes aged told := ite (log aged _ _ _) (refl aged)
  have hnoted : KeepsRefreshes told noted := modOsc told g
  have hdated : KeepsRefreshes noted dated := writeDerived noted _ _ _ _ _ _ _
  refine ite (refl s) ((((haged.trans htold).trans hnoted).trans hdated).trans (foldl _ (fun t i => ?_) _ dated))
  extract_lets _ _ first second
  have hmode : KeepsRefreshes t second := (hput t _ _).trans (hput first _ _)
  exact ite (hmode.trans (foldl _ (fun u j => hput u _ _) _ second)) hmode

theorem publishDue (s : State) (rg : Nat) (f : Furrow) : KeepsRefreshes s (s.publishDue rg f) :=
  
  foldl _ (fun t _ => ite ((oscPub t _ _ _).trans (modOsc _ _)) (refl t)) _ s

/-! #### Band monitors (R204 to R207) -/

theorem bandEvents (s : State) (i k : Nat) (b : BandState) : KeepsRefreshes s (s.bandEvents i k b).1 := by
  unfold State.bandEvents
  extract_lets one
  have hone (x : State × BandState) (j code sev : Nat) (on : Bool) : KeepsRefreshes x.1 (one x j code sev on).1 := by
    unfold one
    split
    · exact log x.1 _ _ _
    · exact refl x.1
  exact trans (trans (hone (s, b) _ _ _ _) (hone _ _ _ _ _)) (hone _ _ _ _ _)

theorem forcedChanged (s : State) (i k : Nat) (was now : Bool) : KeepsRefreshes s (s.forcedChanged i k was now) := by
  have hactive (on : Bool) : KeepsRefreshes s (s.setActive on) := by cases on <;> exact of_groups
  unfold State.forcedChanged
  exact ite (refl s) (hactive now)

theorem showMonitor (s : State) : KeepsRefreshes s s.showMonitor := by
  unfold State.showMonitor
  extract_lets
  split
  · extract_lets _ _ _ _ _ _ _ shown
    have hshown : KeepsRefreshes s shown := (((setReg s _ _).trans (setReg _ _ _)).trans (setField _ _ _ _ _)).trans (setFlag _ _ _ _)
    exact hshown.trans (foldl _ (fun t b => of_groups) _ shown)
  · exact foldl _ (fun t k => ite (refl t) of_groups) _ s

theorem copyOutputs (s : State) (g tag : Nat) (l : List (Nat × Slot)) (closure : Option Nat) :
    KeepsRefreshes s (s.copyOutputs g tag l closure) := foldl _ (fun t _ => writeDerived t _ _ _ _ _ _ _) l s

theorem modMonitor (s : State) (i : Nat) (f : MonitorState → MonitorState) : KeepsRefreshes s (s.modMonitor i f) := of_groups

theorem oscBand (s : State) (i g n tag lc : Nat) (closure : Option Nat) : KeepsRefreshes s (s.oscBand i g n tag lc closure) := by
  unfold State.oscBand
  split
  · refine ite (refl s) ?_
    extract_lets _ _ _ _ reset _ _ _ _ old _ _ halved _ judged counted _
    have hcounted : KeepsRefreshes s counted := ite of_groups (refl s)
    generalize hevents : List.foldl _ (counted, []) judged = events
    have htold : KeepsRefreshes s events.1 := by
      rw [← hevents]
      refine hcounted.trans (foldl_of (σ := State × List BandState) Prod.fst _ (fun p y => ?_) judged (counted, []))
      exact bandEvents p.1 i _ y
    obtain ⟨told, bands⟩ := events
    dsimp -zeta only
    extract_lets noted forced shown copied _ vals written outs
    have hnoted : KeepsRefreshes s noted := htold.trans (modMonitor told i _)
    have hforced : KeepsRefreshes s forced := hnoted.trans (foldl _ (fun t b => forcedChanged t i b _ _) _ noted)
    have hshown : KeepsRefreshes s shown := ite ((hforced.trans (setFlag forced _ _ _)).trans (showMonitor _)) hforced
    have hcopied : KeepsRefreshes s copied := hshown.trans (copyOutputs shown g tag _ closure)
    have hwritten : KeepsRefreshes s written := hshown.trans (foldl _ (fun t _ => writeDerived t _ _ _ _ _ _ _) vals shown)
    exact ite (ite (hcopied.trans (modMonitor copied i _)) hcopied) (hwritten.trans (modMonitor written i _))
  · exact refl s

theorem monitorsDue (s : State) (g : Nat) (f : Furrow) : KeepsRefreshes s (s.monitorsDue g f) :=
  foldl _ (fun t _ => ite (oscBand t _ _ _ _ _ _) (refl t)) _ s

/-! #### Source location (R208 to R210) -/

/-- The old state of the analyser is a parameter of its own: the kernel then compares the two states as they are written, without evaluating the
conditions they stand under. -/
theorem setLocated (s : State) {x : OscState} (h : x = s.osc) (l : List (Nat × Slot)) (b : Bool) :
    KeepsRefreshes s { s with osc := { x with locLast := l, locLogged := b } } := by
  subst h
  exact of_groups

theorem oscDef (s : State) (n tag : Nat) (closure : Option Nat) : KeepsRefreshes s (s.oscDef n tag closure) := by
  unfold State.oscDef
  refine ite (refl s) ?_
  extract_lets _ _ ran _ _ out
  have hran : KeepsRefreshes s ran := of_groups
  have hout (t : State) (l : List (Nat × Slot)) : KeepsRefreshes t (out t l) := foldl _ (fun u _ => writeDerived u _ _ _ _ _ _ _) l t
  refine ite (hran.trans (hout ran _)) ?_
  dsimp -zeta only
  extract_lets _ stepped _ _ _ _ _ shown told osc located
  have hstepped : KeepsRefreshes s stepped := of_groups
  have hshown : KeepsRefreshes s shown := (hstepped.trans (setFlag stepped _ _ _)).trans (setField _ _ _ _ _)
  have htold : KeepsRefreshes s told := ite (hshown.trans (log shown _ _ _)) hshown
  have hlocated : KeepsRefreshes told located := setLocated told (x := osc) rfl _ _
  exact ite (hstepped.trans (copyOutputs stepped _ _ _ _)) ((htold.trans hlocated).trans (hout located _))

theorem locationDue (s : State) (g : Nat) (f : Furrow) : KeepsRefreshes s (s.locationDue g f) := ite (oscDef s _ _ _) (refl s)

/-- What the rows now allow the analyser completes no refresh and passes no instant (R195). -/
theorem oscDue (s : State) : KeepsRefreshes s s.oscDue := by
  refine ite (refl s) ((foldl _ (fun t x => foldl _ (fun u f => ?_) _ t) _ s).trans (oscRefreshes _))
  exact ((publishDue u _ f).trans (monitorsDue _ _ f)).trans (locationDue _ _ _)

/-! #### Slots (R198) -/

theorem slotAlarm (s : State) (g i zetaAlarm : Nat) : KeepsRefreshes s (s.slotAlarm g i zetaAlarm) := by
  unfold State.slotAlarm
  extract_lets
  split
  · extract_lets _ marked
    have hmarked : KeepsRefreshes s marked := modOsc s g
    exact ite (hmarked.trans (log marked _ _ _)) hmarked
  · exact refl s

theorem showHealth (s : State) : KeepsRefreshes s s.showHealth := of_groups

theorem showSlots (s : State) (g : Nat) : KeepsRefreshes s (s.showSlots g) := foldl _ (fun _ _ => of_groups) _ s

end KeepsRefreshes

/-! ### The registers of a completed refresh (R195, R213) -/

/-- A register that counts the completed refreshes or holds the tag of the last one. -/
def IsRefreshReg (a : Nat) : Prop :=
  a = Reg.OSC_CNT_REFRESH ∨ ∃ g, a = Reg.OSC_G_CNT_REFRESH g ∨ a = Reg.OSC_G_LAST_LO g ∨ a = Reg.OSC_G_LAST_HI g

/-- The registers of a group's completed refreshes lie in the OSC block. -/
theorem OSC_G_block {g : Nat} (h : g < 32) : Reg.OSC_G_CNT_REFRESH g / 0x100000 = 7 ∧ Reg.OSC_G_LAST_LO g / 0x100000 = 7
    ∧ Reg.OSC_G_LAST_HI g / 0x100000 = 7 := by
  simp only [Reg.OSC_G_CNT_REFRESH, Reg.OSC_G_LAST_LO, Reg.OSC_G_LAST_HI]
  omega

/-- The registers that a group's state and the start of its next refresh show in, its slots apart. -/
def oscShownRegs (g : Nat) : List Nat :=
  [Reg.OSC_G_STATUS g, Reg.OSC_STATUS, Reg.OSC_G_USABLE g, Reg.OSC_G_CNT_UNUSABLE g, Reg.OSC_G_CNT_REVISED g, Reg.OSC_CNT_NOTICES,
   Reg.OSC_G_DURATION g]

section
variable {a : Nat} (ha : IsRefreshReg a)
include ha

theorem IsRefreshReg.not_mem_shown (g : Nat) : a ∉ oscShownRegs g := by
  simp only [oscShownRegs, List.mem_cons, List.not_mem_nil, or_false, Reg.OSC_G_STATUS, Reg.OSC_STATUS, Reg.OSC_G_USABLE,
    Reg.OSC_G_CNT_UNUSABLE, Reg.OSC_G_CNT_REVISED, Reg.OSC_CNT_NOTICES, Reg.OSC_G_DURATION]
  obtain rfl | ⟨k, rfl | rfl | rfl⟩ := ha
  all_goals simp only [Reg.OSC_CNT_REFRESH, Reg.OSC_G_CNT_REFRESH, Reg.OSC_G_LAST_LO, Reg.OSC_G_LAST_HI]; omega

theorem IsRefreshReg.ne_slot (g : Nat) {i : Nat} (hi : i < 16) : a ≠ Reg.OSC_G_SLOT_F g i ∧ a ≠ Reg.OSC_G_SLOT_Z g i := by
  simp only [Reg.OSC_G_SLOT_F, Reg.OSC_G_SLOT_Z]
  obtain rfl | ⟨k, rfl | rfl | rfl⟩ := ha
  all_goals simp only [Reg.OSC_CNT_REFRESH, Reg.OSC_G_CNT_REFRESH, Reg.OSC_G_LAST_LO, Reg.OSC_G_LAST_HI]; omega

variable (s : State)

theorem State.reg_showSlots (g : Nat) : (s.showSlots g).reg a = s.reg a := by
  refine foldl_keeps_mem _ (fun t : State => t.reg a) _ (fun t i hi => ?_) s
  obtain ⟨hf, hz⟩ := ha.ne_slot g (List.mem_range.mp hi)
  exact (State.reg_setReg_ne _ _ _ _ hz).trans (t.reg_setReg_ne _ _ _ hf)

theorem State.reg_showOsc (g : Nat) : (s.showOsc g).reg a = s.reg a := by
  have h := ha.not_mem_shown g
  simp only [oscShownRegs, List.mem_cons, List.not_mem_nil, or_false, not_or] at h
  obtain ⟨hstatus, hosc, husable, -⟩ := h
  unfold State.showOsc
  rw [State.reg_setReg_ne _ _ _ _ husable, State.reg_setFlag_ne _ _ _ _ _ hosc, State.reg_setField_ne _ _ _ _ _ _ hstatus,
    State.reg_setFlag_ne _ _ _ _ _ hstatus, State.reg_setFlag_ne _ _ _ _ _ hstatus, State.reg_setFlag_ne _ _ _ _ _ hstatus]

theorem State.reg_addColumns (g top : Nat) : (s.addColumns g top).reg a = s.reg a := by
  have h : a ≠ Reg.OSC_G_CNT_UNUSABLE g := fun e => ha.not_mem_shown g (by simp [oscShownRegs, e])
  unfold State.addColumns
  extract_lets
  dsimp -zeta only
  extract_lets
  split
  · rfl
  · exact State.reg_bumpBy_ne _ _ _ _ h

theorem State.reg_applyRevisions (g : Nat) : (s.applyRevisions g).reg a = s.reg a := by
  have hrevised : a ≠ Reg.OSC_G_CNT_REVISED g := fun e => ha.not_mem_shown g (by simp [oscShownRegs, e])
  have hnotices : a ≠ Reg.OSC_CNT_NOTICES := fun e => ha.not_mem_shown g (by simp [oscShownRegs, e])
  unfold State.applyRevisions
  extract_lets _ _ _ _ _ _ ks counted replaced
  have hcounted : counted.reg a = s.reg a := (State.reg_bumpBy_ne _ _ _ _ hrevised).trans (s.reg_bumpBy_ne _ _ _ hnotices)
  have hreplaced : replaced.reg a = counted.reg a := by
    refine foldl_keeps _ (fun t : State => t.reg a) (fun t k => ?_) ks counted
    rfl
  split
  · rfl
  · exact hreplaced.trans hcounted

theorem State.reg_oscStart : s.oscStart.reg a = s.reg a := by
  unfold State.oscStart
  split
  · rfl
  · split
    · rw [State.reg_showOsc ha, State.reg_modOsc, State.reg_addColumns ha, State.reg_applyRevisions ha]
    · rfl

end

/-! ### OSC_REFRESH_INSTANT (R195) -/

section
variable (s : State)

/-- A group passes a refresh instant and awaits the sections of its tag. -/
def State.passInstant (s : State) (g i : Nat) : State :=
  s.modOsc g (fun x => { x with instant := i, waiting := x.waiting ++ [tagFrom (s.rate (s.oscRg g)) i] })

theorem State.instant_passInstant (g i : Nat) : ((s.passInstant g i).oscGroup g).instant = i :=
  congrArg OscGroup.instant (s.oscGroup_modOsc_same g _)

/-- The latest refresh instant of a group. -/
def State.latestInstant (s : State) (g : Nat) : Nat :=
  let iv := s.field (Reg.OSC_G_REFRESH g) 13 0 * 1000000
  s.now / max 1 iv * iv

theorem exec_oscRefreshInstant_due {g : Nat} (hon : s.oscOn g = true) (h : (s.oscGroup g).instant < s.latestInstant g) :
    exec (.oscRefreshInstant g) s = .next (s.oscDue.passInstant g (s.latestInstant g)).oscDue.showHealth :=
  congrArg answer (if_pos (Bool.and_eq_true_iff.mpr ⟨hon, decide_eq_true h⟩))

/-! ### OSC_REFRESH_DONE (R196, R198) -/

/-- The slots of a group once the modes that a refresh kept have taken theirs, those without a mode empty. -/
def OscGroup.tracked (x : OscGroup) (run : OscRun) : List OscSlot :=
  let y := assign run.kept ((x.slots ++ List.replicate (run.modes - x.slots.length) (OscSlot.mk none 0 false)).take run.modes) []
  y.1.mapIdx (fun i z => if y.2.contains i then z else OscSlot.mk none 0 false)

/-- A group as a completed refresh leaves it. -/
def OscGroup.complete (x : OscGroup) (run : OscRun) (t : Nat) : OscGroup :=
  { x with
    running := none, basis := run.basis, slots := x.tracked run, lastDone := t, lastTag := some run.tag, lastQ := run.q
    doneCount := run.count, doneTotal := run.total }

/-- The results that a group stands at after a completed refresh. -/
theorem OscGroup.results_of_standing {x y : OscGroup} {run : OscRun} {t : Nat} (h : x.standing = (y.complete run t).standing) :
    x.lastTag = some run.tag ∧ x.lastDone = t ∧ x.basis = run.basis ∧ x.lastQ = run.q ∧ x.doneCount = run.count ∧ x.doneTotal = run.total :=
  ⟨congrArg OscGroup.lastTag h, congrArg OscGroup.lastDone h, congrArg OscGroup.basis h, congrArg OscGroup.lastQ h,
    congrArg OscGroup.doneCount h, congrArg OscGroup.doneTotal h⟩

/-- A completed refresh enters its group, and slots whose damping has fallen too low are told. -/
def State.takeRun (s : State) (g : Nat) (run : OscRun) : State :=
  (List.range ((s.oscGroup g).tracked run).length).foldl (fun (s : State) i => s.slotAlarm g i run.zetaAlarm)
    (s.modOsc g (fun x => x.complete run s.elapsed))

/-- A completed refresh is counted and its tag shown. -/
def State.countRun (s : State) (g tag : Nat) : State :=
  ((s.bump Reg.OSC_CNT_REFRESH).bump (Reg.OSC_G_CNT_REFRESH g)).setPair (Reg.OSC_G_LAST_LO g) (Reg.OSC_G_LAST_HI g) tag

/-- How long a completed refresh took and what it found is shown, and the matrix unit goes on. -/
def State.showRun (s : State) (g : Nat) (duration modes : Nat) : State :=
  ((((s.setReg (Reg.OSC_G_DURATION g) (Word.ofNat duration)).setField (Reg.OSC_G_STATUS g) 20 16 modes).showSlots g).showOsc g).oscStart

theorem exec_oscRefreshDone_running {g : Nat} {run : OscRun} (h : (s.oscGroup g).running = some run) :
    exec (.oscRefreshDone g) s
      = .next (((s.takeRun g run).countRun g run.tag).showRun g ((s.elapsed - run.startAt) / 1000) run.kept.length).showHealth := by
  change execOscRefreshDone g s = _
  unfold execOscRefreshDone
  rw [h]
  rfl

theorem KeepsRefreshes.countRun (g tag : Nat) : KeepsRefreshes s (s.countRun g tag) := .of_groups

theorem KeepsRefreshes.showRun (g duration modes : Nat) : KeepsRefreshes s (s.showRun g duration modes) :=
  (((((setReg s _ _).trans (setField _ _ _ _ _)).trans (showSlots _ g)).trans (showOsc _ g)).trans (oscStart _))

/-- A completed refresh stands in its group after all that follows it. -/
theorem State.standing_showHealth_showRun (g : Nat) (run : OscRun) (duration modes : Nat) :
    ((((s.takeRun g run).countRun g run.tag).showRun g duration modes).showHealth.oscGroup g).standing
      = ((s.oscGroup g).complete run s.elapsed).standing := by
  have htaken : ((s.takeRun g run).oscGroup g).standing = ((s.oscGroup g).complete run s.elapsed).standing :=
    ((KeepsRefreshes.foldl _ (fun t i => .slotAlarm t g i _) _ _).standing g).trans (congrArg OscGroup.standing (s.oscGroup_modOsc_same g _))
  exact (((KeepsRefreshes.trans (.countRun _ g run.tag) (.showRun _ g duration modes)).trans (.showHealth _)).standing g).trans htaken

theorem State.reg_takeRun (g : Nat) (run : OscRun) {a : Nat} (h : a / 0x100000 < 12) :
    (s.takeRun g run).reg a = s.reg a := by
  refine (foldl_keeps _ (fun t : State => t.reg a) (fun t i => ?_) _ _).trans rfl
  unfold State.slotAlarm
  extract_lets
  split
  · exact State.reg_ite (fun _ => State.reg_log _ _ _ _ _ (by decide) (not_mem_logRegs_of_block h)) (fun _ => rfl)
  · rfl

theorem State.reg_showHealth_showRun {a : Nat} (ha : IsRefreshReg a) (hb : a / 0x100000 = 7) (g duration modes : Nat) :
    (s.showRun g duration modes).showHealth.reg a = s.reg a := by
  have hduration : a ≠ Reg.OSC_G_DURATION g := fun e => ha.not_mem_shown g (by simp [oscShownRegs, e])
  have hstatus : a ≠ Reg.OSC_G_STATUS g := fun e => ha.not_mem_shown g (by simp [oscShownRegs, e])
  rw [State.reg_showHealth_of_block _ (by omega), State.showRun, State.reg_oscStart ha, State.reg_showOsc ha, State.reg_showSlots ha,
    State.reg_setField_ne _ _ _ _ _ _ hstatus, State.reg_setReg_ne _ _ _ _ hduration]

/-- The count and the tag of a completed refresh stand in their registers. -/
theorem State.reg_countRun (g tag : Nat) :
    (s.countRun g tag).reg Reg.OSC_CNT_REFRESH = satWord ((s.reg Reg.OSC_CNT_REFRESH).toNat + 1)
      ∧ (s.countRun g tag).reg (Reg.OSC_G_CNT_REFRESH g) = satWord ((s.reg (Reg.OSC_G_CNT_REFRESH g)).toNat + 1)
      ∧ (s.countRun g tag).reg (Reg.OSC_G_LAST_LO g) = Word.ofNat tag ∧ (s.countRun g tag).reg (Reg.OSC_G_LAST_HI g) = Word.ofNat (tag / 2 ^ 32) := by
  have hne : Reg.OSC_CNT_REFRESH ≠ Reg.OSC_G_LAST_LO g ∧ Reg.OSC_CNT_REFRESH ≠ Reg.OSC_G_LAST_HI g ∧ Reg.OSC_CNT_REFRESH ≠ Reg.OSC_G_CNT_REFRESH g
      ∧ Reg.OSC_G_CNT_REFRESH g ≠ Reg.OSC_G_LAST_LO g ∧ Reg.OSC_G_CNT_REFRESH g ≠ Reg.OSC_G_LAST_HI g
      ∧ Reg.OSC_G_LAST_LO g ≠ Reg.OSC_G_LAST_HI g := by
    simp only [Reg.OSC_CNT_REFRESH, Reg.OSC_G_CNT_REFRESH, Reg.OSC_G_LAST_LO, Reg.OSC_G_LAST_HI]
    omega
  obtain ⟨hlo, hhi, hcount, hglo, hghi, hlohi⟩ := hne
  unfold State.countRun
  refine ⟨?_, ?_, ?_, State.reg_setReg_same _ _ _⟩
  · rw [State.reg_setPair_ne _ _ _ _ _ hlo hhi, State.reg_bump_ne _ _ _ hcount, State.reg_bump_same]
  · rw [State.reg_setPair_ne _ _ _ _ _ hglo hghi, State.reg_bump_same, State.reg_bump_ne _ _ _ hcount.symm]
  · rw [State.setPair, State.reg_setReg_ne _ _ _ _ hlohi, State.reg_setReg_same]

/-! ### OSC_COMMIT (R213) -/

/-- What OSC_COMMIT does for one group. -/
def State.askOsc (s : State) (g : Nat) : State :=
  if ((s.setFlag Reg.OSC_COMMIT g true).group g).isSome then s.setFlag Reg.OSC_COMMIT g true else (s.setFlag Reg.OSC_COMMIT g true).commitOsc g

theorem State.askOsc_of_running {g : Nat} (h : (s.group g).isSome = true) : s.askOsc g = s.setFlag Reg.OSC_COMMIT g true := if_pos h

theorem exec_oscCommit (mask : Word) : exec (.oscCommit mask) s
    = .next ((List.range 4).foldl (fun (s : State) g => if mask.getLsbD g then s.askOsc g else s) s).showHealth := rfl

end

/-- Settles O26: what follows an instant or a completed refresh leaves it standing, and the commits come down to their register. -/
theorem oscillationRefresh : Obligations.OscillationRefresh := by
  unfold Obligations.OscillationRefresh
  refine ⟨fun s g _ hon hdue => ?_, fun s g run hg hrun => ?_, fun s mask hrun => ?_⟩
  · refine ⟨_, exec_oscRefreshInstant_due s hon hdue, ?_⟩
    exact (congrArg OscGroup.instant ((KeepsRefreshes.trans (.oscDue _) (.showHealth _)).standing g)).trans (State.instant_passInstant _ _ _)
  · refine ⟨_, exec_oscRefreshDone_running s hrun, ?_⟩
    have hstanding := s.standing_showHealth_showRun g run ((s.elapsed - run.startAt) / 1000) run.kept.length
    obtain ⟨hcount, hgroup, hlo, hhi⟩ := (s.takeRun g run).reg_countRun g run.tag
    obtain ⟨hbgroup, hblo, hbhi⟩ := OSC_G_block hg
    refine ⟨?_, ?_, ?_, ?_, OscGroup.results_of_standing hstanding⟩
    · rw [State.reg_showHealth_showRun _ (.inl rfl) (by decide), hcount, s.reg_takeRun g run (by decide)]
    · rw [State.reg_showHealth_showRun _ (.inr ⟨g, .inl rfl⟩) hbgroup, hgroup, s.reg_takeRun g run (by omega)]
    · rw [State.reg_showHealth_showRun _ (.inr ⟨g, .inr (.inl rfl)⟩) hblo, hlo]
    · rw [State.reg_showHealth_showRun _ (.inr ⟨g, .inr (.inr rfl)⟩) hbhi, hhi]
  · refine ⟨_, exec_oscCommit s mask, fun g hg => ?_⟩
    rw [State.flag_showHealth_ne _ _ _ (by decide),
      s.flag_foldl_ask (fun t k hk => t.askOsc_of_running hk) mask _ (by omega) (fun k hk => hrun k (List.mem_range.mp hk)),
      List.contains_iff_mem.mpr (List.mem_range.mpr hg), Bool.true_and]

end Sys2Proof.Machine
end

section
/-!
PROOFS for the statements of family 09_topology_state_islands: what a completion and an entry of the journal leave
alone, and how a long operation starts, commits a step and ends.
-/
namespace Sys2Proof.Machine

/-! ### What a completion and an entry of the journal leave alone (R343, R347) -/

/-- Device Time, the topology, the engines and the running operations stay as they are, and so do the registers of the blocks up to TOP. -/
structure KeepsOps (s t : State) : Prop where
  tim : t.tim = s.tim
  top : t.top = s.top
  dfs : t.dfs = s.dfs
  ops : t.hif.ops = s.hif.ops
  reg : ∀ a, a < 0x900000 → t.reg a = s.reg a

namespace KeepsOps

variable {s t u : State}

theorem refl (s : State) : KeepsOps s s := ⟨rfl, rfl, rfl, rfl, fun _ _ => rfl⟩

theorem trans (h : KeepsOps s t) (k : KeepsOps t u) : KeepsOps s u :=
  ⟨k.tim.trans h.tim, k.top.trans h.top, k.dfs.trans h.dfs, k.ops.trans h.ops, fun a ha => (k.reg a ha).trans (h.reg a ha)⟩

theorem foldl {β : Type} (f : State → β → State) (h : ∀ s b, KeepsOps s (f s b)) (l : List β) (s : State) : KeepsOps s (l.foldl f s) := by
  induction l generalizing s with
  | nil => exact .refl s
  | cons b r ih => exact (h s b).trans (ih _)

theorem ite {c : Prop} [Decidable c] (ht : KeepsOps s t) (hu : KeepsOps s u) : KeepsOps s (if c then t else u) := by
  split
  · exact ht
  · exact hu

theorem setReg (s : State) {a : Nat} (v : Word) (h : 0x900000 ≤ a) : KeepsOps s (s.setReg a v) :=
  { refl s with reg := fun b hb => s.reg_setReg_ne a b v (by omega) }

theorem bump (s : State) {a : Nat} (h : 0x900000 ≤ a) : KeepsOps s (s.bump a) := setReg s _ h

theorem of_hlt (s : State) (x : HltState) : KeepsOps s { s with hlt := x } := { refl s with }

theorem of_hif (s : State) {x : HifState} (h : x.ops = s.hif.ops) : KeepsOps s { s with hif := x } := { refl s with ops := h }

theorem withTwn (s : State) (x : TwnState) : KeepsOps s { s with twn := x } := { refl s with }

theorem read (s : State) (l : List Word) : KeepsOps s { s with readData := l } := { refl s with }

theorem writeDram (s : State) (a : Nat) (l : List Byte) : KeepsOps s (s.writeDram a l) := { refl s with }

theorem log (s : State) (code sev : Nat) (p : List Byte) (h : sev ≤ 4) : KeepsOps s (s.log code sev p) where
  tim := s.log_tim _ _ _
  top := s.log_top _ _ _
  dfs := s.log_dfs _ _ _
  ops := congrArg HifState.ops (s.log_hif _ _ _)
  reg _ ha := s.reg_log _ _ _ _ h (not_mem_logRegs_of_block (by omega))

theorem setQueue (s : State) (q : Nat) (x : QueueState) : KeepsOps s (s.setQueue q x) := of_hif s rfl

theorem raiseVector (s : State) (v : Nat) : KeepsOps s (s.raiseVector v) := of_hif s rfl

/-! #### Error reports (R445 to R450) -/

theorem escalate (s : State) (e : ErrorRec) (g : Nat) : KeepsOps s (s.escalate e g) :=
  (log s _ _ _ (by decide)).trans (bump _ (by decide))

theorem gradeE2 (s : State) (e : ErrorRec) : KeepsOps s (s.gradeE2 e).2 := by
  have hcount : KeepsOps s (s.countE2 e.source) := of_hlt s _
  unfold State.gradeE2
  dsimp only
  split
  · split
    · exact hcount.trans (escalate _ _ _)
    · exact hcount
  · exact refl s

theorem gradeE3 (s : State) (e : ErrorRec) : KeepsOps s (s.gradeE3 e).2 := by
  have hmark : KeepsOps s (s.markE3 (blockOf e.source)) := of_hlt s _
  unfold State.gradeE3
  dsimp only
  split
  · split
    · exact hmark
    · split
      · exact hmark.trans (escalate _ _ _)
      · exact hmark
  · exact refl s

theorem noteLast (s : State) (e : ErrorRec) : KeepsOps s (s.noteLast e) :=
  ((((bump s (Nat.le_add_right_of_le (by decide))).trans (setReg _ _ (by decide))).trans (setReg _ _ (by decide))).trans
    (setReg _ _ (by decide))).trans (setReg _ _ (by decide))

theorem contain (s : State) (e : ErrorRec) : KeepsOps s (s.contain e) := by
  unfold State.contain State.beginE4
  refine ite (ite (refl s) ?_) (refl s)
  extract_lets _ _ _ off
  have hoff : KeepsOps s off := { refl s with }
  exact ite (hoff.trans (log off _ _ _ (by decide))) hoff

theorem preempt (s : State) (x : StackEntry) : KeepsOps s (s.preempt x) := by
  unfold State.preempt
  split
  · exact (of_hlt s _).trans (bump _ (by decide))
  · exact of_hlt s _

theorem stackError (s : State) (x : StackEntry) : KeepsOps s (s.stackError x) := by
  have hlost : KeepsOps s (s.bump Reg.HLT_CNT_STACK_LOST) := bump s (by decide)
  unfold State.stackError
  split
  · exact preempt s x
  · exact ite (ite (preempt s x) (of_hlt s _))
      (ite (ite hlost ((hlost.trans (log _ _ _ _ (by decide))).trans (of_hlt _ _))) (preempt s x))

theorem showStack (s : State) : KeepsOps s s.showStack :=
  ((setReg s _ (by decide)).trans (setReg _ _ (by decide))).trans (setReg _ _ (by decide))

theorem holdError (s0 s : State) (e : ErrorRec) : KeepsOps s (s.holdError s0 e) := by
  have hnotice (t : State) : KeepsOps t (s0.noticeHealth t) := ite (raiseVector t _) (refl t)
  exact (((of_hlt s _).trans (stackError _ _)).trans (showStack _)).trans (hnotice _)

theorem raiseError (s : State) (e : ErrorRec) : KeepsOps s (s.raiseError e) := by
  rw [State.raiseError_eq, State.gradeError_eq]
  exact ((((gradeE2 s e).trans (gradeE3 _ _)).trans (noteLast _ _)).trans (contain _ _)).trans (holdError _ _ _)

/-! #### Queues (R334 to R341) -/

theorem showOpen (s : State) (q : Nat) : KeepsOps s (s.showOpen q) := setReg s _ (Nat.le_add_right_of_le (by decide))

theorem qReset (s : State) (q : Nat) : KeepsOps s (s.qReset q) := by
  unfold State.qReset
  extract_lets x lost emptied answered counted told shown
  have hemptied : KeepsOps s emptied := setQueue s q _
  have hanswered : KeepsOps emptied answered := foldl _ (fun t w => read t (List.replicate w.n 0xFFFFFFFE#32)) x.waits emptied
  have hcounted : KeepsOps answered counted := setReg answered _ (Nat.le_add_right_of_le (by decide))
  have htold : KeepsOps counted told := bump counted (Nat.le_add_right_of_le (by decide))
  have hshown : KeepsOps told shown := (setReg told _ (Nat.le_add_right_of_le (by decide))).trans (showOpen _ q)
  exact (((((hemptied.trans hanswered).trans hcounted).trans htold).trans hshown).trans (log shown _ _ _ (by decide))).trans (raiseError _ _)

theorem qCheck (s : State) (q : Nat) : KeepsOps s (s.qCheck q) := ite (refl s) (qReset s q)

theorem qIrq (s : State) (q : Nat) : KeepsOps s (s.qIrq q) := ite ((setQueue s q _).trans (raiseVector _ _)) (refl s)

theorem qPopped (s : State) (q : Nat) : KeepsOps s (s.qPopped q) :=
  ite (refl s) (ite ((setQueue s q _).trans (qIrq _ q)) (setQueue s q _))

theorem qServe (q n : Nat) (s : State) : KeepsOps s (State.qServe q n s) := by
  induction n generalizing s with
  | zero => exact refl s
  | succ n ih =>
    unfold State.qServe
    extract_lets
    split
    · exact ite ((((read s _).trans (setQueue _ q _)).trans (qPopped _ q)).trans (ih _)) (refl s)
    · exact refl s

theorem qAppend (s : State) (q : Nat) (p : Packet) : KeepsOps s (s.qAppend q p) :=
  (((setQueue s q _).trans (bump _ (Nat.le_add_right_of_le (by decide)))).trans (qIrq _ q)).trans (qServe q _ _)

theorem qOffer {q kind : Nat} {words : List Word} (h : s.qOffer q kind words = some t) : KeepsOps s t := by
  unfold State.qOffer at h
  dsimp only at h
  split at h
  · cases h
    exact (qCheck s q).trans (qAppend _ q _)
  · cases h

/-! #### Completions and the journal (R343 to R347) -/

theorem post (s : State) (w : List Word) : KeepsOps s (s.post w) := by
  unfold State.post
  extract_lets _ wait
  have hwait : KeepsOps s wait := of_hif s rfl
  refine ite ?_ hwait
  split
  · exact qOffer ‹_›
  · exact hwait

theorem putJournal (s : State) (e : JournalEntry) : KeepsOps s (s.putJournal e) := by
  unfold State.putJournal
  extract_lets _ _ _ _ noted written
  have hnoted : KeepsOps s noted := of_hif s rfl
  have hwritten : KeepsOps noted written := writeDram noted _ _
  exact ite ((hnoted.trans hwritten).trans (withTwn written _)) (hnoted.trans hwritten)

theorem newHandle (s : State) : KeepsOps s s.newHandle.2 := by
  unfold State.newHandle
  split
  · exact of_hif s rfl
  · split
    · exact of_hif s rfl
    · exact refl s

theorem freeHandle (s : State) (h : Nat) : KeepsOps s (s.freeHandle h) := of_hif s rfl

theorem showOps (s : State) : KeepsOps s s.showOps := setReg s _ (by decide)

end KeepsOps

/-! ### Long operations and their journal entries (R343, R347) -/

section
variable (s : State)

theorem State.elapsed_of_tim {s t : State} (h : t.tim = s.tim) : t.elapsed = s.elapsed := congrArg (fun x : TimState => 64 * x.ticks / 25) h

theorem State.now_of_tim {s t : State} (h : t.tim = s.tim) : t.now = s.now :=
  congrArg (fun x : TimState => 2 ^ 32 * x.hi.toNat + x.ns.toNat) h

/-- An entry that is put in the journal stands there under its handle, with a serial number. -/
theorem State.kvGet_journal_putJournal (e : JournalEntry) :
    ∃ n, kvGet (s.putJournal e).hif.journal (e.handle % 2 ^ 16) = some { e with serial := n } := by
  refine ⟨serialFor s.hif.journal e.handle s.hif.nextSerial, ?_⟩
  unfold State.putJournal
  extract_lets
  split <;> exact kvGet_kvPut_same _ _ _

theorem KeepsOps.longOp {s t : State} (h : KeepsOps s t) (n : Nat) : t.longOp n = s.longOp n := by rw [State.longOp, State.longOp, h.ops]

theorem State.longOp_showHealth (n : Nat) : s.showHealth.longOp n = s.longOp n := rfl

theorem State.handle_of_longOp {n : Nat} {o : LongOp} (h : s.longOp n = some o) : o.handle = n := by
  simpa using List.find?_some h

/-- A change of an operation that keeps handles shows in that operation. -/
theorem State.longOp_modOp (n : Nat) (f : LongOp → LongOp) (hf : ∀ o, (f o).handle = o.handle) :
    (s.modOp n f).longOp n = (s.longOp n).map f := by
  have hkey : ((fun o : LongOp => o.handle == n) ∘ fun o => if o.handle = n then f o else o) = fun o => o.handle == n := by
    funext o
    by_cases h : o.handle = n <;> simp [h, hf]
  rw [State.modOp, State.longOp, List.find?_map, hkey, ← State.longOp]
  cases h : s.longOp n with
  | none => rfl
  | some o => simp [s.handle_of_longOp h]

/-- An operation that has committed one step more, of some units (R347). -/
def LongOp.advance (units : Nat) (o : LongOp) : LongOp := { o with step := o.step + 1, units := o.units + units }

/-- A step that commits shows in its operation. -/
theorem State.longOp_commitStep {n : Nat} {o : LongOp} (units : Nat) (last : Bool) (h : s.longOp n = some o) :
    (s.commitStep n units last).longOp n = some (o.advance units) := by
  have hmod : (s.modOp n (LongOp.advance units)).longOp n = some (o.advance units) := by
    rw [s.longOp_modOp n (LongOp.advance units) (fun _ => rfl), h, Option.map_some]
  change State.longOp (match (s.modOp n (LongOp.advance units)).longOp n with | some o => _ | none => _) n = _
  rw [hmod]
  dsimp only
  exact ((KeepsOps.ite ((KeepsOps.putJournal _ _).trans (.post _ _)) (.putJournal _ _)).longOp n).trans hmod

/-! #### The end of an operation -/

/-- The final completion of an operation, and its entry in the journal. -/
def State.conclude (s : State) (o : LongOp) (status result : Nat) : State :=
  (s.putJournal (o.entry s.now status .complete)).post (completionWords o.handle o.tag o.opcode status true false o.step o.total o.units result)

/-- The operations without those of a handle, whose slot is freed (R345). -/
def State.removeOp (s : State) (n : Nat) : State :=
  (({ s with hif := { s.hif with ops := s.hif.ops.filter (fun x => x.handle != n) } } : State).freeHandle n).showOps

theorem KeepsOps.conclude (s : State) (o : LongOp) (status result : Nat) : KeepsOps s (s.conclude o status result) :=
  (putJournal s _).trans (post _ _)

theorem State.finishOp_of_some {n : Nat} {o : LongOp} (status result : Nat) (h : s.longOp n = some o) :
    s.finishOp n status result = (s.conclude o status result).removeOp n := by
  rw [State.finishOp, h]
  rfl

theorem State.finishOp_of_none {n : Nat} (status result : Nat) (h : s.longOp n = none) : s.finishOp n status result = s := by
  rw [State.finishOp, h]

/-- No operation of a handle runs once it has ended. -/
theorem State.longOp_finishOp (n status result : Nat) : (s.finishOp n status result).longOp n = none := by
  cases h : s.longOp n with
  | none => rw [s.finishOp_of_none _ _ h, h]
  | some o =>
    rw [s.finishOp_of_some _ _ h]
    change List.find? _ (List.filter _ _) = none
    simp

/-- The end of an operation leaves the topology alone, and the registers of the blocks up to TOP. -/
theorem State.finishOp_keeps (n status result : Nat) : (s.finishOp n status result).top = s.top
    ∧ ∀ a, a < 0x900000 → (s.finishOp n status result).reg a = s.reg a := by
  cases h : s.longOp n with
  | none => rw [s.finishOp_of_none _ _ h]; exact ⟨rfl, fun _ _ => rfl⟩
  | some o =>
    have hdone := KeepsOps.conclude s o status result
    rw [s.finishOp_of_some _ _ h]
    refine ⟨hdone.top, fun a ha => ?_⟩
    rw [← hdone.reg a ha]
    exact (KeepsOps.showOps _).reg a ha

/-! #### The start of an operation -/

/-- The first completion of a long command, and its entry in the journal. -/
def State.announce (s : State) (h : CmdHdr) (op : Nat) (items : Bool) (total : Nat) : State :=
  (s.newHandle.2.post (completionWords s.newHandle.1 h.tag op 0x00 false false 0 total 0 0)).putJournal
    { handle := s.newHandle.1, tag := h.tag, opcode := op, status := 0x02, disp := .running, step := 0, total := total
      gts := s.now, units := 0, unitItems := items, resumedBy := 0 }

/-- The operation of a long command, before its first step. -/
def State.newOp (s : State) (h : CmdHdr) (op : Nat) (work : OpWork) (items : Bool) (total : Nat) (sizes : List Nat) : LongOp :=
  { handle := s.newHandle.1, tag := h.tag, opcode := op, progress := h.progress, items := items, buf := h.buf, len := h.len
    step := 0, total := total, sizes := sizes, units := 0, result := 0, cancelled := false, work := work }

/-- An operation joins those that run. -/
def State.addOp (s : State) (o : LongOp) : State := ({ s with hif := { s.hif with ops := s.hif.ops ++ [o] } } : State).showOps

theorem KeepsOps.announce (s : State) (h : CmdHdr) (op : Nat) (items : Bool) (total : Nat) : KeepsOps s (s.announce h op items total) :=
  ((newHandle s).trans (post _ _)).trans (putJournal _ _)

variable (h : CmdHdr) (op : Nat) (work : OpWork) (items : Bool) (total : Nat) (sizes : List Nat)

theorem State.startLong_of_room (hroom : s.hif.ops.length < 16) : s.startLong h op work items total sizes
    = (s.announce h op items total).addOp (s.newOp h op work items total sizes) := if_neg (by omega)

section
variable (hroom : s.hif.ops.length < 16)
include hroom

theorem State.ops_startLong : (s.startLong h op work items total sizes).hif.ops = s.hif.ops ++ [s.newOp h op work items total sizes] := by
  rw [s.startLong_of_room h op work items total sizes hroom]
  exact congrArg (· ++ [_]) (KeepsOps.announce s h op items total).ops

theorem State.length_ops_startLong : (s.startLong h op work items total sizes).hif.ops.length ≠ s.hif.ops.length := by
  rw [s.ops_startLong h op work items total sizes hroom, List.length_append]
  exact Nat.succ_ne_self _

/-- A long command that finds room starts its operation under the next handle. -/
theorem State.started_startLong : Started s (s.startLong h op work items total sizes) h op work total := by
  refine ⟨⟨_, s.ops_startLong h op work items total sizes hroom, rfl, rfl, rfl, rfl, rfl, rfl⟩, ?_⟩
  obtain ⟨n, hn⟩ := (s.newHandle.2.post (completionWords s.newHandle.1 h.tag op 0x00 false false 0 total 0 0)).kvGet_journal_putJournal
    { handle := s.newHandle.1, tag := h.tag, opcode := op, status := 0x02, disp := .running, step := 0, total := total
      gts := s.now, units := 0, unitItems := items, resumedBy := 0 }
  rw [s.startLong_of_room h op work items total sizes hroom]
  exact ⟨_, hn, rfl, rfl, rfl, rfl, rfl⟩

theorem State.lastHandle_startLong : (s.startLong h op work items total sizes).lastHandle = s.newHandle.1 := by
  rw [State.lastHandle, s.ops_startLong h op work items total sizes hroom, List.getLast?_concat]
  rfl

theorem State.longOp_startLong (hnew : s.longOp s.newHandle.1 = none) :
    (s.startLong h op work items total sizes).longOp s.newHandle.1 = some (s.newOp h op work items total sizes) := by
  rw [State.longOp, s.ops_startLong h op work items total sizes hroom, List.find?_append, ← State.longOp, hnew]
  simp [State.newOp]

theorem State.dfs_startLong : (s.startLong h op work items total sizes).dfs = s.dfs := by
  rw [s.startLong_of_room h op work items total sizes hroom]
  exact (KeepsOps.announce s h op items total).dfs

theorem State.tim_startLong : (s.startLong h op work items total sizes).tim = s.tim := by
  rw [s.startLong_of_room h op work items total sizes hroom]
  exact (KeepsOps.announce s h op items total).tim

end

/-- A start shows in the host interface alone, on both sides. -/
theorem Started.congr {s s' t u : State} {h : CmdHdr} {op : Nat} {w : OpWork} {total : Nat} (hst : Started s t h op w total)
    (hs : s'.hif = s.hif) (hu : u.hif = t.hif) : Started s' u h op w total := by
  have hnew : s'.newHandle.1 = s.newHandle.1 := by
    unfold State.newHandle
    rw [hs]
    split
    · rfl
    · split <;> rfl
  unfold Started
  rw [hs, hu, hnew]
  exact hst

end

end Sys2Proof.Machine
end

section
/-!
PROOFS of the statements of family 09_topology_state_islands: switching states, rows of the estimator and of the island engine, and
refactorisations.
-/
namespace Sys2Proof.Machine

/-! ### A change of switching states (R218, R220) -/

/-- The registers of TOP that a change of switching states may change. -/
def switchRegs : List Nat := [Reg.TOP_CNT_SUSPECT, Reg.TOP_TOPO_VER, Reg.TOP_SW_STATE]

/-- The switching states stay as they are, and so does every register but those that a change of switching states and a log may change. -/
structure KeepsSwitches (s t : State) : Prop where
  sw : t.top.sw = s.top.sw
  reg : ∀ a, a ∉ switchRegs → a ∉ logRegs → t.reg a = s.reg a

namespace KeepsSwitches

variable {s t u : State}

theorem refl (s : State) : KeepsSwitches s s := ⟨rfl, fun _ _ _ => rfl⟩

theorem trans (h : KeepsSwitches s t) (k : KeepsSwitches t u) : KeepsSwitches s u :=
  ⟨k.sw.trans h.sw, fun a ha hl => (k.reg a ha hl).trans (h.reg a ha hl)⟩

theorem foldl {β : Type} (f : State → β → State) (h : ∀ s b, KeepsSwitches s (f s b)) (l : List β) (s : State) :
    KeepsSwitches s (l.foldl f s) := by
  induction l generalizing s with
  | nil => exact .refl s
  | cons b r ih => exact (h s b).trans (ih _)

theorem ite {c : Prop} [Decidable c] (ht : KeepsSwitches s t) (hu : KeepsSwitches s u) : KeepsSwitches s (if c then t else u) := by
  split
  · exact ht
  · exact hu

theorem setReg (s : State) {a : Nat} (v : Word) (h : a ∈ switchRegs) : KeepsSwitches s (s.setReg a v) :=
  ⟨rfl, fun b hb _ => s.reg_setReg_ne a b v (fun e => hb (e ▸ h))⟩

theorem log (s : State) (code sev : Nat) (p : List Byte) (h : sev ≤ 4) : KeepsSwitches s (s.log code sev p) :=
  ⟨congrArg TopState.sw (s.log_top code sev p), fun a _ hl => s.reg_log code sev p a h hl⟩

theorem useFree (s : State) (n : Nat) : KeepsSwitches s (s.useFree n) := ⟨rfl, fun _ _ _ => rfl⟩

theorem showSwitch (s : State) : KeepsSwitches s s.showSwitch := by
  unfold State.showSwitch
  extract_lets
  split <;> exact setReg s _ (by decide)

end KeepsSwitches

/-- A branch that becomes SUSPECT is counted and logged. -/
def State.noteSuspect (s : State) (x : Nat × SwitchState) : State :=
  ((s.bump Reg.TOP_CNT_SUSPECT).log 0x0903 1 (leBytes 2 x.1 ++ leBytes 1 (suspectCause s.freshWord x.2))).useFree 1

theorem KeepsSwitches.noteSuspect (s : State) (x : Nat × SwitchState) : KeepsSwitches s (s.noteSuspect x) :=
  ((setReg s _ (by decide)).trans (log _ _ _ _ (by decide))).trans (useFree _ 1)

section
variable (s : State)

/-- The switching states after branches take new conditions, each resolved by its record (Table 09-1). -/
def State.resolveAll (s : State) (l : List (Nat × SwitchState)) : List (Nat × SwitchState) :=
  l.filterMap (fun x => (s.top.branches[x.1]?).map (fun r => (x.1, resolve r x.2)))

/-- The state with the resolved states in place of those of their branches. -/
def State.withSwitches (s : State) (l : List (Nat × SwitchState)) : State :=
  { s with top := { s.top with sw := (s.resolveAll l).foldl (fun m x => kvPut m x.1 x.2) s.top.sw } }

/-- A change of switching states puts the resolved states in place; what follows keeps them. -/
theorem State.applySwitches_keeps (stamp : Nat) (l : List (Nat × SwitchState)) :
    KeepsSwitches (s.withSwitches l) (s.applySwitches stamp l) := by
  unfold State.applySwitches
  extract_lets _ _ rising _ _ put told numbered logged _ _ opened
  have hput : KeepsSwitches (s.withSwitches l) put := ⟨rfl, fun _ _ _ => rfl⟩
  have htold : KeepsSwitches put told := .foldl State.noteSuspect .noteSuspect rising put
  have hnumbered : KeepsSwitches told numbered := .setReg told _ (by decide)
  have hlogged : KeepsSwitches told logged := .ite (.refl told) (hnumbered.trans (.log numbered _ _ _ (by decide)))
  have hopened : KeepsSwitches told opened := .ite (.refl told) (.ite hlogged (hlogged.trans ⟨rfl, fun _ _ _ => rfl⟩))
  exact ((hput.trans htold).trans hopened).trans (.showSwitch opened)

/-- The state of a branch that takes a new condition is its condition resolved. -/
theorem State.sw_applySwitches (stamp : Nat) {b : Nat} {r : BranchRec} (x : SwitchState) (h : s.top.branches[b]? = some r) :
    (s.applySwitches stamp [(b, x)]).sw b = resolve r x := by
  rw [State.sw, (s.applySwitches_keeps stamp _).sw]
  simp [State.withSwitches, State.resolveAll, h]

/-! ### SW_OVERRIDE (R219) -/

/-- The branch that TOP_SW_INDEX selects. -/
def State.swIndex (s : State) : Nat := s.field Reg.TOP_SW_INDEX 15 0

/-- The condition of the selected branch with the override that a write of TOP_SW_OVERRIDE gives it. -/
def State.overridden (s : State) (value : Word) : SwitchState :=
  { s.sw s.swIndex with override := if value.getLsbD 0 then some (value.getLsbD 1) else none }

theorem exec_swOverride_switching (value : Word) {r : BranchRec} (h : s.top.branches[s.swIndex]? = some r) (hr : r.switching = true) :
    exec (.swOverride value) s
      = .next ((s.setReg Reg.TOP_SW_OVERRIDE (value &&& 3)).applySwitches s.now [(s.swIndex, s.overridden value)]).showHealth := by
  change answer _ = _
  rw [answer_eq]
  unfold State.swIndex at h
  simp only [h, hr, if_true]
  rfl

theorem exec_swOverride_ignored (value : Word) (h : ∀ r, s.top.branches[s.swIndex]? = some r → r.switching = false) :
    exec (.swOverride value) s = .next s.showHealth := by
  change answer _ = _
  rw [answer_eq]
  unfold State.swIndex at h
  dsimp only
  split
  · rw [if_neg (by simp [h _ ‹_›])]
  · rfl

theorem exec_registerWrite_swOverride (value : Word) : exec (.registerWrite Reg.TOP_SW_OVERRIDE value) s = exec (.swOverride value) s := rfl

end

/-- Settles O27: what follows the resolved state of the branch keeps it and the register written, and reporting leaves both alone. -/
theorem switchOverride : Obligations.SwitchOverride := by
  unfold Obligations.SwitchOverride
  refine ⟨fun s value r hr hsw => ⟨_, exec_swOverride_switching s value hr hsw, rfl, ?_, ?_⟩, exec_swOverride_ignored,
    exec_registerWrite_swOverride⟩
  · exact State.sw_applySwitches _ _ (s.overridden value) hr
  · rw [State.reg_showHealth_ne _ _ (by decide), (State.applySwitches_keeps _ _ _).reg _ (by decide) (by decide)]
    exact State.reg_setReg_same _ _ _

/-! ### What the analyser leaves alone as rows allow it to go on (R195, R200, R207, R210) -/

/-- All that the analyser's work on rows may change: registers, rows, the analyser, the triggers of graphs, reporting, and the free values taken.
The registers below the ALN block stay as they are, and so does TOP_STATUS. -/
structure OnlyAnalyses (s t : State) : Prop where
  only : ∃ r a o d e c g n, t = { s with regs := r, aln := a, osc := o, dfs := d, evr := e, cap := c, hgw := g, free := n }
  reg : ∀ a, a < 0x400000 ∨ a = Reg.TOP_STATUS → t.reg a = s.reg a

namespace OnlyAnalyses

variable {s t u : State}

theorem refl (s : State) : OnlyAnalyses s s := ⟨⟨_, _, _, _, _, _, _, _, rfl⟩, fun _ _ => rfl⟩

theorem trans (h : OnlyAnalyses s t) (k : OnlyAnalyses t u) : OnlyAnalyses s u := by
  obtain ⟨⟨_, _, _, _, _, _, _, _, rfl⟩, hr⟩ := h
  obtain ⟨⟨r, a, o, d, e, c, g, n, rfl⟩, kr⟩ := k
  exact ⟨⟨r, a, o, d, e, c, g, n, rfl⟩, fun b hb => (kr b hb).trans (hr b hb)⟩

/-- A fold over what holds a state, each of whose updates changes of that state only what the analyser may. -/
theorem foldl_of {σ β : Type} (p : σ → State) (f : σ → β → σ) (l : List β) (h : ∀ x, ∀ b ∈ l, OnlyAnalyses (p x) (p (f x b))) (x : σ) :
    OnlyAnalyses (p x) (p (l.foldl f x)) := by
  induction l generalizing x with
  | nil => exact .refl (p x)
  | cons b r ih => exact (h x b List.mem_cons_self).trans (ih (fun y c hc => h y c (List.mem_cons_of_mem _ hc)) _)

theorem foldl {β : Type} (f : State → β → State) (h : ∀ s b, OnlyAnalyses s (f s b)) (l : List β) (s : State) :
    OnlyAnalyses s (l.foldl f s) := foldl_of id f l (fun t b _ => h t b) s

theorem ite {c : Prop} [Decidable c] (ht : OnlyAnalyses s t) (hu : OnlyAnalyses s u) : OnlyAnalyses s (if c then t else u) := by
  split
  · exact ht
  · exact hu

theorem withAln (s : State) (x : AlnState) : OnlyAnalyses s { s with aln := x } := ⟨⟨_, x, _, _, _, _, _, _, rfl⟩, fun _ _ => rfl⟩

theorem withOsc (s : State) (x : OscState) : OnlyAnalyses s { s with osc := x } := ⟨⟨_, _, x, _, _, _, _, _, rfl⟩, fun _ _ => rfl⟩

theorem withDfs (s : State) (x : DfsState) : OnlyAnalyses s { s with dfs := x } := ⟨⟨_, _, _, x, _, _, _, _, rfl⟩, fun _ _ => rfl⟩

theorem useFree (s : State) (n : Nat) : OnlyAnalyses s (s.useFree n) := ⟨⟨_, _, _, _, _, _, _, s.free + n, rfl⟩, fun _ _ => rfl⟩

theorem setReg (s : State) {a : Nat} (v : Word) (h : 0x400000 ≤ a) (hs : a ≠ Reg.TOP_STATUS) : OnlyAnalyses s (s.setReg a v) :=
  ⟨⟨_, _, _, _, _, _, _, _, rfl⟩, fun b hb => s.reg_setReg_ne a b v (by omega)⟩

/-- A write below the TOP block. -/
theorem setOsc (s : State) {a : Nat} (v : Word) (h : 0x400000 ≤ a ∧ a < 0x800000) : OnlyAnalyses s (s.setReg a v) :=
  setReg s v h.1 (by simp only [Reg.TOP_STATUS]; omega)

theorem log (s : State) (code sev : Nat) (p : List Byte) (h : sev ≤ 4) : OnlyAnalyses s (s.log code sev p) := by
  obtain ⟨r, v, c, g, hlog⟩ := State.submit_only s (s.eventAt s.now code sev 0 p)
  refine ⟨⟨r, _, _, _, v, c, g, _, hlog⟩, fun a ha => s.reg_log _ _ _ _ h (not_mem_logRegs_of_block ?_)⟩
  simp only [Reg.TOP_STATUS] at ha
  omega

theorem modOsc (s : State) (g : Nat) (f : OscGroup → OscGroup) : OnlyAnalyses s (s.modOsc g f) := withOsc s _

theorem modMonitor (s : State) (i : Nat) (f : MonitorState → MonitorState) : OnlyAnalyses s (s.modMonitor i f) := withOsc s _

/-! #### Derived channels (R24, R133): no counter of a rate group stands where TOP_STATUS does -/

theorem rgCounter (s : State) {m : Nat} (g : Nat) (v : Word) (h : 0x400000 ≤ m ∧ m % 0x1000 ≠ 4) : OnlyAnalyses s (s.setReg (m + g * 0x1000) v) :=
  setReg s v (by omega) (by simp only [Reg.TOP_STATUS]; omega)

theorem glean (s : State) (n : Nat) (e : GleanEntry) : OnlyAnalyses s (s.glean n e) := by
  unfold State.glean
  extract_lets g _ _ _ counted _ full
  have hcounted : OnlyAnalyses s counted := (rgCounter s g _ (m := 0x401124) (by decide)).trans (withAln _ _)
  have hfull : OnlyAnalyses s full := hcounted.trans (withAln counted _)
  exact ite (ite ((withAln s _).trans (setOsc _ _ (by decide))) (ite hfull (hfull.trans (log full _ _ _ (by decide)))))
    (rgCounter s g _ (m := 0x401118) (by decide))

theorem writeDerived (s : State) (g tag chan : Nat) (a b : Word) (q : Half) (closure : Option Nat) :
    OnlyAnalyses s (s.writeDerived g tag chan a b q closure) := by
  unfold State.writeDerived State.writeWithTq
  extract_lets _ counted
  have hcounted : OnlyAnalyses s counted := rgCounter s g _ (m := 0x401128) (by decide)
  split
  · exact (withAln s _).trans (withDfs _ _)
  · split
    · split
      · exact hcounted.trans (glean counted _ _)
      · exact hcounted.trans (rgCounter counted g _ (m := 0x401118) (by decide))
    · exact hcounted

/-! #### Rows and refreshes (R193 to R197, R212): no register of a group stands where TOP_STATUS does -/

theorem groupReg (s : State) {m : Nat} (g : Nat) (v : Word) (h : 0x400000 ≤ m ∧ m % 0x100 ≠ 4) : OnlyAnalyses s (s.setReg (m + g * 0x100) v) :=
  setReg s v (by omega) (by simp only [Reg.TOP_STATUS]; omega)

theorem oscCollect (s : State) (g : Nat) : OnlyAnalyses s (s.oscCollect g) := by
  have hsample (t : State) : OnlyAnalyses t (t.oscSample g) := by
    unfold State.oscSample
    exact modOsc t g _
  unfold State.oscCollect
  refine ite (refl s) ?_
  extract_lets
  split
  · exact foldl _ (fun t f => (modOsc t g _).trans (hsample _)) _ s
  · exact refl s

theorem addColumns (s : State) (g top : Nat) : OnlyAnalyses s (s.addColumns g top) := by
  unfold State.addColumns
  extract_lets
  dsimp -zeta only
  extract_lets
  exact ite (refl s) ((modOsc s g _).trans (groupReg _ g _ (m := 0x70104C) (by decide)))

theorem applyRevisions (s : State) (g : Nat) : OnlyAnalyses s (s.applyRevisions g) := by
  unfold State.applyRevisions
  extract_lets _ _ _ _ _ _ ks counted replaced
  have hcounted : OnlyAnalyses s counted := (setOsc s _ (by decide)).trans (groupReg _ g _ (m := 0x701048) (by decide))
  have hreplaced : OnlyAnalyses counted replaced := foldl _ (fun t _ => modOsc t g _) ks counted
  exact ite (refl s) ((hcounted.trans hreplaced).trans (modOsc replaced g _))

theorem showOsc (s : State) (g : Nat) : OnlyAnalyses s (s.showOsc g) := by
  have hstatus (t : State) (v : Word) : OnlyAnalyses t (t.setReg (Reg.OSC_G_STATUS g) v) := groupReg t g v (m := 0x701014) (by decide)
  unfold State.showOsc
  exact (((((hstatus s _).trans (hstatus _ _)).trans (hstatus _ _)).trans (hstatus _ _)).trans (setOsc _ _ (by decide))).trans
    (groupReg _ g _ (m := 0x701020) (by decide))

theorem oscStart (s : State) : OnlyAnalyses s s.oscStart := by
  unfold State.oscStart
  refine ite (refl s) ?_
  split
  · exact (((applyRevisions s _).trans (addColumns _ _ _)).trans (modOsc _ _ _)).trans (showOsc _ _)
  · exact refl s

theorem oscQueue (s : State) (g tag : Nat) : OnlyAnalyses s (s.oscQueue g tag) := by
  unfold State.oscQueue
  extract_lets _ noted counted asked
  have hnoted : OnlyAnalyses s noted := modOsc s g _
  have hcounted : OnlyAnalyses noted counted := groupReg noted g _ (m := 0x701044) (by decide)
  have hasked : OnlyAnalyses noted asked := ite (hcounted.trans (log counted _ _ _ (by decide))) (refl noted)
  exact ite (hnoted.trans (setOsc noted _ (by decide))) ((hnoted.trans hasked).trans (modOsc asked g _))

theorem oscRefreshes (s : State) : OnlyAnalyses s s.oscRefreshes := by
  unfold State.oscRefreshes
  extract_lets gs collected queued
  have hcollected : OnlyAnalyses s collected := foldl _ (fun t g => oscCollect t g) gs s
  have hqueued : OnlyAnalyses collected queued :=
    foldl _ (fun t g => foldl _ (fun u tag => ite (oscQueue u g tag) (refl u)) _ t) gs collected
  exact (hcollected.trans hqueued).trans (oscStart queued)

/-! #### Results (R199, R200) -/

theorem oscPub (s : State) (g tag : Nat) (closure : Option Nat) : OnlyAnalyses s (s.oscPub g tag closure) := by
  unfold State.oscPub
  extract_lets _ _ _ modes m _ thin _ _ _ _ aged told noted put dated
  have hput (t : State) (c : Nat) (v : Option (Word × Word)) : OnlyAnalyses t (put t c v) := by
    unfold put
    split <;> exact writeDerived t _ _ _ _ _ _ _
  have haged : OnlyAnalyses s aged := ite (refl s) (useFree s 1)
  have htold : OnlyAnalyses aged told := ite (log aged _ _ _ (by decide)) (refl aged)
  have hnoted : OnlyAnalyses told noted := modOsc told g _
  have hdated : OnlyAnalyses noted dated := writeDerived noted _ _ _ _ _ _ _
  refine ite (refl s) ((((haged.trans htold).trans hnoted).trans hdated).trans (foldl _ (fun t i => ?_) _ dated))
  extract_lets _ _ first second
  have hmode : OnlyAnalyses t second := (hput t _ _).trans (hput first _ _)
  exact ite (hmode.trans (foldl _ (fun u j => hput u _ _) _ second)) hmode

theorem publishDue (s : State) (rg : Nat) (f : Furrow) : OnlyAnalyses s (s.publishDue rg f) :=
  foldl _ (fun t _ => ite ((oscPub t _ _ _).trans (modOsc _ _ _)) (refl t)) _ s

/-! #### Band monitors (R204 to R207) -/

theorem bandEvents (s : State) (i k : Nat) (b : BandState) : OnlyAnalyses s (s.bandEvents i k b).1 := by
  unfold State.bandEvents
  extract_lets one
  have hone (x : State × BandState) (j code sev : Nat) (on : Bool) (h : sev ≤ 4) : OnlyAnalyses x.1 (one x j code sev on).1 := by
    unfold one
    split
    · exact log x.1 _ _ _ h
    · exact refl x.1
  exact trans (trans (hone (s, b) _ _ _ _ (by decide)) (hone _ _ _ _ _ (by decide))) (hone _ _ _ _ _ (by decide))

theorem forcedChanged (s : State) (i k : Nat) (was now : Bool) : OnlyAnalyses s (s.forcedChanged i k was now) := by
  have hstatus (t : State) (b c : Bool) : OnlyAnalyses t ((t.setFlag Reg.OSC_LOC_STATUS 0 b).setFlag Reg.OSC_LOC_STATUS 1 c) :=
    (setOsc t _ (by decide)).trans (setOsc _ _ (by decide))
  have hactive (on : Bool) : OnlyAnalyses s (s.setActive on) := by
    cases on
    · exact hstatus s false false
    · exact ((hstatus s true true).trans (withOsc _ _)).trans (withOsc _ _)
  exact ite (refl s) (hactive now)

theorem showMonitor (s : State) : OnlyAnalyses s s.showMonitor := by
  have hband (t : State) {m b : Nat} (v : Word) (hm : 0x700000 ≤ m ∧ m < 0x701000) (hb : b ∈ List.range 6) :
      OnlyAnalyses t (t.setReg (m + b * 0x10) v) := setOsc t v (by have := List.mem_range.mp hb; omega)
  unfold State.showMonitor
  extract_lets
  split
  · extract_lets _ _ _ _ _ _ _ shown
    have hshown : OnlyAnalyses s shown := (((setOsc s _ (by decide)).trans (setOsc _ _ (by decide))).trans (setOsc _ _ (by decide))).trans
      (setOsc _ _ (by decide))
    exact hshown.trans (foldl_of id _ _ (fun t b hb => (((hband t _ (by decide) hb).trans (hband _ _ (by decide) hb)).trans
      (hband _ _ (by decide) hb)).trans (hband _ _ (by decide) hb)) shown)
  · refine foldl_of id _ _ (fun t k hk => ite (refl t) (setOsc t _ ?_)) s
    have := List.mem_range.mp hk
    simp only [Reg.OSC_MON_CFG]
    omega

theorem copyOutputs (s : State) (g tag : Nat) (l : List (Nat × Slot)) (closure : Option Nat) :
    OnlyAnalyses s (s.copyOutputs g tag l closure) := foldl _ (fun t _ => writeDerived t _ _ _ _ _ _ _) l s

theorem oscBand (s : State) (i g n tag lc : Nat) (closure : Option Nat) : OnlyAnalyses s (s.oscBand i g n tag lc closure) := by
  unfold State.oscBand
  split
  · refine ite (refl s) ?_
    extract_lets _ _ _ _ reset _ _ _ _ old _ _ halved _ judged counted _
    have hcounted : OnlyAnalyses s counted := ite (setOsc s _ (by decide)) (refl s)
    generalize hevents : List.foldl _ (counted, []) judged = events
    have htold : OnlyAnalyses s events.1 := by
      rw [← hevents]
      refine hcounted.trans (foldl_of (σ := State × List BandState) Prod.fst _ judged (fun p y _ => ?_) (counted, []))
      exact bandEvents p.1 i _ y
    obtain ⟨told, bands⟩ := events
    dsimp -zeta only
    extract_lets noted forced shown copied _ vals written outs
    have hnoted : OnlyAnalyses s noted := htold.trans (modMonitor told i _)
    have hforced : OnlyAnalyses s forced := hnoted.trans (foldl _ (fun t b => forcedChanged t i b _ _) _ noted)
    have hshown : OnlyAnalyses s shown := ite ((hforced.trans (setOsc forced _ (by decide))).trans (showMonitor _)) hforced
    have hcopied : OnlyAnalyses s copied := hshown.trans (copyOutputs shown g tag _ closure)
    have hwritten : OnlyAnalyses s written := hshown.trans (foldl _ (fun t _ => writeDerived t _ _ _ _ _ _ _) vals shown)
    exact ite (ite (hcopied.trans (modMonitor copied i _)) hcopied) (hwritten.trans (modMonitor written i _))
  · exact refl s

theorem monitorsDue (s : State) (g : Nat) (f : Furrow) : OnlyAnalyses s (s.monitorsDue g f) :=
  foldl _ (fun t _ => ite (oscBand t _ _ _ _ _ _) (refl t)) _ s

/-! #### Source location (R208 to R210) -/

theorem oscDef (s : State) (n tag : Nat) (closure : Option Nat) : OnlyAnalyses s (s.oscDef n tag closure) := by
  unfold State.oscDef
  refine ite (refl s) ?_
  extract_lets _ _ ran _ _ out
  have hran : OnlyAnalyses s ran := withOsc s _
  have hout (t : State) (l : List (Nat × Slot)) : OnlyAnalyses t (out t l) := foldl _ (fun u _ => writeDerived u _ _ _ _ _ _ _) l t
  refine ite (hran.trans (hout ran _)) ?_
  dsimp -zeta only
  extract_lets _ stepped _ _ _ _ _ shown told _ located
  have hstepped : OnlyAnalyses s stepped := hran.trans (withOsc ran _)
  have hshown : OnlyAnalyses s shown := (hstepped.trans (setOsc stepped _ (by decide))).trans (setOsc _ _ (by decide))
  have htold : OnlyAnalyses s told := ite (hshown.trans (log shown _ _ _ (by decide))) hshown
  have hlocated : OnlyAnalyses told located := withOsc told _
  exact ite (hstepped.trans (copyOutputs stepped _ _ _ _)) ((htold.trans hlocated).trans (hout located _))

theorem locationDue (s : State) (g : Nat) (f : Furrow) : OnlyAnalyses s (s.locationDue g f) := ite (oscDef s _ _ _) (refl s)

theorem oscDue (s : State) : OnlyAnalyses s s.oscDue := by
  refine ite (refl s) ((foldl _ (fun t x => foldl _ (fun u f => ?_) _ t) _ s).trans (oscRefreshes _))
  exact ((publishDue u _ f).trans (monitorsDue _ _ f)).trans (locationDue _ _ _)

end OnlyAnalyses

/-! ### Rows of the estimator and the island engine (R220, R223 to R226, R230) -/

section
variable (s : State)

/-- The row that the estimator and the island engine begin in a furrow: the topology of its tag, the factor in use, and what its slots hold. -/
def State.topRowOf (s : State) (idx : Nat) (f : Furrow) : TopRow :=
  let u := (s.takeTopology f.tag).1
  { idx := idx, tag := f.tag, start := u.elapsed, topo := (s.takeTopology f.tag).2, factor := u.top.factor
    meas := u.top.meas.map (fun m => u.readSlot s.topRg f.tag m.chan)
    cohs := u.top.cohs.map (fun c => (u.readSlot s.topRg f.tag c.freq, u.readSlot s.topRg f.tag c.phasor))
    seDone := !u.flag Reg.TOP_CTRL 1, islDone := !u.flag Reg.TOP_CTRL 2 }

/-- A row joins those begun. -/
def State.beginTopRow (s : State) (r : TopRow) : State := { s with top := { s.top with rows := s.top.rows ++ [r], lastRow := some r.idx } }

theorem exec_seRowStart_due {idx : Nat} {f : Furrow} (hf : (s.group s.topRg).bind (fun x => x.furrows.find? (fun f => f.idx == idx)) = some f)
    (hon : s.flag Reg.TOP_CTRL 0 = true) (hfresh : ∀ n, s.top.lastRow = some n → n < idx) (hdue : f.tag + 20000 ≤ s.now)
    (hclosed : s.topSections.all (fun i => f.isClosed i) = true) :
    exec (.seRowStart idx) s = .next ((s.takeTopology f.tag).1.beginTopRow (s.topRowOf idx f)).showHealth := by
  change answer _ = _
  rw [answer_eq]
  simp only [hf, hon, hclosed, decide_eq_true hdue, Bool.and_true, Bool.true_and]
  cases hlast : s.top.lastRow with
  | none => rfl
  | some n =>
    dsimp only
    rw [if_pos (decide_eq_true (hfresh n hlast))]
    rfl

/-- The solve of a row: in an odd row under halving its last estimates HELD, else new ones (R223 to R225, R235). -/
def State.solveOrHold (s : State) (r : TopRow) : State :=
  let held := (s.bump Reg.TOP_CNT_SHED).writeEstimates r (s.top.lastOut.map (fun v => (v.1, { v.2 with q := v.2.q ||| Q.held })))
  if s.seHalved && r.idx % 2 == 1 then (match r.factor with
    | some f => held.persist r f
    | none => held) else s.solveAndWrite r

theorem exec_seSolveDone_next {r : TopRow} (h : s.topNext true = some r) :
    exec (.seSolveDone r.idx) s = .next (((s.solveOrHold r).finishTopRow r.idx true).nextSolve.oscDue).showHealth := by
  change answer _ = _
  rw [answer_eq]
  simp only [h]
  rw [if_neg (not_not_intro rfl)]
  rfl

/-- A row that the estimator has finished with is held for the island engine alone. -/
theorem State.mem_rows_finishTopRow {idx : Nat} {x : TopRow} (h : x ∈ (s.finishTopRow idx true).top.rows) (hx : x.idx = idx) :
    x.seDone = true ∧ x.islDone = false := by
  obtain ⟨hmem, hheld⟩ := List.mem_filter.mp h
  obtain ⟨y, _, rfl⟩ := List.mem_map.mp hmem
  by_cases hy : y.idx = idx
  · simp_all
  · simp [hy] at hx

/-- The factor that the next solve uses leaves its row's progress as it is. -/
theorem State.mem_rows_nextSolve {x : TopRow} (h : x ∈ s.nextSolve.top.rows) :
    ∃ y ∈ s.top.rows, x.idx = y.idx ∧ x.seDone = y.seDone ∧ x.islDone = y.islDone := by
  unfold State.nextSolve at h
  split at h
  · obtain ⟨y, hy, rfl⟩ := List.mem_map.mp h
    refine ⟨y, hy, ?_⟩
    split <;> exact ⟨rfl, rfl, rfl⟩
  · exact ⟨x, h, rfl, rfl, rfl⟩

/-- The island engine has labelled the nodes of a row, and shows the islands in it (R230, R233). -/
theorem exec_islandRow_next {r : TopRow} (h : s.topNext false = some r) : ∃ u : State, u.top.labels = s.islands r.topo
    ∧ exec (.islandRow r.idx) s = .next (((u.setField Reg.TOP_STATUS 31 16
      ((s.liveNodes r).map (fun n => (s.islands r.topo).getD n 0)).eraseDups.length).finishTopRow r.idx false).oscDue).showHealth := by
  refine ⟨?_, ?_, ?_⟩
  rotate_left 2
  · change answer _ = _
    rw [answer_eq]
    simp -zeta only [h]
    rw [if_neg (not_not_intro rfl)]
  · rfl

/-! ### Refactorisation (R227 to R229) -/

theorem State.startRefac_top : s.startRefac.top.building.isSome = true ∧ s.startRefac.top.pending = false
    ∧ s.startRefac.top.coalesceAt = none := by
  unfold State.startRefac
  extract_lets
  simp only [State.setFlag_top, State.setReg_top]
  exact ⟨rfl, rfl, rfl⟩

/-- A cause of refactorisation starts one, or is held while one runs. -/
theorem State.wantRefac_top (hon : s.flag Reg.TOP_CTRL 1 = true) (hc : s.top.coalesceAt = none) : s.wantRefac.top.building.isSome = true
    ∧ s.wantRefac.top.coalesceAt = none ∧ (s.wantRefac.top.pending = true ↔ s.top.building.isSome = true) := by
  unfold State.wantRefac
  rw [if_neg (by simp [hon])]
  split
  · rename_i hb
    exact ⟨hb, hc, by simp [hb]⟩
  · rename_i hb
    obtain ⟨hbuilding, hpending, hcoalesce⟩ := s.startRefac_top
    exact ⟨hbuilding, hcoalesce, by simp [hb, hpending]⟩

/-- The coalescing window has ended. -/
def State.closeWindow (s : State) : State := { s with top := { s.top with coalesceAt := none } }

theorem exec_coalesceExpire_due {at_ : Nat} (h : s.top.coalesceAt = some at_) (hdue : at_ ≤ s.now) :
    exec .coalesceExpire s = .next s.closeWindow.wantRefac.showHealth := by
  change answer _ = _
  rw [answer_eq]
  simp only [h]
  rw [if_pos hdue]
  rfl

/-- A refactorisation has ended: its time is shown (R228). -/
def State.endBuild (s : State) (us : Nat) : State :=
  let t := (s.setReg Reg.TOP_REFAC_TIME (satWord us)).setFlag Reg.TOP_STATUS 1 false
  { t with top := { t.top with building := none } }

/-- A factor that does not fit is refused (R229). -/
def State.refuseFactor (s : State) (f : Factor) : State := (s.bump Reg.TOP_CNT_REFAC_FAIL).log 0x090C 3 (leBytes 4 f.nnz ++ leBytes 4 f.ver)

/-- A factor is put in use, and shown. -/
def State.showFactor (s : State) (f : Factor) : State :=
  let t : State := { s with top := { s.top with factor := some f } }
  (t.setReg Reg.TOP_FACTOR_VER (Word.ofNat f.ver)).setReg Reg.TOP_FACTOR_NNZ (Word.ofNat f.nnz)

/-- A factor that fits is in use from the next solve (R228). -/
def State.useFactor (s : State) (f : Factor) (us : Nat) : State :=
  let t := ((s.showFactor f).setReg Reg.TOP_FACTOR_UNOBS (Word.ofNat f.unobs.length)).setFlag Reg.TOP_STATUS 0 true
  let t := (t.bump Reg.TOP_CNT_REFAC).bumpBy Reg.TOP_CNT_UNTESTABLE (f.critical.filter id).length
  let t := t.log 0x0902 0 (leBytes 4 (satNat 32 us) ++ leBytes 4 f.nnz)
  if f.unobs.isEmpty then t else t.log 0x0909 2 (leBytes 4 f.unobs.length ++ leBytes 4 f.ver)

/-- The host commands whose refactorisation has ended complete (R227). -/
def State.answerWaiters (s : State) (status : Nat) : State :=
  (s.top.waiters.filter (fun w => w.2)).foldl (fun (s : State) w => s.finishOp w.1 status 0)
    { s with top := { s.top with waiters := s.top.waiters.filter (fun w => !w.2) } }

/-- A held cause starts the next refactorisation. -/
def State.runHeld (s : State) : State := if s.top.pending then s.startRefac else s

theorem exec_refacDone_fits {f : Factor} {at_ : Nat} (h : s.top.building = some (f, at_)) (hfits : f.nnz ≤ (s.reg Reg.TOP_NNZ_MAX).toNat) :
    exec .refacDone s = .next ((((s.endBuild ((s.elapsed - at_) / 1000)).useFactor f ((s.elapsed - at_) / 1000)).answerWaiters 0x00).runHeld).showHealth := by
  have hfail : decide ((s.reg Reg.TOP_NNZ_MAX).toNat < f.nnz) = false := decide_eq_false (by omega)
  change answer _ = _
  rw [answer_eq]
  simp -zeta only [h, hfail]
  rfl

theorem exec_refacDone_refused {f : Factor} {at_ : Nat} (h : s.top.building = some (f, at_)) (hbig : (s.reg Reg.TOP_NNZ_MAX).toNat < f.nnz) :
    exec .refacDone s = .next ((((s.endBuild ((s.elapsed - at_) / 1000)).refuseFactor f).answerWaiters 0x05).runHeld).showHealth := by
  have hfail : decide ((s.reg Reg.TOP_NNZ_MAX).toNat < f.nnz) = true := decide_eq_true hbig
  change answer _ = _
  rw [answer_eq]
  simp -zeta only [h, hfail]
  rfl

theorem State.runHeld_of_none (h : s.top.pending = false) : s.runHeld = s := if_neg (by simp [h])

theorem State.answerWaiters_keeps (status : Nat) :
    (s.answerWaiters status).top = { s.top with waiters := s.top.waiters.filter (fun w => !w.2) }
      ∧ ∀ a, a < 0x900000 → (s.answerWaiters status).reg a = s.reg a :=
  ⟨foldl_keeps (fun (t : State) (w : Nat × Bool) => t.finishOp w.1 status 0) State.top (fun t w => (t.finishOp_keeps w.1 status 0).1) _ _,
    fun a ha => foldl_keeps (fun (t : State) (w : Nat × Bool) => t.finishOp w.1 status 0) (fun t => t.reg a)
      (fun t w => (t.finishOp_keeps w.1 status 0).2 a ha) _ _⟩

theorem State.endBuild_top (us : Nat) : (s.endBuild us).top = { s.top with building := none } :=
  congrArg (fun x : TopState => { x with building := none }) ((State.setFlag_top _ _ _ _).trans (State.setReg_top _ _ _))

theorem State.reg_endBuild (us : Nat) {a : Nat} (ht : a ≠ Reg.TOP_REFAC_TIME) (hs : a ≠ Reg.TOP_STATUS) : (s.endBuild us).reg a = s.reg a :=
  (State.reg_setFlag_ne _ _ _ _ _ hs).trans (State.reg_setReg_ne _ _ _ _ ht)

theorem State.refuseFactor_keeps (f : Factor) : (s.refuseFactor f).top = s.top
    ∧ (s.refuseFactor f).reg Reg.TOP_CNT_REFAC_FAIL = satWord ((s.reg Reg.TOP_CNT_REFAC_FAIL).toNat + 1) :=
  ⟨(State.log_top _ _ _ _).trans (State.bump_top _ _),
    (State.reg_log _ _ _ _ _ (by decide) (by decide)).trans (State.reg_bump_same _ _)⟩

theorem State.showFactor_top (f : Factor) : (s.showFactor f).top = { s.top with factor := some f } :=
  (State.setReg_top _ _ _).trans (State.setReg_top _ _ _)

theorem State.reg_showFactor (f : Factor) : (s.showFactor f).reg Reg.TOP_FACTOR_VER = Word.ofNat f.ver
    ∧ (s.showFactor f).reg Reg.TOP_FACTOR_NNZ = Word.ofNat f.nnz := by
  refine ⟨?_, State.reg_setReg_same _ _ _⟩
  unfold State.showFactor
  rw [State.reg_setReg_ne _ _ _ _ (by decide), State.reg_setReg_same]

/-- Counts and events follow a factor that is put in use, and leave it standing. -/
theorem State.useFactor_keeps (f : Factor) (us : Nat) : (s.useFactor f us).top = (s.showFactor f).top
    ∧ ∀ a, a ∉ [Reg.TOP_FACTOR_UNOBS, Reg.TOP_STATUS, Reg.TOP_CNT_REFAC, Reg.TOP_CNT_UNTESTABLE] → a ∉ logRegs →
      (s.useFactor f us).reg a = (s.showFactor f).reg a := by
  unfold State.useFactor
  extract_lets shown counted told
  have htop : told.top = (s.showFactor f).top := by simp only [told, counted, shown, State.log_top, State.bumpBy_top, State.bump_top,
    State.setFlag_top, State.setReg_top]
  have hreg (a : Nat) (ha : a ∉ [Reg.TOP_FACTOR_UNOBS, Reg.TOP_STATUS, Reg.TOP_CNT_REFAC, Reg.TOP_CNT_UNTESTABLE]) (hl : a ∉ logRegs) :
      told.reg a = (s.showFactor f).reg a := by
    simp only [List.mem_cons, List.not_mem_nil, or_false, not_or] at ha
    obtain ⟨hunobs, hstatus, hrefac, huntestable⟩ := ha
    exact (State.reg_log _ _ _ _ _ (by decide) hl).trans ((State.reg_bumpBy_ne _ _ _ _ huntestable).trans
      ((State.reg_bump_ne _ _ _ hrefac).trans ((State.reg_setFlag_ne _ _ _ _ _ hstatus).trans (State.reg_setReg_ne _ _ _ _ hunobs))))
  split
  · exact ⟨htop, hreg⟩
  · exact ⟨(State.log_top _ _ _ _).trans htop, fun a ha hl => (State.reg_log _ _ _ _ _ (by decide) hl).trans (hreg a ha hl)⟩

/-! ### INTERMEDIATE_TIMEOUT and TOP_COMMIT (R218, R236) -/

/-- An intermediate state that has lasted too long is counted and logged. -/
def State.noteIntermediate (s : State) (branch : Nat) (r : BranchRec) : State :=
  (s.bump Reg.TOP_CNT_INTER_TIMEOUT).log 0x0904 2 (leBytes 2 branch ++ leBytes 1 r.interRule)

theorem State.noteIntermediate_top (branch : Nat) (r : BranchRec) : (s.noteIntermediate branch r).top = s.top :=
  (State.log_top _ _ _ _).trans (State.bump_top _ _)

theorem State.reg_noteIntermediate (branch : Nat) (r : BranchRec) : (s.noteIntermediate branch r).reg Reg.TOP_CNT_INTER_TIMEOUT
    = satWord ((s.reg Reg.TOP_CNT_INTER_TIMEOUT).toNat + 1) :=
  (State.reg_log _ _ _ _ _ (by decide) (by decide)).trans (State.reg_bump_same _ _)

theorem exec_intermediateTimeout_due {branch at_ : Nat} {r : BranchRec} (h : (s.sw branch).interAt = some at_)
    (hr : s.top.branches[branch]? = some r) (hon : s.flag Reg.TOP_CTRL 0 = true) (hsw : r.switching = true)
    (hopen : (s.sw branch).interDone = false) (hdue : at_ + s.field Reg.TOP_INTERMEDIATE 15 0 * 1000000 ≤ s.now) :
    exec (.intermediateTimeout branch) s = .next ((s.noteIntermediate branch r).applySwitches
      (at_ + s.field Reg.TOP_INTERMEDIATE 15 0 * 1000000) [(branch, { s.sw branch with interDone := true })]).showHealth := by
  change answer _ = _
  rw [answer_eq]
  simp only [h, hr]
  rw [if_pos (by simp [hon, hsw, hopen, hdue])]
  rfl

theorem exec_topCommit_running (h : (s.group s.topRg).isSome = true) :
    exec .topCommit s = .next (s.setFlag Reg.TOP_COMMIT 0 true).showHealth := by
  have hrg : (s.setFlag Reg.TOP_COMMIT 0 true).topRg = s.topRg := State.field_setReg_ne _ _ _ _ _ _ (by decide)
  refine congrArg answer (if_pos ?_)
  rw [hrg]
  exact h

end

/-- Settles O28: each command is reduced to its branch; the analyser and the completions that follow leave the topology as the command has set it. -/
theorem topologyAndEstimation : Obligations.TopologyAndEstimation := by
  unfold Obligations.TopologyAndEstimation
  refine ⟨fun s idx f hf hon hfresh hdue hclosed => ?rowStart, fun s r h => ?solveDone, fun s r h => ?islandRow,
    fun s at_ h hdue hon => ?coalesce, fun s f at_ h hfits hpending => ?fits, fun s f at_ h hbig hpending => ?refused,
    fun s branch at_ r h hr hon hsw hopen hdue => ?intermediate, fun s hrun => ?commit⟩
  case rowStart =>
    exact ⟨_, s.topRowOf idx f, exec_seRowStart_due s hf hon hfresh hdue hclosed, rfl, rfl, rfl, rfl, rfl, rfl, rfl, List.length_map _, rfl, rfl⟩
  case solveDone =>
    refine ⟨_, exec_seSolveDone_next s h, rfl, fun x hx hidx => ?_⟩
    obtain ⟨_, _, _, _, _, _, _, _, hdue⟩ := (OnlyAnalyses.oscDue ((s.solveOrHold r).finishTopRow r.idx true).nextSolve).only
    rw [State.showHealth_top, hdue] at hx
    obtain ⟨y, hy, hi, hse, hisl⟩ := State.mem_rows_nextSolve _ hx
    rw [hse, hisl]
    exact State.mem_rows_finishTopRow _ hy (hi.symm.trans hidx)
  case islandRow =>
    obtain ⟨u, hlabels, hexec⟩ := exec_islandRow_next s h
    have hosc := OnlyAnalyses.oscDue ((u.setField Reg.TOP_STATUS 31 16
      ((s.liveNodes r).map (fun n => (s.islands r.topo).getD n 0)).eraseDups.length).finishTopRow r.idx false)
    refine ⟨_, hexec, ?_, ?_⟩
    · obtain ⟨_, _, _, _, _, _, _, _, hdue⟩ := hosc.only
      rw [State.showHealth_top, hdue]
      exact hlabels
    · rw [State.field_showHealth_ne _ _ _ _ (by decide), State.field, hosc.reg _ (.inr rfl)]
      exact State.field_setField_same _ _ _ _ _ (by decide)
  case coalesce =>
    have hw := s.closeWindow.wantRefac_top hon rfl
    exact ⟨_, exec_coalesceExpire_due s h hdue, hw⟩
  case fits =>
    have hend := s.endBuild_top ((s.elapsed - at_) / 1000)
    obtain ⟨hutop, hureg⟩ := (s.endBuild ((s.elapsed - at_) / 1000)).useFactor_keeps f ((s.elapsed - at_) / 1000)
    obtain ⟨hver, hnnz⟩ := (s.endBuild ((s.elapsed - at_) / 1000)).reg_showFactor f
    obtain ⟨htop, hreg⟩ := ((s.endBuild ((s.elapsed - at_) / 1000)).useFactor f ((s.elapsed - at_) / 1000)).answerWaiters_keeps 0x00
    rw [hutop, State.showFactor_top, hend] at htop
    refine ⟨_, exec_refacDone_fits s h hfits, ?_⟩
    rw [State.runHeld_of_none _ (by rw [htop]; exact hpending), State.showHealth_top, htop, State.reg_showHealth_ne _ _ (by decide),
      State.reg_showHealth_ne _ _ (by decide), hreg _ (by decide), hreg _ (by decide), hureg _ (by decide) (by decide),
      hureg _ (by decide) (by decide)]
    exact ⟨rfl, rfl, hver, hnnz⟩
  case refused =>
    have hend := s.endBuild_top ((s.elapsed - at_) / 1000)
    obtain ⟨hrtop, hfail⟩ := (s.endBuild ((s.elapsed - at_) / 1000)).refuseFactor_keeps f
    obtain ⟨htop, hreg⟩ := ((s.endBuild ((s.elapsed - at_) / 1000)).refuseFactor f).answerWaiters_keeps 0x05
    rw [hrtop, hend] at htop
    refine ⟨_, exec_refacDone_refused s h hbig, ?_⟩
    rw [State.runHeld_of_none _ (by rw [htop]; exact hpending), State.showHealth_top, htop, State.reg_showHealth_ne _ _ (by decide),
      hreg _ (by decide), hfail, s.reg_endBuild _ (by decide) (by decide)]
    exact ⟨rfl, rfl, rfl⟩
  case intermediate =>
    refine ⟨_, exec_intermediateTimeout_due s h hr hon hsw hopen hdue, ?_, ?_⟩
    · exact State.sw_applySwitches _ _ _ (by rwa [State.noteIntermediate_top])
    · rw [State.reg_showHealth_ne _ _ (by decide), (State.applySwitches_keeps _ _ _).reg _ (by decide) (by decide)]
      exact s.reg_noteIntermediate branch r
  case commit =>
    refine ⟨_, exec_topCommit_running s hrun, ?_, ?_⟩
    · rw [State.flag_showHealth_ne _ _ _ (by decide)]
      exact State.flag_setFlag_same _ _ _ _ (by decide)
    · exact (State.showHealth_top _).trans (State.setFlag_top _ _ _ _)

end Sys2Proof.Machine
end

section
/-!
PROOFS of the statement of family 09_topology_state_islands on the long host commands.
-/
namespace Sys2Proof.Machine

/-! ### The long host commands (Table 14-7) -/

section
variable (s : State) (h : CmdHdr)

/-- What a cause of refactorisation changes shows in the topology and its registers alone (R227). -/
theorem State.wantRefac_hif : s.wantRefac.hif = s.hif := by
  have hstart : s.startRefac.hif = s.hif := by
    unfold State.startRefac
    extract_lets
    exact (State.setFlag_hif _ _ _ _).trans (State.setReg_hif _ _ _)
  unfold State.wantRefac
  split
  · rfl
  · split
    · rfl
    · exact hstart

/-- A host command waits for a refactorisation, which its REFACTOR asks for (R227). -/
def State.waitRefac (s : State) : State :=
  ({ s with top := { s.top with waiters := s.top.waiters ++ [(s.lastHandle, false)] } } : State).wantRefac

theorem State.waitRefac_hif : s.waitRefac.hif = s.hif := State.wantRefac_hif _

/-- The newest operation is a rebalancing that waits for the next epoch (R253). -/
def State.waitRebalance (s : State) : State :=
  ({ s with dfs := { s.dfs with rebalance := s.dfs.rebalance ++ [s.lastHandle] } } : State).setFlag Reg.DFS_STATUS 16 true

theorem State.waitRebalance_hif : s.waitRebalance.hif = s.hif := State.setFlag_hif _ _ _ _

theorem State.rebalance_waitRebalance : s.waitRebalance.dfs.rebalance = s.dfs.rebalance ++ [s.lastHandle] :=
  congrArg DfsState.rebalance (State.setFlag_dfs _ _ _ _)

/-- The newest operation is an exchange under way (R280). -/
def State.beginExchange (s : State) : State := ({ s with cyc := { s.cyc with exch := some (s.lastHandle, s.elapsed) } } : State).showCyc

theorem State.beginExchange_hif : s.beginExchange.hif = s.hif := by
  unfold State.beginExchange State.showCyc
  simp only [State.setFlag_hif, State.setField_hif]

/-- The first row boundary of RG0 at least 10 ms from now (R384). -/
def State.switchAt (s : State) : Nat :=
  let t := s.now + 10000000
  let r := s.rate 0
  let p := (t * r + 999999999) / 1000000000
  if r = 0 then t else gridTag r (p / r) (p % r)

/-- The newest operation is a switch of roles that waits for its row boundary. -/
def State.waitSwitch (s : State) : State := { s with twn := { s.twn with pendSwitch := some (s.lastHandle, s.switchAt) } }

section
variable (hroom : s.hif.ops.length < 16)
include hroom

theorem exec_refactor_started (hon : s.flag Reg.TOP_CTRL 1 = true) :
    exec (.refactor h) s = .next (s.startLong h 0x0030 .refactor true 0 []).waitRefac.showHealth := by
  have hfull : ¬16 ≤ s.hif.ops.length := by omega
  exact congrArg answer ((if_neg (by simp [hon])).trans (if_neg (by simp [hfull])))

theorem exec_rebalance_started (hon : s.flag Reg.DFS_CTRL 0 = true) :
    exec (.rebalance h) s = .next (s.startLong h 0x0031 .rebalance true 0 []).waitRebalance.showHealth :=
  congrArg answer ((if_neg (by simp [hon])).trans (if_neg (s.length_ops_startLong h _ _ _ _ _ hroom)))

theorem State.acceptExchange_started (op : Nat) (revert : Bool) (hidle : s.cyc.exch = none) (hstandby : s.cyc.standby.isSome = true)
    (hrun : s.cyc.run.isSome = true) (hran : revert = true → s.cyc.standbyRan = true) :
    s.acceptExchange h op revert = (s.startLong h op (.progExchange revert) true 0 []).beginExchange := by
  have hok : ¬(s.cyc.standby.isNone || s.cyc.run.isNone || (revert && !s.cyc.standbyRan)) = true := by
    cases revert <;> simp_all [Option.isSome_iff_ne_none]
  exact (if_neg (by simp [hidle])).trans ((if_neg hok).trans (if_neg (s.length_ops_startLong h _ _ _ _ _ hroom)))

theorem State.exch_beginExchange_startLong (op : Nat) (revert : Bool) :
    (s.startLong h op (.progExchange revert) true 0 []).beginExchange.cyc.exch = some (s.newHandle.1, s.elapsed) := by
  rw [← s.lastHandle_startLong h op (.progExchange revert) true 0 [] hroom,
    ← State.elapsed_of_tim (s.tim_startLong h op (.progExchange revert) true 0 [] hroom)]
  rfl

theorem exec_roleSwitch_started (hrole : s.role = 2 ∨ s.role = 4) (hnone : s.twn.pendSwitch = none) (hready : s.ready = true) :
    exec (.roleSwitch h) s = .next (s.startLong h 0x0090 .roleSwitch true 0 []).waitSwitch.showHealth :=
  congrArg answer ((if_neg (by rcases hrole with hr | hr <;> simp [hr, hnone])).trans ((if_neg (by simp [hready])).trans
    (if_neg (s.length_ops_startLong h _ _ _ _ _ hroom))))

end

theorem exec_progLoad_started (b : BufContent) (hbuf : bufOk h = true) (hload : s.loadingProgram = false) (hon : s.flag Reg.CYC_CTRL 0 = true)
    (hidle : s.cyc.exch = none) : exec (.progLoad h b) s = .next (s.startLong h 0x0040 (.progLoad (bufImage b)) false 1 []).showHealth :=
  congrArg answer ((if_neg (by simp [hbuf])).trans ((if_neg (by simp [hload])).trans (if_neg (by simp [hon, hidle]))))

/-- The row boundary of a switch of roles is at least 10 ms away: a grid tag is its grid point rounded, and the point is not before that time. -/
theorem State.le_switchAt : s.now + 10000000 ≤ s.switchAt := by
  unfold State.switchAt
  extract_lets t r p
  split
  · exact le_refl t
  · rename_i hr
    have hpos : 0 < r := Nat.pos_of_ne_zero hr
    have hceil : t * r ≤ p * 1000000000 := by omega
    have hsplit : r * (p / r) + p % r = p := Nat.div_add_mod p r
    have hround : (t - p / r * 1000000000) ≤ (p % r * 1000000000 + r / 2) / r := by
      rw [Nat.le_div_iff_mul_le hpos, Nat.sub_mul]
      have : p / r * 1000000000 * r = r * (p / r) * 1000000000 := by ring
      omega
    unfold gridTag
    omega

/-! #### Copies to the host buffer (R322, R323, R347) -/

theorem exec_archiveRead_started {source count : Nat} (first : Nat) (hsource : source < 6) (hcount : 0 < count) (hbuf : bufOk h = true)
    (hrows : source < 4 → s.histOn source = true ∧ (s.group source).isSome = true)
    (hsteep : source = 5 → s.flag Reg.MTR_CTRL 0 = true ∧ s.reg Reg.MTR_REC_DEPTH ≠ 0) (hlen : count * s.archiveSize source ≤ h.len) :
    exec (.archiveRead h source first count) s
      = .next (s.startCopy h 0x0070 (.archiveRead source first count) (copySteps (count * s.archiveSize source))).showHealth := by
  have hargs : ¬(6 ≤ source || count = 0 || !bufOk h) = true := by
    simp only [hbuf, Bool.not_true, Bool.or_false, Bool.or_eq_true, decide_eq_true_eq]
    omega
  have hkept : ¬((source < 4 && !(s.histOn source && (s.group source).isSome))
      || (source = 5 && (!s.flag Reg.MTR_CTRL 0 || s.reg Reg.MTR_REC_DEPTH = 0))) = true := by
    by_cases hlow : source < 4
    · simp [hrows hlow, show source ≠ 5 by omega]
    · by_cases hfive : source = 5
      · obtain ⟨hon, hdepth⟩ := hsteep hfive
        simpa [hlow, hon] using fun _ => hdepth
      · simp [hlow, hfive]
  exact congrArg answer ((if_neg hargs).trans ((if_neg hkept).trans (if_neg (by omega))))

theorem State.opRunning_eq_false {p : OpWork → Bool} (hp : ∀ o ∈ s.hif.ops, p o.work = false) : s.opRunning p = false :=
  List.any_eq_false.mpr fun o ho => Bool.eq_false_iff.mp (hp o ho)

/-- The sizes of the steps of EXPORT_FRAMES (R322). -/
def frameSteps (n stride : Nat) : List Nat :=
  let per := max 1 (65536 / max 1 stride)
  if n = 0 then [0] else (List.range ((n + per - 1) / per)).map (fun k => min per (n - k * per) * stride)

theorem length_frameSteps_pos (n stride : Nat) : 0 < (frameSteps n stride).length := by
  unfold frameSteps
  extract_lets per
  have hper : 1 ≤ per := le_max_left _ _
  split
  · exact Nat.one_pos
  · rw [List.length_map, List.length_range]
    exact Nat.div_pos (by omega) hper

theorem exec_exportFrames_started {r mark : Nat} {x : RecorderState} (hx : s.recorder r = some x) (hmark : mark < 4) (hbuf : bufOk h = true)
    (hfree : ∀ o, o ∈ s.hif.ops → ∀ a b, o.work ≠ .exportFrames r mark a b) (hlen : (x.widx - x.marks.getD mark 0) * s.recStride r x ≤ h.len) :
    exec (.exportFrames h r mark) s = .next (s.startCopy h 0x0022 (.exportFrames r mark (x.marks.getD mark 0) x.widx)
      (frameSteps (x.widx - x.marks.getD mark 0) (s.recStride r x))).showHealth := by
  change answer _ = _
  rw [answer_eq]
  simp only [hx]
  rw [if_neg (by simp [hbuf, hmark]), s.opRunning_eq_false, if_neg Bool.false_ne_true, if_neg (by omega)]
  · rfl
  · intro o ho
    split
    · rename_i r' m a b hw
      refine Bool.eq_false_iff.mpr fun hk => ?_
      simp only [Bool.and_eq_true, beq_iff_eq] at hk
      obtain ⟨rfl, rfl⟩ := hk
      exact hfree o ho a b hw
    · rfl

/-- The sizes of the steps of EXPORT without a signature (R323). -/
def exportSteps (s : State) (r : Nat) (x : RecorderState) (c : Capture) : List Nat :=
  (256 + 8 * x.cfg.chans.length) :: stepSizes (s.recStride r x * c.frames.length) ++ copySteps (64 * c.events.length)

theorem length_exportSteps_pos (r : Nat) (x : RecorderState) (c : Capture) : 0 < (exportSteps s r x c).length :=
  List.length_pos_of_mem (List.mem_append_left _ List.mem_cons_self)

theorem exec_export_started {r n : Nat} {x : RecorderState} {c : Capture} (hc : s.storedCapture r n = some (x, c)) (hidle : c.exporting = false)
    (hbuf : bufOk h = true) (hsign : x.cfg.signSlot = 0xFFFF) (hlen : (s.captureBytes r x c false).length ≤ h.len)
    (hroom : s.hif.ops.length < 16) :
    exec (.export_ h r n) s = .next (((s.useFree (3 * c.events.length)).setExporting r n true).startCopy h 0x0021
      (.export_ r n (s.captureBytes r x c false)) (exportSteps s r x c)).showHealth := by
  change answer _ = _
  rw [answer_eq]
  simp only [hc]
  rw [if_neg (by simp [hidle]), if_neg (by simp [hbuf])]
  simp only [hsign, bne_self_eq_false, Bool.false_eq_true, if_false, Nat.add_zero]
  rw [if_neg (by omega), if_neg (by omega)]
  simp only [State.signImage, if_true, List.append_nil, List.isEmpty_nil]
  rfl

/-! #### RESUME and the steps (R346, R347, R349) -/

/-- An operation at the step and with the units of one that was cut (R349). -/
def LongOp.resumeAt (c o : LongOp) : LongOp := { o with step := c.step, units := c.units, result := c.result }

/-- The journal shows a running operation at the step it has reached. -/
def State.rejournal (s : State) (n : Nat) : State :=
  match s.longOp n with
  | some o => s.putJournal (o.entry s.now 0x02 .running)
  | none => s

/-- The newest operation goes on from where a cut one stood, whose entry tells its handle (R349). -/
def State.resumeFrom (s : State) (e : JournalEntry) (c : LongOp) : State :=
  ((s.modOp s.lastHandle c.resumeAt).rejournal s.lastHandle).putJournal { e with disp := .resumed, resumedBy := s.lastHandle }

/-- The newest operation stands where the cut one stood. -/
theorem State.longOp_resumeFrom (e : JournalEntry) (c : LongOp) {o : LongOp} (ho : s.longOp s.lastHandle = some o) :
    (s.resumeFrom e c).longOp s.lastHandle = some (c.resumeAt o) := by
  have hshown (t : State) (n : Nat) : KeepsOps t (t.rejournal n) := by
    unfold State.rejournal
    split
    · exact .putJournal t _
    · exact .refl t
  rw [State.resumeFrom, ((hshown _ _).trans (.putJournal _ _)).longOp, s.longOp_modOp _ c.resumeAt (fun _ => rfl), ho, Option.map_some]

theorem exec_resume_archiveRead {target : Word} {e : JournalEntry} {c : LongOp} {source first count : Nat} (he : s.journalOf target.toNat = some e)
    (hdisp : e.disp = .resumable) (hctx : e.ctx = some c) (hwork : c.work = .archiveRead source first count)
    (hstands : s.sourceStands c.work = true) (hbuf : bufOk h = true) (hlen : c.sizes.foldl (· + ·) 0 ≤ h.len) (hroom : s.hif.ops.length < 16) :
    exec (.resume h target) s = .next ((s.startLong h 0x0004 c.work c.items c.total c.sizes).resumeFrom e c).showHealth := by
  change answer _ = _
  rw [answer_eq]
  simp only [he, hdisp, hctx]
  rw [if_neg (by simp [hstands]), if_neg (by simp [hbuf])]
  simp only [hwork]
  rw [if_neg (by omega), if_neg (s.length_ops_startLong h _ _ _ _ _ hroom)]
  simp only [State.resumeFrom, hctx]
  rfl

theorem exec_longOpStepCommit {handle : Nat} {o : LongOp} (ho : s.longOp handle = some o) :
    exec (.longOpStepCommit handle) s = .next ((s.workStep o).endCancelled handle).showHealth := by
  change answer _ = _
  rw [answer_eq]
  simp only [ho]

/-- A step of a settings save that is not its last commits, and does nothing more. -/
theorem State.workStep_settingsSave {o : LongOp} {l : List SettingRec} (hwork : o.work = .settingsSave l) (hmore : o.step + 1 < o.total) :
    s.workStep o = s.commitStep o.handle (if o.step = 0 then l.length else 0) (o.step + 1 == o.total) := by
  rw [State.workStep, hwork]
  exact if_pos hmore

theorem State.endCancelled_of_running {n : Nat} {o : LongOp} (ho : s.longOp n = some o) (hc : o.cancelled = false) : s.endCancelled n = s := by
  rw [State.endCancelled, ho]
  exact if_neg (by simp [hc])

/-- A cancelled operation is gone at a step boundary (R346). -/
theorem State.longOp_endCancelled {n : Nat} {o : LongOp} (ho : s.longOp n = some o) (hc : o.cancelled = true) :
    (s.endCancelled n).longOp n = none := by
  rw [State.endCancelled, ho]
  dsimp only
  rw [if_pos hc]
  exact State.longOp_finishOp _ _ _ _

end

/-- Settles O38: each command comes down to the start of its operation, which what follows keeps; a step that commits shows in its operation. -/
theorem longHostCommands : Obligations.LongHostCommands := by
  unfold Obligations.LongHostCommands
  refine ⟨fun s h hon hroom => ?refactor, fun s h hon hroom => ?rebalance, fun s h b hbuf hload hon hidle hroom => ?progLoad,
    fun s h hidle hstandby hrun hroom => ?progExchange, fun s h hidle hstandby hrun hran hroom => ?progRevert,
    fun s h hrole hnone hready hroom => ?roleSwitch,
    fun s h source first count hsource hcount hbuf hrows hsteep hlen hroom => ?archiveRead,
    fun s h r mark x hx hmark hbuf hfree hlen hroom => ?exportFrames,
    fun s h r n x c hc hidle hbuf hsign hlen hroom => ?exportCapture,
    fun s h target e c source first count he hdisp hctx hwork hstands hbuf hlen hroom hnew => ?resume,
    fun s handle o ho => exec_longOpStepCommit s ho, fun s handle o l ho hwork hmore hc => ?step, fun s handle o l ho hwork hmore hc => ?cancelled⟩
  case refactor =>
    exact ⟨_, exec_refactor_started s h hroom hon,
      (s.started_startLong h 0x0030 .refactor true 0 [] hroom).congr rfl ((State.showHealth_hif _).trans (State.waitRefac_hif _))⟩
  case rebalance =>
    refine ⟨_, exec_rebalance_started s h hroom hon,
      (s.started_startLong h 0x0031 .rebalance true 0 [] hroom).congr rfl ((State.showHealth_hif _).trans (State.waitRebalance_hif _)), ?_, ?_⟩
    · rw [State.flag_showHealth_ne _ _ _ (by decide)]
      exact State.flag_setFlag_same _ _ _ _ (by decide)
    · rw [State.showHealth_dfs, State.rebalance_waitRebalance, s.dfs_startLong h _ _ _ _ _ hroom, s.lastHandle_startLong h _ _ _ _ _ hroom]
  case progLoad =>
    exact ⟨_, exec_progLoad_started s h b hbuf hload hon hidle,
      (s.started_startLong h 0x0040 _ false 1 [] hroom).congr rfl (State.showHealth_hif _)⟩
  case progExchange =>
    refine ⟨_, congrArg answer (s.acceptExchange_started h hroom 0x0041 false hidle hstandby hrun nofun),
      (s.started_startLong h 0x0041 _ true 0 [] hroom).congr rfl ((State.showHealth_hif _).trans (State.beginExchange_hif _)), ?_⟩
    rw [State.showHealth_cyc, s.exch_beginExchange_startLong h hroom]
  case progRevert =>
    refine ⟨_, congrArg answer (s.acceptExchange_started h hroom 0x0042 true hidle hstandby hrun fun _ => hran),
      (s.started_startLong h 0x0042 _ true 0 [] hroom).congr rfl ((State.showHealth_hif _).trans (State.beginExchange_hif _)), ?_⟩
    rw [State.showHealth_cyc, s.exch_beginExchange_startLong h hroom]
  case roleSwitch =>
    have hst := s.started_startLong h 0x0090 .roleSwitch true 0 [] hroom
    refine ⟨_, (s.startLong h 0x0090 .roleSwitch true 0 []).switchAt, exec_roleSwitch_started s h hroom hrole hnone hready,
      hst.congr rfl (State.showHealth_hif _), ?_, ?_⟩
    · rw [State.showHealth_twn, State.waitSwitch, s.lastHandle_startLong h _ _ _ _ _ hroom]
    · rw [← State.now_of_tim (s.tim_startLong h 0x0090 .roleSwitch true 0 [] hroom)]
      exact State.le_switchAt _
  case archiveRead =>
    exact ⟨_, exec_archiveRead_started s h first hsource hcount hbuf hrows hsteep hlen,
      (s.started_startLong h 0x0070 _ false _ _ hroom).congr rfl (State.showHealth_hif _)⟩
  case exportFrames =>
    exact ⟨_, _, exec_exportFrames_started s h hx hmark hbuf hfree hlen,
      (s.started_startLong h 0x0022 _ false _ _ hroom).congr rfl (State.showHealth_hif _), length_frameSteps_pos _ _⟩
  case exportCapture =>
    exact ⟨_, (exportSteps s r x c).length, exec_export_started s h hc hidle hbuf hsign hlen hroom, length_exportSteps_pos s r x c,
      (((s.useFree (3 * c.events.length)).setExporting r n true).started_startLong h 0x0021 _ false _ _ hroom).congr rfl (State.showHealth_hif _)⟩
  case resume =>
    have hlast := s.lastHandle_startLong h 0x0004 c.work c.items c.total c.sizes hroom
    have hop := s.longOp_startLong h 0x0004 c.work c.items c.total c.sizes hroom hnew
    have hresumed := (s.startLong h 0x0004 c.work c.items c.total c.sizes).longOp_resumeFrom e c (hlast.symm ▸ hop)
    refine ⟨_, c.resumeAt (s.newOp h 0x0004 c.work c.items c.total c.sizes),
      exec_resume_archiveRead s h he hdisp hctx hwork hstands hbuf hlen hroom, ?_, rfl, rfl, rfl⟩
    rw [← hlast, State.longOp_showHealth, hresumed]
  case step =>
    have hnext := s.longOp_commitStep (if o.step = 0 then l.length else 0) (o.step + 1 == o.total) ho
    obtain rfl := s.handle_of_longOp ho
    refine ⟨_, exec_longOpStepCommit s ho, ?_⟩
    rw [s.workStep_settingsSave hwork hmore, State.endCancelled_of_running _ hnext hc, State.longOp_showHealth, hnext]
    rfl
  case cancelled =>
    have hnext := s.longOp_commitStep (if o.step = 0 then l.length else 0) (o.step + 1 == o.total) ho
    obtain rfl := s.handle_of_longOp ho
    refine ⟨_, exec_longOpStepCommit s ho, ?_⟩
    rw [s.workStep_settingsSave hwork hmore, State.longOp_showHealth]
    exact State.longOp_endCancelled _ hnext hc

end Sys2Proof.Machine
end

section
/-!
PROOFS for the statement of family 10_porac_engines: what leaves the work of the engines, the serial numbers of the instances, the delay
counter, the epochs and the halts of the graphs alone.
-/
namespace Sys2Proof.Machine

/-! ### Graphs -/

/-- A map of a sparse map that keeps the keys maps what is found. -/
theorem kvGet_map {α β : Type} (l : List (Nat × α)) (f : Nat × α → Nat × β) (h : ∀ x ∈ l, (f x).1 = x.1) (a : Nat) :
    kvGet (l.map f) a = (kvGet l a).map (fun y => (f (a, y)).2) := by
  induction l with
  | nil => rfl
  | cons p r ih =>
    obtain ⟨b, w⟩ := p
    have hb : (f (b, w)).1 = b := h _ List.mem_cons_self
    rw [List.map_cons, show f (b, w) = (b, (f (b, w)).2) from Prod.ext hb rfl, kvGet, kvGet, ih fun x hx => h x (List.mem_cons_of_mem _ hx)]
    split
    · subst b
      rfl
    · rfl

theorem State.graph_modGraph (s : State) (g k : Nat) (f : GraphState → GraphState) :
    (s.modGraph g f).graph k = if k = g then (s.graph k).map f else s.graph k := kvGet_kvMod _ _ _ _

/-- A full list of LC0 changes what is told of the reserves alone (R260). -/
theorem State.dfs_lc0Exhausted (s : State) (c res : Nat) : ∃ l, (s.lc0Exhausted c res).dfs = { s.dfs with reserveOut := l } := by
  unfold State.lc0Exhausted
  split
  · exact ⟨_, rfl⟩
  · refine ⟨s.dfs.reserveOut ++ [(c, res)], ?_⟩
    rw [State.blockError_dfs, State.log_dfs]

theorem State.dfs_showPlace (s : State) : s.showPlace.dfs = s.dfs := by
  have hshow (v w : Word) : ((s.setReg Reg.DFS_PLACE_INFO v).setReg Reg.DFS_PLACE_LOAD w).dfs = s.dfs := rfl
  unfold State.showPlace
  split <;> exact hshow _ _

theorem State.dfs_hgwSend (s : State) (dst : Nat) (c : HgwClass) (b : HgwBody) : (s.hgwSend dst c b).dfs = s.dfs := by
  obtain ⟨_, _, _, _, h⟩ := s.hgwSend_only dst c b
  rw [h]

theorem State.dfs_showCluster (s : State) (c : Nat) : (s.showCluster c).dfs = s.dfs := by
  unfold State.showCluster
  dsimp only
  rw [State.setField_dfs, State.setField_dfs, State.setReg_dfs, State.setReg_dfs, State.setField_dfs, State.setField_dfs, State.setReg_dfs]

theorem State.dfs_showEngine (s : State) (e : Nat) : (s.showEngine e).dfs = s.dfs := by
  unfold State.showEngine
  dsimp only
  split <;> rw [State.setReg_dfs, State.setField_dfs, State.setFlag_dfs, State.setFlag_dfs]

/-! ### What leaves the engines' work alone -/

/-- The work of an engine: what it runs, and what it has suspended (R246, R247). -/
def EngineState.work (x : EngineState) : Option (Nat × Nat) × Option (Nat × Nat) := (x.running, x.suspended)

/-- Every engine keeps its work; the next serial number, the delay counter, the last epoch and the halts of the graphs stay as they are. -/
structure KeepsWork (s t : State) : Prop where
  work : t.dfs.engines.map EngineState.work = s.dfs.engines.map EngineState.work
  nextId : t.dfs.nextId = s.dfs.nextId
  delayTick : t.dfs.delayTick = s.dfs.delayTick
  epochStart : t.dfs.epochStart = s.dfs.epochStart
  halted : ∀ g, (t.graph g).map GraphState.halted = (s.graph g).map GraphState.halted

namespace KeepsWork

variable {s t u : State}

theorem refl (s : State) : KeepsWork s s := ⟨rfl, rfl, rfl, rfl, fun _ => rfl⟩

theorem trans (h : KeepsWork s t) (k : KeepsWork t u) : KeepsWork s u :=
  ⟨k.work.trans h.work, k.nextId.trans h.nextId, k.delayTick.trans h.delayTick, k.epochStart.trans h.epochStart,
    fun g => (k.halted g).trans (h.halted g)⟩

/-- A fold over what holds a state, each of whose updates keeps the work of that state. -/
theorem foldl_of {σ β : Type} (p : σ → State) (f : σ → β → σ) (h : ∀ x b, KeepsWork (p x) (p (f x b))) (l : List β) (x : σ) :
    KeepsWork (p x) (p (l.foldl f x)) := by
  induction l generalizing x with
  | nil => exact .refl (p x)
  | cons b r ih => exact (h x b).trans (ih _)

theorem foldl {β : Type} (f : State → β → State) (h : ∀ s b, KeepsWork s (f s b)) (l : List β) (s : State) : KeepsWork s (l.foldl f s) :=
  foldl_of id f h l s

theorem ite {c : Prop} [Decidable c] (ht : KeepsWork s t) (hu : KeepsWork s u) : KeepsWork s (if c then t else u) := by
  split
  · exact ht
  · exact hu

/-- An update of what is no part of the engines and graphs. -/
theorem of_dfs (h : t.dfs = s.dfs) : KeepsWork s t :=
  ⟨by rw [h], by rw [h], by rw [h], by rw [h], fun g => by rw [State.graph, State.graph, h]⟩

theorem length (h : KeepsWork s t) : t.dfs.engines.length = s.dfs.engines.length := by
  simpa using congrArg List.length h.work

theorem engine (h : KeepsWork s t) (e : Nat) : (t.engine e).work = (s.engine e).work := by
  have hget (u : State) : (u.engine e).work = (u.dfs.engines.map EngineState.work).getD e (none, none) := by
    rw [State.engine, List.getD_eq_getElem?_getD, List.getD_eq_getElem?_getD, List.getElem?_map]
    exact (Option.getD_map EngineState.work {} _).symm
  rw [hget, hget, h.work]

theorem running (h : KeepsWork s t) (e : Nat) : (t.engine e).running = (s.engine e).running := congrArg Prod.fst (h.engine e)

theorem suspended (h : KeepsWork s t) (e : Nat) : (t.engine e).suspended = (s.engine e).suspended := congrArg Prod.snd (h.engine e)

/-- A graph that is there stays there. -/
theorem graph (h : KeepsWork s t) {g : Nat} {x : GraphState} (hx : s.graph g = some x) : ∃ y, t.graph g = some y ∧ y.halted = x.halted := by
  have hh := h.halted g
  rw [hx, Option.map_some] at hh
  exact Option.map_eq_some_iff.mp hh

theorem setReg (s : State) (a : Nat) (v : Word) : KeepsWork s (s.setReg a v) := of_dfs rfl

theorem setField (s : State) (a hi lo v : Nat) : KeepsWork s (s.setField a hi lo v) := of_dfs rfl

theorem setFlag (s : State) (a n : Nat) (b : Bool) : KeepsWork s (s.setFlag a n b) := of_dfs rfl

theorem bumpBy (s : State) (a n : Nat) : KeepsWork s (s.bumpBy a n) := of_dfs rfl

theorem bump (s : State) (a : Nat) : KeepsWork s (s.bump a) := of_dfs rfl

theorem log (s : State) (code sev : Nat) (p : List Byte) : KeepsWork s (s.log code sev p) := of_dfs (s.log_dfs _ _ _)

theorem hgwSend (s : State) (dst : Nat) (c : HgwClass) (b : HgwBody) : KeepsWork s (s.hgwSend dst c b) :=
  of_dfs (s.dfs_hgwSend dst c b)

theorem showHealth (s : State) : KeepsWork s s.showHealth := of_dfs s.showHealth_dfs

/-! #### Graphs, instances and engines -/

theorem modGraph (s : State) (g : Nat) (f : GraphState → GraphState) (h : ∀ x, (f x).halted = x.halted) :
    KeepsWork s (s.modGraph g f) := by
  refine ⟨rfl, rfl, rfl, rfl, fun k => ?_⟩
  rw [s.graph_modGraph]
  split
  · rw [Option.map_map]
    exact congrArg (Option.map · _) (funext h)
  · rfl

theorem modInst (s : State) (id : Nat) (f : GraphInst → GraphInst) : KeepsWork s (s.modInst id f) := ⟨rfl, rfl, rfl, rfl, fun _ => rfl⟩

theorem sweep (s : State) : KeepsWork s s.sweep := ⟨rfl, rfl, rfl, rfl, fun _ => rfl⟩

theorem addDelay (s : State) (c : Nat) (d : DelayEntry) : KeepsWork s (s.addDelay c d) := ⟨rfl, rfl, rfl, rfl, fun _ => rfl⟩

theorem triggerGraphs (s : State) (tr : Trigger) (key : Nat) (row : Option (Nat × Nat)) (c : Option Nat) :
    KeepsWork s (s.triggerGraphs tr key row c) := by
  refine ⟨rfl, rfl, rfl, rfl, fun g => ?_⟩
  rw [State.graph, State.triggerGraphs, kvGet_map _ _ fun x _ => by split <;> rfl, Option.map_map]
  refine congrArg (Option.map · _) (funext fun x => ?_)
  rw [Function.comp_apply]
  split <;> rfl

theorem modEngine (s : State) (e : Nat) {f : EngineState → EngineState} (h : ∀ x, (f x).work = x.work) :
    KeepsWork s (s.modEngine e f) := by
  refine ⟨?_, rfl, rfl, rfl, fun _ => rfl⟩
  change (s.dfs.engines.modify e f).map _ = _
  refine List.ext_getElem? fun i => ?_
  rw [List.getElem?_map, List.getElem?_modify, List.getElem?_map]
  split <;> cases s.dfs.engines[i]? <;> simp [h]

theorem accountEngine (s : State) (e : Nat) : KeepsWork s (s.accountEngine e) := by
  unfold State.accountEngine
  extract_lets _ _ _ _ _ _ counted
  have hcounted : KeepsWork s counted := modEngine s e fun _ => rfl
  split
  · exact hcounted.trans (modGraph _ _ _ fun _ => rfl)
  · exact hcounted

theorem showEngine (s : State) (e : Nat) : KeepsWork s (s.showEngine e) := of_dfs (s.dfs_showEngine e)

theorem pmcEngine (s : State) (e code lc n : Nat) : KeepsWork s (s.pmcEngine e code lc n) := by
  have hadd (t : State) (sel : Nat) : KeepsWork t (t.pmcAdd sel n) := ite (of_dfs rfl) (of_dfs rfl)
  exact ite (refl s) (foldl _ (fun t k => ite (hadd t _) (refl t)) _ s)

/-! #### Ready lists and tokens (R242, R246, R248) -/

theorem lc0Exhausted (s : State) (c res : Nat) : KeepsWork s (s.lc0Exhausted c res) := by
  obtain ⟨l, h⟩ := s.dfs_lc0Exhausted c res
  exact ⟨by rw [h], by rw [h], by rw [h], by rw [h], fun g => by rw [State.graph, State.graph, h]⟩

theorem tryJoin (s : State) (c : Nat) (r : ReadyRef) : KeepsWork s (s.tryJoin c r) :=
  ite (modInst s _ _) (ite (lc0Exhausted s _ _) (refl s))

theorem promote (s : State) (c : Nat) (sources : Bool) : KeepsWork s (s.promote c sources) := foldl _ (fun t r => tryJoin t c r) _ s

theorem showCluster (s : State) (c : Nat) : KeepsWork s (s.showCluster c) := of_dfs (s.dfs_showCluster c)

theorem deliverTokens (s : State) (id : Nat) (toks : List (DfsArc × Token)) : KeepsWork s (s.deliverTokens id toks) := by
  unfold State.deliverTokens
  split
  · split
    · dsimp only
      exact (((modInst s id _).trans (bumpBy _ _ _)).trans (promote _ _ _)).trans (showCluster _ _)
    · exact refl s
  · exact refl s

theorem readySources (s : State) (id c : Nat) : KeepsWork s (s.readySources id c) := by
  unfold State.readySources
  extract_lets begun
  have hbegun : KeepsWork s begun := modInst s id _
  split
  · split
    · extract_lets woken off fed waiting joined
      have hfed : KeepsWork begun fed := (modInst begun id _).trans (deliverTokens woken id _)
      have hjoined : KeepsWork fed joined := foldl _ (fun t r => tryJoin t c r) waiting fed
      exact (((hbegun.trans hfed).trans hjoined).trans (sweep joined)).trans (showCluster _ c)
    · exact hbegun
  · exact hbegun

/-! #### Moves and delays (R249, R254) -/

theorem showMakespan (s : State) (c : Nat) : KeepsWork s (s.showMakespan c) := by
  have hshow (v : Word) (b : Bool) : KeepsWork s ((s.setReg (Reg.DFS_CL_MAKESPAN c) v).setFlag (Reg.DFS_CL_STATUS c) 8 b) := of_dfs rfl
  unfold State.showMakespan
  exact hshow _ _

theorem showLocal (s : State) : KeepsWork s s.showLocal := foldl _ (fun _ _ => of_dfs (by rfl)) _ s

theorem showPlace (s : State) : KeepsWork s s.showPlace := of_dfs s.dfs_showPlace

theorem settle (s : State) (g c : Nat) : KeepsWork s (s.settle g c) := by
  unfold State.settle
  split
  · exact modGraph s g _ fun _ => by rfl
  · exact refl s

theorem applyMove (s : State) (g key : Nat) : KeepsWork s (s.applyMove g key).1 := by
  unfold State.applyMove
  split
  · split
    · split
      · exact refl s
      · split
        · exact ((((settle s g _).trans (bump _ _)).trans (showMakespan _ _)).trans (showLocal _)).trans (showPlace _)
        · exact (((modGraph s g _ fun _ => by rfl).trans (bump _ _)).trans (log _ _ _ _)).trans (showPlace _)
    · exact refl s
  · exact refl s

theorem delayFires (s : State) (c : Nat) (d : DelayEntry) : KeepsWork s (s.delayFires c d) := by
  unfold State.delayFires
  split
  · split
    · exact ((modInst s _ _).trans (deliverTokens _ _ _)).trans (sweep _)
    · exact refl s
  · split
    · split
      · exact (ite (modGraph s _ _ fun _ => by rfl) (refl s)).trans (addDelay _ _ _)
      · exact refl s
    · exact refl s

end KeepsWork

end Sys2Proof.Machine
end

section
/-!
PROOFS for the statement of family 10_porac_engines: no operator that computes changes the engines' work (Table 10-1).
-/
namespace Sys2Proof.Machine

namespace KeepsWork

/-! #### Derived channels (R24, R133) -/

theorem glean (s : State) (n : Nat) (e : GleanEntry) : KeepsWork s (s.glean n e) := by
  unfold State.glean
  extract_lets _ _ _ _ counted _ full
  have hfull : KeepsWork s full := of_dfs rfl
  exact ite (ite (of_dfs rfl) (ite hfull (hfull.trans (log full _ _ _)))) (of_dfs rfl)

theorem writeDerived (s : State) (g tag chan : Nat) (a b : Word) (q : Half) (closure : Option Nat) :
    KeepsWork s (s.writeDerived g tag chan a b q closure) := by
  have hfurrow (f : Furrow → Furrow) : KeepsWork s (s.modFurrow g tag f) := of_dfs rfl
  unfold State.writeDerived State.writeWithTq
  extract_lets _ counted
  have hcounted : KeepsWork s counted := of_dfs rfl
  split
  · exact (hfurrow _).trans (triggerGraphs _ _ _ _ _)
  · split
    · split
      · exact hcounted.trans (glean counted _ _)
      · exact of_dfs rfl
    · exact hcounted

theorem writeOut (s : State) (lc g tag chan : Nat) (a b : Word) (q : Half) (closure : Option Nat) :
    KeepsWork s (s.writeOut lc g tag chan a b q closure) := by
  have hown : KeepsWork s (s.writeOwn g tag chan a b q closure) := by
    unfold State.writeOwn
    split
    · exact writeDerived s _ _ _ _ _ _ _
    · exact refl s
  exact ite (hgwSend s _ _ _) hown

/-! #### The analyser (R193 to R212) -/

theorem modOsc (s : State) (g : Nat) (f : OscGroup → OscGroup) : KeepsWork s (s.modOsc g f) := of_dfs rfl

theorem modMonitor (s : State) (i : Nat) (f : MonitorState → MonitorState) : KeepsWork s (s.modMonitor i f) := of_dfs rfl

theorem withOsc (s : State) (x : OscState) : KeepsWork s { s with osc := x } := of_dfs rfl

theorem showOsc (s : State) (g : Nat) : KeepsWork s (s.showOsc g) := of_dfs rfl

theorem oscCollect (s : State) (g : Nat) : KeepsWork s (s.oscCollect g) := by
  have hsample (t : State) : KeepsWork t (t.oscSample g) := of_dfs rfl
  unfold State.oscCollect
  refine ite (refl s) ?_
  extract_lets
  split
  · exact foldl _ (fun t f => (modOsc t g _).trans (hsample _)) _ s
  · exact refl s

theorem addColumns (s : State) (g top : Nat) : KeepsWork s (s.addColumns g top) := by
  unfold State.addColumns
  extract_lets
  dsimp -zeta only
  extract_lets
  exact ite (refl s) ((modOsc s g _).trans (bumpBy _ _ _))

theorem applyRevisions (s : State) (g : Nat) : KeepsWork s (s.applyRevisions g) := by
  unfold State.applyRevisions
  extract_lets _ _ _ _ _ _ ks counted replaced
  have hcounted : KeepsWork s counted := of_dfs rfl
  have hreplaced : KeepsWork counted replaced := foldl _ (fun t _ => modOsc t g _) ks counted
  exact ite (refl s) ((hcounted.trans hreplaced).trans (modOsc replaced g _))

theorem oscStart (s : State) : KeepsWork s s.oscStart := by
  unfold State.oscStart
  refine ite (refl s) ?_
  split
  · exact (((applyRevisions s _).trans (addColumns _ _ _)).trans (modOsc _ _ _)).trans (showOsc _ _)
  · exact refl s

theorem oscQueue (s : State) (g tag : Nat) : KeepsWork s (s.oscQueue g tag) := by
  unfold State.oscQueue
  extract_lets _ noted counted asked
  have hnoted : KeepsWork s noted := modOsc s g _
  have hcounted : KeepsWork noted counted := of_dfs rfl
  have hasked : KeepsWork noted asked := ite (hcounted.trans (log counted _ _ _)) (refl noted)
  exact ite (hnoted.trans (of_dfs rfl)) ((hnoted.trans hasked).trans (modOsc asked g _))

theorem oscRefreshes (s : State) : KeepsWork s s.oscRefreshes := by
  unfold State.oscRefreshes
  extract_lets gs collected queued
  have hcollected : KeepsWork s collected := foldl _ (fun t g => oscCollect t g) gs s
  have hqueued : KeepsWork collected queued :=
    foldl _ (fun t g => foldl _ (fun u tag => ite (oscQueue u g tag) (refl u)) _ t) gs collected
  exact (hcollected.trans hqueued).trans (oscStart queued)

theorem oscPub (s : State) (g tag : Nat) (closure : Option Nat) : KeepsWork s (s.oscPub g tag closure) := by
  unfold State.oscPub
  extract_lets _ _ _ modes m _ thin _ _ _ _ aged told noted put dated
  have hput (t : State) (c : Nat) (v : Option (Word × Word)) : KeepsWork t (put t c v) := by
    unfold put
    split <;> exact writeDerived t _ _ _ _ _ _ _
  have haged : KeepsWork s aged := ite (refl s) (of_dfs rfl)
  have htold : KeepsWork aged told := ite (log aged _ _ _) (refl aged)
  have hnoted : KeepsWork told noted := modOsc told g _
  have hdated : KeepsWork noted dated := writeDerived noted _ _ _ _ _ _ _
  refine ite (refl s) ((((haged.trans htold).trans hnoted).trans hdated).trans (foldl _ (fun t i => ?_) _ dated))
  extract_lets _ _ first second
  have hmode : KeepsWork t second := (hput t _ _).trans (hput first _ _)
  exact ite (hmode.trans (foldl _ (fun u j => hput u _ _) _ second)) hmode

theorem publishDue (s : State) (rg : Nat) (f : Furrow) : KeepsWork s (s.publishDue rg f) :=
  foldl _ (fun t _ => ite ((oscPub t _ _ _).trans (modOsc _ _ _)) (refl t)) _ s

theorem bandEvents (s : State) (i k : Nat) (b : BandState) : KeepsWork s (s.bandEvents i k b).1 := by
  unfold State.bandEvents
  extract_lets one
  have hone (x : State × BandState) (j code sev : Nat) (on : Bool) : KeepsWork x.1 (one x j code sev on).1 := by
    unfold one
    split
    · exact log x.1 _ _ _
    · exact refl x.1
  exact trans (trans (hone (s, b) _ _ _ _) (hone _ _ _ _ _)) (hone _ _ _ _ _)

theorem forcedChanged (s : State) (i k : Nat) (was now : Bool) : KeepsWork s (s.forcedChanged i k was now) := by
  have hstatus (b c : Bool) : KeepsWork s ((s.setFlag Reg.OSC_LOC_STATUS 0 b).setFlag Reg.OSC_LOC_STATUS 1 c) := of_dfs rfl
  have hactive (on : Bool) : KeepsWork s (s.setActive on) := by
    cases on
    · exact hstatus false false
    · exact ((hstatus true true).trans (withOsc _ _)).trans (withOsc _ _)
  exact ite (refl s) (hactive now)

theorem showMonitor (s : State) : KeepsWork s s.showMonitor := by
  unfold State.showMonitor
  extract_lets
  split
  · extract_lets _ _ _ _ _ _ _ shown
    have hshown : KeepsWork s shown := (((setReg s _ _).trans (setReg _ _ _)).trans (setField _ _ _ _ _)).trans (setFlag _ _ _ _)
    exact hshown.trans (foldl _ (fun t b => of_dfs (by rfl)) _ shown)
  · exact foldl _ (fun t k => ite (refl t) (of_dfs (by rfl))) _ s

theorem copyOutputs (s : State) (g tag : Nat) (l : List (Nat × Slot)) (closure : Option Nat) :
    KeepsWork s (s.copyOutputs g tag l closure) := foldl _ (fun t _ => writeDerived t _ _ _ _ _ _ _) l s

theorem oscBand (s : State) (i g n tag lc : Nat) (closure : Option Nat) : KeepsWork s (s.oscBand i g n tag lc closure) := by
  unfold State.oscBand
  split
  · refine ite (refl s) ?_
    extract_lets _ _ _ _ reset _ _ _ _ old _ _ halved _ judged counted _
    have hcounted : KeepsWork s counted := ite (of_dfs rfl) (refl s)
    generalize hevents : List.foldl _ (counted, []) judged = events
    have htold : KeepsWork s events.1 := by
      rw [← hevents]
      refine hcounted.trans (foldl_of (σ := State × List BandState) Prod.fst _ (fun p y => ?_) judged (counted, []))
      exact bandEvents p.1 i _ y
    obtain ⟨told, bands⟩ := events
    dsimp -zeta only
    extract_lets noted forced shown copied _ vals written outs
    have hnoted : KeepsWork s noted := htold.trans (modMonitor told i _)
    have hforced : KeepsWork s forced := hnoted.trans (foldl _ (fun t b => forcedChanged t i b _ _) _ noted)
    have hshown : KeepsWork s shown := ite ((hforced.trans (of_dfs (by rfl))).trans (showMonitor _)) hforced
    have hcopied : KeepsWork s copied := hshown.trans (copyOutputs shown g tag _ closure)
    have hwritten : KeepsWork s written := hshown.trans (foldl _ (fun t _ => writeDerived t _ _ _ _ _ _ _) vals shown)
    exact ite (ite (hcopied.trans (modMonitor copied i _)) hcopied) (hwritten.trans (modMonitor written i _))
  · exact refl s

theorem monitorsDue (s : State) (g : Nat) (f : Furrow) : KeepsWork s (s.monitorsDue g f) :=
  foldl _ (fun t _ => ite (oscBand t _ _ _ _ _ _) (refl t)) _ s

theorem oscDef (s : State) (n tag : Nat) (closure : Option Nat) : KeepsWork s (s.oscDef n tag closure) := by
  unfold State.oscDef
  refine ite (refl s) ?_
  extract_lets _ _ ran _ _ out
  have hran : KeepsWork s ran := withOsc s _
  have hout (t : State) (l : List (Nat × Slot)) : KeepsWork t (out t l) := foldl _ (fun u _ => writeDerived u _ _ _ _ _ _ _) l t
  refine ite (hran.trans (hout ran _)) ?_
  dsimp -zeta only
  extract_lets _ stepped _ _ _ _ _ shown told _ located
  have hstepped : KeepsWork s stepped := hran.trans (withOsc ran _)
  have hshown : KeepsWork s shown := hstepped.trans (of_dfs rfl)
  have htold : KeepsWork s told := ite (hshown.trans (log shown _ _ _)) hshown
  have hlocated : KeepsWork told located := withOsc told _
  exact ite (hstepped.trans (copyOutputs stepped _ _ _ _)) ((htold.trans hlocated).trans (hout located _))

theorem locationDue (s : State) (g : Nat) (f : Furrow) : KeepsWork s (s.locationDue g f) := ite (oscDef s _ _ _) (refl s)

theorem oscDue (s : State) : KeepsWork s s.oscDue := by
  refine ite (refl s) ((foldl _ (fun t x => foldl _ (fun u f => ?_) _ t) _ s).trans (oscRefreshes _))
  exact ((publishDue u _ f).trans (monitorsDue _ _ f)).trans (locationDue _ _ _)

/-! #### Disturbance capture (R308 to R322) -/

theorem modRec (s : State) (r : Nat) (f : RecorderState → RecorderState) : KeepsWork s (s.modRec r f) := of_dfs rfl

theorem showStore (s : State) (r : Nat) : KeepsWork s (s.showStore r) := by
  unfold State.showStore
  split <;> exact of_dfs rfl

theorem overwriteOldest (s : State) (r : Nat) : KeepsWork s (s.overwriteOldest r) := by
  unfold State.overwriteOldest
  split
  · split
    · exact ((modRec s r _).trans (bump _ _)).trans (log _ _ _ _)
    · exact refl s
  · exact refl s

theorem makeRoom (s : State) (r n fuel : Nat) : KeepsWork s (State.makeRoom r n fuel s).1 := by
  induction fuel generalizing s with
  | zero => exact refl s
  | succ fuel ih =>
    unfold State.makeRoom
    split
    · split
      · exact refl s
      · split
        · exact (overwriteOldest s r).trans (ih _)
        · exact refl s
    · exact refl s

theorem capTryCommit (s : State) (r : Nat) : KeepsWork s (s.capTryCommit r) := by
  have hcommit (t : State) (lo n : Nat) : KeepsWork t (t.commitRange lo n) := foldl _ (fun u _ => of_dfs (u.commitReg_dfs _)) _ t
  have hrenew (t old : State) : KeepsWork t (t.renewConds old r) := of_dfs rfl
  unfold State.capTryCommit
  split
  · refine ite ?_ (refl s)
    extract_lets asked
    have hasked : KeepsWork s asked := of_dfs rfl
    split
    · exact (hasked.trans (of_dfs (by rfl))).trans (log _ _ _ _)
    · exact (hasked.trans (hcommit asked _ _)).trans (hrenew _ _)
  · exact refl s

theorem closeCapture (s : State) (r : Nat) (flags : Half) (hold : Bool) : KeepsWork s (s.closeCapture r flags hold) := by
  unfold State.closeCapture
  split
  · split
    · extract_lets _ _ _ _ _ _ _ _ _ stored counted shown told settled
      have hshown : KeepsWork s shown := of_dfs rfl
      have hsettled : KeepsWork told settled := ite (of_dfs rfl) (ite (of_dfs rfl) (of_dfs rfl))
      exact (((hshown.trans (log shown _ _ _)).trans hsettled).trans (showStore _ r)).trans (capTryCommit _ r)
    · exact refl s
  · exact refl s

theorem overflow (s : State) (r cause : Nat) (hold : Bool) : KeepsWork s (s.overflow r cause hold) := by
  have hbump : KeepsWork s (s.bump Reg.CAP_CNT_OVERFLOW) := of_dfs rfl
  unfold State.overflow
  split
  · exact (hbump.trans (log _ _ _ _)).trans (closeCapture _ r _ hold)
  · exact refl s

theorem storeFrame (s : State) (r : Nat) (hold : Bool) (f : CapFrame) : KeepsWork s (s.storeFrame r hold f) := by
  unfold State.storeFrame
  split
  next x _ =>
    split
    · refine ite (refl s) ?_
      have hroom : KeepsWork s (s.roomFor r (s.recStride r x)).1 := makeRoom s r _ _
      generalize s.roomFor r (s.recStride r x) = room at hroom ⊢
      exact ite ((hroom.trans (modRec _ r _)).trans (showStore _ r)) (hroom.trans (overflow _ r 1 hold))
    · exact refl s
  · exact refl s

theorem laterTrigger (s : State) (r k : Nat) : KeepsWork s (s.laterTrigger r k) := by
  unfold State.laterTrigger
  split
  · split
    · extract_lets _ _ more _ grown counted
      have hcounted : KeepsWork s counted := of_dfs rfl
      exact hcounted.trans (foldl _ (fun t _ => storeFrame t r false _) more counted)
    · exact refl s
  · exact refl s

theorem missFiring (s : State) (r cond : Nat) (quiet : Bool) : KeepsWork s (s.missFiring r cond quiet) := by
  unfold State.missFiring
  extract_lets counted
  have hcounted : KeepsWork s counted := of_dfs rfl
  split
  · exact ite hcounted ((hcounted.trans (modRec counted r _)).trans (log _ _ _ _))
  · exact hcounted

theorem foundFiring (s : State) (r : Nat) (f : Firing) : KeepsWork s (s.foundFiring r f) := by
  unfold State.foundFiring
  split
  · refine ite ?_ (ite (laterTrigger s r _) (missFiring s r _ _))
    extract_lets _ gathered
    have hgathered : KeepsWork s gathered := modRec s r _
    exact ite (hgathered.trans (of_dfs rfl)) hgathered
  · exact refl s

theorem fireDiscrete (s : State) (r c tc : Nat) : KeepsWork s (s.fireDiscrete r c tc) := by
  unfold State.fireDiscrete
  split
  · split
    · exact ite (missFiring s r c true) (foundFiring s r _)
    · exact modRec s r _
  · exact refl s

theorem capHandoff (s : State) (kind src : Nat) (active : Bool) (key : Nat) : KeepsWork s (s.capHandoff kind src active key) := by
  refine foldl _ (fun t x => foldl _ (fun u c => ?_) _ t) _ s
  have hfired (f : RecorderState → RecorderState) : KeepsWork u (u.modRec x.1 f) := modRec u x.1 f
  exact ite (ite ((hfired _).trans (fireDiscrete _ x.1 c key)) (hfired _)) (refl u)

/-! #### Operators (Table 10-1) -/

theorem oscPubNode (s : State) (g tag : Nat) (closure : Option Nat) : KeepsWork s (s.oscPubNode g tag closure) := by
  unfold State.oscPubNode
  split
  · exact ite (oscPub s _ _ _) (modOsc s _ _)
  · exact refl s

/-- An operator that completes writes channels, hands over to alarms and recorders, or runs the analyser's part of its row; it puts no engine to work. -/
theorem runOperator (s : State) (i : GraphInst) (c : GraphRec) (o : OpInst) (blk : List Word) : KeepsWork s (s.runOperator i c o blk).st := by
  cases hop : (gnode c o.node).op <;> simp only [State.runOperator, hop]
  case slotWrite chans =>
    split
    · exact (foldl _ (fun t _ => writeOut t _ _ _ _ _ _ _ _) _ s).trans (modGraph _ _ _ fun _ => rfl)
    · exact refl s
  case almRaise => exact of_dfs rfl
  case capTrig => exact capHandoff s _ _ _ _
  case oscBand =>
    split
    · exact oscBand s _ _ _ _ _ _
    · exact refl s
  case oscDef =>
    split
    · exact oscDef s _ _ _
    · exact refl s
  case oscPub => exact oscPubNode s _ _ _
  all_goals exact refl s

end KeepsWork

end Sys2Proof.Machine
end

section
/-!
PROOFS of the statement of family 10_porac_engines: triggers and instances, dispatching, yielding and completing, state copies, delay ticks,
epochs, halts and fences.
-/
namespace Sys2Proof.Machine

/-! ### Registers below the alarms -/

/-- The registers of the blocks up to CYC stay as they are. -/
def KeepsLowRegs (s t : State) : Prop := ∀ a, a < 0xB00000 → t.reg a = s.reg a

namespace KeepsLowRegs

variable {s t u : State}

theorem refl (s : State) : KeepsLowRegs s s := fun _ _ => rfl

theorem trans (h : KeepsLowRegs s t) (k : KeepsLowRegs t u) : KeepsLowRegs s u := fun a ha => (k a ha).trans (h a ha)

theorem foldl {β : Type} (f : State → β → State) (h : ∀ s b, KeepsLowRegs s (f s b)) (l : List β) (s : State) : KeepsLowRegs s (l.foldl f s) := by
  induction l generalizing s with
  | nil => exact .refl s
  | cons b r ih => exact (h s b).trans (ih _)

theorem ite {c : Prop} [Decidable c] (ht : KeepsLowRegs s t) (hu : KeepsLowRegs s u) : KeepsLowRegs s (if c then t else u) := by
  split
  · exact ht
  · exact hu

/-- An update of what is no register. -/
theorem of_regs (h : t.regs = s.regs) : KeepsLowRegs s t := fun a _ => congrArg (smGet regReset · a) h

theorem setReg (s : State) {a : Nat} (v : Word) (h : 0xB00000 ≤ a) : KeepsLowRegs s (s.setReg a v) :=
  fun b hb => s.reg_setReg_ne a b v (by omega)

theorem bump (s : State) {a : Nat} (h : 0xB00000 ≤ a) : KeepsLowRegs s (s.bump a) := setReg s _ h

theorem setPair (s : State) {lo hi : Nat} (v : Nat) (hlo : 0xB00000 ≤ lo) (hhi : 0xB00000 ≤ hi) : KeepsLowRegs s (s.setPair lo hi v) :=
  (setReg s _ hlo).trans (setReg _ _ hhi)

theorem log (s : State) (code sev : Nat) (p : List Byte) (h : sev ≤ 4) : KeepsLowRegs s (s.log code sev p) :=
  fun _ ha => s.reg_log _ _ _ _ h (not_mem_logRegs_of_block (by omega))

theorem pmcEngine (s : State) (e code lc n : Nat) : KeepsLowRegs s (s.pmcEngine e code lc n) := by
  have hadd (t : State) {sel : Nat} (h : 0xB00000 ≤ sel) : KeepsLowRegs t (t.pmcAdd sel n) := by
    have hpair (v : Nat) : KeepsLowRegs t (t.setPair (sel + 8) (sel + 12) v) := setPair t v (by omega) (by omega)
    exact ite ((hpair _).trans (setReg _ _ h)) (hpair _)
  exact ite (refl s) (foldl _ (fun t k => ite (hadd t (by simp only [Reg.PMC_E_SEL]; omega)) (refl t)) _ s)

/-! #### Error reports (R445 to R450) -/

theorem escalate (s : State) (e : ErrorRec) (g : Nat) : KeepsLowRegs s (s.escalate e g) :=
  (log s _ _ _ (by decide)).trans (bump _ (by decide))

theorem gradeE2 (s : State) (e : ErrorRec) : KeepsLowRegs s (s.gradeE2 e).2 := by
  have hcount : KeepsLowRegs s (s.countE2 e.source) := of_regs rfl
  unfold State.gradeE2
  dsimp only
  split
  · split
    · exact hcount.trans (escalate _ _ _)
    · exact hcount
  · exact refl s

theorem gradeE3 (s : State) (e : ErrorRec) : KeepsLowRegs s (s.gradeE3 e).2 := by
  have hmark : KeepsLowRegs s (s.markE3 (blockOf e.source)) := of_regs rfl
  unfold State.gradeE3
  dsimp only
  split
  · split
    · exact hmark
    · split
      · exact hmark.trans (escalate _ _ _)
      · exact hmark
  · exact refl s

theorem noteLast (s : State) (e : ErrorRec) : KeepsLowRegs s (s.noteLast e) :=
  (((bump s (Nat.le_add_right_of_le (by decide))).trans (setPair _ _ (by decide) (by decide))).trans (setReg _ _ (by decide))).trans
    (setReg _ _ (by decide))

theorem contain (s : State) (e : ErrorRec) : KeepsLowRegs s (s.contain e) := by
  unfold State.contain State.beginE4
  refine ite (ite (refl s) ?_) (refl s)
  extract_lets _ _ _ off
  have hoff : KeepsLowRegs s off := of_regs rfl
  exact ite (hoff.trans (log off _ _ _ (by decide))) hoff

theorem withHlt (s : State) (x : HltState) : KeepsLowRegs s { s with hlt := x } := of_regs rfl

theorem preempt (s : State) (x : StackEntry) : KeepsLowRegs s (s.preempt x) := by
  unfold State.preempt
  split
  · exact (withHlt s _).trans (bump _ (by decide))
  · exact withHlt s _

theorem stackError (s : State) (x : StackEntry) : KeepsLowRegs s (s.stackError x) := by
  have hlost : KeepsLowRegs s (s.bump Reg.HLT_CNT_STACK_LOST) := bump s (by decide)
  unfold State.stackError
  split
  · exact preempt s x
  · exact ite (ite (preempt s x) (withHlt s _))
      (ite (ite hlost ((hlost.trans (log _ _ _ _ (by decide))).trans (withHlt _ _))) (preempt s x))

theorem blockError (s : State) (grade block code : Nat) : KeepsLowRegs s (s.blockError grade block code) := by
  have hstack (t : State) : KeepsLowRegs t t.showStack :=
    ((setReg t _ (by decide)).trans (setReg _ _ (by decide))).trans (setReg _ _ (by decide))
  have hhold (t : State) (e : ErrorRec) : KeepsLowRegs t (t.holdError s e) := by
    have hnotice (u : State) : KeepsLowRegs u (s.noticeHealth u) := ite (of_regs rfl) (refl u)
    exact (((withHlt t _).trans (stackError _ _)).trans (hstack _)).trans (hnotice _)
  rw [State.blockError, State.raiseError_eq, State.gradeError_eq]
  exact ((((gradeE2 s _).trans (gradeE3 _ _)).trans (noteLast _ _)).trans (contain _ _)).trans (hhold _ _)

end KeepsLowRegs

end Sys2Proof.Machine
end

section
/-!
PROOFS for the statement of family 10_porac_engines: engines take up operators, suspend them for LC0 work and end them.
-/
namespace Sys2Proof.Machine

section
variable (s : State)

/-! ### Engines take up and end work (R246, R247) -/

theorem State.engine_modEngine_same {e : Nat} (f : EngineState → EngineState) (h : e < s.dfs.engines.length) :
    (s.modEngine e f).engine e = f (s.engine e) := by
  simp [State.engine, State.modEngine, listMod, h]

theorem State.work_setEngine {e : Nat} (r u : Option (Nat × Nat)) (h : e < s.dfs.engines.length) :
    ((s.setEngine e r u).engine e).work = (r, u) := by
  rw [State.setEngine, (KeepsWork.showEngine _ e).engine, State.engine_modEngine_same _ _ (by rwa [(KeepsWork.accountEngine s e).length])]
  rfl

theorem State.reg_setEngine (e : Nat) (r u : Option (Nat × Nat)) {a : Nat} (h : a < 0x904000) : (s.setEngine e r u).reg a = s.reg a := by
  have hcount : (s.accountEngine e).reg a = s.reg a := by
    unfold State.accountEngine
    extract_lets
    split <;> rfl
  have hstatus : a ≠ Reg.DFS_PE_STATUS e := by simp only [Reg.DFS_PE_STATUS]; omega
  have hop : a ≠ Reg.DFS_PE_OP e := by simp only [Reg.DFS_PE_OP]; omega
  have hshow (t : State) : (t.showEngine e).reg a = t.reg a := by
    unfold State.showEngine
    dsimp only
    split <;> rw [State.reg_setReg_ne _ _ _ _ hop, State.reg_setField_ne _ _ _ _ _ _ hstatus, State.reg_setFlag_ne _ _ _ _ _ hstatus,
      State.reg_setFlag_ne _ _ _ _ _ hstatus]
  exact (hshow _).trans hcount

theorem State.running_dispatchTo {e c : Nat} (r : ReadyRef) (h : e < s.dfs.engines.length) :
    ((s.dispatchTo e c r).engine e).running = some (r.inst, r.node) := by
  unfold State.dispatchTo
  extract_lets _ _ _ taken placed working counted missed binned
  have hbinned : KeepsWork working binned :=
    ((KeepsWork.bump working _).trans (.ite (.bump counted _) (.refl counted))).trans (.ite (.bump missed _) (.refl missed))
  rw [((hbinned.trans (.promote binned c false)).trans (.showCluster _ c)).running]
  exact congrArg Prod.fst (placed.work_setEngine _ _ h)

theorem State.running_stopRun {e id n : Nat} {i : GraphInst} (hi : s.inst id = some i) (h : e < s.dfs.engines.length) :
    ((s.stopRun e id n).engine e).running = none := by
  have hset := congrArg Prod.fst (s.work_setEngine none (s.engine e).suspended h)
  unfold State.stopRun
  rw [hi]
  dsimp -zeta only
  extract_lets freed stopped
  have hstopped : KeepsWork (s.setEngine e none (s.engine e).suspended) stopped := (KeepsWork.pmcEngine _ e _ _ _).trans (.modInst freed id _)
  split
  · refine (KeepsWork.running (hstopped.trans (.trans (.ite (.refl stopped) (.deliverTokens stopped id _)) (.sweep _))) e).trans hset
  · exact (hstopped.running e).trans hset

theorem exec_operatorDispatch_idle {u v : State} {pe : Nat} {r : ReadyRef} (hon : s.flag Reg.DFS_CTRL 0 = true)
    (hpe : (clusterPes (clusterOf pe)).contains pe = true) (hup : s.peUp pe = true) (hrun : (s.engine pe).running = none)
    (hsusp : (s.engine pe).suspended = none)
    (hfirst : s.firstReservable (clusterOf pe) (s.refs (clusterOf pe) (fun _ o => o.phase == .ready)) = (u, some (r, v)))
    (htarget : v.targetOf (clusterOf pe) r = some pe) :
    exec (.operatorDispatch pe) s = .next (v.dispatchTo pe (clusterOf pe) r).showHealth := by
  change answer _ = _
  rw [answer_eq]
  dsimp only
  rw [if_neg (by simp only [hon, hpe, hup, hrun]; decide), hsusp]
  dsimp only
  rw [hfirst]
  dsimp only
  rw [if_pos htarget]

/-- An operator that lets waiting LC0 work go first is suspended on its engine. -/
def State.suspendRun (s : State) (pe id n lc : Nat) : State :=
  ((((s.pmcEngine pe 0x06 lc 1).modInst id (fun i => i.modOp n (fun o => { o with phase := .suspended pe }))).setEngine pe none (some (id, n))).bump
    Reg.DFS_CNT_SUSPEND)

theorem exec_operatorYield_suspends {pe id n : Nat} {i : GraphInst} {o : OpInst} (hrun : (s.engine pe).running = some (id, n))
    (hi : s.inst id = some i) (ho : i.op n = some o) (hc : o.cancelRun = false) (hlc : s.instLc i ≠ 0) (hsusp : (s.engine pe).suspended = none)
    (hready : 0 < s.readyCount (clusterOf pe) 0) (hidle : (s.idleFor (clusterOf pe) 0).isEmpty = true) :
    exec (.operatorYield pe) s = .next (s.suspendRun pe id n (s.instLc i)).showHealth := by
  change answer _ = _
  rw [answer_eq]
  simp only [hrun, hi, ho, hc, Option.bind_some, Option.map_some]
  rw [if_neg (by decide), if_pos (by simp [hlc, hsusp, hready, hidle])]
  rfl

theorem State.work_suspendRun {pe id n lc : Nat} (h : pe < s.dfs.engines.length) :
    ((s.suspendRun pe id n lc).engine pe).work = (none, some (id, n)) :=
  State.work_setEngine _ _ _ (by rwa [((KeepsWork.pmcEngine s pe 0x06 lc 1).trans (.modInst _ id _)).length])

theorem State.reg_suspendRun (pe id n lc : Nat) :
    (s.suspendRun pe id n lc).reg Reg.DFS_CNT_SUSPEND = satWord ((s.reg Reg.DFS_CNT_SUSPEND).toNat + 1) := by
  rw [State.suspendRun, State.reg_bump_same, State.reg_setEngine _ _ _ _ (by decide)]
  exact congrArg (fun w : Word => satWord (w.toNat + 1)) (KeepsLowRegs.pmcEngine s pe 0x06 lc 1 _ (by decide))

section
variable {pe id n : Nat} {i : GraphInst} {o : OpInst} {x : GraphState}

theorem exec_operatorComplete_cancelled (hrun : (s.engine pe).running = some (id, n)) (hi : s.inst id = some i) (ho : i.op n = some o)
    (hx : s.graph i.graph = some x) (hc : o.cancelRun = true) :
    exec (.operatorComplete pe) s = .next ((s.stopRun pe id n).bump (Reg.DFS_PE_CNT_OPS pe)).showHealth := by
  change answer _ = _
  rw [answer_eq]
  simp only [hrun, hi, ho, hx, hc, if_true]

/-- Whatever an operator does as it completes, its engine is free: the successors that become ready wait for a dispatch (R246). -/
theorem running_operatorComplete (hrun : (s.engine pe).running = some (id, n)) (hi : s.inst id = some i) (ho : i.op n = some o)
    (hx : s.graph i.graph = some x) (hc : o.cancelRun = false) (hpe : pe < s.dfs.engines.length) :
    ∃ t, exec (.operatorComplete pe) s = .next t ∧ (t.engine pe).running = none := by
  refine ⟨_, answer_eq _, (KeepsWork.showHealth _).running pe |>.trans ?_⟩
  simp -zeta only [hrun, hi, ho, hx, hc]
  rw [if_neg (by decide)]
  extract_lets r freed counted written delayed done
  have hran : KeepsWork s r.st.oscDue := (KeepsWork.runOperator s i x.cfg o _).trans (.oscDue _)
  have hfreed : (freed.engine pe).running = none := congrArg Prod.fst (r.st.oscDue.work_setEngine none _ (by rwa [hran.length]))
  have hwritten : KeepsWork freed written := ((KeepsWork.bump freed _).trans (.pmcEngine _ _ _ _ _)).trans (.modGraph counted _ _ fun _ => rfl)
  split
  · have hdelayed : KeepsWork written delayed := .modInst written id _
    exact (((hwritten.trans hdelayed).trans (.addDelay delayed _ _)).trans (.showCluster _ _)).running pe |>.trans hfreed
  · have hdone : KeepsWork written done := .modInst written id _
    exact ((((hwritten.trans hdone).trans (.deliverTokens done id _)).trans (.sweep _)).trans (.showCluster _ _)).running pe |>.trans hfreed

end

end

end Sys2Proof.Machine
end

section
/-!
PROOFS for the statement of family 10_porac_engines: serial numbers of instances, delay ticks and epochs.
-/
namespace Sys2Proof.Machine

section
variable (s : State)

/-! ### Triggers and instances (R242, R250) -/

theorem exec_graphInstanceCreate_halted {g : Nat} {x : GraphState} {k : HeldTrigger} {rest : List HeldTrigger} (hx : s.graph g = some x)
    (hw : x.waiting = k :: rest) (ha : x.awaits = false) (hh : x.halted = true) :
    exec (.graphInstanceCreate g) s = .next (s.modGraph g (fun y => { y with waiting := rest })).showHealth := by
  change answer _ = _
  rw [answer_eq]
  simp only [hx, hw, ha, hh, Bool.or_true, if_true]
  rfl

theorem exec_graphInstanceCreate_live {g : Nat} {x : GraphState} {k : HeldTrigger} {rest : List HeldTrigger} (hx : s.graph g = some x)
    (hw : x.waiting = k :: rest) (ha : x.awaits = false) (hon : s.flag Reg.DFS_CTRL 0 = true) (hh : x.halted = false) (hl : x.lost = false)
    (hs : s.graphShed x.cfg = false) (hlive : (s.liveInsts g).length < 16) :
    exec (.graphInstanceCreate g) s = .next ((s.modGraph g (fun y => { y with waiting := rest })).createInst g k).showHealth := by
  change answer _ = _
  rw [answer_eq]
  simp [hx, hw, ha, hon, hh, hl, hs, hlive]

/-- An instance takes the next serial number, whether or not a move applies to it (R242, R254). -/
theorem State.nextId_createInst {g : Nat} {x : GraphState} (k : HeldTrigger) (hx : s.graph g = some x) :
    (s.createInst g k).dfs.nextId = s.dfs.nextId + 1 := by
  have hmove := KeepsWork.applyMove s g k.key
  obtain ⟨y, hy, _⟩ := hmove.graph hx
  rw [← hmove.nextId, State.createInst]
  generalize s.applyMove g k.key = m at hy ⊢
  obtain ⟨moved, copying⟩ := m
  simp -zeta only [show moved.graph g = some y from hy]
  extract_lets _ id inst _ created
  split
  · rfl
  · exact (KeepsWork.readySources created id y.cluster).nextId

/-! ### Delay ticks (R249) -/

theorem exec_delayTick_early (h : s.elapsed < (s.dfs.delayTick + 1) * 10000) : exec .delayTick s = .next s.showHealth := by
  change answer _ = _
  rw [answer_eq, if_pos h]

theorem delayTick_exec_delayTick (h : (s.dfs.delayTick + 1) * 10000 ≤ s.elapsed) :
    ∃ t, exec .delayTick s = .next t ∧ t.dfs.delayTick = s.dfs.delayTick + 1 := by
  refine ⟨_, answer_eq _, (KeepsWork.showHealth _).delayTick.trans ?_⟩
  extract_lets n _ ticked
  rw [if_neg (by omega)]
  refine (KeepsWork.foldl _ (fun t c => ?_) _ ticked).delayTick
  extract_lets l due _ emptied
  have hemptied : KeepsWork t emptied := ⟨rfl, rfl, rfl, rfl, fun _ => rfl⟩
  exact (hemptied.trans (.foldl _ (fun u d => .delayFires u c d) due emptied)).trans (.showCluster _ c)

/-! ### Epochs (R253, R259) -/

theorem State.epochStart_dfsEpoch (sec : Nat) : (s.dfsEpoch sec).dfs.epochStart = sec := by
  have hshow (t : State) : KeepsWork t (((List.range 8).foldl (fun (s : State) c => s.showMakespan c) t).showLocal.showPlace) :=
    ((KeepsWork.foldl _ KeepsWork.showMakespan _ t).trans (.showLocal _)).trans (.showPlace _)
  unfold State.dfsEpoch
  extract_lets
  split
  exact (hshow _).epochStart

/-- What a placement across devices changes at an epoch boundary leaves the last epoch as it is (R370, R371). -/
theorem State.epochStart_xPlace (sec : Nat) : (s.xPlace sec).dfs.epochStart = s.dfs.epochStart := by
  have hleave (t : State) (owner g start d : Nat) : (t.leave owner g start d).dfs.epochStart = t.dfs.epochStart := by
    unfold State.leave
    extract_lets
    split
    · rfl
    · split <;> rfl
  have happly (t : State) (m : Nat × Nat × Nat) : (t.applyXMove sec m).dfs.epochStart = t.dfs.epochStart := by
    unfold State.applyXMove
    extract_lets
    split
    · split
      · rfl
      · split
        · exact hleave _ _ _ _ _
        · split <;> rfl
    · split
      · exact hleave _ _ _ _ _
      · rfl
  unfold State.xPlace
  extract_lets dropped later _ told left
  have hleft : left.dfs.epochStart = s.dfs.epochStart := foldl_keeps _ (fun t : State => t.dfs.epochStart) (fun t m => hleave t _ _ _ _) later told
  split
  · split
    · exact hleft
    · rw [State.log_dfs, State.bumpBy_dfs]
      exact (foldl_keeps _ (fun t : State => t.dfs.epochStart) happly _ _).trans hleft
  · exact hleft

theorem State.dfs_sendMoves : s.sendMoves.dfs = s.dfs := by
  unfold State.sendMoves
  extract_lets ready _ sent
  refine (foldl_keeps _ State.dfs (fun t x => ?_) ready sent).trans rfl
  split
  · exact t.dfs_hgwSend _ _ _
  · rfl

theorem State.dfs_tellUtil (busy : Nat → Nat) : (s.tellUtil busy).dfs = s.dfs := by
  have hall (t : State) (b : HgwBody) : (t.sendAll b).dfs = t.dfs := foldl_keeps _ State.dfs (fun u _ => u.dfs_hgwSend _ _ _) _ t
  have hcoordinate (t : State) : t.coordinate.dfs = t.dfs := by
    unfold State.coordinate
    extract_lets
    split
    · rfl
    · split
      · rfl
      · exact hall _ _
  unfold State.tellUtil
  extract_lets
  split
  · rfl
  · split
    · exact hcoordinate _
    · exact State.dfs_hgwSend _ _ _ _

theorem epochStart_exec_epochBoundary (h : s.epochDue = true) : ∃ t, exec .epochBoundary s = .next t ∧ t.dfs.epochStart = s.second := by
  refine ⟨_, answer_eq _, ?_⟩
  rw [State.showHealth_dfs, if_neg (by simp [h])]
  dsimp only
  rw [State.dfs_tellUtil, State.dfs_sendMoves, State.epochStart_xPlace, State.epochStart_dfsEpoch]

end

end Sys2Proof.Machine
end

section
/-!
PROOFS of the statement of family 10_porac_engines: halts, state copies and fences, and the statement itself.
-/
namespace Sys2Proof.Machine

section
variable (s : State)

/-! ### Halts (R250) -/

/-- The halts of the graphs stay as they are. -/
def KeepsHalts (s t : State) : Prop := ∀ g, (t.graph g).map GraphState.halted = (s.graph g).map GraphState.halted

theorem KeepsHalts.trans {s t u : State} (h : KeepsHalts s t) (k : KeepsHalts t u) : KeepsHalts s u := fun g => (k g).trans (h g)

theorem KeepsHalts.foldl {β : Type} (f : State → β → State) (h : ∀ s b, KeepsHalts s (f s b)) (l : List β) (s : State) :
    KeepsHalts s (l.foldl f s) := fun g => foldl_keeps f (fun t : State => (t.graph g).map GraphState.halted) (fun t b => h t b g) l s

theorem KeepsWork.halts {s t : State} (h : KeepsWork s t) : KeepsHalts s t := h.halted

theorem KeepsHalts.setEngine (e : Nat) (r u : Option (Nat × Nat)) : KeepsHalts s (s.setEngine e r u) :=
  (KeepsWork.accountEngine s e).halts.trans (KeepsWork.showEngine _ e).halts

theorem KeepsHalts.cancelOp (id n : Nat) (whole : Bool) : KeepsHalts s (s.cancelOp id n whole) := by
  have hdrop (t : State) : KeepsHalts t (t.dropSuspended id n) := by
    refine .foldl _ (fun u e => ?_) _ t
    split
    · exact KeepsHalts.setEngine u e _ _
    · exact fun _ => rfl
  have hfree (t : State) (l : List (List DelayEntry)) (f : GraphInst → GraphInst) :
      KeepsHalts t (({ t with dfs := { t.dfs with delays := l } } : State).modInst id f) := fun _ => rfl
  unfold State.cancelOp
  split
  · split
    · extract_lets counted dropped _ freed cancelled ends
      have hcounted : KeepsWork s counted := by
        unfold counted
        split
        · exact .bump s _
        · exact .refl s
      have hcancelled : KeepsHalts s cancelled := (hcounted.halts.trans (hdrop counted)).trans (hfree dropped _ _)
      split
      · split
        · exact hcancelled.trans (KeepsWork.deliverTokens cancelled id _).halts
        · exact hcancelled
      · exact hcancelled
    · exact fun _ => rfl
  · exact fun _ => rfl

theorem KeepsHalts.cancelInst (id : Nat) : KeepsHalts s (s.cancelInst id) := by
  unfold State.cancelInst
  split
  next i _ =>
    extract_lets cancelled
    have hcancelled : KeepsHalts s cancelled := .foldl _ (fun t (o : OpInst) => KeepsHalts.cancelOp t id o.node true) i.ops s
    exact hcancelled.trans ((((KeepsWork.modInst cancelled id _).trans (.promote _ _ _)).trans (.sweep _)).trans (.showCluster _ _)).halts
  · exact fun _ => rfl

/-- A graph is halted, and its held triggers are given up (R250). -/
def State.markHalted (s : State) (g : Nat) : State :=
  (s.setField Reg.DFS_GRAPH_CTRL 11 0 g).modGraph g (fun x => { x with halted := true, waiting := [] })

/-- Every live instance of a graph is cancelled. -/
def State.cancelLive (s : State) (g : Nat) : State := (s.liveInsts g).foldl (fun (s : State) i => s.cancelInst i.id) s

theorem KeepsHalts.cancelLive (g : Nat) : KeepsHalts s (s.cancelLive g) := .foldl _ (fun t (i : GraphInst) => .cancelInst t i.id) _ s

section
variable {g : Nat} {x : GraphState} (hx : s.graph g = some x)
include hx

theorem State.graph_markHalted : (s.markHalted g).graph g = some { x with halted := true, waiting := [] } := by
  rw [State.markHalted, State.graph_modGraph, if_pos rfl]
  exact congrArg (Option.map _) hx

theorem exec_graphHalt : exec (.graphHalt g) s = .next ((s.markHalted g).cancelLive g).showPlace.showHealth := by
  change answer _ = _
  rw [answer_eq]
  simp only [show (s.setField Reg.DFS_GRAPH_CTRL 11 0 g).graph g = some x from hx]
  rfl

/-- The cancellation of a halted graph's instances resumes no graph. -/
theorem State.halted_haltGraph : ∃ y, (((s.markHalted g).cancelLive g).showPlace.showHealth).graph g = some y ∧ y.halted = true := by
  have hshown (t : State) : KeepsHalts t t.showPlace.showHealth := ((KeepsWork.showPlace t).trans (.showHealth _)).halts
  have hkept := (KeepsHalts.cancelLive (s.markHalted g) g).trans (hshown _) g
  rw [s.graph_markHalted hx] at hkept
  exact Option.map_eq_some_iff.mp hkept

theorem exec_graphResume :
    ∃ t, exec (.graphResume g) s = .next t ∧ t.graph g = some { x with halted := false } := by
  refine ⟨_, answer_eq _, ?_⟩
  rw [State.graph, State.showHealth_dfs, State.dfs_showPlace, ← State.graph, State.graph_modGraph, if_pos rfl]
  exact congrArg (Option.map _) hx

end

theorem exec_dfsCommit : exec .dfsCommit s = .next (s.setFlag Reg.DFS_COMMIT 0 true).showHealth := rfl

end

/-! ### State copies (R254) -/

/-- What tells a graph's live instances whose state is being copied from others. -/
def GraphInst.label (i : GraphInst) : Nat × Nat × Bool × Bool := (i.id, i.graph, i.dead, i.copying)

/-- No copy begins: an instance whose state is being copied was an instance of that kind before. -/
def NoCopyBegins (s t : State) : Prop := ∀ j ∈ t.dfs.insts, j.copying = true → ∃ i ∈ s.dfs.insts, i.label = j.label

namespace NoCopyBegins

variable {s t u : State}

theorem of_insts (h : t.dfs.insts = s.dfs.insts) : NoCopyBegins s t := fun j hj _ => ⟨j, h ▸ hj, rfl⟩

theorem showCluster (s : State) (c : Nat) : NoCopyBegins s (s.showCluster c) := of_insts (congrArg DfsState.insts (s.dfs_showCluster c))

theorem trans (h : NoCopyBegins s t) (k : NoCopyBegins t u) : NoCopyBegins s u := by
  intro l hl hc
  obtain ⟨j, hj, hlabel⟩ := k l hl hc
  obtain ⟨i, hi, hsame⟩ := h j hj ((congrArg (fun x => x.2.2.2) hlabel).trans hc)
  exact ⟨i, hi, hsame.trans hlabel⟩

theorem foldl {β : Type} (f : State → β → State) (h : ∀ s b, NoCopyBegins s (f s b)) (l : List β) (s : State) : NoCopyBegins s (l.foldl f s) := by
  induction l generalizing s with
  | nil => exact .of_insts rfl
  | cons b r ih => exact (h s b).trans (ih _)

theorem modInst {id : Nat} {f : GraphInst → GraphInst}
    (h : ∀ j ∈ s.dfs.insts, (f j).copying = true → ∃ i ∈ s.dfs.insts, i.label = (f j).label) : NoCopyBegins s (s.modInst id f) := by
  intro l hl hc
  obtain ⟨j, hj, rfl⟩ := List.mem_map.mp hl
  split at hc
  · rw [if_pos ‹_›]
    exact h j hj hc
  · rw [if_neg ‹_›]
    exact ⟨j, hj, rfl⟩

/-- A change of the operators of an instance. -/
theorem modOps (s : State) (id : Nat) {f : GraphInst → GraphInst} (h : ∀ i, (f i).label = i.label) : NoCopyBegins s (s.modInst id f) :=
  modInst fun j hj _ => ⟨j, hj, (h j).symm⟩

theorem sweep (s : State) : NoCopyBegins s s.sweep := fun j hj _ => ⟨j, (List.mem_filter.mp hj).1, rfl⟩

theorem tryJoin (s : State) (c : Nat) (r : ReadyRef) : NoCopyBegins s (s.tryJoin c r) := by
  unfold State.tryJoin
  split
  · exact modOps s _ fun _ => rfl
  · split
    · exact of_insts (s.insts_lc0Exhausted c 2).1
    · exact of_insts rfl

theorem deliverTokens (s : State) (id : Nat) (toks : List (DfsArc × Token)) : NoCopyBegins s (s.deliverTokens id toks) := by
  have hfeed (c : GraphRec) (k : Nat) (l : List (DfsArc × Token)) (i : GraphInst) (n : Nat) : (feed c k l i n).1.label = i.label := by
    induction k generalizing l i n with
    | zero => cases l <;> rfl
    | succ k ih =>
      obtain _ | ⟨⟨a, t⟩, r⟩ := l
      · rfl
      · unfold feed
        dsimp only
        repeat' split
        all_goals exact ih _ _ _
  unfold State.deliverTokens
  split
  next i hi =>
    split
    next x _ =>
      have hlabel := hfeed x.cfg (x.cfg.arcs.length + toks.length + 1) toks i 0
      generalize feed x.cfg (x.cfg.arcs.length + toks.length + 1) toks i 0 = fed at hlabel ⊢
      obtain ⟨i', n⟩ := fed
      dsimp -zeta only at hlabel ⊢
      extract_lets fed
      have hfed : NoCopyBegins s fed := modInst fun _ _ _ => ⟨i, List.mem_of_find?_eq_some hi, hlabel.symm⟩
      exact (hfed.trans (foldl _ (fun t r => tryJoin t _ r) _ fed)).trans (showCluster _ _)
    · exact of_insts rfl
  · exact of_insts rfl

end NoCopyBegins

section
variable (s : State)

/-- The state of an instance's graph has been copied. -/
def State.endCopy (s : State) (id : Nat) : State := s.modInst id (fun i => { i with copying := false })

theorem NoCopyBegins.endCopy (id : Nat) : NoCopyBegins s (s.endCopy id) := .modInst fun _ _ hc => absurd hc Bool.false_ne_true

theorem State.copying_endCopy {id : Nat} {j : GraphInst} (hj : j ∈ (s.endCopy id).dfs.insts) (hid : j.id = id) : j.copying = false := by
  obtain ⟨i, _, rfl⟩ := List.mem_map.mp hj
  split
  · rfl
  · rw [if_neg ‹_›] at hid
    exact absurd hid ‹_›

/-- Once the copy has ended, the sources of an instance become ready. -/
theorem NoCopyBegins.readySources (id c : Nat) : NoCopyBegins (s.endCopy id) (s.readySources id c) := by
  unfold State.readySources
  extract_lets begun
  split
  · split
    · extract_lets woken off fed waiting joined
      have hwoken : NoCopyBegins (s.endCopy id) woken := .modOps begun id fun _ => rfl
      have hjoined : NoCopyBegins fed joined := .foldl _ (fun t r => .tryJoin t c r) waiting fed
      exact (((hwoken.trans (.deliverTokens woken id _)).trans hjoined).trans (.sweep joined)).trans (.showCluster _ _)
    · exact .of_insts rfl
  · exact .of_insts rfl

/-- While instances wake in turn, no copy begins. -/
theorem NoCopyBegins.wakeAll (l : List GraphInst) : NoCopyBegins s (l.foldl (fun (s : State) i => s.readySources i.id i.cluster) s) :=
  .foldl _ (fun t i => (NoCopyBegins.endCopy t i.id).trans (.readySources t i.id i.cluster)) l s

/-- Once an instance has had its turn, its state is being copied no more. -/
theorem State.copying_wakeAll {l : List GraphInst} {i j : GraphInst} (hi : i ∈ l) (hid : j.id = i.id) :
    j ∈ (l.foldl (fun (s : State) i => s.readySources i.id i.cluster) s).dfs.insts → j.copying = false := by
  induction l generalizing s with
  | nil => exact absurd hi List.not_mem_nil
  | cons b r ih =>
    intro hj
    obtain rfl | hr := List.mem_cons.mp hi
    · refine Bool.eq_false_iff.mpr fun hc => ?_
      obtain ⟨k, hk, hlabel⟩ := ((NoCopyBegins.readySources s i.id i.cluster).trans (.wakeAll _ r)) j hj hc
      have hkid : k.id = i.id := (congrArg Prod.fst hlabel).trans hid
      have hkc : k.copying = true := (congrArg (fun x => x.2.2.2) hlabel).trans hc
      exact Bool.false_ne_true ((s.copying_endCopy hk hkid).symm.trans hkc)
    · exact ih _ hr hj

theorem State.copying_liveInsts_wakeAll {g : Nat} {j : GraphInst}
    (hj : j ∈ (((s.liveInsts g).filter (fun i => i.copying)).foldl (fun (s : State) i => s.readySources i.id i.cluster) s).liveInsts g) :
    j.copying = false := by
  obtain ⟨hmem, hlive⟩ := List.mem_filter.mp hj
  refine Bool.eq_false_iff.mpr fun hc => ?_
  obtain ⟨i, hi, hlabel⟩ := NoCopyBegins.wakeAll s _ j hmem hc
  obtain ⟨hid, hgraph, hdead, hcopying⟩ : i.id = j.id ∧ i.graph = j.graph ∧ i.dead = j.dead ∧ i.copying = j.copying := by
    simpa [GraphInst.label] using hlabel
  have hturn : i ∈ (s.liveInsts g).filter (fun i => i.copying) :=
    List.mem_filter.mpr ⟨List.mem_filter.mpr ⟨hi, by rwa [hgraph, hdead]⟩, hcopying.trans hc⟩
  exact Bool.false_ne_true ((s.copying_wakeAll hturn hid.symm hmem).symm.trans hc)

end

/-! ### Fences (R256) -/

section
variable (s : State)

/-- An engine shows that it is fenced. -/
def State.markFenced (s : State) (e : Nat) : State := (s.setFlag (Reg.DFS_PE_STATUS e) 5 true).setFlag (Reg.DFS_PE_STATUS e) 0 false

theorem State.flag_markFenced (e : Nat) : (s.markFenced e).flag (Reg.DFS_PE_STATUS e) 5 = true := by
  rw [State.markFenced, State.flag_setFlag_ne _ _ _ _ _ (by decide) (by decide), State.flag_setFlag_same _ _ _ _ (by decide)]

theorem State.reg_showCluster {c a : Nat} (hc : c < 8) (ha : 0x904000 ≤ a) : (s.showCluster c).reg a = s.reg a := by
  have hms : a ≠ Reg.DFS_CL_MS c := by simp only [Reg.DFS_CL_MS]; omega
  have hpeak : a ≠ Reg.DFS_CL_MS_PEAK c := by simp only [Reg.DFS_CL_MS_PEAK]; omega
  have hready01 : a ≠ Reg.DFS_CL_READY01 c := by simp only [Reg.DFS_CL_READY01]; omega
  have hready23 : a ≠ Reg.DFS_CL_READY23 c := by simp only [Reg.DFS_CL_READY23]; omega
  have hdelay : a ≠ Reg.DFS_CL_DELAY c := by simp only [Reg.DFS_CL_DELAY]; omega
  unfold State.showCluster
  dsimp only
  rw [State.reg_setField_ne _ _ _ _ _ _ hdelay, State.reg_setField_ne _ _ _ _ _ _ hdelay, State.reg_setReg_ne _ _ _ _ hready23,
    State.reg_setReg_ne _ _ _ _ hready01, State.reg_setField_ne _ _ _ _ _ _ hpeak, State.reg_setField_ne _ _ _ _ _ _ hpeak,
    State.reg_setReg_ne _ _ _ _ hms]

theorem State.reg_showMakespan {c a : Nat} (hc : c < 8) (ha : 0x904000 ≤ a) : (s.showMakespan c).reg a = s.reg a := by
  have hspan : a ≠ Reg.DFS_CL_MAKESPAN c := by simp only [Reg.DFS_CL_MAKESPAN]; omega
  have hstatus : a ≠ Reg.DFS_CL_STATUS c := by simp only [Reg.DFS_CL_STATUS]; omega
  unfold State.showMakespan
  rw [State.reg_setFlag_ne _ _ _ _ _ hstatus, State.reg_setReg_ne _ _ _ _ hspan]

theorem State.reg_showCyc {a : Nat} (ha : a < 0xA00000) : s.showCyc.reg a = s.reg a := by
  have hstatus : a ≠ Reg.CYC_STATUS := by simp only [Reg.CYC_STATUS]; omega
  unfold State.showCyc
  extract_lets run stop shown marked settled
  rw [State.reg_setFlag_ne _ _ _ _ _ hstatus, State.reg_setFlag_ne _ _ _ _ _ hstatus, State.reg_setField_ne _ _ _ _ _ _ hstatus,
    State.reg_setFlag_ne _ _ _ _ _ hstatus, State.reg_setFlag_ne _ _ _ _ _ hstatus, State.reg_setField_ne _ _ _ _ _ _ hstatus]

/-- What follows the mark of a fence leaves the engines' registers alone. -/
theorem State.flag_fenceEngine {e : Nat} (he : e < 64) : (s.fenceEngine e).flag (Reg.DFS_PE_STATUS e) 5 = true := by
  have hc : clusterOf e < 8 := by unfold clusterOf; omega
  have hcl : Reg.DFS_PE_STATUS e ≠ Reg.DFS_CL_STATUS (clusterOf e) := by simp only [Reg.DFS_PE_STATUS, Reg.DFS_CL_STATUS]; omega
  have hlow : Reg.DFS_PE_STATUS e < 0xB00000 := by simp only [Reg.DFS_PE_STATUS]; omega
  have hhigh : 0x904000 ≤ Reg.DFS_PE_STATUS e := Nat.le_add_right _ _
  unfold State.fenceEngine
  extract_lets c hit cancelled stopped _ lost marked unshown swept logged spanned l
  have hmarked : marked.flag (Reg.DFS_PE_STATUS e) 5 = true := lost.flag_markFenced e
  have hswept : swept.reg (Reg.DFS_PE_STATUS e) = marked.reg (Reg.DFS_PE_STATUS e) :=
    (unshown.sweep.reg_showCluster hc hhigh).trans (marked.reg_setFlag_ne _ _ _ _ hcl)
  have hlogged : KeepsLowRegs swept logged := (KeepsLowRegs.log swept _ _ _ (by decide)).trans (.blockError _ _ _ _)
  have hspanned : spanned.reg (Reg.DFS_PE_STATUS e) = marked.reg (Reg.DFS_PE_STATUS e) :=
    (logged.reg_showMakespan hc hhigh).trans ((hlogged _ hlow).trans hswept)
  have htold (p : List Byte) : KeepsLowRegs spanned (spanned.log 0x0A05 3 p) := .log spanned _ _ _ (by decide)
  refine (State.flag_congr (Eq.trans ?_ hspanned) 5).trans hmarked
  split
  · rfl
  · exact htold _ _ hlow

/-- A fenced engine shows it, whether it belongs to a cluster or runs a cyclic task (R256). -/
theorem flag_exec_engineFence {pe : Nat} (hpe : pe < 64) (hup : s.peUp pe = true) :
    ∃ t, exec (.engineFence pe) s = .next t ∧ t.flag (Reg.DFS_PE_STATUS pe) 5 = true := by
  have hlow : Reg.DFS_PE_STATUS pe < 0xA00000 := by simp only [Reg.DFS_PE_STATUS]; omega
  refine ⟨_, answer_eq _, (State.flag_showHealth_ne _ _ _ (not_mem_healthRegs_of_block (by omega))).trans ?_⟩
  rw [if_neg (by simp [hup])]
  split
  · exact s.flag_fenceEngine hpe
  · extract_lets task marked stopped
    have hstopped : KeepsLowRegs marked stopped :=
      (KeepsLowRegs.log marked 0x0A04 3 (leBytes 1 pe ++ leBytes 2 0) (by decide)).trans (.of_regs rfl)
    have htold (p : List Byte) : KeepsLowRegs stopped ((stopped.log 0x0B0B 3 p).blockError 3 0x0B 0x0B0B) :=
      (KeepsLowRegs.log stopped _ _ _ (by decide)).trans (.blockError _ _ _ _)
    exact (State.flag_congr ((State.reg_showCyc _ hlow).trans ((hstopped.trans (htold _)) _ (by omega))) 5).trans (s.flag_markFenced pe)

end

/-- Settles O29: all else that a command does keeps the work of the engines, the serial number, the delay counter, the epoch, the halt or the fence
that it has set, and no copy begins while the instances that waited for theirs wake. -/
theorem dataflowEngines : Obligations.DataflowEngines := by
  unfold Obligations.DataflowEngines
  refine ⟨fun s g x k rest hx hw ha hon hh hl hs hlive => ?create, fun s g x k rest hx hw ha hh => exec_graphInstanceCreate_halted s hx hw ha hh,
    fun s u v pe r hon hpe hup hrun hsusp hfirst htarget hlt => ?dispatch,
    fun s pe id n i o hrun hi ho hc hlc hsusp hready hidle hlt => ?yield,
    fun s pe id n i o x hrun hi ho hx hc hlt => ?cancelled,
    fun s pe id n i o x hrun hi ho hx hc hlt => running_operatorComplete s hrun hi ho hx hc hlt,
    fun s h => delayTick_exec_delayTick s h, fun s h => exec_delayTick_early s h, fun s h => epochStart_exec_epochBoundary s h,
    fun s g => ?copyDone, fun s pe hpe hup => flag_exec_engineFence s hpe hup, fun s g x hx => ?halt,
    fun s g x hx => exec_graphResume s hx, fun s => ?commit⟩
  case create =>
    refine ⟨_, exec_graphInstanceCreate_live s hx hw ha hon hh hl hs hlive, rfl, ?_⟩
    have htaken : (s.modGraph g (fun y => { y with waiting := rest })).graph g = some { x with waiting := rest } := by
      rw [State.graph_modGraph, if_pos rfl, hx]
      rfl
    rw [State.showHealth_dfs]
    exact State.nextId_createInst _ k htaken
  case dispatch =>
    refine ⟨_, exec_operatorDispatch_idle s hon hpe hup hrun hsusp hfirst htarget, rfl, ?_⟩
    exact ((KeepsWork.showHealth _).running pe).trans (v.running_dispatchTo r hlt)
  case yield =>
    have hwork := ((KeepsWork.showHealth _).engine pe).trans (s.work_suspendRun (id := id) (n := n) (lc := s.instLc i) hlt)
    refine ⟨_, exec_operatorYield_suspends s hrun hi ho hc hlc hsusp hready hidle, congrArg Prod.fst hwork, congrArg Prod.snd hwork, rfl, ?_⟩
    rw [State.reg_showHealth_of_block _ (by decide), State.reg_suspendRun]
  case cancelled =>
    refine ⟨_, exec_operatorComplete_cancelled s hrun hi ho hx hc, rfl, ?_⟩
    exact (((KeepsWork.bump _ _).trans (.showHealth _)).running pe).trans (s.running_stopRun hi hlt)
  case copyDone => exact ⟨_, rfl, rfl, fun i hi => s.copying_liveInsts_wakeAll hi⟩
  case halt =>
    obtain ⟨y, hy, hhalted⟩ := s.halted_haltGraph hx
    exact ⟨_, y, exec_graphHalt s hx, hy, hhalted⟩
  case commit =>
    refine ⟨_, exec_dfsCommit s, ?_, State.showHealth_dfs _⟩
    rw [State.flag_showHealth_ne _ _ _ (by decide), State.flag_setFlag_same _ _ _ _ (by decide)]

end Sys2Proof.Machine
end

section
/-!
PROOFS of the statements on steps: every command answers, the step runs the command in front, and the output of an alarm.
-/
namespace Sys2Proof.Machine

/-! ### What the health registers show (R451, R452) -/

section
variable (s : State)

theorem State.syncState_showHealth : s.showHealth.syncState = s.syncState := s.field_showHealth_ne _ _ _ (by decide)

theorem State.role_showHealth : s.showHealth.role = s.role := s.field_showHealth_ne _ _ _ (by decide)

theorem State.fenced_showHealth : s.showHealth.fenced = s.fenced := by
  have hflag : ∀ e ∈ List.range 60, s.showHealth.flag (Reg.DFS_PE_STATUS e) 5 = s.flag (Reg.DFS_PE_STATUS e) 5 := fun e he => by
    rw [List.mem_range] at he
    exact s.flag_showHealth_ne _ _ (not_mem_healthRegs_of_block (by simp only [Reg.DFS_PE_STATUS]; omega))
  exact congrArg List.length (List.filter_congr hflag)

theorem State.lc0Shown_showHealth : s.showHealth.lc0Shown = s.lc0Shown := by
  have hflag : ∀ c, c < 8 → s.showHealth.flag (Reg.DFS_CL_STATUS c) 8 = s.flag (Reg.DFS_CL_STATUS c) 8 := fun c hc =>
    s.flag_showHealth_ne _ _ (not_mem_healthRegs_of_block (by simp only [Reg.DFS_CL_STATUS]; omega))
  unfold State.lc0Shown
  rw [State.showHealth_committed, Bool.eq_iff_iff]
  simp +contextual [hflag]

/-- HLT_SUMMARY is made of nothing that showing it changes. -/
theorem State.summary_showHealth : s.showHealth.summary = s.summary := by
  unfold State.summary
  rw [s.syncState_showHealth, s.role_showHealth, s.fenced_showHealth, s.lc0Shown_showHealth]
  rfl

theorem State.healthShown_showHealth : HealthShown s.showHealth := by
  refine ⟨?_, ?_, State.field_setField_same _ _ _ _ _ (by decide)⟩
  · rw [s.summary_showHealth]
    unfold State.showHealth
    rw [State.reg_setField_ne _ _ _ _ _ _ (by decide), State.reg_setReg_ne _ _ _ _ (by decide), State.reg_setReg_same]
  · unfold State.showHealth
    rw [State.reg_setField_ne _ _ _ _ _ _ (by decide), State.reg_setReg_same]
    rfl
end

/-! ### Every command ends in an answer -/

/-- An outcome is the answer of some state: a next state that shows its health. -/
def Answers (o : Host.Outcome State Fault Refusal) : Prop := ∃ t, o = answer t

theorem answers_answer (t : State) : Answers (answer t) := ⟨t, rfl⟩

theorem Answers.ite {c : Prop} [Decidable c] {o p : Host.Outcome State Fault Refusal} (ho : Answers o) (hp : Answers p) :
    Answers (if c then o else p) := by
  split
  · exact ho
  · exact hp

theorem Answers.shown {o : Host.Outcome State Fault Refusal} (h : Answers o) : ∃ t, o = .next t ∧ HealthShown t := by
  obtain ⟨t, rfl⟩ := h
  exact ⟨_, rfl, t.healthShown_showHealth⟩

/-! ### Register writes and the other commands -/
section
variable (s : State)

theorem answers_writeSpt (a : Nat) (v : Word) : Answers (s.writeSpt a v) := by
  unfold State.writeSpt
  repeat' apply Answers.ite
  all_goals exact ⟨_, rfl⟩

theorem answers_writeDec (a : Nat) (v : Word) : Answers (s.writeDec a v) := by
  unfold State.writeDec
  repeat' split
  all_goals exact ⟨_, rfl⟩

theorem answers_writeTimBlock (a : Nat) (v : Word) : Answers (s.writeTimBlock a v) := by
  unfold State.writeTimBlock
  repeat' split
  all_goals exact ⟨_, rfl⟩

theorem answers_writeAlnWavMtr (a : Nat) (v : Word) : Answers (s.writeAlnWavMtr a v) := by
  unfold State.writeAlnWavMtr
  repeat' split
  all_goals exact ⟨_, rfl⟩

theorem answers_writeOsc (a : Nat) (v : Word) : Answers (s.writeOsc a v) := by
  unfold State.writeOsc
  repeat' split
  all_goals exact ⟨_, rfl⟩

theorem answers_writeTopDfs (a : Nat) (v : Word) : Answers (s.writeTopDfs a v) := by
  unfold State.writeTopDfs
  repeat' split
  all_goals exact ⟨_, rfl⟩

theorem answers_writeCycAlmEvr (a : Nat) (v : Word) : Answers (s.writeCycAlmEvr a v) := by
  unfold State.writeCycAlmEvr
  repeat' split
  all_goals exact ⟨_, rfl⟩

theorem answers_writeCap (a : Nat) (v : Word) : Answers (s.writeCap a v) := by
  unfold State.writeCap
  extract_lets r m
  repeat' apply Answers.ite
  all_goals exact ⟨_, rfl⟩

theorem answers_writeHgwTwn (a : Nat) (v : Word) : Answers (s.writeHgwTwn a v) := by
  unfold State.writeHgwTwn
  repeat' split
  all_goals exact ⟨_, rfl⟩

theorem answers_writeHlt (a : Nat) (v : Word) : Answers (s.writeHlt a v) := by
  unfold State.writeHlt
  repeat' apply Answers.ite
  all_goals exact ⟨_, rfl⟩

theorem answers_registerWrite (a : Nat) (v : Word) : Answers (execRegisterWrite a v s) := by
  unfold execRegisterWrite
  refine Answers.ite (answers_answer _) ?_
  split
  · exact answers_writeSpt s a v
  · exact answers_writeDec s a v
  · exact answers_writeTimBlock s a v
  · exact answers_writeAlnWavMtr s a v
  · exact answers_writeAlnWavMtr s a v
  · exact answers_writeAlnWavMtr s a v
  · exact answers_writeOsc s a v
  · exact answers_writeTopDfs s a v
  · exact answers_writeTopDfs s a v
  · exact answers_writeCycAlmEvr s a v
  · exact answers_writeCycAlmEvr s a v
  · exact answers_writeCycAlmEvr s a v
  · exact answers_writeCap s a v
  · exact answers_answer _
  · exact answers_writeHgwTwn s a v
  · exact Answers.ite ⟨_, rfl⟩ (answers_answer _)
  · exact answers_answer _
  · exact Answers.ite ⟨_, rfl⟩ (answers_answer _)
  · exact answers_writeHlt s a v
  · exact answers_answer _

theorem answers_settingsSave (h : CmdHdr) : Answers (execSettingsSave h s) := by
  unfold execSettingsSave
  split
  all_goals exact ⟨_, rfl⟩

theorem answers_freezeTimeout (sup : Bool) : Answers (execFreezeTimeout sup s) := by
  unfold execFreezeTimeout
  split
  all_goals exact ⟨_, rfl⟩

theorem answers_twinCfgActivate : Answers (execTwinCfgActivate s) := by
  unfold execTwinCfgActivate
  split
  all_goals exact ⟨_, rfl⟩
end

theorem exec_answers (c : Instr) (s : State) : Answers (exec c s) := by
  cases c with
  | registerWrite a v => exact answers_registerWrite s a v
  | settingsSave h => exact answers_settingsSave s h
  | freezeTimeout sup => exact answers_freezeTimeout s sup
  | twinCfgActivate => exact answers_twinCfgActivate s
  | _ => exact ⟨_, rfl⟩

/-- A step with a command in front is the command's; on an empty queue it is a tick, which ends with the health shown. -/
theorem step_shows (s : State) : ∃ t, step s = .next t ∧ HealthShown t := by
  unfold step
  split
  · exact (exec_answers _ _).shown
  · exact ⟨_, rfl, State.healthShown_showHealth _⟩

/-- Settles O3: every command's meaning ends in `answer`, which shows the health last. -/
theorem everyStepAnswers : Obligations.EveryStepAnswers :=
  ⟨fun c s => (exec_answers c s).shown, step_shows⟩

/-- Settles O1, by the two cases of the queue. -/
theorem frontCommandRuns : Obligations.FrontCommandRuns := by
  refine ⟨fun c rest s => rfl, fun s hempty => ?_⟩
  unfold step
  rw [hempty]

/-! ### The output of an alarm (R289) -/

theorem AlarmState.output_iff (x : AlarmState) : x.output = true ↔ x.cond = true ∨ (x.cfg.latch = true ∧ x.unacked = true) := by
  simp [AlarmState.output]

theorem AlarmState.unacked_iff (x : AlarmState) : x.unacked = true ↔ x.state = 1 ∨ x.state = 3 := by
  simp [AlarmState.unacked]

/-- Settles O7, by `output_iff`: with the condition inactive and the state 3 only LATCH counts, and an acknowledgement leads to state 0. -/
theorem alarmOutput : Obligations.AlarmOutput := by
  refine ⟨fun x => by rw [x.output_iff, x.unacked_iff], fun x hstate hcond => ?_, fun x hstate hcond => ?_⟩
  · rw [Bool.eq_iff_iff, x.output_iff, x.unacked_iff, hcond, hstate]
    simp
  · have hacked : ackState x.state = 0 := by rw [hstate]; rfl
    rw [Bool.eq_false_iff, Ne, AlarmState.output_iff, AlarmState.unacked_iff, hcond, hacked]
    simp

end Sys2Proof.Machine
end

section
/-!
PROOFS for the statements of families 11 to 20: what reports, errors, queues and completions leave of a state.
-/
namespace Sys2Proof.Machine

/-! ### What reporting may change -/

/-- A recorder of CAP without the events that it copies. -/
def RecorderState.still (x : RecorderState) : RecorderState :=
  { x with events := [], active := x.active.map fun c => { c with events := [] } }

/-- Hedgerow without packets on their way and without its count of lost events. -/
def HgwState.still (x : HgwState) : HgwState := { x with links := [], t0 := [], evtLost := 0, evtLostRun := false }

/-- The host interface without queues, vectors and completions that wait. -/
def HifState.still (x : HifState) : HifState := { x with queues := [], vectors := [], q1Wait := [] }

/-- All that no log entry, error, queue operation or mirror message changes, registers and DRAM aside. -/
def State.still (s : State) : State :=
  { s with
    regs := [], dram := [], readData := []
    alm := { s.alm with pins := [] }
    evr := { s.evr with staging := [], lost := none }
    cap := { s.cap with recs := s.cap.recs.map fun x => (x.1, x.2.still) }
    hif := s.hif.still, hgw := s.hgw.still
    twn := { s.twn with unacked := [], nextMsg := 0 }
    boot := { s.boot with outputsOff := false }, hlt := {} }

/-- The registers in which the state of a queue shows. -/
def queueRegs (q : Nat) : List Nat :=
  [Reg.HIF_Q_STATUS q, Reg.HIF_Q_CNT_LOST q, Reg.HIF_Q_CNT_RESET q, Reg.HIF_Q_CNT_PUSH_DROP q, Reg.HIF_Q_CNT_PKTS q]

/-- The registers in which reports show: those of the log, of a queue, of the running operations and of the HLT block. -/
def ReportReg (q a : Nat) : Prop := a ∈ logRegs ∨ a ∈ queueRegs q ∨ a = Reg.HIF_STATUS ∨ a / 0x100000 = 20

theorem not_reportReg {q a : Nat} (hlog : a ∉ logRegs) (hblock : a / 0x100000 ≠ 20) (hstatus : a ≠ Reg.HIF_STATUS)
    (hqueue : a < 0xE01000 ∨ 0xE02000 ≤ a) (hq : q < 128) :
    ¬ReportReg q a := by
  rintro (h | h | h | h)
  · exact hlog h
  · simp only [queueRegs, Reg.HIF_Q_STATUS, Reg.HIF_Q_CNT_LOST, Reg.HIF_Q_CNT_RESET, Reg.HIF_Q_CNT_PUSH_DROP, Reg.HIF_Q_CNT_PKTS,
      List.mem_cons, List.not_mem_nil, or_false] at h
    omega
  · exact hstatus h
  · exact hblock h

theorem not_reportReg_of_block {q a : Nat} (h : a / 0x100000 < 12 ∨ 16 ≤ a / 0x100000 ∧ a / 0x100000 ≠ 20) (hq : q < 128) : ¬ReportReg q a := by
  have hlog : ∀ b ∈ logRegs, 12 ≤ b / 0x100000 ∧ b / 0x100000 ≤ 15 := by decide
  refine not_reportReg (fun hm => by have := hlog a hm; omega) (by omega) ?_ (by omega) hq
  rintro rfl
  exact absurd h (by decide)

/-- The books of handles give the same next handle. -/
theorem State.newHandle_congr {s t : State} (hslot : t.hif.nextSlot = s.hif.nextSlot) (hslots : t.hif.slots = s.hif.slots) :
    t.newHandle.1 = s.newHandle.1 := by
  unfold State.newHandle
  rw [hslot, hslots]
  split
  · rfl
  · split <;> rfl

/-- A step that at most reports: what stays is still as it was, and so are the registers in which no report shows. -/
structure Reports (q : Nat) (s t : State) : Prop where
  still : t.still = s.still
  reg : ∀ a, ¬ReportReg q a → t.reg a = s.reg a

namespace Reports

variable {q : Nat} {s t u : State}

theorem refl (s : State) : Reports q s s := ⟨rfl, fun _ _ => rfl⟩

theorem trans (h : Reports q s t) (k : Reports q t u) : Reports q s u := ⟨k.still.trans h.still, fun a ha => (k.reg a ha).trans (h.reg a ha)⟩

theorem foldl {β : Type} (f : State → β → State) (h : ∀ s b, Reports q s (f s b)) (l : List β) (s : State) : Reports q s (l.foldl f s) := by
  induction l generalizing s with
  | nil => exact .refl s
  | cons b r ih => exact (h s b).trans (ih _)

theorem ite {c : Prop} [Decidable c] (ht : Reports q s t) (hu : Reports q s u) : Reports q s (if c then t else u) := by
  split
  · exact ht
  · exact hu

/-- An update of no register. -/
theorem of_still (h : t.still = s.still) (hr : t.regs = s.regs) : Reports q s t := ⟨h, fun a _ => congrArg (smGet regReset · a) hr⟩

theorem setReg (s : State) {a : Nat} (v : Word) (h : ReportReg q a) : Reports q s (s.setReg a v) :=
  ⟨rfl, fun b hb => s.reg_setReg_ne a b v fun e => hb (e ▸ h)⟩

theorem setFlag (s : State) {a : Nat} (n : Nat) (b : Bool) (h : ReportReg q a) : Reports q s (s.setFlag a n b) := setReg s _ h

theorem bump (s : State) {a : Nat} (h : ReportReg q a) : Reports q s (s.bump a) := setReg s _ h

theorem of_block {a : Nat} (h : a / 0x100000 = 20) : ReportReg q a := .inr (.inr (.inr h))

/-! #### Events (R296, R320, R364) -/

theorem captureEvent (s : State) (e : Event) : Reports q s (s.captureEvent e) := by
  refine ⟨foldl_keeps _ State.still (fun t x => ?_) _ s, fun a ha => s.reg_captureEvent e a fun h => ha (.inl h)⟩
  have hadd : State.still { t with cap := { t.cap with recs := kvMod t.cap.recs x.1 fun y => y.addEvent e } } = t.still := by
    have hone : (fun p : Nat × RecorderState => (p.1, p.2.still)) ∘ (fun p => if p.1 = x.1 then (p.1, p.2.addEvent e) else p)
        = fun p => (p.1, p.2.still) := by
      funext p
      by_cases hp : p.1 = x.1
      · rw [Function.comp_apply, if_pos hp]
        refine congrArg (Prod.mk p.1) ?_
        unfold RecorderState.still RecorderState.addEvent
        cases p.2.active <;> rfl
      · rw [Function.comp_apply, if_neg hp]
    have hrecs : (kvMod t.cap.recs x.1 fun y => y.addEvent e).map (fun p => (p.1, p.2.still)) = t.cap.recs.map fun p => (p.1, p.2.still) := by
      rw [kvMod, List.map_map, hone]
    exact congrArg (fun l => { t.still with cap := { t.cap with recs := l } }) hrecs
  dsimp only
  split
  · split <;> exact hadd
  · rfl

theorem still_stageEvent (s : State) (e : Event) : (s.stageEvent e).still = s.still := by
  unfold State.stageEvent
  dsimp only
  split
  · rfl
  · split
    · split <;> rfl
    · rfl

theorem still_submitHere (s : State) (e : Event) : (s.submitHere e).still = s.still :=
  (still_stageEvent _ e).trans (captureEvent (q := 0) s e).still

theorem still_hgwSend (s : State) (dst : Nat) (c : HgwClass) (b : HgwBody) : (s.hgwSend dst c b).still = s.still := by
  have hqueue (l : Nat) (p : HgwPacket) : (s.linkQueue l p).still = s.still := by
    unfold State.linkQueue
    split <;> rfl
  unfold State.hgwSend
  split
  · rfl
  · split
    · unfold State.routePacket
      split
      · split
        · exact hqueue _ _
        · rfl
      · rfl
    · rfl

theorem still_forwardEvent (s : State) (e : Event) : (s.forwardEvent e).still = s.still := by
  unfold State.forwardEvent
  dsimp only
  split
  · rfl
  · split
    · exact (still_hgwSend s _ _ _)
    · split
      · exact (still_submitHere _ _).trans rfl
      · rfl

/-- The event of any severity, which the registers of the log may not all show. -/
theorem still_submit (s : State) (e : Event) : (s.submit e).still = s.still := (still_forwardEvent _ e).trans (still_submitHere s e)

theorem log (s : State) (code sev : Nat) (p : List Byte) (h : sev ≤ 4) : Reports q s (s.log code sev p) :=
  ⟨still_submit s _, fun a ha => s.reg_log code sev p a h fun hm => ha (.inl hm)⟩

/-! #### Error reports (R445 to R450) -/

theorem raiseVector (s : State) (v : Nat) : Reports q s (s.raiseVector v) := of_still rfl rfl

theorem withHlt (s : State) (x : HltState) : Reports q s { s with hlt := x } := of_still rfl rfl

theorem escalate (s : State) (e : ErrorRec) (g : Nat) : Reports q s (s.escalate e g) :=
  (log s _ _ _ (by decide)).trans (bump _ (of_block (by decide)))

theorem gradeE2 (s : State) (e : ErrorRec) : Reports q s (s.gradeE2 e).2 := by
  have hcount : Reports q s (s.countE2 e.source) := withHlt s _
  unfold State.gradeE2
  dsimp only
  split
  · split
    · exact hcount.trans (escalate _ _ _)
    · exact hcount
  · exact refl s

theorem gradeE3 (s : State) (e : ErrorRec) : Reports q s (s.gradeE3 e).2 := by
  have hmark : Reports q s (s.markE3 (blockOf e.source)) := withHlt s _
  unfold State.gradeE3
  dsimp only
  split
  · split
    · exact hmark
    · split
      · exact hmark.trans (escalate _ _ _)
      · exact hmark
  · exact refl s

/-- The grade of an error stays one of four. -/
theorem grade_gradeError (s : State) {e : ErrorRec} (h : e.grade ≤ 4) : (s.gradeError e).1.grade ≤ 4 := by
  have h2 : (s.gradeE2 e).1.grade ≤ 4 := by
    unfold State.gradeE2
    dsimp only
    split
    · split
      · exact (by decide : 3 ≤ 4)
      · exact h
    · exact h
  rw [State.gradeError_eq]
  unfold State.gradeE3
  dsimp only
  split
  · split
    · exact Nat.le_refl 4
    · split
      · exact Nat.le_refl 4
      · exact h2
  · exact h2

theorem noteLast (s : State) {e : ErrorRec} (h : e.grade ≤ 4) : Reports q s (s.noteLast e) := by
  have hcnt : Reg.HLT_CNT_E (e.grade - 1) / 0x100000 = 20 := by
    simp only [Reg.HLT_CNT_E]
    omega
  exact ((((bump s (of_block hcnt)).trans (setReg _ _ (of_block (by decide)))).trans (setReg _ _ (of_block (by decide)))).trans
    (setReg _ _ (of_block (by decide)))).trans (setReg _ _ (of_block (by decide)))

theorem beginE4 (s : State) : Reports q s s.beginE4 := by
  unfold State.beginE4
  refine ite (refl s) ?_
  extract_lets _ _ _ off
  have hoff : Reports q s off := of_still rfl rfl
  exact ite (hoff.trans (log off _ _ _ (by decide))) hoff

theorem contain (s : State) (e : ErrorRec) : Reports q s (s.contain e) := ite (beginE4 s) (refl s)

theorem preempt (s : State) (x : StackEntry) : Reports q s (s.preempt x) := by
  unfold State.preempt
  split
  · exact (withHlt s _).trans (bump _ (of_block (by decide)))
  · exact withHlt s _

theorem stackError (s : State) (x : StackEntry) : Reports q s (s.stackError x) := by
  have hlost : Reports q s (s.bump Reg.HLT_CNT_STACK_LOST) := bump s (of_block (by decide))
  unfold State.stackError
  split
  · exact preempt s x
  · exact ite (ite (preempt s x) (withHlt s _))
      (ite (ite hlost ((hlost.trans (log _ _ _ _ (by decide))).trans (withHlt _ _))) (preempt s x))

theorem showStack (s : State) : Reports q s s.showStack :=
  ((setReg s _ (of_block (by decide))).trans (setReg _ _ (of_block (by decide)))).trans (setReg _ _ (of_block (by decide)))

theorem noticeHealth (s0 s : State) : Reports q s (s0.noticeHealth s) := ite (raiseVector s _) (refl s)

theorem raiseError (s : State) {e : ErrorRec} (h : e.grade ≤ 4) : Reports q s (s.raiseError e) := by
  have hgraded : Reports q s (s.gradeError e).2 := (gradeE2 s e).trans (gradeE3 _ _)
  have hhold (t : State) (x : ErrorRec) : Reports q t (t.holdError s x) :=
    (((withHlt t _).trans (stackError _ _)).trans (showStack _)).trans (noticeHealth _ _)
  rw [State.raiseError_eq]
  exact ((hgraded.trans (noteLast _ (grade_gradeError s h))).trans (contain _ _)).trans (hhold _ _)

/-! #### Queues (R334 to R341) -/

theorem setQueue (s : State) (p : Nat) (x : QueueState) : Reports q s (s.setQueue p x) := of_still rfl rfl

theorem read (s : State) (l : List Word) : Reports q s { s with readData := l } := of_still rfl rfl

theorem showOpen (s : State) (q : Nat) : Reports q s (s.showOpen q) := setReg s _ (.inr (.inl List.mem_cons_self))

theorem qReset (s : State) (q : Nat) : Reports q s (s.qReset q) := by
  unfold State.qReset
  extract_lets x lost emptied answered counted told shown
  have hemptied : Reports q s emptied := setQueue s q _
  have hanswered : Reports q emptied answered := foldl _ (fun t w => read t (List.replicate w.n 0xFFFFFFFE#32)) x.waits emptied
  have hcounted : Reports q answered counted := setReg answered _ (.inr (.inl (by simp [queueRegs])))
  have htold : Reports q counted told := bump counted (.inr (.inl (by simp [queueRegs])))
  have hshown : Reports q told shown := (setReg told _ (.inr (.inl (by simp [queueRegs])))).trans (showOpen _ q)
  exact (((((hemptied.trans hanswered).trans hcounted).trans htold).trans hshown).trans (log shown _ _ _ (by decide))).trans (raiseError _ (show 2 ≤ 4 by decide))

theorem qCheck (s : State) (q : Nat) : Reports q s (s.qCheck q) := ite (refl s) (qReset s q)

theorem qIrq (s : State) (p : Nat) : Reports q s (s.qIrq p) := ite ((setQueue s p _).trans (raiseVector _ _)) (refl s)

theorem qPopped (s : State) (p : Nat) : Reports q s (s.qPopped p) :=
  ite (refl s) (ite ((setQueue s p _).trans (qIrq _ p)) (setQueue s p _))

theorem qServe (p n : Nat) (s : State) : Reports q s (State.qServe p n s) := by
  induction n generalizing s with
  | zero => exact refl s
  | succ n ih =>
    unfold State.qServe
    extract_lets
    split
    · exact ite ((((read s _).trans (setQueue _ p _)).trans (qPopped _ p)).trans (ih _)) (refl s)
    · exact refl s

theorem qAppend (s : State) (q : Nat) (p : Packet) : Reports q s (s.qAppend q p) :=
  (((setQueue s q _).trans (bump _ (.inr (.inl (by simp [queueRegs]))))).trans (qIrq _ q)).trans (qServe q _ _)

theorem qOffer {kind : Nat} {words : List Word} (h : s.qOffer q kind words = some t) : Reports q s t := by
  unfold State.qOffer at h
  dsimp only at h
  split at h
  · cases h
    exact (qCheck s q).trans (qAppend _ q _)
  · cases h

theorem pushDrop (s : State) (q cause : Nat) (rest : Bool) : Reports q s (s.pushDrop q cause rest) := by
  unfold State.pushDrop
  extract_lets x n dropped counted shown
  have hcounted : Reports q s counted := (setQueue s q _).trans (bump dropped (.inr (.inl (by simp [queueRegs]))))
  have hshown : Reports q counted shown := (setFlag counted _ _ (.inr (.inl List.mem_cons_self))).trans (showOpen _ q)
  exact (hcounted.trans hshown).trans (log _ _ _ _ (by decide))

theorem pushClose (s : State) (q : Nat) (v : Word) : Reports q s (s.pushClose q v) := by
  unfold State.pushClose
  extract_lets x
  split
  · exact ite (((setQueue s q _).trans (qAppend _ q _)).trans (showOpen _ q)) (pushDrop s q _ _)
  · exact pushDrop s q _ _

theorem pushWake (s : State) (q : Nat) : Reports q s (s.pushWake q) := by
  unfold State.pushWake
  extract_lets x a joined
  have hjoined : Reports q s joined := (setQueue s q _).trans (showOpen _ q)
  refine ite (refl s) ?_
  split
  · exact hjoined.trans (pushClose _ q _)
  · exact hjoined

theorem flushQ1 (n : Nat) (s : State) : Reports 1 s (State.flushQ1 n s) := by
  induction n generalizing s with
  | zero => exact refl s
  | succ n ih =>
    unfold State.flushQ1
    split
    · exact refl s
    · split
      · rename_i u hu
        refine (qOffer hu).trans (Reports.trans ?_ (ih _))
        exact of_still rfl rfl
      · exact refl s

theorem post (s : State) (w : List Word) : Reports 1 s (s.post w) := by
  unfold State.post
  extract_lets _ wait
  have hwait : Reports 1 s wait := of_still rfl rfl
  refine ite ?_ hwait
  split
  · exact qOffer ‹_›
  · exact hwait

/-! #### What it gives -/

variable (h : Reports q s t)
include h

/-- What does not look at what reports change is kept. -/
theorem keeps {α : Type} (f : State → α) : f t.still = f s.still := congrArg f h.still

theorem tim : t.tim = s.tim := h.keeps State.tim

theorem cyc : t.cyc = s.cyc := h.keeps State.cyc

theorem sec : t.sec = s.sec := h.keeps State.sec

theorem bkd : t.bkd = s.bkd := h.keeps State.bkd

theorem hostMem : t.hostMem = s.hostMem := h.keeps State.hostMem

theorem comps : t.boot.comps = s.boot.comps := h.keeps (fun x : State => x.boot.comps)

theorem alarms : t.alm.alarms = s.alm.alarms := h.keeps (fun x : State => x.alm.alarms)

theorem handoffs : t.alm.handoffs = s.alm.handoffs := h.keeps (fun x : State => x.alm.handoffs)

theorem almPubs : t.alm.pubs = s.alm.pubs := h.keeps (fun x : State => x.alm.pubs)

theorem ops : t.hif.ops = s.hif.ops := h.keeps (fun x : State => x.hif.ops)

theorem journal : t.hif.journal = s.hif.journal := h.keeps (fun x : State => x.hif.journal)

theorem now : t.now = s.now := State.now_of_tim h.tim

theorem elapsed : t.elapsed = s.elapsed := State.elapsed_of_tim h.tim

theorem newHandle : t.newHandle.1 = s.newHandle.1 :=
  State.newHandle_congr (h.keeps fun x : State => x.hif.nextSlot) (h.keeps fun x : State => x.hif.slots)

theorem recorder (r : Nat) : (t.recorder r).map RecorderState.still = (s.recorder r).map RecorderState.still := by
  have hrecs : t.cap.recs.map (fun p => (p.1, p.2.still)) = s.cap.recs.map fun p => (p.1, p.2.still) :=
    h.keeps (fun x : State => x.cap.recs)
  have hget (l : List (Nat × RecorderState)) : kvGet (l.map fun p => (p.1, p.2.still)) r = (kvGet l r).map RecorderState.still := by
    induction l with
    | nil => rfl
    | cons p l ih =>
      rw [List.map_cons, kvGet, kvGet]
      split
      · rfl
      · exact ih
  rw [State.recorder, State.recorder, ← hget, ← hget, hrecs]

end Reports

/-! ### Completions and long operations (R343 to R347) -/

/-- A step that at most reports, and keeps the host's books of handles, journal and operations. -/
def Concludes (s t : State) : Prop := ∃ x, Reports 1 { s with hif := x } t

namespace Concludes

variable {s t u : State}

theorem of_reports (h : Reports 1 s t) : Concludes s t := ⟨s.hif, h⟩

theorem refl (s : State) : Concludes s s := of_reports (.refl s)

theorem then_reports (h : Concludes s t) (k : Reports 1 t u) : Concludes s u := h.imp fun _ hx => hx.trans k

theorem withHif (h : Concludes s t) (y : HifState) : Concludes s { t with hif := y } := by
  obtain ⟨x, hx⟩ := h
  exact ⟨y, congrArg (fun v : State => { v with hif := y.still }) hx.still, hx.reg⟩

theorem trans (h : Concludes s t) (k : Concludes t u) : Concludes s u := by
  obtain ⟨y, hy⟩ := k
  obtain ⟨x, hx⟩ := h.withHif y
  exact ⟨x, hx.trans hy⟩

theorem newHandle (s : State) : Concludes s s.newHandle.2 := by
  have hbooks (y : HifState) : Concludes s { s with hif := y } := (refl s).withHif y
  unfold State.newHandle
  split
  · exact hbooks _
  · split
    · exact hbooks _
    · exact refl s

theorem freeHandle (s : State) (h : Nat) : Concludes s (s.freeHandle h) := (refl s).withHif _

theorem post (s : State) (w : List Word) : Concludes s (s.post w) := of_reports (.post s w)

theorem writeDram (s : State) (a : Nat) (l : List Byte) : Concludes s (s.writeDram a l) := of_reports (.of_still rfl rfl)

theorem mirror (s : State) (b : MirrorBody) : Concludes s (s.mirror b) := of_reports (.of_still rfl rfl)

theorem putJournal (s : State) (e : JournalEntry) : Concludes s (s.putJournal e) := by
  unfold State.putJournal
  extract_lets i n entry books noted written
  have hnoted : Concludes s noted := (refl s).withHif _
  have hwritten : Concludes s written := hnoted.trans (writeDram noted _ _)
  split
  · exact hwritten.trans (mirror written _)
  · exact hwritten

theorem showOps (s : State) : Concludes s s.showOps := of_reports (.setReg s _ (.inr (.inr (.inl rfl))))

theorem completeShort (s : State) (h : CmdHdr) (op status result : Nat) : Concludes s (s.completeShort h op status result) :=
  (((newHandle s).trans (post _ _)).trans (putJournal _ _)).trans (freeHandle _ _)

theorem finishOp (s : State) (n status result : Nat) : Concludes s (s.finishOp n status result) := by
  cases hop : s.longOp n with
  | none => rw [s.finishOp_of_none _ _ hop]; exact refl s
  | some o =>
    rw [s.finishOp_of_some _ _ hop]
    have hdone : Concludes s (s.conclude o status result) := (putJournal s _).trans (post _ _)
    exact ((hdone.withHif _).trans (freeHandle _ _)).trans (showOps _)

theorem startLong (s : State) (h : CmdHdr) (op : Nat) (w : OpWork) (items : Bool) (total : Nat) (sizes : List Nat) :
    Concludes s (s.startLong h op w items total sizes) := by
  by_cases hroom : s.hif.ops.length < 16
  · rw [s.startLong_of_room _ _ _ _ _ _ hroom]
    have hann : Concludes s (s.announce h op items total) := ((newHandle s).trans (post _ _)).trans (putJournal _ _)
    exact (hann.withHif _).trans (showOps _)
  · have hfull : s.startLong h op w items total sizes = s.completeShort h op 0x05 0 := if_pos (by omega)
    rw [hfull]
    exact completeShort s h op _ _

variable (h : Concludes s t)
include h

theorem tim : t.tim = s.tim := h.elim fun _ hx => hx.tim

theorem cyc : t.cyc = s.cyc := h.elim fun _ hx => hx.cyc

theorem sec : t.sec = s.sec := h.elim fun _ hx => hx.sec

theorem bkd : t.bkd = s.bkd := h.elim fun _ hx => hx.bkd

theorem hostMem : t.hostMem = s.hostMem := h.elim fun _ hx => hx.hostMem

theorem comps : t.boot.comps = s.boot.comps := h.elim fun _ hx => hx.comps

theorem alarms : t.alm.alarms = s.alm.alarms := h.elim fun _ hx => hx.alarms

theorem reg {a : Nat} (ha : ¬ReportReg 1 a) : t.reg a = s.reg a := h.elim fun _ hx => hx.reg a ha

end Concludes

/-- A command that ends with a short completion has completed, whatever it did before to a state that gives the same handle and time. -/
theorem completed_completeShort {s u : State} (h : CmdHdr) (op status result : Nat) (hnew : u.newHandle.1 = s.newHandle.1) (hnow : u.now = s.now) :
    Completed s (u.completeShort h op status result) h.tag op status := by
  obtain ⟨n, hn⟩ := (u.newHandle.2.post (completionWords u.newHandle.1 h.tag op status true false 0 0 0 result)).kvGet_journal_putJournal
    { handle := u.newHandle.1, tag := h.tag, opcode := op, status := status, disp := .complete, step := 0, total := 0
      gts := u.now, units := 0, unitItems := true, resumedBy := 0 }
  unfold Completed
  rw [← hnew, ← hnow]
  exact ⟨_, hn, rfl, rfl, rfl, rfl, rfl, rfl⟩

/-- What is said of a completion is said of the journal alone. -/
theorem Completed.congr {s t u : State} {tag : Word} {op status : Nat} (h : Completed s t tag op status) (hu : u.hif.journal = t.hif.journal) :
    Completed s u tag op status := by
  unfold Completed
  rw [hu]
  exact h

end Sys2Proof.Machine
end

section
/-!
PROOFS of the statements on the backup domain: its frame, its clock, its supplies and its tamper inputs.
-/
namespace Sys2Proof.Machine

/-! ### The frame of the domain's commands (R407) -/

/-- A command changes the backup domain, the data read and, at the domain's power-on, the key RAM. -/
def BackupOnly (c : Instr) (s : State) : Prop :=
  ∃ (b : BkdState) (r : List Word) (k : SecState), exec c s = .next ({ s with bkd := b, readData := r, sec := k }).showHealth
    ∧ k = { s.sec with share := k.share, bkCounter := k.bkCounter } ∧ (c ≠ .domainPowerOn → k = s.sec)

theorem backupOnly_of_bkd {c : Instr} {s : State} {b : BkdState} {r : List Word} (h : exec c s = answer { s with bkd := b, readData := r }) :
    BackupOnly c s := ⟨b, r, s.sec, h, rfl, fun _ => rfl⟩

theorem exec_freezeTimeout (s : State) (sup : Bool) : ∃ b, exec (.freezeTimeout sup) s = answer { s with bkd := b } := by
  change ∃ b, execFreezeTimeout sup s = _
  unfold execFreezeTimeout
  split
  · split
    · exact ⟨_, rfl⟩
    · exact ⟨s.bkd, rfl⟩
  · exact ⟨s.bkd, rfl⟩

theorem exec_weekdayAdvance (s : State) : ∃ b, exec .weekdayAdvance s = answer { s with bkd := b } := by
  change ∃ b, execWeekdayAdvance s = _
  unfold execWeekdayAdvance
  split
  · exact ⟨_, rfl⟩
  · exact ⟨s.bkd, rfl⟩

/-- Settles O4: each command's meaning is an update of the domain, of the data read, or of the key RAM. -/
theorem backupFrame : Obligations.BackupFrame := by
  intro c s hc
  change BackupOnly c s
  obtain rfl | rfl | rfl | rfl | rfl | ⟨sup, rfl | rfl | rfl⟩ | ⟨b, rfl | rfl⟩ := hc
  case inl =>
    obtain ⟨b, hb⟩ := exec_weekdayAdvance s
    exact backupOnly_of_bkd hb
  case inr.inr.inr.inr.inl => exact ⟨_, s.readData, _, rfl, rfl, fun h => absurd rfl h⟩
  case inr.inr.inr.inr.inr.inl.inr.inr =>
    obtain ⟨b, hb⟩ := exec_freezeTimeout s sup
    exact backupOnly_of_bkd hb
  all_goals exact backupOnly_of_bkd rfl

/-! ### Alarms and loads of the count (R407, R409, R415) -/

/-- The domain after its alarm has fired. -/
def BkdState.firedAlarm (b : BkdState) (skipped : Bool) : BkdState :=
  wake b.wakeAlarm { b with armed := false, fired := true, skipped := skipped, alarmAt := b.count }

/-- A firing alarm changes the domain, and logs at once with the main supply on. -/
theorem fireAlarm_reports (s : State) (skipped : Bool) :
    ∃ off, Reports 1 { s with bkd := { s.bkd.firedAlarm skipped with offAlarm := off } } (s.fireAlarm skipped) := by
  unfold State.fireAlarm
  extract_lets _ c fired
  split
  · exact ⟨s.bkd.offAlarm, .log fired _ _ _ (by decide)⟩
  · exact ⟨some (c, skipped), .refl _⟩

/-- A load of the count: the count and RTC_VALID, and what a skipped alarm changes. -/
theorem loadCount_reports (s : State) (c : BitVec 48) :
    ∃ b, Reports 1 { s with bkd := b } (s.loadCount c) ∧ b.count = c ∧ b.rtcValid = true ∧ b.weekday = s.bkd.weekday ∧ b.lastSync = s.bkd.lastSync := by
  unfold State.loadCount
  extract_lets old loaded
  split
  · obtain ⟨off, hoff⟩ := fireAlarm_reports loaded true
    exact ⟨_, hoff, rfl, rfl, rfl, rfl⟩
  · exact ⟨loaded.bkd, .refl _, rfl, rfl, rfl, rfl⟩

theorem loadCount_of_unarmed (s : State) (c : BitVec 48) (h : s.bkd.armed = false) :
    s.loadCount c = s.modBkd fun b => { b with count := c, rtcValid := true, loaded := true } :=
  if_neg (by simp [State.modBkd, h])

theorem armAlarm_ahead (s : State) (h : s.bkd.count.toNat < s.bkd.alarm.toNat) :
    s.armAlarm = s.modBkd fun b => { b with armed := true, fired := false, skipped := false } :=
  congrArg (fun b => { s with bkd := b }) (if_pos h)

theorem armAlarm_past (s : State) (h : s.bkd.alarm.toNat ≤ s.bkd.count.toNat) :
    s.armAlarm = s.modBkd fun b => { b with alarmPast := true } :=
  congrArg (fun b => { s with bkd := b }) (if_neg (by omega))

/-! ### Writes of the domain (R408) -/

section
variable (s : State) {lo hi : Word} {c : BitVec 48} (hc : BitVec.ofNat 48 (lo.toNat + hi.toNat % 2 ^ 16 * 2 ^ 32) = c)

theorem applyBkd_countLow (v : Word) : s.applyBkd 0x08 v = s.modBkd fun b => { b with tickLoHeld := some v } := rfl

include hc in
theorem applyBkd_countHigh (hheld : s.bkd.tickLoHeld = some lo) :
    s.applyBkd 0x0C hi = (s.modBkd fun b => { b with tickLoHeld := none }).loadCount c := by
  unfold State.applyBkd
  rw [hheld, ← hc]
  rfl

theorem applyBkd_alarmLow (v : Word) (harmed : s.bkd.armed = false) :
    s.applyBkd 0x18 v = s.modBkd fun b => { b with alarmLoHeld := some v } :=
  if_neg (by simp [harmed])

include hc in
theorem applyBkd_alarmHigh (harmed : s.bkd.armed = false) (hheld : s.bkd.alarmLoHeld = some lo) :
    s.applyBkd 0x1C hi = s.modBkd fun b => { b with alarmLoHeld := none, alarm := c } := by
  have hwrite : s.applyBkd 0x1C hi = s.modBkd fun b =>
      { b with alarmLoHeld := none, alarm := BitVec.ofNat 48 ((s.bkd.alarmLoHeld.getD (s.bkd.alarm.setWidth 32)).toNat + hi.toNat % 2 ^ 16 * 2 ^ 32) } := if_neg (by simp [harmed])
  rw [hwrite, hheld, ← hc]
  rfl

theorem applyBkd_arm : s.applyBkd 0x20 1 = s.armAlarm := by
  have harm : s.applyBkd 0x20 1 = (s.modBkd fun b => { b with fired := b.fired && true, skipped := b.skipped && true }).armAlarm := rfl
  rw [harm]
  simp [State.modBkd]

include hc

theorem applyWrites_count (hw : s.bkd.writes = [(0x08, lo), (0x0C, hi)]) (harmed : s.bkd.armed = false) :
    s.applyWrites = s.modBkd fun b => { b with writes := [], tickLoHeld := none, count := c, rtcValid := true, loaded := true } := by
  have hrun : s.applyWrites = ((s.modBkd fun b => { b with writes := [] }).applyBkd 0x08 lo).applyBkd 0x0C hi := by
    unfold State.applyWrites
    rw [hw, List.foldl_cons, List.foldl_cons, List.foldl_nil]
  rw [hrun, applyBkd_countLow, applyBkd_countHigh _ hc, loadCount_of_unarmed]
  · simp only [State.modBkd]
  · exact harmed
  · rfl

theorem applyWrites_alarm (hw : s.bkd.writes = [(0x18, lo), (0x1C, hi), (0x20, 1)]) (harmed : s.bkd.armed = false)
    (hahead : s.bkd.count.toNat < c.toNat) :
    s.applyWrites = s.modBkd fun b =>
      { b with writes := [], alarmLoHeld := none, alarm := c, armed := true, fired := false, skipped := false } := by
  have hrun : s.applyWrites = (((s.modBkd fun b => { b with writes := [] }).applyBkd 0x18 lo).applyBkd 0x1C hi).applyBkd 0x20 1 := by
    unfold State.applyWrites
    rw [hw, List.foldl_cons, List.foldl_cons, List.foldl_cons, List.foldl_nil]
  rw [hrun, applyBkd_alarmLow, applyBkd_alarmHigh _ hc, applyBkd_arm, armAlarm_ahead]
  · simp only [State.modBkd]
  · exact hahead
  · exact harmed
  · rfl
  · exact harmed
end

/-! ### DATE_SET (R412) -/

theorem exec_dateSet_valid (s : State) (h : CmdHdr) {y mo d hh mi sec : Nat} (hok : dateOk y mo d hh mi sec = true) :
    ∃ t, exec (.dateSet h y mo d hh mi sec) s = .next t ∧ t.bkd.count = BitVec.ofNat 48 (dateTicks y mo d hh mi sec) ∧ t.bkd.weekday = s.bkd.weekday
      ∧ t.bkd.rtcValid = true ∧ Completed s t h.tag 0x0080 0x00 := by
  obtain ⟨b, hload, hcount, hvalid, hweekday, -⟩ := loadCount_reports s (BitVec.ofNat 48 (dateTicks y mo d hh mi sec))
  have hlogged := hload.trans (.log _ 0x1304 1 (leBytes 8 s.bkd.count.toNat ++ leBytes 8 (dateTicks y mo d hh mi sec)) (by decide))
  have hdone := Concludes.completeShort ((s.loadCount (BitVec.ofNat 48 (dateTicks y mo d hh mi sec))).log 0x1304 1
    (leBytes 8 s.bkd.count.toNat ++ leBytes 8 (dateTicks y mo d hh mi sec))) h 0x0080 0x00 0
  have hb := hdone.bkd.trans hlogged.bkd
  refine ⟨_, congrArg answer (if_pos hok), ?_, ?_, ?_, ?_⟩
  · exact (congrArg BkdState.count hb).trans hcount
  · exact (congrArg BkdState.weekday hb).trans hweekday
  · exact (congrArg BkdState.rtcValid hb).trans hvalid
  · have hcompleted := completed_completeShort (s := s) h 0x0080 0x00 0 (hlogged.newHandle.trans (State.newHandle_congr rfl rfl)) hlogged.now
    exact hcompleted.congr rfl

theorem exec_dateSet_invalid (s : State) (h : CmdHdr) {y mo d hh mi sec : Nat} (hbad : dateOk y mo d hh mi sec = false) :
    ∃ t, exec (.dateSet h y mo d hh mi sec) s = .next t ∧ t.bkd = s.bkd ∧ Completed s t h.tag 0x0080 0x0A :=
  ⟨_, congrArg answer (if_neg (by simp [hbad])), (Concludes.completeShort s h _ _ _).bkd, (completed_completeShort h _ _ _ rfl rfl).congr rfl⟩

/-! ### Each command of the clock (R408 to R415) -/

section
variable (s : State)

theorem bkd_fireAlarm (skipped : Bool) : ∃ off, (s.fireAlarm skipped).bkd = { s.bkd.firedAlarm skipped with offAlarm := off } := by
  obtain ⟨off, hoff⟩ := fireAlarm_reports s skipped
  exact ⟨off, hoff.bkd⟩

theorem exec_rtcAlarm_reached (harmed : s.bkd.armed = true) (hreached : s.bkd.alarm.toNat ≤ s.bkd.count.toNat) :
    exec .rtcAlarm s = answer (s.fireAlarm (s.bkd.alarm != s.bkd.count)) :=
  congrArg answer (if_pos (by simp [harmed, hreached]))

theorem exec_rtcAlarm_idle (h : s.bkd.armed = false ∨ s.bkd.count.toNat < s.bkd.alarm.toNat) : exec .rtcAlarm s = answer s := by
  refine congrArg answer (if_neg ?_)
  rcases h with h | h
  · simp [h]
  · simp [Nat.not_le.mpr h]

section
variable (hen : s.flag Reg.BKD_CTRL 0 = true) (hlocked : s.syncState = 2) (hfirst : s.bkd.lastSync = none)
include hen hlocked hfirst

theorem exec_rtcSyncCheck_due : exec .rtcSyncCheck s = answer
    (if 1000000 * 32768 < (s.utcTicks - s.bkd.count.toNat).natAbs * 1000000000 then
      ((s.modBkd fun b => { b with lastSync := some s.elapsed }).loadCount (BitVec.ofInt 48 s.utcTicks)).log 0x1306 0
        (leBytes 8 (BitVec.ofInt 64 (s.utcTicks - s.bkd.count.toNat)).toNat)
    else s.modBkd fun b => { b with lastSync := some s.elapsed }) := by
  change execRtcSyncCheck s = _
  unfold execRtcSyncCheck
  rw [hfirst]
  exact congrArg answer (if_pos (by simp [hen, hlocked]))

theorem exec_rtcSyncCheck_off (hoff : 1000000 * 32768 < (s.utcTicks - s.bkd.count.toNat).natAbs * 1000000000) :
    ∃ t, exec .rtcSyncCheck s = .next t ∧ t.bkd.count = BitVec.ofInt 48 s.utcTicks ∧ t.bkd.lastSync = some s.elapsed := by
  obtain ⟨b, hload, hcount, -, -, hsync⟩ :=
    loadCount_reports (s.modBkd fun b => { b with lastSync := some s.elapsed }) (BitVec.ofInt 48 s.utcTicks)
  have hb := (hload.trans (.log _ 0x1306 0 (leBytes 8 (BitVec.ofInt 64 (s.utcTicks - s.bkd.count.toNat)).toNat) (by decide))).bkd
  rw [exec_rtcSyncCheck_due s hen hlocked hfirst, if_pos hoff]
  exact ⟨_, rfl, (congrArg BkdState.count hb).trans hcount, (congrArg BkdState.lastSync hb).trans hsync⟩

theorem exec_rtcSyncCheck_near (hnear : (s.utcTicks - s.bkd.count.toNat).natAbs * 1000000000 ≤ 1000000 * 32768) :
    ∃ t, exec .rtcSyncCheck s = .next t ∧ t.bkd = { s.bkd with lastSync := some s.elapsed } := by
  rw [exec_rtcSyncCheck_due s hen hlocked hfirst, if_neg (by omega)]
  exact ⟨_, rfl, rfl⟩
end

section
variable (sup : Bool)

theorem exec_bkdTickRead : ∃ t f, exec (.bkdTickRead sup) s = .next t ∧ t.readData = [s.bkd.count.setWidth 32] ∧ t.bkd.freezeOf sup = some f
    ∧ f.count = s.bkd.count ∧ f.weekday = s.bkd.weekday ∧ f.prescale = s.bkd.prescale ∧ t.bkd.freezeOf (!sup) = s.bkd.freezeOf (!sup)
    ∧ t.bkd.count = s.bkd.count := by
  cases sup <;> exact ⟨_, _, rfl, rfl, rfl, rfl, rfl, rfl, rfl, rfl⟩

theorem exec_bkdWeekdayRead : ∃ t, exec (.bkdWeekdayRead sup) s = .next t
    ∧ t.readData = [(((s.bkd.freezeOf sup).map (fun f => f.weekday)).getD s.bkd.weekday).setWidth 32] ∧ t.bkd.freezeOf sup = none
    ∧ t.bkd.count = s.bkd.count := by
  cases sup <;> exact ⟨_, rfl, rfl, rfl, rfl⟩

variable {sup} {f : Freeze} (hf : s.bkd.freezeOf sup = some f)
include hf

theorem exec_freezeTimeout_frozen : exec (.freezeTimeout sup) s
    = answer (if f.since + 1000000000 ≤ s.elapsed then s.modBkd (fun b => { b.setFreeze sup none with freezeTo := true }) else s) := by
  change execFreezeTimeout sup s = _
  unfold execFreezeTimeout
  rw [hf]

theorem exec_freezeTimeout_over (hover : f.since + 1000000000 ≤ s.elapsed) :
    ∃ t, exec (.freezeTimeout sup) s = .next t ∧ t.bkd.freezeOf sup = none ∧ t.bkd.freezeTo = true := by
  rw [exec_freezeTimeout_frozen s hf, if_pos hover]
  cases sup <;> exact ⟨_, rfl, rfl, rfl⟩

theorem exec_freezeTimeout_before (hbefore : s.elapsed < f.since + 1000000000) : exec (.freezeTimeout sup) s = .next s.showHealth := by
  rw [exec_freezeTimeout_frozen s hf, if_neg (by omega)]
  rfl
end

/-- The weekday after a full day, wrapping from 6 to 0 (R414). -/
theorem toNat_nextWeekday {w : BitVec 3} (h : w.toNat ≤ 6) : (if w = 6 then 0 else w + 1 : BitVec 3).toNat = (w.toNat + 1) % 7 := by
  revert w
  decide

theorem exec_weekdayAdvance_due (hday : s.bkd.weekday.toNat ≤ 6) (hdue : ticksPerDay ≤ s.bkd.prescale.toNat + 1) :
    ∃ t, exec .weekdayAdvance s = .next t ∧ t.bkd.weekday.toNat = (s.bkd.weekday.toNat + 1) % 7 ∧ t.bkd.prescale = 0 ∧ t.bkd.count = s.bkd.count := by
  have htick : tickWeekday s.bkd = { s.bkd with prescale := 0, weekday := if s.bkd.weekday = 6 then 0 else s.bkd.weekday + 1 } := if_pos hdue
  have hbkd : (s.modBkd tickWeekday).showHealth.bkd = { s.bkd with prescale := 0, weekday := if s.bkd.weekday = 6 then 0 else s.bkd.weekday + 1 } := htick
  refine ⟨_, congrArg answer (if_pos hdue), ?_, ?_, ?_⟩
  · rw [hbkd]
    exact toNat_nextWeekday hday
  · rw [hbkd]
  · rw [hbkd]
end

section
variable (s : State) {lo hi : Word}

theorem exec_of_bkd {c : Instr} {t : State} {b : BkdState} (h : exec c s = answer t) (hb : t.bkd = b) :
    ∃ t, exec c s = .next t ∧ t.bkd = b := ⟨_, h, hb⟩

theorem exec_bkdWriteApply_count (hw : s.bkd.writes = [(0x08, lo), (0x0C, hi)]) (harmed : s.bkd.armed = false) :
    ∃ t, exec .bkdWriteApply s = .next t ∧ t.bkd.count = BitVec.ofNat 48 (lo.toNat + hi.toNat % 2 ^ 16 * 2 ^ 32) ∧ t.bkd.rtcValid = true
      ∧ t.bkd.writes = [] ∧ t.bkd.weekday = s.bkd.weekday ∧ t.bkd.prescale = s.bkd.prescale := by
  generalize hc : BitVec.ofNat 48 (lo.toNat + hi.toNat % 2 ^ 16 * 2 ^ 32) = c
  obtain ⟨t, ht, hb⟩ := exec_of_bkd (c := .bkdWriteApply) s (congrArg answer (applyWrites_count s hc hw harmed)) rfl
  refine ⟨t, ht, ?_⟩
  simp only [hb, State.modBkd, and_self]

theorem exec_bkdWriteApply_alarm (hw : s.bkd.writes = [(0x18, lo), (0x1C, hi), (0x20, 1)]) (harmed : s.bkd.armed = false)
    (hahead : s.bkd.count.toNat < (BitVec.ofNat 48 (lo.toNat + hi.toNat % 2 ^ 16 * 2 ^ 32)).toNat) :
    ∃ t, exec .bkdWriteApply s = .next t ∧ t.bkd.alarm = BitVec.ofNat 48 (lo.toNat + hi.toNat % 2 ^ 16 * 2 ^ 32) ∧ t.bkd.armed = true
      ∧ t.bkd.fired = false := by
  generalize hc : BitVec.ofNat 48 (lo.toNat + hi.toNat % 2 ^ 16 * 2 ^ 32) = c at hahead ⊢
  obtain ⟨t, ht, hb⟩ := exec_of_bkd (c := .bkdWriteApply) s (congrArg answer (applyWrites_alarm s hc hw harmed hahead)) rfl
  refine ⟨t, ht, ?_⟩
  simp only [hb, State.modBkd, and_self]

theorem exec_alarmArm_ahead (hahead : s.bkd.count.toNat < s.bkd.alarm.toNat) :
    ∃ t, exec .alarmArm s = .next t ∧ t.bkd.armed = true ∧ t.bkd.fired = false ∧ t.bkd.skipped = false :=
  ⟨_, congrArg answer (armAlarm_ahead s hahead), rfl, rfl, rfl⟩

theorem exec_alarmArm_past (hpast : s.bkd.alarm.toNat ≤ s.bkd.count.toNat) :
    ∃ t, exec .alarmArm s = .next t ∧ t.bkd = { s.bkd with alarmPast := true } :=
  ⟨_, congrArg answer (armAlarm_past s hpast), rfl⟩

theorem exec_rtcAlarm_fires (harmed : s.bkd.armed = true) (hreached : s.bkd.alarm.toNat ≤ s.bkd.count.toNat) :
    ∃ t, exec .rtcAlarm s = .next t ∧ t.bkd.armed = false ∧ t.bkd.fired = true ∧ t.bkd.alarmAt = s.bkd.count
      ∧ t.bkd.skipped = (s.bkd.alarm != s.bkd.count) ∧ t.bkd.latch = (s.bkd.latch || s.bkd.wakeAlarm) := by
  obtain ⟨off, hoff⟩ := bkd_fireAlarm s (s.bkd.alarm != s.bkd.count)
  refine ⟨_, exec_rtcAlarm_reached s harmed hreached, ?_⟩
  rw [State.showHealth_bkd, hoff]
  exact ⟨rfl, rfl, rfl, rfl, rfl⟩
end

/-- Settles O44: the writes run in order on the domain; a load, an alarm and a comparison are reports besides the domain's own change. -/
theorem backupClock : Obligations.BackupClock := by
  exact ⟨fun s _ _ => exec_bkdWriteApply_count s, fun s _ _ => exec_bkdWriteApply_alarm s, exec_bkdTickRead, exec_bkdWeekdayRead,
    fun s _ _ => exec_freezeTimeout_over s, fun s _ _ => exec_freezeTimeout_before s, exec_weekdayAdvance_due,
    exec_alarmArm_ahead, exec_alarmArm_past, exec_rtcAlarm_fires, exec_rtcAlarm_idle, fun s h _ _ _ _ _ _ => exec_dateSet_valid s h,
    fun s h _ _ _ _ _ _ => exec_dateSet_invalid s h, exec_rtcSyncCheck_off, exec_rtcSyncCheck_near⟩

/-! ### Tamper (R404, R418, R419) -/

/-- The backup domain and the keys that a tamper erases. -/
def State.keyRam (s : State) : BkdState × Option (List Byte) × BitVec 64 × Slots × List CaddyOp :=
  (s.bkd, s.sec.share, s.sec.bkCounter, s.sec.slots, s.sec.ops)

section
variable (s : State)

theorem keyRam_log (code sev : Nat) (p : List Byte) : (s.log code sev p).keyRam = s.keyRam := by
  have hstill : (s.log code sev p).still = s.still := Reports.still_submit s _
  exact (congrArg State.keyRam hstill :)

theorem keyRam_caddyRefuse (r : CaddyReq) (c : CaddyResult) : (s.caddyRefuse r c).keyRam = s.keyRam := by
  have hcounted : (s.bump Reg.SEC_CNT_DENIED).keyRam = s.keyRam := rfl
  unfold State.caddyRefuse
  split
  · rfl
  · extract_lets counted logged
    split
    · exact hcounted
    · exact (keyRam_log counted _ _ _).trans hcounted

theorem keyRam_refuseWaiting : s.refuseWaiting.keyRam = s.keyRam := by
  refine (foldl_keeps _ State.keyRam (fun t o => ?_) _ _).trans rfl
  split
  · exact (keyRam_caddyRefuse t _ _)
  · rfl

theorem keyRam_finishOp (n status result : Nat) : (s.finishOp n status result).keyRam = s.keyRam := by
  have hdone := Concludes.finishOp s n status result
  unfold State.keyRam
  rw [hdone.bkd, hdone.sec]

theorem keyRam_kuRefuse (m : List Byte) (status step : Nat) : (s.kuRefuse m status step).keyRam = s.keyRam := keyRam_log s _ _ _

/-- The Caddy's action at a tamper ends every operation and erases SHARE and slots; the domain and its counter stay. -/
theorem keyRam_caddyTamper : s.caddyTamper.keyRam = (s.bkd, none, s.sec.bkCounter, [], []) := by
  unfold State.caddyTamper
  extract_lets n waiting answered counted logged flagged _ cut refused _ emptied
  have hanswered : answered.keyRam = s.keyRam :=
    foldl_keeps (fun s o => s.caddyAnswer o.req.id .tamper) State.keyRam (fun _ _ => rfl) s.sec.ops s
  have hlogged : logged.keyRam = s.keyRam := by
    refine Eq.trans ?_ hanswered
    change State.keyRam (match s.sec.ops with | o :: _ => _ | [] => _) = _
    split
    · exact keyRam_log counted _ _ _
    · rfl
  have hcut : cut.keyRam = (s.bkd, none, s.sec.bkCounter, s.sec.slots, []) :=
    congrArg (fun k : BkdState × Option (List Byte) × BitVec 64 × Slots × List CaddyOp => (k.1, none, k.2.2.1, k.2.2.2.1, [])) hlogged
  have hrefused : refused.keyRam = (s.bkd, none, s.sec.bkCounter, s.sec.slots, []) := (keyRam_refuseWaiting cut).trans hcut
  have hemptied : emptied.keyRam = (s.bkd, none, s.sec.bkCounter, [], []) :=
    congrArg (fun k : BkdState × Option (List Byte) × BitVec 64 × Slots × List CaddyOp => (k.1, k.2.1, k.2.2.1, [], k.2.2.2.2)) hrefused
  refine Eq.trans (foldl_keeps _ State.keyRam (fun t o => ?_) _ emptied) hemptied
  split
  · exact (keyRam_finishOp _ _ _ _).trans (keyRam_kuRefuse t _ _ _)
  · rfl
end

/-- The domain after a tamper of a cause (R419). -/
def BkdState.tampered (b : BkdState) (c : Nat) : BkdState :=
  wake b.wakeTamper { b with
    tampState := b.tampState ||| BitVec.ofNat 7 (2 ^ c)
    tampTick := if b.tampCause = 0 then b.count else b.tampTick
    tampCause := b.tampCause ||| BitVec.ofNat 8 (2 ^ c)
    tampers := if b.tampers = 0xFFFF#16 then b.tampers else b.tampers + 1 }

theorem tamperBit_lt (src : TamperSource) : tamperBit src < 7 := by
  cases src with
  | input n => exact lt_trans (Nat.mod_lt n (by decide)) (by decide)
  | vbat => decide
  | temp => decide
  | xtal => decide

theorem getLsbD_tampered (b : BkdState) {c : Nat} (h : c < 7) : (b.tampered c).tampCause.getLsbD c = true := by
  have hbit : ∀ c < 7, (BitVec.ofNat 8 (2 ^ c)).getLsbD c = true := by decide
  change (b.tampCause ||| BitVec.ofNat 8 (2 ^ c)).getLsbD c = true
  rw [BitVec.getLsbD_or, hbit c h, Bool.or_true]

section
variable (s : State) (src : TamperSource)

/-- The domain after a tamper of a running device, which flags that the Caddy has acted. -/
def BkdState.tamperedRunning (b : BkdState) (c : Nat) : BkdState := { b.tampered c with tampCause := (b.tampered c).tampCause ||| 0x80 }

theorem exec_tamperInput_idle (hen : s.bkd.tampCtrl.getLsbD (tamperEnable src) = true) (hrun : s.running = false) :
    ∃ t, exec (.tamperInput src) s = .next t ∧ t.keyRam = (s.bkd.tampered (tamperBit src), none, 0, s.sec.slots, s.sec.ops) := by
  have hidle : exec (.tamperInput src) s = answer (s.domainTamper (tamperBit src)) :=
    congrArg answer ((if_pos hen).trans (if_neg (Bool.eq_false_iff.mp hrun)))
  exact ⟨_, hidle, rfl⟩

theorem exec_tamperInput_running (hen : s.bkd.tampCtrl.getLsbD (tamperEnable src) = true) (hrun : s.running = true) :
    ∃ t, exec (.tamperInput src) s = .next t ∧ t.keyRam = (s.bkd.tamperedRunning (tamperBit src), none, 0, [], []) := by
  have hkept := keyRam_caddyTamper (s.domainTamper (tamperBit src))
  have hflagged : ((s.domainTamper (tamperBit src)).caddyTamper.modBkd fun b => { b with tampCause := b.tampCause ||| 0x80 }).keyRam
      = (s.bkd.tamperedRunning (tamperBit src), none, 0, [], []) :=
    congrArg (fun k : BkdState × Option (List Byte) × BitVec 64 × Slots × List CaddyOp =>
      ({ k.1 with tampCause := k.1.tampCause ||| 0x80 }, k.2)) hkept
  exact ⟨_, congrArg answer ((if_pos hen).trans (if_pos hrun)), (keyRam_log _ _ _ _).trans hflagged⟩

theorem exec_tamperInput_enabled (hen : s.bkd.tampCtrl.getLsbD (tamperEnable src) = true) :
    ∃ t, exec (.tamperInput src) s = .next t ∧ t.sec.share = none ∧ t.sec.bkCounter = 0 ∧ t.bkd.tampCause.getLsbD (tamperBit src) = true
      ∧ t.bkd.tampTick = (if s.bkd.tampCause = 0 then s.bkd.count else s.bkd.tampTick) ∧ t.bkd.latch = (s.bkd.latch || s.bkd.wakeTamper)
      ∧ t.bkd.tampers = (if s.bkd.tampers = 0xFFFF#16 then s.bkd.tampers else s.bkd.tampers + 1)
      ∧ (s.running = true → t.sec.slots = [] ∧ t.sec.ops = []) := by
  have hcause := getLsbD_tampered s.bkd (tamperBit_lt src)
  cases hrun : s.running with
  | false =>
    obtain ⟨t, ht, hkept⟩ := exec_tamperInput_idle s src hen hrun
    obtain ⟨hbkd, hshare, hcounter, -, -⟩ := by simpa only [State.keyRam, Prod.mk.injEq] using hkept
    refine ⟨t, ht, hshare, hcounter, ?_⟩
    rw [hbkd]
    exact ⟨hcause, rfl, rfl, rfl, nofun⟩
  | true =>
    obtain ⟨t, ht, hkept⟩ := exec_tamperInput_running s src hen hrun
    obtain ⟨hbkd, hshare, hcounter, hslots, hops⟩ := by simpa only [State.keyRam, Prod.mk.injEq] using hkept
    refine ⟨t, ht, hshare, hcounter, ?_⟩
    rw [hbkd]
    refine ⟨?_, rfl, rfl, rfl, fun _ => ⟨hslots, hops⟩⟩
    rw [BkdState.tamperedRunning, BitVec.getLsbD_or, hcause, Bool.true_or]

theorem exec_tamperInput_disabled (hdis : s.bkd.tampCtrl.getLsbD (tamperEnable src) = false) : exec (.tamperInput src) s = answer s :=
  congrArg answer (if_neg (by simp [hdis]))
end

/-- Settles O45: a tamper's key RAM is what `keyRam_caddyTamper` leaves, and the other commands write the domain alone. -/
theorem backupSupply : Obligations.BackupSupply := by
  exact ⟨fun s => ⟨_, rfl, rfl⟩, fun s => ⟨_, rfl, rfl⟩, exec_tamperInput_enabled, exec_tamperInput_disabled,
    fun s => ⟨_, rfl, rfl, rfl, rfl, rfl, rfl, rfl, rfl, rfl⟩, fun s inRange => ⟨_, rfl, rfl⟩, fun s low => ⟨_, rfl, rfl⟩⟩

end Sys2Proof.Machine
end

section
/-!
PROOFS of the statements on health: errors by their grades, thermal and current limits, and the performance counters.
-/
namespace Sys2Proof.Machine

/-! ### Register pairs -/

section
variable (s : State) {lo hi : Nat} (v : Nat)

theorem pair_setPair_same (h : lo ≠ hi) : (s.setPair lo hi v).pair lo hi = v % 2 ^ 64 := by
  have hlo : (Word.ofNat v).toNat = v % 2 ^ 32 := BitVec.toNat_ofNat _ _
  have hhi : (Word.ofNat (v / 2 ^ 32)).toNat = v / 2 ^ 32 % 2 ^ 32 := BitVec.toNat_ofNat _ _
  rw [State.pair, State.setPair, State.reg_setReg_ne _ _ _ _ h, State.reg_setReg_same, State.reg_setReg_same, hlo, hhi]
  omega

theorem pair_congr {t : State} (hlo : t.reg lo = s.reg lo) (hhi : t.reg hi = s.reg hi) : t.pair lo hi = s.pair lo hi := by
  rw [State.pair, State.pair, hlo, hhi]
end

/-! ### What an error report changes after the error is noted (R448, R450) -/

/-- Registers that containing and stacking an error may change. -/
def stackRegs : List Nat := [Reg.HLT_STACK, Reg.HLT_CNT_PREEMPT, Reg.HLT_CNT_STACK_LOST] ++ logRegs

/-- The registers of a noted error stay, and so does its place in the order. -/
structure KeepsNoted (s t : State) : Prop where
  reg : ∀ a, a ∉ stackRegs → t.reg a = s.reg a
  order : t.hlt.order = s.hlt.order
  forced : t.hlt.currentLevel = s.hlt.currentLevel

namespace KeepsNoted

variable {s t u : State}

theorem refl (s : State) : KeepsNoted s s := ⟨fun _ _ => rfl, rfl, rfl⟩

theorem trans (h : KeepsNoted s t) (k : KeepsNoted t u) : KeepsNoted s u :=
  ⟨fun a ha => (k.reg a ha).trans (h.reg a ha), k.order.trans h.order, k.forced.trans h.forced⟩

theorem log (s : State) (code sev : Nat) (p : List Byte) (h : sev ≤ 4) : KeepsNoted s (s.log code sev p) :=
  ⟨fun a ha => s.reg_log code sev p a h fun hm => ha (List.mem_append_right _ hm), congrArg HltState.order (s.log_hlt code sev p),
    congrArg HltState.currentLevel (s.log_hlt code sev p)⟩

theorem setReg (s : State) {a : Nat} (v : Word) (h : a ∈ stackRegs) : KeepsNoted s (s.setReg a v) :=
  ⟨fun b hb => s.reg_setReg_ne a b v fun e => hb (e ▸ h), rfl, rfl⟩

theorem bump (s : State) {a : Nat} (h : a ∈ stackRegs) : KeepsNoted s (s.bump a) := setReg s _ h

/-- An update of no register that keeps the order and the current limit. -/
theorem of_regs (hr : t.regs = s.regs) (ho : t.hlt.order = s.hlt.order) (hf : t.hlt.currentLevel = s.hlt.currentLevel) : KeepsNoted s t :=
  ⟨fun a _ => congrArg (smGet regReset · a) hr, ho, hf⟩

theorem beginE4 (s : State) : KeepsNoted s s.beginE4 := by
  unfold State.beginE4
  split
  · exact refl s
  · extract_lets _ _ _ off
    have hoff : KeepsNoted s off := of_regs rfl rfl rfl
    split
    · exact hoff.trans (log off _ _ _ (by decide))
    · exact hoff

theorem contain (s : State) (e : ErrorRec) : KeepsNoted s (s.contain e) := by
  unfold State.contain
  split
  · exact beginE4 s
  · exact refl s

theorem preempt (s : State) (x : StackEntry) : KeepsNoted s (s.preempt x) := by
  unfold State.preempt
  split
  · refine trans ?_ (bump (a := Reg.HLT_CNT_PREEMPT) _ (by decide))
    exact of_regs rfl rfl rfl
  · exact of_regs rfl rfl rfl

theorem stackError (s : State) (x : StackEntry) : KeepsNoted s (s.stackError x) := by
  have hlost : KeepsNoted s (s.bump Reg.HLT_CNT_STACK_LOST) := bump s (by decide)
  unfold State.stackError
  split
  · exact preempt s x
  · split
    · split
      · exact preempt s x
      · exact of_regs rfl rfl rfl
    · split
      · extract_lets counted
        split
        · exact hlost
        · exact (hlost.trans (log counted _ _ _ (by decide))).trans (of_regs rfl rfl rfl)
      · exact preempt s x

theorem showStack (s : State) : KeepsNoted s s.showStack :=
  ((setReg s _ (by decide)).trans (setReg _ _ (by decide))).trans (setReg _ _ (by decide))

theorem noticeHealth (s0 s : State) : KeepsNoted s (s0.noticeHealth s) := by
  unfold State.noticeHealth
  split
  · exact of_regs rfl rfl rfl
  · exact refl s

end KeepsNoted

section
variable (s s0 : State) (e : ErrorRec)

theorem reg_holdError {a : Nat} (ha : a ∉ stackRegs) : (s.holdError s0 e).reg a = s.reg a :=
  (((KeepsNoted.stackError _ _).trans (.showStack _)).trans (.noticeHealth _ _)).reg a ha

theorem order_holdError : (s.holdError s0 e).hlt.order = s.hlt.order + 1 :=
  (((KeepsNoted.stackError _ _).trans (.showStack _)).trans (.noticeHealth _ _)).order

theorem forced_holdError : (s.holdError s0 e).hlt.currentLevel = s.hlt.currentLevel :=
  (((KeepsNoted.stackError _ _).trans (.showStack _)).trans (.noticeHealth _ _)).forced

theorem alm_holdError : (s.holdError s0 e).alm = s.alm := by
  have hpreempt (t : State) (x : StackEntry) : (t.preempt x).alm = t.alm := by
    unfold State.preempt
    split <;> rfl
  have hstack (t : State) (x : StackEntry) : (t.stackError x).alm = t.alm := by
    unfold State.stackError
    split
    · exact hpreempt t x
    · split
      · split
        · exact hpreempt t x
        · rfl
      · split
        · extract_lets counted
          split
          · rfl
          · exact counted.log_alm _ _ _
        · exact hpreempt t x
  have hnotice (t : State) : (s0.noticeHealth t).alm = t.alm := by
    unfold State.noticeHealth
    split <;> rfl
  exact (hnotice _).trans (hstack _ _)
end

/-! ### Grading (R447) -/

section
variable (s : State) (e : ErrorRec)

theorem source_gradeError : (s.gradeError e).1.source = e.source := by
  have h2 : (s.gradeE2 e).1.source = e.source := by
    unfold State.gradeE2
    dsimp only
    split
    · split <;> rfl
    · rfl
  have h3 (t : State) (x : ErrorRec) : (t.gradeE3 x).1.source = x.source := by
    unfold State.gradeE3
    dsimp only
    split
    · split
      · rfl
      · split <;> rfl
    · rfl
  exact (h3 _ _).trans h2

theorem order_gradeError : (s.gradeError e).2.hlt.order = s.hlt.order := by
  have hescalate (t : State) (x : ErrorRec) (g : Nat) : (t.escalate x g).hlt = t.hlt := t.log_hlt _ _ _
  have h2 : (s.gradeE2 e).2.hlt.order = s.hlt.order := by
    unfold State.gradeE2
    dsimp only
    split
    · split
      · exact (congrArg HltState.order (hescalate _ _ _) :)
      · rfl
    · rfl
  have h3 (t : State) (x : ErrorRec) : (t.gradeE3 x).2.hlt.order = t.hlt.order := by
    unfold State.gradeE3
    dsimp only
    split
    · split
      · rfl
      · split
        · exact (congrArg HltState.order (hescalate _ _ _) :)
        · rfl
    · rfl
  exact (h3 _ _).trans h2

theorem pair_noteLast : (s.noteLast e).pair Reg.HLT_LAST_LO Reg.HLT_LAST_HI = s.now % 2 ^ 64 := by
  have hkept {a : Nat} (hsrc : a ≠ Reg.HLT_LAST_SRC) (hcode : a ≠ Reg.HLT_LAST_CODE) :
      (s.noteLast e).reg a = ((s.bump (Reg.HLT_CNT_E (e.grade - 1))).setPair Reg.HLT_LAST_LO Reg.HLT_LAST_HI s.now).reg a := by
    rw [State.noteLast, State.reg_setReg_ne _ _ _ _ hcode, State.reg_setReg_ne _ _ _ _ hsrc]
  rw [pair_congr _ (hkept (by decide) (by decide)) (hkept (by decide) (by decide)), pair_setPair_same _ _ (by decide)]

/-- An error is noted with its source and the time, whatever grade it ends with. -/
theorem raiseError_notes :
    (s.raiseError e).reg Reg.HLT_LAST_SRC = e.source ∧ (s.raiseError e).pair Reg.HLT_LAST_LO Reg.HLT_LAST_HI = s.now % 2 ^ 64
      ∧ (s.raiseError e).hlt.order = s.hlt.order + 1 := by
  have hnow : (s.gradeError e).2.now = s.now := ((Reports.gradeE2 (q := 0) s e).trans (.gradeE3 _ _)).now
  have hcont := KeepsNoted.contain ((s.gradeError e).2.noteLast (s.gradeError e).1) (s.gradeError e).1
  have hreg {a : Nat} (ha : a ∉ stackRegs) : (s.raiseError e).reg a = ((s.gradeError e).2.noteLast (s.gradeError e).1).reg a := by
    rw [s.raiseError_eq, reg_holdError _ _ _ ha, hcont.reg _ ha]
  refine ⟨?_, ?_, ?_⟩
  · rw [hreg (by decide), State.noteLast, State.reg_setReg_ne _ _ _ _ (by decide), State.reg_setReg_same, source_gradeError]
  · rw [pair_congr _ (hreg (by decide)) (hreg (by decide)), pair_noteLast, hnow]
  · rw [s.raiseError_eq, order_holdError, hcont.order]
    exact congrArg (· + 1) (order_gradeError s e)

theorem raiseError_eq_of_grade4 (hg : e.grade = 4) : s.raiseError e = ((s.noteLast e).beginE4).holdError s e := by
  rw [s.raiseError_eq, s.gradeError_of_grade4 hg]
  exact congrArg (fun t => State.holdError t s e) (if_pos (show 4 ≤ e.grade by omega))

/-- Registers in which an E4 is noted. -/
def notedRegs : List Nat := [Reg.HLT_CNT_E 3, Reg.HLT_LAST_LO, Reg.HLT_LAST_HI, Reg.HLT_LAST_SRC, Reg.HLT_LAST_CODE] ++ stackRegs

theorem reg_raiseError_grade4 (hg : e.grade = 4) {a : Nat} (ha : a ∉ notedRegs) : (s.raiseError e).reg a = s.reg a := by
  have hne (b : Nat) (hb : b ∈ notedRegs) : a ≠ b := fun h => ha (h ▸ hb)
  have hstack : a ∉ stackRegs := fun hm => ha (List.mem_append_right _ hm)
  rw [raiseError_eq_of_grade4 s e hg, reg_holdError _ _ _ hstack, (KeepsNoted.beginE4 _).reg _ hstack, State.noteLast, hg]
  rw [State.reg_setReg_ne _ _ _ _ (hne _ (by decide)), State.reg_setReg_ne _ _ _ _ (hne _ (by decide)),
    State.reg_setPair_ne _ _ _ _ _ (hne _ (by decide)) (hne _ (by decide)), State.reg_bump_ne _ _ _ (hne _ (by decide))]

theorem forced_raiseError_grade4 (hg : e.grade = 4) : (s.raiseError e).hlt.currentLevel = s.hlt.currentLevel := by
  rw [raiseError_eq_of_grade4 s e hg, forced_holdError, (KeepsNoted.beginE4 _).forced]
  rfl

/-- An E4 turns every pin off and is counted at its grade. -/
theorem raiseError_grade4 (hg : e.grade = 4) (h4 : s.hlt.e4 = none) :
    (∀ p ∈ (s.raiseError e).alm.pins, p.driven = false)
      ∧ (s.raiseError e).reg (Reg.HLT_CNT_E 3) = satWord ((s.reg (Reg.HLT_CNT_E 3)).toNat + 1) := by
  rw [raiseError_eq_of_grade4 s e hg]
  refine ⟨?_, ?_⟩
  · have hpins : (s.noteLast e).beginE4.alm.pins = s.alm.pins.map fun p => { p with driven := false } := by
      have hfirst : (s.noteLast e).hlt.e4.isSome = false := by rw [show (s.noteLast e).hlt.e4 = none from h4]; rfl
      unfold State.beginE4
      rw [if_neg (Bool.eq_false_iff.mp hfirst)]
      dsimp only
      split
      · rw [State.log_alm]
        rfl
      · rfl
    rw [alm_holdError, hpins]
    simp
  · rw [reg_holdError _ _ _ (by decide), (KeepsNoted.beginE4 _).reg _ (by decide), State.noteLast, hg]
    rw [State.reg_setReg_ne _ _ _ _ (by decide), State.reg_setReg_ne _ _ _ _ (by decide), State.reg_setPair_ne _ _ _ _ _ (by decide) (by decide),
      State.reg_bump_same]

/-- The codes of memory errors are those of block 0x16 (R463). -/
theorem memError_of_code (h : e.code.toNat / 256 ≠ 0x16) : s.memError e = s := by
  have hne (c : Half) (hc : c.toNat / 256 = 0x16) : e.code ≠ c := by
    rintro rfl
    exact h hc
  unfold State.memError
  exact (if_neg (hne 0x16E0#16 rfl)).trans ((if_neg (hne 0x16E1#16 rfl)).trans ((if_neg (hne 0x1603#16 rfl)).trans (if_neg (hne 0x1601#16 rfl))))

theorem exec_errorDetect (h : e.code.toNat / 256 ≠ 0x16) : exec (.errorDetect e) s = answer (s.raiseError e) := by
  change answer ((s.memError e).raiseError e) = _
  rw [memError_of_code s e h]
end

/-! ### Handling (R448, R449) -/

section
variable (s : State) {x : StackEntry} {t0 : Nat}

/-- Recording a handled error leaves the stack to the handler. -/
theorem stack_recordHandled : (s.recordHandled x).hlt.stack = s.hlt.stack := by
  unfold State.recordHandled
  dsimp only
  split
  · split
    · rfl
    · exact (congrArg HltState.stack (State.log_hlt _ _ _ _) :)
  · exact (congrArg HltState.stack (State.log_hlt _ _ _ _) :)
  · have hkept (c : Nat) (p : List Byte) : ((s.keepRecord x).log c 3 p).hlt.stack = s.hlt.stack :=
      (congrArg HltState.stack (State.log_hlt _ _ _ _) :)
    split
    · split
      · exact (congrArg HltState.stack (State.log_hlt _ _ _ _) :).trans (hkept _ _)
      · exact hkept _ _
    · exact hkept _ _
  · exact (congrArg HltState.stack (State.log_hlt _ _ _ _) :)

theorem handleNext_of_empty (h : s.hlt.stack = []) : s.handleNext = { s with hlt := { s.hlt with handling := none } } := by
  unfold State.handleNext
  rw [h]
  rfl

/-- With nothing handled and nothing stacked the grade shown in HLT_STACK is 0. -/
theorem field_showStack_grade (h : s.hlt.handling = none) : s.showStack.field Reg.HLT_STACK 10 8 = 0 := by
  unfold State.showStack
  dsimp only
  rw [h, State.field_setField_disjoint _ _ _ _ _ _ _ (by decide) (by decide), State.field_setField_same _ _ _ _ _ (by decide)]
  rfl

theorem hlt_noticeHealth (s0 : State) : (s0.noticeHealth s).hlt = s.hlt := by
  unfold State.noticeHealth
  split <;> rfl

theorem field_noticeHealth (s0 : State) (a hi lo : Nat) : (s0.noticeHealth s).field a hi lo = s.field a hi lo := by
  unfold State.noticeHealth
  split <;> rfl

theorem exec_errorHandlingDone_last (hx : s.hlt.handling = some (x, t0)) (hempty : s.hlt.stack = []) :
    ∃ t, exec .errorHandlingDone s = .next t ∧ t.hlt.handling = none ∧ t.hlt.stack = [] ∧ t.hlt.lostRun = false ∧ t.field Reg.HLT_STACK 10 8 = 0 := by
  generalize hr : ({ s.recordHandled x with hlt := { (s.recordHandled x).hlt with lostRun := false } } : State) = r
  have hstack : r.hlt.stack = [] := by
    rw [← hr]
    exact (stack_recordHandled s).trans hempty
  have hlost : r.hlt.lostRun = false := by rw [← hr]
  have hexec : exec .errorHandlingDone s = answer (s.noticeHealth r.handleNext.showStack) := by
    change execErrorHandlingDone s = _
    unfold execErrorHandlingDone
    rw [hx]
    exact congrArg (fun u : State => answer (s.noticeHealth u.handleNext.showStack)) hr
  rw [hexec, handleNext_of_empty r hstack]
  have hhlt : ∀ u : State, (s.noticeHealth u.showStack).hlt = u.hlt := fun u => hlt_noticeHealth _ s
  have hshown : ∀ u : State, u.hlt.handling = none → (s.noticeHealth u.showStack).showHealth.field Reg.HLT_STACK 10 8 = 0 := fun u hu => by
    rw [State.field_showHealth_ne _ _ _ _ (by decide), field_noticeHealth, field_showStack_grade u hu]
  exact ⟨_, rfl, congrArg HltState.handling (hhlt _), (congrArg HltState.stack (hhlt _)).trans hstack,
    (congrArg HltState.lostRun (hhlt _)).trans hlost, hshown _ rfl⟩

theorem exec_errorHandlingDone_idle (hx : s.hlt.handling = none) : exec .errorHandlingDone s = answer s := by
  change execErrorHandlingDone s = _
  unfold execErrorHandlingDone
  rw [hx]

theorem exec_handlerTimeout_over (hx : s.hlt.handling = some (x, t0)) (hover : t0 + 10000000 ≤ s.elapsed) (h4 : s.hlt.e4 = none) :
    ∃ t, exec .handlerTimeout s = .next t ∧ t.hlt.e4 = some s.elapsed ∧ t.boot.outputsOff = true := by
  have hlogged := Reports.log (q := 0) s 0x1507 3 (leBytes 1 x.err.grade) (by decide)
  have hraise (e : ErrorRec) (hg : e.grade = 4) : ((s.log 0x1507 3 (leBytes 1 x.err.grade)).raiseError e).hlt.e4 = some s.elapsed
      ∧ ((s.log 0x1507 3 (leBytes 1 x.err.grade)).raiseError e).boot.outputsOff = true := by
    rw [← hlogged.elapsed]
    exact State.raiseError_of_grade4 hg ((congrArg HltState.e4 (State.log_hlt _ _ _ _)).trans h4)
  change ∃ t, execHandlerTimeout s = _ ∧ _
  unfold execHandlerTimeout
  rw [hx]
  refine ⟨_, congrArg answer (if_neg (by omega)), hraise _ rfl⟩

theorem exec_handlerTimeout_before (hx : s.hlt.handling = some (x, t0)) (hbefore : s.elapsed < t0 + 10000000) :
    exec .handlerTimeout s = answer s := by
  change execHandlerTimeout s = _
  unfold execHandlerTimeout
  rw [hx]
  exact congrArg answer (if_pos hbefore)
end

/-- Settles O48: an error is noted after its grading, and containing and stacking it change no register of the note. -/
theorem errors : Obligations.Errors := by
  refine ⟨fun s e _ _ hcode => ?_, fun s e hg hcode h4 => ?_, fun s _ _ hx hempty _ => exec_errorHandlingDone_last s hx hempty,
    exec_errorHandlingDone_idle, fun s _ _ => exec_handlerTimeout_over s, fun s _ _ => exec_handlerTimeout_before s⟩
  · obtain ⟨hsrc, htime, horder⟩ := raiseError_notes s e
    refine ⟨_, exec_errorDetect s e hcode, ?_, ?_, horder⟩
    · exact (State.reg_showHealth_ne _ _ (by decide)).trans hsrc
    · exact (pair_congr _ (State.reg_showHealth_ne _ _ (by decide)) (State.reg_showHealth_ne _ _ (by decide))).trans htime
  · obtain ⟨hbegun, hoff⟩ := State.raiseError_of_grade4 hg h4
    obtain ⟨hpins, hcount⟩ := raiseError_grade4 s e hg h4
    exact ⟨_, exec_errorDetect s e hcode, hbegun, hoff, hpins, (State.reg_showHealth_ne _ _ (by decide)).trans hcount⟩

/-! ### Thermal and current limits (R453 to R457) -/

/-- Registers in which a change of the shedding level shows. -/
def shedRegs : List Nat := [Reg.TOP_STATUS, Reg.OSC_STATUS, Reg.DFS_STATUS, Reg.HLT_CNT_SHED_ENTRY] ++ logRegs

section
variable (s t : State)

theorem hlt_showShed : s.showShed.hlt = s.hlt := by
  unfold State.showShed
  dsimp only
  split
  · rfl
  · exact State.log_hlt _ _ _ _

theorem reg_showShed {a : Nat} (ha : a ∉ shedRegs) : s.showShed.reg a = s.reg a := by
  have hne (b : Nat) (hb : b ∈ shedRegs) : a ≠ b := fun e => ha (e ▸ hb)
  have hlog : a ∉ logRegs := fun hm => ha (List.mem_append_right _ hm)
  have hshown (l : Nat) : ((s.setField Reg.TOP_STATUS 5 4 l).setField Reg.OSC_STATUS 13 12 l).reg a = s.reg a := by
    rw [State.reg_setField_ne _ _ _ _ _ _ (hne _ (by decide)), State.reg_setField_ne _ _ _ _ _ _ (hne _ (by decide))]
  unfold State.showShed
  dsimp only
  split
  · exact hshown _
  · rw [State.reg_log _ _ _ _ _ (by decide) hlog, State.reg_setField_ne _ _ _ _ _ _ (hne _ (by decide)), hshown]

/-- What follows a change of the level changes no state of the health function, and shows in the registers of shedding. -/
theorem hlt_levelChanged : (t.levelChanged s).hlt = s.hlt := by
  unfold State.levelChanged
  split
  · rfl
  · extract_lets risen shed
    have hrisen : risen.hlt = s.hlt := by
      unfold risen
      split <;> rfl
    rw [hlt_noticeHealth, hlt_showShed, State.log_hlt, hrisen]

theorem reg_levelChanged {a : Nat} (ha : a ∉ shedRegs) : (t.levelChanged s).reg a = s.reg a := by
  have hlog : a ∉ logRegs := fun hm => ha (List.mem_append_right _ hm)
  unfold State.levelChanged
  split
  · rfl
  · extract_lets risen shed
    have hrisen : risen.reg a = s.reg a := by
      unfold risen
      split
      · exact s.reg_bump_ne _ _ fun e => ha (e ▸ by decide)
      · rfl
    have hnotice (u : State) : (t.noticeHealth u).reg a = u.reg a := by
      unfold State.noticeHealth
      split <;> rfl
    rw [hnotice, reg_showShed _ ha, State.reg_log _ _ _ _ _ (by decide) hlog, hrisen]

/-- The sensors' readings with a new one; the first reading counts for every sensor. -/
def State.temps (i : Nat) (x : Int) : List Int := (if s.hlt.temps.isEmpty then List.replicate 24 x else s.hlt.temps).set i x

/-- A new reading changes the readings and the registers that show them. -/
theorem readTemp_regs (i : Nat) (x : Int) : ∃ r, s.readTemp i x = { s with regs := r, hlt := { s.hlt with temps := s.temps i x } } := by
  unfold State.readTemp
  extract_lets temps _ read j shown peak raised
  have hraised : ∃ r, raised = { s with regs := r, hlt := { s.hlt with temps := s.temps i x } } := by
    unfold raised
    split
    · exact ⟨_, rfl⟩
    · exact ⟨_, rfl⟩
  obtain ⟨r, hr⟩ := hraised
  rw [hr]
  split
  · exact ⟨_, rfl⟩
  · exact ⟨r, rfl⟩

theorem hlt_readTemp (i : Nat) (x : Int) : (s.readTemp i x).hlt = { s.hlt with temps := s.temps i x } := by
  obtain ⟨r, hr⟩ := readTemp_regs s i x
  rw [hr]

theorem elapsed_readTemp (i : Nat) (x : Int) : (s.readTemp i x).elapsed = s.elapsed := by
  obtain ⟨r, hr⟩ := readTemp_regs s i x
  rw [hr]
  rfl

/-- HLT_THERM shows the overtemperature of the reading. -/
theorem flag_readTemp (i : Nat) (x : Int) : (s.readTemp i x).flag Reg.HLT_THERM 2 = decide (1250 ≤ (s.readTemp i x).junction) := by
  have hj : (s.readTemp i x).junction = ({ s with hlt := { s.hlt with temps := s.temps i x } } : State).junction := by
    unfold State.junction
    rw [hlt_readTemp]
  rw [hj]
  unfold State.readTemp
  extract_lets temps _ read j shown peak raised
  have hshown : shown.flag Reg.HLT_THERM 2 = decide (1250 ≤ j) := State.flag_setFlag_same _ _ _ _ (by decide)
  have hraised : raised.flag Reg.HLT_THERM 2 = shown.flag Reg.HLT_THERM 2 := by
    unfold raised
    split
    · exact State.flag_setReg_ne _ _ _ _ _ (by decide)
    · rfl
  split
  · exact (State.flag_setReg_ne _ _ _ _ _ (by decide)).trans (hraised.trans hshown)
  · exact hraised.trans hshown

/-- A measurement of the core current shows in its two registers only. -/
theorem reg_readCurrent (i : Nat) : (s.readCurrent i).reg Reg.HLT_VCORE_I = satWord i := by
  rw [State.readCurrent, State.reg_maxReg_ne _ _ _ _ (by decide), State.reg_setReg_same]

theorem still_levelChanged : (t.levelChanged s).still = s.still := by
  have hshown (u : State) : u.showShed.still = u.still := by
    unfold State.showShed
    dsimp only
    split
    · rfl
    · exact (Reports.still_submit _ _).trans rfl
  unfold State.levelChanged
  split
  · rfl
  · extract_lets risen shed
    have hrisen : risen.still = s.still := by
      unfold risen
      split <;> rfl
    exact ((Reports.noticeHealth (q := 0) t _).still.trans (hshown _)).trans ((Reports.still_submit _ _).trans hrisen)

theorem elapsed_levelChanged : (t.levelChanged s).elapsed = s.elapsed :=
  State.elapsed_of_tim (congrArg State.tim (still_levelChanged s t) :)
end

section
variable (s : State)

/-- The level at a junction temperature, and one level lower at a time once it is 3 degrees below (R453). -/
def nextLevel (old : Nat) (j : Int) : Nat :=
  if old < (if 1200 ≤ j then 2 else if 1150 ≤ j then 1 else 0) then (if 1200 ≤ j then 2 else if 1150 ≤ j then 1 else 0)
  else if (decide (0 < old) && decide (j < (if old = 2 then 1200 else 1150) - 30)) = true then old - 1 else old

theorem exec_thermalLevelChange (i : Nat) (x : Int) : exec (.thermalLevelChange i x) s = answer (s.levelChanged
    { s.readTemp i x with hlt := { (s.readTemp i x).hlt with thermLevel := nextLevel s.hlt.thermLevel (s.readTemp i x).junction } }) := rfl

theorem exec_thermalLevelChange_level (i : Nat) (x : Int) : ∃ t, exec (.thermalLevelChange i x) s = .next t
    ∧ t.hlt = { (s.readTemp i x).hlt with thermLevel := nextLevel s.hlt.thermLevel (s.readTemp i x).junction } := by
  rw [exec_thermalLevelChange]
  refine ⟨_, rfl, ?_⟩
  rw [State.showHealth_hlt, hlt_levelChanged]

/-- The event of an overtemperature (R454). -/
def State.logOvertemp (i : Nat) : State := s.log 0x1509 3 (leBytes 1 i ++ leBytes 1 0 ++ leBytes 2 (half16 s.junction))

/-- The error of an overtemperature (R454). -/
def State.overtempError : ErrorRec := { grade := 4, source := s.sourceOf 0x15 0, code := 0x1509, cause := 4, channel := 0, addr := 0 }

theorem exec_overtemp (i : Nat) (x : Int) : exec (.overtemp i x) s = answer
    (if (s.readTemp i x).junction < 1250 then s.readTemp i x
    else ((s.readTemp i x).logOvertemp i).raiseError ((s.readTemp i x).logOvertemp i).overtempError) := rfl

theorem exec_overtemp_below (i : Nat) (x : Int) (hj : (s.readTemp i x).junction < 1250) :
    exec (.overtemp i x) s = .next (s.readTemp i x).showHealth := by
  rw [exec_overtemp, if_pos hj]
  rfl

/-- Showing the health keeps the overtemperature flag. -/
theorem flag_showHealth_therm : s.showHealth.flag Reg.HLT_THERM 2 = s.flag Reg.HLT_THERM 2 := by
  unfold State.showHealth
  rw [State.flag_setField _ _ _ _ _ _ (by decide), if_neg (by decide), State.flag_setReg_ne _ _ _ _ _ (by decide),
    State.flag_setReg_ne _ _ _ _ _ (by decide)]

theorem exec_overtemp_at (i : Nat) (x : Int) (hj : 1250 ≤ (s.readTemp i x).junction) (h4 : s.hlt.e4 = none) :
    ∃ t, exec (.overtemp i x) s = .next t ∧ t.hlt.e4 = some s.elapsed ∧ t.boot.outputsOff = true ∧ t.flag Reg.HLT_THERM 2 = true := by
  have hlogged : Reports 0 (s.readTemp i x) ((s.readTemp i x).logOvertemp i) := .log _ _ _ _ (by decide)
  have hlog4 : ((s.readTemp i x).logOvertemp i).hlt.e4 = none := by
    rw [State.logOvertemp, State.log_hlt, hlt_readTemp]
    exact h4
  obtain ⟨hbegun, hoff⟩ := State.raiseError_of_grade4 (e := ((s.readTemp i x).logOvertemp i).overtempError) rfl hlog4
  rw [exec_overtemp, if_neg (not_lt.mpr hj)]
  refine ⟨_, rfl, ?_, hoff, ?_⟩
  · rw [← elapsed_readTemp s i x, ← hlogged.elapsed]
    exact hbegun
  · rw [flag_showHealth_therm, State.flag_congr (reg_raiseError_grade4 _ _ rfl (by decide)) 2, State.logOvertemp,
      State.flag_log _ _ _ _ _ _ (by decide) (by decide), flag_readTemp, decide_eq_true hj]

/-! #### The current limit (R456) -/

/-- The state in which the current limit forces level 1. -/
def State.forceLevel (i : Nat) : State :=
  if s.hlt.currentLevel then s.readCurrent i
  else s.levelChanged (({ s.readCurrent i with hlt := { (s.readCurrent i).hlt with currentLevel := true } } : State).log 0x150B 2 (leBytes 4 i))

theorem hlt_forceLevel (i : Nat) : (s.forceLevel i).hlt = { s.hlt with currentLevel := true } := by
  unfold State.forceLevel
  split
  · rename_i hforced
    change s.hlt = _
    rw [← hforced]
  · rw [hlt_levelChanged, State.log_hlt]
    rfl

theorem reg_forceLevel (i : Nat) : (s.forceLevel i).reg Reg.HLT_VCORE_I = satWord i := by
  unfold State.forceLevel
  split
  · exact reg_readCurrent s i
  · rw [reg_levelChanged _ _ (by decide), State.reg_log _ _ _ _ _ (by decide) (by decide)]
    exact reg_readCurrent s i

theorem elapsed_forceLevel (i : Nat) : (s.forceLevel i).elapsed = s.elapsed := by
  unfold State.forceLevel
  split
  · rfl
  · rw [elapsed_levelChanged]
    exact (Reports.log (q := 0) _ _ _ _ (by decide)).elapsed

/-- The error of a current above 72 A (R456). -/
def State.currentError : ErrorRec := { grade := 4, source := s.sourceOf 0x15 0, code := 0x150B, cause := 5, channel := 0, addr := 0 }

theorem exec_currentLimit (i : Nat) : exec (.currentLimit i) s = answer
    (if i ≤ 6800 then s.readCurrent i else if 7200 < i then (s.forceLevel i).raiseError (s.forceLevel i).currentError else s.forceLevel i) := rfl

theorem exec_currentLimit_forced (i : Nat) (hlow : 6800 < i) (hhigh : i ≤ 7200) : ∃ t, exec (.currentLimit i) s = .next t
    ∧ t.hlt.currentLevel = true ∧ t.hlt.e4 = s.hlt.e4 ∧ t.reg Reg.HLT_VCORE_I = satWord i ∧ 1 ≤ t.shedLevel := by
  rw [exec_currentLimit, if_neg (by omega), if_neg (by omega)]
  have hhlt : (s.forceLevel i).showHealth.hlt = { s.hlt with currentLevel := true } := hlt_forceLevel s i
  refine ⟨_, rfl, ?_, ?_, (State.reg_showHealth_ne _ _ (by decide)).trans (reg_forceLevel s i), ?_⟩
  · rw [hhlt]
  · rw [hhlt]
  · rw [State.shedLevel, hhlt]
    exact le_max_right _ _

theorem exec_currentLimit_over (i : Nat) (hhigh : 7200 < i) (h4 : s.hlt.e4 = none) : ∃ t, exec (.currentLimit i) s = .next t
    ∧ t.hlt.currentLevel = true ∧ t.hlt.e4 = some s.elapsed ∧ t.boot.outputsOff = true := by
  have hfirst : (s.forceLevel i).hlt.e4 = none := by
    rw [hlt_forceLevel]
    exact h4
  obtain ⟨hbegun, hoff⟩ := State.raiseError_of_grade4 (e := (s.forceLevel i).currentError) rfl hfirst
  rw [elapsed_forceLevel] at hbegun
  rw [exec_currentLimit, if_neg (by omega), if_pos hhigh]
  refine ⟨_, rfl, ?_, hbegun, hoff⟩
  exact (forced_raiseError_grade4 _ _ rfl).trans (congrArg HltState.currentLevel (hlt_forceLevel s i))

theorem exec_currentLimit_below (i : Nat) (hlow : i ≤ 6800) : ∃ t, exec (.currentLimit i) s = .next t ∧ t.hlt = s.hlt
    ∧ t.reg Reg.HLT_VCORE_I = satWord i := by
  rw [exec_currentLimit, if_pos hlow]
  exact ⟨_, rfl, rfl, (State.reg_showHealth_ne _ _ (by decide)).trans (reg_readCurrent s i)⟩

theorem exec_currentLimitClear (i : Nat) (hlow : i < 6400) : ∃ t, exec (.currentLimitClear i) s = .next t ∧ t.hlt.currentLevel = false
    ∧ t.hlt.thermLevel = s.hlt.thermLevel := by
  cases hforced : s.hlt.currentLevel with
  | false => exact ⟨_, congrArg answer (if_neg (by simp [hforced])), hforced, rfl⟩
  | true =>
    have hexec : exec (.currentLimitClear i) s = answer (s.levelChanged { s.readCurrent i with hlt := { s.hlt with currentLevel := false } }) :=
      congrArg answer (if_pos (by simp [hforced, hlow]))
    rw [hexec]
    exact ⟨_, rfl, (congrArg HltState.currentLevel (hlt_levelChanged _ _) :), (congrArg HltState.thermLevel (hlt_levelChanged _ _) :)⟩

/-! #### The DRAM temperature (R457) -/

/-- A reading shows in the status of its channel. -/
theorem field_setField_status {c : Nat} (x : Int) : (s.setField (Reg.MEM_CH_STATUS c) 31 16 (half16 x)).field (Reg.MEM_CH_STATUS c) 31 16 = half16 x % 65536 :=
  State.field_setField_same _ _ _ _ _ (by decide)

theorem memStatus_block {c : Nat} (hc : c < 2) : Reg.MEM_CH_STATUS c / 0x100000 = 21 := by
  simp only [Reg.MEM_CH_STATUS]
  omega

theorem memStatus_quiet {c : Nat} (hc : c < 2) : Reg.MEM_CH_STATUS c ∉ logRegs ∧ Reg.MEM_CH_STATUS c ∉ healthRegs := by
  have hlog : ∀ b ∈ logRegs, b / 0x100000 ≠ 21 := by decide
  exact ⟨fun hm => hlog _ hm (memStatus_block hc), not_mem_healthRegs_of_block (by rw [memStatus_block hc]; decide)⟩

theorem exec_dramTempCheck_hot (c : Nat) (x : Int) (hc : c < 2) (hlen : s.hlt.chanHot.length = 2) (hcool : s.hlt.chanHot.getD c false = false)
    (hlow : 850 < x) (hhigh : x ≤ 950) : ∃ t, exec (.dramTempCheck c x) s = .next t ∧ t.hlt.chanHot.getD c false = true
      ∧ t.flag (Reg.MEM_CH_STATUS c) 1 = true ∧ t.field (Reg.MEM_CH_STATUS c) 31 16 = half16 x % 65536 := by
  change ∃ t, execDramTempCheck c x s = _ ∧ _
  unfold execDramTempCheck
  extract_lets now since passed shown _ read hot set warned checked
  have hlog := memStatus_quiet hc
  have hwarned : warned = (set read true).log 0x1602 1 (leBytes 1 c ++ leBytes 1 0 ++ leBytes 2 (half16 x)) :=
    if_pos (by simp [hlow, show hot = false from hcool])
  have hchecked : checked = warned := if_neg (by simp [Int.not_lt.mpr hhigh])
  have hflag : (set read true).flag (Reg.MEM_CH_STATUS c) 1 = true := State.flag_setFlag_same _ _ _ _ (by decide)
  have hfield : (set read true).field (Reg.MEM_CH_STATUS c) 31 16 = half16 x % 65536 :=
    (State.field_setField_disjoint _ _ _ _ _ _ _ (by decide) (by decide)).trans (field_setField_status s x)
  refine ⟨_, rfl, ?_, ?_, ?_⟩
  · rw [State.showHealth_hlt, State.showHealth_hlt, hchecked, hwarned, State.log_hlt]
    change (s.hlt.chanHot.set c true).getD c false = true
    simp [List.getD_eq_getElem?_getD, hlen, hc]
  · rw [State.flag_showHealth_ne _ _ _ hlog.2, State.flag_showHealth_ne _ _ _ hlog.2, hchecked, hwarned,
      State.flag_log _ _ _ _ _ _ (by decide) hlog.1, hflag]
  · rw [State.field_showHealth_ne _ _ _ _ hlog.2, State.field_showHealth_ne _ _ _ _ hlog.2, hchecked, hwarned,
      State.field_log _ _ _ _ _ _ _ (by decide) hlog.1, hfield]

theorem exec_dramTempCheck_mild (c : Nat) (x : Int) (hc : c < 2) (hlow : x ≤ 850) (hcool : 820 ≤ x) :
    ∃ t, exec (.dramTempCheck c x) s = .next t ∧ t.hlt.chanHot = s.hlt.chanHot ∧ t.field (Reg.MEM_CH_STATUS c) 31 16 = half16 x % 65536 := by
  change ∃ t, execDramTempCheck c x s = _ ∧ _
  unfold execDramTempCheck
  extract_lets now since passed shown _ read hot set warned checked
  have hlog := memStatus_quiet hc
  have hpassed : passed read.hlt.coolSince = false := by
    have hsince : read.hlt.coolSince = s.hlt.coolSince.set c none := by
      change List.set _ _ (if decide (x < 820) = true then _ else none) = _
      rw [if_neg (by simpa using hcool)]
      rfl
    have hnone : (read.hlt.coolSince[c]?).bind id = none := by
      rw [hsince, List.getElem?_set]
      simp
    unfold passed
    rw [hnone]
  have hwarned : warned = read := (if_neg (by simp [Int.not_lt.mpr hlow])).trans (if_neg (by simp [hpassed]))
  have hchecked : checked = warned := if_neg (by simp [show ¬(950 < x) by omega])
  refine ⟨_, rfl, ?_, ?_⟩
  · rw [State.showHealth_hlt, State.showHealth_hlt, hchecked, hwarned]
    rfl
  · rw [State.field_showHealth_ne _ _ _ _ hlog.2, State.field_showHealth_ne _ _ _ _ hlog.2, hchecked, hwarned]
    exact field_setField_status s x
end

/-- Settles O49: what follows a change of level keeps the health state, so each command ends with the level that it set. -/
theorem thermalAndCurrent : Obligations.ThermalAndCurrent := by
  refine ⟨?_, exec_overtemp_below, exec_overtemp_at, exec_currentLimit_forced, exec_currentLimit_over,
    exec_currentLimit_below, exec_currentLimitClear, exec_dramTempCheck_hot, exec_dramTempCheck_mild⟩
  intro s i x j want
  obtain ⟨t, ht, hhlt⟩ := exec_thermalLevelChange_level s i x
  have hlevel : t.hlt.thermLevel = nextLevel s.hlt.thermLevel j := by rw [hhlt]
  refine ⟨t, ht, by rw [hhlt], fun hrise => ?_, fun hwant hpos hleave => ?_, fun hwant hstay => ?_⟩
  · exact hlevel.trans (if_pos hrise)
  · exact hlevel.trans ((if_neg (Nat.not_lt.mpr hwant)).trans (if_pos (by simp [hpos, hleave])))
  · exact hlevel.trans ((if_neg (Nat.not_lt.mpr hwant)).trans (if_neg (by simp [Int.not_lt.mpr hstay])))

/-! ### Performance counters (R458 to R461) -/

section
variable (s : State)

theorem exec_pmcRun (run : Bool) : ∃ t, exec (.pmcRun run) s = .next t ∧ t.flag Reg.PMC_CTRL 0 = run
    ∧ ∀ a, a ≠ Reg.PMC_CTRL → a ∉ healthRegs → t.reg a = s.reg a := by
  refine ⟨_, rfl, ?_, fun a ha hhealth => ?_⟩
  · rw [State.flag_showHealth_ne _ _ _ (by decide), State.flag_setFlag_same _ _ _ _ (by decide)]
  · rw [State.reg_showHealth_ne _ _ hhealth, State.reg_setFlag_ne _ _ _ _ _ ha]

/-- Registers that a filter drops read their reset values, and the others read as before. -/
theorem smGet_filter {α : Type} (d : Nat → α) (p : Nat → Bool) (m : List (Nat × α)) (a : Nat) :
    smGet d (m.filter fun x => !p x.1) a = if p a then d a else smGet d m a := by
  have hget : kvGet (m.filter fun x => !p x.1) a = if p a then none else kvGet m a := by
    induction m with
    | nil => simp [kvGet]
    | cons x m ih =>
      by_cases hx : x.1 = a
      · subst hx
        cases hp : p x.1 <;> simp [kvGet, hp, ih]
      · cases hp : p x.1 <;> simp [kvGet, hp, Ne.symm hx, ih]
  rw [smGet, smGet, hget]
  split <;> rfl

theorem exec_pmcClear : ∃ t, exec .pmcClear s = .next t ∧ ∀ a, a ∉ healthRegs → t.reg a = if pmcCounter a then regReset a else s.reg a :=
  ⟨_, rfl, fun a ha => (State.reg_showHealth_ne _ a ha).trans (smGet_filter regReset pmcCounter s.regs a)⟩

theorem exec_pmcSample_off (r : SampleRec) (hoff : s.flag Reg.PMC_SAMPLE_CTRL 0 = false) : exec (.pmcSample r) s = .next s.showHealth :=
  congrArg answer (if_neg (Bool.eq_false_iff.mp hoff))

theorem length_sampleBytes (n : Nat) (r : SampleRec) : (sampleBytes n r).length = 32 := by
  simp [sampleBytes, padTo, bytesAt]

/-- Where the next sample goes in the ring. -/
def State.sampleAt : Nat := s.pair Reg.PMC_SAMPLE_BASE_LO Reg.PMC_SAMPLE_BASE_HI
  + s.pair Reg.PMC_SAMPLE_WRIDX_LO Reg.PMC_SAMPLE_WRIDX_HI % max 1 (s.reg Reg.PMC_SAMPLE_DEPTH).toNat * 32

/-- The state with a sample in the ring. -/
def State.sampled (r : SampleRec) : State := (s.writeDram s.sampleAt (sampleBytes s.now r)).setPair Reg.PMC_SAMPLE_WRIDX_LO Reg.PMC_SAMPLE_WRIDX_HI
  (s.pair Reg.PMC_SAMPLE_WRIDX_LO Reg.PMC_SAMPLE_WRIDX_HI + 1)

theorem exec_pmcSample (r : SampleRec) : exec (.pmcSample r) s = answer (if s.flag Reg.PMC_SAMPLE_CTRL 0 then s.sampled r else s) := rfl

theorem dramByte_sampled (r : SampleRec) (a : Nat) : (s.sampled r).showHealth.dramByte a
    = if s.sampleAt ≤ a ∧ a < s.sampleAt + (sampleBytes s.now r).length then (sampleBytes s.now r).getD (a - s.sampleAt) 0 else s.dramByte a := by
  have hdram : (s.sampled r).showHealth.dram = (s.writeDram s.sampleAt (sampleBytes s.now r)).dram := by
    rw [State.showHealth_dram, State.sampled, State.setPair_dram]
  rw [State.dramByte, hdram]
  exact s.dramByte_writeDram _ a _

theorem exec_pmcSample_on (r : SampleRec) (hon : s.flag Reg.PMC_SAMPLE_CTRL 0 = true)
    (hidx : s.pair Reg.PMC_SAMPLE_WRIDX_LO Reg.PMC_SAMPLE_WRIDX_HI + 1 < 2 ^ 64) :
    ∃ t, exec (.pmcSample r) s = .next t
      ∧ t.pair Reg.PMC_SAMPLE_WRIDX_LO Reg.PMC_SAMPLE_WRIDX_HI = s.pair Reg.PMC_SAMPLE_WRIDX_LO Reg.PMC_SAMPLE_WRIDX_HI + 1
      ∧ ∀ a, let at_ := s.pair Reg.PMC_SAMPLE_BASE_LO Reg.PMC_SAMPLE_BASE_HI
            + s.pair Reg.PMC_SAMPLE_WRIDX_LO Reg.PMC_SAMPLE_WRIDX_HI % max 1 (s.reg Reg.PMC_SAMPLE_DEPTH).toNat * 32
          t.dramByte a = if at_ ≤ a ∧ a < at_ + (sampleBytes s.now r).length then (sampleBytes s.now r).getD (a - at_) 0 else s.dramByte a := by
  rw [exec_pmcSample, if_pos hon]
  refine ⟨_, rfl, ?_, dramByte_sampled s r⟩
  rw [pair_congr _ (State.reg_showHealth_ne _ _ (by decide)) (State.reg_showHealth_ne _ _ (by decide)), State.sampled, pair_setPair_same _ _ (by decide),
    Nat.mod_eq_of_lt hidx]
end

/-- Settles O50: clearing drops the counters from the register map, and a sample is one write of DRAM. -/
theorem performanceCounters : Obligations.PerformanceCounters :=
  ⟨exec_pmcRun, exec_pmcClear, exec_pmcSample_on, exec_pmcSample_off, fun s => length_sampleBytes s.now⟩

end Sys2Proof.Machine
end

section
/-!
PROOFS of the statements on key operations and on the event recorder.
-/
namespace Sys2Proof.Machine

/-! ### Requests to the Caddy (R397) -/

section
variable (s : State) {r : CaddyReq}

theorem caddyTake_of_room (hroom : s.caddyLoad r.use < (useRoom r.use).2)
    (hfirst : (s.sec.queue.all fun o => (useRoom o.req.use).1 != (useRoom r.use).1) = true) : s.caddyTake r = s.caddyStart r :=
  if_pos (by simpa [hroom] using hfirst)

theorem caddyTake_of_full (hfull : (useRoom r.use).2 ≤ s.caddyLoad r.use) :
    s.caddyTake r = { s with sec := { s.sec with queue := s.sec.queue ++ [CaddyOp.mk r {}] } } :=
  if_neg (by simp [Nat.not_lt.mpr hfull])

theorem caddyStart_of_none (hcheck : s.caddyCheck r = none) :
    s.caddyStart r = ({ s with sec := { s.sec with ops := s.sec.ops ++ [CaddyOp.mk r (s.slot r.slot)] } } : State).showMac := by
  unfold State.caddyStart
  rw [hcheck]

theorem caddyStart_of_some {c : CaddyResult} (hcheck : s.caddyCheck r = some c) : s.caddyStart r = (s.caddyRefuse r c).caddyAnswer r.id c := by
  unfold State.caddyStart
  rw [hcheck]

/-- A refusal keeps the results, the operations and the slots. -/
theorem sec_caddyRefuse (c : CaddyResult) : ∃ d, (s.caddyRefuse r c).sec = { s.sec with denied := d } := by
  unfold State.caddyRefuse
  split
  · exact ⟨_, rfl⟩
  · extract_lets counted logged
    have hlogged : logged.sec = s.sec := counted.log_sec _ _ _
    split
    · exact ⟨_, rfl⟩
    · exact ⟨_, congrArg (fun k : SecState => { k with denied := kvPut k.denied r.slot logged.second }) hlogged⟩

theorem reg_caddyRefuse {c : CaddyResult} (hc : c ≠ .keyStale) :
    (s.caddyRefuse r c).reg Reg.SEC_CNT_DENIED = satWord ((s.reg Reg.SEC_CNT_DENIED).toNat + 1) := by
  unfold State.caddyRefuse
  split
  · exact absurd rfl hc
  · extract_lets counted logged
    have hcounted : counted.reg Reg.SEC_CNT_DENIED = satWord ((s.reg Reg.SEC_CNT_DENIED).toNat + 1) := s.reg_bump_same _
    split
    · exact hcounted
    · exact (counted.reg_log _ _ _ _ (by decide) (by decide)).trans hcounted

theorem exec_caddyRequest_starts (hroom : s.caddyLoad r.use < (useRoom r.use).2)
    (hfirst : (s.sec.queue.all fun o => (useRoom o.req.use).1 != (useRoom r.use).1) = true) (hcheck : s.caddyCheck r = none) :
    ∃ t, exec (.caddyRequest r) s = .next t ∧ t.sec = { s.sec with ops := s.sec.ops ++ [CaddyOp.mk r (s.slot r.slot)] } :=
  ⟨_, congrArg answer ((caddyTake_of_room s hroom hfirst).trans (caddyStart_of_none s hcheck)), rfl⟩

theorem exec_caddyRequest_refused {c : CaddyResult} (hroom : s.caddyLoad r.use < (useRoom r.use).2)
    (hfirst : (s.sec.queue.all fun o => (useRoom o.req.use).1 != (useRoom r.use).1) = true) (hcheck : s.caddyCheck r = some c) :
    ∃ t, exec (.caddyRequest r) s = .next t ∧ t.sec.results = (r.id, c) :: s.sec.results ∧ t.sec.ops = s.sec.ops ∧ t.sec.slots = s.sec.slots
      ∧ (c ≠ .keyStale → t.reg Reg.SEC_CNT_DENIED = satWord ((s.reg Reg.SEC_CNT_DENIED).toNat + 1)) := by
  obtain ⟨d, hsec⟩ := sec_caddyRefuse s (r := r) c
  refine ⟨_, congrArg answer ((caddyTake_of_room s hroom hfirst).trans (caddyStart_of_some s hcheck)), ?_, ?_, ?_, fun hc => ?_⟩
  · exact (congrArg (fun k : SecState => (r.id, c) :: k.results) hsec :)
  · exact (congrArg SecState.ops hsec :)
  · exact (congrArg SecState.slots hsec :)
  · exact (State.reg_showHealth_ne _ _ (by decide)).trans (reg_caddyRefuse s hc)

theorem exec_caddyRequest_waits (hfull : (useRoom r.use).2 ≤ s.caddyLoad r.use) :
    ∃ t, exec (.caddyRequest r) s = .next t ∧ t.sec = { s.sec with queue := s.sec.queue ++ [CaddyOp.mk r {}] } :=
  ⟨_, congrArg answer (caddyTake_of_full s hfull), rfl⟩

/-- The state after an operation has ended with its result. -/
def State.caddyEnded (id : Nat) (o : CaddyOp) : State :=
  (({ s with sec := { s.sec with
      results := (id, CaddyResult.done (s.caddyResult o)) :: s.sec.results, ops := s.sec.ops.erase o, nDraws := s.sec.nDraws + 1 } } : State).bump
    Reg.SEC_CNT_OPS).showMac

theorem caddyFinish_of_empty {id : Nat} {o : CaddyOp} (hfind : s.sec.ops.find? (fun o => o.req.id == id) = some o) (hempty : s.sec.queue = []) :
    s.caddyFinish id = s.caddyEnded id o := by
  unfold State.caddyFinish
  rw [hfind]
  change State.caddyNext s.sec.queue.length (s.caddyEnded id o) = _
  rw [hempty]
  rfl

theorem exec_caddyOpDone {id : Nat} {o : CaddyOp} (hfind : s.sec.ops.find? (fun o => o.req.id == id) = some o) (hempty : s.sec.queue = []) :
    ∃ t, exec (.caddyOpDone id) s = .next t ∧ t.sec.results = (id, CaddyResult.done (s.caddyResult o)) :: s.sec.results
      ∧ t.sec.ops = s.sec.ops.erase o ∧ t.reg Reg.SEC_CNT_OPS = satWord ((s.reg Reg.SEC_CNT_OPS).toNat + 1) := by
  refine ⟨_, congrArg answer (caddyFinish_of_empty s hfind hempty), rfl, rfl, ?_⟩
  rw [State.reg_showHealth_ne _ _ (by decide)]
  exact (State.reg_setField_ne _ _ _ _ _ _ (by decide)).trans (State.reg_bump_same _ _)
end

/-! ### Re-derivation (R402, R403) -/

section
variable (s : State) {writer : CaddyMaster} {value : Word}

/-- The state with a slot derived again from its parent. -/
def State.rederived (n : Nat) : State :=
  { s with sec := { s.sec with slots := kvPut s.sec.slots n (deriveFrom s.sec.slots s.uidBytes (s.slot n)) } }

theorem exec_secRederive (hwriter : writer = .host ∨ writer = .sup) (htyp : (s.slot (bitsOf value 8 0)).typ ≠ .empty)
    (hper : (s.slot (bitsOf value 8 0)).rederive = true) : exec (.secRederive writer value) s = answer
      (if s.flag Reg.SEC_STATUS 0 || (s.slot (s.slot (bitsOf value 8 0)).parent.toNat).typ = .empty
          || staleIn s.sec.slots 5 (s.slot (bitsOf value 8 0)).parent.toNat then s.setFlag Reg.SEC_STATUS 3 true
      else (s.rederived (bitsOf value 8 0)).setFlag Reg.SEC_STATUS 2 true) := by
  have hmay : ((writer = .host || writer = .sup) && (s.slot (bitsOf value 8 0)).typ != .empty && (s.slot (bitsOf value 8 0)).rederive) = true := by
    simp [hwriter, htyp, hper]
  exact congrArg answer (if_pos hmay)

variable (hwriter : writer = .host ∨ writer = .sup) (htyp : (s.slot (bitsOf value 8 0)).typ ≠ .empty)
  (hper : (s.slot (bitsOf value 8 0)).rederive = true)
include hwriter htyp hper

theorem exec_secRederive_fresh (htamper : s.flag Reg.SEC_STATUS 0 = false) (hparent : (s.slot (s.slot (bitsOf value 8 0)).parent.toNat).typ ≠ .empty)
    (hstale : staleIn s.sec.slots 5 (s.slot (bitsOf value 8 0)).parent.toNat = false) :
    ∃ t, exec (.secRederive writer value) s = .next t ∧ t.flag Reg.SEC_STATUS 2 = true
      ∧ t.slot (bitsOf value 8 0) = deriveFrom s.sec.slots s.uidBytes (s.slot (bitsOf value 8 0))
      ∧ (t.slot (bitsOf value 8 0)).gen = (s.slot (bitsOf value 8 0)).gen + 1 ∧ ∀ n, n ≠ bitsOf value 8 0 → t.slot n = s.slot n := by
  rw [exec_secRederive s hwriter htyp hper, if_neg (by simp [htamper, hparent, hstale])]
  have hslot (n : Nat) (x : KeySlot) : slotIn (kvPut s.sec.slots n x) n = x := by rw [slotIn, kvGet_kvPut_same]; rfl
  refine ⟨_, rfl, ?_, hslot _ _, congrArg KeySlot.gen (hslot _ _), fun n hn => ?_⟩
  · exact (State.flag_showHealth_ne _ _ _ (by decide)).trans (State.flag_setFlag_same _ _ _ _ (by decide))
  · exact congrArg (fun x : Option KeySlot => x.getD {}) (kvGet_kvPut_ne _ _ _ _ hn)

theorem exec_secRederive_stale (hstale : staleIn s.sec.slots 5 (s.slot (bitsOf value 8 0)).parent.toNat = true) :
    ∃ t, exec (.secRederive writer value) s = .next t ∧ t.flag Reg.SEC_STATUS 3 = true ∧ t.sec = s.sec := by
  rw [exec_secRederive s hwriter htyp hper, if_pos (by simp [hstale])]
  refine ⟨_, rfl, ?_, rfl⟩
  rw [State.flag_showHealth_ne _ _ _ (by decide), State.flag_setFlag_same _ _ _ _ (by decide)]
end

/-! ### KEY_UPDATE (R399) -/

theorem exec_keyUpdate_starts (s : State) (h : CmdHdr) (b : BufContent) (hbuf : bufOk h = true) (hfree : ∀ o, o ∈ s.hif.ops → ∀ m, o.work ≠ .keyUpdate m)
    (hen : s.flag Reg.SEC_CTRL 0 = true) (hroom : s.hif.ops.length < 16) :
    ∃ t, exec (.keyUpdate h b) s = .next t ∧ Started s t h 0x0060 (.keyUpdate (bufBytes b)) 5 ∧ t.flag Reg.SEC_STATUS 4 = true := by
  have hstarted := s.started_startLong h 0x0060 (.keyUpdate (bufBytes b)) true 5 [] hroom
  have hlen := s.length_ops_startLong h 0x0060 (.keyUpdate (bufBytes b)) true 5 [] hroom
  have hexec : exec (.keyUpdate h b) s = answer ((s.startLong h 0x0060 (.keyUpdate (bufBytes b)) true 5 []).setFlag Reg.SEC_STATUS 4 true) := by
    change execKeyUpdate h b s = _
    unfold execKeyUpdate
    rw [if_neg (by simp [hbuf])]
    refine congrArg answer ((if_neg (Bool.eq_false_iff.mp (s.opRunning_eq_false fun o ho => ?_))).trans ((if_neg (by simp [hen])).trans (if_neg hlen)))
    split
    · exact absurd ‹o.work = _› (hfree o ho _)
    · rfl
  rw [hexec]
  refine ⟨_, rfl, hstarted.congr rfl rfl, ?_⟩
  rw [State.flag_showHealth_ne _ _ _ (by decide), State.flag_setFlag_same _ _ _ _ (by decide)]

/-- Settles O43, by the branches of the Caddy's intake, of a re-derivation and of KEY_UPDATE. -/
theorem keyOperations : Obligations.KeyOperations :=
  ⟨fun s _ => exec_caddyRequest_starts s, fun s _ _ => exec_caddyRequest_refused s, fun s _ => exec_caddyRequest_waits s,
    fun s _ _ => exec_caddyOpDone s, fun s _ _ => exec_secRederive_fresh s, fun s _ _ => exec_secRederive_stale s, exec_keyUpdate_starts⟩

/-! ### The event recorder (R296 to R302) -/

section
variable (s : State)

theorem exec_eventCommit {e : Event} {r : List Event} (hrun : s.flag Reg.EVR_STATUS 16 = true) (hhead : s.evr.staging = e :: r) (hlost : s.evr.lost = none) :
    exec .eventCommit s = .next ((({ s with evr := { s.evr with staging := r } } : State).showStaging.commitRecord e).showHealth) := by
  change execEventCommit s = _
  unfold execEventCommit
  rw [hrun, hhead, hlost]
  rfl

theorem exec_eventCommit_lost {e : Event} {r : List Event} {l : LostAcc} (hrun : s.flag Reg.EVR_STATUS 16 = true) (hhead : s.evr.staging = e :: r)
    (hlost : s.evr.lost = some l) : exec .eventCommit s
      = .next ((({ s with evr := { s.evr with staging := s.lostRecord l :: r, lost := none } } : State).showStaging.commitRecord e).showHealth) := by
  change execEventCommit s = _
  unfold execEventCommit
  rw [hrun, hhead, hlost]
  rfl

/-- Registers that making a place may change. -/
def reclaimRegs : List Nat := [Reg.EVR_GEN, Reg.EVR_CNT_RECLAIM, Reg.EVR_ERASE_MAX] ++ logRegs

theorem nextSeq_log (code sev : Nat) (p : List Byte) : (s.log code sev p).evr.nextSeq = s.evr.nextSeq := by
  have hstill : (s.log code sev p).still = s.still := Reports.still_submit s _
  exact (congrArg (fun x : State => x.evr.nextSeq) hstill :)

theorem moveFront_keeps : s.moveFront.evr.nextSeq = s.evr.nextSeq ∧ s.moveFront.regs = s.regs := by
  unfold State.moveFront
  split
  · exact ⟨rfl, rfl⟩
  · split <;> exact ⟨rfl, rfl⟩

theorem reclaim_keeps : s.reclaim.evr.nextSeq = s.evr.nextSeq ∧ ∀ a, a ∉ reclaimRegs → s.reclaim.reg a = s.reg a := by
  unfold State.reclaim
  split
  · rename_i v spare _ _
    extract_lets keep n _ moved erased _ fronted counted worn
    have hne {a b : Nat} (ha : a ∉ reclaimRegs) (hb : b ∈ reclaimRegs) : a ≠ b := fun e => ha (e ▸ hb)
    have hcounted {a : Nat} (ha : a ∉ reclaimRegs) : counted.reg a = s.reg a :=
      (State.reg_bump_ne _ _ _ (hne ha (by decide))).trans (State.reg_bump_ne fronted _ _ (hne ha (by decide)))
    have hcount : counted.evr.nextSeq = s.evr.nextSeq := by
      unfold counted
      rw [State.bump_evr, State.bump_evr]
      rfl
    have hworn : worn.evr.nextSeq = s.evr.nextSeq ∧ ∀ a, a ∉ reclaimRegs → worn.reg a = s.reg a := by
      unfold worn
      split
      · exact ⟨(congrArg EvrState.nextSeq (State.setReg_evr _ _ _)).trans hcount, fun a ha => (State.reg_setReg_ne _ _ _ _ (hne ha (by decide))).trans (hcounted ha)⟩
      · exact ⟨hcount, fun a ha => hcounted ha⟩
    obtain ⟨hseq, hreg⟩ := hworn
    split
    · exact ⟨(nextSeq_log _ _ _ _).trans hseq,
        fun a ha => (State.reg_log _ _ _ _ _ (by decide) fun hm => ha (List.mem_append_right _ hm)).trans (hreg a ha)⟩
    · exact ⟨hseq, hreg⟩
  · exact ⟨rfl, fun _ _ => rfl⟩

/-- Making a place at the write front keeps the sequence numbers. -/
theorem makePlace_keeps : s.makePlace.evr.nextSeq = s.evr.nextSeq ∧ ∀ a, a ∉ reclaimRegs → s.makePlace.reg a = s.reg a := by
  unfold State.makePlace
  extract_lets moved
  obtain ⟨hseq, hregs⟩ : moved.evr.nextSeq = s.evr.nextSeq ∧ moved.regs = s.regs := moveFront_keeps s
  have hreg (a : Nat) : moved.reg a = s.reg a := congrArg (smGet regReset · a) hregs
  split
  · exact ⟨hseq, fun a _ => hreg a⟩
  · obtain ⟨hseq', hreg'⟩ := reclaim_keeps moved
    exact ⟨hseq'.trans hseq, fun a ha => (hreg' a ha).trans (hreg a)⟩

/-- A record copied to a host queue keeps the sequence numbers and the recorder's counters. -/
theorem hostRecord_keeps (r : LogRecord) : (s.hostRecord r).evr.nextSeq = s.evr.nextSeq
    ∧ ∀ a, a / 0x100000 = 12 → a ∉ logRegs → a ≠ Reg.EVR_CNT_QUEUE_LOST → (s.hostRecord r).reg a = s.reg a := by
  unfold State.hostRecord
  split
  · split
    · rename_i t ht
      have hrep := Reports.qOffer ht
      have hq : s.field Reg.EVR_QUEUE 6 0 < 128 := Nat.mod_lt _ (by decide)
      refine ⟨hrep.keeps fun x : State => x.evr.nextSeq, fun a ha hlog _ => hrep.reg a (not_reportReg hlog ?_ ?_ ?_ hq)⟩
      · omega
      · rintro rfl
        exact absurd ha (by decide)
      · omega
    · exact ⟨rfl, fun a _ _ hlost => s.reg_bump_ne _ _ hlost⟩
  · exact ⟨rfl, fun _ _ _ _ => rfl⟩

/-- The state with a record in its place, before it is copied to the host. -/
def State.recorded (r : LogRecord) : State :=
  let f := s.evr.front
  let t := s.setSector f { (s.sector f) with places := (s.sector f).places ++ [.valid r] }
  let t := ({ t with evr := { t.evr with nextSeq := t.evr.nextSeq + 1 } } : State).setReg Reg.EVR_COUNT (Word.ofNat (s.logCount + 1))
  if r.ev.sev = 3 then t.setReg Reg.EVR_SEV3_COUNT (Word.ofNat (t.sev3Count + 1)) else t

theorem programRecord_eq (r : LogRecord) : s.programRecord r = ((s.recorded r).bump Reg.EVR_CNT_WRITTEN).hostRecord r := rfl

theorem recorded_keeps (r : LogRecord) : (s.recorded r).evr.nextSeq = s.evr.nextSeq + 1
    ∧ (s.recorded r).reg Reg.EVR_CNT_WRITTEN = s.reg Reg.EVR_CNT_WRITTEN := by
  unfold State.recorded
  extract_lets f _ placed _ counted
  have hcounted : counted.reg Reg.EVR_CNT_WRITTEN = s.reg Reg.EVR_CNT_WRITTEN := State.reg_setReg_ne _ _ _ _ (by decide)
  split
  · exact ⟨rfl, (State.reg_setReg_ne _ _ _ _ (by decide)).trans hcounted⟩
  · exact ⟨rfl, hcounted⟩

theorem nextSeq_programRecord (r : LogRecord) : (s.programRecord r).evr.nextSeq = s.evr.nextSeq + 1 :=
  (hostRecord_keeps _ r).1.trans (recorded_keeps s r).1

theorem written_programRecord (r : LogRecord) :
    (s.programRecord r).reg Reg.EVR_CNT_WRITTEN = satWord ((s.reg Reg.EVR_CNT_WRITTEN).toNat + 1) := by
  rw [programRecord_eq, (hostRecord_keeps _ r).2 _ (by decide) (by decide) (by decide), State.reg_bump_same, (recorded_keeps s r).2]

/-- Whether the log is full is said by its two counts. -/
theorem logFull_congr {t : State} (hcount : t.reg Reg.EVR_COUNT = s.reg Reg.EVR_COUNT) (hsev : t.reg Reg.EVR_SEV3_COUNT = s.reg Reg.EVR_SEV3_COUNT)
    (sev : Nat) : t.logFull sev = s.logFull sev := by
  unfold State.logFull State.logCount State.sev3Count
  rw [hcount, hsev]

/-- A committed event with room in the log: the next sequence number, counted and shown. -/
theorem commitRecord_of_room (e : Event) (hroom : s.logFull e.sev = false) : (s.commitRecord e).evr.nextSeq = s.evr.nextSeq + 1
    ∧ (s.commitRecord e).reg Reg.EVR_CNT_WRITTEN = satWord ((s.reg Reg.EVR_CNT_WRITTEN).toNat + 1)
    ∧ (s.commitRecord e).reg Reg.EVR_SEQ_NEXT = s.evr.nextSeq + 1 := by
  have hoptime {a : Nat} (ha : a ≠ Reg.EVR_OPTIME) (hb : a ≠ Reg.EVR_PWRCYC) : s.showOptime.reg a = s.reg a := by
    rw [State.showOptime, State.reg_setReg_ne _ _ _ _ hb, State.reg_setReg_ne _ _ _ _ ha]
  have hfull : s.showOptime.logFull e.sev = false :=
    (logFull_congr s (hoptime (by decide) (by decide)) (hoptime (by decide) (by decide)) e.sev).trans hroom
  obtain ⟨hseq, hreg⟩ := makePlace_keeps s.showOptime
  unfold State.commitRecord
  extract_lets shown r _ committed
  have hcommitted : committed = s.showOptime.makePlace.programRecord r := if_neg (Bool.eq_false_iff.mp hfull)
  have hnext : committed.evr.nextSeq = s.evr.nextSeq + 1 := by
    rw [hcommitted, nextSeq_programRecord, hseq]
    rfl
  refine ⟨hnext, ?_, ?_⟩
  · rw [State.showSeqs, State.reg_setReg_ne _ _ _ _ (by decide), State.reg_setReg_ne _ _ _ _ (by decide), hcommitted, written_programRecord,
      hreg _ (by decide), hoptime (by decide) (by decide)]
  · rw [State.showSeqs, State.reg_setReg_same, hnext]

theorem exec_eventCommit_room {e : Event} {r : List Event} (hrun : s.flag Reg.EVR_STATUS 16 = true) (hhead : s.evr.staging = e :: r) (hlost : s.evr.lost = none)
    (hroom : s.logFull e.sev = false) : ∃ t, exec .eventCommit s = .next t ∧ t.evr.nextSeq = s.evr.nextSeq + 1
      ∧ t.reg Reg.EVR_CNT_WRITTEN = satWord ((s.reg Reg.EVR_CNT_WRITTEN).toNat + 1) ∧ t.reg Reg.EVR_SEQ_NEXT = s.evr.nextSeq + 1 := by
  have hstaged {a : Nat} (ha : a ≠ Reg.EVR_STATUS) : ({ s with evr := { s.evr with staging := r } } : State).showStaging.reg a = s.reg a :=
    State.reg_setField_ne _ _ _ _ _ _ ha
  obtain ⟨hseq, hwritten, hnext⟩ := commitRecord_of_room ({ s with evr := { s.evr with staging := r } } : State).showStaging e
    ((logFull_congr s (hstaged (by decide)) (hstaged (by decide)) e.sev).trans hroom)
  rw [hstaged (by decide)] at hwritten
  exact ⟨_, exec_eventCommit s hrun hhead hlost, hseq, (State.reg_showHealth_ne _ _ (by decide)).trans hwritten,
    (State.reg_showHealth_ne _ _ (by decide)).trans hnext⟩

theorem exec_heartbeat_due (hrun : s.flag Reg.EVR_STATUS 16 = true) (hdue : s.evr.lastBeat + 3600000000000 ≤ s.elapsed) :
    ∃ t, exec .heartbeat s = .next t ∧ t.evr.lastBeat = s.elapsed := by
  have hstill : (({ s with evr := { s.evr with lastBeat := s.elapsed } } : State).log 0x0D05 0 []).still
      = ({ s with evr := { s.evr with lastBeat := s.elapsed } } : State).still := Reports.still_submit _ _
  refine ⟨_, congrArg answer (if_pos (by simp [hrun, hdue])), ?_⟩
  exact (congrArg (fun x : State => x.evr.lastBeat) hstill :)

/-- The bytes of the record of a sequence number, or none. -/
def State.recordBytes (q : Word) : List Byte :=
  match s.logRecords.find? (fun r => r.seq == q) with
  | some r => r.bytes
  | none => []

/-- The sixteen words of a record in the read window (R302). -/
def State.showRecord (b : List Byte) : State :=
  (List.range 16).foldl (fun (s : State) i => s.setReg (Reg.EVR_RD_DATA i) (Word.ofNat (natAt b (4 * i) 4))) s

theorem exec_evrRdSeq (q : Word) : exec (.evrRdSeq q) s = answer (((s.setReg Reg.EVR_RD_SEQ q).showRecord (s.recordBytes q)).setField Reg.EVR_RD_STATUS 1 0
    (bit (s.logRecords.find? fun r => r.seq == q).isSome + 2)) := by
  have hrecords : (s.setReg Reg.EVR_RD_SEQ q).logRecords = s.logRecords := by
    unfold State.logRecords
    rw [State.setReg_evr]
  have hbytes : (s.setReg Reg.EVR_RD_SEQ q).recordBytes q = s.recordBytes q := by
    unfold State.recordBytes
    rw [hrecords]
  rw [← hbytes, ← hrecords]
  rfl

theorem evr_showRecord (b : List Byte) : (s.showRecord b).evr = s.evr :=
  foldl_keeps _ State.evr (fun t i => t.setReg_evr (Reg.EVR_RD_DATA i) (Word.ofNat (natAt b (4 * i) 4))) _ s

theorem reg_showRecord_ne (b : List Byte) {a : Nat} (ha : ∀ i < 16, a ≠ Reg.EVR_RD_DATA i) : (s.showRecord b).reg a = s.reg a :=
  foldl_keeps_mem _ (fun t : State => t.reg a) _ (fun t i hi => t.reg_setReg_ne _ _ _ (ha i (List.mem_range.mp hi))) s

theorem reg_showRecord_data (b : List Byte) {i : Nat} (hi : i < 16) :
    (s.showRecord b).reg (Reg.EVR_RD_DATA i) = Word.ofNat (natAt b (4 * i) 4) := by
  refine foldl_sets_mem (p := fun t : State => t.reg (Reg.EVR_RD_DATA i)) (List.mem_range.mpr hi) (fun t => t.reg_setReg_same _ _) (fun t k _ hk => ?_) s
  refine t.reg_setReg_ne _ _ _ ?_
  simp only [Reg.EVR_RD_DATA]
  omega

theorem exec_evrRdSeq_shows (q : Word) : ∃ t, exec (.evrRdSeq q) s = .next t ∧ t.reg Reg.EVR_RD_SEQ = q ∧ t.evr = s.evr
    ∧ t.field Reg.EVR_RD_STATUS 1 0 = bit (s.logRecords.find? (fun r => r.seq == q)).isSome + 2
    ∧ ∀ i, i < 16 → t.reg (Reg.EVR_RD_DATA i) = Word.ofNat (natAt (s.recordBytes q) (4 * i) 4) := by
  have hdata {i : Nat} (hi : i < 16) : Reg.EVR_RD_DATA i ≠ Reg.EVR_RD_STATUS ∧ Reg.EVR_RD_DATA i ∉ healthRegs := by
    refine ⟨?_, not_mem_healthRegs_of_block ?_⟩
    · simp only [Reg.EVR_RD_DATA, Reg.EVR_RD_STATUS]
      omega
    · simp only [Reg.EVR_RD_DATA]
      omega
  have hseq : ∀ i < 16, Reg.EVR_RD_SEQ ≠ Reg.EVR_RD_DATA i := by decide
  refine ⟨_, exec_evrRdSeq s q, ?_, ?_, ?_, fun i hi => ?_⟩
  · rw [State.reg_showHealth_ne _ _ (by decide), State.reg_setField_ne _ _ _ _ _ _ (by decide), reg_showRecord_ne _ _ hseq, State.reg_setReg_same]
  · rw [State.showHealth_evr, State.setField_evr, evr_showRecord, State.setReg_evr]
  · have hbit (b : Bool) : (bit b + 2) % 2 ^ (1 + 1 - 0) = bit b + 2 := by cases b <;> rfl
    rw [State.field_showHealth_ne _ _ _ _ (by decide), State.field_setField_same _ _ _ _ _ (by decide), hbit]
  · rw [State.reg_showHealth_ne _ _ (hdata hi).2, State.reg_setField_ne _ _ _ _ _ _ (hdata hi).1, reg_showRecord_data _ _ hi]

theorem stageEvent_of_room (e : Event) (hroom : s.evr.staging.length < 512) :
    (s.stageEvent e).evr.staging = s.evr.staging ++ [e] ∧ (s.stageEvent e).evr.lost = s.evr.lost := by
  have hstaged : s.stageEvent e = ({ s with evr := { s.evr with staging := s.evr.staging ++ [e] } } : State).showStaging := if_pos hroom
  rw [hstaged]
  exact ⟨rfl, rfl⟩
end

/-- Settles O33: making a place and copying to the host keep the sequence numbers, so a record programmed takes exactly one. -/
theorem eventRecorder : Obligations.EventRecorder :=
  ⟨fun s _ _ => exec_eventCommit s, fun s _ _ => exec_eventCommit_room s, fun s _ _ _ => exec_eventCommit_lost s, nextSeq_programRecord,
    exec_heartbeat_due, exec_evrRdSeq_shows, stageEvent_of_room⟩

end Sys2Proof.Machine
end

section
/-!
PROOFS of the statements on the host link, the read aperture and the host's queues.
-/
namespace Sys2Proof.Machine

/-! ### The host link (R328, R332) -/

/-- The general registers and counters of the host interface show no report. -/
theorem not_reportReg_hif {q a : Nat} (hlo : 0xE00008 ≤ a) (hhi : a < 0xE01000) (hq : q < 128) : ¬ReportReg q a := by
  have hlog : ∀ b ∈ logRegs, b / 0x100000 ≠ 14 := by decide
  refine not_reportReg (fun hm => hlog a hm (by omega)) (by omega) ?_ (.inl hhi) hq
  rintro rfl
  exact absurd hlo (by decide)

section
variable (s : State)

theorem reg_withHif (x : HifState) (a : Nat) : ({ s with hif := x } : State).reg a = s.reg a := rfl

/-- An emptied queue shows in its own registers. -/
theorem reg_qEmpty {a : Nat} (q : Nat) (ha : a < 0xE01000) : (s.qEmpty q).reg a = s.reg a := by
  unfold State.qEmpty State.showOpen
  dsimp only
  rw [State.reg_setFlag_ne _ _ _ _ _ (by simp only [Reg.HIF_Q_STATUS]; omega), State.reg_bumpBy_ne _ _ _ _ (by simp only [Reg.HIF_Q_CNT_LOST]; omega)]
  rfl

theorem reg_hostCleared {a : Nat} (hlo : 0xE00008 ≤ a) (hhi : a < 0xE01000) : s.hostCleared.reg a = s.reg a := by
  unfold State.hostCleared
  extract_lets emptied disabled
  have hemptied : emptied.reg a = s.reg a := foldl_keeps _ (fun t : State => t.reg a) (fun t q => reg_qEmpty t q hhi) _ s
  have hring (t : State) (b : Nat) (hb : b < 0xE00000) : (t.setFlag b 0 false).reg a = t.reg a := t.reg_setFlag_ne _ _ _ _ (by omega)
  have hdisabled : disabled.reg a = emptied.reg a := by
    refine foldl_keeps_mem _ (fun t : State => t.reg a) _ (fun t p hp => ?_) emptied
    rw [List.mem_range] at hp
    refine (foldl_keeps_mem _ (fun t : State => t.reg a) _ (fun u r hr => ?_) _).trans (foldl_keeps_mem _ (fun t : State => t.reg a) _ (fun u r hr => ?_) t)
    all_goals rw [List.mem_range] at hr
    · exact hring u _ (by simp only [Reg.SPT_TXR_CTRL]; omega)
    · exact hring u _ (by simp only [Reg.SPT_RXR_CTRL]; omega)
  rw [State.reg_setFlag_ne _ _ _ _ _ (by simp only [Reg.HIF_STATUS]; omega)]
  exact (reg_withHif _ _ _).trans (hdisabled.trans hemptied)

/-- The loss of the host leaves the general registers and counters of the host interface. -/
theorem reg_hostLost {a : Nat} (hlo : 0xE00008 ≤ a) (hhi : a < 0xE01000) : s.hostLost.reg a = s.reg a := by
  have hflush (n : Nat) (u : State) : (State.flushQ1 n u).reg a = u.reg a := (Reports.flushQ1 n u).reg a (not_reportReg_hif hlo hhi (by decide))
  rw [State.hostLost_eq, hflush, reg_hostCleared s hlo hhi]

theorem exec_pcieLinkDown_up (hup : s.flag Reg.HIF_STATUS 0 = true) : ∃ t, exec .pcieLinkDown s = .next t ∧ t.flag Reg.HIF_STATUS 0 = false
    ∧ t.hif.busMaster = false ∧ t.field Reg.HIF_STATUS 4 2 = 0 ∧ t.reg Reg.HIF_CNT_LINK_DOWN = satWord ((s.reg Reg.HIF_CNT_LINK_DOWN).toNat + 1) := by
  obtain ⟨-, hmaster, hdown⟩ := State.hostLinkLost_of_up hup
  have hlost : s.hostLinkLost = ((((((s.log 0x0F01 1 s.linkShape).bump Reg.HIF_CNT_LINK_DOWN).hostLost).setFlag Reg.HIF_STATUS 0 false).setField
      Reg.HIF_STATUS 4 2 0).setField Reg.HIF_STATUS 11 8 0) := if_neg (by simp [hup])
  refine ⟨_, rfl, (State.flag_showHealth_ne _ _ _ (by decide)).trans hdown, hmaster, ?_, ?_⟩
  · rw [State.field_showHealth_ne _ _ _ _ (by decide), hlost, State.field_setField_disjoint _ _ _ _ _ _ _ (by decide) (by decide),
      State.field_setField_same _ _ _ _ _ (by decide), Nat.zero_mod]
  · rw [State.reg_showHealth_ne _ _ (by decide), hlost, State.reg_setField_ne _ _ _ _ _ _ (by decide), State.reg_setField_ne _ _ _ _ _ _ (by decide),
      State.reg_setFlag_ne _ _ _ _ _ (by decide), reg_hostLost _ (by decide) (by decide), State.reg_bump_same,
      State.reg_log _ _ _ _ _ (by decide) (by decide)]

/-- A link that trains: its bits, and the speed and width that the partner decides. -/
def State.linkTrained : State :=
  let t := ({ s with hif := { s.hif with busMaster := true } } : State).setFlag Reg.HIF_STATUS 1 true
  let w := t.freshWord
  let u := ((t.useFree 1).setFlag Reg.HIF_STATUS 0 true).setFlag Reg.SYS_CLK_STATUS 3 true
  (u.setField Reg.HIF_STATUS 4 2 (1 + bitsOf w 1 0)).setField Reg.HIF_STATUS 11 8 (2 ^ bitsOf w 3 2)

theorem exec_pcieLinkUp_down (hdown : s.flag Reg.HIF_STATUS 0 = false) :
    ∃ t, exec .pcieLinkUp s = .next t ∧ t.flag Reg.HIF_STATUS 0 = true ∧ t.hif.busMaster = true := by
  have hstill : (({ s with hif := { s.hif with busMaster := true } } : State).setFlag Reg.HIF_STATUS 1 true).flag Reg.HIF_STATUS 0 = false := by
    rw [State.setFlag, State.flag_setField _ _ _ _ _ _ (by decide), if_neg (by decide)]
    exact hdown
  have hexec : exec .pcieLinkUp s = answer (s.linkTrained.log 0x0F02 0 s.linkTrained.linkShape) := congrArg answer (if_neg (Bool.eq_false_iff.mp hstill))
  have hflag : s.linkTrained.flag Reg.HIF_STATUS 0 = true := by
    unfold State.linkTrained
    dsimp only
    rw [State.flag_setField _ _ _ _ _ _ (by decide), if_neg (by decide), State.flag_setField _ _ _ _ _ _ (by decide), if_neg (by decide), State.setFlag,
      State.setField, State.flag_setReg_ne _ _ _ _ _ (by decide), State.flag_setFlag_same _ _ _ _ (by decide)]
  refine ⟨_, hexec, ?_, ?_⟩
  · rw [State.flag_showHealth_ne _ _ _ (by decide), State.flag_log _ _ _ _ _ _ (by decide) (by decide), hflag]
  · rw [State.showHealth_hif, State.log_hif]
    rfl

theorem exec_hostReset (kind : HostResetKind) : ∃ t, exec (.hostReset kind) s = .next t ∧ t.hif.busMaster = false
    ∧ t.reg Reg.HIF_CNT_FLR = satWord ((s.reg Reg.HIF_CNT_FLR).toNat + 1) := by
  have hcount : (s.hostLost.bump Reg.HIF_CNT_FLR).reg Reg.HIF_CNT_FLR = satWord ((s.reg Reg.HIF_CNT_FLR).toNat + 1) := by
    rw [State.reg_bump_same, reg_hostLost s (by decide) (by decide)]
  refine ⟨_, rfl, ?_, ?_⟩
  · rw [State.showHealth_hif, State.log_hif]
    exact s.hostLost_busMaster
  · rw [State.reg_showHealth_ne _ _ (by decide), State.reg_log _ _ _ _ _ (by decide) (by decide)]
    exact (reg_withHif _ _ _).trans hcount

/-! ### The read aperture (R331) -/

/-- The address in DRAM of an offset of the aperture. -/
def State.aperAt (offset : Nat) : Nat := s.pair Reg.HIF_APER_BASE_LO Reg.HIF_APER_BASE_HI + offset

/-- Bytes that the aperture hides: past the memory, or secret. -/
def State.aperHidden (a len : Nat) : Bool := decide (Config.dramMiB * 2 ^ 20 < a + len) || (List.range len).any fun i => s.secretAt (a + i)

/-- Bytes of a held block. -/
def State.aperPoisoned (a len : Nat) : Bool := s.hif.aperHeld.any fun r => decide (r.1 < a + len) && decide (a < r.1 + r.2.1)

theorem exec_apertureRead (offset len : Nat) : exec (.apertureRead offset len) s = answer
    (if s.aperHidden (s.aperAt offset) len then ({ s with readData := readWords (List.replicate len 0) } : State).bump Reg.HIF_CNT_APER_ZERO
    else if s.aperPoisoned (s.aperAt offset) len then
      (({ s with readData := readWords (List.replicate len 0xFF) } : State).bump Reg.HIF_CNT_APER_POISON).log 0x0F05 2 (leBytes 8 offset)
    else { (s.seeDram (s.aperAt offset) len).1 with readData := readWords (s.seeDram (s.aperAt offset) len).2 }) := rfl

theorem aperHidden_of_seen {a len : Nat} (hfits : a + len ≤ Config.dramMiB * 2 ^ 20) (hopen : ∀ i, i < len → s.secretAt (a + i) = false) :
    s.aperHidden a len = false := by
  unfold State.aperHidden
  rw [decide_eq_false (Nat.not_lt.mpr hfits), Bool.false_or, List.any_eq_false]
  exact fun i hi => Bool.eq_false_iff.mp (hopen i (List.mem_range.mp hi))

theorem aperPoisoned_iff (a len : Nat) : s.aperPoisoned a len = true ↔ ∃ r ∈ s.hif.aperHeld, r.1 < a + len ∧ a < r.1 + r.2.1 := by
  simp [State.aperPoisoned]

/-- Outside the oscillation region a reader sees the bytes of DRAM, and takes no free value. -/
theorem seeDram_outside {a len : Nat} (hout : ∀ i, i < len → s.inOsc (a + i) = false) : s.seeDram a len = (s, s.readDram a len) := by
  have hnone : (List.range len).any (fun i => s.inOsc (a + i)) = false :=
    List.any_eq_false.mpr fun i hi => Bool.eq_false_iff.mp (hout i (List.mem_range.mp hi))
  have hbytes : (s.readDram a len).mapIdx (fun i b => if s.inOsc (a + i) then (Config.freeWord (s.free + i)).setWidth 8 else b) = s.readDram a len := by
    refine List.ext_getElem (by simp) fun i hi _ => ?_
    have hlen : i < len := by simpa [State.readDram] using hi
    rw [List.getElem_mapIdx, if_neg (Bool.eq_false_iff.mp (hout i hlen))]
  unfold State.seeDram
  dsimp only
  rw [hbytes, hnone]
  rfl

theorem exec_apertureRead_seen (offset len : Nat) (hfits : s.aperAt offset + len ≤ Config.dramMiB * 2 ^ 20)
    (hopen : ∀ i, i < len → s.secretAt (s.aperAt offset + i) = false)
    (hclean : ∀ r, r ∈ s.hif.aperHeld → ¬(r.1 < s.aperAt offset + len ∧ s.aperAt offset < r.1 + r.2.1)) :
    ∃ t, exec (.apertureRead offset len) s = .next t ∧ t.readData = readWords (s.seeDram (s.aperAt offset) len).2 ∧ t.dram = s.dram
      ∧ (∀ x, x ∉ healthRegs → t.reg x = s.reg x)
      ∧ ((∀ i, i < len → s.inOsc (s.aperAt offset + i) = false) → t.readData = readWords (s.readDram (s.aperAt offset) len) ∧ t.free = s.free) := by
  have hpoison : ¬s.aperPoisoned (s.aperAt offset) len = true := fun h => by
    obtain ⟨r, hr, hin⟩ := (aperPoisoned_iff s _ _).mp h
    exact hclean r hr hin
  have hkept (a : Nat) : (s.seeDram a len).1.dram = s.dram ∧ (s.seeDram a len).1.regs = s.regs := by
    unfold State.seeDram
    dsimp only
    split <;> exact ⟨rfl, rfl⟩
  rw [exec_apertureRead, if_neg (Bool.eq_false_iff.mp (aperHidden_of_seen s hfits hopen)), if_neg hpoison]
  refine ⟨_, rfl, rfl, (hkept _).1, fun x hx => ?_, fun hout => ?_⟩
  · exact (State.reg_showHealth_ne _ _ hx).trans (congrArg (smGet regReset · x) (hkept _).2)
  · rw [seeDram_outside s hout]
    exact ⟨rfl, rfl⟩

theorem exec_apertureRead_poisoned (offset len : Nat) (hfits : s.aperAt offset + len ≤ Config.dramMiB * 2 ^ 20)
    (hopen : ∀ i, i < len → s.secretAt (s.aperAt offset + i) = false)
    (hheld : ∃ r, r ∈ s.hif.aperHeld ∧ r.1 < s.aperAt offset + len ∧ s.aperAt offset < r.1 + r.2.1) :
    ∃ t, exec (.apertureRead offset len) s = .next t ∧ t.readData = readWords (List.replicate len 0xFF) ∧ t.dram = s.dram
      ∧ t.reg Reg.HIF_CNT_APER_POISON = satWord ((s.reg Reg.HIF_CNT_APER_POISON).toNat + 1) := by
  rw [exec_apertureRead, if_neg (Bool.eq_false_iff.mp (aperHidden_of_seen s hfits hopen)), if_pos ((aperPoisoned_iff s _ _).mpr hheld)]
  refine ⟨_, rfl, ?_, ?_, ?_⟩
  · rw [State.showHealth_readData, State.log_readData]
    rfl
  · rw [State.showHealth_dram, State.log_dram]
    rfl
  · rw [State.reg_showHealth_ne _ _ (by decide), State.reg_log _ _ _ _ _ (by decide) (by decide)]
    exact State.reg_bump_same _ _

theorem exec_apertureRead_hidden (offset len : Nat)
    (hhidden : Config.dramMiB * 2 ^ 20 < s.aperAt offset + len ∨ ∃ i, i < len ∧ s.secretAt (s.aperAt offset + i) = true) :
    ∃ t, exec (.apertureRead offset len) s = .next t ∧ t.readData = readWords (List.replicate len 0) ∧ t.dram = s.dram
      ∧ t.reg Reg.HIF_CNT_APER_ZERO = satWord ((s.reg Reg.HIF_CNT_APER_ZERO).toNat + 1) := by
  have hseen : s.aperHidden (s.aperAt offset) len = true := by
    unfold State.aperHidden
    rw [Bool.or_eq_true, decide_eq_true_eq, List.any_eq_true]
    exact hhidden.imp_right fun ⟨i, hi, hs⟩ => ⟨i, List.mem_range.mpr hi, hs⟩
  rw [exec_apertureRead, if_pos hseen]
  exact ⟨_, rfl, rfl, rfl, (State.reg_showHealth_ne _ _ (by decide)).trans (State.reg_bump_same _ _)⟩

theorem exec_apertureWrite (offset : Nat) : ∃ t, exec (.apertureWrite offset) s = .next t ∧ t.dram = s.dram ∧ t.readData = s.readData
    ∧ t.reg Reg.HIF_CNT_APER_WRITE = satWord ((s.reg Reg.HIF_CNT_APER_WRITE).toNat + 1)
    ∧ ∀ a, a ≠ Reg.HIF_CNT_APER_WRITE → a ∉ healthRegs → t.reg a = s.reg a :=
  ⟨_, rfl, rfl, rfl, (State.reg_showHealth_ne _ _ (by decide)).trans (State.reg_bump_same _ _),
    fun a ha hhealth => (State.reg_showHealth_ne _ _ hhealth).trans (State.reg_bump_ne _ _ _ ha)⟩

theorem exec_pcieCompletionTimeout (requester : Nat) : ∃ t, exec (.pcieCompletionTimeout requester) s = .next t
    ∧ t.hif.aer = s.hif.aer ++ [requester] ∧ ∀ a, a ∉ healthRegs → t.reg a = s.reg a :=
  ⟨_, rfl, rfl, fun _ ha => State.reg_showHealth_ne _ _ ha⟩
end

/-- Settles O35: the loss of the host keeps the counters of the host interface, and the aperture's reads are the three cases of R331. -/
theorem hostLink : Obligations.HostLink :=
  ⟨exec_pcieLinkDown_up, exec_pcieLinkUp_down, exec_hostReset, exec_apertureRead_seen, exec_apertureRead_poisoned, exec_apertureRead_hidden,
    exec_apertureWrite, exec_pcieCompletionTimeout⟩

end Sys2Proof.Machine
end

section
/-!
PROOFS of the statement on the host's pushes and pops (R335 to R341).
-/
namespace Sys2Proof.Machine

/-! ### A queue after one operation -/

section
variable (s : State) (q : Nat)

@[simp] theorem queue_setQueue_same (x : QueueState) : (s.setQueue q x).queue q = x :=
  congrArg (fun o : Option QueueState => o.getD {}) (kvGet_kvPut_same _ _ _)

theorem queue_setQueue_ne (x : QueueState) {p : Nat} (h : p ≠ q) : (s.setQueue q x).queue p = s.queue p :=
  congrArg (fun o : Option QueueState => o.getD {}) (kvGet_kvPut_ne _ _ _ _ h)

theorem queue_congr {t : State} (h : t.hif.queues = s.hif.queues) : t.queue q = s.queue q := by rw [State.queue, State.queue, h]

@[simp] theorem queue_setReg (a : Nat) (v : Word) : (s.setReg a v).queue q = s.queue q := rfl

@[simp] theorem queue_bump (a : Nat) : (s.bump a).queue q = s.queue q := rfl

@[simp] theorem queue_setFlag (a n : Nat) (b : Bool) : (s.setFlag a n b).queue q = s.queue q := rfl

@[simp] theorem queue_showOpen (p : Nat) : (s.showOpen p).queue q = s.queue q := rfl

@[simp] theorem queue_raiseVector (v : Nat) : (s.raiseVector v).queue q = s.queue q := rfl

@[simp] theorem queue_log (code sev : Nat) (p : List Byte) : (s.log code sev p).queue q = s.queue q :=
  queue_congr _ _ (congrArg HifState.queues (s.log_hif code sev p))

@[simp] theorem queue_showHealth : s.showHealth.queue q = s.queue q := rfl

/-- The pointers agree, and no host read stalls. -/
def QueueState.idle (x : QueueState) : Prop := x.waits = [] ∧ x.rdPtr = x.rdCopy ∧ x.wrPtr = x.wrCopy

theorem qCheck_of_agree (hrd : (s.queue q).rdPtr = (s.queue q).rdCopy) (hwr : (s.queue q).wrPtr = (s.queue q).wrCopy) : s.qCheck q = s :=
  if_pos (by simp [hrd, hwr])

/-- The vector of a queue is due (R341). -/
def State.irqDue : Bool := s.flag (Reg.HIF_Q_CTRL q) 22 && (s.queue q).irqArmed && s.field (Reg.HIF_Q_IRQ q) 7 0 ≤ (s.queue q).count

theorem qIrq_eq : s.qIrq q = if s.irqDue q then (s.setQueue q { s.queue q with irqArmed := false, irqAfter := none }).raiseVector
    (s.field (Reg.HIF_Q_CTRL q) 21 16) else s := rfl

theorem queue_qIrq : (s.qIrq q).queue q = if s.irqDue q then { s.queue q with irqArmed := false, irqAfter := none } else s.queue q := by
  rw [qIrq_eq]
  split
  · exact queue_setQueue_same s q _
  · rfl

/-- Raising the vector of a queue changes only its interrupt state. -/
theorem queue_qIrq_keeps {α : Type} (f : QueueState → α) (hf : ∀ x a b, f { x with irqArmed := a, irqAfter := b } = f x) :
    f ((s.qIrq q).queue q) = f (s.queue q) := by
  rw [queue_qIrq]
  split
  · exact hf _ _ _
  · rfl

theorem reg_qIrq (a : Nat) : (s.qIrq q).reg a = s.reg a := by
  rw [qIrq_eq]
  split <;> rfl

theorem qWake_of_none (h : (s.queue q).waits = []) : s.qWake q = s := by
  unfold State.qWake
  rw [h]
  rfl

/-- The queue with one packet more, the write pointer behind it. -/
def State.withPacket (p : Packet) : State :=
  let ptr := advance ((s.queue q).wrPtr, (s.queue q).wrCopy) (p.words.length + 1) (s.qDepth q)
  s.setQueue q { s.queue q with packets := (s.queue q).packets ++ [p], wrPtr := ptr.1, wrCopy := ptr.2 }

theorem qAppend_of_none (p : Packet) (h : (s.queue q).waits = []) : s.qAppend q p = ((s.withPacket q p).bump (Reg.HIF_Q_CNT_PKTS q)).qIrq q := by
  refine qWake_of_none _ q ?_
  rw [queue_qIrq_keeps _ q QueueState.waits fun _ _ _ => rfl, queue_bump]
  exact (congrArg QueueState.waits (queue_setQueue_same s q _)).trans h

theorem pushWake_of_none (h : (s.queue q).pushWait = []) : s.pushWake q = s := if_pos (by rw [h]; rfl)
end

/-! ### The words last read stay while no read stalls -/

/-- What is read stays, and so does an idle queue. -/
def Quiet (q : Nat) (s t : State) : Prop := (s.queue q).idle → t.readData = s.readData ∧ (t.queue q).idle

namespace Quiet

variable {q : Nat} {s t u : State}

theorem refl (s : State) : Quiet q s s := fun h => ⟨rfl, h⟩

theorem trans (h : Quiet q s t) (k : Quiet q t u) : Quiet q s u := fun hs =>
  have ⟨hread, hidle⟩ := h hs
  have ⟨kread, kidle⟩ := k hidle
  ⟨kread.trans hread, kidle⟩

theorem ite {c : Prop} [Decidable c] (ht : Quiet q s t) (hu : Quiet q s u) : Quiet q s (if c then t else u) := by
  split
  · exact ht
  · exact hu

theorem of_queue (hr : t.readData = s.readData) (hq : t.queue q = s.queue q) : Quiet q s t := fun h => ⟨hr, hq ▸ h⟩

theorem setQueue (s : State) (x : QueueState) (h : (s.queue q).idle → x.idle) : Quiet q s (s.setQueue q x) := fun hs =>
  ⟨rfl, (queue_setQueue_same s q x).symm ▸ h hs⟩

theorem log (s : State) (code sev : Nat) (p : List Byte) : Quiet q s (s.log code sev p) :=
  of_queue (s.log_readData code sev p) (queue_log s q code sev p)

theorem raiseVector (s : State) (v : Nat) : Quiet q s (s.raiseVector v) := of_queue rfl rfl

theorem bump (s : State) (a : Nat) : Quiet q s (s.bump a) := of_queue rfl rfl

theorem setFlag (s : State) (a n : Nat) (b : Bool) : Quiet q s (s.setFlag a n b) := of_queue rfl rfl

theorem showOpen (s : State) (p : Nat) : Quiet q s (s.showOpen p) := of_queue rfl rfl

theorem qIrq (s : State) : Quiet q s (s.qIrq q) := by
  rw [qIrq_eq]
  exact ite ((setQueue s _ (by exact fun h => h)).trans (raiseVector _ _)) (refl s)

theorem qPopped (s : State) : Quiet q s (s.qPopped q) := by
  unfold State.qPopped
  extract_lets x itr
  exact ite (refl s) (ite ((setQueue s _ (by exact fun h => h)).trans (qIrq _)) (setQueue s _ (by exact fun h => h)))

/-- One pointer's two copies advance together. -/
theorem advance_agree {ptr : Nat × Nat} (h : ptr.1 = ptr.2) (n depth : Nat) : (advance ptr n depth).1 = (advance ptr n depth).2 :=
  congrArg (fun k => (k + n) % depth) h

theorem withPacket (s : State) (p : Packet) : Quiet q s (s.withPacket q p) :=
  setQueue s _ fun ⟨hwaits, hrd, hwr⟩ => ⟨hwaits, hrd, advance_agree (ptr := ((s.queue q).wrPtr, (s.queue q).wrCopy)) hwr _ _⟩

theorem qAppend (s : State) (p : Packet) : Quiet q s (s.qAppend q p) := fun h => by
  rw [qAppend_of_none s q p h.1]
  exact (((withPacket s p).trans (bump _ _)).trans (qIrq _)) h

theorem qOffer {kind : Nat} {words : List Word} (h : s.qOffer q kind words = some t) : Quiet q s t := fun hs => by
  obtain ⟨-, hrd, hwr⟩ := id hs
  unfold State.qOffer at h
  dsimp only at h
  rw [qCheck_of_agree s q hrd hwr] at h
  split at h
  · cases h
    exact qAppend s _ hs
  · cases h

theorem flushQ1 (n : Nat) (s : State) : Quiet 1 s (State.flushQ1 n s) := by
  induction n generalizing s with
  | zero => exact refl s
  | succ n ih =>
    unfold State.flushQ1
    split
    · exact refl s
    · rename_i w r hw
      split
      · rename_i u hu
        have hnext : Quiet 1 u { u with hif := { u.hif with q1Wait := r } } := of_queue rfl rfl
        exact ((qOffer hu).trans hnext).trans (ih _)
      · exact refl s

theorem pushDrop (s : State) (cause : Nat) (rest : Bool) : Quiet q s (s.pushDrop q cause rest) := by
  unfold State.pushDrop
  extract_lets x n dropped counted shown
  have hdropped : Quiet q s dropped := setQueue s _ (by exact fun h => h)
  exact (((hdropped.trans (bump dropped _)).trans (setFlag counted _ _ _)).trans (showOpen _ q)).trans (log shown _ _ _)

theorem pushClose (s : State) (v : Word) : Quiet q s (s.pushClose q v) := by
  unfold State.pushClose
  extract_lets x
  split
  · exact ite (((setQueue s _ (by exact fun h => h)).trans (qAppend _ _)).trans (showOpen _ q)) (pushDrop s _ _)
  · exact pushDrop s _ _

theorem pushWake (s : State) : Quiet q s (s.pushWake q) := by
  unfold State.pushWake
  extract_lets x a joined
  have hjoined : Quiet q s joined := (setQueue s _ (by exact fun h => h)).trans (showOpen _ q)
  refine ite (refl s) ?_
  split
  · exact hjoined.trans (pushClose _ _)
  · exact hjoined

/-- What follows a host read: its interrupt, waiting completions, and pushes that wait for credits. -/
theorem afterPop (s : State) : Quiet q s (if q = 1 then (s.qPopped q).flushQ1 (s.qPopped q).hif.q1Wait.length else s.qPopped q) := by
  split
  · subst q
    exact (qPopped s).trans (flushQ1 _ _)
  · exact qPopped s

end Quiet

/-- Words taken from the head leave the pointers in agreement, and the stalled reads as they were. -/
theorem QueueState.take_agree (depth n : Nat) (x : QueueState) (hrd : x.rdPtr = x.rdCopy) : (QueueState.take depth n x).rdPtr = (QueueState.take depth n x).rdCopy
    ∧ (QueueState.take depth n x).wrPtr = x.wrPtr ∧ (QueueState.take depth n x).wrCopy = x.wrCopy ∧ (QueueState.take depth n x).waits = x.waits := by
  induction n generalizing x with
  | zero => exact ⟨hrd, rfl, rfl, rfl⟩
  | succ n ih =>
    unfold QueueState.take
    split
    · exact ⟨hrd, rfl, rfl, rfl⟩
    · exact ih _ (Quiet.advance_agree (ptr := (x.rdPtr, x.rdCopy)) hrd 1 depth)

theorem QueueState.idle_take (depth n : Nat) {x : QueueState} (h : x.idle) : (QueueState.take depth n x).idle := by
  obtain ⟨hwaits, hrd, hwr⟩ := h
  obtain ⟨trd, twr, twc, twaits⟩ := x.take_agree depth n hrd
  exact ⟨twaits.trans hwaits, trd, (twr.trans hwr).trans twc.symm⟩

/-! ### Pops (R336) -/

section
variable (s : State) (q : Nat)

theorem pop_of_ready (words : Nat) (hconsumer : s.qConsumer q = 0) (hen : s.qEn q = true) (hidle : (s.queue q).idle)
    (hlen : words ≤ (s.queue q).visible.length) : (s.pop q words).readData = (s.queue q).visible.take words ∧ ((s.pop q words).queue q).idle := by
  obtain ⟨hwaits, hrd, hwr⟩ := id hidle
  have hready : ((s.queue q).waits.isEmpty && decide (words ≤ (s.queue q).visible.length)) = true := by simp [hwaits, hlen]
  unfold State.pop
  rw [if_neg (by simp [hconsumer, hen]), qCheck_of_agree s q hrd hwr]
  dsimp only
  rw [if_pos hready]
  have htaken := QueueState.idle_take (s.qDepth q) words hidle
  exact Quiet.afterPop _ ((queue_setQueue_same _ q _).symm ▸ htaken)

theorem exec_queuePop_ready (words : Nat) (hconsumer : s.qConsumer q = 0) (hen : s.qEn q = true) (hrd : (s.queue q).rdPtr = (s.queue q).rdCopy)
    (hwr : (s.queue q).wrPtr = (s.queue q).wrCopy) (hwaits : (s.queue q).waits = []) (hlen : words ≤ (s.queue q).visible.length) :
    ∃ t, exec (.queuePop q words) s = .next t ∧ t.readData = (s.queue q).visible.take words := by
  obtain ⟨hread, hidle⟩ := pop_of_ready s q words hconsumer hen ⟨hwaits, hrd, hwr⟩ hlen
  exact ⟨_, rfl, ((Quiet.pushWake (s.pop q words)) hidle).1.trans hread⟩

theorem exec_queuePop_refused (words : Nat) (hno : s.qConsumer q ≠ 0 ∨ s.qEn q = false) (hpush : (s.queue q).pushWait = []) :
    ∃ t, exec (.queuePop q words) s = .next t ∧ t.readData = List.replicate words 0xFFFFFFFE#32 ∧ t.hif = s.hif
      ∧ t.reg Reg.HIF_CNT_BAD_ACCESS = satWord ((s.reg Reg.HIF_CNT_BAD_ACCESS).toNat + 1) := by
  have hpop : s.pop q words = ({ s with readData := List.replicate words 0xFFFFFFFE#32 } : State).bump Reg.HIF_CNT_BAD_ACCESS := if_pos (by simpa using hno)
  have hexec : exec (.queuePop q words) s = answer ((s.pop q words).pushWake q) := rfl
  have hwake : (s.pop q words).pushWake q = s.pop q words := pushWake_of_none _ q (by rw [hpop]; exact hpush)
  rw [hexec, hwake, hpop]
  exact ⟨_, rfl, rfl, rfl, (State.reg_showHealth_ne _ _ (by decide)).trans (State.reg_bump_same _ _)⟩

theorem popExpire_of_expired (w : PopWait) (hwaits : (s.queue q).waits = [w]) (hlimit : w.limit ≤ s.elapsed)
    (hrd : (s.queue q).rdPtr = (s.queue q).rdCopy) (hwr : (s.queue q).wrPtr = (s.queue q).wrCopy) : (s.popExpire q).readData
      = (s.queue q).visible.take w.n ++ List.replicate (w.n - ((s.queue q).visible.take w.n).length) 0xFFFFFFFE#32 ∧ ((s.popExpire q).queue q).idle := by
  unfold State.popExpire
  rw [hwaits]
  dsimp only
  rw [if_pos hlimit, qCheck_of_agree s q hrd hwr]
  obtain ⟨trd, twr, twc, -⟩ := (s.queue q).take_agree (s.qDepth q) ((s.queue q).visible.take w.n).length hrd
  exact Quiet.afterPop _ ((queue_setQueue_same _ q _).symm ▸ ⟨rfl, trd, (twr.trans hwr).trans twc.symm⟩)

theorem exec_queuePopTimeout_expired (w : PopWait) (hwaits : (s.queue q).waits = [w]) (hlimit : w.limit ≤ s.elapsed)
    (hrd : (s.queue q).rdPtr = (s.queue q).rdCopy) (hwr : (s.queue q).wrPtr = (s.queue q).wrCopy) : ∃ t, exec (.queuePopTimeout q) s = .next t
      ∧ t.readData = (s.queue q).visible.take w.n ++ List.replicate (w.n - ((s.queue q).visible.take w.n).length) 0xFFFFFFFE#32 := by
  obtain ⟨hread, hidle⟩ := popExpire_of_expired s q w hwaits hlimit hrd hwr
  exact ⟨_, rfl, ((Quiet.pushWake (s.popExpire q)) hidle).1.trans hread⟩

/-! ### Pushes (R335, R337) -/

theorem pushWords_of_room (words : List Word) (hpush : (s.queue q).pushWait = [])
    (hroom : (s.queue q).visible.length + ((s.queue q).open_.getD []).length + words.length + 1 ≤ s.qDepth q) :
    s.pushWords q words = (s.setQueue q { s.queue q with open_ := some ((s.queue q).open_.getD [] ++ words) }).showOpen q := by
  unfold State.pushWords
  dsimp only
  rw [hpush, List.map_nil, List.foldl_nil, if_neg (show ¬s.qDepth q < ((s.queue q).open_.getD []).length + words.length + 1 by omega), if_pos (by simpa using hroom)]

theorem exec_queuePush (words : List Word) (hhost : s.hostPushes q = true) (hrd : (s.queue q).rdPtr = (s.queue q).rdCopy)
    (hwr : (s.queue q).wrPtr = (s.queue q).wrCopy) (hdisc : (s.queue q).discarding = false) :
    exec (.queuePush q words) s = answer (s.pushWords q words) := by
  have hexec : exec (.queuePush q words) s = answer (if !s.hostPushes q then s.bump Reg.HIF_CNT_BAD_ACCESS
      else if ((s.qCheck q).queue q).discarding then s.qCheck q else (s.qCheck q).pushWords q words) := rfl
  rw [hexec, if_neg (by simp [hhost]), qCheck_of_agree s q hrd hwr, if_neg (by simp [hdisc])]

theorem exec_queuePush_room (words : List Word) (hhost : s.hostPushes q = true) (hrd : (s.queue q).rdPtr = (s.queue q).rdCopy)
    (hwr : (s.queue q).wrPtr = (s.queue q).wrCopy) (hdisc : (s.queue q).discarding = false) (hpush : (s.queue q).pushWait = [])
    (hroom : (s.queue q).visible.length + ((s.queue q).open_.getD []).length + words.length + 1 ≤ s.qDepth q) :
    ∃ t, exec (.queuePush q words) s = .next t ∧ (t.queue q).open_ = some ((s.queue q).open_.getD [] ++ words)
      ∧ (t.queue q).packets = (s.queue q).packets ∧ ∀ p, p ≠ q → t.queue p = s.queue p := by
  rw [exec_queuePush s q words hhost hrd hwr hdisc, pushWords_of_room s q words hpush hroom]
  refine ⟨_, rfl, ?_, ?_, fun p hp => ?_⟩
  · rw [queue_showHealth, queue_showOpen, queue_setQueue_same]
  · rw [queue_showHealth, queue_showOpen, queue_setQueue_same]
  · rw [queue_showHealth, queue_showOpen, queue_setQueue_ne _ _ _ hp]

theorem exec_queuePushEnd (value : Word) (hhost : s.hostPushes q = true) (hrd : (s.queue q).rdPtr = (s.queue q).rdCopy)
    (hwr : (s.queue q).wrPtr = (s.queue q).wrCopy) (hdisc : (s.queue q).discarding = false) (hpush : (s.queue q).pushWait = []) :
    exec (.queuePushEnd q value) s = answer (s.pushClose q value) := by
  have hexec : exec (.queuePushEnd q value) s = answer (if !s.hostPushes q then s.bump Reg.HIF_CNT_BAD_ACCESS
      else if ((s.qCheck q).queue q).discarding then (s.qCheck q).setQueue q { (s.qCheck q).queue q with discarding := false }
      else if !((s.qCheck q).queue q).pushWait.isEmpty then (s.qCheck q).setQueue q { (s.qCheck q).queue q with endWait := some value }
      else (s.qCheck q).pushClose q value) := rfl
  rw [hexec, if_neg (by simp [hhost]), qCheck_of_agree s q hrd hwr, if_neg (by simp [hdisc]), if_neg (by simp [hpush])]

/-- The open packet of a queue closed and appended. -/
theorem pushClose_of_length (value : Word) (w : List Word) (hopen : (s.queue q).open_ = some w) (hlen : w.length = bitsOf value 10 0)
    (hmin : 1 ≤ w.length) (hmax : w.length ≤ 1024) : s.pushClose q value
      = ((s.setQueue q { s.queue q with open_ := none }).qAppend q { kind := bitsOf value 23 16, words := w }).showOpen q := by
  unfold State.pushClose
  dsimp only
  rw [hopen]
  dsimp only
  rw [if_pos (by simp [← hlen, hmin, hmax])]

theorem exec_queuePushEnd_closed (value : Word) (w : List Word) (hhost : s.hostPushes q = true) (hrd : (s.queue q).rdPtr = (s.queue q).rdCopy)
    (hwr : (s.queue q).wrPtr = (s.queue q).wrCopy) (hdisc : (s.queue q).discarding = false) (hpush : (s.queue q).pushWait = [])
    (hopen : (s.queue q).open_ = some w) (hlen : w.length = bitsOf value 10 0) (hmin : 1 ≤ w.length) (hmax : w.length ≤ 1024) (hq : q < 128)
    (hwaits : (s.queue q).waits = []) : ∃ t, exec (.queuePushEnd q value) s = .next t
      ∧ (t.queue q).packets = (s.queue q).packets ++ [Packet.mk (bitsOf value 23 16) w] ∧ (t.queue q).open_ = none
      ∧ t.reg (Reg.HIF_Q_CNT_PKTS q) = satWord ((s.reg (Reg.HIF_Q_CNT_PKTS q)).toNat + 1) := by
  let closed := s.setQueue q { s.queue q with open_ := none }
  have hclosed : closed.queue q = { s.queue q with open_ := none } := queue_setQueue_same s q _
  have hnone : (closed.queue q).waits = [] := by rw [hclosed]; exact hwaits
  have hadded : (closed.withPacket q (.mk (bitsOf value 23 16) w)).queue q = _ := queue_setQueue_same closed q _
  rw [exec_queuePushEnd s q value hhost hrd hwr hdisc hpush, pushClose_of_length s q value w hopen hlen hmin hmax]
  refine ⟨_, rfl, ?_, ?_, ?_⟩
  · rw [queue_showHealth, queue_showOpen, qAppend_of_none closed q _ hnone, queue_qIrq_keeps _ q QueueState.packets fun _ _ _ => rfl, queue_bump, hadded, hclosed]
  · rw [queue_showHealth, queue_showOpen, qAppend_of_none closed q _ hnone, queue_qIrq_keeps _ q QueueState.open_ fun _ _ _ => rfl, queue_bump, hadded, hclosed]
  · rw [State.reg_showHealth_of_block _ (by simp only [Reg.HIF_Q_CNT_PKTS]; omega), State.showOpen,
      State.reg_setFlag_ne _ _ _ _ _ (by simp only [Reg.HIF_Q_CNT_PKTS, Reg.HIF_Q_STATUS]; omega), qAppend_of_none closed q _ hnone, reg_qIrq,
      State.reg_bump_same]
    rfl

theorem exec_queuePushEnd_refused (value : Word) (hhost : s.hostPushes q = false) : ∃ t, exec (.queuePushEnd q value) s = .next t ∧ t.hif = s.hif
      ∧ t.reg Reg.HIF_CNT_BAD_ACCESS = satWord ((s.reg Reg.HIF_CNT_BAD_ACCESS).toNat + 1) := by
  have hexec : exec (.queuePushEnd q value) s = answer (s.bump Reg.HIF_CNT_BAD_ACCESS) := congrArg answer (if_pos (by simp [hhost]))
  exact ⟨_, hexec, rfl, (State.reg_showHealth_ne _ _ (by decide)).trans (State.reg_bump_same _ _)⟩

theorem exec_pushStallTimeout_expired (at_ : Nat) (w : List Word) (r : List (List Word × Nat)) (hq : q < 128) (hpush : (s.queue q).pushWait = (w, at_) :: r)
    (hlimit : at_ ≤ s.elapsed) : ∃ t, exec (.pushStallTimeout q) s = .next t ∧ (t.queue q).open_ = none ∧ (t.queue q).pushWait = []
      ∧ t.reg (Reg.HIF_Q_CNT_PUSH_DROP q) = satWord ((s.reg (Reg.HIF_Q_CNT_PUSH_DROP q)).toNat + 1) := by
  have hexec : exec (.pushStallTimeout q) s = answer (s.pushDrop q 1 (s.queue q).endWait.isNone) := by
    change execPushStallTimeout q s = _
    unfold execPushStallTimeout
    dsimp only
    rw [hpush]
    dsimp only
    rw [if_pos hlimit]
  have hlog : Reg.HIF_Q_CNT_PUSH_DROP q ∉ logRegs := fun hm => by
    have hlow : ∀ b ∈ logRegs, b / 0x100000 ≠ 14 := by decide
    exact hlow _ hm (by simp only [Reg.HIF_Q_CNT_PUSH_DROP]; omega)
  have hdropped : ((s.pushDrop q 1 (s.queue q).endWait.isNone).queue q) = _ := (queue_log _ q _ _ _).trans (queue_setQueue_same s q _)
  refine ⟨_, hexec, ?_, ?_, ?_⟩
  · rw [queue_showHealth, hdropped]
  · rw [queue_showHealth, hdropped]
  · rw [State.reg_showHealth_of_block _ (by simp only [Reg.HIF_Q_CNT_PUSH_DROP]; omega), State.pushDrop, State.reg_log _ _ _ _ _ (by decide) hlog, State.showOpen,
      State.reg_setFlag_ne _ _ _ _ _ (by simp only [Reg.HIF_Q_CNT_PUSH_DROP, Reg.HIF_Q_STATUS]; omega),
      State.reg_setFlag_ne _ _ _ _ _ (by simp only [Reg.HIF_Q_CNT_PUSH_DROP, Reg.HIF_Q_STATUS]; omega), State.reg_bump_same]
    rfl

/-! ### The interrupt of a queue (R341) -/

theorem exec_queueIrqItrExpire_over (at_ : Nat) (hafter : (s.queue q).irqAfter = some at_) (hlimit : at_ ≤ s.elapsed) :
    ∃ t, exec (.queueIrqItrExpire q) s = .next t ∧ (t.queue q).irqAfter = none ∧ (t.queue q).packets = (s.queue q).packets
      ∧ (t.queue q).irqArmed = !(s.flag (Reg.HIF_Q_CTRL q) 22 && decide (s.field (Reg.HIF_Q_IRQ q) 7 0 ≤ (s.queue q).count)) := by
  let armed := s.setQueue q { s.queue q with irqArmed := true, irqAfter := none }
  have harmed : armed.queue q = { s.queue q with irqArmed := true, irqAfter := none } := queue_setQueue_same s q _
  have hexec : exec (.queueIrqItrExpire q) s = answer (armed.qIrq q) := by
    change execQueueIrqItrExpire q s = _
    unfold execQueueIrqItrExpire
    dsimp only
    rw [hafter]
    dsimp only
    rw [if_pos hlimit]
  have hdue : armed.irqDue q = (s.flag (Reg.HIF_Q_CTRL q) 22 && decide (s.field (Reg.HIF_Q_IRQ q) 7 0 ≤ (s.queue q).count)) := by
    unfold State.irqDue
    rw [harmed, Bool.and_true]
    rfl
  refine ⟨_, hexec, ?_⟩
  rw [queue_showHealth, queue_qIrq, hdue, harmed]
  split
  · exact ⟨rfl, rfl, by simp [*]⟩
  · exact ⟨rfl, rfl, by simp [*]⟩
end

/-- Settles O36: an idle queue stays idle through what follows a pop, so the words read stay; a push changes the one queue it goes to. -/
theorem hostQueues : Obligations.HostQueues :=
  ⟨fun s q words => exec_queuePop_ready s q words, fun s q words _ => exec_queuePop_refused s q words, exec_queuePopTimeout_expired,
    exec_queuePush_room, exec_queuePushEnd_closed, fun s q value _ => exec_queuePushEnd_refused s q value,
    fun s q at_ w r => exec_pushStallTimeout_expired s q at_ w r, exec_queueIrqItrExpire_over⟩

end Sys2Proof.Machine
end

section
/-!
PROOFS against the statement on the joined links: a link that carries LC0 holds its transmit step at 0.
-/
namespace Sys2Proof.Machine

section
variable (s : State) (link : Nat)

theorem field_showLinks {a : Nat} (h : a ≠ Reg.HGW_STATUS) (hi lo : Nat) : s.showLinks.field a hi lo = s.field a hi lo := by
  unfold State.showLinks
  extract_lets up shown
  exact congrArg (fun w : Word => bitsOf w hi lo)
    ((State.reg_setField_ne shown _ _ _ _ _ h).trans (State.reg_setField_ne s _ _ _ _ _ h))

/-- A transmit step that is set is the step shown (R367). -/
theorem field_setStep {n : Nat} (hlink : link < 6) (hn : n < 4) : (s.setStep link n).field (Reg.HGW_L_STATUS link) 2 1 = n := by
  unfold State.setStep
  split
  · assumption
  · dsimp only
    rw [field_showLinks _ (by simp only [Reg.HGW_L_STATUS, Reg.HGW_STATUS]; omega)]
    refine Eq.trans ?_ ((s.field_setField_same (Reg.HGW_L_STATUS link) 2 1 n (by decide)).trans (Nat.mod_eq_of_lt hn))
    exact congrArg (fun w : Word => bitsOf w 2 1)
      (State.reg_bump_ne _ _ _ (by simp only [Reg.HGW_L_STATUS, Reg.HGW_L_CNT_STEP]; omega))

/-- The transmit step of a link that carries LC0 goes to 0 at once (R368). -/
theorem exec_linkStepChange_pinned (util : Nat) (hup : s.linkUp link = true) (hlp : (s.setReg (Reg.HGW_L_UTIL link) (Word.ofNat (min util 65536))).flag
    Reg.HGW_LP_CTRL 0 = true) (hpin : s.lc0Pinned link = true) :
    exec (.linkStepChange link none util) s = answer ((s.setReg (Reg.HGW_L_UTIL link) (Word.ofNat (min util 65536))).setStep link 0) := by
  have hpinned : ((s.setReg (Reg.HGW_L_UTIL link) (Word.ofNat (min util 65536))).lc0Pinned link
      || (s.setReg (Reg.HGW_L_UTIL link) (Word.ofNat (min util 65536))).flag (Reg.HGW_L_STATUS link) 5
        && (s.setReg (Reg.HGW_L_UTIL link) (Word.ofNat (min util 65536))).lc0Window link 20000) = true :=
    Bool.or_eq_true_iff.mpr (.inl hpin)
  change execLinkStepChange link none util s = _
  unfold execLinkStepChange
  dsimp only
  rw [if_neg (by simp [hup]), if_neg (by simp [hlp]), if_pos hpinned]
end

/-- Link 0 is up at transmit step 2, with low power on, and it carries LC0. -/
def stateWithPinnedLink : State :=
  { State.reset with regs := [(Reg.HGW_L_STATUS 0, 5), (Reg.HGW_LP_CTRL, 1)], hgw := { State.reset.hgw with lc0Links := [0] } }

/-- Refutes O39: full utilisation takes the transmit step of a link that carries LC0 from 2 to 0, not to 1. -/
theorem not_joinedLinks : ¬Obligations.JoinedLinks := by
  unfold Obligations.JoinedLinks
  rintro ⟨-, -, -, -, -, -, -, -, -, -, -, hstep, -⟩
  obtain ⟨t, ht, hone, -⟩ := hstep stateWithPinnedLink 0 65536 (by decide) (by decide) (by decide) (by decide) (by decide) (by decide)
  rw [exec_linkStepChange_pinned stateWithPinnedLink 0 65536 (by decide) (by decide) (by decide)] at ht
  cases ht
  rw [State.field_showHealth_ne _ _ _ _ (by decide), field_setStep _ 0 (by decide) (by decide)] at hone
  revert hone
  decide

end Sys2Proof.Machine
end

section
/-!
PROOFS against the statement on resets: a committed life-cycle message that waits turns the next start into that of the transition.
-/
namespace Sys2Proof.Machine

/-! ### A start of a life-cycle transition without images (R393, R430) -/

section
variable (s : State)

theorem comps_restart (k : ResetKind) : (s.restart k).boot.comps = s.boot.comps := by
  unfold State.restart State.showStaging
  dsimp only
  split <;> split <;> rfl

theorem verifyImage_empty (c : Nat) : s.verifyImage c .empty = 3 := rfl

theorem trialComp_of_none (h : ∀ c, (s.comp c).state ≠ .trial) : s.trialComp = none :=
  List.find?_eq_none.mpr fun c _ => by simp [h c]

theorem trialFails_of_none (h : ∀ c, (s.comp c).state ≠ .trial) : s.trialFails = none := by rw [State.trialFails, trialComp_of_none s h, Option.filter_none]

theorem chooseSlot_of_empty {c : Nat} (hA : (s.comp c).imgA = .empty) (hB : (s.comp c).imgB = .empty) : s.chooseSlot c = none := by
  have hactive : (s.comp c).active = .empty := by rw [CompRec.active, hA, hB, ite_self]
  have hother : (s.comp c).other = .empty := by rw [CompRec.other, hA, hB, ite_self]
  unfold State.chooseSlot
  dsimp only
  rw [hactive, hother, verifyImage_empty, if_neg (by decide), verifyImage_empty, if_neg (by decide)]

theorem noImages_of_comps {s t : State} (h : t.boot.comps = s.boot.comps) (hs : NoImages s) : NoImages t := by
  have hcomp (c : Nat) : t.comp c = s.comp c := by rw [State.comp, State.comp, h]
  obtain ⟨htrial, hA, hB⟩ := hs
  exact ⟨fun c => hcomp c ▸ htrial c, hcomp 0 ▸ hA, hcomp 0 ▸ hB⟩

/-- A start shows its cause and takes the time from the RTC. -/
def State.timed (k : ResetKind) (cause : Nat) : State :=
  let s := (s.restart k).setField Reg.BOOT_RESET_CAUSE 3 0 cause
  (s.timeFromRtc s.freshWord.toNat).useFree 1

/-- The state in which a start looks for its image: clocks and memories are up. -/
def State.awake (k : ResetKind) (cause : Nat) : State :=
  let s := s.timed k cause
  let s := (s.setReg Reg.SYS_CLK_STATUS (7 ||| (s.freshWord &&& 8))).useFree 1
  let s := (s.setField Reg.MEM_STATUS 1 0 3).setReg Reg.MEM_SIZE (Word.ofNat Config.dramMiB)
  (s.setFlag (Reg.MEM_CH_STATUS 0) 0 true).setFlag (Reg.MEM_CH_STATUS 1) 0 true

/-- The time from the RTC is all that changes. -/
theorem timeFromRtc_eq (phase : Nat) : ∃ x, s.timeFromRtc phase = { s with tim := x } := by
  unfold State.timeFromRtc
  extract_lets utc tai ns ticks
  clear_value utc tai ns ticks
  exact ⟨_, rfl⟩

theorem comps_timed (k : ResetKind) (cause : Nat) : (s.timed k cause).boot.comps = s.boot.comps := by
  unfold State.timed
  extract_lets caused
  obtain ⟨x, htime⟩ := timeFromRtc_eq caused caused.freshWord.toNat
  rw [htime, State.useFree_boot]
  exact comps_restart s k

theorem comps_awake (k : ResetKind) (cause : Nat) : (s.awake k cause).boot.comps = s.boot.comps := by
  rw [State.awake, State.setFlag_boot, State.setFlag_boot, State.setReg_boot, State.setField_boot, State.useFree_boot, State.setReg_boot, comps_timed]

theorem field_timed (k : ResetKind) (cause : Nat) : (s.timed k cause).field Reg.BOOT_RESET_CAUSE 3 0 = cause % 16 := by
  unfold State.timed
  extract_lets caused
  obtain ⟨x, htime⟩ := timeFromRtc_eq caused caused.freshWord.toNat
  rw [htime]
  exact State.field_setField_same _ _ _ _ _ (by decide)

theorem field_awake (k : ResetKind) (cause : Nat) : (s.awake k cause).field Reg.BOOT_RESET_CAUSE 3 0 = cause % 16 := by
  unfold State.awake
  extract_lets timed clocked sized
  have hclocked : clocked.reg Reg.BOOT_RESET_CAUSE = timed.reg Reg.BOOT_RESET_CAUSE := timed.reg_setReg_ne _ _ _ (by decide)
  have hsized : sized.reg Reg.BOOT_RESET_CAUSE = clocked.reg Reg.BOOT_RESET_CAUSE :=
    (State.reg_setReg_ne _ _ _ _ (by decide)).trans (State.reg_setField_ne _ _ _ _ _ _ (by decide))
  have hshown : ((sized.setFlag (Reg.MEM_CH_STATUS 0) 0 true).setFlag (Reg.MEM_CH_STATUS 1) 0 true).reg Reg.BOOT_RESET_CAUSE = sized.reg Reg.BOOT_RESET_CAUSE :=
    (State.reg_setFlag_ne _ _ _ _ _ (by decide)).trans (State.reg_setFlag_ne _ _ _ _ _ (by decide))
  exact (congrArg (fun w : Word => bitsOf w 3 0) (hshown.trans (hsized.trans hclocked))).trans (field_timed s k cause)

theorem start_lifeCycle_noImages (n : Nat) (hpend : s.pendTarget = none) (hs : NoImages s) :
    State.start (n + 1) .lifeCycle 3 s = (s.awake .lifeCycle 3).recover := by
  obtain ⟨htrial, -, -⟩ := noImages_of_comps (comps_timed s .lifeCycle 3) hs
  obtain ⟨-, hA, hB⟩ := noImages_of_comps (comps_awake s .lifeCycle 3) hs
  have hcomp := trialComp_of_none _ htrial
  have hfails := trialFails_of_none _ htrial
  have hslot := chooseSlot_of_empty _ hA hB
  unfold State.awake State.timed at *
  unfold State.start
  dsimp only at *
  rw [hpend]
  dsimp only
  rw [if_neg (by decide), if_neg (by decide), if_neg (by decide), hcomp]
  dsimp only
  rw [hfails]
  dsimp only
  rw [hslot]

theorem field_recover {a : Nat} (ha : a ≠ Reg.BOOT_STATUS) (hlog : a ∉ logRegs) (hi lo : Nat) : s.recover.field a hi lo = s.field a hi lo := by
  rw [State.recover, State.field_log _ _ _ _ _ _ _ (by decide) hlog]
  exact congrArg (fun w : Word => bitsOf w hi lo) (State.reg_setField_ne _ _ _ _ _ _ ha)

/-- A message that waits for its transition makes the next start that of the transition (R400). -/
theorem start_pending (n : Nat) (k : ResetKind) (cause : Nat) {m : List Byte} (h : s.pendTarget = some m) :
    State.start (n + 1) k cause s = (State.start n .lifeCycle 3 (s.fuse m)).adopt m s.storedSlots := by
  rw [State.start, h]

theorem regs_adopt (m : List Byte) (l : Slots) : (s.adopt m l).regs = s.regs := rfl

theorem boot_fuse (m : List Byte) : (s.fuse m).boot = s.boot := by
  unfold State.fuse
  extract_lets t old fused counted
  rw [State.log_boot, State.bump_boot, State.log_boot]

theorem pendTarget_fuse (m : List Byte) : (s.fuse m).pendTarget = none := by
  have hsec : (s.fuse m).sec.pendRecs = none := by
    unfold State.fuse
    extract_lets t old fused counted
    rw [State.log_sec, State.bump_sec, State.log_sec]
  rw [State.pendTarget, hsec, Option.filter_none]

/-- A start with a message that waits, on a device without images, shows the cause of the transition. -/
theorem field_start_pending (n : Nat) (k : ResetKind) (cause : Nat) {m : List Byte} (h : s.pendTarget = some m) (hs : NoImages s) :
    (State.start (n + 2) k cause s).field Reg.BOOT_RESET_CAUSE 3 0 = 3 := by
  have hfused : NoImages (s.fuse m) := noImages_of_comps (congrArg BootState.comps (boot_fuse s m)) hs
  have hstart : (State.start (n + 1) .lifeCycle 3 (s.fuse m)).field Reg.BOOT_RESET_CAUSE 3 0 = 3 := by
    rw [start_lifeCycle_noImages _ n (pendTarget_fuse s m) hfused, field_recover _ (by decide) (by decide), field_awake]
  rw [start_pending s (n + 1) k cause h]
  exact (congrArg (fun l => bitsOf (smGet regReset l Reg.BOOT_RESET_CAUSE) 3 0) (regs_adopt _ _ _)).trans hstart

end

/-- A device without images whose committed message waits for its transition. -/
def stateWithMessage : State := { State.reset with sec := { State.reset.sec with pendRecs := some [] } }

theorem noImages_reset : NoImages State.reset := by
  have hnone : ∀ c : CompRec, c ∈ State.reset.boot.comps → c = {} := by decide
  refine ⟨fun c htrial => ?_, rfl, rfl⟩
  rcases Nat.lt_or_ge c State.reset.boot.comps.length with hc | hc
  · have hdefault : State.reset.comp c = {} := hnone _ (by rw [State.comp, List.getD_eq_getElem _ _ hc]; exact List.getElem_mem hc)
    rw [hdefault] at htrial
    cases htrial
  · rw [State.comp, List.getD_eq_default _ _ hc] at htrial
    cases htrial

/-- Refutes O46: a warm reset of cause 2 of a device whose committed message waits starts as the transition, with cause 3. -/
theorem not_resets : ¬Obligations.Resets := by
  unfold Obligations.Resets
  rintro ⟨-, -, -, -, -, -, -, -, hwarm, -⟩
  obtain ⟨t, ht, -, hcause, -⟩ := hwarm stateWithMessage 2 (by decide) (by decide) noImages_reset rfl
  cases ht
  have hshown : (stateWithMessage.warm 2).field Reg.BOOT_RESET_CAUSE 3 0 = 3 := by
    unfold State.warm
    extract_lets entries kept recorded
    exact field_start_pending _ 1 .warm 2 (m := []) (by decide) (noImages_of_comps (s := State.reset) rfl noImages_reset)
  rw [State.field_showHealth_ne _ _ _ _ (by decide), hshown] at hcause
  exact absurd hcause (by decide)

end Sys2Proof.Machine
end

section
/-!
PROOFS against the statement on the image commands: a completion checks the pointers of Q1, and a mismatch can end in an E4.
-/
namespace Sys2Proof.Machine

/-- CONFIRM of a component that is not in TRIAL completes with BAD_STATE (R443). -/
theorem exec_confirm_refused (s : State) (h : CmdHdr) {c : Nat} (hc : c < 5) (hstate : (s.comp c).state ≠ .trial) :
    exec (.confirm h c) s = answer (s.completeShort h 0x0052 0x04 0) := by
  change execConfirm h c s = _
  unfold execConfirm
  dsimp only
  rw [if_neg (Nat.not_le.mpr hc), if_pos (by simp [hstate])]

/-- Q1 has a pointer that lost its copy; any E2 escalates, and the host interface had an E3 within the minute. -/
def stateWithBrokenQ1 : State :=
  { State.reset with
    regs := [(Reg.HIF_Q_CTRL 1, 9), (Reg.HLT_CTRL, 0)]
    hif := { State.reset.hif with queues := [(1, { rdPtr := 1 })] }
    boot := { State.reset.boot with outputsOff := false }
    hlt := { State.reset.hlt with e3At := [(0x0F, 0)] } }

/-- The completion resets Q1, and the error of that reset ends as an E4 (R340, R447, R450). -/
theorem outputsOff_completeShort_brokenQ1 : (stateWithBrokenQ1.completeShort ⟨0, false, 0, 0⟩ 0x0052 0x04 0).boot.outputsOff = true := by decide +kernel

/-- Refutes O47: the completion of a refused CONFIRM finds the pointers of Q1 in disagreement, and the E4 that follows turns the outputs off. -/
theorem not_imageCommands : ¬Obligations.ImageCommands := by
  unfold Obligations.ImageCommands
  rintro ⟨-, -, -, -, -, hconfirm, -⟩
  obtain ⟨t, ht, hboot, -⟩ := hconfirm stateWithBrokenQ1 ⟨0, false, 0, 0⟩ 0 (by decide) (by decide)
  rw [exec_confirm_refused _ _ (by decide) (by decide)] at ht
  have hoff := (congrArg (fun u : State => u.boot.outputsOff) (Host.Outcome.next.inj ht)).trans (congrArg BootState.outputsOff hboot)
  rw [State.showHealth_boot, outputsOff_completeShort_brokenQ1] at hoff
  cases hoff

end Sys2Proof.Machine
end

section
/-!
PROOFS against the statement on the exchange of a pair: the severity of an alarm selects the loss counter that its event record raises.
-/
namespace Sys2Proof.Machine

/-- The severity whose loss counter would be the status register of the twin block. -/
def twinStatusSev : Nat := 0xFFFC0

theorem qdrop_twinStatusSev : Reg.EVR_CNT_QDROP twinStatusSev = Reg.TWN_STATUS := rfl

/-- A Fallow device with a recorded alarm of that severity, whose staging queue is full of LOST records. -/
def stateWithFullStaging : State :=
  { State.reset with
    regs := [(Reg.TWN_STATUS, 4)]
    alm := { State.reset.alm with alarms := [(0, { cfg := ⟨0, twinStatusSev, false, false, true, false, 0, none⟩ })] }
    evr := { State.reset.evr with staging := List.replicate 512 ⟨0, 0, 0x0D01, 3, false, false, 0, []⟩ } }

/-- The record of the mirrored acknowledgement is lost, and its count takes the role from FALLOW (4) to 5. -/
theorem role_mirrorAck_fullStaging : (({ stateWithFullStaging with twn := { stateWithFullStaging.twn with acked := (0 :: stateWithFullStaging.twn.acked).take 64 } } :
    State).acceptAck 0 1 1).showHealth.role = 5 := by
  decide +kernel

/-- Refutes O42: the acknowledgement of an alarm mirrored to a Fallow device with a full staging queue changes the device's role. -/
theorem not_twinExchange : ¬Obligations.TwinExchange := by
  unfold Obligations.TwinExchange
  rintro ⟨-, -, -, -, -, -, -, hmirror, -⟩
  obtain ⟨t, ht, -, hrole, -⟩ := hmirror stateWithFullStaging ⟨0, .alarmAck 0 1⟩ (by decide) (fun k i b hbody => by cases hbody)
  have hexec : exec (.mirrorMessageRx ⟨0, .alarmAck 0 1⟩) stateWithFullStaging = answer (({ stateWithFullStaging with
      twn := { stateWithFullStaging.twn with acked := (0 :: stateWithFullStaging.twn.acked).take 64 } } : State).acceptAck 0 1 1) :=
    congrArg answer (if_neg (by decide))
  have hfive := (congrArg State.role (Host.Outcome.next.inj (hexec.symm.trans ht))).symm.trans role_mirrorAck_fullStaging
  rw [hrole] at hfive
  exact absurd hfive (by decide)

end Sys2Proof.Machine
end

section
/-!
PROOFS of the statement on the roles of a pair (R377 to R389).
-/
namespace Sys2Proof.Machine

/-! ### The role and the flags of TWN_STATUS -/

section
variable (s : State)

theorem role_congr {t : State} (h : t.reg Reg.TWN_STATUS = s.reg Reg.TWN_STATUS) : t.role = s.role := congrArg (fun w : Word => bitsOf w 2 0) h

theorem ready_congr {t : State} (h : t.reg Reg.TWN_STATUS = s.reg Reg.TWN_STATUS) : t.ready = s.ready := congrArg (fun w : Word => w.getLsbD 8) h

theorem twinSide_congr {t : State} (h : t.reg Reg.TWN_CTRL = s.reg Reg.TWN_CTRL) : t.twinSide = s.twinSide := congrArg (fun w : Word => w.getLsbD 1) h

theorem role_setFlag {n : Nat} (hn : 3 ≤ n) (b : Bool) : (s.setFlag Reg.TWN_STATUS n b).role = s.role :=
  State.field_setField_disjoint _ _ _ _ _ _ _ (by decide) (.inl (by omega))

theorem role_log (code sev : Nat) (p : List Byte) (h : sev ≤ 4) : (s.log code sev p).role = s.role := State.field_log _ _ _ _ _ _ _ h (by decide)

theorem ready_log (code sev : Nat) (p : List Byte) (h : sev ≤ 4) : (s.log code sev p).ready = s.ready := State.flag_log _ _ _ _ _ _ h (by decide)

theorem role_showHealth : s.showHealth.role = s.role := State.field_showHealth_ne _ _ _ _ (by decide)

theorem ready_showHealth : s.showHealth.ready = s.ready := State.flag_showHealth_ne _ _ _ (by decide)

theorem flag_showHealth_twn (n : Nat) : s.showHealth.flag Reg.TWN_STATUS n = s.flag Reg.TWN_STATUS n := State.flag_showHealth_ne _ _ _ (by decide)

/-- A role that is taken: TWN_STATUS, the pins as they are driven in it, and the role GTS. -/
theorem setRole_eq (r : Nat) : s.setRole r = { s.setField Reg.TWN_STATUS 2 0 r with
    alm := { s.alm with pins := s.alm.pins.map fun p => { p with driven := (s.setField Reg.TWN_STATUS 2 0 r).drives } }
    twn := { s.twn with roleGts := if (r = 1 && s.role ≠ 1) || (r = 2 && s.role ≠ 2) then s.now else s.twn.roleGts } } := by
  unfold State.setRole
  extract_lets
  split <;> rfl

theorem regs_setRole (r : Nat) : (s.setRole r).regs = (s.setField Reg.TWN_STATUS 2 0 r).regs := (congrArg State.regs (setRole_eq s r) :)

theorem reg_setRole_ne (r : Nat) {a : Nat} (h : a ≠ Reg.TWN_STATUS) : (s.setRole r).reg a = s.reg a :=
  (congrArg (smGet regReset · a) (regs_setRole s r)).trans (State.reg_setField_ne s _ _ _ _ _ h)

theorem role_setRole {r : Nat} (h : r < 8) : (s.setRole r).role = r :=
  (congrArg (fun l => bitsOf (smGet regReset l Reg.TWN_STATUS) 2 0) (regs_setRole s r)).trans
    ((State.field_setField_same s _ _ _ _ (by decide)).trans (Nat.mod_eq_of_lt h))

theorem flag_setRole (r : Nat) {n : Nat} (hlo : 3 ≤ n) (hhi : n < 32) : (s.setRole r).flag Reg.TWN_STATUS n = s.flag Reg.TWN_STATUS n :=
  (congrArg (fun l => (smGet regReset l Reg.TWN_STATUS).getLsbD n) (regs_setRole s r)).trans
    ((State.flag_setField s _ _ _ _ _ hhi).trans (if_neg (by omega)))

theorem twn_setRole (r : Nat) : (s.setRole r).twn = { s.twn with roleGts := (s.setRole r).twn.roleGts } := by rw [setRole_eq]

theorem hif_setRole (r : Nat) : (s.setRole r).hif = s.hif := (congrArg State.hif (setRole_eq s r) :)

theorem boot_setRole (r : Nat) : (s.setRole r).boot = s.boot := (congrArg State.boot (setRole_eq s r) :)

theorem cyc_setRole (r : Nat) : (s.setRole r).cyc = s.cyc := (congrArg State.cyc (setRole_eq s r) :)

theorem dec_setRole (r : Nat) : (s.setRole r).dec = s.dec := (congrArg State.dec (setRole_eq s r) :)

theorem tim_setRole (r : Nat) : (s.setRole r).tim = s.tim := (congrArg State.tim (setRole_eq s r) :)

theorem almPubs_setRole (r : Nat) : (s.setRole r).alm.pubs = s.alm.pubs := (congrArg (fun u : State => u.alm.pubs) (setRole_eq s r) :)

theorem roleGts_setRole_tilled (h : s.role ≠ 2) : (s.setRole 2).twn.roleGts = s.now := by
  rw [setRole_eq]
  exact if_pos (by simp [h])

theorem role_release {r : Nat} (h : r < 8) : (s.release r).role = r := role_setRole _ h

theorem flag_release (r : Nat) {n : Nat} (hlo : 3 ≤ n) (hhi : n < 32) : (s.release r).flag Reg.TWN_STATUS n = s.flag Reg.TWN_STATUS n :=
  flag_setRole _ r hlo hhi

/-! ### SOLO (R377, R388) -/

/-- A device that does not drive its outputs sends no publication. -/
theorem sendAllPubs_of_silent (h : s.drives = false) : s.sendAllPubs = s := by
  have hsend (alm : Bool) (l : List Nat) : l.foldl (fun (t : State) p => t.sendPub alm p) s = s :=
    foldl_eq_self fun _ _ => if_pos (by simp [h])
  unfold State.sendAllPubs
  dsimp only
  rw [hsend, hsend]

theorem sendAllPubs_of_none (hcyc : s.cyc.pubs = []) (halm : s.alm.pubs = []) : s.sendAllPubs = s := by
  unfold State.sendAllPubs
  dsimp only
  rw [hcyc, List.map_nil, List.foldl_nil, halm, List.map_nil, List.foldl_nil]

theorem stopMirror_of_none (h : s.twn.unacked = []) : s.stopMirror = s := by
  unfold State.stopMirror
  rw [h]
  rfl

/-- A device that becomes SOLO, before it sends what it now drives. -/
def State.solo : State := (s.noFallow.setRole 1).setFlag Reg.TWN_STATUS 8 false

theorem becomeSolo_eq (hack : s.twn.unacked = []) : s.becomeSolo = if s.drives then s.solo else s.solo.sendAllPubs := by
  unfold State.becomeSolo State.solo
  rw [stopMirror_of_none s hack]

theorem role_solo : s.solo.role = 1 := (role_setFlag _ (by decide) _).trans (role_setRole _ (by decide))

theorem ready_solo : s.solo.ready = false := State.flag_setFlag_same _ _ _ _ (by decide)

theorem outputsOff_solo : s.solo.boot.outputsOff = s.boot.outputsOff := congrArg BootState.outputsOff (boot_setRole s.noFallow 1)

/-- A device that drove its outputs as TILLED drives them as SOLO. -/
theorem becomeSolo_of_tilled (hack : s.twn.unacked = []) (hrole : s.role = 2) : s.becomeSolo = s.solo := by
  rw [becomeSolo_eq s hack]
  split
  · rfl
  · rename_i hdrives
    have hoff : s.boot.outputsOff = true := by
      have hrole' : s.field Reg.TWN_STATUS 2 0 = 2 := hrole
      simpa [State.drives, hrole'] using hdrives
    exact sendAllPubs_of_silent _ (by rw [State.drives, outputsOff_solo, hoff]; rfl)

/-! ### Training (R377, R379, R380) -/

theorem reg_pllBack_ne (n : Nat) {a : Nat} (h : a ≠ Reg.SYS_CLK_STATUS) : (s.pllBack n).reg a = s.reg a := by
  unfold State.pllBack
  split
  · dsimp only
    split
    · exact State.reg_setFlag_ne _ _ _ _ _ h
    · rfl
  · rfl

theorem pllBack_keeps (n : Nat) {α : Type} (f : State → α) (hreg : ∀ (t : State) b, f (t.setFlag Reg.SYS_CLK_STATUS 1 b) = f t)
    (hhlt : ∀ (t : State) x, f { t with hlt := x } = f t) : f (s.pllBack n) = f s := by
  unfold State.pllBack
  split
  · dsimp only
    split
    · exact (hreg _ _).trans (hhlt _ _)
    · exact hhlt _ _
  · rfl

/-- A device that heard its partner over T0. -/
def State.heard (h : TwinHello) : State :=
  let s := (((s.pllBack 16).setFlag Reg.TWN_STATUS 9 true).setFlag Reg.TWN_STATUS 10 true).setReg Reg.TWN_PARTNER_SUP h.sup
  { s with twn := { s.twn with partner := some h, heard := true, t0Lost := false, fallow := s.twn.fallow && h.role == 4 } }

/-- The partner heard is of the other side. -/
def State.heardOther (h : TwinHello) : State := { s.heard h with twn := { (s.heard h).twn with conflict := false } }

variable (h : TwinHello)

theorem regs_heard : (s.heard h).regs = ((((s.pllBack 16).setFlag Reg.TWN_STATUS 9 true).setFlag Reg.TWN_STATUS 10 true).setReg Reg.TWN_PARTNER_SUP h.sup).regs := rfl

theorem reg_heard_ne {a : Nat} (hclk : a ≠ Reg.SYS_CLK_STATUS) (hstatus : a ≠ Reg.TWN_STATUS) (hsup : a ≠ Reg.TWN_PARTNER_SUP) : (s.heard h).reg a = s.reg a :=
  (congrArg (smGet regReset · a) (regs_heard s h)).trans ((State.reg_setReg_ne _ _ _ _ hsup).trans ((State.reg_setFlag_ne _ _ _ _ _ hstatus).trans
    ((State.reg_setFlag_ne _ _ _ _ _ hstatus).trans (reg_pllBack_ne s 16 hclk))))

theorem role_heard : (s.heard h).role = s.role := by
  have hsup : (s.heard h).role = (((s.pllBack 16).setFlag Reg.TWN_STATUS 9 true).setFlag Reg.TWN_STATUS 10 true).role :=
    role_congr _ ((congrArg (smGet regReset · _) (regs_heard s h)).trans (State.reg_setReg_ne _ _ _ _ (by decide)))
  rw [hsup, role_setFlag _ (by decide), role_setFlag _ (by decide)]
  exact role_congr s (reg_pllBack_ne s 16 (by decide))

theorem trained_heard : (s.heard h).flag Reg.TWN_STATUS 9 = true := by
  have hsup : (s.heard h).flag Reg.TWN_STATUS 9 = (((s.pllBack 16).setFlag Reg.TWN_STATUS 9 true).setFlag Reg.TWN_STATUS 10 true).flag Reg.TWN_STATUS 9 :=
    congrArg (fun w : Word => w.getLsbD 9) ((congrArg (smGet regReset · _) (regs_heard s h)).trans (State.reg_setReg_ne _ _ _ _ (by decide)))
  rw [hsup, State.flag_setFlag_ne _ _ _ _ _ (by decide) (by decide), State.flag_setFlag_same _ _ _ _ (by decide)]

theorem sup_heard : (s.heard h).reg Reg.TWN_PARTNER_SUP = h.sup :=
  (congrArg (smGet regReset · _) (regs_heard s h)).trans (State.reg_setReg_same _ _ _)

theorem boot_heard : (s.heard h).boot = s.boot := pllBack_keeps s 16 State.boot (fun _ _ => rfl) fun _ _ => rfl

theorem elapsed_heard : (s.heard h).elapsed = s.elapsed :=
  State.elapsed_of_tim (pllBack_keeps s 16 State.tim (fun _ _ => rfl) fun _ _ => rfl)

theorem twinSide_heard : (s.heard h).twinSide = s.twinSide := twinSide_congr s (reg_heard_ne s h (by decide) (by decide) (by decide))

theorem versionBreak_congr {t : State} (hboot : t.boot = s.boot) : t.versionBreak h = s.versionBreak h := by
  unfold State.versionBreak State.comp
  rw [hboot]

variable {s h}

theorem exec_t0Trained (hon : s.twinOn = true) (hcommit : s.committed = true) (hrole : s.role ≠ 6) (hside : h.side ≠ s.twinSide) (hver : s.versionBreak h = none) :
    exec (.t0Trained h) s = answer (let u := (s.heardOther h).setFlag Reg.TWN_STATUS 12 false
      if (s.role == 1 || s.role == 2) && (h.role == 1 || h.role == 2) then u.dualTilled h
      else if s.role == 1 || s.role == 2 then u
      else if s.role = 3 || s.role = 5 || (s.role = 4 && h.role = 1) then u.startPairing else u) := by
  have hexec : exec (.t0Trained h) s = answer (if !s.twinOn || !s.committed || s.role = 6 then s
      else if h.side = (s.heard h).twinSide then (s.heard h).sideConflict h
      else match (s.heardOther h).versionBreak h with
        | some (c, v) =>
          let u := ((s.heardOther h).setFlag Reg.TWN_STATUS 12 true).log 0x1107 2 (leBytes 1 c ++ leBytes 4 v)
          if (s.heard h).role == 1 || (s.heard h).role == 2 then u
          else if (s.heard h).role = 3 && !(h.role == 1 || h.role == 2) && !u.twinSide then u.becomeSolo
          else u.release 6
        | none =>
          let u := (s.heardOther h).setFlag Reg.TWN_STATUS 12 false
          if ((s.heard h).role == 1 || (s.heard h).role == 2) && (h.role == 1 || h.role == 2) then u.dualTilled h
          else if (s.heard h).role == 1 || (s.heard h).role == 2 then u
          else if (s.heard h).role = 3 || (s.heard h).role = 5 || ((s.heard h).role = 4 && h.role = 1) then u.startPairing else u) := rfl
  have hbreak : (s.heardOther h).versionBreak h = none := (versionBreak_congr s h (boot_heard s h)).trans hver
  rw [hexec, if_neg (by simp [hon, hcommit, hrole]), twinSide_heard, if_neg hside, hbreak, role_heard]

theorem exec_t0Trained_pairing (hon : s.twinOn = true) (hcommit : s.committed = true) (hrole : s.role = 3 ∨ s.role = 5) (hside : h.side ≠ s.twinSide)
    (hver : s.versionBreak h = none) : ∃ t, exec (.t0Trained h) s = .next t ∧ t.role = 3 ∧ t.flag Reg.TWN_STATUS 9 = true ∧ t.twn.pairStart = s.elapsed
      ∧ t.reg Reg.TWN_PARTNER_SUP = h.sup := by
  rw [exec_t0Trained hon hcommit (by omega) hside hver]
  dsimp only
  have hdrive : (s.role == 1 || s.role == 2) = false := by rcases hrole with hr | hr <;> rw [hr] <;> rfl
  rw [hdrive, if_neg (by simp), if_neg (by simp), if_pos (by rcases hrole with hr | hr <;> simp [hr])]
  let u := (s.heardOther h).setFlag Reg.TWN_STATUS 12 false
  refine ⟨_, rfl, ?_, ?_, ?_, ?_⟩
  · rw [role_showHealth]
    exact role_release u (by decide)
  · rw [flag_showHealth_twn]
    refine (flag_release u 3 (by decide) (by decide)).trans ?_
    exact (State.flag_setFlag_ne _ _ _ _ _ (by decide) (by decide)).trans (trained_heard s h)
  · exact elapsed_heard s h
  · rw [State.reg_showHealth_ne _ _ (by decide)]
    refine (reg_setRole_ne _ 3 (by decide)).trans ?_
    exact (State.reg_setFlag_ne _ _ _ _ _ (by decide)).trans (sup_heard s h)

theorem exec_t0Trained_driving (hon : s.twinOn = true) (hcommit : s.committed = true) (hrole : s.role = 1 ∨ s.role = 2) (h1 : h.role ≠ 1) (h2 : h.role ≠ 2)
    (hside : h.side ≠ s.twinSide) (hver : s.versionBreak h = none) :
    ∃ t, exec (.t0Trained h) s = .next t ∧ t.role = s.role ∧ t.flag Reg.TWN_STATUS 9 = true := by
  rw [exec_t0Trained hon hcommit (by omega) hside hver]
  dsimp only
  have hdrive : (s.role == 1 || s.role == 2) = true := by rcases hrole with hr | hr <;> rw [hr] <;> rfl
  rw [hdrive, if_neg (by simp [h1, h2]), if_pos rfl]
  refine ⟨_, rfl, ?_, ?_⟩
  · rw [role_showHealth, role_setFlag _ (by decide)]
    exact role_heard s h
  · rw [flag_showHealth_twn, State.flag_setFlag_ne _ _ _ _ _ (by decide) (by decide)]
    exact trained_heard s h

theorem exec_t0Trained_conflict (hon : s.twinOn = true) (hcommit : s.committed = true) (hrole : s.role = 1) (hside : h.side = s.twinSide) :
    ∃ t, exec (.t0Trained h) s = .next t ∧ t.role = 1 ∧ t.twn.conflict = true := by
  have hexec : exec (.t0Trained h) s = answer ((s.heard h).sideConflict h) := by
    change execT0Trained h s = _
    unfold execT0Trained
    rw [if_neg (by simp [hon, hcommit, hrole])]
    exact congrArg answer (if_pos (hside.trans (twinSide_heard s h).symm))
  have hheard : (s.heard h).role = 1 := (role_heard s h).trans hrole
  obtain ⟨p, hconflict⟩ : ∃ p, (s.heard h).sideConflict h = ({ s.heard h with twn := { (s.heard h).twn with conflict := true } } : State).log 0x1109 3 p := by
    unfold State.sideConflict
    dsimp only
    rw [hheard, if_pos (by rfl), if_pos rfl]
    exact ⟨_, rfl⟩
  rw [hexec, hconflict]
  refine ⟨_, rfl, ?_, ?_⟩
  · rw [role_showHealth, role_log _ _ _ _ (by decide)]
    exact hheard
  · rw [State.showHealth_twn, State.log_twn]

/-! ### Synchronisation and losses (R377, R378, R383, R388, R389) -/

variable (s)

theorem exec_partnerWaitExpire_solo (hon : s.twinOn = true) (hcommit : s.committed = true) (hrole : s.role = 3) (hheard : s.twn.heard = false)
    (htime : s.twn.commitAt + 2000000000 ≤ s.elapsed) (hcyc : s.cyc.pubs = []) (halm : s.alm.pubs = []) (hack : s.twn.unacked = []) :
    ∃ t, exec .partnerWaitExpire s = .next t ∧ t.role = 1 ∧ t.flag Reg.TWN_STATUS 8 = false := by
  have hexec : exec .partnerWaitExpire s = answer s.becomeSolo := congrArg answer (if_pos (by simp [hon, hcommit, hrole, hheard, htime]))
  have hsend : s.solo.sendAllPubs = s.solo :=
    sendAllPubs_of_none _ ((congrArg CycState.pubs (cyc_setRole s.noFallow 1)).trans hcyc) ((almPubs_setRole s.noFallow 1).trans halm)
  rw [hexec, becomeSolo_eq s hack, hsend, ite_self]
  exact ⟨_, rfl, (role_showHealth _).trans (role_solo s), (ready_showHealth _).trans (ready_solo s)⟩

/-- The device that leads takes TILLED. -/
def State.lead : State := ({ s with twn := { s.twn with fallow := true } } : State).setRole 2

theorem exec_pairingSyncDone_lead (snap : TwinSnapshot) (hon : s.twinOn = true) (hup : s.flag Reg.TWN_STATUS 9 = true) (hrole : s.role = 1) :
    ∃ t, exec (.pairingSyncDone snap) s = .next t ∧ t.role = 2 ∧ t.twn.roleGts = s.now := by
  have hexec : exec (.pairingSyncDone snap) s = answer ((if s.drives then s.lead else s.lead.sendAllPubs).log 0x1101 0
      (leBytes 1 2 ++ leBytes 1 (bit (if s.drives then s.lead else s.lead.sendAllPubs).twinSide))) := by
    change execPairingSyncDone snap s = _
    unfold execPairingSyncDone
    dsimp only
    rw [if_neg (by simp [hon, hup]), if_pos (by simp [hrole])]
    rfl
  have hsend : (if s.drives then s.lead else s.lead.sendAllPubs) = s.lead := by
    split
    · rfl
    · rename_i hdrives
      have hoff : s.boot.outputsOff = true := by
        have hrole' : s.field Reg.TWN_STATUS 2 0 = 1 := hrole
        simpa [State.drives, hrole'] using hdrives
      have hlead : s.lead.boot = s.boot := boot_setRole _ 2
      exact sendAllPubs_of_silent _ (by rw [State.drives, hlead, hoff]; rfl)
  rw [hexec, hsend]
  refine ⟨_, rfl, ?_, ?_⟩
  · rw [role_showHealth, role_log _ _ _ _ (by decide)]
    exact role_setRole _ (by decide)
  · rw [State.showHealth_twn, State.log_twn]
    refine roleGts_setRole_tilled _ fun h2 => ?_
    exact absurd (hrole.symm.trans h2) (by decide)

theorem exec_pairingSyncDone_follow (snap : TwinSnapshot) (hon : s.twinOn = true) (hup : s.flag Reg.TWN_STATUS 9 = true) (hrole : s.role = 3)
    (hside : s.twinSide = true) : ∃ t, exec (.pairingSyncDone snap) s = .next t ∧ t.role = 4 := by
  obtain ⟨u, p, hexec⟩ : ∃ u p, exec (.pairingSyncDone snap) s = answer ((State.setRole u 4).log 0x1101 0 p) := by
    change ∃ u p, execPairingSyncDone snap s = _
    unfold execPairingSyncDone
    dsimp only
    rw [if_neg (by simp [hon, hup]), if_neg (by simp [hrole, hside]), if_pos hrole]
    exact ⟨_, _, rfl⟩
  rw [hexec]
  refine ⟨_, rfl, ?_⟩
  rw [role_showHealth, role_log _ _ _ _ (by decide), role_setRole _ (by decide)]

theorem exec_pairingTimeout_over (hrole : s.role = 3) (hheard : s.twn.heard = true) (htime : s.twn.pairStart + 120000000000 ≤ s.elapsed) :
    ∃ t, exec .pairingTimeout s = .next t ∧ t.twn.pairStart = s.elapsed ∧ t.role = 3 := by
  have hexec : exec .pairingTimeout s = answer (({ s with twn := { s.twn with pairStart := s.elapsed } } : State).log 0x1108 2 (leBytes 1 4)) :=
    congrArg answer (if_pos (by simp [hrole, hheard, htime]))
  rw [hexec]
  refine ⟨_, rfl, ?_, ?_⟩
  · rw [State.showHealth_twn, State.log_twn]
  · rw [role_showHealth, role_log _ _ _ _ (by decide)]
    exact hrole

theorem exec_selfTestFail_fallow (n : Nat) (hrole : s.role = 4) : ∃ t, exec (.selfTestFail n) s = .next t ∧ t.role = 6 ∧ t.ready = false := by
  let u := ({ s with twn := { s.twn with selfTest := s.twn.selfTest ||| (1 <<< n) } } : State).release 6
  have hexec : exec (.selfTestFail n) s = answer ((u.setFlag Reg.TWN_STATUS 8 false).log 0x1108 2 (leBytes 1 1)) := congrArg answer (if_pos hrole)
  rw [hexec]
  refine ⟨_, rfl, ?_, ?_⟩
  · rw [role_showHealth, role_log _ _ _ _ (by decide), role_setFlag _ (by decide)]
    exact role_release _ (by decide)
  · rw [ready_showHealth, ready_log _ _ _ _ (by decide)]
    exact State.flag_setFlag_same _ _ _ _ (by decide)

/-- T0 is detached: no partner over T0, which still lives. -/
def State.detached : State := ((s.noFallow.setFlag Reg.TWN_STATUS 9 false).setFlag Reg.TWN_STATUS 10 true).setFlag Reg.TWN_STATUS 8 false

theorem role_detached : s.detached.role = s.role := by
  rw [State.detached, role_setFlag _ (by decide), role_setFlag _ (by decide), role_setFlag _ (by decide)]
  rfl

theorem ready_detached : s.detached.ready = false := State.flag_setFlag_same _ _ _ _ (by decide)

theorem trained_detached : s.detached.flag Reg.TWN_STATUS 9 = false := by
  rw [State.detached, State.flag_setFlag_ne _ _ _ _ _ (by decide) (by decide), State.flag_setFlag_ne _ _ _ _ _ (by decide) (by decide),
    State.flag_setFlag_same _ _ _ _ (by decide)]

/-- The loss of T0 is no longer to be told. -/
def State.t0Told : State := { s with twn := { s.twn with t0Lost := false } }

theorem exec_t0Detach (hon : s.twinOn = true) (hup : s.flag Reg.TWN_STATUS 9 = true) : exec .t0Detach s = answer
    (let u := (if s.role = 2 then s.t0Told.stopMirror else s.t0Told).detached
     if s.role = 4 then ((({ u with twn := { u.twn with pins := List.replicate 8 false } } : State).setRole 5).log 0x1105 2 (leBytes 1 4))
     else if s.role = 2 then u.log 0x1105 2 (leBytes 1 2) else u) := by
  change execT0Detach s = _
  unfold execT0Detach
  rw [if_neg (by simp [hon, hup])]
  rfl

theorem exec_t0Detach_fallow (hon : s.twinOn = true) (hup : s.flag Reg.TWN_STATUS 9 = true) (hrole : s.role = 4) :
    ∃ t, exec .t0Detach s = .next t ∧ t.role = 5 ∧ t.flag Reg.TWN_STATUS 9 = false ∧ t.ready = false := by
  rw [exec_t0Detach s hon hup, hrole]
  dsimp only
  rw [if_neg (show ¬(4 = 2) by decide), if_pos rfl]
  refine ⟨_, rfl, ?_, ?_, ?_⟩
  · rw [role_showHealth, role_log _ _ _ _ (by decide), role_setRole _ (by decide)]
  · rw [flag_showHealth_twn, State.flag_log _ _ _ _ _ _ (by decide) (by decide), flag_setRole _ _ (by decide) (by decide)]
    exact trained_detached _
  · rw [ready_showHealth, ready_log _ _ _ _ (by decide)]
    exact (flag_setRole _ _ (by decide) (by decide)).trans (ready_detached _)

theorem exec_t0Detach_tilled (hon : s.twinOn = true) (hup : s.flag Reg.TWN_STATUS 9 = true) (hrole : s.role = 2) (hack : s.twn.unacked = []) :
    ∃ t, exec .t0Detach s = .next t ∧ t.role = 2 ∧ t.flag Reg.TWN_STATUS 9 = false ∧ t.ready = false := by
  have hmirror : s.t0Told.stopMirror = s.t0Told := stopMirror_of_none _ hack
  rw [exec_t0Detach s hon hup, hrole]
  dsimp only
  rw [if_pos rfl, if_neg (by decide), if_pos rfl, hmirror]
  refine ⟨_, rfl, ?_, ?_, ?_⟩
  · rw [role_showHealth, role_log _ _ _ _ (by decide), role_detached]
    exact hrole
  · rw [flag_showHealth_twn, State.flag_log _ _ _ _ _ _ (by decide) (by decide), trained_detached]
  · rw [ready_showHealth, ready_log _ _ _ _ (by decide), ready_detached]

/-- T0 is down, and the heartbeats missed are counted. -/
def State.partnerGone : State :=
  let u := (s.setFlag Reg.TWN_STATUS 9 false).setFlag Reg.TWN_STATUS 10 false
  if s.flag Reg.TWN_STATUS 9 then (u.bumpBy Reg.TWN_CNT_HB_MISS s.freshWord.toNat).useFree 1 else u

theorem role_partnerGone : s.partnerGone.role = s.role := by
  have hdown : ((s.setFlag Reg.TWN_STATUS 9 false).setFlag Reg.TWN_STATUS 10 false).role = s.role := by
    rw [role_setFlag _ (by decide), role_setFlag _ (by decide)]
  unfold State.partnerGone
  dsimp only
  split
  · exact (role_congr _ (State.reg_bumpBy_ne _ _ _ _ (by decide))).trans hdown
  · exact hdown

theorem twn_partnerGone : s.partnerGone.twn = s.twn := by
  unfold State.partnerGone
  dsimp only
  split <;> rfl

theorem elapsed_partnerGone : s.partnerGone.elapsed = s.elapsed := by
  unfold State.partnerGone
  dsimp only
  split <;> rfl

theorem exec_partnerLossDetect (hon : s.twinOn = true) : exec .partnerLossDetect s = answer
    (match s.partnerGone.role with
      | 2 => s.partnerGone.partnerLost 1
      | 4 => if s.ready then s.partnerGone.takeOver (s.partnerGone.elapsed - 500000) 2 else s.partnerGone.log 0x1108 2 (leBytes 1 2)
      | 5 => s.partnerGone.takeOver (s.partnerGone.elapsed - 500000) 2
      | _ => s.partnerGone) := by
  change execPartnerLossDetect s = _
  unfold execPartnerLossDetect
  rw [if_neg (by simp [hon])]
  rfl

theorem exec_partnerLossDetect_tilled (hon : s.twinOn = true) (hrole : s.role = 2) (hack : s.twn.unacked = []) :
    ∃ t, exec .partnerLossDetect s = .next t ∧ t.role = 1 := by
  have hgone : s.partnerGone.role = 2 := (role_partnerGone s).trans hrole
  have hgack : s.partnerGone.twn.unacked = [] := (congrArg TwnState.unacked (twn_partnerGone s)).trans hack
  rw [exec_partnerLossDetect s hon, hgone]
  rw [State.partnerLost, becomeSolo_of_tilled _ hgack hgone]
  refine ⟨(s.partnerGone.solo.log 0x1103 2 (leBytes 1 1)).showHealth, rfl, ?_⟩
  rw [role_showHealth, role_log _ _ _ _ (by decide), role_solo]

theorem exec_partnerLossDetect_ready (hon : s.twinOn = true) (hrole : s.role = 4) (hready : s.ready = true) :
    ∃ t, exec .partnerLossDetect s = .next t ∧ t.twn.ts = some (s.elapsed - 500000, 2) ∧ t.role = 4 := by
  have hgone : s.partnerGone.role = 4 := (role_partnerGone s).trans hrole
  rw [exec_partnerLossDetect s hon, hgone]
  rw [if_pos hready, elapsed_partnerGone]
  exact ⟨_, rfl, rfl, (role_showHealth _).trans hgone⟩

theorem exec_partnerLossDetect_unready (hon : s.twinOn = true) (hrole : s.role = 4) (hready : s.ready = false) :
    ∃ t, exec .partnerLossDetect s = .next t ∧ t.twn.ts = s.twn.ts ∧ t.role = 4 := by
  have hgone : s.partnerGone.role = 4 := (role_partnerGone s).trans hrole
  rw [exec_partnerLossDetect s hon, hgone]
  rw [if_neg (by simp [hready])]
  refine ⟨(s.partnerGone.log 0x1108 2 (leBytes 1 2)).showHealth, rfl, ?_, ?_⟩
  · rw [State.showHealth_twn, State.log_twn, twn_partnerGone]
  · rw [role_showHealth, role_log _ _ _ _ (by decide), hgone]

/-! ### Switch-over (R384, R385, R387) -/

theorem exec_switchInstant (hpair : s.role = 2 ∨ s.role = 4) (hready : s.ready = true) (hpend : s.twn.pendSwitch = none) :
    exec .switchInstant s = answer (if s.role = 2 then s.handOver else s.takeOver s.elapsed 1) := by
  change execSwitchInstant s = _
  unfold execSwitchInstant
  rw [hpend]
  dsimp only
  rw [if_neg (by rcases hpair with hr | hr <;> simp [hr]), if_neg (by simp [hready]), hpend]

theorem exec_switchInstant_fallow (hrole : s.role = 4) (hready : s.ready = true) (hpend : s.twn.pendSwitch = none) :
    ∃ t, exec .switchInstant s = .next t ∧ t.twn.ts = some (s.elapsed, 1) := by
  rw [exec_switchInstant s (.inr hrole) hready hpend, if_neg (by simp [hrole])]
  exact ⟨_, rfl, rfl⟩

/-- Where no operation runs, none is cut. -/
theorem cutOps_of_none (keep : Option Nat) (hops : s.hif.ops = []) : s.cutOps keep = { s with hif := { s.hif with cutShort := (0, 0) } } := by
  unfold State.cutOps
  rw [hops]
  rfl

theorem exec_switchInstant_tilled (hrole : s.role = 2) (hready : s.ready = true) (hpend : s.twn.pendSwitch = none) (hops : s.hif.ops = []) :
    ∃ t, exec .switchInstant s = .next t ∧ t.role = 4 ∧ t.twn.pins = s.alm.pins.map (fun (p : PinState) => p.active) := by
  have hnone : (s.release 4).hif.ops = [] := (congrArg HifState.ops (hif_setRole _ 4)).trans hops
  have hcut : s.handOver = _ := cutOps_of_none _ none hnone
  rw [exec_switchInstant s (.inl hrole) hready hpend, if_pos hrole, hcut]
  exact ⟨_, rfl, (role_showHealth _).trans (role_release s (by decide)), rfl⟩

theorem exec_releaseRequestRx_ready (hrole : s.role = 4) (hready : s.ready = true) :
    ∃ t, exec .releaseRequestRx s = .next t ∧ t.twn.ts = some (s.elapsed, 3) := by
  have hexec : exec .releaseRequestRx s = answer (s.takeOver s.elapsed 3) := congrArg answer ((if_neg (not_not_intro hrole)).trans (if_pos hready))
  exact ⟨_, hexec, rfl⟩

theorem exec_inputTriggerExpire_ready (hrole : s.role = 4) (hready : s.ready = true) (hon : s.flag Reg.TWN_CTRL 2 = true) :
    ∃ t, exec .inputTriggerExpire s = .next t ∧ t.twn.ts = some (s.elapsed, 4) := by
  have hexec : exec .inputTriggerExpire s = answer (s.takeOver s.elapsed 4) :=
    congrArg answer ((if_neg (by simp [hon])).trans ((if_pos hrole).trans (if_pos hready)))
  exact ⟨_, hexec, rfl⟩

/-- A takeover that begins: the role is TILLED, and what the switch-over waited for is over. -/
def State.takeoverBegun (cause : Nat) : State :=
  let s := { s with twn := { s.twn with ts := none, fallow := cause == 1 || cause == 4, pins := List.replicate 8 false } }
  (s.setRole 2).setFlag Reg.TWN_STATUS 8 false

/-- The pulse outputs continue from the mirror, unless T0 was detached. -/
def State.pulsesTaken (detached : Bool) : State := if detached then s else (List.range 8).foldl (fun (s : State) k => s.takePulse k) s

/-- Publications, R-SV counts and output streams continue from the mirror; how many rows were held. -/
def State.pubsTaken (detached : Bool) (since : Nat) : State × Nat :=
  let s := s.cyc.pubs.foldl (fun (s : State) x => s.takePub false detached since x) s
  let s := s.alm.pubs.foldl (fun (s : State) x => s.takePub true detached since x) s
  let s := (s.twn.pubs.filter (fun m => m.cls == .rsv)).foldl (fun (s : State) m => s.setReg (Reg.DEC_RSV_SPDU m.id) m.spdu) s
  s.dec.outs.foldl (fun (a : State × Nat) o => ((a.1.takeOutput o).1, a.2 + (a.1.takeOutput o).2)) (s, 0)

/-- The switch-over is shown and recorded. -/
def State.switchShown (cause gapNs : Nat) : State :=
  let s := ({ s with mtr := { s.mtr with points := s.mtr.points.map fun (m : Nat × MeterPoint) => (m.1, { m.2 with held := true }) } } : State).endMirrored
  (((s.setPair Reg.TWN_LAST_SW_LO Reg.TWN_LAST_SW_HI s.now).setReg Reg.TWN_LAST_CAUSE (Word.ofNat (cause + satNat 16 (gapNs / 1000) * 65536))).maxReg
    Reg.TWN_GAP_MAX (gapNs / 1000)).bump Reg.TWN_CNT_SWITCH

theorem exec_takeoverComplete_begun {ts cause : Nat} (hts : s.twn.ts = some (ts, cause)) :
    exec .takeoverComplete s = answer (
      let a := ((s.takeoverBegun cause).pulsesTaken (s.role = 5)).pubsTaken (s.role = 5) (s.now - (s.elapsed - ts))
      (a.1.switchShown cause (s.elapsed - ts)).log 0x1102 3
        (leBytes 1 cause ++ leBytes 1 0 ++ leBytes 2 (satNat 16 ((s.elapsed - ts) / 1000)) ++ leBytes 4 a.2)) := by
  change execTakeoverComplete s = _
  unfold execTakeoverComplete
  rw [hts]
  simp only [State.pulsesTaken, State.pubsTaken, State.takeoverBegun, State.switchShown, decide_eq_true_eq]

theorem pubsTaken_of_none (detached : Bool) (since : Nat) (hcyc : s.cyc.pubs = []) (halm : s.alm.pubs = []) (hpubs : s.twn.pubs = [])
    (houts : s.dec.outs = []) : s.pubsTaken detached since = (s, 0) := by
  unfold State.pubsTaken
  dsimp only
  rw [hcyc, List.foldl_nil, halm, List.foldl_nil, hpubs, List.filter_nil, List.foldl_nil, houts, List.foldl_nil]

/-- What neither the meters nor the pending pulses show stays as the pulse outputs continue. -/
theorem pulsesTaken_keeps {α : Type} (f : State → α) (hmtr : ∀ (t : State) x, f { t with mtr := x } = f t)
    (hreg : ∀ (t : State) (k : Nat) v, k < 8 → f (t.setReg (Reg.MTR_PULSE_PENDING k) v) = f t) (detached : Bool) : f (s.pulsesTaken detached) = f s := by
  unfold State.pulsesTaken
  split
  · rfl
  · refine foldl_keeps_mem _ f _ (fun t k hk => ?_) s
    unfold State.takePulse
    split
    · exact (hreg _ k _ (List.mem_range.mp hk)).trans (hmtr _ _)
    · rfl

theorem reg_pulsesTaken (detached : Bool) {a : Nat} (h : a / 0x100000 = 16) : (s.pulsesTaken detached).reg a = s.reg a := by
  refine pulsesTaken_keeps s (fun t => t.reg a) (fun _ _ => rfl) (fun t k v hk => t.reg_setReg_ne _ _ _ ?_) detached
  simp only [Reg.MTR_PULSE_PENDING]
  omega

theorem elapsed_takeoverBegun (cause : Nat) : (s.takeoverBegun cause).elapsed = s.elapsed := State.elapsed_of_tim (tim_setRole _ 2)

theorem reg_switchShown_ne (cause gapNs : Nat) {a : Nat} (h : a ∉ [Reg.TWN_LAST_SW_LO, Reg.TWN_LAST_SW_HI, Reg.TWN_LAST_CAUSE, Reg.TWN_GAP_MAX, Reg.TWN_CNT_SWITCH]) :
    (s.switchShown cause gapNs).reg a = s.reg a := by
  have hne {b : Nat} (hb : b ∈ [Reg.TWN_LAST_SW_LO, Reg.TWN_LAST_SW_HI, Reg.TWN_LAST_CAUSE, Reg.TWN_GAP_MAX, Reg.TWN_CNT_SWITCH]) : a ≠ b := fun e => h (e ▸ hb)
  unfold State.switchShown
  extract_lets _ ended
  rw [State.reg_bump_ne _ _ _ (hne (by decide)), State.reg_maxReg_ne _ _ _ _ (hne (by decide)), State.reg_setReg_ne _ _ _ _ (hne (by decide)),
    State.reg_setPair_ne _ _ _ _ _ (hne (by decide)) (hne (by decide))]
  rfl

theorem reg_switchShown_cause (cause gapNs : Nat) : (s.switchShown cause gapNs).reg Reg.TWN_LAST_CAUSE = Word.ofNat (cause + satNat 16 (gapNs / 1000) * 65536) := by
  unfold State.switchShown
  extract_lets _ ended
  rw [State.reg_bump_ne _ _ _ (by decide), State.reg_maxReg_ne _ _ _ _ (by decide), State.reg_setReg_same]

theorem reg_switchShown_count (cause gapNs : Nat) : (s.switchShown cause gapNs).reg Reg.TWN_CNT_SWITCH = satWord ((s.reg Reg.TWN_CNT_SWITCH).toNat + 1) := by
  unfold State.switchShown
  extract_lets _ ended
  rw [State.reg_bump_same, State.reg_maxReg_ne _ _ _ _ (by decide), State.reg_setReg_ne _ _ _ _ (by decide), State.reg_setPair_ne _ _ _ _ _ (by decide) (by decide)]
  rfl

theorem exec_takeoverComplete_tilled (ts cause : Nat) (hts : s.twn.ts = some (ts, cause)) (hcyc : s.cyc.pubs = []) (halm : s.alm.pubs = [])
    (hpubs : s.twn.pubs = []) (houts : s.dec.outs = []) : ∃ t, exec .takeoverComplete s = .next t ∧ t.role = 2 ∧ t.twn.ts = none ∧ t.ready = false
      ∧ t.reg Reg.TWN_LAST_CAUSE = Word.ofNat (cause + satNat 16 ((s.elapsed - ts) / 1000) * 65536)
      ∧ t.reg Reg.TWN_CNT_SWITCH = satWord ((s.reg Reg.TWN_CNT_SWITCH).toNat + 1) := by
  let u := (s.takeoverBegun cause).pulsesTaken (s.role = 5)
  have hkeeps {α : Type} (f : State → α) (hmtr : ∀ (t : State) x, f { t with mtr := x } = f t) (hreg : ∀ (t : State) a v, f (t.setReg a v) = f t) :
      f u = f (s.takeoverBegun cause) := pulsesTaken_keeps _ f hmtr (fun t _ v _ => hreg t _ v) _
  have hbegun {a : Nat} (h : a ≠ Reg.TWN_STATUS) : (s.takeoverBegun cause).reg a = s.reg a :=
    (State.reg_setFlag_ne _ _ _ _ _ h).trans (reg_setRole_ne _ 2 h)
  have htaken : u.pubsTaken (s.role = 5) (s.now - (s.elapsed - ts)) = (u, 0) := by
    refine pubsTaken_of_none u _ _ ?_ ?_ ?_ ?_
    · exact (hkeeps (fun t => t.cyc.pubs) (fun _ _ => rfl) fun _ _ _ => rfl).trans ((congrArg CycState.pubs (cyc_setRole _ 2)).trans hcyc)
    · exact (hkeeps (fun t => t.alm.pubs) (fun _ _ => rfl) fun _ _ _ => rfl).trans ((almPubs_setRole _ 2).trans halm)
    · exact (hkeeps (fun t => t.twn.pubs) (fun _ _ => rfl) fun _ _ _ => rfl).trans ((congrArg TwnState.pubs (twn_setRole _ 2)).trans hpubs)
    · exact (hkeeps (fun t => t.dec.outs) (fun _ _ => rfl) fun _ _ _ => rfl).trans ((congrArg DecState.outs (dec_setRole _ 2)).trans houts)
  rw [exec_takeoverComplete_begun s hts, htaken]
  dsimp only
  have hstatus : (u.switchShown cause (s.elapsed - ts)).reg Reg.TWN_STATUS = (s.takeoverBegun cause).reg Reg.TWN_STATUS :=
    (reg_switchShown_ne u _ _ (by decide)).trans (reg_pulsesTaken _ _ (by decide))
  refine ⟨_, rfl, ?_, ?_, ?_, ?_, ?_⟩
  · rw [role_showHealth, role_log _ _ _ _ (by decide), role_congr _ hstatus]
    exact (role_setFlag _ (by decide) _).trans (role_setRole _ (by decide))
  · rw [State.showHealth_twn, State.log_twn]
    refine (hkeeps (fun t => t.twn.ts) (fun _ _ => rfl) fun _ _ _ => rfl).trans ?_
    exact (congrArg TwnState.ts (twn_setRole _ 2) :)
  · rw [ready_showHealth, ready_log _ _ _ _ (by decide), ready_congr _ hstatus]
    exact State.flag_setFlag_same _ _ _ _ (by decide)
  · rw [State.reg_showHealth_ne _ _ (by decide), State.reg_log _ _ _ _ _ (by decide) (by decide), reg_switchShown_cause]
  · rw [State.reg_showHealth_ne _ _ (by decide), State.reg_log _ _ _ _ _ (by decide) (by decide), reg_switchShown_count,
      reg_pulsesTaken _ _ (by decide), hbegun (by decide)]
end

/-- Settles O41: every change of role passes through setRole, which shows the role and leaves the other flags of TWN_STATUS. -/
theorem twinRoles : Obligations.TwinRoles :=
  ⟨fun _ _ => exec_t0Trained_pairing, fun _ _ => exec_t0Trained_driving, fun _ _ => exec_t0Trained_conflict, exec_partnerWaitExpire_solo,
    exec_pairingSyncDone_lead, exec_pairingSyncDone_follow, exec_pairingTimeout_over, exec_selfTestFail_fallow, exec_t0Detach_fallow, exec_t0Detach_tilled,
    exec_partnerLossDetect_tilled, exec_partnerLossDetect_ready, exec_partnerLossDetect_unready, exec_switchInstant_fallow, exec_switchInstant_tilled,
    exec_releaseRequestRx_ready, exec_inputTriggerExpire_ready, exec_takeoverComplete_tilled⟩

end Sys2Proof.Machine
end

section
/-!
PROOFS of the statement on the routes of joined systems (R358 to R362, R370).
-/
namespace Sys2Proof.Machine

/-! ### What Hedgerow knows of the devices, and of the placement under way -/

/-- The devices known, the placement under way, and the graphs that left and arrived stay as they were. -/
structure KeepsPlaces (s t : State) : Prop where
  devices : t.hgw.devices = s.hgw.devices
  pending : t.hgw.pending = s.hgw.pending
  away : t.hgw.away = s.hgw.away
  guests : t.hgw.guests = s.hgw.guests

namespace KeepsPlaces

variable {s t u : State}

theorem refl (s : State) : KeepsPlaces s s := ⟨rfl, rfl, rfl, rfl⟩

theorem trans (h : KeepsPlaces s t) (k : KeepsPlaces t u) : KeepsPlaces s u :=
  ⟨k.devices.trans h.devices, k.pending.trans h.pending, k.away.trans h.away, k.guests.trans h.guests⟩

theorem foldl {β : Type} (f : State → β → State) (h : ∀ s b, KeepsPlaces s (f s b)) (l : List β) (s : State) : KeepsPlaces s (l.foldl f s) := by
  induction l generalizing s with
  | nil => exact refl s
  | cons b r ih => exact (h s b).trans (ih _)

theorem ite {c : Prop} [Decidable c] (ht : KeepsPlaces s t) (hu : KeepsPlaces s u) : KeepsPlaces s (if c then t else u) := by
  split
  · exact ht
  · exact hu

theorem of_hgw (h : t.hgw = s.hgw) : KeepsPlaces s t := by
  constructor <;> rw [h]

theorem of_still (h : t.still = s.still) : KeepsPlaces s t :=
  ⟨(congrArg (fun x : State => x.hgw.devices) h :), (congrArg (fun x : State => x.hgw.pending) h :), (congrArg (fun x : State => x.hgw.away) h :),
    (congrArg (fun x : State => x.hgw.guests) h :)⟩

theorem setReg (s : State) (a : Nat) (v : Word) : KeepsPlaces s (s.setReg a v) := of_hgw rfl

theorem setField (s : State) (a hi lo v : Nat) : KeepsPlaces s (s.setField a hi lo v) := of_hgw rfl

theorem setFlag (s : State) (a n : Nat) (b : Bool) : KeepsPlaces s (s.setFlag a n b) := of_hgw rfl

theorem bump (s : State) (a : Nat) : KeepsPlaces s (s.bump a) := of_hgw rfl

theorem useFree (s : State) (n : Nat) : KeepsPlaces s (s.useFree n) := of_hgw rfl

theorem log (s : State) (code sev : Nat) (p : List Byte) : KeepsPlaces s (s.log code sev p) := of_still (Reports.still_submit s _)

theorem hgwSend (s : State) (dst : Nat) (c : HgwClass) (b : HgwBody) : KeepsPlaces s (s.hgwSend dst c b) := of_still (Reports.still_hgwSend s dst c b)

theorem modLink (s : State) (l : Nat) (f : LinkState → LinkState) : KeepsPlaces s (s.modLink l f) := ⟨rfl, rfl, rfl, rfl⟩

theorem linkQueue (s : State) (l : Nat) (p : HgwPacket) : KeepsPlaces s (s.linkQueue l p) := by
  unfold State.linkQueue
  split <;> exact ⟨rfl, rfl, rfl, rfl⟩

theorem routePacket (s : State) (p : HgwPacket) : KeepsPlaces s (s.routePacket p) := by
  unfold State.routePacket
  split
  · split
    · exact linkQueue s _ p
    · exact bump s _
  · exact bump s _

/-! #### What follows a change of routes (R359, R362) -/

theorem reroute (s : State) : KeepsPlaces s s.reroute := by
  unfold State.reroute
  extract_lets down waiting emptied
  have hemptied : KeepsPlaces s emptied := foldl _ (fun t l => modLink t l _) _ s
  refine hemptied.trans (foldl _ (fun t p => ?_) _ _)
  split
  · exact refl t
  · exact routePacket t p

theorem releaseHeld (s : State) (d : Nat) : KeepsPlaces s (s.releaseHeld d) := by
  unfold State.releaseHeld
  extract_lets mine rest _ dropped
  have hdropped : KeepsPlaces s dropped := of_hgw rfl
  refine hdropped.trans (foldl _ (fun t h => ?_) _ _)
  split
  · have hsend (output dest : Nat) : KeepsPlaces t (t.sendPeer output dest h.2.1 h.2.2) := by
      unfold State.sendPeer
      split
      · exact hgwSend t _ _ _
      · exact refl t
    exact (hsend _ _).trans (of_hgw rfl)
  · exact refl t

theorem showDest (s : State) (d : Nat) : KeepsPlaces s (s.showDest d) := by
  unfold State.showDest
  split
  · exact setReg s _ _
  · exact refl s

theorem updateDest (s : State) (d : Nat) : KeepsPlaces s (s.updateDest d) := by
  unfold State.updateDest
  split
  · extract_lets live t _ changed shown body
    have hchanged : KeepsPlaces s changed := of_hgw rfl
    have hshown : KeepsPlaces s shown := hchanged.trans (showDest changed d)
    exact ite (refl s) (ite ((hshown.trans (log shown _ _ _)).trans (releaseHeld _ d)) ((hshown.trans (bump shown _)).trans (log _ _ _ _)))
  · exact refl s

theorem updateDests (s : State) : KeepsPlaces s s.updateDests := ite (foldl _ updateDest _ s) (refl s)

theorem checkDistance (s : State) : KeepsPlaces s s.checkDistance := by
  unfold State.checkDistance
  extract_lets far new _ noted
  have hnoted : KeepsPlaces s noted := ⟨rfl, rfl, rfl, rfl⟩
  exact hnoted.trans (foldl _ (fun t p => log t _ _ _) _ _)

theorem showLc0 (s : State) : KeepsPlaces s s.showLc0 := foldl _ (fun t _ => setFlag t _ _ _) _ s

theorem showLinks (s : State) : KeepsPlaces s s.showLinks := (setField s _ _ _ _).trans (setField _ _ _ _ _)

theorem setStep (s : State) (l n : Nat) : KeepsPlaces s (s.setStep l n) :=
  ite (refl s) ((((setField s _ _ _ _).trans (bump _ _)).trans (modLink _ _ _)).trans (showLinks _))

theorem sendMoves (s : State) : KeepsPlaces s s.sendMoves := by
  unfold State.sendMoves
  extract_lets ready _ sent
  have hsent : KeepsPlaces s sent := ⟨rfl, rfl, rfl, rfl⟩
  refine hsent.trans (foldl _ (fun t x => ?_) _ _)
  dsimp only
  split
  · exact hgwSend t _ _ _
  · exact refl t

theorem showReach (s : State) : KeepsPlaces s s.showReach := (setField s _ _ _ _).trans (setFlag _ _ _ _)

theorem showRoute (s : State) : KeepsPlaces s s.showRoute := by
  unfold State.showRoute
  extract_lets d
  refine ite ((setReg s _ _).trans (setReg _ _ _)) ?_
  split
  · exact (setReg s _ _).trans (ite (setReg _ _ _) (ite (setReg _ _ _) ((setReg _ _ _).trans (useFree _ _))))
  · exact (setReg s _ _).trans (setReg _ _ _)

theorem routesChanged (s : State) : KeepsPlaces s s.routesChanged := by
  unfold State.routesChanged
  extract_lets open_ _ cleared shown stepped
  have hcleared : KeepsPlaces s cleared := ⟨rfl, rfl, rfl, rfl⟩
  have hshown : KeepsPlaces s shown := (((hcleared.trans (reroute cleared)).trans (updateDests _)).trans (checkDistance _)).trans (showLc0 _)
  have hstepped : KeepsPlaces shown stepped := foldl _ (fun t l => ite (setStep t l 0) (refl t)) _ _
  exact ((hshown.trans hstepped).trans (sendMoves stepped)).trans ((showReach _).trans (showRoute _))

theorem sendAll (s : State) (b : HgwBody) : KeepsPlaces s (s.sendAll b) := foldl _ (fun t d => hgwSend t d _ b) _ s

end KeepsPlaces

/-! ### Routes (R358, R359) -/

section
variable (s : State)

/-- The devices with the routes that the links now known give. -/
def State.rerouted : List (Nat × DeviceInfo) :=
  s.hgw.devices.map fun (x : Nat × DeviceInfo) => if x.1 = s.ownId then x else (x.1, s.routeOf (s.ownLinks.map (fun y => (y.1, s.hopsFrom y.2))) x.1 x.2)

theorem exec_routeRecompute_on (hon : s.flag Reg.HGW_CTRL 0 = true) : ∃ t, exec .routeRecompute s = .next t ∧ t.hgw.devices = s.rerouted := by
  obtain ⟨u, hexec, hu⟩ : ∃ u, exec .routeRecompute s = answer u ∧ u.hgw.devices = s.rerouted := by
    change ∃ u, execRouteRecompute s = answer u ∧ _
    unfold execRouteRecompute
    extract_lets t old new _ known lost told noted
    rw [if_neg (by simp [hon])]
    refine ⟨_, rfl, ?_⟩
    split
    · rename_i hsame
      exact (KeepsPlaces.reroute s).devices.trans hsame.symm
    · have htold : KeepsPlaces known told := KeepsPlaces.log known _ _ _
      have hnoted : KeepsPlaces told noted := KeepsPlaces.foldl _ (fun v x => KeepsPlaces.log v _ _ _) _ _
      exact ((htold.trans hnoted).trans (KeepsPlaces.routesChanged noted)).devices
  rw [hexec]
  exact ⟨_, rfl, hu⟩

theorem exec_routeTimeout_unheard (device : Nat) (x : DeviceInfo) (hx : kvGet s.hgw.devices device = some x) (hup : x.up = true)
    (htime : x.lastMsg + 30000000 < s.elapsed) :
    ∃ t y, exec (.routeTimeout device) s = .next t ∧ kvGet t.hgw.devices device = some y ∧ y.up = false ∧ y.first = none ∧ y.seq = x.seq := by
  let down : State := { s with hgw := { s.hgw with
    devices := kvMod s.hgw.devices device fun y => { y with up := false, first := none, hops := 0, links := [] } } }
  have hexec : exec (.routeTimeout device) s = answer ((down.log 0x1004 2 (leBytes 2 device)).routesChanged) := by
    change execRouteTimeout device s = _
    unfold execRouteTimeout
    rw [hx]
    exact congrArg answer (if_pos (by simp [hup, htime]))
  have hkeeps : KeepsPlaces down ((down.log 0x1004 2 (leBytes 2 device)).routesChanged) := (KeepsPlaces.log down _ _ _).trans (.routesChanged _)
  refine ⟨_, { x with up := false, first := none, hops := 0, links := [] }, hexec, ?_, rfl, rfl, rfl⟩
  rw [State.showHealth_hgw, hkeeps.devices]
  change kvGet (kvMod s.hgw.devices device fun y => { y with up := false, first := none, hops := 0, links := [] }) device = _
  rw [kvGet_kvMod, if_pos rfl, hx, Option.map_some]

theorem exec_routeTimeout_heard (device : Nat) (x : DeviceInfo) (hx : kvGet s.hgw.devices device = some x) (htime : s.elapsed ≤ x.lastMsg + 30000000) :
    exec (.routeTimeout device) s = .next s.showHealth := by
  change execRouteTimeout device s = _
  unfold execRouteTimeout
  rw [hx]
  exact congrArg answer (if_neg (by simp [Nat.not_lt.mpr htime]))

/-! ### Forwarded sections (R360, R361) -/

variable {s} {owner rg sec tag : Nat} {x : FwdSection}

theorem fwdHold_of_known (hx : s.hgw.fwd.find? (fun x => x.owner == owner && x.rg == rg && x.sec == sec) = some x) : s.fwdHold owner rg sec = s := by
  have hkey := List.find?_some hx
  refine if_pos (List.any_eq_true.mpr ⟨x, List.mem_of_find?_eq_some hx, ?_⟩)
  simp only [Bool.and_eq_true, beq_iff_eq] at hkey
  obtain ⟨⟨howner, hrg⟩, hsec⟩ := hkey
  simp [howner, hrg, hsec]

/-- A row that is released to the Harrow: the section keeps its tag, and its graphs are triggered. -/
theorem fwdRelease_of_open (hx : s.hgw.fwd.find? (fun x => x.owner == owner && x.rg == rg && x.sec == sec) = some x) (hopen : x.released.contains tag = false)
    (idx : Nat) : s.fwdRelease owner rg sec tag idx = (s.modFwd owner rg sec fun x => x.release tag).triggerGraphs (.section_ (guestGroup owner rg) sec) tag
      (some (guestGroup owner rg, idx)) (some s.now) := by
  unfold State.fwdRelease
  rw [hx]
  exact if_neg (by simp only [hopen]; decide)

theorem fwdRelease_of_released (hx : s.hgw.fwd.find? (fun x => x.owner == owner && x.rg == rg && x.sec == sec) = some x) (hdone : x.released.contains tag = true)
    (idx : Nat) : s.fwdRelease owner rg sec tag idx = s := by
  unfold State.fwdRelease
  rw [hx]
  exact if_pos hdone

theorem exec_closureTokenRx_open (flags : Byte) (seq : Word) (onDl : Bool)
    (hx : s.hgw.fwd.find? (fun x => x.owner == owner && x.rg == rg && x.sec == sec) = some x) (hopen : x.released.contains tag = false) :
    ∃ t, exec (.closureTokenRx owner rg sec tag flags seq onDl) s = .next t
      ∧ t.hgw.fwd = s.hgw.fwd.map (fun (x : FwdSection) => if x.owner == owner && x.rg == rg && x.sec == sec then x.release tag else x)
      ∧ t = (((s.modFwd owner rg sec (fun x => x.release tag)).triggerGraphs (.section_ (guestGroup owner rg) sec) tag
        (some (guestGroup owner rg, seq.toNat)) (some s.now)).showHealth) := by
  have hexec : exec (.closureTokenRx owner rg sec tag flags seq onDl) s = answer ((s.fwdHold owner rg sec).fwdRelease owner rg sec tag seq.toNat) := rfl
  rw [hexec, fwdHold_of_known hx, fwdRelease_of_open hx hopen]
  exact ⟨_, rfl, rfl, rfl⟩

theorem exec_closureTokenRx_again (flags : Byte) (seq : Word) (onDl : Bool)
    (hx : s.hgw.fwd.find? (fun x => x.owner == owner && x.rg == rg && x.sec == sec) = some x) (hdone : x.released.contains tag = true) :
    exec (.closureTokenRx owner rg sec tag flags seq onDl) s = .next s.showHealth := by
  have hexec : exec (.closureTokenRx owner rg sec tag flags seq onDl) s = answer ((s.fwdHold owner rg sec).fwdRelease owner rg sec tag seq.toNat) := rfl
  rw [hexec, fwdHold_of_known hx, fwdRelease_of_released hx hdone]
  rfl

theorem exec_fwdSectionTimeout_over (hx : s.hgw.fwd.find? (fun x => x.owner == owner && x.rg == rg && x.sec == sec) = some x)
    (hopen : x.released.contains tag = false) (hmax : x.hmax ≠ 0) (htime : tag + x.hmax + 28000 ≤ s.now) :
    ∃ t, exec (.fwdSectionTimeout owner rg sec tag) s = .next t
      ∧ t.hgw.fwd = s.hgw.fwd.map (fun (x : FwdSection) => if x.owner == owner && x.rg == rg && x.sec == sec then x.release tag else x)
      ∧ t.reg Reg.HGW_CNT_FWD_TIMEOUT = satWord ((s.reg Reg.HGW_CNT_FWD_TIMEOUT).toNat + 1)
      ∧ t = (((s.fwdRelease owner rg sec tag s.freshWord.toNat).useFree 1).bump Reg.HGW_CNT_FWD_TIMEOUT).showHealth := by
  have hexec : exec (.fwdSectionTimeout owner rg sec tag) s = answer (((s.fwdRelease owner rg sec tag s.freshWord.toNat).useFree 1).bump Reg.HGW_CNT_FWD_TIMEOUT) := by
    change execFwdSectionTimeout owner rg sec tag s = _
    unfold execFwdSectionTimeout
    rw [hx]
    exact congrArg answer (if_neg (by simp only [hopen]; simp [hmax, Nat.not_lt.mpr htime]))
  rw [hexec]
  refine ⟨_, rfl, ?_, ?_, rfl⟩
  · rw [fwdRelease_of_open hx hopen]
    rfl
  · rw [State.reg_showHealth_ne _ _ (by decide), State.reg_bump_same, fwdRelease_of_open hx hopen]
    rfl

theorem exec_fwdSectionTimeout_before (hx : s.hgw.fwd.find? (fun x => x.owner == owner && x.rg == rg && x.sec == sec) = some x)
    (htime : s.now < tag + x.hmax + 28000) : exec (.fwdSectionTimeout owner rg sec tag) s = .next s.showHealth := by
  change execFwdSectionTimeout owner rg sec tag s = _
  unfold execFwdSectionTimeout
  rw [hx]
  exact congrArg answer (if_pos (by simp [htime]))

/-! ### Placement (R370) -/

theorem exec_xplacementAckDeadline_missing {p : XPlacement} {d : Nat × DeviceInfo} (hp : s.hgw.pending = some p) (hcoord : s.coordinator = s.ownId)
    (htime : p.boundary * 1000000000 ≤ s.now + 100000000) (hd : s.hgw.devices.find? (fun d => d.1 != s.ownId && !p.acks.contains d.1) = some d) :
    ∃ t, exec .xplacementAckDeadline s = .next t ∧ t.hgw.pending = none ∧ t.hgw.away = s.hgw.away ∧ t.hgw.guests = s.hgw.guests := by
  let dropped : State := { s with hgw := { s.hgw with pending := none } }
  have hexec : exec .xplacementAckDeadline s = answer ((dropped.sendAll (.withdraw p.ver)).log 0x1008 1 (leBytes 4 p.ver ++ leBytes 2 d.1)) := by
    change execXplacementAckDeadline s = _
    unfold execXplacementAckDeadline
    rw [hp]
    dsimp only
    rw [hd, if_neg (by simp [hcoord, Nat.not_lt.mpr htime])]
  have hkeeps : KeepsPlaces dropped ((dropped.sendAll (.withdraw p.ver)).log 0x1008 1 (leBytes 4 p.ver ++ leBytes 2 d.1)) :=
    (KeepsPlaces.sendAll dropped _).trans (.log _ _ _ _)
  rw [hexec]
  exact ⟨_, rfl, hkeeps.pending, hkeeps.away, hkeeps.guests⟩

theorem exec_xplacementAckDeadline_before {p : XPlacement} (hp : s.hgw.pending = some p) (htime : s.now + 100000000 < p.boundary * 1000000000) :
    exec .xplacementAckDeadline s = .next s.showHealth := by
  change execXplacementAckDeadline s = _
  unfold execXplacementAckDeadline
  rw [hp]
  exact congrArg answer (if_pos (by simp [htime]))
end

/-- Settles O40: what follows a change of routes keeps the routes, and a release changes only the tags of its section and the graphs. -/
theorem joinedRoutes : Obligations.JoinedRoutes :=
  ⟨exec_routeRecompute_on, exec_routeTimeout_unheard, exec_routeTimeout_heard, fun _ _ _ _ _ flags seq onDl _ => exec_closureTokenRx_open flags seq onDl,
    fun _ _ _ _ _ flags seq onDl _ => exec_closureTokenRx_again flags seq onDl, fun _ _ _ _ _ _ => exec_fwdSectionTimeout_over,
    fun _ _ _ _ _ _ => exec_fwdSectionTimeout_before, fun _ _ _ => exec_xplacementAckDeadline_missing, fun _ _ => exec_xplacementAckDeadline_before⟩

end Sys2Proof.Machine
end

section
/-!
PROOFS of the statement on the recorders (R313 to R325): what a recorder's operations leave of a state.
-/
namespace Sys2Proof.Machine

/-! ### What the operations of a recorder may change -/

/-- All that no recorder, log entry, error or queue operation changes, registers and DRAM aside. -/
def State.stillRec (s : State) : State := { s.still with cap := {}, shadow := [] }

/-- The registers that a commit of a recorder may give another value. -/
def CapStaged (r a : Nat) : Prop := Reg.CAP_R_CTRL r ≤ a ∧ a < Reg.CAP_R_CTRL r + 0x200 ∧ stagedMask a ≠ 0

/-- The registers in which a commit of a recorder shows. -/
def capCommitRegs : List Nat := [Reg.CAP_COMMIT, Reg.CAP_COMMIT_STAT]

/-- The registers in which a recorder's state, its store and its commit show. -/
def settleRegs (r : Nat) : List Nat := [Reg.CAP_STATUS, Reg.CAP_R_STATUS r, Reg.CAP_R_STORE_FREE r] ++ capCommitRegs

/-- These, and the counters of a recorder. -/
def recRegs (r : Nat) : List Nat :=
  [Reg.CAP_CNT_CAPTURES, Reg.CAP_CNT_OVERFLOW, Reg.CAP_R_CNT_CAPTURES r, Reg.CAP_R_CNT_MISSED r, Reg.CAP_R_CNT_LATER r, Reg.CAP_R_CNT_OVERWRITTEN r]
    ++ settleRegs r

/-- A step of a recorder that writes only some registers, those of the log, and those that it commits. -/
structure Records (l : List Nat) (r : Nat) (s t : State) : Prop where
  still : t.stillRec = s.stillRec
  reg : ∀ a, a ∉ l → a ∉ logRegs → ¬CapStaged r a → t.reg a = s.reg a

namespace Records

variable {l m : List Nat} {r : Nat} {s t u : State}

theorem refl (s : State) : Records l r s s := ⟨rfl, fun _ _ _ _ => rfl⟩

theorem trans (h : Records l r s t) (k : Records l r t u) : Records l r s u :=
  ⟨k.still.trans h.still, fun a ha hlog hstaged => (k.reg a ha hlog hstaged).trans (h.reg a ha hlog hstaged)⟩

theorem mono (h : Records l r s t) (hm : l ⊆ m) : Records m r s t := ⟨h.still, fun a ha => h.reg a fun hl => ha (hm hl)⟩

theorem foldl {β : Type} (f : State → β → State) (h : ∀ s b, Records l r s (f s b)) (k : List β) (s : State) : Records l r s (k.foldl f s) := by
  induction k generalizing s with
  | nil => exact refl s
  | cons b k ih => exact (h s b).trans (ih _)

theorem ite {c : Prop} [Decidable c] (ht : Records l r s t) (hu : Records l r s u) : Records l r s (if c then t else u) := by
  split
  · exact ht
  · exact hu

theorem of_regs (h : t.stillRec = s.stillRec) (hr : t.regs = s.regs) : Records l r s t := ⟨h, fun a _ _ _ => congrArg (smGet regReset · a) hr⟩

theorem setReg (s : State) {a : Nat} (v : Word) (h : a ∈ l) : Records l r s (s.setReg a v) :=
  ⟨rfl, fun b hb _ _ => s.reg_setReg_ne a b v fun e => hb (e ▸ h)⟩

theorem setField (s : State) {a : Nat} (hi lo v : Nat) (h : a ∈ l) : Records l r s (s.setField a hi lo v) := setReg s _ h

theorem setFlag (s : State) {a : Nat} (n : Nat) (b : Bool) (h : a ∈ l) : Records l r s (s.setFlag a n b) := setReg s _ h

theorem bump (s : State) {a : Nat} (h : a ∈ l) : Records l r s (s.bump a) := setReg s _ h

theorem log (s : State) (code sev : Nat) (p : List Byte) (h : sev ≤ 4) : Records l r s (s.log code sev p) :=
  ⟨congrArg (fun x : State => { x with cap := {}, shadow := [] }) (Reports.log (q := 0) s code sev p h).still, fun a _ hlog _ => s.reg_log code sev p a h hlog⟩

theorem modRec (s : State) (n : Nat) (f : RecorderState → RecorderState) : Records l r s (s.modRec n f) := of_regs rfl rfl

theorem setRecState (s : State) (n : Nat) (hsettle : settleRegs r ⊆ l) : Records l r s (s.setRecState r n) :=
  ((setField s _ _ _ (hsettle (by simp [settleRegs]))).trans (setFlag _ _ _ (hsettle (by simp [settleRegs])))).trans
    (setFlag _ _ _ (hsettle (by simp [settleRegs])))

theorem armRec (s : State) (hsettle : settleRegs r ⊆ l) : Records l r s (s.armRec r) := (modRec s r _).trans (setRecState _ 1 hsettle)

theorem showStore (s : State) (hsettle : settleRegs r ⊆ l) : Records l r s (s.showStore r) := by
  unfold State.showStore
  split
  · exact (setReg s _ (hsettle (by simp [settleRegs]))).trans (setField _ _ _ _ (hsettle (by simp [settleRegs])))
  · exact refl s

/-! #### Commits (R325) -/

/-- A register without staged fields keeps its value over a commit. -/
theorem staged_of_mask {a : Nat} (s : State) (h : stagedMask a = 0) : s.staged a = s.reg a := by
  unfold State.staged
  split
  · have hnone : stagedMask a = 0#32 := h
    rw [hnone, BitVec.not_zero, BitVec.and_allOnes, BitVec.and_zero, BitVec.or_zero]
  · rfl

theorem commitRange (s : State) : Records l r s (s.commitRange (Reg.CAP_R_CTRL r) 0x200) := by
  refine ⟨foldl_keeps (fun (t : State) (p : Nat × Word) => t.commitReg p.1) State.stillRec (fun _ _ => rfl) _ s, fun a _ _ hstaged => ?_⟩
  by_cases hin : Reg.CAP_R_CTRL r ≤ a ∧ a < Reg.CAP_R_CTRL r + 0x200
  · rw [State.reg_commitRange s hin]
    exact staged_of_mask s (Decidable.byContradiction fun h => hstaged ⟨hin.1, hin.2, h⟩)
  · exact State.reg_commitRange_ne s hin

theorem capTryCommit (s : State) : Records capCommitRegs r s (s.capTryCommit r) := by
  unfold State.capTryCommit
  split
  · refine ite ?_ (refl s)
    extract_lets asked
    have hasked : Records capCommitRegs r s asked := setFlag s _ _ (by decide)
    split
    · exact ((hasked.trans (setFlag _ _ _ (by decide))).trans (setField _ _ _ _ (by decide))).trans (log _ _ _ _ (by decide))
    · exact (hasked.trans (commitRange _)).trans (modRec _ _ _)
  · exact refl s

theorem settled (s : State) (hsettle : settleRegs r ⊆ l) : Records l r s ((s.showStore r).capTryCommit r) :=
  (showStore s hsettle).trans ((capTryCommit _).mono fun _ ha => hsettle (List.mem_append_right _ ha))

/-! #### The store and the captures (R313 to R320) -/

theorem subset_recRegs (r : Nat) : settleRegs r ⊆ recRegs r := List.subset_append_right _ _

theorem overwriteOldest (s : State) : Records (recRegs r) r s (s.overwriteOldest r) := by
  unfold State.overwriteOldest
  split
  · split
    · exact ((modRec s r _).trans (bump _ (by simp [recRegs]))).trans (log _ _ _ _ (by decide))
    · exact refl s
  · exact refl s

theorem makeRoom (n fuel : Nat) (s : State) : Records (recRegs r) r s (State.makeRoom r n fuel s).1 := by
  induction fuel generalizing s with
  | zero => exact refl s
  | succ fuel ih =>
    unfold State.makeRoom
    split
    · split
      · exact refl s
      · split
        · exact (overwriteOldest s).trans (ih _)
        · exact refl s
    · exact refl s

theorem closeCapture (s : State) (flags : Half) (hold : Bool) : Records (recRegs r) r s (s.closeCapture r flags hold) := by
  unfold State.closeCapture
  split
  · split
    · extract_lets _ _ _ _ _ _ _ _ _ stored counted shown told settled
      have hcounted : Records (recRegs r) r s counted := ((modRec s r _).trans (bump stored (by simp [recRegs]))).trans (bump _ (by simp [recRegs]))
      have htold : Records (recRegs r) r s told :=
        (hcounted.trans (setFlag counted _ _ (subset_recRegs r (by simp [settleRegs])))).trans (log shown _ _ _ (by decide))
      have hsettled : Records (recRegs r) r told settled :=
        ite (setRecState _ _ (subset_recRegs r)) (ite (armRec _ (subset_recRegs r)) (setRecState _ _ (subset_recRegs r)))
      exact (htold.trans hsettled).trans (Records.settled settled (subset_recRegs r))
    · exact refl s
  · exact refl s

theorem overflow (s : State) (cause : Nat) (hold : Bool) : Records (recRegs r) r s (s.overflow r cause hold) := by
  unfold State.overflow
  split
  · exact ((bump s (by simp [recRegs])).trans (log _ _ _ _ (by decide))).trans (closeCapture _ _ hold)
  · exact refl s

theorem storeFrame (s : State) (hold : Bool) (f : CapFrame) : Records (recRegs r) r s (s.storeFrame r hold f) := by
  unfold State.storeFrame
  split
  next x _ =>
    split
    · refine ite (refl s) ?_
      have hroom : Records (recRegs r) r s (s.roomFor r (s.recStride r x)).1 := makeRoom _ _ s
      generalize s.roomFor r (s.recStride r x) = room at hroom ⊢
      exact ite ((hroom.trans (modRec _ r _)).trans (showStore _ (subset_recRegs r))) (hroom.trans (overflow _ 1 hold))
    · exact refl s
  · exact refl s

theorem laterTrigger (s : State) (k : Nat) : Records (recRegs r) r s (s.laterTrigger r k) := by
  unfold State.laterTrigger
  split
  · split
    · extract_lets _ _ more _ grown counted
      have hcounted : Records (recRegs r) r s counted := (modRec s r _).trans (bump _ (by simp [recRegs]))
      exact hcounted.trans (foldl _ (fun t _ => storeFrame t false _) more counted)
    · exact refl s
  · exact refl s

theorem missFiring (s : State) (cond : Nat) (quiet : Bool) : Records (recRegs r) r s (s.missFiring r cond quiet) := by
  unfold State.missFiring
  extract_lets counted
  have hcounted : Records (recRegs r) r s counted := bump s (by simp [recRegs])
  split
  · exact ite hcounted ((hcounted.trans (modRec counted r _)).trans (log _ _ _ _ (by decide)))
  · exact hcounted

theorem foundFiring (s : State) (f : Firing) : Records (recRegs r) r s (s.foundFiring r f) := by
  unfold State.foundFiring
  split
  · refine ite ?_ (ite (laterTrigger s _) (missFiring s _ _))
    extract_lets _ gathered
    have hgathered : Records (recRegs r) r s gathered := modRec s r _
    exact ite (hgathered.trans (setFlag _ _ _ (subset_recRegs r (by simp [settleRegs])))) hgathered
  · exact refl s

theorem fireDiscrete (s : State) (c tc : Nat) : Records (recRegs r) r s (s.fireDiscrete r c tc) := by
  unfold State.fireDiscrete
  split
  · split
    · exact ite (missFiring s c true) (foundFiring s _)
    · exact modRec s r _
  · exact refl s

end Records

/-! ### What a recorder keeps of its captures and marks -/

/-- The stored captures of a recorder, its open one without events, and its marks. -/
def RecorderState.store (x : RecorderState) : List Capture × Option Capture × List Nat :=
  (x.stored, x.active.map fun c => { c with events := [] }, x.marks)

/-- A step that keeps the stored captures, the open one and the marks of a recorder. -/
def KeepsStore (r : Nat) (s t : State) : Prop := (t.recorder r).map RecorderState.store = (s.recorder r).map RecorderState.store

namespace KeepsStore

variable {r : Nat} {s t u : State}

theorem refl (s : State) : KeepsStore r s s := rfl

theorem trans (h : KeepsStore r s t) (k : KeepsStore r t u) : KeepsStore r s u := Eq.trans k h

theorem ite {c : Prop} [Decidable c] (ht : KeepsStore r s t) (hu : KeepsStore r s u) : KeepsStore r s (if c then t else u) := by
  split
  · exact ht
  · exact hu

theorem of_cap (h : t.cap = s.cap) : KeepsStore r s t := by rw [KeepsStore, State.recorder, State.recorder, h]

theorem modRec (s : State) (n : Nat) (f : RecorderState → RecorderState) (hf : ∀ x, (f x).store = x.store) : KeepsStore r s (s.modRec n f) := by
  have hrec : (s.modRec n f).recorder r = if r = n then (s.recorder r).map f else s.recorder r := kvGet_kvMod _ _ _ _
  rw [KeepsStore, hrec]
  split
  · rw [Option.map_map]
    exact congrArg (fun g => (s.recorder r).map g) (funext hf)
  · rfl

theorem log (s : State) (code sev : Nat) (p : List Byte) (h : sev ≤ 4) : KeepsStore r s (s.log code sev p) := by
  have hstill (x : RecorderState) : x.still.store = x.store := by
    unfold RecorderState.still RecorderState.store
    cases x.active <;> rfl
  have hmap (v : State) : (v.recorder r).map RecorderState.store = ((v.recorder r).map RecorderState.still).map RecorderState.store := by
    rw [Option.map_map]
    exact congrArg (fun g => (v.recorder r).map g) (funext fun x => (hstill x).symm)
  rw [KeepsStore, hmap, hmap s, (Reports.log (q := 0) s code sev p h).recorder]

theorem setField (s : State) (a hi lo v : Nat) : KeepsStore r s (s.setField a hi lo v) := of_cap rfl

theorem setFlag (s : State) (a n : Nat) (b : Bool) : KeepsStore r s (s.setFlag a n b) := of_cap rfl

theorem setRecState (s : State) (n : Nat) : KeepsStore r s (s.setRecState r n) := of_cap rfl

theorem armRec (s : State) : KeepsStore r s (s.armRec r) := (modRec s r _ (by exact fun _ => rfl)).trans (setRecState _ 1)

theorem showStore (s : State) : KeepsStore r s (s.showStore r) := by
  unfold State.showStore
  split <;> exact of_cap rfl

theorem capTryCommit (s : State) : KeepsStore r s (s.capTryCommit r) := by
  have hcommit (v : State) (lo n : Nat) : KeepsStore r v (v.commitRange lo n) := of_cap (foldl_keeps (fun (u : State) (p : Nat × Word) => u.commitReg p.1) State.cap (fun _ _ => rfl) _ v)
  have hrenew (v old : State) : KeepsStore r v (v.renewConds old r) := modRec v r _ (by exact fun _ => rfl)
  unfold State.capTryCommit
  split
  · refine ite ?_ (refl s)
    extract_lets asked
    have hasked : KeepsStore r s asked := of_cap rfl
    split
    · exact ((hasked.trans (setFlag asked _ _ _)).trans (setField _ _ _ _ _)).trans (log _ _ _ _ (by decide))
    · exact (hasked.trans (hcommit asked _ _)).trans (hrenew _ _)
  · exact refl s

theorem settled (s : State) : KeepsStore r s ((s.showStore r).capTryCommit r) := (showStore s).trans (capTryCommit _)

/-- A recorder that is there before is there after, with the same store. -/
theorem some {x : RecorderState} (h : KeepsStore r s t) (hx : s.recorder r = some x) : ∃ y, t.recorder r = Option.some y ∧ y.store = x.store := by
  rw [KeepsStore, hx, Option.map_some, Option.map_eq_some_iff] at h
  exact h

end KeepsStore

end Sys2Proof.Machine
end

section
/-!
PROOFS of the statement on the recorders: arming, triggering, closing, releasing, marking and committing.
-/
namespace Sys2Proof.Machine

/-! ### Registers of a recorder -/

theorem stagedMask_recorder : ∀ r < 16, stagedMask (Reg.CAP_R_LAST r) = 0 ∧ stagedMask (Reg.CAP_R_STATUS r) = 0 := by decide

theorem not_mem_logRegs_recorder {a : Nat} (hlo : 0xD00000 ≤ a) (hhi : a < 0xE00000) (hlost : a ≠ Reg.CAP_CNT_EV_LOST) : a ∉ logRegs := by
  have hlog : ∀ b ∈ logRegs, b = Reg.CAP_CNT_EV_LOST ∨ b < 0xD00000 ∨ 0xE00000 ≤ b := by decide
  intro hm
  have := hlog a hm
  omega

section
variable (s : State) {r : Nat}

theorem recorder_congr {t : State} (h : t.cap = s.cap) : t.recorder r = s.recorder r := by rw [State.recorder, State.recorder, h]

theorem recorder_modRec (f : RecorderState → RecorderState) : (s.modRec r f).recorder r = (s.recorder r).map f :=
  (kvGet_kvMod _ _ _ _).trans (if_pos rfl)

theorem recState_congr {t : State} (h : t.reg (Reg.CAP_R_STATUS r) = s.reg (Reg.CAP_R_STATUS r)) : t.recState r = s.recState r :=
  congrArg (fun w : Word => bitsOf w 1 0) h

theorem recState_showHealth (hr : r < 16) : s.showHealth.recState r = s.recState r :=
  recState_congr s (s.reg_showHealth_of_block (by simp only [Reg.CAP_R_STATUS]; omega))

theorem recState_setRecState {n : Nat} (hn : n < 4) : (s.setRecState r n).recState r = n := by
  have hne : Reg.CAP_R_STATUS r ≠ Reg.CAP_STATUS := by simp only [Reg.CAP_R_STATUS, Reg.CAP_STATUS]; omega
  refine (recState_congr _ ((State.reg_setFlag_ne _ _ _ _ _ hne).trans (State.reg_setFlag_ne _ _ _ _ _ hne))).trans ?_
  exact (State.field_setField_same s _ _ _ _ (by decide)).trans (Nat.mod_eq_of_lt hn)

theorem recState_capTryCommit (hr : r < 16) : (s.capTryCommit r).recState r = s.recState r := by
  refine recState_congr s ((Records.capTryCommit s).reg _ ?_ ?_ fun hstaged => hstaged.2.2 (stagedMask_recorder r hr).2)
  · simp only [capCommitRegs, List.mem_cons, List.not_mem_nil, or_false, Reg.CAP_R_STATUS, Reg.CAP_COMMIT, Reg.CAP_COMMIT_STAT]
    omega
  · exact not_mem_logRegs_recorder (by simp only [Reg.CAP_R_STATUS]; omega) (by simp only [Reg.CAP_R_STATUS]; omega)
      (by simp only [Reg.CAP_R_STATUS, Reg.CAP_CNT_EV_LOST]; omega)

/-- The number of the last capture is none of the registers that a recorder's operations write. -/
theorem reg_last_of_records (hr : r < 16) {t : State} (h : Records (recRegs r) r s t) : t.reg (Reg.CAP_R_LAST r) = s.reg (Reg.CAP_R_LAST r) := by
  refine h.reg _ ?_ ?_ fun hstaged => hstaged.2.2 (stagedMask_recorder r hr).1
  · simp only [recRegs, settleRegs, capCommitRegs, List.cons_append, List.nil_append, List.mem_cons, List.not_mem_nil, or_false, Reg.CAP_R_LAST,
      Reg.CAP_CNT_CAPTURES, Reg.CAP_CNT_OVERFLOW, Reg.CAP_R_CNT_CAPTURES, Reg.CAP_R_CNT_MISSED, Reg.CAP_R_CNT_LATER, Reg.CAP_R_CNT_OVERWRITTEN,
      Reg.CAP_STATUS, Reg.CAP_R_STATUS, Reg.CAP_R_STORE_FREE, Reg.CAP_COMMIT, Reg.CAP_COMMIT_STAT]
    omega
  · exact not_mem_logRegs_recorder (by simp only [Reg.CAP_R_LAST]; omega) (by simp only [Reg.CAP_R_LAST]; omega)
      (by simp only [Reg.CAP_R_LAST, Reg.CAP_CNT_EV_LOST]; omega)

theorem reg_last_showHealth (hr : r < 16) : s.showHealth.reg (Reg.CAP_R_LAST r) = s.reg (Reg.CAP_R_LAST r) :=
  s.reg_showHealth_of_block (by simp only [Reg.CAP_R_LAST]; omega)

/-- The count of captures is none of the registers in which a recorder settles. -/
theorem reg_captures_of_settled {t : State} (h : Records (settleRegs r) r s t) : t.reg Reg.CAP_CNT_CAPTURES = s.reg Reg.CAP_CNT_CAPTURES := by
  refine h.reg _ ?_ (by decide) fun hstaged => ?_
  · simp only [settleRegs, capCommitRegs, List.cons_append, List.nil_append, List.mem_cons, List.not_mem_nil, or_false,
      Reg.CAP_CNT_CAPTURES, Reg.CAP_STATUS, Reg.CAP_R_STATUS, Reg.CAP_R_STORE_FREE, Reg.CAP_COMMIT, Reg.CAP_COMMIT_STAT]
    omega
  · have hlo := hstaged.1
    simp only [Reg.CAP_CNT_CAPTURES, Reg.CAP_R_CTRL] at hlo
    omega

/-! ### Arming and idling (R315) -/

theorem recState_armRec : (s.armRec r).recState r = 1 := recState_setRecState _ (by decide)

theorem exec_capRArm_idle (x : RecorderState) (hr : r < 16) (hx : s.recorder r = some x) (hon : s.capOn r = true) (hidle : s.recState r = 0) :
    ∃ t y, exec (.capRArm r) s = .next t ∧ t.recState r = 1 ∧ t.recorder r = some y ∧ y.armFrame = x.widx ∧ y.armTime = s.now ∧ y.firings = [] := by
  have hexec : exec (.capRArm r) s = answer (s.armRec r) := congrArg answer (if_pos (by simp [hx, hon, hidle]))
  have harmed : (s.armRec r).recorder r = some { x with
      armFrame := x.widx, armTime := s.now, autoForce := false, firings := [], waitDisc := [], gatherEnd := none } :=
    (recorder_congr _ rfl).trans ((recorder_modRec s _).trans (by rw [hx]; rfl))
  exact ⟨_, _, hexec, (recState_showHealth _ hr).trans (recState_armRec s), (recorder_congr _ rfl).trans harmed, rfl, rfl, rfl⟩

theorem exec_capRDisarm_armed (x : RecorderState) (hr : r < 16) (hx : s.recorder r = some x) (harmed : s.recState r = 1) :
    ∃ t, exec (.capRDisarm r) s = .next t ∧ t.recState r = 0 := by
  obtain ⟨u, hexec⟩ : ∃ u, exec (.capRDisarm r) s = answer (((State.setRecState u r 0).setFlag (Reg.CAP_R_STATUS r) 2 false).capTryCommit r) := by
    change ∃ u, execCapRDisarm r s = _
    unfold execCapRDisarm
    rw [if_neg (by simp [hx]), if_pos harmed]
    exact ⟨_, rfl⟩
  refine ⟨_, hexec, ?_⟩
  rw [recState_showHealth _ hr, recState_capTryCommit _ hr]
  exact (State.field_setField_disjoint _ _ _ _ _ _ _ (by decide) (by decide)).trans (recState_setRecState u (by decide))

/-! ### Closing (R315, R318) -/

theorem closeCapture_of_active (x : RecorderState) (c : Capture) (flags : Half) (hold : Bool) (hx : s.recorder r = some x) (hc : x.active = some c) :
    (∃ y, (s.closeCapture r flags hold).recorder r = some y ∧ y.active = none ∧ y.stored.length = x.stored.length + 1)
      ∧ (s.closeCapture r flags hold).reg Reg.CAP_CNT_CAPTURES = satWord ((s.reg Reg.CAP_CNT_CAPTURES).toNat + 1) := by
  unfold State.closeCapture
  split
  case h_2 hnone => exact absurd (hnone.symm.trans hx) (by simp)
  next x' hx' =>
  obtain rfl := Option.some.inj (hx.symm.trans hx')
  split
  case h_2 hnone => exact absurd (hnone.symm.trans hc) (by simp)
  next c' hc' =>
  obtain rfl := Option.some.inj (hc.symm.trans hc')
  extract_lets _ _ _ _ _ _ _ done _ stored counted shown told settled
  constructor
  · have hstored : stored.recorder r = some _ := (recorder_modRec s _).trans (by rw [hx, Option.map_some])
    have htold : KeepsStore r stored told := (KeepsStore.of_cap (s := stored) (t := shown) rfl).trans (.log shown _ _ _ (by decide))
    have hsettled : KeepsStore r told settled := .ite (.setRecState _ _) (.ite (.armRec _) (.setRecState _ _))
    obtain ⟨y, hy, hstore⟩ := ((htold.trans hsettled).trans (KeepsStore.settled settled)).some hstored
    simp only [RecorderState.store, Prod.mk.injEq] at hstore
    obtain ⟨hlist, hactive, -⟩ := hstore
    exact ⟨y, hy, Option.map_eq_none_iff.mp hactive, by rw [hlist, List.length_append]; rfl⟩
  · have htold : Records (settleRegs r) r counted told := (Records.setFlag counted _ _ (by simp [settleRegs])).trans (.log shown _ _ _ (by decide))
    have hsettled : Records (settleRegs r) r told settled :=
      .ite (.setRecState _ _ (List.Subset.refl _)) (.ite (.armRec _ (List.Subset.refl _)) (.setRecState _ _ (List.Subset.refl _)))
    rw [reg_captures_of_settled counted ((htold.trans hsettled).trans (Records.settled settled (List.Subset.refl _))),
      State.reg_bump_ne _ _ _ (by simp only [Reg.CAP_CNT_CAPTURES, Reg.CAP_R_CNT_CAPTURES]; omega), State.reg_bump_same]
    rfl

theorem exec_capRDisarm_active (x : RecorderState) (c : Capture) (hx : s.recorder r = some x) (hactive : s.recState r = 2) (hc : x.active = some c) :
    ∃ t y, exec (.capRDisarm r) s = .next t ∧ t = (s.closeCapture r 0x0004 false).showHealth ∧ t.recorder r = some y ∧ y.active = none
      ∧ y.stored.length = x.stored.length + 1 ∧ t.reg Reg.CAP_CNT_CAPTURES = satWord ((s.reg Reg.CAP_CNT_CAPTURES).toNat + 1) := by
  have hexec : exec (.capRDisarm r) s = answer (s.closeCapture r 0x0004 false) := by
    change execCapRDisarm r s = _
    unfold execCapRDisarm
    rw [if_neg (by simp [hx]), if_neg (by simp [hactive]), if_pos hactive]
  obtain ⟨⟨y, hy, hnone, hlen⟩, hcount⟩ := closeCapture_of_active s x c 0x0004 false hx hc
  exact ⟨_, y, hexec, rfl, (recorder_congr _ rfl).trans hy, hnone, hlen, (State.reg_showHealth_ne _ _ (by decide)).trans hcount⟩

theorem exec_captureClose_over (at_ : Nat) (x : RecorderState) (c : Capture) (hx : s.recorder r = some x) (hat : x.closeAt = some at_)
    (htime : at_ ≤ s.elapsed) (hc : x.active = some c) : ∃ t y, exec (.captureClose r) s = .next t ∧ t.recorder r = some y ∧ y.active = none
      ∧ y.stored.length = x.stored.length + 1 ∧ t.reg Reg.CAP_CNT_CAPTURES = satWord ((s.reg Reg.CAP_CNT_CAPTURES).toNat + 1) := by
  have hexec : exec (.captureClose r) s = answer (s.closeCapture r 0 false) := by
    change execCaptureClose r s = _
    unfold execCaptureClose
    rw [hx, Option.bind_some, hat]
    exact congrArg answer (if_pos htime)
  obtain ⟨⟨y, hy, hnone, hlen⟩, hcount⟩ := closeCapture_of_active s x c 0 false hx hc
  exact ⟨_, y, hexec, (recorder_congr _ rfl).trans hy, hnone, hlen, (State.reg_showHealth_ne _ _ (by decide)).trans hcount⟩

/-! ### Triggering (R313, R315) -/

/-- A capture that is decided takes the next number. -/
theorem reg_last_decideCapture (hr : r < 16) (x : RecorderState) (hx : s.recorder r = some x) (k : Nat) (cause : Half) (cond phi gts : Nat) (later : List Firing) :
    (s.decideCapture r k cause cond phi gts later).reg (Reg.CAP_R_LAST r) = Word.ofNat (nextCapture (s.reg (Reg.CAP_R_LAST r))) := by
  unfold State.decideCapture
  extract_lets
  split
  case h_2 hnone => exact absurd (hnone.symm.trans hx) (by simp)
  extract_lets
  split
  next made fits _ =>
  extract_lets numbered opened active stored
  have hactive : Records (recRegs r) r numbered active :=
    ((Records.modRec numbered r _).trans (.setRecState opened 2 (Records.subset_recRegs r))).trans
      (.setFlag _ _ _ (Records.subset_recRegs r (by simp [settleRegs])))
  have hstored : Records (recRegs r) r active stored := .ite (.foldl _ (fun t f => .storeFrame t _ f) _ _) (.overflow active 1 true)
  have hlater : Records (recRegs r) r stored _ := Records.foldl _ (fun t (f : Firing) => .laterTrigger t f.frame) later stored
  rw [reg_last_of_records numbered hr (((hactive.trans hstored).trans hlater).trans (.showStore _ (Records.subset_recRegs r)))]
  exact State.reg_setReg_same _ _ _

theorem reg_last_forceCapture (hr : r < 16) (x : RecorderState) (hx : s.recorder r = some x) (bit : Half) (f : CapFrame) :
    (s.forceCapture r bit f).reg (Reg.CAP_R_LAST r) = Word.ofNat (nextCapture (s.reg (Reg.CAP_R_LAST r))) := by
  unfold State.forceCapture
  rw [hx]
  exact reg_last_decideCapture s hr x hx _ _ _ _ _ _

theorem reg_last_decideFirings (hr : r < 16) (x : RecorderState) (hx : s.recorder r = some x) (hfirings : x.firings ≠ []) :
    (s.decideFirings r).reg (Reg.CAP_R_LAST r) = Word.ofNat (nextCapture (s.reg (Reg.CAP_R_LAST r))) := by
  unfold State.decideFirings
  rw [hx]
  dsimp only
  split
  · exact absurd (by assumption) hfirings
  · exact reg_last_decideCapture s hr x hx _ _ _ _ _ _

theorem exec_capRForce_armed (x : RecorderState) (f : CapFrame) (hr : r < 16) (hx : s.recorder r = some x) (hf : x.frames.getLast? = some f)
    (harmed : s.recState r = 1) : ∃ t, exec (.capRForce r) s = .next t ∧ t = (s.forceCapture r 0x0200 f).showHealth
      ∧ t.reg (Reg.CAP_R_LAST r) = Word.ofNat (nextCapture (s.reg (Reg.CAP_R_LAST r))) := by
  have hexec : exec (.capRForce r) s = answer (s.forceCapture r 0x0200 f) := by
    change execCapRForce r s = _
    unfold execCapRForce
    rw [hx]
    dsimp only
    rw [hf]
    exact congrArg answer (if_pos harmed)
  exact ⟨_, hexec, rfl, (reg_last_showHealth _ hr).trans (reg_last_forceCapture s hr x hx _ f)⟩

theorem exec_capRForce_ignored (x : RecorderState) (hx : s.recorder r = some x) (harmed : s.recState r ≠ 1) :
    exec (.capRForce r) s = .next s.showHealth := by
  change execCapRForce r s = _
  unfold execCapRForce
  rw [hx]
  dsimp only
  split
  · rw [if_neg harmed]
    rfl
  · rfl

theorem exec_gatherEnd_over (at_ : Nat) (x : RecorderState) (hr : r < 16) (hx : s.recorder r = some x) (hat : x.gatherEnd = some at_) (htime : at_ ≤ s.elapsed)
    (hfirings : x.firings ≠ []) : ∃ t, exec (.gatherEnd r) s = .next t ∧ t = (s.decideFirings r).showHealth
      ∧ t.reg (Reg.CAP_R_LAST r) = Word.ofNat (nextCapture (s.reg (Reg.CAP_R_LAST r))) := by
  have hexec : exec (.gatherEnd r) s = answer (s.decideFirings r) := by
    change execGatherEnd r s = _
    unfold execGatherEnd
    rw [hx, Option.bind_some, hat]
    exact congrArg answer (if_pos htime)
  exact ⟨_, hexec, rfl, (reg_last_showHealth _ hr).trans (reg_last_decideFirings s hr x hx hfirings)⟩

theorem exec_capAutoTimeout_due (x : RecorderState) (hx : s.recorder r = some x) (harmed : s.recState r = 1) (hauto : s.flag (Reg.CAP_R_CTRL r) 4 = true)
    (hfirings : x.firings = []) (htime : x.armTime + s.field (Reg.CAP_R_TIMEOUT r) 11 0 * 1000000000 ≤ s.now) :
    exec (.capAutoTimeout r) s = answer (match frameFrom none x.frames (x.armTime + s.field (Reg.CAP_R_TIMEOUT r) 11 0 * 1000000000) with
      | some (_, f) => s.forceCapture r 0x0100 f
      | none => s.modRec r (fun x => { x with autoForce := true })) := by
  change execCapAutoTimeout r s = _
  unfold execCapAutoTimeout
  rw [hx]
  dsimp only
  rw [if_pos (by simp [harmed, hauto, hfirings, htime])] <;> rfl

theorem exec_capAutoTimeout_forced (before : Option CapFrame) (x : RecorderState) (f : CapFrame) (hr : r < 16) (hx : s.recorder r = some x)
    (harmed : s.recState r = 1) (hauto : s.flag (Reg.CAP_R_CTRL r) 4 = true) (hfirings : x.firings = [])
    (htime : x.armTime + s.field (Reg.CAP_R_TIMEOUT r) 11 0 * 1000000000 ≤ s.now)
    (hf : frameFrom none x.frames (x.armTime + s.field (Reg.CAP_R_TIMEOUT r) 11 0 * 1000000000) = some (before, f)) :
    ∃ t, exec (.capAutoTimeout r) s = .next t ∧ t = (s.forceCapture r 0x0100 f).showHealth
      ∧ t.reg (Reg.CAP_R_LAST r) = Word.ofNat (nextCapture (s.reg (Reg.CAP_R_LAST r))) := by
  have hexec := exec_capAutoTimeout_due s x hx harmed hauto hfirings htime
  rw [hf] at hexec
  exact ⟨_, hexec, rfl, (reg_last_showHealth _ hr).trans (reg_last_forceCapture s hr x hx _ f)⟩

theorem exec_capAutoTimeout_waits (x : RecorderState) (hx : s.recorder r = some x)
    (harmed : s.recState r = 1) (hauto : s.flag (Reg.CAP_R_CTRL r) 4 = true) (hfirings : x.firings = [])
    (htime : x.armTime + s.field (Reg.CAP_R_TIMEOUT r) 11 0 * 1000000000 ≤ s.now)
    (hf : frameFrom none x.frames (x.armTime + s.field (Reg.CAP_R_TIMEOUT r) 11 0 * 1000000000) = none) :
    ∃ t, exec (.capAutoTimeout r) s = .next t ∧ t.recorder r = some { x with autoForce := true } := by
  have hexec := exec_capAutoTimeout_due s x hx harmed hauto hfirings htime
  rw [hf] at hexec
  exact ⟨_, hexec, (recorder_congr _ rfl).trans ((recorder_modRec s _).trans (by rw [hx]; rfl))⟩

/-! ### Releasing and marking (R317, R322) -/

/-- The captures left once one is marked free. -/
def RecorderState.freed (x : RecorderState) (n : Nat) : List Capture :=
  purge (x.stored.map fun (c : Capture) => if c.num = n then { c with free := true } else c)

theorem releaseCapture_of_stored (n : Nat) (x : RecorderState) (c : Capture) (hx : s.recorder r = some x)
    (hc : x.stored.find? (fun c => c.num == n && !c.free) = some c) (hexp : c.exporting = false) :
    (s.releaseCapture r n).2 = 0x00 ∧ Records (settleRegs r) r s (s.releaseCapture r n).1
      ∧ ∃ y, (s.releaseCapture r n).1.recorder r = some y ∧ y.stored = x.freed n := by
  unfold State.releaseCapture
  rw [hx]
  dsimp only
  rw [hc]
  dsimp only
  rw [if_neg (by simp [hexp])]
  generalize hleft : purge (x.stored.map fun (c : Capture) => if c.num = n then { c with free := true } else c) = left
  let freed := s.modRec r fun x => { x with stored := left }
  have hfreed : freed.recorder r = some { x with stored := left } := (recorder_modRec s _).trans (by rw [hx, Option.map_some])
  have hkeeps (v : State) (h : KeepsStore r freed v) : ∃ y, ((v.showStore r).capTryCommit r).recorder r = some y ∧ y.stored = x.freed n := by
    obtain ⟨y, hy, hstore⟩ := (h.trans (KeepsStore.settled v)).some hfreed
    simp only [RecorderState.store, Prod.mk.injEq] at hstore
    exact ⟨y, hy, hstore.1.trans hleft.symm⟩
  refine ⟨rfl, ((Records.modRec s r _).trans (.ite (.ite (.armRec _ (List.Subset.refl _)) (.setRecState _ 0 (List.Subset.refl _))) (.refl _))).trans
    (.settled _ (List.Subset.refl _)), hkeeps _ ?_⟩
  exact .ite (.ite (.armRec _) (.setRecState _ 0)) (.refl _)

theorem exec_capRRelease_stored (value : Word) (x : RecorderState) (c : Capture) (hx : s.recorder r = some x)
    (hc : x.stored.find? (fun c => c.num == value.toNat && !c.free) = some c) (hexp : c.exporting = false) :
    ∃ t y, exec (.capRRelease r value) s = .next t ∧ t.recorder r = some y
      ∧ y.stored = purge (x.stored.map (fun (c : Capture) => if c.num = value.toNat then { c with free := true } else c)) := by
  obtain ⟨-, -, y, hy, hstored⟩ := releaseCapture_of_stored s value.toNat x c hx hc hexp
  exact ⟨_, y, rfl, (recorder_congr _ rfl).trans hy, hstored⟩

theorem exec_capRMarkSet_live (mark : Nat) (hi : Word) (x : RecorderState) (hr : r < 16) (hmark : mark < 4) (hx : s.recorder r = some x)
    (hlive : hi.toNat * 2 ^ 32 + (s.lowHalf (Reg.CAP_R_MARK_LO r mark)).toNat < x.widx) :
    ∃ t y, exec (.capRMarkSet r mark hi) s = .next t ∧ t.recorder r = some y
      ∧ y.marks = x.marks.set mark (max (hi.toNat * 2 ^ 32 + (s.lowHalf (Reg.CAP_R_MARK_LO r mark)).toNat) (x.widx - s.liveDepth r))
      ∧ t.reg (Reg.CAP_R_MARK_LO r mark) = Word.ofNat (max (hi.toNat * 2 ^ 32 + (s.lowHalf (Reg.CAP_R_MARK_LO r mark)).toNat) (x.widx - s.liveDepth r)) := by
  change ∃ t y, execCapRMarkSet r mark hi s = _ ∧ _
  unfold execCapRMarkSet
  extract_lets lo v cleared
  split
  case h_2 hnone => exact absurd (hnone.symm.trans hx) (by simp)
  next x' hx' =>
  obtain rfl := Option.some.inj (hx.symm.trans hx')
  extract_lets low marked shown was noted
  have hv : hi.toNat * 2 ^ 32 + (s.lowHalf (Reg.CAP_R_MARK_LO r mark)).toNat = v := rfl
  have hlow : x.widx - s.liveDepth r = low := rfl
  rw [hv, hlow]
  rw [hv] at hlive
  rw [if_neg (Nat.not_le.mpr hlive)]
  clear_value v low
  have hmarked : marked.recorder r = some { x with marks := x.marks.set mark (max v low) } :=
    (recorder_modRec cleared _).trans (by rw [show cleared.recorder r = _ from hx, Option.map_some])
  have hshown : shown.reg lo = Word.ofNat (max v low) :=
    (State.reg_setReg_ne _ _ _ _ (by simp only [lo, Reg.CAP_R_MARK_LO, Reg.CAP_R_MARK_HI]; omega)).trans (State.reg_setReg_same _ _ _)
  have hnoted : noted.reg lo = shown.reg lo :=
    State.reg_setFlag_ne _ _ _ _ _ (by simp only [lo, Reg.CAP_R_MARK_LO, Reg.CAP_R_MARK_STAT]; omega)
  have hlogged (code : Nat) (p : List Byte) : (noted.log code 1 p).reg lo = noted.reg lo :=
    noted.reg_log _ _ _ _ (by decide) (not_mem_logRegs_recorder (by simp only [lo, Reg.CAP_R_MARK_LO]; omega)
      (by simp only [lo, Reg.CAP_R_MARK_LO]; omega) (by simp only [lo, Reg.CAP_R_MARK_LO, Reg.CAP_CNT_EV_LOST]; omega))
  have hkept : KeepsStore r marked noted := .of_cap ((State.setFlag_cap shown _ _ _).trans (State.setPair_cap marked _ _ _))
  have hdone (t : State) (hstore : KeepsStore r marked t) (hreg : t.reg lo = noted.reg lo) :
      ∃ u y, answer t = .next u ∧ u.recorder r = some y ∧ y.marks = x.marks.set mark (max v low) ∧ u.reg lo = Word.ofNat (max v low) := by
    obtain ⟨y, hy, heq⟩ := hstore.some (x := { x with marks := x.marks.set mark (max v low) }) hmarked
    refine ⟨_, y, rfl, (recorder_congr _ rfl).trans hy, (congrArg (fun z : List Capture × Option Capture × List Nat => z.2.2) heq :), ?_⟩
    rw [t.reg_showHealth_of_block (by simp only [lo, Reg.CAP_R_MARK_LO]; omega), hreg, hnoted, hshown]
  split
  · split
    · exact hdone noted hkept rfl
    · exact hdone _ (hkept.trans (.log noted _ _ _ (by decide))) (hlogged _ _)
  · exact hdone shown (.of_cap (State.setPair_cap marked _ _ _)) hnoted.symm

/-! ### Committing (R325) -/

/-- A fold in which one item alone acts is that item's step. -/
theorem foldl_only {α β : Type} (f : β → α → β) (a : α) (hf : ∀ t, ∀ b ≠ a, f t b = t) :
    ∀ (l : List α), l.Nodup → a ∈ l → ∀ t, l.foldl f t = f t a
  | [], _, ha, _ => absurd ha List.not_mem_nil
  | b :: l, hl, ha, t => by
    rw [List.nodup_cons] at hl
    rw [List.foldl_cons]
    by_cases hb : b = a
    · subst hb
      exact foldl_keeps_mem f id l (fun u c hc => hf u c fun h => hl.1 (h ▸ hc)) _
    · rw [hf t b hb]
      exact foldl_only f a hf l hl.2 ((List.mem_cons.mp ha).resolve_left fun h => hb h.symm) t

theorem exec_capCommit_one (x : RecorderState) (hr : r < 16) (hx : s.recorder r = some x) :
    exec (.capCommit (1 <<< r)) s = answer ((s.setFlag Reg.CAP_COMMIT r true).capTryCommit r) := by
  have hbit (k : Nat) : (BitVec.ofNat 32 (1 <<< r)).getLsbD k = decide (k = r) := by
    rw [BitVec.getLsbD_ofNat, Nat.one_shiftLeft, Nat.testBit_two_pow]
    by_cases hk : k = r
    · simp [hk, show r < 32 by omega]
    · simp [hk, Ne.symm hk]
  refine congrArg answer ((foldl_only _ r (fun t k hk => if_neg ?_) _ List.nodup_range (List.mem_range.mpr hr) s).trans (if_pos ?_))
  · simp [hbit, hk]
  · simp [hbit, hx]

theorem exec_capCommit_active (x : RecorderState) (hr : r < 16) (hx : s.recorder r = some x) (hactive : s.recState r = 2) :
    ∃ t, exec (.capCommit (1 <<< r)) s = .next t ∧ t.flag Reg.CAP_COMMIT r = true ∧ t.shadow = s.shadow := by
  let asked := s.setFlag Reg.CAP_COMMIT r true
  have hstate : asked.recState r = 2 := (recState_congr s (State.reg_setFlag_ne _ _ _ _ _ (by simp only [Reg.CAP_R_STATUS, Reg.CAP_COMMIT]; omega))).trans hactive
  have hwaits : asked.capTryCommit r = asked := by
    unfold State.capTryCommit
    split
    · rw [if_neg (by simp [hstate])]
    · rfl
  refine ⟨_, (exec_capCommit_one s x hr hx).trans (congrArg answer hwaits), ?_, rfl⟩
  exact (State.flag_congr (State.reg_showHealth_ne _ _ (by decide)) _).trans (State.flag_setFlag_same _ _ _ _ (by omega))

theorem flag_capTryCommit_idle (x : RecorderState) (hr : r < 16) (hx : s.recorder r = some x) (hasked : s.flag Reg.CAP_COMMIT r = true)
    (hidle : s.recState r = 0) : (s.capTryCommit r).flag Reg.CAP_COMMIT r = false := by
  have hcleared : (s.setFlag Reg.CAP_COMMIT r false).flag Reg.CAP_COMMIT r = false := State.flag_setFlag_same _ _ _ _ (by omega)
  unfold State.capTryCommit
  split
  case h_2 hnone => exact absurd (hnone.symm.trans hx) (by simp)
  rw [if_pos (by simp [hasked, hidle])]
  extract_lets cleared
  refine Eq.trans (State.flag_congr ?_ _) hcleared
  split
  · rw [State.reg_log _ _ _ _ _ (by decide) (by decide), State.reg_setField_ne _ _ _ _ _ _ (by decide), State.reg_setFlag_ne _ _ _ _ _ (by decide)]
  · exact State.reg_commitRange_ne cleared (by simp only [Reg.CAP_R_CTRL, Reg.CAP_COMMIT]; omega)

theorem exec_capCommit_idle (x : RecorderState) (hr : r < 16) (hx : s.recorder r = some x) (hidle : s.recState r = 0) :
    ∃ t, exec (.capCommit (1 <<< r)) s = .next t ∧ t.flag Reg.CAP_COMMIT r = false := by
  let asked := s.setFlag Reg.CAP_COMMIT r true
  have hstate : asked.recState r = 0 := (recState_congr s (State.reg_setFlag_ne _ _ _ _ _ (by simp only [Reg.CAP_R_STATUS, Reg.CAP_COMMIT]; omega))).trans hidle
  have hasked : asked.flag Reg.CAP_COMMIT r = true := State.flag_setFlag_same _ _ _ _ (by omega)
  refine ⟨_, exec_capCommit_one s x hr hx, ?_⟩
  exact (State.flag_congr (State.reg_showHealth_ne _ _ (by decide)) _).trans (flag_capTryCommit_idle asked x hr hx hasked hstate)

end

/-- Settles O34: what a recorder's operations touch is stated once in `Records` and `KeepsStore`, and each command is its branch. -/
theorem recorders : Obligations.Recorders :=
  ⟨fun s _ x hr => exec_capRArm_idle s x hr, fun s _ x hr => exec_capRDisarm_armed s x hr, fun s _ x c _ => exec_capRDisarm_active s x c,
    fun s _ x f hr => exec_capRForce_armed s x f hr, fun s _ x _ => exec_capRForce_ignored s x, fun s _ at_ x hr => exec_gatherEnd_over s at_ x hr,
    fun s _ at_ x c _ => exec_captureClose_over s at_ x c, fun s _ before x f hr => exec_capAutoTimeout_forced s before x f hr,
    fun s _ x => exec_capAutoTimeout_waits s x, fun s _ value x c _ => exec_capRRelease_stored s value x c,
    fun s _ mark hi x hr hmark => exec_capRMarkSet_live s mark hi x hr hmark, fun s _ x hr => exec_capCommit_active s x hr,
    fun s _ x hr => exec_capCommit_idle s x hr⟩

end Sys2Proof.Machine
end

section
/-!
PROOFS of the statements on alarms (R287 to R293, R304): handoffs, acknowledgements, pins, publications and commits.
-/
namespace Sys2Proof.Machine

/-! ### What the consequences of an alarm's change may change -/

/-- All that pins, publications, queue entries, records and captures leave, registers and DRAM aside: of ALM its alarms and handoffs. -/
def State.stillAlarm (s : State) : State := { s.stillRec with alm := { alarms := s.alm.alarms, handoffs := s.alm.handoffs } }

/-- A step that no more than follows a change of an alarm: the alarms stay, and so do the settings of the pins. -/
structure FollowsAlarm (s t : State) : Prop where
  still : t.stillAlarm = s.stillAlarm
  reg : ∀ a, 0xB00040 ≤ a → a < 0xB00060 → t.reg a = s.reg a

theorem reg_stageEvent_below (s : State) (e : Event) {a : Nat} (h : a < 0xC00000) : (s.stageEvent e).reg a = s.reg a := by
  have hlose (t : State) (x : Event) : (t.loseEvent x).reg a = t.reg a :=
    State.reg_bump_ne t _ _ (by simp only [Reg.EVR_CNT_QDROP]; omega)
  unfold State.stageEvent
  dsimp only
  split
  · exact State.reg_setField_ne _ _ _ _ _ _ (by simp only [Reg.EVR_STATUS]; omega)
  · split
    · split
      · exact (State.reg_bump_ne _ Reg.EVR_CNT_DISPLACED a (by simp only [Reg.EVR_CNT_DISPLACED]; omega)).trans (hlose s _)
      · exact hlose s e
    · exact hlose s e

/-- The registers below the event recorder show no event, of whatever severity. -/
theorem reg_submit_below (s : State) (e : Event) {a : Nat} (h : a < 0xC00000) : (s.submit e).reg a = s.reg a := by
  have hlog : a ∉ logRegs := not_mem_logRegs_of_block (by omega)
  exact (State.reg_forwardEvent _ e a hlog).trans ((reg_stageEvent_below _ e h).trans (State.reg_captureEvent s e a hlog))

namespace FollowsAlarm

variable {s t u : State}

theorem refl (s : State) : FollowsAlarm s s := ⟨rfl, fun _ _ _ => rfl⟩

theorem trans (h : FollowsAlarm s t) (k : FollowsAlarm t u) : FollowsAlarm s u :=
  ⟨k.still.trans h.still, fun a hlo hhi => (k.reg a hlo hhi).trans (h.reg a hlo hhi)⟩

theorem foldl {β : Type} (f : State → β → State) (h : ∀ s b, FollowsAlarm s (f s b)) (l : List β) (s : State) : FollowsAlarm s (l.foldl f s) := by
  induction l generalizing s with
  | nil => exact .refl s
  | cons b r ih => exact (h s b).trans (ih _)

theorem ite {c : Prop} [Decidable c] (ht : FollowsAlarm s t) (hu : FollowsAlarm s u) : FollowsAlarm s (if c then t else u) := by
  split
  · exact ht
  · exact hu

theorem of_regs (h : t.stillAlarm = s.stillAlarm) (hr : t.regs = s.regs) : FollowsAlarm s t := ⟨h, fun a _ _ => congrArg (smGet regReset · a) hr⟩

theorem of_reports {q : Nat} (hq : q < 128) (h : Reports q s t) : FollowsAlarm s t := by
  refine ⟨congrArg (fun x : State => { x with cap := {}, shadow := [], alm := { alarms := x.alm.alarms, handoffs := x.alm.handoffs } }) h.still, fun a hlo hhi => ?_⟩
  exact h.reg a (not_reportReg_of_block (by omega) hq)

theorem of_records {r : Nat} (h : Records (recRegs r) r s t) : FollowsAlarm s t := by
  refine ⟨congrArg (fun x : State => { x with alm := { alarms := x.alm.alarms, handoffs := x.alm.handoffs } }) h.still, fun a hlo hhi => ?_⟩
  refine h.reg a ?_ (not_mem_logRegs_of_block (by omega)) fun hstaged => ?_
  · simp only [recRegs, settleRegs, capCommitRegs, List.cons_append, List.nil_append, List.mem_cons, List.not_mem_nil, or_false,
      Reg.CAP_CNT_CAPTURES, Reg.CAP_CNT_OVERFLOW, Reg.CAP_R_CNT_CAPTURES, Reg.CAP_R_CNT_MISSED, Reg.CAP_R_CNT_LATER, Reg.CAP_R_CNT_OVERWRITTEN,
      Reg.CAP_STATUS, Reg.CAP_R_STATUS, Reg.CAP_R_STORE_FREE, Reg.CAP_COMMIT, Reg.CAP_COMMIT_STAT]
    omega
  · have hlo := hstaged.1
    simp only [Reg.CAP_R_CTRL] at hlo
    omega

theorem setReg (s : State) {a : Nat} (v : Word) (h : a < 0xB00040 ∨ 0xB00060 ≤ a) : FollowsAlarm s (s.setReg a v) :=
  ⟨rfl, fun b _ _ => s.reg_setReg_ne a b v (by omega)⟩

theorem bump (s : State) {a : Nat} (h : a < 0xB00040 ∨ 0xB00060 ≤ a) : FollowsAlarm s (s.bump a) := setReg s _ h

theorem setPair (s : State) {lo hi : Nat} (v : Nat) (hlo : lo < 0xB00040) (hhi : hi < 0xB00040) : FollowsAlarm s (s.setPair lo hi v) :=
  (setReg s _ (.inl hlo)).trans (setReg _ _ (.inl hhi))

theorem log (s : State) (code sev : Nat) (p : List Byte) (h : sev ≤ 4) : FollowsAlarm s (s.log code sev p) :=
  of_reports (q := 0) (by decide) (.log s code sev p h)

theorem submit (s : State) (e : Event) : FollowsAlarm s (s.submit e) :=
  ⟨congrArg (fun x : State => { x with cap := {}, shadow := [], alm := { alarms := x.alm.alarms, handoffs := x.alm.handoffs } }) (Reports.still_submit s e),
    fun _ _ hhi => reg_submit_below s e (by omega)⟩

theorem mirror (s : State) (b : MirrorBody) : FollowsAlarm s (s.mirror b) := of_regs rfl rfl

/-- An update of the pins, the publications or the lost queue entries. -/
theorem withAlm (s : State) (x : AlmState) (halarms : x.alarms = s.alm.alarms) (hhandoffs : x.handoffs = s.alm.handoffs) :
    FollowsAlarm s { s with alm := x } :=
  of_regs (by rw [State.stillAlarm, State.stillAlarm]; exact congrArg₂ (fun a h => { s.stillRec with alm := { alarms := a, handoffs := h } }) halarms hhandoffs) rfl

/-! #### Pins and publications (R292, R293) -/

theorem withPins (s : State) (l : List PinState) : FollowsAlarm s { s with alm := { s.alm with pins := l } } := withAlm s _ rfl rfl

theorem showPins (s : State) : FollowsAlarm s s.showPins := setReg s _ (.inl (by decide))

theorem drivePin (s : State) (n : Nat) (active : Bool) : FollowsAlarm s (s.drivePin n active) :=
  ite (mirror s _) ((withPins s _).trans (showPins _))

theorem followPin (s : State) (n : Nat) : FollowsAlarm s (s.followPin n) := by
  have hhold (h : Bool) : FollowsAlarm s
      ({ s with alm := { s.alm with pins := listMod s.alm.pins n (fun p => { p with holding := h }) } } : State).showPins :=
    (withPins s _).trans (showPins _)
  refine ite (refl s) (ite (ite (hhold false) ((hhold false).trans (drivePin _ n true))) ?_)
  exact ite (refl s) (ite (hhold true) ((hhold false).trans (drivePin _ n false)))

theorem followPins (s : State) (l : List Nat) : FollowsAlarm s (l.foldl (fun (s : State) n => s.followPin n) s) :=
  foldl _ (fun t n => followPin t n) l s

theorem modPub (s : State) (p : Nat) (f : PubState → PubState) : FollowsAlarm s (s.modPub true p f) := withAlm s _ rfl rfl

theorem notePub (s : State) (p a : Nat) (closure : Option Nat) : FollowsAlarm s (s.notePub p a closure) := modPub s p _

/-! #### Queue entries, records and captures (R294, R296, R311) -/

theorem alarmQueue (s : State) (b : List Byte) : FollowsAlarm s (s.alarmQueue b) := by
  have hq : s.field Reg.ALM_QUEUE 6 0 < 128 := Nat.mod_lt _ (by decide)
  unfold State.alarmQueue
  split
  next t ht => exact (of_reports hq (.qOffer ht)).trans (withAlm t _ rfl rfl)
  next =>
    extract_lets n was _ counted
    have hcounted : FollowsAlarm s counted := (withAlm s { s.alm with queueLost := n, queueLostRun := true } rfl rfl).trans (bump _ (.inr (by decide)))
    exact ite hcounted (hcounted.trans (log _ _ _ _ (by decide)))

theorem capHandoff (s : State) (kind src : Nat) (active : Bool) (key : Nat) : FollowsAlarm s (s.capHandoff kind src active key) := by
  refine foldl _ (fun t x => foldl _ (fun u c => ?_) _ t) _ s
  have hfired : FollowsAlarm u (u.modRec x.1 fun y => { y with conds := listMod y.conds c fun z => { z with fired := active } }) := of_regs rfl rfl
  exact ite (ite (hfired.trans (of_records (.fireDiscrete _ _ _))) hfired) (refl u)

/-! #### What shows (R288) -/

theorem showAlarm (s : State) : FollowsAlarm s s.showAlarm := by
  unfold State.showAlarm
  split
  · exact ((setReg s _ (.inl (by decide))).trans (setReg _ _ (.inl (by decide)))).trans (setPair _ _ (by decide) (by decide))
  · exact ((setReg s _ (.inl (by decide))).trans (setReg _ _ (.inl (by decide)))).trans (setPair _ _ (by decide) (by decide))

theorem showAlarms (s : State) : FollowsAlarm s s.showAlarms := (setReg s _ (.inl (by decide))).trans (showAlarm _)

theorem alarmChanged (s : State) (a : Nat) (outWas : Bool) (cause gts : Nat) (closure : Option Nat) :
    FollowsAlarm s (s.alarmChanged a outWas cause gts closure) := by
  unfold State.alarmChanged
  split
  next x _ =>
    extract_lets counted moved pinned noted b queued recorded captured
    have hpinned : FollowsAlarm s pinned :=
      (bump s (.inr (by decide))).trans (ite (followPins counted _) (refl counted))
    have hnoted : FollowsAlarm pinned noted := by
      unfold noted
      split
      · exact notePub pinned _ _ _
      · exact refl pinned
    have hqueued : FollowsAlarm noted queued := ite (alarmQueue noted _) (refl noted)
    have hrecorded : FollowsAlarm queued recorded := ite (submit queued _) (refl queued)
    have hcaptured : FollowsAlarm recorded captured := ite (capHandoff recorded _ _ _ _) (refl recorded)
    exact ((((hpinned.trans hnoted).trans hqueued).trans hrecorded).trans hcaptured).trans (showAlarms _)
  next => exact refl s

/-! #### What it gives -/

variable (h : FollowsAlarm s t)
include h

theorem alarms : t.alm.alarms = s.alm.alarms := (congrArg (fun x : State => x.alm.alarms) h.still :)

theorem handoffs : t.alm.handoffs = s.alm.handoffs := (congrArg (fun x : State => x.alm.handoffs) h.still :)

theorem alarm (a : Nat) : t.alarm a = s.alarm a := congrArg (kvGet · a) h.alarms

theorem tim : t.tim = s.tim := (congrArg State.tim h.still :)

theorem now : t.now = s.now := State.now_of_tim h.tim

theorem newHandle : t.newHandle.1 = s.newHandle.1 :=
  State.newHandle_congr ((congrArg (fun x : State => x.hif.nextSlot) h.still :)) ((congrArg (fun x : State => x.hif.slots) h.still :))

end FollowsAlarm

/-! ### Handoffs (R287) -/

section
variable (s : State)

theorem alarm_modAlarm (a b : Nat) (f : AlarmState → AlarmState) : (s.modAlarm a f).alarm b = if b = a then (s.alarm b).map f else s.alarm b :=
  kvGet_kvMod _ _ _ _

theorem alarm_modAlarm_same (a : Nat) (f : AlarmState → AlarmState) : (s.modAlarm a f).alarm a = (s.alarm a).map f :=
  (alarm_modAlarm s a a f).trans (if_pos rfl)

/-- The oldest handoff taken from the list, and seen by the cyclic engine. -/
def State.handedOver (s : State) (h : Handoff) (r : List Handoff) : State := State.cycDetector { s with alm := { s.alm with handoffs := r } } h

/-- The cyclic engine takes a handoff into its own detectors alone. -/
theorem handedOver_keeps {α : Type} (f : State → α) (hcyc : ∀ (t : State) x, f { t with cyc := x } = f t) (h : Handoff) (r : List Handoff) :
    f (s.handedOver h r) = f { s with alm := { s.alm with handoffs := r } } := by
  unfold State.handedOver State.cycDetector
  split
  · exact hcyc _ _
  · exact hcyc _ _

theorem alm_handedOver (h : Handoff) (r : List Handoff) : (s.handedOver h r).alm = { s.alm with handoffs := r } :=
  handedOver_keeps s State.alm (fun _ _ => rfl) h r

theorem alarm_handedOver (h : Handoff) (r : List Handoff) (a : Nat) : (s.handedOver h r).alarm a = s.alarm a :=
  (congrArg (fun x : AlmState => kvGet x.alarms a) (alm_handedOver s h r) :)

theorem reg_handedOver (h : Handoff) (r : List Handoff) (a : Nat) : (s.handedOver h r).reg a = s.reg a :=
  handedOver_keeps s (State.reg · a) (fun _ _ => rfl) h r

theorem exec_alarmHandoff (h : Handoff) (r : List Handoff) (hon : s.flag Reg.ALM_CTRL 0 = true) (hq : s.alm.handoffs = h :: r) :
    exec .alarmHandoff s = answer ((s.handedOver h r).takeHandoff h) := by
  have hflag : (s.handedOver h r).flag Reg.ALM_CTRL 0 = true := (State.flag_congr (reg_handedOver s h r _) _).trans hon
  change execAlarmHandoff s = _
  unfold execAlarmHandoff
  rw [hq]
  exact congrArg answer (if_pos hflag)

theorem takeHandoff_stale {h : Handoff} {x : AlarmState} {k : Nat} (hx : s.alarm h.alarm = some x) (hkey : x.lastKey = some k) (hold : h.key < k) :
    s.takeHandoff h = s.bump Reg.ALM_CNT_STALE := by
  unfold State.takeHandoff
  rw [hx]
  dsimp only
  rw [hkey]
  exact if_pos (decide_eq_true hold)

/-- An accepted handoff that tells the alarm's present condition. -/
def State.handoffKept (s : State) (h : Handoff) : State := s.modAlarm h.alarm fun x => { x with lastKey := some h.key }

/-- An alarm with the condition that a handoff tells. -/
def AlarmState.told (x : AlarmState) (h : Handoff) (lag : Nat) : AlarmState :=
  { x with state := condState x.cfg.ackReq x.state h.active, cond := h.active, chg := x.chg + 1, lastGts := h.key, last := (h.a, h.b, h.q), lag := lag }

/-- An accepted handoff that tells another condition. -/
def State.handoffTaken (s : State) (h : Handoff) : State :=
  (s.handoffKept h).modAlarm h.alarm fun x => x.told h (((s.handoffKept h).now - h.key) / 1000)

theorem takeHandoff_accepted {h : Handoff} {x : AlarmState} (hx : s.alarm h.alarm = some x) (hfresh : ∀ k, x.lastKey = some k → k ≤ h.key) :
    s.takeHandoff h = if x.cond = h.active then s.handoffKept h else (s.handoffTaken h).alarmChanged h.alarm x.output 0 h.key h.closure := by
  unfold State.takeHandoff
  rw [hx]
  dsimp only
  cases hkey : x.lastKey with
  | none => rfl
  | some k => exact if_neg (by simpa using hfresh k hkey)

theorem exec_alarmHandoff_stale (h : Handoff) (r : List Handoff) (x : AlarmState) (k : Nat) (hon : s.flag Reg.ALM_CTRL 0 = true)
    (hq : s.alm.handoffs = h :: r) (hx : s.alarm h.alarm = some x) (hkey : x.lastKey = some k) (hold : h.key < k) :
    ∃ t, exec .alarmHandoff s = .next t ∧ t.alm = { s.alm with handoffs := r }
      ∧ t.reg Reg.ALM_CNT_STALE = satWord ((s.reg Reg.ALM_CNT_STALE).toNat + 1) := by
  rw [exec_alarmHandoff s h r hon hq]
  rw [takeHandoff_stale _ ((alarm_handedOver s h r _).trans hx) hkey hold]
  refine ⟨_, rfl, ?_, ?_⟩
  · rw [State.showHealth_alm, State.bump_alm, alm_handedOver]
  · rw [State.reg_showHealth_ne _ _ (by decide), State.reg_bump_same, reg_handedOver]

theorem exec_alarmHandoff_same (h : Handoff) (r : List Handoff) (x : AlarmState) (hon : s.flag Reg.ALM_CTRL 0 = true)
    (hq : s.alm.handoffs = h :: r) (hx : s.alarm h.alarm = some x) (hfresh : ∀ k, x.lastKey = some k → k ≤ h.key) (hcond : x.cond = h.active) :
    ∃ t, exec .alarmHandoff s = .next t ∧ t.alarm h.alarm = some { x with lastKey := some h.key } ∧ t.alm.handoffs = r
      ∧ t.alm.pins = s.alm.pins ∧ t.alm.pubs = s.alm.pubs ∧ t.evr = s.evr ∧ t.reg Reg.ALM_CNT_STALE = s.reg Reg.ALM_CNT_STALE := by
  rw [exec_alarmHandoff s h r hon hq]
  have hux := (alarm_handedOver s h r h.alarm).trans hx
  rw [takeHandoff_accepted _ hux hfresh, if_pos hcond]
  have halm := alm_handedOver s h r
  refine ⟨_, rfl, ?_, ?_, ?_, ?_, ?_, ?_⟩
  · exact (alarm_modAlarm_same _ _ _).trans (congrArg (Option.map _) hux)
  · exact (congrArg AlmState.handoffs halm :)
  · exact (congrArg AlmState.pins halm :)
  · exact (congrArg AlmState.pubs halm :)
  · exact handedOver_keeps s State.evr (fun _ _ => rfl) h r
  · exact (State.reg_showHealth_ne _ _ (by decide)).trans (reg_handedOver s h r _)

theorem exec_alarmHandoff_changed (h : Handoff) (r : List Handoff) (x : AlarmState) (hon : s.flag Reg.ALM_CTRL 0 = true)
    (hq : s.alm.handoffs = h :: r) (hx : s.alarm h.alarm = some x) (hfresh : ∀ k, x.lastKey = some k → k ≤ h.key) (hcond : x.cond ≠ h.active) :
    ∃ t y, exec .alarmHandoff s = .next t ∧ t.alarm h.alarm = some y ∧ y.cond = h.active ∧ y.lastKey = some h.key ∧ y.lastGts = h.key
      ∧ y.chg = x.chg + 1 ∧ y.state = condState x.cfg.ackReq x.state h.active ∧ t.alm.handoffs = r := by
  rw [exec_alarmHandoff s h r hon hq]
  have hux := (alarm_handedOver s h r h.alarm).trans hx
  have hr : (s.handedOver h r).alm.handoffs = r := congrArg AlmState.handoffs (alm_handedOver s h r)
  rw [takeHandoff_accepted _ hux hfresh, if_neg hcond]
  generalize s.handedOver h r = u at hux hr ⊢
  have hkept : (u.handoffKept h).alarm h.alarm = some { x with lastKey := some h.key } :=
    (alarm_modAlarm_same _ _ _).trans (congrArg (Option.map _) hux)
  have htaken (lag : Nat) : ((u.handoffKept h).modAlarm h.alarm fun x => x.told h lag).alarm h.alarm
      = some (({ x with lastKey := some h.key } : AlarmState).told h lag) :=
    (alarm_modAlarm_same _ _ _).trans (congrArg (Option.map _) hkept)
  have hfollows := FollowsAlarm.alarmChanged (u.handoffTaken h) h.alarm x.output 0 h.key h.closure
  refine ⟨_, _, rfl, (hfollows.alarm _).trans (htaken _), rfl, rfl, rfl, rfl, rfl, ?_⟩
  rw [State.showHealth_alm, hfollows.handoffs]
  exact hr

end

/-- Settles O31: what follows a change leaves the alarms and the handoffs, so the alarm is what taking the handoff made it. -/
theorem alarmHandoffOrder : Obligations.AlarmHandoffOrder :=
  ⟨exec_alarmHandoff_stale, exec_alarmHandoff_same, exec_alarmHandoff_changed⟩

end Sys2Proof.Machine
end

section
/-!
PROOFS of the statement on acknowledgements, pins, publications and commits of alarms (R290 to R293, R304).
-/
namespace Sys2Proof.Machine

/-! ### Acknowledgements (R290) -/

/-- An alarm whose acknowledgement is accepted at a time. -/
def AlarmState.acked (x : AlarmState) (at_ : Nat) : AlarmState := { x with state := ackState x.state, chg := x.chg + 1, lastGts := at_ }

section
variable (s : State) {a : Nat} {x : AlarmState}

theorem acceptAck_follows (cause source : Nat) (hx : s.alarm a = some x) :
    FollowsAlarm (s.modAlarm a fun x => x.acked s.now) (s.acceptAck a cause source) := by
  unfold State.acceptAck
  split
  case h_2 hnone => exact absurd (hnone.symm.trans hx) (by simp)
  extract_lets at_ acked changed told
  have htold : FollowsAlarm acked told := (FollowsAlarm.alarmChanged acked _ _ _ _ _).trans (.log changed _ _ _ (by decide))
  exact .ite (htold.trans (.mirror told _)) htold

theorem alarm_acceptAck_same (cause source : Nat) (hx : s.alarm a = some x) : (s.acceptAck a cause source).alarm a = some (x.acked s.now) :=
  ((acceptAck_follows s cause source hx).alarm a).trans ((alarm_modAlarm_same s a _).trans (congrArg (Option.map _) hx))

theorem acceptAck_of_none (cause source : Nat) (hx : s.alarm a = none) : s.acceptAck a cause source = s := by
  unfold State.acceptAck
  rw [hx]

theorem alarm_acceptAck_ne (cause source : Nat) {b : Nat} (hb : b ≠ a) : (s.acceptAck a cause source).alarm b = s.alarm b := by
  cases hx : s.alarm a with
  | none => rw [acceptAck_of_none s cause source hx]
  | some x => exact ((acceptAck_follows s cause source hx).alarm b).trans ((alarm_modAlarm s a b _).trans (if_neg hb))

theorem ackAlarm_accepted (source : Nat) (hx : s.alarm a = some x) (hun : x.unacked = true) :
    s.ackAlarm a x.chg source = (s.acceptAck a 1 source, true) := by
  unfold State.ackAlarm
  rw [hx]
  exact if_pos (by simp [hun])

theorem ackAlarm_refused (chg : Half) (source : Nat) (h : ∀ x, s.alarm a = some x → x.chg ≠ chg ∨ x.unacked = false) :
    s.ackAlarm a chg source = (s.bump Reg.ALM_CNT_ACK_REFUSED, false) := by
  unfold State.ackAlarm
  split
  next x hx => exact if_neg (by rcases h x hx with hchg | hun <;> simp [*])
  next => rfl

theorem exec_almAck_accepted (value : Word) (x : AlarmState) (hx : s.alarm (bitsOf value 11 0) = some x)
    (hchg : x.chg = BitVec.ofNat 16 (bitsOf value 31 16)) (hun : x.unacked = true) :
    ∃ t y, exec (.almAck value) s = .next t ∧ t.alarm (bitsOf value 11 0) = some y ∧ y.state = ackState x.state ∧ y.chg = x.chg + 1 ∧ y.cond = x.cond := by
  have hexec : exec (.almAck value) s = answer (s.acceptAck (bitsOf value 11 0) 1 1) :=
    congrArg answer ((congrArg (fun c => (s.ackAlarm (bitsOf value 11 0) c 1).1) hchg.symm).trans (congrArg Prod.fst (ackAlarm_accepted s 1 hx hun)))
  exact ⟨_, _, hexec, alarm_acceptAck_same s 1 1 hx, rfl, rfl, rfl⟩

theorem exec_almAck_refused (value : Word)
    (h : ∀ x, s.alarm (bitsOf value 11 0) = some x → x.chg ≠ BitVec.ofNat 16 (bitsOf value 31 16) ∨ x.unacked = false) :
    ∃ t, exec (.almAck value) s = .next t ∧ t.alm = s.alm ∧ t.evr = s.evr
      ∧ t.reg Reg.ALM_CNT_ACK_REFUSED = satWord ((s.reg Reg.ALM_CNT_ACK_REFUSED).toNat + 1) := by
  have hexec : exec (.almAck value) s = answer (s.bump Reg.ALM_CNT_ACK_REFUSED) := congrArg answer (congrArg Prod.fst (ackAlarm_refused s _ 1 h))
  refine ⟨_, hexec, ?_, ?_, ?_⟩
  · rw [State.showHealth_alm, State.bump_alm]
  · rw [State.showHealth_evr, State.bump_evr]
  · rw [State.reg_showHealth_ne _ _ (by decide), State.reg_bump_same]

/-- Acknowledging other alarms leaves an alarm. -/
theorem alarm_acceptAcks_ne {l : List (Nat × AlarmState)} (h : ∀ v ∈ l, v.1 ≠ a) :
    (l.foldl (fun (s : State) v => s.acceptAck v.1 1 1) s).alarm a = s.alarm a :=
  foldl_keeps_mem _ (fun t : State => t.alarm a) l (fun t v hv => alarm_acceptAck_ne t 1 1 (h v hv).symm) s

/-- Of the alarms acknowledged in a row, each once, an alarm that is there takes its acknowledgement. -/
theorem alarm_acceptAcks_mem {l : List (Nat × AlarmState)} (hnodup : (l.map fun v => v.1).Nodup) (hmem : (a, x) ∈ l) (hx : s.alarm a = some x) :
    ∃ at_, (l.foldl (fun (s : State) v => s.acceptAck v.1 1 1) s).alarm a = some (x.acked at_) := by
  obtain ⟨before, after, rfl⟩ := List.append_of_mem hmem
  rw [List.map_append, List.map_cons, List.nodup_append, List.nodup_cons] at hnodup
  obtain ⟨-, ⟨hafter, -⟩, hbefore⟩ := hnodup
  have hkept (v : Nat × AlarmState) (hv : v ∈ after) : v.1 ≠ a := fun h => hafter (List.mem_map.mpr ⟨v, hv, h⟩)
  rw [List.foldl_append, List.foldl_cons, alarm_acceptAcks_ne _ hkept]
  refine ⟨_, alarm_acceptAck_same _ 1 1 ((alarm_acceptAcks_ne s fun v hv h => ?_).trans hx)⟩
  exact hbefore _ (List.mem_map_of_mem hv) _ List.mem_cons_self h

theorem mem_of_kvGet {α : Type} {b : Nat} {y : α} : ∀ {l : List (Nat × α)}, kvGet l b = some y → (b, y) ∈ l
  | [], h => absurd h (by simp)
  | (c, z) :: l, h => by
    rw [kvGet] at h
    split at h
    · next hb => exact List.mem_cons.mpr (.inl (Prod.ext hb (Option.some.inj h).symm))
    · exact List.mem_cons_of_mem _ (mem_of_kvGet h)

theorem exec_almAckAll_unacked (value : Word) (a : Nat) (x : AlarmState) (hnodup : (s.alm.alarms.map fun v => v.1).Nodup) (hx : s.alarm a = some x)
    (hun : x.unacked = true) (hsev : value.getLsbD (x.cfg.sev % 4) = true) :
    ∃ t y, exec (.almAckAll value) s = .next t ∧ t.alarm a = some y ∧ y.state = ackState x.state ∧ y.chg = x.chg + 1 := by
  obtain ⟨at_, hacked⟩ := alarm_acceptAcks_mem (l := s.alm.alarms.filter fun v => v.2.unacked && value.getLsbD (v.2.cfg.sev % 4)) s
    (hnodup.sublist (List.filter_sublist.map _)) (List.mem_filter.mpr ⟨mem_of_kvGet hx, by simp [hun, hsev]⟩) hx
  exact ⟨_, _, rfl, hacked, rfl, rfl⟩

/-! ### Pins (R292) -/

/-- A pin that an alarm of its own keeps waiting for its inactive level. -/
def State.held (s : State) (pin : Nat) (h : Bool) : State :=
  ({ s with alm := { s.alm with pins := listMod s.alm.pins pin (fun p => { p with holding := h }) } } : State).showPins

theorem followPin_released {pin : Nat} (hown : (s.alm.pins.getD pin {}).byAlm = true) (hactive : (s.alm.pins.getD pin {}).active = true)
    (hwant : s.alm.alarms.any (fun x => x.2.cfg.pins.getLsbD pin && x.2.output) = false) :
    s.followPin pin = if s.elapsed < (s.alm.pins.getD pin {}).since + s.field (Reg.ALM_PIN_CTRL pin) 25 16 * 1000000 then s.held pin true
      else (s.held pin false).drivePin pin false := by
  unfold State.followPin
  extract_lets p want hold
  have hp : p.byAlm = true ∧ p.active = true := ⟨hown, hactive⟩
  have hw : want = false := hwant
  rw [if_neg (by simp [hp.1]), if_neg (by simp [hw]), if_neg (by simp [hp.2])]
  rfl

theorem getD_listMod {α : Type} (l : List α) (i : Nat) (f : α → α) (d : α) (h : i < l.length) : (listMod l i f).getD i d = f (l.getD i d) := by
  simp [listMod, h]

theorem mirrored_congr {t : State} (hstatus : t.reg Reg.TWN_STATUS = s.reg Reg.TWN_STATUS) (htwn : t.twn = s.twn) : t.mirrored = s.mirrored := by
  rw [State.mirrored, State.mirrored, State.flag_congr hstatus, role_congr _ hstatus, htwn]

theorem pins_held (pin : Nat) (h : Bool) : (s.held pin h).alm.pins = listMod s.alm.pins pin (fun p => { p with holding := h }) := rfl

/-- A pin that takes a level. -/
def PinState.takes (p : PinState) (active : Bool) (at_ : Nat) : PinState :=
  if p.active = active then p else { p with active := active, since := if active then at_ else p.since }

theorem pinState_takes (p : PinState) (active : Bool) (at_ : Nat) : (p.takes active at_).active = active ∧ (p.takes active at_).holding = p.holding := by
  unfold PinState.takes
  split
  · exact ⟨by assumption, rfl⟩
  · exact ⟨rfl, rfl⟩

theorem pins_pinLevel (pin : Nat) (active : Bool) :
    (s.pinLevel pin active).alm.pins = listMod s.alm.pins pin (fun p => p.takes active s.elapsed) := rfl

theorem exec_pinHoldExpire_over (pin : Nat) (hpin : pin < s.alm.pins.length) (hhold : (s.alm.pins.getD pin {}).holding = true)
    (hown : (s.alm.pins.getD pin {}).byAlm = true) (hactive : (s.alm.pins.getD pin {}).active = true)
    (hwant : s.alm.alarms.any (fun x => x.2.cfg.pins.getLsbD pin && x.2.output) = false)
    (hover : (s.alm.pins.getD pin {}).since + s.field (Reg.ALM_PIN_CTRL pin) 25 16 * 1000000 ≤ s.elapsed) (hmirror : s.mirrored = false) :
    ∃ t, exec (.pinHoldExpire pin) s = .next t ∧ (t.alm.pins.getD pin {}).active = false ∧ (t.alm.pins.getD pin {}).holding = false
      ∧ t.alm.alarms = s.alm.alarms := by
  have hmirrored : (s.held pin false).mirrored = false :=
    (mirrored_congr s (t := s.held pin false) (State.reg_setReg_ne _ _ _ _ (by decide)) rfl).trans hmirror
  have hfollow : s.followPin pin = (s.held pin false).pinLevel pin false := by
    rw [followPin_released s hown hactive hwant, if_neg (by omega)]
    exact if_neg (by simp [hmirrored])
  have hexec : exec (.pinHoldExpire pin) s = answer ((s.held pin false).pinLevel pin false) := congrArg answer ((if_pos hhold).trans hfollow)
  have hlen : pin < (s.held pin false).alm.pins.length := by rw [pins_held, listMod, List.length_modify]; exact hpin
  have hpins : ((s.held pin false).pinLevel pin false).alm.pins.getD pin {}
      = ({ s.alm.pins.getD pin {} with holding := false } : PinState).takes false (s.held pin false).elapsed := by
    rw [pins_pinLevel, getD_listMod _ _ _ _ hlen, pins_held, getD_listMod _ _ _ _ hpin]
  refine ⟨_, hexec, ?_, ?_, ?_⟩
  · rw [State.showHealth_alm, hpins]
    exact (pinState_takes _ _ _).1
  · rw [State.showHealth_alm, hpins]
    exact (pinState_takes _ _ _).2
  · rw [State.showHealth_alm]
    rfl

theorem exec_pinHoldExpire_early (pin : Nat) (hhold : (s.alm.pins.getD pin {}).holding = true)
    (hown : (s.alm.pins.getD pin {}).byAlm = true) (hactive : (s.alm.pins.getD pin {}).active = true)
    (hwant : s.alm.alarms.any (fun x => x.2.cfg.pins.getLsbD pin && x.2.output) = false)
    (hearly : s.elapsed < (s.alm.pins.getD pin {}).since + s.field (Reg.ALM_PIN_CTRL pin) 25 16 * 1000000) :
    ∃ t, exec (.pinHoldExpire pin) s = .next t ∧ (t.alm.pins.getD pin {}).active = true ∧ (t.alm.pins.getD pin {}).holding = true := by
  have hpin : pin < s.alm.pins.length := by
    by_contra hout
    rw [List.getD_eq_default _ _ (by omega)] at hhold
    exact absurd hhold (by decide)
  have hexec : exec (.pinHoldExpire pin) s = answer (s.held pin true) :=
    congrArg answer ((if_pos hhold).trans ((followPin_released s hown hactive hwant).trans (if_pos hearly)))
  refine ⟨_, hexec, ?_, ?_⟩
  · rw [State.showHealth_alm, pins_held, getD_listMod _ _ _ _ hpin]
    exact hactive
  · rw [State.showHealth_alm, pins_held, getD_listMod _ _ _ _ hpin]

/-! ### Publications (R293) -/

variable (alm : Bool) (p : Nat)

theorem pub_congr {t : State} (halm : t.alm = s.alm) (hcyc : t.cyc = s.cyc) : t.pub alm p = s.pub alm p := by
  rw [State.pub, State.pub, halm, hcyc]

/-- A change that keeps a publication's number changes that publication. -/
theorem pub_modPub (f : PubState → PubState) (hf : ∀ x, x.cfg.id = p → (f x).cfg.id = p) : (s.modPub alm p f).pub alm p = (s.pub alm p).map f := by
  have hfind (l : List PubState) : (l.map fun x => if x.cfg.id = p then f x else x).find? (fun x => x.cfg.id == p)
      = (l.find? fun x => x.cfg.id == p).map f := by
    have hid : ((fun x : PubState => x.cfg.id == p) ∘ fun x => if x.cfg.id = p then f x else x) = fun x => x.cfg.id == p := by
      funext x
      rw [Function.comp_apply]
      split
      · next h => rw [hf x h, h]
      · rfl
    rw [List.find?_map, hid]
    cases hx : l.find? (fun x => x.cfg.id == p) with
    | none => rfl
    | some x => rw [Option.map_some, Option.map_some, if_pos (by simpa using List.find?_some hx)]
  cases alm
  · exact hfind s.cyc.pubs
  · exact hfind s.alm.pubs

/-- An observation of what neither a frame, nor a signature, nor a mirror message, nor a log entry changes. -/
structure Unsent {α : Type} (f : State → α) : Prop where
  reg : ∀ (t : State) k v, f (t.setReg k v) = f t
  ports : ∀ (t : State) l, f { t with ports := l } = f t
  pairs : ∀ (t : State) l, f { t with pairs := l } = f t
  host : ∀ (t : State) m, f { t with hostMem := m } = f t
  hif : ∀ (t : State) x, f { t with hif := x } = f t
  twn : ∀ (t : State) x, f { t with twn := x } = f t
  sec : ∀ (t : State) x, f { t with sec := x } = f t
  log : ∀ (t : State) code sev p, f (t.log code sev p) = f t

theorem unsent_pub : Unsent fun t => t.pub alm p where
  reg _ _ _ := rfl
  ports _ _ := rfl
  pairs _ _ := rfl
  host _ _ := rfl
  hif _ _ := rfl
  twn _ _ := rfl
  sec _ _ := rfl
  log t _ _ _ := pub_congr t alm p (State.log_alm _ _ _ _) (State.log_cyc _ _ _ _)

section
variable {α : Type} {f : State → α} (hf : Unsent f)
include hf

theorem sendTo_keeps (d : TxDest) (cls len : Nat) (body : TxBody) : f (s.sendTo d cls len body) = f s := by
  have hdone (t : State) (q : Nat) (m : TxFrame) (err : Bool) : f (t.hostDone q m err) = f t := by
    unfold State.hostDone
    split
    · split
      · obtain ⟨_, _, h⟩ := State.ringInterrupt_only (t.writeHost _ (txWriteBack _ err)) q _ (t.reg _)
        rw [h, hf.hif]
        exact (hf.ports _ _).trans (hf.host _ _)
      · rfl
    · rfl
  have hport (t : State) (q : Nat) (m : TxFrame) : f (t.sendPort q m) = f t := by
    unfold State.sendPort
    split
    · exact hf.ports _ _
    · exact (hdone _ _ _ _).trans (hf.reg _ _ _)
  have hon (q : Nat) : f (s.sendOn q cls len body) = f s := by
    unfold State.sendOn
    dsimp only
    split
    · exact (hport _ _ _).trans ((hport _ _ _).trans (hf.pairs _ _))
    · exact hport _ _ _
  cases d with
  | port q => exact hon q
  | pair q => exact hon (2 * q)

theorem sendMirrored_keeps (m : MirrorPub) (d : TxDest) (cls len : Nat) (b : TxBody) : f (s.sendMirrored m d cls len b) = f s := by
  unfold State.sendMirrored
  split
  · rfl
  · split
    · exact (hf.twn _ _).trans (hf.twn _ _)
    · exact sendTo_keeps s hf _ _ _ _

theorem signPdu_keeps (slot alg : Nat) (data : List Byte) : f (s.signPdu slot alg data).1 = f s := by
  have hrefuse (t : State) (r : CaddyReq) (c : CaddyResult) : f (t.caddyRefuse r c) = f t := by
    unfold State.caddyRefuse
    split
    · exact hf.reg _ _ _
    · dsimp only
      split
      · exact hf.reg _ _ _
      · exact (hf.sec _ _).trans ((hf.log _ _ _ _).trans (hf.reg _ _ _))
  unfold State.signPdu State.caddyUse
  dsimp only
  split
  next hkey =>
    split at hkey
    · cases hkey
    · cases hkey
      exact hf.reg _ _ _
  next hkey =>
    split at hkey
    · cases hkey
      exact hrefuse s _ _
    · cases hkey

end

theorem drives_modPub (f : PubState → PubState) : (s.modPub alm p f).drives = s.drives := by cases alm <;> rfl

theorem elapsed_modPub (f : PubState → PubState) : (s.modPub alm p f).elapsed = s.elapsed := by cases alm <;> rfl

/-- A publication once it is sent: the SPDU number of R-GOOSE counts, the next message is due a spacing later. -/
def PubState.sent (x : PubState) (at_ : Nat) : PubState :=
  { x with spdu := if x.cfg.rgoose then x.spdu + 1 else x.spdu, nextAt := some (at_ + x.spacing), change := none }

theorem pub_sendPub {x : PubState} (hdrives : s.drives = true) (hx : s.pub alm p = some x) :
    (s.sendPub alm p).pub alm p = some (x.sent s.elapsed) := by
  unfold State.sendPub
  rw [if_neg (by simp [hdrives])]
  split
  case h_2 hnone => exact absurd (hnone.symm.trans hx) (by simp)
  next x' hx' =>
  obtain rfl := Option.some.inj (hx.symm.trans hx')
  extract_lets now sent
  have hsent : x.sent s.elapsed = { sent with change := none } := rfl
  have hid : sent.cfg.id = p := by simpa using List.find?_some hx
  rw [hsent]
  clear_value sent
  have hmod (t : State) (ht : t.pub alm p = s.pub alm p) :
      (t.modPub alm p fun _ => { sent with change := none }).pub alm p = some { sent with change := none } := by
    rw [pub_modPub t alm p (fun _ => { sent with change := none }) (fun _ _ => hid), ht, hx, Option.map_some]
  have hshown (u : State) : (if alm then u.showPub p sent else u).pub alm p = u.pub alm p := by cases alm <;> rfl
  have hsigned := signPdu_keeps s (unsent_pub alm p) x.cfg.slot x.cfg.alg (pduBytes sent.spdu (x.elems.map fun e => (e.1, rsvQuality e.2)))
  by_cases hrgoose : x.cfg.rgoose = true
  · rw [if_pos hrgoose]
    generalize s.signPdu x.cfg.slot x.cfg.alg (pduBytes sent.spdu (x.elems.map fun e => (e.1, rsvQuality e.2))) = pair at hsigned ⊢
    obtain ⟨t, signed⟩ := pair
    cases signed with
    | none => exact hmod t hsigned
    | some v => exact (sendMirrored_keeps _ (unsent_pub alm p) _ _ _ _ _).trans ((hshown _).trans (hmod t hsigned))
  · rw [if_neg hrgoose]
    exact (sendMirrored_keeps _ (unsent_pub alm p) _ _ _ _ _).trans ((hshown _).trans (hmod s rfl))

/-- A publication with new elements, of the time of their change. -/
def PubState.changedTo (x : PubState) (at_ : Nat) (elems : List (Word × Half)) : PubState :=
  { x with stNum := nextNum x.stNum, sqNum := 0, elems := elems, spacing := x.cfg.tMin * 1000000, tSince := at_ }

theorem pub_changePub {x : PubState} (at_ : Nat) (elems : List (Word × Half)) (hdrives : s.drives = true) (hx : s.pub alm p = some x) :
    (s.changePub alm p at_ elems).pub alm p = some ((x.changedTo at_ elems).sent s.elapsed) := by
  have hmod : (s.modPub alm p fun y => y.changedTo at_ elems).pub alm p = some (x.changedTo at_ elems) :=
    (pub_modPub s alm p (fun y => y.changedTo at_ elems) (fun _ h => h)).trans (congrArg (Option.map _) hx)
  have hsent : s.changePub alm p at_ elems = (s.modPub alm p fun y => y.changedTo at_ elems).sendPub alm p := if_neg (by simp [hdrives])
  rw [hsent, pub_sendPub _ alm p ((drives_modPub s alm p _).trans hdrives) hmod, elapsed_modPub]

theorem exec_alarmPubSend_changed (x : PubState) (hx : s.pub true p = some x) (hchange : x.change.isSome = true) (hdrives : s.drives = true) :
    ∃ t y, exec (.alarmPubSend p) s = .next t ∧ t.pub true p = some y ∧ y.stNum = nextNum x.stNum ∧ y.sqNum = 0 ∧ y.elems = s.alarmElems x
      ∧ y.change = none ∧ y.spacing = x.cfg.tMin * 1000000 ∧ y.nextAt = some (s.elapsed + x.cfg.tMin * 1000000) ∧ y.tSince = s.now := by
  have hexec : exec (.alarmPubSend p) s = answer (s.changePub true p s.now (s.alarmElems x)) := by
    change execAlarmPubSend p s = _
    unfold execAlarmPubSend
    rw [hx]
    exact congrArg answer (if_pos hchange)
  refine ⟨_, _, hexec, (pub_congr _ _ _ (State.showHealth_alm _) (State.showHealth_cyc _)).trans (pub_changePub s true p _ _ hdrives hx),
    rfl, rfl, rfl, rfl, rfl, rfl, rfl⟩

end

/-! ### Commits (R304) -/

section
variable (s : State)

theorem exec_almCommit_refused (n : Nat) (hn : n < 8) (hhold : 1000 < bitsOf (s.staged (Reg.ALM_PIN_CTRL n)) 25 16) :
    ∃ t, exec .almCommit s = .next t ∧ t.flag Reg.ALM_COMMIT_STAT 0 = true ∧ t.alm = s.alm ∧ t.shadow = s.shadow := by
  have hany : (List.range 8).any (fun n => decide (1000 < bitsOf (s.staged (Reg.ALM_PIN_CTRL n)) 25 16)) = true :=
    List.any_eq_true.mpr ⟨n, List.mem_range.mpr hn, decide_eq_true hhold⟩
  have hexec : exec .almCommit s = answer ((((s.useFree 1).setFlag Reg.ALM_COMMIT_STAT 0 true).setField Reg.ALM_COMMIT_STAT 27 16
      (s.freshWord.toNat % 4096)).log 0x0C04 1 (leBytes 2 (s.freshWord.toNat % 4096))) := congrArg answer (if_pos hany)
  refine ⟨_, hexec, ?_, ?_, ?_⟩
  · rw [State.flag_congr (State.reg_showHealth_ne _ _ (by decide)), State.flag_log _ _ _ _ _ _ (by decide) (by decide),
      State.flag_setField _ _ _ _ _ _ (by decide), if_neg (by decide)]
    exact State.flag_setFlag_same _ _ _ _ (by decide)
  · rw [State.showHealth_alm, State.log_alm]
    rfl
  · rw [State.showHealth_shadow, State.log_shadow]
    rfl

/-- The commit of an alarm's definition leaves the settings of the pins. -/
theorem reg_commitAlarm (a : Nat) {k : Nat} (hlo : 0xB00040 ≤ k) (hhi : k < 0xB00060) : (s.commitAlarm a).reg k = s.reg k := by
  have hack (t : State) (c q : Nat) : (t.acceptAck a c q).reg k = t.reg k := by
    cases hx : t.alarm a with
    | none => rw [acceptAck_of_none t c q hx]
    | some x => exact (acceptAck_follows t c q hx).reg k hlo hhi
  unfold State.commitAlarm
  split
  next x _ =>
    split
    next d _ =>
      extract_lets out staged now pinned moved
      have hmoved : FollowsAlarm staged moved := by
        refine .ite ?_ (.refl staged)
        have hpinned : FollowsAlarm staged pinned := .followPins staged _
        split
        · exact hpinned.trans (.notePub pinned _ _ _)
        · exact hpinned
      have hstaged : moved.reg k = s.reg k := hmoved.reg k hlo hhi
      split
      · exact (hack moved _ _).trans hstaged
      · exact hstaged
    · rfl
  · rfl

theorem exec_almCommit_taken (hhold : ∀ n, n < 8 → bitsOf (s.staged (Reg.ALM_PIN_CTRL n)) 25 16 ≤ 1000) :
    ∃ t, exec .almCommit s = .next t ∧ ∀ n, n < 8 → t.reg (Reg.ALM_PIN_CTRL n) = s.staged (Reg.ALM_PIN_CTRL n) := by
  have hany : ¬(List.range 8).any (fun n => decide (1000 < bitsOf (s.staged (Reg.ALM_PIN_CTRL n)) 25 16)) = true := by
    rw [List.any_eq_true]
    rintro ⟨n, hn, h⟩
    exact absurd (of_decide_eq_true h) (Nat.not_lt.mpr (hhold n (List.mem_range.mp hn)))
  refine ⟨_, congrArg answer (if_neg hany), fun n hn => ?_⟩
  have hlo : 0xB00040 ≤ Reg.ALM_PIN_CTRL n := by simp only [Reg.ALM_PIN_CTRL]; omega
  have hhi : Reg.ALM_PIN_CTRL n < 0xB00060 := by simp only [Reg.ALM_PIN_CTRL]; omega
  rw [State.reg_showHealth_of_block _ (by omega), (FollowsAlarm.showAlarms _).reg _ hlo hhi]
  refine (foldl_keeps _ (fun t : State => t.reg (Reg.ALM_PIN_CTRL n)) (fun t (x : Nat × AlarmState) => reg_commitAlarm t x.1 hlo hhi) _ _).trans ?_
  exact State.reg_commitRange s (by simp only [Reg.ALM_PIN_CTRL]; omega)

end

/-- Settles O32: an acknowledgement's consequences leave the alarms and the pins' settings, and a publication sent is the one that was changed. -/
theorem alarmAcknowledgement : Obligations.AlarmAcknowledgement :=
  ⟨exec_almAck_accepted, exec_almAck_refused, exec_almAckAll_unacked, exec_pinHoldExpire_over, exec_pinHoldExpire_early,
    exec_alarmPubSend_changed, exec_almCommit_refused, exec_almCommit_taken⟩

end Sys2Proof.Machine
end

section
/-!
PROOFS of the statement on short host commands (R342, R343, R346, R349): intake from Q0, and the commands that complete at once.
-/
namespace Sys2Proof.Machine

/-! ### What a completion leaves -/

section
variable (s : State)

/-- A command that ends with a short completion is answered as completed. -/
theorem completed_answered {u : State} (h : CmdHdr) (op status result : Nat) (hslot : u.hif.nextSlot = s.hif.nextSlot)
    (hslots : u.hif.slots = s.hif.slots) (htim : u.tim = s.tim) : Completed s (u.completeShort h op status result).showHealth h.tag op status :=
  (completed_completeShort h op status result (State.newHandle_congr hslot hslots) (State.now_of_tim htim)).congr
    (congrArg HifState.journal (State.showHealth_hif _))

theorem ops_completeShort (h : CmdHdr) (op status result : Nat) : (s.completeShort h op status result).hif.ops = s.hif.ops :=
  ((((KeepsOps.newHandle s).trans (.post _ _)).trans (.putJournal _ _)).trans (.freeHandle _ _)).ops

theorem alarm_completeShort (h : CmdHdr) (op status result a : Nat) : (s.completeShort h op status result).alarm a = s.alarm a :=
  congrArg (kvGet · a) (Concludes.completeShort s h op status result).alarms

theorem recState_completeShort (h : CmdHdr) (op status result : Nat) {r : Nat} (hr : r < 16) :
    (s.completeShort h op status result).recState r = s.recState r := by
  refine recState_congr s ((Concludes.completeShort s h op status result).reg (not_reportReg ?_ ?_ ?_ ?_ (by decide)))
  · exact not_mem_logRegs_recorder (by simp only [Reg.CAP_R_STATUS]; omega) (by simp only [Reg.CAP_R_STATUS]; omega)
      (by simp only [Reg.CAP_R_STATUS, Reg.CAP_CNT_EV_LOST]; omega)
  all_goals simp only [Reg.CAP_R_STATUS, Reg.HIF_STATUS]; omega

/-- A completion leaves the stored captures of a recorder. -/
theorem stored_completeShort (h : CmdHdr) (op status result : Nat) {r : Nat} {x : RecorderState} (hx : s.recorder r = some x) :
    ∃ y, (s.completeShort h op status result).recorder r = some y ∧ y.stored = x.stored := by
  obtain ⟨v, hv⟩ := Concludes.completeShort s h op status result
  obtain ⟨y, hy, hstill⟩ := Option.map_eq_some_iff.mp ((hv.recorder r).trans (congrArg (Option.map RecorderState.still) hx))
  exact ⟨y, hy, (congrArg RecorderState.stored hstill :)⟩

/-! ### The commands (R290, R315, R317, R346, R349) -/

theorem exec_nop (h : CmdHdr) : ∃ t, exec (.nop h) s = .next t ∧ Completed s t h.tag 0x0001 0x00 :=
  ⟨_, rfl, completed_answered s h 0x0001 0x00 0 rfl rfl rfl⟩

theorem length_bytes_journalEntry (e : JournalEntry) : e.bytes.length = 64 := by
  simp [JournalEntry.bytes, padTo, bytesAt]

theorem exec_journal_found (h : CmdHdr) (key : Word) (byTag twin : Bool) (e : JournalEntry) (hbuf : bufOk h = true) (hlen : 64 ≤ h.len)
    (htwin : twin = true → s.flag Reg.TWN_CTRL 0 = true) (he : findEntry (if twin then s.hif.mirror else s.hif.journal) key byTag = some e)
    (hmaster : s.hif.busMaster = true) :
    ∃ t, exec (.journal h key byTag twin) s = .next t ∧ Completed s t h.tag 0x0002 0x00
      ∧ ∀ a, t.hostByte a = if h.buf ≤ a ∧ a < h.buf + 64 then e.bytes.getD (a - h.buf) 0 else s.hostByte a := by
  have hexec : exec (.journal h key byTag twin) s = answer ((s.writeHost h.buf e.bytes).completeShort h 0x0002 0x00 e.disp.code) := by
    change execJournal h key byTag twin s = _
    unfold execJournal
    rw [if_neg (by simp [hbuf, hlen]), if_neg (by cases twin <;> simp_all), he]
    dsimp only
    rw [State.dma, if_pos hmaster]
  refine ⟨_, hexec, ?_, fun a => ?_⟩
  · exact completed_answered s h 0x0002 0x00 _ (congrArg HifState.nextSlot (s.writeHost_hif _ _)) (congrArg HifState.slots (s.writeHost_hif _ _))
      (s.writeHost_tim _ _)
  · have hmem := (Concludes.completeShort (s.writeHost h.buf e.bytes) h 0x0002 0x00 e.disp.code).hostMem
    rw [State.hostByte, State.showHealth_hostMem, hmem, ← State.hostByte, State.hostByte_writeHost, length_bytes_journalEntry]

theorem exec_cancel_running (h : CmdHdr) (target : Word) (e : JournalEntry) (o : LongOp) (he : s.journalOf target.toNat = some e)
    (ho : s.longOp target.toNat = some o) (hleft : o.step + 1 < o.total) :
    ∃ t, exec (.cancel h target) s = .next t ∧ Completed s t h.tag 0x0003 0x00
      ∧ t.hif.ops = s.hif.ops.map (fun x => if x.handle = o.handle then { x with cancelled := true } else x) := by
  have hexec : exec (.cancel h target) s
      = answer ((s.modOp o.handle fun x => { x with cancelled := true }).completeShort h 0x0003 0x00 0) := by
    change execCancel h target s = _
    unfold execCancel
    rw [he]
    dsimp only
    rw [ho]
    exact congrArg answer (if_neg (by simp; omega))
  refine ⟨_, hexec, ?_, ?_⟩
  · exact completed_answered s h 0x0003 0x00 _ rfl rfl rfl
  · rw [State.showHealth_hif, ops_completeShort]
    rfl

theorem exec_ack_accepted (h : CmdHdr) (alarm chg : Half) (x : AlarmState) (halarm : alarm.toNat < 4096) (hx : s.alarm alarm.toNat = some x)
    (hchg : x.chg = chg) (hun : x.unacked = true) :
    ∃ t y, exec (.ack h alarm chg) s = .next t ∧ Completed s t h.tag 0x0010 0x00 ∧ t.alarm alarm.toNat = some y ∧ y.state = ackState x.state := by
  subst hchg
  have hexec : exec (.ack h alarm x.chg) s = answer ((s.acceptAck alarm.toNat 1 2).completeShort h 0x0010 0x00 0) := by
    change execAck h alarm x.chg s = _
    unfold execAck
    rw [if_neg (by omega), ackAlarm_accepted s 2 hx hun]
    rfl
  have hfollows := acceptAck_follows s 1 2 hx
  refine ⟨_, x.acked s.now, hexec, ?_, ?_, rfl⟩
  · exact completed_answered s h 0x0010 0x00 _ (congrArg (fun v : State => v.hif.nextSlot) hfollows.still :)
      (congrArg (fun v : State => v.hif.slots) hfollows.still :) hfollows.tim
  · exact (congrArg (fun v : AlmState => kvGet v.alarms alarm.toNat) (State.showHealth_alm _)).trans
      ((alarm_completeShort _ _ _ _ _ _).trans (alarm_acceptAck_same s 1 2 hx))

theorem exec_arm_idle (h : CmdHdr) {r : Nat} (hr : r < 16) (hon : s.capOn r = true) (hidle : s.recState r = 0) :
    ∃ t, exec (.arm h r) s = .next t ∧ Completed s t h.tag 0x0020 0x00 ∧ t.recState r = 1 := by
  have hexec : exec (.arm h r) s = answer ((s.armRec r).completeShort h 0x0020 0x00 0) := by
    change execArm h r s = _
    unfold execArm
    rw [if_neg (by omega), if_pos (by simp [hon, hidle])]
  refine ⟨_, hexec, ?_, ?_⟩
  · exact completed_answered s h 0x0020 0x00 _ rfl rfl rfl
  · rw [recState_showHealth _ hr, recState_completeShort _ _ _ _ _ hr, recState_armRec]

theorem exec_release_stored (h : CmdHdr) (r n : Nat) (x : RecorderState) (c : Capture) (hx : s.recorder r = some x)
    (hc : x.stored.find? (fun c => c.num == n && !c.free) = some c) (hexp : c.exporting = false) :
    ∃ t y, exec (.release h r n) s = .next t ∧ Completed s t h.tag 0x0023 0x00 ∧ t.recorder r = some y
      ∧ y.stored = purge (x.stored.map (fun (c : Capture) => if c.num = n then { c with free := true } else c)) := by
  obtain ⟨hok, hrecords, y, hy, hstored⟩ := releaseCapture_of_stored s n x c hx hc hexp
  have hexec : exec (.release h r n) s = answer ((s.releaseCapture r n).1.completeShort h 0x0023 0x00 0) :=
    congrArg (fun st => answer ((s.releaseCapture r n).1.completeShort h 0x0023 st 0)) hok
  obtain ⟨z, hz, hkept⟩ := stored_completeShort _ h 0x0023 0x00 0 hy
  refine ⟨_, z, hexec, ?_, (recorder_congr _ rfl).trans hz, hkept.trans hstored⟩
  exact completed_answered s h 0x0023 0x00 _ (congrArg (fun v : State => v.hif.nextSlot) hrecords.still :)
    (congrArg (fun v : State => v.hif.slots) hrecords.still :) (congrArg State.tim hrecords.still :)

/-! ### Intake (R342, R343) -/

/-- Q0 once its oldest packet is taken. -/
def State.taken (n : Nat) : State := s.setQueue 0 (QueueState.take (s.qDepth 0) (n + 1) (s.queue 0))

theorem exec_commandTake (content : BufContent) (p : Packet) (r : List Packet) (hrd : (s.queue 0).rdPtr = (s.queue 0).rdCopy)
    (hwr : (s.queue 0).wrPtr = (s.queue 0).wrCopy) (hp : (s.queue 0).packets = p :: r) (hwait : s.hif.q1Wait = []) (hroom : 9 ≤ s.qFree 1) :
    ∃ u, exec (.commandTake content) s = answer (State.pushWake u 0)
      ∧ (p.kind ≠ 1 ∨ p.words.length ≠ 16 → u = (s.taken p.words.length).bump Reg.HIF_CNT_CMD_BAD)
      ∧ (p.kind = 1 → p.words.length = 16 → ∀ c, parseCommand ((p.words.map fun w => leBytes 4 w.toNat).flatten) content = some c →
        u = ((s.taken 16).bump Reg.HIF_CNT_CMD).runCommand c) := by
  change ∃ u, execCommandTake content s = _ ∧ _
  unfold execCommandTake
  rw [qCheck_of_agree s 0 hrd hwr]
  extract_lets t x
  split
  next hnone => exact absurd (hnone.symm.trans hp) (by simp)
  next q tail hq =>
  obtain ⟨rfl, -⟩ := List.cons.inj (hq.symm.trans hp)
  have hready : t.hif.q1Wait = [] ∧ 9 ≤ t.qFree 1 := ⟨hwait, hroom⟩
  rw [if_neg (by simpa using hready)]
  refine ⟨_, rfl, fun hbad => ?_, fun hkind hlen c hc => ?_⟩
  · exact if_pos (by simpa using hbad)
  · refine (if_neg (by simp [hkind, hlen])).trans ?_
    dsimp only
    rw [hc, hlen]
    rfl

variable (content : BufContent) (p : Packet) (r : List Packet) (hrd : (s.queue 0).rdPtr = (s.queue 0).rdCopy)
  (hwr : (s.queue 0).wrPtr = (s.queue 0).wrCopy) (hp : (s.queue 0).packets = p :: r)
include hrd hwr hp

theorem exec_commandTake_parsed (c : Instr) (hwait : s.hif.q1Wait = []) (hroom : 9 ≤ s.qFree 1) (hkind : p.kind = 1) (hlen : p.words.length = 16)
    (hc : parseCommand ((p.words.map (fun w => leBytes 4 w.toNat)).flatten) content = some c) :
    exec (.commandTake content) s = answer ((((s.taken 16).bump Reg.HIF_CNT_CMD).runCommand c).pushWake 0) := by
  obtain ⟨u, hexec, -, hrun⟩ := exec_commandTake s content p r hrd hwr hp hwait hroom
  rw [hexec, hrun hkind hlen c hc]

theorem exec_commandTake_nop (h : CmdHdr) (hwait : s.hif.q1Wait = []) (hroom : 9 ≤ s.qFree 1) (hkind : p.kind = 1) (hlen : p.words.length = 16)
    (hc : parseCommand ((p.words.map (fun w => leBytes 4 w.toNat)).flatten) content = some (.nop h)) :
    ∃ t, exec (.commandTake content) s = .next t ∧ Completed s t h.tag 0x0001 0x00 ∧ t.reg Reg.HIF_CNT_CMD = satWord ((s.reg Reg.HIF_CNT_CMD).toNat + 1)
      ∧ t.reg Reg.HIF_CNT_CMD_BAD = s.reg Reg.HIF_CNT_CMD_BAD := by
  let counted := (s.taken 16).bump Reg.HIF_CNT_CMD
  let done := (counted.completeShort h 0x0001 0x00 0).showHealth
  have hwake : Reports 0 done (done.pushWake 0) := .pushWake done 0
  have hreg {a : Nat} (hlo : 0xE00008 ≤ a) (hhi : a < 0xE01000) : (done.pushWake 0).showHealth.reg a = counted.reg a := by
    rw [State.reg_showHealth_of_block _ (by omega), hwake.reg a (not_reportReg_hif hlo hhi (by decide)), State.reg_showHealth_of_block _ (by omega),
      (Concludes.completeShort counted h _ _ _).reg (not_reportReg_hif hlo hhi (by decide))]
  refine ⟨_, exec_commandTake_parsed s content p r hrd hwr hp _ hwait hroom hkind hlen hc, ?_, ?_, ?_⟩
  · refine (completed_answered s (u := counted) h 0x0001 0x00 0 rfl rfl rfl).congr ?_
    exact (congrArg HifState.journal (State.showHealth_hif _)).trans hwake.journal
  · exact (hreg (by decide) (by decide)).trans (State.reg_bump_same _ _)
  · exact (hreg (by decide) (by decide)).trans (State.reg_bump_ne _ _ _ (by decide))

theorem exec_commandTake_bad (hwait : s.hif.q1Wait = []) (hroom : 9 ≤ s.qFree 1) (hbad : p.kind ≠ 1 ∨ p.words.length ≠ 16) :
    ∃ t, exec (.commandTake content) s = .next t ∧ t.hif.journal = s.hif.journal
      ∧ t.reg Reg.HIF_CNT_CMD_BAD = satWord ((s.reg Reg.HIF_CNT_CMD_BAD).toNat + 1) ∧ t.reg Reg.HIF_CNT_CMD = s.reg Reg.HIF_CNT_CMD := by
  obtain ⟨u, hexec, hu, -⟩ := exec_commandTake s content p r hrd hwr hp hwait hroom
  have hwake : Reports 0 u (u.pushWake 0) := .pushWake u 0
  have hreg {a : Nat} (hlo : 0xE00008 ≤ a) (hhi : a < 0xE01000) : (u.pushWake 0).showHealth.reg a = u.reg a := by
    rw [State.reg_showHealth_of_block _ (by omega), hwake.reg a (not_reportReg_hif hlo hhi (by decide))]
  refine ⟨_, hexec, ?_, ?_, ?_⟩
  · rw [State.showHealth_hif, hwake.journal, hu hbad]
    rfl
  · rw [hreg (by decide) (by decide), hu hbad, State.reg_bump_same]
    rfl
  · rw [hreg (by decide) (by decide), hu hbad, State.reg_bump_ne _ _ _ (by decide)]
    rfl

end

/-- Settles O37: a short command's effect leaves the books of handles and the time, so its completion is the one the state before foretells. -/
theorem hostCommands : Obligations.HostCommands :=
  ⟨fun s content p r c hrd hwr hp hwait hroom hkind hlen hc => exec_commandTake_parsed s content p r hrd hwr hp c hwait hroom hkind hlen hc,
    fun s content p r h hrd hwr hp => exec_commandTake_nop s content p r hrd hwr hp h,
    fun s content p r hrd hwr hp _ => exec_commandTake_bad s content p r hrd hwr hp,
    exec_nop, exec_journal_found, exec_cancel_running, exec_ack_accepted,
    fun s h _ _ hr _ => exec_arm_idle s h hr, fun s h r n x c _ => exec_release_stored s h r n x c⟩

end Sys2Proof.Machine
end

section
/-!
PROOFS of the statement on cyclic control (R262 to R264, R271 to R273, R280, R282): cycles, write points, peer values, exchanges and publications.
-/
namespace Sys2Proof.Machine

/-! ### Tasks -/

section
variable (s : State) {k : Nat}

theorem task_congr {t : State} (h : t.cyc.tasks = s.cyc.tasks) : t.task k = s.task k := congrArg (·.getD k {}) h

theorem task_modTask_same (f : TaskState → TaskState) (hk : k < s.cyc.tasks.length) : (s.modTask k f).task k = f (s.task k) :=
  getD_listMod _ _ _ _ hk

theorem length_tasks_modTask (n : Nat) (f : TaskState → TaskState) : (s.modTask n f).cyc.tasks.length = s.cyc.tasks.length :=
  List.length_modify ..

theorem task_showHealth : s.showHealth.task k = s.task k := task_congr s (congrArg CycState.tasks (State.showHealth_cyc s))

theorem task_log (code sev : Nat) (p : List Byte) : (s.log code sev p).task k = s.task k :=
  task_congr s (congrArg CycState.tasks (State.log_cyc s code sev p))

theorem reg_showCyc_ne {a : Nat} (ha : a ≠ Reg.CYC_STATUS) : s.showCyc.reg a = s.reg a := by
  unfold State.showCyc
  extract_lets run stop shown marked settled
  rw [State.reg_setFlag_ne _ _ _ _ _ ha, State.reg_setFlag_ne _ _ _ _ _ ha, State.reg_setField_ne _ _ _ _ _ _ ha, State.reg_setFlag_ne _ _ _ _ _ ha,
    State.reg_setFlag_ne _ _ _ _ _ ha, State.reg_setField_ne _ _ _ _ _ _ ha]

/-- Moving the next start moves a task's offset with it, and nothing more of the task. -/
theorem task_align (hk : k < s.cyc.tasks.length) : ∃ o n, (s.align k).task k = { s.task k with offset := o, nextStart := n } := by
  unfold State.align
  extract_lets x p m o moved
  exact ⟨o, _, task_modTask_same s _ hk⟩

theorem length_tasks_align : (s.align k).cyc.tasks.length = s.cyc.tasks.length := length_tasks_modTask s k _

theorem reg_align {a : Nat} (hoffset : a ≠ Reg.CYC_T_OFFSET k) (hstatus : a ≠ Reg.CYC_STATUS) : (s.align k).reg a = s.reg a := by
  unfold State.align
  extract_lets x p m o moved
  exact (reg_showCyc_ne _ hstatus).trans (State.reg_setReg_ne moved _ _ _ hoffset)

end

/-- The tasks stay as they are, and so do their periods. -/
structure KeepsTasks (s t : State) : Prop where
  tasks : t.cyc.tasks = s.cyc.tasks
  period : ∀ k, k < 4 → t.reg (Reg.CYC_T_PERIOD k) = s.reg (Reg.CYC_T_PERIOD k)

namespace KeepsTasks

variable {s t u : State}

theorem refl (s : State) : KeepsTasks s s := ⟨rfl, fun _ _ => rfl⟩

theorem trans (h : KeepsTasks s t) (k : KeepsTasks t u) : KeepsTasks s u :=
  ⟨k.tasks.trans h.tasks, fun n hn => (k.period n hn).trans (h.period n hn)⟩

theorem foldl {β : Type} (f : State → β → State) (h : ∀ s b, KeepsTasks s (f s b)) (l : List β) (s : State) : KeepsTasks s (l.foldl f s) := by
  induction l generalizing s with
  | nil => exact refl s
  | cons b r ih => exact (h s b).trans (ih _)

theorem ite {c : Prop} [Decidable c] (ht : KeepsTasks s t) (hu : KeepsTasks s u) : KeepsTasks s (if c then t else u) := by
  split
  · exact ht
  · exact hu

theorem setReg (s : State) {a : Nat} (v : Word) (h : a < 0xA01000 ∨ 0xA03000 ≤ a) : KeepsTasks s (s.setReg a v) :=
  ⟨rfl, fun n hn => s.reg_setReg_ne a _ v (by simp only [Reg.CYC_T_PERIOD]; omega)⟩

theorem setFlag (s : State) {a : Nat} (n : Nat) (b : Bool) (h : a < 0xA01000 ∨ 0xA03000 ≤ a) : KeepsTasks s (s.setFlag a n b) := setReg s _ h

theorem setField (s : State) {a : Nat} (hi lo v : Nat) (h : a < 0xA01000 ∨ 0xA03000 ≤ a) : KeepsTasks s (s.setField a hi lo v) := setReg s _ h

theorem bump (s : State) {a : Nat} (h : a < 0xA01000 ∨ 0xA03000 ≤ a) : KeepsTasks s (s.bump a) := setReg s _ h

theorem withCyc (s : State) (x : CycState) (h : x.tasks = s.cyc.tasks) : KeepsTasks s { s with cyc := x } := ⟨h, fun _ _ => rfl⟩

theorem of_reports {q : Nat} (hq : q < 128) (h : Reports q s t) : KeepsTasks s t :=
  ⟨congrArg CycState.tasks h.cyc, fun n hn => h.reg _ (not_reportReg_of_block (by simp only [Reg.CYC_T_PERIOD]; omega) hq)⟩

theorem log (s : State) (code sev : Nat) (p : List Byte) (h : sev ≤ 4) : KeepsTasks s (s.log code sev p) :=
  of_reports (q := 0) (by decide) (.log s code sev p h)

/-! #### Destinations (R276, R277) -/

theorem sendPeer (s : State) (output dest : Nat) (o : OutEntry) (w : Nat) : KeepsTasks s (s.sendPeer output dest o w) := by
  unfold State.sendPeer
  split
  · refine ⟨(congrArg (fun x : State => x.cyc.tasks) (Reports.still_hgwSend s _ _ _) :), fun n hn => ?_⟩
    exact State.reg_hgwSend s _ _ _ _ (by simp only [Reg.CYC_T_PERIOD, Reg.HGW_CNT_LOST]; omega)
  · exact refl s

theorem releaseHeld (s : State) (d : Nat) : KeepsTasks s (s.releaseHeld d) := by
  unfold State.releaseHeld
  extract_lets mine rest _ dropped
  have hdropped : KeepsTasks s dropped := withCyc s _ rfl
  refine hdropped.trans (foldl _ (fun t h => ?_) _ _)
  split
  · exact (sendPeer t _ _ _ _).trans (withCyc _ _ rfl)
  · exact refl t

theorem showDest (s : State) (d : Nat) : KeepsTasks s (s.showDest d) := by
  unfold State.showDest
  split
  · exact setReg s _ (.inr (by simp only [Reg.CYC_DST_STATUS]; omega))
  · exact refl s

theorem updateDest (s : State) (d : Nat) : KeepsTasks s (s.updateDest d) := by
  unfold State.updateDest
  split
  · extract_lets live t _ changed shown body
    have hchanged : KeepsTasks s changed := withCyc s _ rfl
    have hshown : KeepsTasks s shown := hchanged.trans (showDest changed d)
    exact ite (refl s) (ite ((hshown.trans (log shown _ _ _ (by decide))).trans (releaseHeld _ d))
      ((hshown.trans (bump shown (.inr (by simp only [Reg.CYC_DST_CNT_LOST]; omega)))).trans (log _ _ _ _ (by decide))))
  · exact refl s

theorem updateDests (s : State) : KeepsTasks s s.updateDests := ite (foldl _ updateDest _ s) (refl s)

/-! #### Commits and the freeze (R269, R282) -/

theorem showParam (s : State) : KeepsTasks s s.showParam := setReg s _ (.inl (by decide))

theorem commitTask (s : State) (n : Nat) : KeepsTasks s (s.commitTask n) := by
  unfold State.commitTask
  refine ite (refl s) ?_
  extract_lets cleared mine b committed _
  have hcleared : KeepsTasks s cleared := setFlag s _ _ (.inl (by decide))
  have hcommitted : KeepsTasks cleared committed :=
    ⟨rfl, fun k _ => (State.reg_commitReg cleared _ _).trans (if_neg (by simp only [Reg.CYC_T_PERIOD, Reg.CYC_T_BUDGET]; omega))⟩
  split
  · extract_lets cause refused params
    have hrefused : KeepsTasks cleared refused := (setFlag cleared _ _ (.inl (by decide))).trans (setField _ _ _ _ (.inl (by decide)))
    exact hcleared.trans (ite (hrefused.trans (log refused _ _ _ (by decide))) ((hcommitted.trans (withCyc committed _ (by exact rfl))).trans (showParam _)))
  · exact hcleared

theorem showImage (s : State) : KeepsTasks s s.showImage := by
  unfold State.showImage
  extract_lets i b
  refine ⟨foldl_keeps (fun (u : State) k => u.setReg (Reg.CYC_IMG_ENTRY k) _) (fun u : State => u.cyc.tasks) (fun _ _ => rfl) _ s, fun n hn => ?_⟩
  refine foldl_keeps_mem (fun (u : State) k => u.setReg (Reg.CYC_IMG_ENTRY k) _) (fun u : State => u.reg (Reg.CYC_T_PERIOD n)) _ (fun u k hk => ?_) s
  have := List.mem_range.mp hk
  exact State.reg_setReg_ne _ _ _ _ (by simp only [Reg.CYC_T_PERIOD, Reg.CYC_IMG_ENTRY]; omega)

theorem freeze (s : State) (n at_ : Nat) : KeepsTasks s (s.freeze n at_) := by
  unfold State.freeze
  split
  · extract_lets es vals seen own
    exact (withCyc s _ (by exact rfl)).trans (showImage _)
  · exact refl s

end KeepsTasks

end Sys2Proof.Machine
end

section
/-!
PROOFS of the statement on cyclic control (R262 to R264, R271 to R273, R280, R282): each command's clauses.
-/
namespace Sys2Proof.Machine

section
variable (s : State)

/-! ### Cycle starts (R262 to R264) -/

theorem reg_modTask (k : Nat) (f : TaskState → TaskState) (a : Nat) : (s.modTask k f).reg a = s.reg a := rfl

theorem exec_cycleStart_skipped (k : Nat) (hk : k < 4) (hlen : k < s.cyc.tasks.length) (hon : s.taskOn k = true) (hgo : (s.task k).stopped = false)
    (hdue : (s.task k).nextStart ≤ s.now) (hwait : (s.task k).waitingW = false) (hrun : (s.task k).running = true) :
    ∃ t, exec (.cycleStart k) s = .next t ∧ (t.task k).skips = (s.task k).skips + 1 ∧ (t.task k).running = true
      ∧ t.reg (Reg.CYC_T_CNT_SKIP k) = satWord ((s.reg (Reg.CYC_T_CNT_SKIP k)).toNat + 1) := by
  obtain ⟨o, n, halign⟩ := task_align s hlen
  change ∃ t, execCycleStart k s = _ ∧ _
  unfold execCycleStart
  extract_lets x skipped
  rw [if_neg (by simp [x, hon, hgo, hwait, hdue]), if_pos hrun]
  have htask : skipped.task k = { s.task k with offset := o, nextStart := n, skips := (s.task k).skips + 1 } := by
    rw [task_modTask_same (s.align k) _ (by rwa [length_tasks_align]), halign]
  have hskipped (a : Nat) : skipped.reg a = (s.align k).reg a := reg_modTask _ _ _ _
  have hshown (p : List Byte) : ((skipped.bump (Reg.CYC_T_CNT_SKIP k)).log 0x0B02 2 p).showHealth.task k = skipped.task k :=
    (task_showHealth _).trans ((task_log _ _ _ _).trans (task_congr skipped (congrArg CycState.tasks (State.bump_cyc _ _))))
  clear_value skipped
  refine ⟨_, rfl, ?_, ?_, ?_⟩
  · rw [hshown, htask]
  · rw [hshown, htask]
    exact hrun
  · have hblock : Reg.CYC_T_CNT_SKIP k / 0x100000 = 10 := by simp only [Reg.CYC_T_CNT_SKIP]; omega
    rw [State.reg_showHealth_of_block _ (by omega), State.reg_log _ _ _ _ _ (by decide) (not_mem_logRegs_of_block (by omega)), State.reg_bump_same, hskipped]
    exact congrArg (fun w : Word => satWord (w.toNat + 1)) (reg_align s (by simp only [Reg.CYC_T_CNT_SKIP, Reg.CYC_T_OFFSET]; omega)
      (by simp only [Reg.CYC_T_CNT_SKIP, Reg.CYC_STATUS]; omega))

theorem exec_cycleStart_run (k : Nat) (hk : k < 4) (hlen : k < s.cyc.tasks.length) (hon : s.taskOn k = true) (hgo : (s.task k).stopped = false)
    (hdue : (s.task k).nextStart ≤ s.now) (hwait : (s.task k).waitingW = false) (hrun : (s.task k).running = false) :
    ∃ t, exec (.cycleStart k) s = .next t ∧ (t.task k).running = true ∧ (t.task k).start = (s.task k).nextStart
      ∧ (t.task k).dt = s.period k / 1000 * (1 + (s.task k).skips) ∧ (t.task k).skips = 0 := by
  change ∃ t, execCycleStart k s = _ ∧ _
  unfold execCycleStart
  extract_lets x skipped at_ _ begun committed started frozen w now el dt run
  rw [if_neg (by simp [x, hon, hgo, hwait, hdue]), if_neg (by simp [x, hrun])]
  have hbegun : KeepsTasks s begun := .ite (.withCyc s _ (by exact rfl)) (.refl s)
  have hcommitted : KeepsTasks s committed.updateDests :=
    (hbegun.trans (.commitTask begun k)).trans (.updateDests committed)
  have hlength : k < committed.updateDests.cyc.tasks.length := by rwa [hcommitted.tasks]
  have hstarted : started.task k = { s.task k with start := at_, prevStart := (s.task k).start } :=
    (task_modTask_same _ _ hlength).trans (congrArg (fun y : TaskState => { y with start := at_, prevStart := y.start }) (task_congr s hcommitted.tasks))
  have hfrozen : KeepsTasks started frozen := .freeze started k at_
  have hfrozenLen : k < frozen.cyc.tasks.length := by rw [hfrozen.tasks, length_tasks_modTask]; exact hlength
  have hrunTask : run.task k = _ := task_modTask_same frozen _ hfrozenLen
  have hperiod : frozen.period k = s.period k := by
    rw [State.period, State.period, hfrozen.period k hk]
    exact congrArg (fun v : Word => v.toNat * 1000) (hcommitted.period k hk)
  obtain ⟨o, n, halign⟩ := task_align run (k := k) (by rw [length_tasks_modTask]; exact hfrozenLen)
  refine ⟨_, rfl, ?_, ?_, ?_, ?_⟩
  · rw [task_showHealth, halign, hrunTask]
  · rw [task_showHealth, halign, hrunTask]
    exact (congrArg TaskState.start ((task_congr started hfrozen.tasks).trans hstarted) :)
  · rw [task_showHealth, halign, hrunTask]
    exact congrArg (fun v => v / 1000 * (1 + (s.task k).skips)) hperiod
  · rw [task_showHealth, halign, hrunTask]

/-! ### Logic and write points (R263, R271) -/

theorem exec_logicComplete_early (k : Nat) (a : ProgArea) (hk : k < 4) (hlen : k < s.cyc.tasks.length) (hrun : (s.task k).running = true)
    (ha : s.cyc.run = some a) (hlate : (s.task k).late = false) (hearly : s.elapsed ≤ (s.task k).wAt) :
    ∃ t, exec (.logicComplete k) s = .next t ∧ (t.task k).running = false ∧ (t.task k).waitingW = true
      ∧ (t.task k).cycles = (s.task k).cycles + 1 ∧ t.reg (Reg.CYC_T_CYCLE k) = Word.ofNat ((s.task k).cycles + 1)
      ∧ t.cyc.run = some (runCalls a s.cyc.inputs (s.task k).dt k).area := by
  change ∃ t, execLogicComplete k s = _ ∧ _
  unfold execLogicComplete
  extract_lets x ns cycle late _
  have hearlyW : ¬late = true := by simp [late, x, hlate, hearly]
  split
  case h_2 hnot => exact absurd ha (hnot a hrun)
  next b _ hb =>
  obtain rfl := Option.some.inj (hb.symm.trans ha)
  extract_lets r w loaded measured moved shown
  rw [if_neg hearlyW]
  have hmeasured : measured.cyc.tasks = s.cyc.tasks := (congrArg CycState.tasks ((State.maxReg_cyc _ _ _).trans (State.setReg_cyc loaded _ _)) :)
  have hmoved : moved.task k = { s.task k with running := false, waitingW := !late, cycles := (s.task k).cycles + 1, written := w } :=
    (task_modTask_same measured _ (by rwa [hmeasured])).trans (congrArg
      (fun y : TaskState => { y with running := false, waitingW := !late, cycles := y.cycles + 1, written := w }) (task_congr s hmeasured))
  have hlength : k < moved.cyc.tasks.length := by rw [length_tasks_modTask, hmeasured]; exact hlen
  have hshown : shown.cyc = moved.cyc := (State.setReg_cyc _ _ _).trans (State.setReg_cyc moved _ _)
  have hended : (shown.modTask k fun y => { y with overrun := false }).task k
      = { s.task k with running := false, waitingW := !late, cycles := (s.task k).cycles + 1, written := w, overrun := false } :=
    (task_modTask_same shown _ (by rwa [hshown])).trans
      (congrArg (fun y : TaskState => { y with overrun := false }) ((task_congr moved (congrArg CycState.tasks hshown)).trans hmoved))
  refine ⟨_, rfl, ?_, ?_, ?_, ?_, ?_⟩
  · rw [task_showHealth, hended]
  · rw [task_showHealth, hended]
    exact Bool.not_eq_true' _ |>.mpr (Bool.eq_false_iff.mpr hearlyW)
  · rw [task_showHealth, hended]
  · rw [State.reg_showHealth_of_block _ (by simp only [Reg.CYC_T_CYCLE]; omega), reg_modTask]
    exact (State.reg_setReg_ne _ _ _ _ (by simp only [Reg.CYC_T_CYCLE, Reg.CYC_PARAM_VAL]; omega)).trans (State.reg_setReg_same _ _ _)
  · rw [State.showHealth_cyc]
    have hrunArea : measured.cyc.run = some r.area := (congrArg CycState.run ((State.maxReg_cyc _ _ _).trans (State.setReg_cyc loaded _ _)) :)
    exact (congrArg CycState.run hshown).trans hrunArea

theorem exec_writePoint_late (k : Nat) (hlen : k < s.cyc.tasks.length) (hrun : (s.task k).running = true) (hw : (s.task k).wAt ≤ s.elapsed) :
    ∃ t, exec (.writePoint k) s = .next t ∧ (t.task k).late = true ∧ t.cyc.outputs = s.cyc.outputs := by
  have hexec : exec (.writePoint k) s = answer (s.modTask k fun y => { y with late := true }) :=
    congrArg answer ((if_neg (Nat.not_lt.mpr hw)).trans (if_pos hrun))
  refine ⟨_, hexec, ?_, ?_⟩
  · rw [task_showHealth, task_modTask_same s _ hlen]
  · rw [State.showHealth_cyc]
    rfl

theorem exec_writePoint_waiting (k : Nat) (hrun : (s.task k).running = false) (hwait : (s.task k).waitingW = true) (hw : (s.task k).wAt ≤ s.elapsed) :
    ∃ t, exec (.writePoint k) s = .next t
      ∧ t = ((s.applyOutputs k (s.task k).prevW false).modTask k (fun y => { y with waitingW := false })).showHealth ∧ (t.task k).waitingW = false := by
  have hexec : exec (.writePoint k) s = answer ((s.applyOutputs k (s.task k).prevW false).modTask k fun y => { y with waitingW := false }) :=
    congrArg answer ((if_neg (Nat.not_lt.mpr hw)).trans ((if_neg (by simp [hrun])).trans (if_pos hwait)))
  refine ⟨_, hexec, rfl, ?_⟩
  rw [task_showHealth]
  generalize s.applyOutputs k (s.task k).prevW false = u
  by_cases hlen : k < u.cyc.tasks.length
  · rw [task_modTask_same u _ hlen]
  · rw [State.task, List.getD_eq_default _ _ (by rw [length_tasks_modTask]; omega)]

/-! ### Peer values (R273) -/

theorem le_foldl_max {n : Nat} : ∀ (l : List Nat) (m : Nat), n ≤ m ∨ n ∈ l → n ≤ l.foldl max m
  | [], _, h => h.resolve_right List.not_mem_nil
  | a :: l, m, h => by
    refine le_foldl_max l (max m a) ?_
    rcases h with h | h
    · exact .inl (le_max_of_le_left h)
    · rcases List.mem_cons.mp h with rfl | h
      · exact .inl (le_max_right _ _)
      · exact .inr h

theorem exec_peerValueRx_old (v : PeerRx) (p : PeerVal) (hp : p ∈ s.cyc.peers) (hwriter : p.writer = v.writer) (hold : v.startGts < p.startGts) :
    ∃ t, exec (.peerValueRx v) s = .next t ∧ t.cyc = s.cyc := by
  have hle : p.startGts ≤ ((s.cyc.peers.filter (fun p => p.writer == v.writer)).map fun p => p.startGts).foldl max 0 := by
    exact le_foldl_max _ _ (.inr (List.mem_map_of_mem (List.mem_filter.mpr ⟨hp, by simpa using hwriter⟩)))
  have hrefused : s.acceptPeer v = s := by
    unfold State.acceptPeer
    extract_lets mine newest same ok
    have hold : v.startGts < newest := lt_of_lt_of_le hold hle
    exact if_neg (by simp [ok, hold])
  exact ⟨_, congrArg answer hrefused, State.showHealth_cyc s⟩

theorem exec_peerValueRx_first (v : PeerRx) (hnew : ∀ p, p ∈ s.cyc.peers → p.writer ≠ v.writer) :
    ∃ t, exec (.peerValueRx v) s = .next t ∧ t.cyc.peers = s.cyc.peers ++
      [{ writer := v.writer, output := v.output, a := v.a, b := v.b, q := v.q, startGts := v.startGts, cycle := v.cycle, gts := v.gts }] := by
  have hmine : s.cyc.peers.filter (fun p => p.writer == v.writer) = [] := List.filter_eq_nil_iff.mpr fun p hp => by simp [hnew p hp]
  have hkept : s.cyc.peers.filter (fun x => !(x.writer == v.writer && x.output == v.output)) = s.cyc.peers :=
    List.filter_eq_self.mpr fun p hp => by simp [hnew p hp]
  refine ⟨_, rfl, ?_⟩
  rw [State.showHealth_cyc]
  unfold State.acceptPeer
  rw [hmine]
  exact congrArg (· ++ [_]) hkept

/-! ### Exchanges (R280) -/

theorem exec_exchangeTimeout_over (h acc : Nat) (hexch : s.cyc.exch = some (h, acc)) (hover : acc + 60000000000 ≤ s.elapsed) :
    ∃ t, exec .exchangeTimeout s = .next t ∧ t.cyc.exch = none ∧ t.cyc.run = s.cyc.run ∧ t.cyc.standby = s.cyc.standby := by
  change ∃ t, execExchangeTimeout s = _ ∧ _
  unfold execExchangeTimeout
  rw [hexch]
  dsimp only
  rw [if_pos hover]
  have hdone (n : Nat) (p : List Byte) (u : State) : ((u.log 0x0B07 1 p).finishOp n 9 0).cyc = u.cyc :=
    (Concludes.finishOp _ n 9 0).cyc.trans (State.log_cyc u _ _ _)
  refine ⟨_, rfl, ?_, ?_, ?_⟩
  all_goals
    rw [State.showHealth_cyc, hdone]
    rfl

/-- What sees neither a publication nor what is sent does not see a publication sent. -/
theorem sendPub_keeps {α : Type} {f : State → α} (hf : Unsent f) (hmod : ∀ (t : State) a p g, f (t.modPub a p g) = f t) (alm : Bool) (p : Nat) :
    f (s.sendPub alm p) = f s := by
  have hshown (u : State) (y : PubState) : f (if alm then u.showPub p y else u) = f u := by
    cases alm
    · rfl
    · exact (hf.reg _ _ _).trans ((hf.reg _ _ _).trans (hf.reg _ _ _))
  unfold State.sendPub
  split
  · rfl
  split
  case h_2 => rfl
  next x _ =>
  extract_lets now sent
  clear_value sent
  have hsigned := signPdu_keeps s hf x.cfg.slot x.cfg.alg (pduBytes sent.spdu (x.elems.map fun e => (e.1, rsvQuality e.2)))
  by_cases hrgoose : x.cfg.rgoose = true
  · rw [if_pos hrgoose]
    generalize s.signPdu x.cfg.slot x.cfg.alg (pduBytes sent.spdu (x.elems.map fun e => (e.1, rsvQuality e.2))) = pair at hsigned ⊢
    obtain ⟨t, signed⟩ := pair
    cases signed with
    | none => exact (hmod t _ _ _).trans hsigned
    | some v => exact (sendMirrored_keeps _ hf _ _ _ _ _).trans ((hshown _ _).trans ((hmod t _ _ _).trans hsigned))
  · rw [if_neg hrgoose]
    exact (sendMirrored_keeps _ hf _ _ _ _ _).trans ((hshown _ _).trans (hmod s _ _ _))

/-- The programs of the cyclic engine, and the exchange it is asked for. -/
def State.programs (s : State) : Option ProgArea × Option ProgArea × Bool × Option (Nat × Nat) :=
  (s.cyc.run, s.cyc.standby, s.cyc.standbyRan, s.cyc.exch)

theorem unsent_programs : Unsent State.programs where
  reg _ _ _ := rfl
  ports _ _ := rfl
  pairs _ _ := rfl
  host _ _ := rfl
  hif _ _ := rfl
  twn _ _ := rfl
  sec _ _ := rfl
  log t code sev p := (congrArg (fun x : CycState => (x.run, x.standby, x.standbyRan, x.exch)) (State.log_cyc t code sev p) :)

theorem programs_sendPub (alm : Bool) (p : Nat) : (s.sendPub alm p).programs = s.programs :=
  sendPub_keeps s unsent_programs (fun t a p g => by cases a <;> rfl) alm p

theorem programs_showCyc : s.showCyc.programs = s.programs := by
  have hreg := unsent_programs.reg
  unfold State.showCyc
  extract_lets run stop shown marked settled
  exact (hreg settled _ _).trans ((hreg marked _ _).trans (((hreg _ _ _).trans (hreg shown _ _)).trans ((hreg _ _ _).trans (hreg s _ _))))

theorem programs_exchange (old new : ProgArea) :
    (s.exchange old new).programs = (some (carryOver old new), some old, true, none) := by
  unfold State.exchange
  extract_lets p dropped x area pubs isNew release outs loaded _ begun shown sent
  split
  next matched retyped fresh gone _ =>
  extract_lets timed counted switched told retold
  have hbegun : begun.programs = (some (carryOver old new), some old, true, none) := rfl
  have hshown : shown.programs = begun.programs := by
    refine foldl_keeps (fun (u : State) d => u.showDest d) State.programs (fun u d => ?_) _ begun
    unfold State.showDest
    split <;> rfl
  have hsent : sent.programs = shown.programs :=
    foldl_keeps (fun (u : State) (c : PubRec) => u.sendPub false c.id) State.programs (fun u c => programs_sendPub u false c.id) isNew shown
  have hreg := unsent_programs.reg
  have hswitched : switched.programs = sent.programs :=
    ((hreg _ _ _).trans (hreg counted _ _)).trans (((hreg _ _ _).trans (hreg timed _ _)).trans ((hreg _ _ _).trans ((hreg _ _ _).trans (hreg sent _ _))))
  have hretold : retold.programs = switched.programs := by
    refine (foldl_keeps _ State.programs (fun u v => ?_) _ told).trans (unsent_programs.log switched _ _ _)
    split
    · exact unsent_programs.log u _ _ _
    · rfl
  exact (hreg _ _ _).trans ((programs_showCyc retold).trans (hretold.trans (hswitched.trans (hsent.trans (hshown.trans hbegun)))))

theorem exec_exchangeInstant_due (h acc : Nat) (old new : ProgArea) (hexch : s.cyc.exch = some (h, acc)) (hold : s.cyc.run = some old)
    (hnew : s.cyc.standby = some new) (hboundary : s.now % 1000000000 < 1000) (hwaited : acc + 100000000 ≤ s.elapsed)
    (hidle : (List.range 4).all (fun k => (s.task k).offset == 0 && !(s.task k).running && !(s.task k).waitingW) = true) :
    ∃ t, exec .exchangeInstant s = .next t ∧ t = ((s.exchange old new).finishOp h 0 0).showHealth ∧ t.cyc.exch = none
      ∧ t.cyc.run = some (carryOver old new) ∧ t.cyc.standby = some old ∧ t.cyc.standbyRan = true := by
  have hexec : exec .exchangeInstant s = answer ((s.exchange old new).finishOp h 0 0) := by
    change execExchangeInstant s = _
    unfold execExchangeInstant
    rw [hexch, hold, hnew]
    exact congrArg answer (if_pos (by simp only [hboundary, hwaited, hidle, decide_true, Bool.and_self]))
  have hcyc : ((s.exchange old new).finishOp h 0 0).showHealth.programs = (some (carryOver old new), some old, true, none) :=
    ((congrArg (fun x : CycState => (x.run, x.standby, x.standbyRan, x.exch))
      ((State.showHealth_cyc _).trans (Concludes.finishOp (s.exchange old new) h 0 0).cyc) :)).trans (programs_exchange s old new)
  simp only [State.programs, Prod.mk.injEq] at hcyc
  obtain ⟨hrun, hstandby, hran, hnone⟩ := hcyc
  exact ⟨_, hexec, rfl, hnone, hrun, hstandby, hran⟩

/-! ### Publications and commits (R272, R282) -/

/-- A publication sent once more. -/
def PubState.again (x : PubState) : PubState := { x with sqNum := nextNum x.sqNum, spacing := min (x.cfg.tMax * 1000000) (2 * x.spacing) }

theorem exec_pubRetransmit_due (alm : Bool) (p at_ : Nat) (x : PubState) (hx : s.pub alm p = some x) (hat : x.nextAt = some at_) (hdue : at_ ≤ s.elapsed)
    (hdrives : s.drives = true) : ∃ t y, exec (.pubRetransmit alm p) s = .next t
      ∧ t = ((s.modPub alm p (fun x => { x with
          sqNum := nextNum x.sqNum, spacing := min (x.cfg.tMax * 1000000) (2 * x.spacing) })).sendPub alm p).showHealth
      ∧ t.pub alm p = some y ∧ y.stNum = x.stNum ∧ y.sqNum = nextNum x.sqNum ∧ y.elems = x.elems
      ∧ y.spacing = min (x.cfg.tMax * 1000000) (2 * x.spacing) ∧ y.nextAt = some (s.elapsed + min (x.cfg.tMax * 1000000) (2 * x.spacing)) := by
  have hexec : exec (.pubRetransmit alm p) s = answer ((s.modPub alm p PubState.again).sendPub alm p) := by
    change execPubRetransmit alm p s = _
    unfold execPubRetransmit
    rw [hx]
    dsimp only
    rw [hat]
    exact congrArg answer (if_pos (by simp [hdrives, hdue]))
  have hmod : (s.modPub alm p PubState.again).pub alm p = some x.again := (pub_modPub s alm p PubState.again fun _ h => h).trans (congrArg (Option.map _) hx)
  refine ⟨_, x.again.sent s.elapsed, hexec, rfl, ?_, rfl, rfl, rfl, rfl, rfl⟩
  rw [pub_congr _ _ _ (State.showHealth_alm _) (State.showHealth_cyc _), pub_sendPub _ alm p ((drives_modPub s alm p _).trans hdrives) hmod, elapsed_modPub]

theorem flag_requests (mask : Word) {k : Nat} (hk : k < 32) (l : List Nat) : ∀ s : State,
    (l.foldl (fun (s : State) n => if mask.getLsbD n then s.setFlag Reg.CYC_COMMIT n true else s) s).flag Reg.CYC_COMMIT k
      = (s.flag Reg.CYC_COMMIT k || (decide (k ∈ l) && mask.getLsbD k)) := by
  induction l with
  | nil => simp
  | cons n l ih =>
    intro s
    rw [List.foldl_cons, ih]
    by_cases hn : mask.getLsbD n = true
    · rw [if_pos hn]
      by_cases hkn : k = n
      · subst hkn
        rw [State.flag_setFlag_same _ _ _ _ hk]
        simp [hn]
      · rw [State.flag_setFlag_ne _ _ _ _ _ hk hkn]
        simp [hkn]
    · rw [if_neg hn]
      by_cases hkn : k = n
      · subst hkn
        simp [hn]
      · simp [hkn]

theorem exec_cycCommit (mask : Word) : ∃ t, exec (.cycCommit mask) s = .next t ∧ t.cyc = s.cyc
    ∧ ∀ k, k < 4 → t.flag Reg.CYC_COMMIT k = (s.flag Reg.CYC_COMMIT k || mask.getLsbD k) := by
  refine ⟨_, rfl, ?_, fun k hk => ?_⟩
  · rw [State.showHealth_cyc]
    refine foldl_keeps _ State.cyc (fun (t : State) n => ?_) _ s
    split <;> rfl
  · rw [State.flag_congr (State.reg_showHealth_ne _ _ (by decide)), flag_requests mask (by omega), decide_eq_true (List.mem_range.mpr hk), Bool.true_and]

end

/-- Settles O30: what a start, an alignment or a commit does beside the task leaves the tasks and their periods, and sending leaves the programs. -/
theorem cyclicControl : Obligations.CyclicControl :=
  ⟨exec_cycleStart_skipped, exec_cycleStart_run, exec_logicComplete_early, exec_writePoint_late, exec_writePoint_waiting, exec_peerValueRx_old,
    exec_peerValueRx_first, exec_exchangeInstant_due, exec_exchangeTimeout_over, exec_pubRetransmit_due, exec_cycCommit⟩

end Sys2Proof.Machine
end
